-- ==== Sys2Proof/Word.lean ====
section
/-! DEFINITION. The plain value types of the model: status codes (R22, R23), sparse tables of like things,
record layouts as lists of bit fields, the Etpex time word (R14) and whole-number helpers. -/

namespace Sys2Proof

/-- A sparse table of like things, sorted by index; an index that is not listed holds the value that the
reader of the table names (its reset value). -/
abbrev Tab (α : Type) := List (Nat × α)

/-- A record as the spec lays one out: its fields from bit 0 upward, each with its width in bits and its value
(reserved fields stand as zeros of their width). Little-endian (R10). -/
abbrev Rec := List (Nat × Int)

/-- The status codes of a completion (R22). -/
inductive Status where
  | ok | arg | state | perm | busy | conflict | ver | abandoned | frozen
  deriving DecidableEq, Repr, Inhabited

/-- The value of the status byte (R22). -/
def Status.code : Status → Nat
  | .ok => 0 | .arg => 1 | .state => 2 | .perm => 3 | .busy => 4 | .conflict => 5 | .ver => 6
  | .abandoned => 7 | .frozen => 8

/-- The place of a code in the order of R23: the code of the lowest rank is returned. -/
def Status.rank : Status → Nat
  | .frozen => 0 | .perm => 1 | .ver => 2 | .state => 3 | .arg => 4 | .conflict => 5 | .busy => 6
  | .abandoned => 7 | .ok => 8

/-- Timescale tags of the Etpex time word (R14, R55). -/
inductive Scale where
  | tai | utc | gps | loc
  deriving DecidableEq, Repr, Inhabited

/-- The TAG field of a timescale (R14). -/
def Scale.tag : Scale → Nat
  | .tai => 0 | .utc => 1 | .gps => 2 | .loc => 3

/-- The Etpex time word (R14): 48-bit seconds, 30-bit nanoseconds, 20-bit fraction, timescale. -/
structure Etw where
  sec : Nat := 0
  ns : Nat := 0
  frac : Nat := 0
  scale : Scale := .tai
  deriving DecidableEq, Repr, Inhabited

end Sys2Proof
end

