-- ==== Sys2Proof/Syntax.lean ====
section
/-! DEFINITION. The commands of the block: one constructor of Instr per row of the opcode table, with the row's
operands, and the operand records they carry. -/

namespace Sys2Proof

/-- The header of a command entry (R455) as the host presents it on one of its four command queues. -/
structure CmdHdr where
  /-- Issuing function = bezel 0-63. -/
  fn : Nat
  /-- Command queue 0-3. -/
  queue : Nat
  tag : Nat := 0
  fence : Bool := false
  xaddr : Nat := 0
  xlen : Nat := 0
  plen : Nat := 0
  /-- Every reserved field of the entry, and every payload byte no field names, is zero. -/
  zeros : Bool := true
  /-- The change came over a pair lane from the partner that accepted it, with the instant of the acceptance, and not from the host (R433). -/
  lane : Option (Nat × Nat × Nat) := none
  deriving DecidableEq, Repr, Inhabited

/-- A command entry as COMMAND_FETCH reads it: header fields and OPCODE (R455). -/
structure CmdEntry where
  opcode : Nat
  hdr : CmdHdr
  deriving DecidableEq, Repr, Inhabited

/-- What `fw.load_image` reads (R506): the manifest with its signature, octet by octet, the MP, TP and LP images, and whether the signature
verifies. -/
structure FwBlob where
  manifest : List Nat := []
  images : List (List Nat) := []
  sigOk : Bool := true
  deriving DecidableEq, Repr, Inhabited

/-- What the firmware image presented to `fw.load_image` holds and how its checks come out (R505-R507). -/
structure FwImage where
  sigOk : Bool := true
  hashesOk : Bool := true
  product : Nat := 0x9256
  hwList : List Nat := []
  setVersion : Nat := 0
  svn : Nat := 0
  buildWeek : Nat := 0
  comp : List Nat := []
  deriving DecidableEq, Repr, Inhabited

/-- Payload of `ref.set_pps` (R477). -/
structure PpsArgs where
  input : Nat
  enable : Bool := false
  falling : Bool := false
  w : Nat := 0
  cable : Int := 0
  u : Nat := 0
  todSec : Nat := 0
  deriving DecidableEq, Repr, Inhabited

/-- Payload of `ref.set_clock` (R477). -/
structure ClockArgs where
  input : Nat
  enable : Nat := 0
  fN : Nat := 0
  stampRate : Nat := 0
  wF : Nat := 0
  deriving DecidableEq, Repr, Inhabited

/-- Payload of `ref.set_timecode` (R477). -/
structure TimecodeArgs where
  input : Nat
  kind : Nat := 0
  format : Nat := 0
  scale : Nat := 0
  ieee1344 : Bool := false
  previous : Bool := false
  deriving DecidableEq, Repr, Inhabited

/-- Payload of `ref.set_pendant` (R477). -/
structure PendantArgs where
  pend : Nat
  freq : Nat := 0xFF
  baud : Nat := 0xFF
  steer : Nat := 0
  g : Int := 0
  m : Nat := 0
  cmin : Nat := 0
  cmax : Nat := 0
  smax : Nat := 0
  pfxBits : Nat := 0
  spiMode : Nat := 0
  sck : Nat := 0
  pfx : Nat := 0
  healthTimeout : Nat := 0
  stampRate : Nat := 0
  deriving DecidableEq, Repr, Inhabited

/-- Payload of `ref.set_nref` (R477). -/
structure NrefArgs where
  nref : Nat
  enable : Nat := 0
  port : Nat := 0
  profile : Nat := 0
  domain : Nat := 0
  delay : Nat := 0
  auth : Nat := 0
  key : Nat := 0
  spp : Nat := 0
  addrKind : Nat := 0
  address : Nat := 0
  accept : Nat := 0
  loss : Nat := 0
  syncLog : Int := 0
  delayLog : Int := 0
  annLog : Int := 0
  /-- NTS server name read from the extended buffer when AUTH is 2. -/
  server : List (BitVec 8) := []
  deriving DecidableEq, Repr, Inhabited

/-- Payload of `gnss.set_stream` (R478). -/
structure StreamArgs where
  stream : Nat
  enable : Nat := 0
  sense : Nat := 0
  cko : Nat := 0
  fs : Nat := 0
  ifHz : Int := 0
  deriving DecidableEq, Repr, Inhabited

/-- Payload of `gnss.set_survey` (R478). -/
structure SurveyArgs where
  ant : Nat
  seed : Nat := 0
  duration : Nat := 0
  x : Int := 0
  y : Int := 0
  z : Int := 0
  deriving DecidableEq, Repr, Inhabited

/-- A position covariance, mm^2 (R131, R133). -/
structure Cov3 where
  xx : Rat := 0
  yy : Rat := 0
  zz : Rat := 0
  xy : Rat := 0
  xz : Rat := 0
  yz : Rat := 0
  deriving DecidableEq, Repr, Inhabited

/-- The survey record that `gnss.load_survey` reads (R131, R478). -/
structure SurveyRec where
  x : Int := 0
  y : Int := 0
  z : Int := 0
  cov : Cov3 := {}
  date : Nat := 0
  /-- The hardware the record names as its maker is this hardware. -/
  sameHw : Bool := true
  deriving DecidableEq, Repr, Inhabited

/-- An ETW as a payload spells it (R14, R15): the raw fields, TAG and the 24 low bits among them. -/
structure EtwArg where
  sec : Nat := 0
  ns : Nat := 0
  frac : Nat := 0
  tag : Nat := 0
  low : Nat := 0
  deriving DecidableEq, Repr, Inhabited

/-- Payload of `gnss.set_spoof` (R478). -/
structure SpoofArgs where
  action : Nat
  powerTh : Nat := 0
  baselineValid : Nat := 0
  east : Int := 0
  north : Int := 0
  up : Int := 0
  deriving DecidableEq, Repr, Inhabited

/-- One entry of the leap-second table that `ens.set_leap_table` reads (R57, R479). -/
structure LeapEntry where
  tEff : Nat
  offset : Int
  deriving DecidableEq, Repr, Inhabited

/-- One scheduled change of the local offset (R62, R479). -/
structure LocalChange where
  sec : Nat
  offset : Int
  deriving DecidableEq, Repr, Inhabited

/-- Payload of `ens.set_acquire` (R479). -/
structure AcquireArgs where
  acqGrade : Nat
  holdGrade : Nat
  autoSet : Nat := 0
  lockOffset : Nat
  holdLimit : Nat
  stepThreshold : Nat
  deriving DecidableEq, Repr, Inhabited

/-- The fields of a Hallmark record (R71). MAC is the first 64 bits of the tag. -/
structure HallRec where
  bound : Nat := 0xFFFFFFFF
  point : Nat := 0xFFFF
  src : Nat := 7
  state : Nat := 0
  pair : Bool := false
  transient : Bool := false
  leap61 : Bool := false
  leap59 : Bool := false
  gen : Nat := 0
  seq : Nat := 0
  issueSec : Nat := 0
  issueSub : Nat := 0
  holdAge : Nat := 0
  chain : Nat := 0
  mac : Nat := 0
  deriving DecidableEq, Repr, Inhabited

/-- Payload of `out.set_output` (R480). -/
structure OutputArgs where
  kind : Nat
  index : Nat
  enable : Nat := 0
  loop : Nat := 0
  offset : Int := 0
  align : Nat := 0
  mode : Nat := 0
  polarity : Nat := 0
  scale : Nat := 0
  d : Nat := 0
  rate : Nat := 0
  width : Nat := 0
  irig : Nat := 0
  ieee1344 : Nat := 0
  deriving DecidableEq, Repr, Inhabited

/-- Payload of `fil.set_diff` (R480). -/
structure DiffArgs where
  de : Nat
  enable : Nat := 0
  chA : Nat := 0
  chB : Nat := 0
  edgeA : Nat := 0
  edgeB : Nat := 0
  o : Int := 0
  w : Nat := 0
  gate : Nat := 0
  deriving DecidableEq, Repr, Inhabited

/-- Payload of `fil.set_stream` (R480). -/
structure FilStreamArgs where
  ch : Nat
  n : Nat := 0
  vector : Nat := 2
  base : Nat := 0
  writeback : Nat := 0
  deriving DecidableEq, Repr, Inhabited

/-- The tap fields that `la.set_tap` and `la.set_vtap` share (R480). -/
structure TapArgs where
  enable : Nat := 0
  nominal : Nat := 0
  cls : Nat := 0
  uTap : Nat := 0
  rTh : Nat := 0
  aMin : Nat := 0
  hold : Nat := 0
  rLim : Nat := 0
  reportRate : Nat := 0
  deriving DecidableEq, Repr, Inhabited

/-- Extended buffer of `la.set_vtap` (R480). -/
structure VtapArgs where
  vtap : Nat
  port : Nat := 0
  dest : Nat := 0
  appid : Nat := 0
  noAsdu : Nat := 0
  smpSynch : Nat := 2
  dataLen : Nat := 0
  valueOff : Nat := 0
  qualityOff : Nat := 0
  sps : Nat := 0
  lPub : Nat := 500
  tap : TapArgs := {}
  svid : List (BitVec 8) := []
  deriving DecidableEq, Repr, Inhabited

/-- Payload of `la.set_event` (R480). -/
structure EventArgs where
  slot : Nat
  tap : Nat := 0
  action : Nat := 0
  policy : Nat := 0
  angle : Nat := 0
  target : Nat := 0
  rept : Nat := 0
  window : Nat := 0
  start : Nat := 0
  expiry : Nat := 0
  deriving DecidableEq, Repr, Inhabited

/-- Extended buffer of `svc.set_service` (R481). -/
structure ServiceArgs where
  service : Nat := 0xFFFF
  op : Nat
  profile : Nat := 0
  domain : Nat := 0
  transport : Nat := 0
  cls : Nat := 0
  serve : Nat := 0
  auth : Nat := 0
  required : Nat := 0
  key : Nat := 0
  spp : Nat := 0
  stepMode : Nat := 1
  hallmark : Nat := 0
  priority1 : Nat := 128
  priority2 : Nat := 128
  signalErr : Nat := 0
  variance : Nat := 0
  hallmarkEf : Nat := 0
  maxGrant : Nat := 0
  holdSpec : Nat := 0
  identity : Nat := 0
  sdoId : Nat := 0
  syncLog : Int := 0
  annLog : Int := 0
  drespLog : Int := 0
  sealedGrants : Nat := 0
  ports : List Nat := []
  deriving DecidableEq, Repr, Inhabited

/-- Payload of `key.generate` (R482). -/
structure GenKeyArgs where
  parent : Nat
  alg : Nat
  expireAtReset : Bool := false
  usage : Nat := 0
  useLimit : Nat := 0
  expiry : Nat := 0
  label : Nat := 0
  deriving DecidableEq, Repr, Inhabited

/-- A wrapped key blob as the Locket reads it (R358), with the outcome of its SIV under the wrapping key: the fields of the
requested attribute block that an import can name. -/
structure KeyBlob where
  version : Nat := 1
  wrap : Nat := 1
  /-- the SIV verifies -/
  sivOk : Bool := true
  len : Nat := 16
  usage : Nat := 0
  alg : Nat := 1
  expireAtReset : Bool := false
  owner : Nat := 0
  parent : Nat := 0
  useLimit : Nat := 0
  expiry : Nat := 0
  label : Nat := 0
  /-- the ciphertext's plaintext, as a number; no command returns it (R337) -/
  material : Nat := 0
  deriving DecidableEq, Repr, Inhabited

/-- Payload of `tm.set_meter` (R484). -/
structure MeterArgs where
  kind : Nat
  mode : Nat := 0
  unit : Nat := 0
  index : Nat := 0
  cir : Nat := 0
  pir : Nat := 0
  cbs : Nat := 0
  ebs : Nat := 0
  deriving DecidableEq, Repr, Inhabited

/-- A clock watched by a clock monitor other than MOSC (R493, R494). -/
inductive ClockInput where
  | cki (n : Nat) | pend (n : Nat) | gnss (stream : Nat)
  deriving DecidableEq, Repr, Inhabited

/-- What a broadcast or a time code indicates of UTC (R61, R95, R96): TAI - UTC, the announcements it makes (LEAP61, LEAP59), and a coming leap by its
TAI second and the offset after it. -/
structure LeapInd where
  offset : Option Int := none
  leap61 : Bool := false
  leap59 : Bool := false
  coming : Option (Nat × Int) := none
  deriving DecidableEq, Repr, Inhabited

/-- The control functions of the IEEE 1344 extension (R94): year, leap second pending and its sign, the offset of the coded time from UTC in s, and
time quality. -/
structure IrigExt where
  year : Nat
  pending : Bool := false
  negative : Bool := false
  offset : Int := 0
  quality : Nat := 0
  deriving DecidableEq, Repr, Inhabited

/-- An IRIG-B frame as received (R94, R95): whether its pulses, markers and parity are right, its BCD time, its BINARY
seconds, and the IEEE 1344 extension where it is present. -/
structure IrigObs where
  widthOk : Bool := true
  markersOk : Bool := true
  parityOk : Bool := true
  ss : Nat
  mm : Nat
  hh : Nat
  day : Nat
  sbs : Nat := 0
  ext : Option IrigExt := none
  deriving DecidableEq, Repr, Inhabited

/-- A serial time-of-day message (R96): its kind (0 ZDA, 1 Dreonti), whether its checksum or CRC is good, whether its TYPE is
expected, its seconds (UTC for ZDA, TAI for Dreonti), TAI - UTC, VALID, LEAP61, LEAP59, and when it ended after the in-window edge, ms. -/
structure TodMsg where
  kind : Nat
  good : Bool := true
  expected : Bool := true
  sec : Nat
  taiUtc : Int := 0
  valid : Bool := true
  leap61 : Bool := false
  leap59 : Bool := false
  afterMs : Nat := 100
  deriving DecidableEq, Repr, Inhabited

/-- A message from an upstream master (R99, R100, R102, R103): the fault it is dropped for, if any (0 length or TLV, 1 reserved
field, 2 authentication, 3 nanoseconds, 7 too fast), its kind (1 Sync, 2 Follow_Up, 0 another), its sequenceId where it has one, the
sample it completes (offset and path delay, ps), the master's identity (grandmasterIdentity x 2^80 + sourcePortIdentity, or reference ID x 2^8 + stratum), and its Hallmark if it carries one. -/
structure NrefMsg where
  fault : Option Nat := none
  kind : Nat := 0
  seqId : Option Nat := none
  sample : Option (Rat × Rat) := none
  ident : Nat := 0
  response : Bool := false
  hallmark : Option HallRec := none
  hallVerifies : Bool := false
  deriving DecidableEq, Repr, Inhabited

/-- One channel's measurement as the latch captures it (R122, R125); the raw fields of the channel record. -/
structure ChanObs where
  ch : Nat
  codeLock : Bool := true
  carrierLock : Bool := true
  half : Bool := false
  cn0 : Nat := 0
  txTime : Nat := 0
  carrier : Int := 0
  doppler : Int := 0
  codeSd : Nat := 0
  phaseSd : Nat := 0
  lockTime : Nat := 0
  elev : Int := 0
  az : Nat := 0
  deriving DecidableEq, Repr, Inhabited

/-- What a stream shows at a latch: how often each value occurred among its 4-bit samples of the last second, from -8 up to +7 (R112), the in-band
power of the samples as taken, in 0.25 dB units (R125, R139), and how far the sample count lies from the loopback stamp, in sample periods (R116). -/
structure StreamObs where
  stream : Nat
  power : Int := 0
  levels : List Nat := []
  phaseErr : Rat := 0
  deriving DecidableEq, Repr, Inhabited

/-- The nine correlators of a channel (R117), each as its I and Q sum. -/
structure Correlators where
  veryEarly : Int × Int := (0, 0)
  early : Int × Int := (0, 0)
  prompt : Int × Int := (0, 0)
  late : Int × Int := (0, 0)
  veryLate : Int × Int := (0, 0)
  dataPrompt : Int × Int := (0, 0)
  multiEarly : Int × Int := (0, 0)
  multiLate : Int × Int := (0, 0)
  noise : Int × Int := (0, 0)
  deriving DecidableEq, Repr, Inhabited

/-- What the outside presents at a GNSS latch (R122): the streams, the channels, and what their correlators summed. -/
structure EpochObs where
  streams : List StreamObs := []
  chans : List ChanObs := []
  corr : List (Nat × Correlators) := []
  deriving DecidableEq, Repr, Inhabited

/-- A satellite the TP wants channels for on an antenna (R118): system, number, antenna, elevation in 0.01 degree, whether it
transmits in the L5 band. -/
structure SatDemand where
  sys : Nat
  sv : Nat
  ant : Nat
  elev : Int := 0
  l5 : Bool := true
  deriving DecidableEq, Repr, Inhabited

/-- A satellite in view that has navigation data (R128-R130): in each band the offset of the MTC against its system's time, within a week, that the
raw pseudorange gives with range and satellite clock taken off (ps); the broadcast group-delay corrections of each band alone and of the L1/L5
combination (ps); the broadcast-model slant ionosphere delay in each band (ps); its weight in the estimate; and the line of sight, east,
north and up. -/
structure SatObs where
  sys : Nat
  sv : Nat
  r1 : Rat := 0
  r5 : Rat := 0
  gd1 : Rat := 0
  gd5 : Rat := 0
  gdIf : Rat := 0
  iono1 : Rat := 0
  iono5 : Rat := 0
  weight : Nat := 1
  east : Rat := 0
  north : Rat := 0
  up : Rat := 0
  deriving DecidableEq, Repr, Inhabited

/-- What the sky and the geometry give one antenna at an epoch (R126, R128-R135, R61): the satellites with navigation data; those that the residual
test finds inconsistent, the one whose exclusion restores most first; the covariance results (variance of the offset, frequency and its
variance); the time error per mm of position error along each axis, ps; the position covariance of a survey; time dilution in 0.01;
the UTC parameters broadcast by each system; and each system's broadcast week numbers as length of the field in bits and value. -/
structure SolutionObs where
  sats : List SatObs := []
  atFault : List (Nat × Nat) := []
  var : Rat := 1
  freq : Rat := 0
  freqVar : Rat := 0
  gain : Rat × Rat × Rat := (0, 0, 0)
  cov : Cov3 := {}
  tdop : Nat := 0
  broadcast : List (Nat × LeapInd) := []
  weeks : List (Nat × Nat × Nat) := []
  deriving DecidableEq, Repr, Inhabited

/-- A MAC function of an OSNMA chain (R136). -/
inductive OsnmaMac where
  | hmacSha256 | cmacAes
  deriving DecidableEq, Repr, Inhabited

/-- What an E1-B navigation message brings for OSNMA (R136): a new public key with its place in the Merkle tree; the root key of a TESLA chain, with the
key that signed it, the functions it uses and the verdict of the signature check; a revocation of a key or of the chain; or a tag over a
satellite's data of an ADKD, with the TESLA key disclosed for it and the octets that each step back along the chain appends. -/
inductive OsnmaMsg where
  | publicKey (id : Nat) (p521 : Bool) (leaf : List Nat) (index : Nat) (path : List (List Nat))
  | chainRoot (key : Nat) (sha3 : Bool) (mac : OsnmaMac) (root : List Nat) (signed : Bool)
  | revokeKey (id : Nat)
  | revokeChain
  | tag (adkd : Nat) (data tag tesla : List Nat) (steps : List (List Nat))
  deriving DecidableEq, Repr, Inhabited

/-- A page of an antenna: the antenna's number and what the page brings. -/
structure OsnmaPage where
  ant : Nat
  msg : OsnmaMsg
  deriving DecidableEq, Repr, Inhabited

/-- The outcome of a search: a detection, `away` Hz from the centre of the space searched, or the space is exhausted (R119, R120). -/
structure Detection where
  found : Bool
  away : Int := 0
  deriving DecidableEq, Repr, Inhabited

/-- The pair of interpolators a calibration belongs to: a Filigree channel, or the receive or transmit pair of a port's facet (R186, R279). -/
inductive CalUnit where
  | fil (ch : Nat) | facet (port : Nat) (tx : Bool)
  deriving DecidableEq, Repr, Inhabited

/-- One ASDU of a sampled-value frame (R235-R239): smpCnt, the length of its sequence of data, the INT32 value and whether its quality
word has validity good. -/
structure SvAsdu where
  cnt : Nat
  len : Nat
  value : Int
  good : Bool := true
  deriving DecidableEq, Repr, Inhabited

/-- A sampled-value frame as received on the port of a virtual tap (R235-R239): its destination, APPID and svID, its smpSynch, its
ASDUs, and its receive facet stamp in 2^-20 ns. -/
structure SvFrame where
  dest : Nat
  appid : Nat
  svid : List (BitVec 8)
  synch : Nat := 2
  asdus : List SvAsdu
  rx : Nat
  deriving DecidableEq, Repr, Inhabited

/-- What the quarter-cycle fit of a tap gives (R240): its instant in 2^-20 ns, LA angle in 2^-32 turn, frequency in Hz, ROCOF in Hz/s,
peak amplitude in 2^-8 sample LSB and as a fraction of full scale, residual as a fraction of the amplitude, the standard deviations
of phase in turns and of frequency in Hz, and whether its whole window and its last two nominal cycles hold valid samples. -/
structure LaFit where
  instant : Nat
  angle : Nat := 0
  f : Rat
  r : Rat := 0
  ampl : Nat := 0
  level : Rat := 1
  residual : Rat := 0
  sigPhi : Rat := 0
  sigF : Rat := 0
  full : Bool := true
  two : Bool := true
  deriving DecidableEq, Repr, Inhabited

/-- A descriptor that the host makes available with a port-ring doorbell: the fields of bytes 0-15 (R290, R291). A receive
descriptor uses the address and the length alone. -/
structure TxDesc where
  addr : Nat := 0
  len : Nat := 64
  tsreq : Bool := false
  larel : Bool := false
  cls : Nat := 0
  cookie : Nat := 0
  deriving DecidableEq, Repr, Inhabited

/-- What a register write carries: the value, and where it rings a port-ring doorbell the descriptors that stand in host memory then (R290, R451, R590). -/
structure RegData where
  value : Nat
  descs : List TxDesc := []
  deriving DecidableEq, Repr, Inhabited

/-- What a loopback run measures (R280): the round trip d_rt as the mean of its 4,096 differences, and their rms, in ps. -/
structure LoopbackObs where
  drt : Rat
  rms : Rat
  deriving DecidableEq, Repr, Inhabited

/-- A redundancy control trailer (R326): its sequence number, whether its LSDU size matches the frame, and whether the other
copy completes in the same packet-clock cycle. -/
structure Rct where
  seq : Nat
  sizeOk : Bool := true
  twin : Bool := false
  deriving DecidableEq, Repr, Inhabited

/-- A frame as a port receives it: its length with the FCS in octets, the outcome of the line checks (R262), the boundary instant
T_b of its time-stamp point in 2^-20 ns TAI (R277), and the header fields that R265, R289, R299 and R300 look at. -/
structure RxFrame where
  len : Nat := 64
  fcsOk : Bool := true
  codeErr : Bool := false
  fecErr : Bool := false
  tb : Nat := 0
  dest : Nat := 0
  src : Nat := 0
  /-- VLAN, 0 untagged -/
  vlan : Nat := 0
  etherType : Nat := 0
  /-- 4 or 6 for IP, 0 otherwise -/
  family : Nat := 0
  sip : Nat := 0
  dip : Nat := 0
  /-- IP protocol: 1 ICMP, 2 IGMP, 6 TCP, 17 UDP, 58 ICMPv6 -/
  proto : Nat := 0
  sport : Nat := 0
  dport : Nat := 0
  /-- an ICMP or IGMP message: 1 echo request, 2 neighbour solicitation, 3 membership query -/
  icmp : Nat := 0
  /-- an IP fragment, IPv4 options, an IPv6 extension header or a bad UDP checksum (R300) -/
  ipBad : Bool := false
  /-- APPID of a sampled-value frame (R235) -/
  appid : Nat := 0
  /-- svID of a sampled-value frame (R235) -/
  svid : List (BitVec 8) := []
  rct : Option Rct := none
  deriving DecidableEq, Repr, Inhabited

/-- The AUTHENTICATION TLV of a PTP message: its keyID and SPP (R328). -/
structure AuthTlv where
  keyId : Nat
  spp : Nat := 0
  deriving DecidableEq, Repr, Inhabited

/-- A seal (R321): its generation and NONCE, and the plaintext fields that opening it yields. -/
structure SealTok where
  keyGen : Nat
  alg : Nat := 0
  bezel : Nat := 0
  kind : Nat := 0
  service : Nat := 0
  subscriber : Nat := 0
  expiry : Nat := 0
  nonce : Nat := 0
  deriving DecidableEq, Repr, Inhabited

/-- A PTP request as the pipelines parse it (R306, R310, R328): its header, the outcome of the length, reserved-field and nanosecond
checks, the client (source address and sourcePortIdentity as one number), its size in octets, and its TLVs. -/
structure PtpMsg where
  version : Nat := 2
  minor : Nat := 1
  domain : Nat := 0
  sdoId : Nat := 0
  /-- 0 Ethernet, 1 UDP/IPv4, 2 UDP/IPv6 -/
  transport : Nat := 0
  unicast : Bool := false
  lenOk : Bool := true
  reservedOk : Bool := true
  nsOk : Bool := true
  client : Nat := 0
  seq : Nat := 0
  size : Nat := 44
  auth : Option AuthTlv := none
  token : Option SealTok := none
  deriving DecidableEq, Repr, Inhabited

/-- A REQUEST_UNICAST_TRANSMISSION (R319): the message type asked for (0 Announce, 1 Sync, 2 Delay_Resp), its interval as log2 s and its
duration in s. -/
structure UnicastReq where
  m : PtpMsg := {}
  msgType : Nat
  interval : Int := 0
  duration : Nat := 300
  deriving DecidableEq, Repr, Inhabited

/-- The NTS fields of an NTP request (R323): whether they are in the order and number R323 states, the length and value of the Unique Identifier, the
cookie and the number of placeholders. -/
structure NtsReq where
  formOk : Bool := true
  uidLen : Nat := 32
  uid : Nat := 0
  cookie : SealTok
  placeholders : Nat := 0
  deriving DecidableEq, Repr, Inhabited

/-- An NTP request (R311, R316, R328): version, mode, size of the UDP payload, whether every extension field is well formed, its
transmit timestamp and poll, a Hallmark request field (whether it has the form of R316), and its NTS fields. -/
structure NtpReq where
  version : Nat := 4
  mode : Nat := 3
  size : Nat := 48
  efOk : Bool := true
  xmt : Nat := 0
  poll : Nat := 0
  hall : Option Bool := none
  nts : Option NtsReq := none
  deriving DecidableEq, Repr, Inhabited

/-- Results of a Signet job (R340). -/
inductive JobResult where
  | ok | authFail | nokey | engine
  deriving DecidableEq, Repr, Inhabited

/-- A TCP segment to port 4460 as the MP's TCP state takes it (R362): the client's address, the local address it came to, and whether it
opens or closes a connection or carries bytes, the first bytes of a ClientHello among them. -/
inductive TcpKind where
  | opens | data | hello | closes
  deriving DecidableEq, Repr, Inhabited

/-- A TCP segment (R362). -/
structure TcpSeg where
  client : Nat
  sport : Nat := 0
  addr : Nat
  kind : TcpKind
  deriving DecidableEq, Repr, Inhabited

/-- A PTP key record of a client's request (R365). -/
structure PtpKeyReq where
  ver : Nat := 1
  mode : Nat := 0
  domain : Nat := 0
  sdoId : Nat := 0
  deriving DecidableEq, Repr, Inhabited

/-- An NTS-KE request (R363-R365): Next Protocol, End of Message, an unrecognised critical record, AEAD 15 among those offered, and the PTP
key record. -/
structure KeReq where
  next : Option Nat := some 0
  eom : Bool := true
  unknownCritical : Bool := false
  aead15 : Bool := true
  ptp : Option PtpKeyReq := none
  deriving DecidableEq, Repr, Inhabited

/-- A TLS record as the LP takes it (R360-R365). -/
inductive TlsRec where
  /-- a ClientHello: it offers TLS 1.3; a common group, suite and signature scheme; ALPN "ntske/1" -/
  | clientHello (tls13 common alpn : Bool)
  /-- the client's Finished, with the outcome of its certificate against the anchors -/
  | finished (certOk : Bool)
  /-- a malformed handshake message -/
  | malformed
  /-- a record whose tag fails -/
  | badTag
  /-- an NTS-KE request -/
  | request (r : KeReq)
  deriving DecidableEq, Repr, Inhabited

/-- What the pins show at a device reset: whether PORST_N was the trigger of a power-on reset rather than the internal detector (R550),
the PAIR_ID strap (R413) and the tamper inputs (R559, R561). -/
structure BootPins where
  porst : Bool := true
  pairId : Bool := false
  tamper : BitVec 4 := 0
  mosc100 : Bool := false
  deriving DecidableEq, Repr, Inhabited

/-- An entry of the grant table as it goes over a pair lane (R318, R431). -/
structure GrantImage where
  index : Nat
  tag : Nat := 0
  client : Nat := 0
  port : Nat := 0
  service : Nat := 0
  bezel : Nat := 0
  sub : Nat := 0
  annLog : Int := 0
  syncLog : Int := 0
  drespLog : Int := 0
  granted : Nat := 0
  cancelling : Bool := false
  expiry : Nat := 0
  key : Nat := 0
  authed : Bool := false
  deriving DecidableEq, Repr, Inhabited

/-- A key slot as it goes over a pair lane, its material wrapped under the pair transport key (R337, R431). -/
structure KeyImage where
  slot : Nat
  usage : Nat := 0
  alg : Nat := 0
  len : Nat := 0
  /-- the slot is VALID; otherwise it is free -/
  valid : Bool := true
  depth : Nat := 0
  owner : Nat := 0
  locket : Bool := false
  parent : Nat := 0
  useLimit : Nat := 0
  expiry : Nat := 0
  gen : Nat := 0
  label : Nat := 0
  material : Nat := 0
  deriving DecidableEq, Repr, Inhabited

/-- What Assay and the filter hold of one reference, as it goes over a pair lane and into STATE: grades and scores with their counts, selection,
slot and weights, the model, and the filter's estimate of a frequency member (R429, R440). -/
structure RefImage where
  ref : Nat
  grade : Nat := 0
  shadow : Nat := 0
  cons : Nat := 24
  stat : Nat := 24
  excess : Nat := 0
  fourRun : Nat := 0
  cleanRun : Nat := 0
  held : Bool := false
  goodRun : Nat := 0
  selected : Bool := false
  slot : Option Nat := none
  weight : Rat := 0
  hold : Rat := 0
  /-- q_w, q_f, q_rw, drift and its variance -/
  model : List Rat := []
  row : Nat := 0
  history : Nat := 0
  yHat : Rat := 0
  known : Bool := false
  jumpCap : Nat := 0
  /-- phase, frequency and drift, their variances, and the steering credited -/
  est : List Rat := []
  deriving DecidableEq, Repr, Inhabited

/-- The ensemble state of an update (R429, R440): filter state, models, grades, selection and slots, timing state, schedule step, the steady
frequency word without the trim and the device-point ensemble terms. -/
structure EnsImage where
  refs : List RefImage := []
  /-- x, y, P_x, P_y, P_d, P_xy, P_xd, P_yd of the posterior, and of that of the last applied measurement -/
  post : List Rat := []
  applied : List Rat := []
  hasEstimate : Bool := false
  /-- ys, ye, ys_hold, yd, dhat, drift -/
  steer : List Rat := []
  driftOn : Bool := false
  timing : Nat := 0
  step : Nat := 0
  atFinal : Bool := false
  dwell : Nat := 0
  word : Int := 0
  terms : Rat := 0
  deriving DecidableEq, Repr, Inhabited

/-- A lane frame as it is received (R416): the lane, whether it authenticates, the partner's reported pair state (its
code, R414), how many mirrored changes it acknowledges (R433), and a lane time message of the join step (R440): the
partner's MTC instant (seconds, nanoseconds, fraction) and GEN. -/
structure LaneFrame where
  lane : Nat
  good : Bool := true
  partnerState : Option Nat := none
  acks : Nat := 0
  joinTime : Option (Nat × Nat × Nat) := none
  gen : Nat := 0
  /-- the partner has published, for every paired port and claim-gated output, a record that includes B_pair (R441) -/
  fit : Bool := false
  /-- the partner's firmware set has changed (R415) -/
  firmware : Bool := false
  /-- entries of the ACTIVE unit's grant table that have changed, and its mirrored key slots and KEY_GEN of bezels (R431, R440) -/
  grants : List GrantImage := []
  keys : List KeyImage := []
  seals : List (Nat × Nat) := []
  /-- the serving unit's ensemble state, sent as it stands after an update (R440) -/
  ens : Option EnsImage := none
  deriving DecidableEq, Repr, Inhabited

/-- What the partner shows for the pairability checks of R416 and R442: whether the Locket verifies its device certificate, its answer to this
unit's challenge under the owner root, the version of its firmware set and that set's companion list. -/
structure PartnerInfo where
  pairId : Bool
  certOk : Bool := true
  challenge : List Nat := []
  answer : Nat := 0
  version : Nat := 1
  comp : List Nat := []
  /-- the partner's pair state code and claim -/
  state : Nat := 0
  claim : Nat := 0
  deriving DecidableEq, Repr, Inhabited

/-- The pair measurements of one second (R425): the partner's own FIL39 measurement, in ps, and the partner's
measurements of the references that are VALID there (REF, measurement, variance). -/
structure PairMeas where
  dPartner : Int
  refs : List (Nat × Rat × Rat) := []
  deriving DecidableEq, Repr, Inhabited

/-- What an error pin reads (R517, R518): a wiring fault or an error, and the leaves of its block that show a wiring fault. -/
structure PinReport where
  wiring : Bool
  leaves : List Nat := []
  deriving DecidableEq, Repr, Inhabited

/-- One reading of a sensor (R493-R495): VALUE, what the second diode of a temperature sensor reads in the same units, and whether a clock
shows edges. -/
structure SensorReading where
  value : Int
  second : Int := value
  edges : Bool := true
  deriving DecidableEq, Repr, Inhabited

/-- The commands the block takes: one constructor per row of the opcode table, each with the rule that describes it. -/
inductive Instr where
  /-- SYS_RESET R476: Operator command that writes its completion and schedules a command reset 1 ms later. -/
  | sysReset (h : CmdHdr) (confirm : Nat)
  /-- SYS_SEAL R562: Operator command that programs both fuse rows and irreversibly seals the device. -/
  | sysSeal (h : CmdHdr) (confirm code : Nat)
  /-- SYS_READ_INFO R476: Returns device identity, power state, sealing, epoch, firmware version and PAIR_ID. -/
  | sysReadInfo (h : CmdHdr)
  /-- SYS_READ_HEALTH R530: Returns sys.health, REPLACE and the list of present cause codes. -/
  | sysReadHealth (h : CmdHdr)
  /-- SYS_READ_SENSORS R493: Returns one record per sensor, followed by the temperature-hour totals. -/
  | sysReadSensors (h : CmdHdr)
  /-- FW_LOAD_IMAGE R507: Writes a signed firmware set to the non-running bank, verifies it and marks it VALID. -/
  | fwLoadImage (h : CmdHdr) (set : Nat) (blob : FwBlob)
  /-- FW_ACTIVATE R507: Selects a VALID or CONFIRMED set, either for the next reset or now through the reset path. -/
  | fwActivate (h : CmdHdr) (set whenCode : Nat)
  /-- FW_READ_SETS R507: Returns both firmware sets, their states and their tested lists. -/
  | fwReadSets (h : CmdHdr)
  /-- STATE_READ_OBJECT R47: Returns the record of one object of a state class, with its change count. -/
  | stateReadObject (h : CmdHdr) (cls index : Nat)
  /-- STATE_LIST_CLASSES R476: Returns every state class with its record length and unit count. -/
  | stateListClasses (h : CmdHdr)
  /-- TXN_BEGIN R463: Opens a transaction on the issuing queue and returns its identifier. -/
  | txnBegin (h : CmdHdr)
  /-- TXN_COMMIT R464: Re-checks the staged commands and applies all of them in one step, or none of them. -/
  | txnCommit (h : CmdHdr) (txnId : Nat)
  /-- TXN_ABORT R464: Discards the staged commands and closes the transaction. -/
  | txnAbort (h : CmdHdr) (txnId : Nat)
  /-- TXN_ACQUIRE_LOCK R461: Acquires a bezel semaphore, returning OK, E_BUSY or E_ABANDONED. -/
  | txnAcquireLock (h : CmdHdr) (sem : Nat)
  /-- TXN_RELEASE_LOCK R461: Releases a semaphore held by the issuing queue under the current GEN. -/
  | txnReleaseLock (h : CmdHdr) (sem gen : Nat)
  /-- REF_SET_PPS R88: Configures or deconfigures a PPS input, its window, its cable delay and its second label. -/
  | refSetPps (h : CmdHdr) (a : PpsArgs)
  /-- REF_SET_CLOCK R91: Configures a CKI frequency input, its stamp rate and its gate window. -/
  | refSetClock (h : CmdHdr) (a : ClockArgs)
  /-- REF_SET_TIMECODE R93: Configures a TCI input as IRIG-B, as serial time of day, or as off. -/
  | refSetTimecode (h : CmdHdr) (a : TimecodeArgs)
  /-- REF_SET_PENDANT R606: Configures or deconfigures a Pendant port's frequency input, health channel and steering. -/
  | refSetPendant (h : CmdHdr) (a : PendantArgs)
  /-- REF_SET_NREF R97: Configures an upstream network reference on a port owned by BZ00. -/
  | refSetNref (h : CmdHdr) (a : NrefArgs)
  /-- REF_CLEAR_FAULT R605: Takes a FAULT input back to QUALIFYING and clears its failed-run count. -/
  | refClearFault (h : CmdHdr) (ref : Nat)
  /-- REF_READ_STATUS R86: Returns an input's state, counters, Pendant health and steering. -/
  | refReadStatus (h : CmdHdr) (ref : Nat)
  /-- GNSS_SET_STREAM R113: Configures a GNSS sample stream; the stream enters ALIGN and its reference enters QUALIFYING. -/
  | gnssSetStream (h : CmdHdr) (a : StreamArgs)
  /-- GNSS_SET_SIGNALS R117: Enables GNSS systems and L1 signal choices, and sets the reference system and the mask. -/
  | gnssSetSignals (h : CmdHdr) (systems l1c refSys mask : Nat)
  /-- GNSS_START R121: Starts the receiver cold, warm or hot. -/
  | gnssStart (h : CmdHdr) (kind : Nat)
  /-- GNSS_SET_EPOCH R123: Sets the epoch rate, in force from the next top of the TAI second. -/
  | gnssSetEpoch (h : CmdHdr) (rate : Nat)
  /-- GNSS_SET_CABLE R127: Sets a stream's cable delay and its uncertainty, in force at the next top of the second. -/
  | gnssSetCable (h : CmdHdr) (stream d u : Nat)
  /-- GNSS_SET_SURVEY R131: Starts an antenna position survey, with an optional seed. -/
  | gnssSetSurvey (h : CmdHdr) (a : SurveyArgs)
  /-- GNSS_LOAD_SURVEY R131: Loads a stored survey made by this device's hardware. -/
  | gnssLoadSurvey (h : CmdHdr) (ant : Nat) (rec : SurveyRec)
  /-- GNSS_SET_OSNMA R136: Loads the OSNMA Merkle tree root. -/
  | gnssSetOsnma (h : CmdHdr) (root : List Nat)
  /-- GNSS_ASSERT_TIME R137: Operator asserts GST within an uncertainty, enabling OSNMA verification. -/
  | gnssAssertTime (h : CmdHdr) (time : EtwArg) (u : Nat)
  /-- GNSS_SET_SPOOF R139: Sets the spoofing thresholds and the antenna baseline, or starts power baseline learning. -/
  | gnssSetSpoof (h : CmdHdr) (a : SpoofArgs)
  /-- GNSS_READ_EPOCH R125: Returns one held measurement epoch with its header and channel records. -/
  | gnssReadEpoch (h : CmdHdr) (epoch : Nat)
  /-- GNSS_READ_STATUS R135: Returns reference data, stream state and survey state. -/
  | gnssReadStatus (h : CmdHdr)
  /-- ENS_SET_LEAP_TABLE R58: Loads the leap-second table, subject to validation and the FORCE rule. -/
  | ensSetLeapTable (h : CmdHdr) (force count : Nat) (entries : List LeapEntry)
  /-- ENS_SET_LOCAL_OFFSET R62: Sets the local offset and up to 16 scheduled changes. -/
  | ensSetLocalOffset (h : CmdHdr) (count : Nat) (offset : Int) (entries : List LocalChange)
  /-- ENS_SET_ACQUIRE R65: Sets the acquisition and hold grades, lock offset, holdover limit, step threshold and automatic set. -/
  | ensSetAcquire (h : CmdHdr) (a : AcquireArgs)
  /-- ENS_FORCE_STATE R66: Forces HOLDOVER, or removes the force, at the next ensemble update. -/
  | ensForceState (h : CmdHdr) (force : Nat)
  /-- ENS_RELEASE_LOST R66: Releases the Time Core from LOST to FREE_RUN at the next update. -/
  | ensReleaseLost (h : CmdHdr)
  /-- ENS_STEP_TIME R69: Schedules a step of the MTC at the first top of the TAI second at least 2 ms after acceptance. -/
  | ensStepTime (h : CmdHdr) (sec ns frac : Int)
  /-- ENS_SET_SLEW R68: Sets the slew rate for phase corrections. -/
  | ensSetSlew (h : CmdHdr) (rate : Nat)
  /-- ENS_SET_MEMBER R147: Sets a reference's operator ceiling and its AUTO or EXCLUDE mode. -/
  | ensSetMember (h : CmdHdr) (ref ceiling mode : Nat)
  /-- ENS_SET_BANDWIDTH R166: Sets the final steering bandwidth, with its schedule effects. -/
  | ensSetBandwidth (h : CmdHdr) (final : Nat)
  /-- ENS_SET_HOLDOVER R178: Sets the holdover horizon and the holdover age limit. -/
  | ensSetHoldover (h : CmdHdr) (horizon ageLimit : Nat)
  /-- ENS_SET_DRIFT R175: Enables or disables the learned drift correction. -/
  | ensSetDrift (h : CmdHdr) (enable : Nat)
  /-- ENS_SET_STEER R169: Sets a Pendant's steering policy, time constant and interval. -/
  | ensSetSteer (h : CmdHdr) (pend policy tau interval : Nat)
  /-- ENS_RESET_MODEL R163: Resets a reference's learned noise model and history. -/
  | ensResetModel (h : CmdHdr) (ref : Nat)
  /-- ENS_READ_STATUS R178: Returns grades, shadow grades, groups, slots and weights. -/
  | ensReadStatus (h : CmdHdr)
  /-- ENS_READ_MODEL R178: Returns a reference's model, drift estimate and history. -/
  | ensReadModel (h : CmdHdr) (ref : Nat)
  /-- HALL_SET_WINDOWS R82: Sets the asymmetry and pair settle windows. -/
  | hallSetWindows (h : CmdHdr) (asymWindow pairWindow : Nat)
  /-- HALL_READ_CURRENT R77: Returns the current Hallmark record of an owned point. -/
  | hallReadCurrent (h : CmdHdr) (point : Nat)
  /-- HALL_VERIFY_RECORD R75: Verifies a canonical record's MAC and freshness under the bezel's Hallmark key. -/
  | hallVerifyRecord (h : CmdHdr) (rec : HallRec) (deviceId : Nat)
  /-- OUT_SET_LOOP R208: Enables or disables an output loop and sets its frequency and bandwidth. -/
  | outSetLoop (h : CmdHdr) (loop enable fl bw : Nat)
  /-- OUT_RESET_LOOP R209: Takes a LOST loop back to ACQUIRING. -/
  | outResetLoop (h : CmdHdr) (loop : Nat)
  /-- OUT_SET_OUTPUT R211: Configures an output's loop, offset, mode, rate, width, polarity and timescale. -/
  | outSetOutput (h : CmdHdr) (a : OutputArgs)
  /-- OUT_SET_OFFSET R215: Starts a ramp of a loop's frequency offset towards a new value. -/
  | outSetOffset (h : CmdHdr) (loop : Nat) (yo : Int) (slope : Nat)
  /-- OUT_SET_SSC R216: Sets spread-spectrum modulation on a loop. -/
  | outSetSsc (h : CmdHdr) (loop mode depth rate : Nat)
  /-- OUT_SET_SLEW R219: Sets an output's slew rate. -/
  | outSetSlew (h : CmdHdr) (kind index rate : Nat)
  /-- OUT_READ_STATUS R480: Returns loop states, alignment states and last alignment errors. -/
  | outReadStatus (h : CmdHdr)
  /-- FIL_SET_CHANNEL R183: Configures a TIC Filigree channel's enable, edge and prescaler. -/
  | filSetChannel (h : CmdHdr) (ch enable edge n : Nat)
  /-- FIL_SET_LOOPBACK R182: Assigns a loopback channel to an output, with its divider. -/
  | filSetLoopback (h : CmdHdr) (ch kind index divider : Nat)
  /-- FIL_GRANT_CHANNEL R180: Grants or revokes a bezel's read access to a channel. -/
  | filGrantChannel (h : CmdHdr) (ch bezel grant : Nat)
  /-- FIL_SET_RING R199: Sets a stamp-store ring's allotment and mode. -/
  | filSetRing (h : CmdHdr) (ring mode allot : Nat)
  /-- FIL_SET_DIFF R202: Configures a difference engine. -/
  | filSetDiff (h : CmdHdr) (a : DiffArgs)
  /-- FIL_SET_STREAM R200: Opens or closes a granted bezel's host stamp ring. -/
  | filSetStream (h : CmdHdr) (a : FilStreamArgs)
  /-- FIL_ACK_STREAM R200: Returns host stream records by writing the read index. -/
  | filAckStream (h : CmdHdr) (ch readIndex : Nat)
  /-- FIL_READ_STAMPS R201: Returns stamps and moves this consumer's read position. -/
  | filReadStamps (h : CmdHdr) (ch max : Nat)
  /-- FIL_READ_DIFF R204: Returns a difference engine's last completed gate and its running gate. -/
  | filReadDiff (h : CmdHdr) (de : Nat)
  /-- FIL_READ_STATUS R189: Returns channel and interpolator states. -/
  | filReadStatus (h : CmdHdr)
  /-- LA_SET_TAP R242: Configures or deconfigures a physical tap and its estimator parameters. -/
  | laSetTap (h : CmdHdr) (tap : Nat) (a : TapArgs) (dTap : Nat)
  /-- LA_SET_VTAP R235: Configures or deconfigures a virtual tap fed by sampled values. -/
  | laSetVtap (h : CmdHdr) (a : VtapArgs)
  /-- LA_GRANT_TAP R230: Grants or revokes a tenant's read access to a tap. -/
  | laGrantTap (h : CmdHdr) (tap bezel grant : Nat)
  /-- LA_SET_EVENT R247: Configures a scheduled-event slot against a tap's line angle. -/
  | laSetEvent (h : CmdHdr) (a : EventArgs)
  /-- LA_CANCEL_EVENT R247: Frees a scheduled-event slot, after the event if one is committed. -/
  | laCancelEvent (h : CmdHdr) (slot : Nat)
  /-- LA_SET_STREAM R254: Opens or closes a tap's host sample ring. -/
  | laSetStream (h : CmdHdr) (tap n vector base : Nat)
  /-- LA_ACK_STREAM R254: Returns sample blocks to the FZ9256. -/
  | laAckStream (h : CmdHdr) (tap bseq : Nat)
  /-- LA_READ_ESTIMATES R253: Returns estimate or phasor records of a tap. -/
  | laReadEstimates (h : CmdHdr) (tap kind max : Nat)
  /-- LA_READ_STATUS R242: Returns a tap's state, counters and slot status. -/
  | laReadStatus (h : CmdHdr) (tap : Nat)
  /-- PORT_SET_MODE R258: Sets a port's lane mode, taking the port through DISABLED to CALIBRATING. -/
  | portSetMode (h : CmdHdr) (port mode half an : Nat)
  /-- PORT_SET_MAC R263: Sets PAUSE_RX, the maximum frame length, the pause watchdog and the hold-off. -/
  | portSetMac (h : CmdHdr) (port pauseRx maxLen watchdog holdoff : Nat)
  /-- PORT_SET_EEE R273: Enables Energy-Efficient Ethernet with its idle threshold and wake time. -/
  | portSetEee (h : CmdHdr) (port enable idle tw : Nat)
  /-- PORT_CALIBRATE R282: Makes a facet loopback run due at once. -/
  | portCalibrate (h : CmdHdr) (port : Nat)
  /-- PORT_SET_ASYM R287: Sets the external asymmetry, which takes effect after its widening record is published. -/
  | portSetAsym (h : CmdHdr) (port : Nat) (asym : Int) (unc : Nat)
  /-- PORT_OPEN_RING R288: Opens a transmit or receive descriptor ring on an owned port. -/
  | portOpenRing (h : CmdHdr) (port dir n vector base : Nat)
  /-- PORT_CLOSE_RING R288: Closes a ring and writes back outstanding descriptors as FLUSHED. -/
  | portCloseRing (h : CmdHdr) (handle : Nat)
  /-- PORT_SET_FILTER R289: Sets a receive filter that steers frames to a ring. -/
  | portSetFilter (h : CmdHdr) (port index kind value handle : Nat)
  /-- PORT_READ_STATUS R260: Returns a port's state, calibration, delays and counters. -/
  | portReadStatus (h : CmdHdr) (port : Nat)
  /-- SVC_SET_SERVICE R296: Creates, changes or deletes a time service of the bezel. -/
  | svcSetService (h : CmdHdr) (a : ServiceArgs)
  /-- SVC_SET_ADDRESS R299: Sets or deletes one of a port's IP addresses. -/
  | svcSetAddress (h : CmdHdr) (port index family vlan pcp address : Nat)
  /-- SVC_SET_LAUNCH R313: Sets a port's launch margin. -/
  | svcSetLaunch (h : CmdHdr) (port margin : Nat)
  /-- SVC_CANCEL_GRANT R320: Sends a unicast cancel and sets CANCELLING on a grant entry. -/
  | svcCancelGrant (h : CmdHdr) (entry : Nat)
  /-- SVC_SET_SEAL R322: Sets the bezel's seal lifetime. -/
  | svcSetSeal (h : CmdHdr) (lifetime : Nat)
  /-- SVC_SET_PRP R325: Joins or separates two ports as a PRP node. -/
  | svcSetPrp (h : CmdHdr) (portA portB join forget : Nat)
  /-- SVC_READ_STATUS R296: Returns a service's configuration and counters. -/
  | svcReadStatus (h : CmdHdr) (service : Nat)
  /-- SVC_READ_GRANT R318: Returns one grant-table entry. -/
  | svcReadGrant (h : CmdHdr) (entry : Nat)
  /-- KEY_GENERATE R357: Generates a key in a pool slot under a parent of the bezel. -/
  | keyGenerate (h : CmdHdr) (a : GenKeyArgs)
  /-- KEY_IMPORT R358: Unwraps an imported blob into a pool slot or the bezel's Hallmark slot. -/
  | keyImport (h : CmdHdr) (parent target : Nat) (blob : KeyBlob)
  /-- KEY_PROVISION_OWNER R358: Imports the owner root by WRAP 2. -/
  | keyProvisionOwner (h : CmdHdr) (blob : KeyBlob)
  /-- KEY_DESTROY R355: Destroys a slot and orphans its descendants. -/
  | keyDestroy (h : CmdHdr) (slot confirm : Nat)
  /-- KEY_FREE R350: Frees an unusable slot and zeroises its material. -/
  | keyFree (h : CmdHdr) (slot : Nat)
  /-- KEY_SET_TLS R361: Sets the bezel's TLS server identity, certificate chain and client trust anchors. -/
  | keySetTls (h : CmdHdr) (signSlot clientAuth anchors chainLen : Nat)
  /-- KEY_READ_SLOT R348: Returns a slot's attributes and its integrity status. -/
  | keyReadSlot (h : CmdHdr) (slot : Nat)
  /-- KEY_READ_IDENTITY R358: Returns the device key-agreement public key and its certificate. -/
  | keyReadIdentity (h : CmdHdr)
  /-- KEY_RANDOM R346: Returns random bytes from DRBG unit LK. -/
  | keyRandom (h : CmdHdr) (len : Nat)
  /-- KEY_READ_STATUS R370: Returns engine, entropy, DRBG and session state. -/
  | keyReadStatus (h : CmdHdr)
  /-- BEZEL_CREATE R397: Creates a tenant bezel with its fixed key slots, subscriber range and quotas. -/
  | bezelCreate (h : CmdHdr) (bezel subBase subCount : Nat)
  /-- BEZEL_DELETE R399: Deletes a tenant bezel and reclaims everything it held. -/
  | bezelDelete (h : CmdHdr) (bezel : Nat)
  /-- BEZEL_ASSIGN_PORT R402: Moves a DISABLED port between BZ00 and a tenant. -/
  | bezelAssignPort (h : CmdHdr) (port bezel : Nat)
  /-- BEZEL_SET_QUOTA R401: Sets a bezel's quotas and subscriber range. -/
  | bezelSetQuota (h : CmdHdr) (bezel grants poolSlots rules subBase subCount : Nat)
  /-- BEZEL_SET_DMA_WINDOW R403: Sets or removes one of a bezel's DMA windows. -/
  | bezelSetDmaWindow (h : CmdHdr) (bezel index base size : Nat)
  /-- BEZEL_SET_FLAGS R273: Sets or clears a bezel's NONTIMING flag. -/
  | bezelSetFlags (h : CmdHdr) (bezel flags : Nat)
  /-- BEZEL_RELEASE R409: Releases and resets a frozen tenant master. -/
  | bezelRelease (h : CmdHdr) (bezel kind index : Nat)
  /-- BEZEL_READ_STATUS R406: Returns ownership, quotas, ISOLATED and the first failed condition. -/
  | bezelReadStatus (h : CmdHdr) (bezel : Nat)
  /-- TM_SET_SUBSCRIBER_RULE R373: Sets or deletes a subscriber classification rule. -/
  | tmSetSubscriberRule (h : CmdHdr) (index kind pfxLen subscriber address : Nat)
  /-- TM_SET_METER R375: Configures a bezel, subscriber or service three-colour meter. -/
  | tmSetMeter (h : CmdHdr) (a : MeterArgs)
  /-- TM_SET_BUFFER R379: Sets a bezel's cell reservation and shared cap. -/
  | tmSetBuffer (h : CmdHdr) (bezel reserve cap : Nat)
  /-- TM_SET_QUEUE R382: Sets a service queue's limit and yellow threshold. -/
  | tmSetQueue (h : CmdHdr) (port cls limit yellow : Nat)
  /-- TM_SET_SHAPER R383: Sets a subscriber, service-queue or port credit shaper. -/
  | tmSetShaper (h : CmdHdr) (kind index rate high : Nat) (low : Int)
  /-- TM_SET_SAMPLE R386: Sets a port's queue sampling period and window. -/
  | tmSetSample (h : CmdHdr) (port period window : Nat)
  /-- TM_READ_QUEUE R386: Returns depth and delay samples of a queue or subscriber. -/
  | tmReadQueue (h : CmdHdr) (kind index : Nat)
  /-- TM_AUDIT R395: Latches every conserved-quantity book in one cycle and returns each with its status. -/
  | tmAudit (h : CmdHdr)
  /-- STA_SET_RESERVE R391: Sets a bezel's Signet reservation and lays out the shadow slot table afresh. -/
  | staSetReserve (h : CmdHdr) (bezel beats : Nat)
  /-- STA_SET_WEIGHT R391: Sets a requester's background weight in the shadow copy. -/
  | staSetWeight (h : CmdHdr) (bezel weight : Nat)
  /-- STA_COMMIT R392: Requests that the shadow table and weights become active at entry 0. -/
  | staCommit (h : CmdHdr)
  /-- STA_READ_TABLE R387: Returns the shadow table, the active table and the weights. -/
  | staReadTable (h : CmdHdr)
  /-- CLASP_SET_PAIR R415: Enables or disables pairing on this unit and sets d_pps, the pair wait and the paired ports. -/
  | claspSetPair (h : CmdHdr) (enable dPps pairWait : Nat) (ports : List Nat)
  /-- CLASP_SET_SWAP R438: Sets the role-swap period and the swap second. -/
  | claspSetSwap (h : CmdHdr) (period second : Nat)
  /-- CLASP_SWAP_NOW R438: Makes a role swap due at the first top of the TAI second at least 2 s after acceptance. -/
  | claspSwapNow (h : CmdHdr)
  /-- CLASP_RESYNC R415: Returns a UNPAIRED_STANDBY or PAIR_FAULT unit to SEEKING. -/
  | claspResync (h : CmdHdr)
  /-- CLASP_READ_STATUS R414: Returns both units' states, claims and divergence record. -/
  | claspReadStatus (h : CmdHdr)
  /-- LOUPE_GRANT_BANK R540: Grants or revokes a counter bank to a bezel. -/
  | loupeGrantBank (h : CmdHdr) (bank bezel grant : Nat)
  /-- LOUPE_SET_BANK R543: Sets a bank's counting, bandwidth or slot-accounting mode and its window. -/
  | loupeSetBank (h : CmdHdr) (bank mode window : Nat)
  /-- LOUPE_PRESET R542: Writes a counter value and optionally arms its overflow interrupt. -/
  | loupePreset (h : CmdHdr) (counter irq vector value : Nat)
  /-- LOUPE_READ R536: Returns counters latched in one cycle. -/
  | loupeRead (h : CmdHdr) (first count : Nat)
  /-- FAULT_CLEAR R520: Clears sticky fault bits whose sources are no longer live. -/
  | faultClear (h : CmdHdr) (word : Nat) (mask : BitVec 32)
  /-- FAULT_READ R520: Returns the sticky and live fault status words. -/
  | faultRead (h : CmdHdr)
  /-- LOG_READ R505: Returns event-log entries from a given LSEQ. -/
  | logRead (h : CmdHdr) (first max : Nat)
  /-- LOG_READ_STATUS R505: Returns the oldest and newest LSEQ and the coalesced count. -/
  | logReadStatus (h : CmdHdr)
  /-- NV_RESET_CONFIG R503: Marks the record store absent at the next device reset, with its exceptions. -/
  | nvResetConfig (h : CmdHdr) (confirm : Nat)
  /-- NV_READ_STATUS R502: Returns MRAM bank states, wear and record generations. -/
  | nvReadStatus (h : CmdHdr)
  /-- MBX_CMD_DB R451: Host writes a command queue's TAIL, making commands available or being ignored. -/
  | mbxCmdDb (fn queue tail : Nat)
  /-- MBX_CPL_DB R585: Host releases completion entries by writing HEAD. -/
  | mbxCplDb (fn head : Nat)
  /-- MBX_EVT_DB R585: Host releases event entries by writing HEAD. -/
  | mbxEvtDb (fn head : Nat)
  /-- CMD_QUEUE_ENABLE R587: Setting a CMD_EN bit enables a command queue after the checks of R450. -/
  | cmdQueueEnable (fn queue : Nat)
  /-- CMD_QUEUE_DISABLE R587: Clearing a CMD_EN bit disables a command queue, abandoning its semaphores and rolling back its transaction. -/
  | cmdQueueDisable (fn queue : Nat)
  /-- CPL_QUEUE_ENABLE R587: Setting CPL_EN enables the completion queue after its checks. -/
  | cplQueueEnable (fn : Nat)
  /-- CPL_QUEUE_DISABLE R587: Clearing CPL_EN disables the completion queue while no command queue is enabled. -/
  | cplQueueDisable (fn : Nat)
  /-- EVT_QUEUE_ENABLE R587: Setting EVT_EN enables the event queue after its checks. -/
  | evtQueueEnable (fn : Nat)
  /-- EVT_QUEUE_DISABLE R587: Clearing EVT_EN disables the event queue. -/
  | evtQueueDisable (fn : Nat)
  /-- MSIX_VECTOR_MASK R466: Host sets a vector's MASK bit, with the masking window for an issued message. -/
  | msixVectorMask (fn vector : Nat) (inWindow : Bool)
  /-- MSIX_VECTOR_UNMASK R466: Host clears MASK; a pending vector sends one message and clears its pending bit. -/
  | msixVectorUnmask (fn vector : Nat)
  /-- PRING_DB R590: Host writes a port-ring doorbell TAIL, making descriptors available or freezing the function. -/
  | pringDb (fn handle tail : Nat) (descs : List TxDesc)
  /-- REGISTER_WRITE R583: A write to any other BAR0 or BAR2 register or offset, applied, or ignored and counted. -/
  | registerWrite (fn bar offset size : Nat) (value : RegData)
  /-- MMIO_VIOLATION R408: An MMIO access outside the function's BARs freezes the function. -/
  | mmioViolation (fn address : Nat)
  /-- COMMAND_FETCH R452: Fetches a command once a completion entry can be reserved, and assigns its SEQ. -/
  | commandFetch (fn queue : Nat) (entry : CmdEntry)
  /-- EVENT_WRITE R457: An event is written to a function's event queue, or discarded and counted in LOST. -/
  | eventWrite (fn : Nat)
  /-- HOLD_OFF_END R466: A vector's hold-off ends and one message is sent for the entries written during it. -/
  | holdOffEnd (fn vector : Nat)
  /-- TXN_IDLE_TIMEOUT R465: A transaction whose queue was idle for 10 s is rolled back. -/
  | txnIdleTimeout (fn queue : Nat)
  /-- FLR R447: A function-level reset quiesces the function's queues, rings and streams and releases its reset-scoped state. -/
  | flr (fn : Nat)
  /-- HOT_RESET R446: A hot reset, link down, PERST_N or PCIe reset loss applies R447 to every function. -/
  | hotReset
  /-- POWER_ON_RESET R550: The power-on detector or PORST_N starts a device reset that requalifies MOSC and runs the boot sequence. -/
  | powerOnReset (pins : BootPins)
  /-- SYSTEM_RESET R550: SYSRST_N low for at least 1 µs starts a device reset. -/
  | systemReset (pins : BootPins)
  /-- COMMAND_RESET R550: A device reset 1 ms after a sys.reset or fw.activate-now completion. -/
  | commandReset (pins : BootPins)
  /-- ZEROISATION_RESET R560: A device reset that follows an armed tamper response with the main rails up. -/
  | zeroisationReset (pins : BootPins)
  /-- VBAT_APPLIED R552: VBAT applied with the device OFF takes it to VAULT. -/
  | vbatApplied
  /-- MAIN_RAILS_LOST R549: Main rails fall while VBAT is good; the vault moves to VBAT and the device enters VAULT. -/
  | mainRailsLost
  /-- POWER_LOST R558: Main rails and VBAT both lost; the vault contents are lost and the device is OFF. -/
  | powerLost
  /-- MTC_START R553: The MTC starts at TAI second 0 in the first cycle with the FC self-test passed and OL0 LOCKED. -/
  | mtcStart
  /-- MBX_READY R554: The MP writes MBX_STATE READY once the stored configuration is applied. -/
  | mbxReady
  /-- RUN_ENTRY R555: The device enters RUN from BOOT once all start conditions hold. -/
  | runEntry
  /-- BOOT_TIMEOUT R555: The device enters RUN 2 s after PORST_N release, with the missing causes in sys.health. -/
  | bootTimeout
  /-- TAMPER_STROBE R559: The vault samples TAMPER0–TAMPER3 under the strobed pull-up and acts on any tamper detected. -/
  | tamperStrobe (sample : BitVec 4)
  /-- MOSC_LOSS R30: The MOSC clock monitor declares loss; the Time Core enters LOST, outputs squelch and the PLLs hold. -/
  | moscLoss
  /-- MOSC_GOOD R30: MOSC is declared good again and the PLLs move monotonically back to MOSC-derived frequency. -/
  | moscGood
  /-- CLOCK_MONITOR_LOSS R494: A CKI, Pendant or GNSS clock monitor declares loss after 4 missing nominal periods. -/
  | clockMonitorLoss (clk : ClockInput)
  /-- CLOCK_MONITOR_GOOD R494: A clock monitor declares good after 1 ms of edges in tolerance. -/
  | clockMonitorGood (clk : ClockInput)
  /-- SNAPSHOT_UPDATE R601: The MTC passes a millisecond instant and the host snapshot is rewritten. -/
  | snapshotUpdate (cycles : Nat)
  /-- ENSEMBLE_LATCH R85: At the top of the TAI second, input states and measurements are latched for the update. -/
  | ensembleLatch (sec : Nat)
  /-- ENSEMBLE_UPDATE R145: The TP completes Assay and the ensemble update and writes the new frequency word. -/
  | ensembleUpdate
  /-- HALLMARK_PUBLISH R76: Fresh Hallmark records are computed, signed and published for the points concerned. -/
  | hallmarkPublish (points : List Nat)
  /-- HALLMARK_WINDOW_EXPIRY R32: A validity window ends without a fresh record, so emissions carry 0xFFFF_FFFF. -/
  | hallmarkWindowExpiry (point : Nat)
  /-- STEP_CYCLE R69: A pending step takes effect: offset added, slew cancelled, Hallmark withdrawn, GEN incremented and frames discarded. -/
  | stepCycle
  /-- SLEW_COMPLETE R68: The applied phase reaches the correction, and the slew ends in that cycle. -/
  | slewComplete
  /-- LEAP_TABLE_EFFECT R58: An accepted leap-second table takes effect at the next top of the TAI second. -/
  | leapTableEffect
  /-- LEAP_ANNOUNCEMENT R60: A leap announcement starts at 00:00:00 UTC of its day, or ends at T_eff. -/
  | leapAnnouncement
  /-- LOCAL_OFFSET_CHANGE R62: A scheduled local offset change takes effect at its TAI second. -/
  | localOffsetChange
  /-- MIRRORED_CHANGE_EFFECT R433: A mirrored change takes effect in both units at the first update at least 2 ms after acknowledgement. -/
  | mirroredChangeEffect
  /-- PPSI_WINDOW_END R88: A second ends without an in-window PPS edge, counting a missing pulse or a loss. -/
  | ppsiWindowEnd (input : Nat)
  /-- FREQUENCY_GATE_END R92: A 1 s frequency gate ends and is judged in or out of window. -/
  | frequencyGateEnd (ref sec ns : Nat)
  /-- IRIG_FRAME R95: An IRIG-B frame is received and checked for faults and continuity. -/
  | irigFrame (tci : Nat) (f : IrigObs)
  /-- SERIAL_TOD_MESSAGE R96: A ZDA sentence or Dreonti time-of-day frame labels a PPS edge. -/
  | serialTodMessage (tci : Nat) (m : TodMsg)
  /-- NREF_MESSAGE R102: An upstream PTP or NTP message is checked and given to the NREF servo. -/
  | nrefMessage (nref : Nat) (m : NrefMsg)
  /-- NREF_REQUEST_SEND R97: A client request is sent to an upstream master at its configured interval. -/
  | nrefRequestSend (nref : Nat)
  /-- NREF_LOSS_TIMEOUT R100: No accepted sample for the loss timeout; the master has vanished. -/
  | nrefLossTimeout (nref : Nat)
  /-- PENDANT_FRAME R106: A Pendant serial frame is received and classified, updating health or steering. -/
  | pendantFrame (pend : Nat) (noise : Nat) (frame : List (BitVec 8))
  /-- PENDANT_BYTE_GAP R104: A gap over 2 ms between bytes makes the frame malformed. -/
  | pendantByteGap (pend : Nat)
  /-- PENDANT_HEALTH_TIMEOUT R107: No well-formed health frame for the timeout; health becomes STALE. -/
  | pendantHealthTimeout (pend : Nat)
  /-- PENDANT_STEER_RESEND R110: A steer command without a reply is resent after 1 s, or steering is FAILED after three sends. -/
  | pendantSteerResend (pend : Nat)
  /-- GNSS_STREAM_LOST R115: A stream loses its clock or eye margin; it goes LOST and its channels go IDLE. -/
  | gnssStreamLost (stream : Nat)
  /-- GNSS_STREAM_CLOCK_RETURN R115: Clock edges return on a LOST stream, which re-enters ALIGN. -/
  | gnssStreamClockReturn (stream : Nat)
  /-- GNSS_STREAM_ALIGNED R115: Eye centring and the sample phase are complete; the stream is UP. -/
  | gnssStreamAligned (stream : Nat)
  /-- GNSS_EPOCH_LATCH R122: All channels are latched at a common MTC instant and an epoch record is made. -/
  | gnssEpochLatch (obs : EpochObs)
  /-- CHANNEL_ALLOCATION R118: The TP allocates the channels to satellites once per second. -/
  | channelAllocation (sats : List SatDemand)
  /-- CHANNEL_DETECTION R119: An FFT detection is confirmed and the channel enters PULL_IN, or the search is exhausted. -/
  | channelDetection (ch : Nat) (found : Detection)
  /-- CHANNEL_LOCK R119: The lock indicators hold for 200 ms with synchronisation; the channel enters TRACK. -/
  | channelLock (ch : Nat)
  /-- PULL_IN_TIMEOUT R119: Lock not reached within 2 s; the channel returns to ACQUIRE. -/
  | pullInTimeout (ch : Nat)
  /-- CHANNEL_LOCK_LOSS R119: The carrier lock or C/N0 falls; the channel enters REACQUIRE. -/
  | channelLockLoss (ch : Nat)
  /-- REACQUIRE_TIMEOUT R119: 10 s without lock; the channel returns to ACQUIRE. -/
  | reacquireTimeout (ch : Nat)
  /-- NOT_VISIBLE_EXPIRY R119: A satellite's 300 s not-visible mark expires. -/
  | notVisibleExpiry (sys sv ant : Nat)
  /-- GNSS_SOLUTION R128: The TP completes the time solutions, with RAIM and the spoofing-state recomputation. -/
  | gnssSolution (ant : Nat) (obs : SolutionObs)
  /-- OSNMA_MESSAGE R136: An E1-B navigation message is verified by the Locket under OSNMA. -/
  | osnmaMessage (sv : Nat) (page : OsnmaPage)
  /-- POWER_BASELINE_LEARNED R139: The 600 s power learning ends and the baseline is stored. -/
  | powerBaselineLearned (stream : Nat) (level : Int)
  /-- SURVEY_COMPLETE R131: The survey duration ends and the position is fixed and stored. -/
  | surveyComplete (ant : Nat) (x y z : Int) (cov : Cov3)
  /-- GNSS_ALMANAC_WRITE R121: The almanac and ephemerides are written to MRAM every 600 s. -/
  | gnssAlmanacWrite
  /-- MODEL_LEARNING R162: Every 3,600 s in LOCKED, the members' noise coefficients are re-estimated. -/
  | modelLearning (sec : Nat)
  /-- MODEL_SAVE R163: The learned models are written to MRAM every 3,600 s. -/
  | modelSave
  /-- FILIGREE_EDGE R185: A qualifying edge on a channel is stamped, or counted as too close, and queued. -/
  | filigreeEdge (ch cycle fine : Nat) (falling : Bool)
  /-- CALIBRATION_RUN_END R187: An interpolator calibration run ends, succeeding or failing. -/
  | calibrationRunEnd (unit : CalUnit) (firstCode : Nat) (hits : List Nat)
  /-- INTERPOLATOR_SWAP R188: After a successful run, the roles swap at the first idle cycle of the active interpolator. -/
  | interpolatorSwap (unit : CalUnit)
  /-- SURVIVOR_CALIBRATION_START R604: In SINGLE, the survivor's own calibration run starts 10 s after the last successful start. -/
  | survivorCalibrationStart (unit : CalUnit)
  /-- STAMP_DRAIN R191: A stamp is drained, given its time and written to its ring and consumers. -/
  | stampDrain (ch : Nat) (tslew : Bool)
  /-- FIL_RING_CHANGE_EFFECT R199: A ring change takes effect in the first cycle with no record in flight. -/
  | filRingChangeEffect (ring : Nat)
  /-- DIFF_MATCH R203: A b stamp later than the window arrives and the difference is recorded. -/
  | diffMatch (de : Nat)
  /-- DIFF_WAIT_TIMEOUT R203: The engine stops waiting and counts the a stamp as unmatched. -/
  | diffWaitTimeout (de : Nat)
  /-- DIFF_GATE_END R204: A difference gate ends and its statistics complete. -/
  | diffGateEnd (de : Nat)
  /-- FIL_STREAM_WRITE R200: Stamps are written by DMA to a host ring slot once it has been returned. -/
  | filStreamWrite (bezel ch : Nat)
  /-- LOOP_LOCK_ACHIEVED R209: The phase error stays within 20 ps for 1 ms; the loop enters LOCKED. -/
  | loopLockAchieved (loop : Nat)
  /-- LOOP_PHASE_ERROR R209: The phase error exceeds 500 ps for 16 cycles; the loop returns to ACQUIRING. -/
  | loopPhaseError (loop : Nat)
  /-- LOOP_ACQUIRE_TIMEOUT R209: LOCKED is not reached within 100 ms; the loop goes LOST. -/
  | loopAcquireTimeout (loop : Nat)
  /-- LOOP_HOLDOVER_CAUSE R209: The time clock is lost or the TDC error pin is raised; the loop enters HOLDOVER. -/
  | loopHoldoverCause (loop : Nat)
  /-- LOOP_CAUSE_CLEARED R209: The holdover cause has been clear for 1 ms; the loop re-enters ACQUIRING. -/
  | loopCauseCleared (loop : Nat)
  /-- LOOP_TUNING_LIMIT R209: The tuning word sits at a range limit for 1 ms; the loop goes LOST. -/
  | loopTuningLimit (loop : Nat)
  /-- OUTPUT_RELEASE R214: At a top of the TAI second, an output whose disabling causes have ended starts at its target. -/
  | outputRelease (kind index : Nat)
  /-- OFFSET_CHANGE_EFFECT R220: An OFFSET change moves the target at the first top of the second at least 2 ms after its widening record. -/
  | offsetChangeEffect (kind index : Nat)
  /-- OFFSET_RAMP_END R215: A loop's frequency-offset ramp reaches its new value. -/
  | offsetRampEnd (loop : Nat)
  /-- BEAD_FRAME_BUILD R225: A bead-code frame is built 1 ms before its on-time instant. -/
  | beadFrameBuild (tco : Nat)
  /-- IRIG_FRAME_BUILD R226: An IRIG-B output frame is built with its time-quality code. -/
  | irigFrameBuild (tco : Nat)
  /-- LOCKMON_PERIOD R227: The LOCKMON duty is reassessed at each 10 µs PWM period boundary. -/
  | lockmonPeriod
  /-- TAP_FIRST_VALID_SAMPLE R232: A tap's first valid decimated sample; the tap leaves WARMUP. -/
  | tapFirstValidSample (tap : Nat)
  /-- TAP_SAMPLE R233: A decimated sample is produced, timed and checked for validity. -/
  | tapSample (tap : Nat) (density : Rat) (stuck : Bool)
  /-- SV_FRAME R236: An IEC 61850-9-2 sampled-value frame is received and its samples are placed or rejected. -/
  | svFrame (vtap : Nat) (f : SvFrame)
  /-- LA_ESTIMATE R240: A quarter-cycle fit yields an estimate, tap-state changes and event commits. -/
  | laEstimate (tap : Nat) (fit : LaFit)
  /-- PHASOR_REPORT R241: A synchrophasor is formed at a reporting instant. -/
  | phasorReport (tap : Nat) (fit : LaFit)
  /-- TRANSIENT_TIMEOUT R242: After 1 s in TRANSIENT, the tap returns to SEEK. -/
  | transientTimeout (tap : Nat)
  /-- PREDICT_HOLD_LIMIT R242: The hold limit since the last valid sample expires; the tap returns to SEEK. -/
  | predictHoldLimit (tap : Nat)
  /-- SCHEDULED_EVENT_FIRE R249: A committed event fires its PULSE, TX or ARM action at t_e. -/
  | scheduledEventFire (slot : Nat)
  /-- ARM_WINDOW_CLOSE R249: An ARM acceptance window closes. -/
  | armWindowClose (slot : Nat)
  /-- LA_STREAM_WRITE R254: A sample block is written to the tap's host ring when room returns. -/
  | laStreamWrite (tap : Nat)
  /-- LINK_UP R261: PCS lock and auto-negotiation complete; the port enters UP or UP_UNTIMED. -/
  | linkUp (port : Nat) (sgmiiMatch : Bool)
  /-- LINK_DOWN R261: Block lock, synchronisation or FEC alignment is lost, or a remote fault arrives; the port goes DOWN. -/
  | linkDown (port : Nat)
  /-- LINK_FAILED_TIMEOUT R261: A link DOWN for 1 s with its quad PLL unlocked takes the port to FAILED. -/
  | linkFailedTimeout (port : Nat)
  /-- CALIBRATION_DUE R282: A loopback run falls due 600 s after the last success, or 1 s after a failure. -/
  | calibrationDue (port : Nat)
  /-- LOOPBACK_RUN_START R282: A due loopback run starts at the first idle instant of the port. -/
  | loopbackRunStart (port : Nat)
  /-- LOOPBACK_RUN_END R281: A loopback run ends, with new delays on success or a count on failure. -/
  | loopbackRunEnd (port : Nat) (obs : LoopbackObs)
  /-- PORT_TEMPERATURE_READ R284: Port temperature is read every 10 ms, adjusting transient terms and calibration due. -/
  | portTemperatureRead (port : Nat) (temp : Rat)
  /-- ASYMMETRY_EFFECT R287: A new asymmetry takes effect at its top of the TAI second. -/
  | asymmetryEffect (port : Nat)
  /-- ASYM_SETTLE_END R82: The asymmetry settle window ends and the widening is dropped. -/
  | asymSettleEnd (port : Nat)
  /-- PAIR_SETTLE_END R82: The pair settle window ends and the frozen B_pair is dropped. -/
  | pairSettleEnd
  /-- FRAME_RECEIVED R262: A received frame is checked, stamped, duplicate-discarded and delivered, steered to a ring or dropped. -/
  | frameReceived (port : Nat) (f : RxFrame)
  /-- PAUSE_FRAME R267: A received PAUSE frame starts, replaces or ends a pause, or is discarded. -/
  | pauseFrame (port : Nat) (quanta : Nat) (forUs : Bool) (fcsOk : Bool)
  /-- PAUSE_END R267: The pause in force expires after its quanta. -/
  | pauseEnd (port : Nat)
  /-- PAUSE_WATCHDOG R268: A continuous pause exceeds the watchdog limit; the pause ends and the hold-off starts. -/
  | pauseWatchdog (port : Nat)
  /-- PAUSE_HOLDOFF_END R268: The hold-off ends and PAUSE frames are honoured again. -/
  | pauseHoldoffEnd (port : Nat)
  /-- COLLISION R271: A half-duplex collision causes a retry, an excessive-collision discard or a late-collision abort. -/
  | collision (port : Nat) (late : Bool)
  /-- BACKOFF_EXPIRY R270: The back-off delay ends and transmission is retried. -/
  | backoffExpiry (port : Nat)
  /-- LPI_ENTRY R274: Transmit queues empty for the idle threshold; the port commits to low-power idle. -/
  | lpiEntry (port : Nat)
  /-- LPI_WAKE R275: A frame queued in low-power idle starts the wake. -/
  | lpiWake (port : Nat)
  /-- LPI_WAKE_COMPLETE R274: T_w after the wake begins, the waiting frame is transmitted. -/
  | lpiWakeComplete (port : Nat)
  /-- TRANSMIT_START R384: An eligible frame begins transmission under class, DRR and shaper rules. -/
  | transmitStart (port : Nat)
  /-- TRANSMIT_COMPLETE R290: A frame leaves and its descriptor is written back with status and stamp. -/
  | transmitComplete (port tb : Nat)
  /-- QUEUE_SAMPLE R386: Service queues and subscribers are sampled once per sampling period. -/
  | queueSample (port : Nat)
  /-- ARP_REQUEST R300: The TSE answers an ARP request for a configured address. -/
  | arpRequest (port address : Nat)
  /-- NEIGHBOUR_SOLICITATION R300: The TSE answers IPv6 neighbour solicitation. -/
  | neighbourSolicitation (port address : Nat)
  /-- ECHO_REQUEST R300: An ICMP echo request is answered within the rate limit, or dropped. -/
  | echoRequest (port address : Nat)
  /-- MEMBERSHIP_QUERY R300: The TSE answers an IGMPv3 or MLDv2 query for its PTP groups. -/
  | membershipQuery (port group : Nat)
  /-- DELAY_REQ R309: A Delay_Req passes the pipeline and is answered with a Delay_Resp. -/
  | delayReq (port : Nat) (m : PtpMsg)
  /-- PDELAY_REQ R309: A Pdelay_Req is answered with a Pdelay_Resp. -/
  | pdelayReq (port : Nat) (m : PtpMsg)
  /-- REQUEST_UNICAST_TRANSMISSION R319: A unicast negotiation request is granted or denied. -/
  | requestUnicastTransmission (port : Nat) (m : UnicastReq)
  /-- CANCEL_UNICAST_TRANSMISSION R320: A client cancel is acknowledged and its message types stop. -/
  | cancelUnicastTransmission (port client msgTypes : Nat)
  /-- ACKNOWLEDGE_CANCEL R320: A client's acknowledgement of a cancel frees the grant entry. -/
  | acknowledgeCancel (port client : Nat)
  /-- FOREIGN_ANNOUNCE R306: An Announce from another clock is counted and logged, never changing the port state. -/
  | foreignAnnounce (port : Nat)
  /-- NTP_REQUEST R311: An NTP or NTS request is parsed, authenticated and answered as a launch-time response, or as a NAK. -/
  | ntpRequest (port : Nat) (m : NtpReq)
  /-- NTP_LAUNCH R313: A launch-time response starts at its committed position, with the stamp checked against L. -/
  | ntpLaunch (port : Nat) (usable : Bool) (stampError : Rat)
  /-- LAUNCH_WAIT_ELIGIBLE R385: A launch-time response waiting in the launch list becomes eligible and its position is chosen. -/
  | launchWaitEligible (pipeline bezel : Nat)
  /-- SYNC_ORIGINATE R310: A service originates a Sync at its interval. -/
  | syncOriginate (service port : Nat)
  /-- ANNOUNCE_ORIGINATE R307: A service originates an Announce carrying data sets derived from the Hallmark. -/
  | announceOriginate (service port : Nat)
  /-- FOLLOW_UP_SEND R309: A Follow_Up is built once the Sync's transmit stamp is known. -/
  | followUpSend (port seq : Nat)
  /-- PDELAY_RESP_FOLLOW_UP_SEND R309: A Pdelay_Resp_Follow_Up is built once t3 is known. -/
  | pdelayRespFollowUpSend (port seq : Nat)
  /-- GRANT_EXPIRY R320: A unicast grant expires at the end of its EXPIRY second. -/
  | grantExpiry (entry : Nat)
  /-- CANCEL_TIMEOUT R320: No cancel acknowledgement within 3 s; the grant entry is freed. -/
  | cancelTimeout (entry : Nat)
  /-- SEAL_KEY_ROTATION R322: A new seal key is made, with KEY_GEN incremented, when the lifetime has elapsed. -/
  | sealKeyRotation (bezel : Nat)
  /-- SIGNET_DISPATCH R389: The STA chooses a job for an engine by reissue, credit or background. -/
  | signetDispatch (engine : Nat)
  /-- SIGNET_JOB_COMPLETE R340: A Signet job returns OK, AUTH_FAIL, NOKEY or ENGINE. -/
  | signetJobComplete (engine : Nat) (result : JobResult)
  /-- STA_POINTER_ADVANCE R388: The slot-table pointer passes entries, granting credits or passing them to background. -/
  | staPointerAdvance (entries : Nat)
  /-- STA_COMMIT_EFFECT R392: The shadow table becomes active when the pointer next reaches entry 0. -/
  | staCommitEffect
  /-- KNOWN_ANSWER_TEST R341: Each engine runs its known-answer tests every 60 s. -/
  | knownAnswerTest (engine : Nat) (pass : Bool)
  /-- PK_OPERATION_COMPLETE R342: A public-key engine operation completes for the LP. -/
  | pkOperationComplete (pk : Nat) (ok : Bool)
  /-- ENTROPY_HEALTH_FAILURE R345: A continuous health test fails and the entropy source restarts. -/
  | entropyHealthFailure
  /-- ENTROPY_STARTUP_END R343: The entropy start-up test completes, passing or counting a failed restart. -/
  | entropyStartupEnd (pass : Bool)
  /-- DRBG_RESEED R344: A DRBG unit reseeds after 1 s or 2^20 requests. -/
  | drbgReseed (inst : Nat)
  /-- DRBG_ERROR_TIMEOUT R345: 60 s without a reseed puts a DRBG unit in ERROR. -/
  | drbgErrorTimeout (inst : Nat)
  /-- SLOT_EXPIRY R350: A slot's EXPIRY passes and it becomes EXPIRED. -/
  | slotExpiry (slot : Nat)
  /-- SLOT_SCRUB R349: The integrity scrub verifies slot tags, invalidating any that fail. -/
  | slotScrub (slot : Nat) (tagGood : Bool)
  /-- TCP_SEGMENT R362: A TCP segment to port 4460 is handled by the MP's TCP state within the connection limits. -/
  | tcpSegment (port : Nat) (seg : TcpSeg)
  /-- TLS_RECORD R363: A TLS record is processed by the LP, running the handshake or NTS-KE and answering. -/
  | tlsRecord (conn : Nat) (r : TlsRec)
  /-- HANDSHAKE_TIMEOUT R362: A handshake not complete within 10 s is reset. -/
  | handshakeTimeout (conn : Nat)
  /-- CONNECTION_IDLE_TIMEOUT R362: A connection idle for 30 s is closed. -/
  | connectionIdleTimeout (conn : Nat)
  /-- NTS_KE_CLIENT_EXCHANGE R368: The Locket runs NTS-KE as a client when its cookies run low or a NAK arrives. -/
  | ntsKeClientExchange (nref : Nat) (success : Bool)
  /-- LANE_FRAME R416: A Clasp lane frame is received, authenticated and applied. -/
  | laneFrame (f : LaneFrame)
  /-- LANE_LOSS R416: One pair lane is lost or restored, raising event 0x3006. -/
  | laneLoss (lane : Nat) (lost : Bool)
  /-- PARTNER_LOST R415: No good lane frame for 10 ms; the partner is lost. -/
  | partnerLost
  /-- PARTNER_AUTHENTICATED R416: Pairability checks complete and the unit enters TRANSFER or UNPAIRED_STANDBY. -/
  | partnerAuthenticated (p : PartnerInfo)
  /-- PAIR_WAIT_TIMEOUT R415: No partner authenticated within the pair wait after RUN; the unit becomes ALONE. -/
  | pairWaitTimeout
  /-- TRANSFER_TIMEOUT R415: Transfer not complete within 120 s; the unit returns to SEEKING. -/
  | transferTimeout
  /-- CLAIM_FRAME R418: A claim frame is received and checked, updating the partner's claim and the drive decision. -/
  | claimFrame (codeOk : Bool) (claim : BitVec 16) (flags check : BitVec 4)
  /-- CLAIM_SILENCE R419: CLM_IN is silent for 8 unit intervals; the partner's claim is taken as 0. -/
  | claimSilence
  /-- CLAIM_CHANGE R420: The unit's own claim changes and its drivers and ROLE follow the comparison. -/
  | claimChange
  /-- CLAIM_DEAF_RECOVERY R422: After 1 ms of good frames with HEAR, a claim-deaf unit recomputes FITNESS. -/
  | claimDeafRecovery
  /-- PAIR_MEASUREMENTS_RECEIVED R426: The partner's raw measurements arrive and the pair set is assembled. -/
  | pairMeasurementsReceived (m : PairMeas)
  /-- PAIR_MEASUREMENT_TIMEOUT R427: No partner measurements 10 ms after the second; the update runs unpaired. -/
  | pairMeasurementTimeout
  /-- DIGEST_RECEIVED R430: The partner's SET and STATE digests are compared with this unit's own. -/
  | digestReceived (setDigest stateDigest : Nat)
  /-- DIGEST_TIMEOUT R429: No digest 200 ms after the second counts as a mismatch. -/
  | digestTimeout
  /-- RECOMPUTE_COMPLETE R430: The second-core recomputation ends, giving PAIR_FAULT or TRANSFER. -/
  | recomputeComplete (differs : Bool) (partnerFaulty : Bool)
  /-- SWAP_DUE R438: A role swap falls due and proceeds or is skipped. -/
  | swapDue
  /-- SWAP_HANDOVER R439: At S + 0.5 s, the ACTIVE unit releases the wires and the STANDBY unit takes them. -/
  | swapHandover
  /-- MP_LOCKSTEP_MISMATCH R488: The MP cores disagree and the MP restarts. -/
  | mpLockstepMismatch
  /-- MP_RESTART_COMPLETE R488: The MP restart completes and its outcome is classed as transient or fatal. -/
  | mpRestartComplete (inTime : Bool)
  /-- TP_HEARTBEAT_TIMEOUT R490: A TP core misses its 10 ms heartbeat and goes out of service. -/
  | tpHeartbeatTimeout (core : Nat)
  /-- MP_HEARTBEAT R527: The MP writes its heartbeat to the fault collector once per millisecond. -/
  | mpHeartbeat
  /-- HEARTBEAT_TIMEOUT R527: 101 ms without a heartbeat; the FC declares a fatal fault. -/
  | heartbeatTimeout
  /-- INTERRUPT_SOURCE_FIRE R492: An ICU source fires and changes its state. -/
  | interruptSourceFire (src : Nat)
  /-- END_OF_INTERRUPT R492: A target's end-of-interrupt write ends service of an active source. -/
  | endOfInterrupt (src : Nat)
  /-- SENSOR_UPDATE R494: Sensors are read and judged good, in warning, out of range or failed. -/
  | sensorUpdate (id : Nat) (reading : SensorReading)
  /-- TEMPERATURE_HOURS_WRITE R496: The temperature-hour totals are written to MRAM every 3,600 s. -/
  | temperatureHoursWrite
  /-- LOG_FLUSH R504: Staged log entries are written to MRAM within 10 ms. -/
  | logFlush
  /-- IMAGE_HASH_CHECK R510: The running image hashes are rechecked every 3,600 s; a mismatch enters RESTRICTED. -/
  | imageHashCheck (good : Bool)
  /-- FIRMWARE_CONFIRM R507: A TRIAL set that has run 600 s without an MP restart becomes CONFIRMED. -/
  | firmwareConfirm
  /-- ERROR_PIN_RAISED R518: A block error pin shows an error or a wiring fault; the sticky bit is set and the class action is taken. -/
  | errorPinRaised (word bit : Nat) (wiring : PinReport)
  /-- ERROR_PIN_CLEARED R526: A source's live bit clears, ending a non-fatal squelch where nothing else holds it. -/
  | errorPinCleared (word bit : Nat)
  /-- FSW_POLL R521: The MP reads every fault status word once per millisecond and logs newly set bits. -/
  | fswPoll
  /-- LOUPE_WINDOW_END R543: A derived-mode window ends and positions 24–31 are rewritten. -/
  | loupeWindowEnd (bank : Nat)
  /-- MISSING_FRAME R95: An expected IRIG-B frame, or a serial time-of-day message for a labelled second, fails to arrive; it is counted as missing, and the third in a row is the input's loss condition. -/
  | missingFrame (tci : Nat)
  /-- OUTPUT_ALIGNED R219: A SLEWING time-bearing output reaches its target at a pulse; its remainder becomes zero, its alignment state becomes ALIGNED, and a record is published for its point. -/
  | outputAligned (kind index : Nat)
  /-- VF_ENABLE R445: The host sets or clears VF Enable or NumVFs in the SR-IOV capability, which starts or stops virtual functions serving their bezels. -/
  | vfEnable (enable : Bool) (numVfs : Nat)
  deriving DecidableEq, Repr

end Sys2Proof
end

