-- ==== Sys2Proof/Machine/State.lean ====
section
/-! DEFINITION. The state of the block as plain data: every register, queue, counter, mode and pin the spec names,
each with its width, its rule and its reset value (the default of the field). -/

namespace Sys2Proof.Machine

/-- Timing states of the Time Core (R64). -/
inductive TimingState where
  | freeRun | acquiring | locked | holdover | lost
  deriving DecidableEq, Repr, Inhabited

/-- The state code of R64. -/
def TimingState.code : TimingState → Nat
  | .freeRun => 0 | .acquiring => 1 | .locked => 2 | .holdover => 3 | .lost => 4

/-- A slew in progress (R68), counted in residue units of 2^-56 of a time-clock cycle. -/
structure Slew where
  /-- target C | signed, residue units | R68 | none -/
  c : Int := 0
  /-- applied phase | signed, residue units | R68 | none -/
  applied : Int := 0
  /-- F_slew added each cycle | signed, 2^-56 | R68 | none -/
  f : Int := 0
  deriving DecidableEq, Repr, Inhabited

/-- A step that is pending (R69). -/
structure PendStep where
  /-- offset seconds | signed | R69, R479 | none -/
  sec : Int := 0
  /-- offset nanoseconds | signed | R69, R479 | none -/
  ns : Int := 0
  /-- offset fraction, 2^-20 ns | signed | R69, R479 | none -/
  frac : Int := 0
  /-- TAI second at whose top the step takes effect | 48 bits | R69 | none -/
  due : Nat := 0
  deriving DecidableEq, Repr, Inhabited

/-- A leap-second table accepted and waiting for the next top of the second (R58). -/
structure PendLeap where
  /-- the entries | up to 64 | R57 | none -/
  entries : List LeapEntry := []
  /-- this table increments GEN | 1 bit | R58 | none -/
  genInc : Bool := false
  /-- TAI second of effect | 48 bits | R58 | none -/
  due : Nat := 0
  deriving DecidableEq, Repr, Inhabited

/-- The master time counter (R52). -/
structure Mtc where
  /-- SEC | 48 bits | R52, R14 | 0 -/
  sec : Nat := 0
  /-- NS | 30 bits | R52, R14 | 0 -/
  ns : Nat := 0
  /-- FRAC, units of 2^-20 ns | 20 bits | R52, R14 | 0 -/
  frac : Nat := 0
  /-- cycle phase k, modulo 5 | 3 bits | R52, R54 | 0 -/
  k : Nat := 0
  /-- residue, units of 1.6 ns x 2^-56 | signed | R52, R54 | 0 -/
  res : Int := 0
  /-- the Time Core has started the counter | 1 bit | R553 | false -/
  running : Bool := false
  /-- steady frequency word | 48 bits signed, 2^-56 | R16, R53, R54 | 0: none stored -/
  freq : Int := 0
  /-- slew in progress | option | R68 | none -/
  slew : Option Slew := none
  /-- time-clock cycles run since start | count | R52 | 0 -/
  cyc : Nat := 0
  /-- sum of the offsets by which steps have moved the counter since start, 2^-20 ns | signed | R28, R69 | 0 -/
  steps : Int := 0
  deriving DecidableEq, Repr, Inhabited

/-- Settings of `ens.set_acquire` (R65, R67). -/
structure AcqCfg where
  /-- acquisition grade | 8 bits, 1-24 | R65 | 16 -/
  acqGrade : Nat := 16
  /-- hold grade | 8 bits, 1-24 | R65 | 12 -/
  holdGrade : Nat := 12
  /-- lock offset, ns | 32 bits | R65 | 50 -/
  lockOffset : Nat := 50
  /-- holdover limit, ps | 32 bits | R65 | 1000000 -/
  holdLimit : Nat := 1000000
  /-- step threshold, ns | 32 bits | R67 | 1000 -/
  stepThreshold : Nat := 1000
  /-- standing instruction for an automatic initial set | 1 bit | R67 | false: shipped disabled -/
  autoSet : Bool := false
  deriving DecidableEq, Repr, Inhabited

/-- The host time snapshot registers TC_SNAP_* (R56, R591), the same in every function. -/
structure Snap where
  /-- TC_SNAP_SEQ | 32 bits | R56, R591 | 0 -/
  seq : Nat := 0
  /-- TC_SNAP_SEC | 48 bits | R591 | 0 -/
  sec : Nat := 0
  /-- TC_SNAP_NS | 30 bits | R591 | 0 -/
  ns : Nat := 0
  /-- TC_SNAP_UTC.TAI_UTC | 16 bits signed | R591 | 0 -/
  taiUtc : Int := 0
  /-- TC_SNAP_UTC.LEAP61 | 1 bit | R591 | false -/
  leap61 : Bool := false
  /-- TC_SNAP_UTC.LEAP59 | 1 bit | R591 | false -/
  leap59 : Bool := false
  /-- TC_SNAP_UTC.TABLE | 1 bit | R591 | false -/
  table : Bool := false
  /-- TC_SNAP_UTC.STATE | 3 bits | R591 | 0 -/
  state : Nat := 0
  /-- TC_SNAP_LOCAL | 32 bits signed | R591 | 0 -/
  loc : Int := 0
  deriving DecidableEq, Repr, Inhabited

/-- The Time Core: counter, timescales, timing state, snapshot (chapter 02). -/
structure TcSt where
  /-- master time counter | see its fields | R52 | as its fields -/
  mtc : Mtc := {}
  /-- the counter at each change of the frequency word and at each step, oldest first, covering the last 2^24 cycles | list | R191 | empty -/
  hist : List Mtc := []
  /-- timescale generation GEN | 16 bits | R71 | 1: DESIGN CHOICE, the first device reset of a shipped device -/
  gen : Nat := 1
  /-- leap-second table in force, first entry the base (MRAM) | up to 64 entries | R57 | empty: none loaded (R599) -/
  leap : List LeapEntry := []
  /-- accepted table waiting for its second | option | R58 | none -/
  leapNext : Option PendLeap := none
  /-- announcement in progress at the last announcement change | 2 bits | R60 | false -/
  ann61 : Bool := false
  /-- negative announcement in progress | 1 bit | R60 | false -/
  ann59 : Bool := false
  /-- local offset in force, s (MRAM) | 32 bits signed | R62 | 0: DESIGN CHOICE 0 -/
  localOff : Int := 0
  /-- scheduled local-offset changes (MRAM) | up to 16 | R62 | empty -/
  localSched : List LocalChange := []
  /-- timing state | 3 bits | R64 | freeRun -/
  ts : TimingState := .freeRun
  /-- acquisition settings (MRAM) | see its fields | R65, R67 | as its fields -/
  acq : AcqCfg := {}
  /-- slew rate S, ns/s (MRAM) | 32 bits | R68 | 20 -/
  slewRate : Nat := 20
  /-- consecutive updates towards LOCKED from ACQUIRING | count to 16 | R65 | 0 -/
  lockRun : Nat := 0
  /-- consecutive updates without a reference at the hold grade | count to 10 | R65 | 0 -/
  freeRun : Nat := 0
  /-- consecutive updates towards LOCKED from HOLDOVER | count to 16 | R65 | 0 -/
  relockRun : Nat := 0
  /-- consecutive updates towards ACQUIRING from HOLDOVER | count to 60 | R65 | 0 -/
  agreeRun : Nat := 0
  /-- forced HOLDOVER asked for by `ens.force_state` | 1 bit | R65, R66 | false -/
  force : Bool := false
  /-- `ens.release_lost` accepted and waiting for the update | 1 bit | R65, R66 | false -/
  releaseReq : Bool := false
  /-- the present LOST was caused by MOSC loss | 1 bit | R65 | false -/
  lostByMosc : Bool := false
  /-- initial set pending, not yet done in this ACQUIRING | 1 bit | R67 | false -/
  initPending : Bool := false
  /-- initial set done in this ACQUIRING | 1 bit | R65, R67 | false -/
  initDone : Bool := false
  /-- estimated offset of the pending initial set, 2^-20 ns | signed | R67, R486 | 0 -/
  initOffset : Int := 0
  /-- pending step | option | R69 | none -/
  step : Option PendStep := none
  /-- host time snapshot | see its fields | R56 | as its fields -/
  snap : Snap := {}
  /-- FREE_RUN frequency word of the MRAM MOSC calibration record | 48 bits signed | R54 | 0: none stored -/
  moscCal : Int := 0
  /-- when MOSC was last declared good, ns of counted time without steps | count | R65 | 0 -/
  moscGoodAt : Nat := 0
  /-- the top of the second of the last ensemble latch, ns of counted time without steps | count | R85, R602 | 0 -/
  lastLatch : Nat := 0
  /-- advance of the counter over the time clock at the last latch, steps left out, fifths of 2^-20 ns | signed | R27, R154 | 0 -/
  adv : Int := 0
  /-- cycle count at the last latch | count | R52, R85 | 0 -/
  advCyc : Nat := 0
  /-- rate of the counter against the time clock over the second that ended at the last latch, by its words and slews, fractional | rational | R28, R154 | 0 -/
  ctrl : Rat := 0
  deriving DecidableEq, Repr, Inhabited

/-- The Hallmark: windows, current records, what is due (chapter 02). -/
structure HallSt where
  /-- asymmetry settle window, s (MRAM) | 32 bits, 1-3600 | R82 | 16 -/
  asymWindow : Nat := 16
  /-- pair settle window, s (MRAM) | 32 bits, 1-3600 | R82 | 16 -/
  pairWindow : Nat := 16
  /-- current record of each emission point | 32 bytes each | R71, R72 | bound 0xFFFFFFFF, SEQ 0 (R71) -/
  recs : Tab HallRec := []
  /-- points a fresh record is due for | list of POINT codes | R76 | empty -/
  due : List Nat := []
  /-- a fresh record is due for every point | 1 bit | R76 | false -/
  dueAll : Bool := false
  /-- points for which a widening is due that no published record carries yet | list of POINT codes | R81 | empty -/
  widen : List Nat := []
  /-- narrowings that follow in the next record, a point and what narrows: 0 asymmetry, 1 temperature, 2 output transient | list | R81 | empty -/
  narrow : List (Nat × Nat) := []
  /-- the end of the pair settle window that follows in the next record | 1 bit | R81 | false -/
  narrowPair : Bool := false
  /-- the Hallmark is withdrawn since a step | 1 bit | R33, R69 | false -/
  withdrawn : Bool := false
  /-- points whose validity window has ended without a fresh record | list of POINT codes | R32 | empty -/
  expired : List Nat := []
  /-- CHAIN of the last LOCKED update | 32 bits | R74 | 0 -/
  chain : Nat := 0
  /-- SRC class of the last update | 8 bits | R73 | 7 -/
  src : Nat := 7
  /-- of each bezel, rewrites of the record at 0x0_0100, two counts of its TC_SNAP_SEQ each | 64 counts | R592 | 0 -/
  snapRewrites : Tab Nat := []
  deriving DecidableEq, Repr, Inhabited

/-- A fetched command that has not completed (R452, R458). -/
structure Fetched where
  /-- the entry | 64 bytes | R455 | none -/
  entry : CmdEntry
  /-- its SEQ | 32 bits | R458 | none -/
  seq : Nat := 0
  /-- its place among all fetches of the function, for FENCE | count | R453 | none -/
  order : Nat := 0
  /-- it has begun and waits for the partner's acknowledgement | 1 bit | R433, R447 | none -/
  begun : Bool := false
  deriving DecidableEq, Repr

/-- An open transaction of a command queue (R463). -/
structure Txn where
  /-- TXN_ID | 16 bits | R463 | none -/
  id : Nat := 0
  /-- staged commands in order | up to 64 | R463 | none -/
  staged : List Instr := []
  deriving DecidableEq, Repr, Inhabited

/-- One command queue of a function (R450, R586, R594). -/
structure CmdQueue where
  /-- MBX_QCTRL.CMD_EN bit | 1 bit | R586 | false -/
  en : Bool := false
  /-- MBX_CMD_BASEn | 64 bits | R586 | 0 -/
  base : Nat := 0
  /-- TAIL of the last doorbell taken | 16 bits | R451 | 0 -/
  tail : Nat := 0
  /-- entries fetched since the enable | 16 bits | R452 | 0 -/
  fetched : Nat := 0
  /-- entries completed since the enable | 16 bits | R451 | 0 -/
  done : Nat := 0
  /-- FETCH_SEQ | 32 bits | R458 | 0 -/
  fetchSeq : Nat := 0
  /-- DONE_SEQ | 32 bits | R458 | 0 -/
  doneSeq : Nat := 0
  /-- ERR of the last enable attempt | 8 bits | R594 | 0 -/
  err : Nat := 0
  /-- fetched commands in order | up to 256 | R452, R453 | empty -/
  inflight : List Fetched := []
  /-- open transaction | option | R463 | none -/
  txn : Option Txn := none
  deriving DecidableEq, Repr, Inhabited

/-- A completion entry (R456). -/
structure Completion where
  /-- EPOCH | 32 bits | R456 | none -/
  epoch : Nat := 0
  /-- SEQ | 32 bits | R456 | none -/
  seq : Nat := 0
  /-- TAG | 32 bits | R456 | none -/
  tag : Nat := 0
  /-- STATUS | 8 bits | R456, R22 | none -/
  status : Status := .ok
  /-- QUEUE | 2 bits | R456 | none -/
  queue : Nat := 0
  /-- STAGED | 1 bit | R456, R463 | none -/
  staged : Bool := false
  /-- RESULT, its length giving RLEN | up to 40 bytes | R456, R469 | none -/
  result : Rec := []
  /-- what was written to the extended buffer, its length giving XUSED | bytes | R456, R474 | none -/
  xb : Rec := []
  /-- PHASE | 1 bit | R456 | none -/
  phase : Nat := 1
  deriving DecidableEq, Repr, Inhabited

/-- An event that has fallen due, before it is written (R457, R486). -/
structure DueEvent where
  /-- CODE | 16 bits | R457, R486 | none -/
  code : Nat := 0
  /-- TIME | ETW | R457 | none -/
  time : Etw := {}
  /-- DETAIL | up to 28 bytes | R457, R486 | none -/
  detail : Rec := []
  deriving DecidableEq, Repr, Inhabited

/-- An event entry written to an event queue (R457). -/
structure EventEntry where
  /-- EPOCH | 32 bits | R457 | none -/
  epoch : Nat := 0
  /-- ESEQ | 32 bits | R457 | none -/
  eseq : Nat := 0
  /-- LOST | 32 bits | R457 | none -/
  lost : Nat := 0
  /-- CODE, TIME and DETAIL; GROUP is CODE [15:8] | see its fields | R457 | none -/
  ev : DueEvent := {}
  /-- PHASE | 1 bit | R457 | none -/
  phase : Nat := 1
  deriving DecidableEq, Repr, Inhabited

/-- One MSI-X vector with its hold-off (R466, R589). -/
structure Vec where
  /-- MSIX_ADDRnn | 64 bits | R589 | 0 -/
  addr : Nat := 0
  /-- MSIX_DATAnn | 32 bits | R589 | 0 -/
  data : Nat := 0
  /-- MSIX_CTRLnn.MASK | 1 bit | R589 | true -/
  mask : Bool := true
  /-- MSIX_PBA bit | 1 bit | R589 | false -/
  pend : Bool := false
  /-- MBX_VEC_HOLDnn, us | 10 bits | R589 | 0 -/
  hold : Nat := 0
  /-- a hold-off runs after a message | 1 bit | R466 | false -/
  holding : Bool := false
  /-- entries were written during the hold-off | 1 bit | R466 | false -/
  more : Bool := false
  /-- messages sent | count | R466 | 0 -/
  sent : Nat := 0
  deriving DecidableEq, Repr, Inhabited

/-- States of a hardware semaphore (R461). -/
inductive SemState where
  | free | held | abandoned
  deriving DecidableEq, Repr, Inhabited

/-- One hardware semaphore, kept in MRAM (R461, R596). -/
structure Sem where
  /-- STATE | 2 bits | R461, R596 | free: DESIGN CHOICE, shipped -/
  st : SemState := .free
  /-- OWNER command queue | 2 bits | R461, R596 | 0 -/
  owner : Nat := 0
  /-- GEN | 16 bits | R461, R596 | 0: DESIGN CHOICE, shipped -/
  gen : Nat := 0
  deriving DecidableEq, Repr, Inhabited

/-- The mailbox and MSI-X state of one PCIe function (chapters 15, 22). -/
structure FnSt where
  /-- command queues 0-3 | 4 | R450 | as its fields -/
  queues : Tab CmdQueue := []
  /-- CPL_EN | 1 bit | R586 | false -/
  cplEn : Bool := false
  /-- MBX_CPL_BASE | 64 bits | R586 | 0 -/
  cplBase : Nat := 0
  /-- CPL_VEC | 6 bits | R586 | 0 -/
  cplVec : Nat := 0
  /-- CPL_PUT, completion entries written | 16 bits | R594 | 0 -/
  cplPut : Nat := 0
  /-- completion HEAD released by the host | 16 bits | R584 | 0 -/
  cplHead : Nat := 0
  /-- completion entries reserved at fetch and not yet written | 10 bits | R452 | 0 -/
  cplRes : Nat := 0
  /-- completion entries written and not yet released | 64 bytes each | R456 | empty -/
  cplQ : List Completion := []
  /-- the completion entry last written, as its bytes | 64 bytes | R456 | empty -/
  cplOctets : List Nat := []
  /-- EVT_EN | 1 bit | R586 | false -/
  evtEn : Bool := false
  /-- MBX_EVT_BASE | 64 bits | R586 | 0 -/
  evtBase : Nat := 0
  /-- EVT_SIZE | 4 bits | R586 | 6 -/
  evtSize : Nat := 6
  /-- EVT_VEC | 6 bits | R586 | 1 -/
  evtVec : Nat := 1
  /-- EVT_PUT | 16 bits | R594 | 0 -/
  evtPut : Nat := 0
  /-- event HEAD released by the host | 16 bits | R584 | 0 -/
  evtHead : Nat := 0
  /-- ESEQ_NEXT | 32 bits | R457, R594 | 0 -/
  eseq : Nat := 0
  /-- LOST since the last event written | 32 bits | R594 | 0 -/
  lost : Nat := 0
  /-- event entries written and not yet released | 64 bytes each | R457 | empty -/
  evtQ : List EventEntry := []
  /-- the event entry last written, as its bytes | 64 bytes | R457 | empty -/
  evtOctets : List Nat := []
  /-- events that have fallen due and are not yet written | list | R457 | empty -/
  due : List DueEvent := []
  /-- MBX_EVT_STAT.ERR | 8 bits | R594 | 0 -/
  qErr : Nat := 0
  /-- MSI-X vectors | 64 | R466, R589 | as its fields -/
  vecs : Tab Vec := []
  /-- hardware semaphores (MRAM) | 64 | R461 | as its fields -/
  sems : Tab Sem := []
  /-- the function is frozen | 1 bit | R44, R45 | false -/
  frozen : Bool := false
  /-- ignored register and doorbell writes | count | R449, R451, R583 | 0 -/
  ignored : Nat := 0
  /-- fetches made, ordering FENCE | count | R453 | 0 -/
  order : Nat := 0
  /-- transactions rolled back | count | R465 | 0 -/
  rollbacks : Nat := 0
  deriving DecidableEq, Repr, Inhabited

/-- The host interface (chapters 15, 22). -/
structure MbxSt where
  /-- per-function state, indexed by bezel number | 64 | R444 | as its fields -/
  fns : Tab FnSt := []
  /-- MBX_EPOCH (MRAM) | 32 bits | R458 | 1: DESIGN CHOICE, the first device reset of a shipped device -/
  epoch : Nat := 1
  /-- MBX_STATE.READY | 1 bit | R593 | false -/
  ready : Bool := false
  /-- VF Enable of the SR-IOV capability | 1 bit | R445 | false: PRESUMED, the SR-IOV capability's own reset -/
  vfEnable : Bool := false
  /-- NumVFs | 16 bits | R445 | 0: PRESUMED, the SR-IOV capability's own reset -/
  numVfs : Nat := 0
  /-- next TXN_ID | 16 bits | R463 | 1: DESIGN CHOICE -/
  nextTxn : Nat := 1
  /-- DEV_CTRL.TEST_DIS (RWL) | 1 bit | R586 | false -/
  testDis : Bool := false
  /-- DEV_CTRL.BOARD_TAG (RWL) | 8 bits | R586 | 0 -/
  boardTag : Nat := 0
  /-- change counts of objects in this epoch, keyed by objKey | 32 bits each | R476 | 0 -/
  objGen : Tab Nat := []
  deriving DecidableEq, Repr, Inhabited

/-- One DMA window of a bezel (R400, R403). -/
structure DmaWindow where
  /-- BASE | 64 bits | R484 | 0 -/
  base : Nat := 0
  /-- SIZE, 0 for none | 64 bits | R484 | 0 -/
  size : Nat := 0
  deriving DecidableEq, Repr, Inhabited

/-- One row of the ownership table (R400). -/
structure BezelRow where
  /-- the bezel exists | 1 bit | R397 | false (BZ00: R397 makes it exist from device reset) -/
  present : Bool := false
  /-- the bezel is DELETING | 1 bit | R399 | false -/
  deleting : Bool := false
  /-- subscriber range base | 32 bits | R400 | 0 -/
  subBase : Nat := 0
  /-- subscriber range count | 32 bits | R400 | 0 -/
  subCount : Nat := 0
  /-- grant-table entries quota | 32 bits | R400 | 0 -/
  grants : Nat := 0
  /-- key pool slot quota | 16 bits | R400 | 32 -/
  poolSlots : Nat := 32
  /-- subscriber rule quota | 16 bits | R400 | 256 -/
  rules : Nat := 256
  /-- DMA windows 0-15 | 16 | R400 | none -/
  windows : Tab DmaWindow := []
  /-- NONTIMING | 1 bit | R273, R400 | false -/
  nonTiming : Bool := false
  /-- ISOLATED | 1 bit | R406 | false -/
  isolated : Bool := false
  /-- first failed condition of R406, 0 none | 8 bits | R406 | 1: DEDUCED, no Signet reservation -/
  failed : Nat := 1
  /-- frozen DMA queues, streams and agents as KIND*65536+INDEX | list | R408 | empty -/
  frozen : List Nat := []
  deriving DecidableEq, Repr, Inhabited

/-- The ownership table (chapter 13). -/
structure BezSt where
  /-- one row per bezel | 64 | R400 | BZ00 alone, with subscribers 0 to 1023 (R397) -/
  rows : Tab BezelRow := [(0, { present := true, subCount := 1024, grants := 1048576, poolSlots := 3776, rules := 16384 })]
  /-- owning bezel of each port | 256 x 6 bits | R397, R402 | 0 -/
  portOwner : Tab Nat := []
  deriving DecidableEq, Repr, Inhabited

/-- Device power states (R552), coded as POWER of `sys.read_info`. -/
inductive PowerState where
  | off | vault | boot | restricted | run | degraded
  deriving DecidableEq, Repr, Inhabited

/-- The POWER code of R476. -/
def PowerState.code : PowerState → Nat
  | .off => 0 | .vault => 1 | .boot => 2 | .restricted => 3 | .run => 4 | .degraded => 5

/-- Power, reset and the vault (chapter 20). -/
structure PwrSt where
  /-- device power state | 3 bits | R552, R593 | boot -/
  st : PowerState := .boot
  /-- MOSC declared good by the clock monitor | 1 bit | R494, R556 | false -/
  moscGood : Bool := false
  /-- MOSC monitor has declared loss since it was good (the PLLs hold) | 1 bit | R30 | false -/
  moscLost : Bool := false
  /-- the stored configuration is applied | 1 bit | R554, R555 | false -/
  cfgApplied : Bool := false
  /-- a command reset or zeroisation reset pending, with its CAUSE code | option | R550, R560 | none -/
  cmdReset : Option Nat := none
  /-- vault key-encryption key present | 1 bit | R557 | true: DESIGN CHOICE, generated at the first boot (R353) -/
  kek : Bool := true
  /-- tamper latches | 4 bits | R557 | 0: DESIGN CHOICE, new vault -/
  latch : BitVec 4 := 0
  /-- tamper inputs at the last strobe | 4 bits | R557, R559 | 0: DESIGN CHOICE, loops closed -/
  present : BitVec 4 := 0
  /-- VGEN | 16 bits | R557, R558 | 1 -/
  vgen : Nat := 1
  /-- TCOUNT | 32 bits | R557 | 0 -/
  tcount : Nat := 0
  /-- VBAT within range | 1 bit | R557 | true: DESIGN CHOICE -/
  vbatOk : Bool := true
  /-- CAUSE of the last device reset | 8 bits | R557 | 0 -/
  cause : Nat := 0
  /-- fuse rows 0 and 1 programmed | 2 bits | R562, R563 | 0: unsealed as shipped -/
  fuses : BitVec 2 := 0
  /-- PAIR_ID strap read at device reset | 1 bit | R413, R593 | false: DESIGN CHOICE, strap low -/
  pairId : Bool := false
  /-- MOSC_SEL strap read at device reset: MOSC runs at 100 MHz, else at 10 MHz | 1 bit | R568 | false: DESIGN CHOICE, strap low -/
  mosc100 : Bool := false
  /-- an armed tamper holds the device in RESTRICTED | 1 bit | R561 | false -/
  tamperHold : Bool := false
  /-- a tamper detection waits to be logged until the MP runs | 1 bit | R560 | false -/
  unlogged : Bool := false
  deriving DecidableEq, Repr, Inhabited

/-- The fault collector and device health (chapter 18). -/
structure FaultSt where
  /-- sticky words FSW00-FSW15 | 16 x 32 bits | R519, R520 | 0 -/
  sticky : Tab (BitVec 32) := []
  /-- live words | 16 x 32 bits | R519, R520 | 0 -/
  live : Tab (BitVec 32) := []
  /-- sticky bits the MP has logged | 16 x 32 bits | R520, R521 | 0 -/
  logged : Tab (BitVec 32) := []
  /-- FATAL-class squelch latched | 1 bit | R522, R526 | false -/
  fatal : Bool := false
  /-- REPLACE_N asserted | 1 bit | R528 | false: released (R551) -/
  replace : Bool := false
  /-- ALIVE has started (first heartbeat seen) | 1 bit | R527 | false -/
  alive : Bool := false
  /-- heartbeat writes since device reset | count | R527 | 0 -/
  beats : Nat := 0
  /-- sources whose pin reads wiring fault now | list | R518, R520 | empty -/
  wired : List Nat := []
  /-- leaves of a source's block that have reported a wiring fault | table of lists | R517 | empty -/
  leaves : Tab (List Nat) := []
  /-- instant of the first heartbeat, from which ALIVE changes level every 500 us, ns of counted time | count | R527 | 0 -/
  aliveAt : Nat := 0
  /-- FC runs on its backup oscillator | 1 bit | R29, R30 | true: BOOT step 1 -/
  backup : Bool := true
  /-- present causes of `sys.health`, 16-bit codes | list | R530 | empty -/
  causes : List Nat := []
  deriving DecidableEq, Repr, Inhabited

/-- One Loupe bank (R540, R543). -/
structure LoupeBank where
  /-- MODE 0, 1, 2 | 2 bits | R543 | 0 -/
  mode : Nat := 0
  /-- WINDOW, ms | 32 bits | R543 | 0 -/
  window : Nat := 0
  /-- granted bezel | option | R540 | none -/
  grantee : Option Nat := none
  /-- running derived values of the present window, positions 24-31 order | 8 x 48 bits | R544, R545 | 0 -/
  acc : Tab Nat := []
  /-- windows completed since the mode was set | 48 bits | R544 | 0 -/
  windows : Nat := 0
  deriving DecidableEq, Repr, Inhabited

/-- An armed overflow interrupt (R542). -/
structure LoupeArm where
  /-- issuing function | 6 bits | R542 | none -/
  fn : Nat := 0
  /-- VECTOR | 6 bits | R542 | none -/
  vector : Nat := 2
  deriving DecidableEq, Repr, Inhabited

/-- The Loupe counters (chapter 19). -/
structure LoupeSt where
  /-- the counters | 10240 x 48 bits | R534 | 0 -/
  ctr : Tab Nat := []
  /-- armed overflow interrupts by counter | sparse | R542 | none -/
  armed : List (Nat × LoupeArm) := []
  /-- banks 0-319 | 320 | R534, R543 | as its fields -/
  banks : Tab LoupeBank := []
  deriving DecidableEq, Repr, Inhabited

/-- Pair states (R414). -/
inductive PairState where
  | off | seeking | unpairedStandby | transfer | active | standby | alone | pairFault
  deriving DecidableEq, Repr, Inhabited

/-- The code of a pair state (R414 order, OFF = 0; R485). -/
def PairState.code : PairState → Nat
  | .off => 0 | .seeking => 1 | .unpairedStandby => 2 | .transfer => 3 | .active => 4 | .standby => 5
  | .alone => 6 | .pairFault => 7

/-- A mirrored change waiting for its acknowledgement or its effect (R433). -/
structure MirrorItem where
  /-- the command, or the commands of one transaction | list | R433, R464 | none -/
  cmds : List Instr := []
  /-- the commands are one record set, of a transaction | 1 bit | R464, R501 | none -/
  asSet : Bool := false
  /-- acknowledged by the partner | 1 bit | R433 | none -/
  acked : Bool := false
  /-- instant of the acknowledgement, ns of counted time without steps | count | R433 | none -/
  ackAt : Nat := 0
  /-- function and queue whose completion waits for the acknowledgement, with SEQ and TAG | record | R433 | none -/
  done : Option (Nat × Nat × Nat × Nat) := none
  /-- RESULT of that completion | bytes | R433 | none -/
  result : Rec := []
  /-- what that completion writes to the extended buffer | bytes | R433, R474 | none -/
  xb : Rec := []
  /-- the counter at the acceptance, from which a change's own deferral counts | see its fields | R433, R464 | none -/
  stood : Mtc := {}
  /-- counter of free values at the acceptance | count | none: the model's own field | 0: DESIGN CHOICE -/
  free : Nat := 0
  deriving DecidableEq, Repr, Inhabited

/-- The divergence record (R430, R485). -/
structure Divergence where
  /-- TAI second | 48 bits | R430 | none -/
  sec : Nat := 0
  /-- own SET, partner SET | 2 x 128 bits | R430 | none -/
  sets : Nat × Nat := (0, 0)
  /-- own STATE, partner STATE | 2 x 128 bits | R430 | none -/
  states : Nat × Nat := (0, 0)
  deriving DecidableEq, Repr, Inhabited

/-- The Clasp and the claim channel (chapter 14). -/
structure ClaspSt where
  /-- own pair state | 3 bits | R414 | off -/
  st : PairState := .off
  /-- partner's pair state as last reported | 3 bits | R414 | off -/
  partner : PairState := .off
  /-- d_pps, ps | 32 bits, 0-100000 | R413, R485 | 0: DESIGN CHOICE 0 -/
  dPps : Nat := 0
  /-- pair wait, s | 32 bits, 1-600 | R415 | 10 -/
  pairWait : Nat := 10
  /-- paired ports | 256 bits | R434, R485 | none -/
  ports : List Nat := []
  /-- swap period, days, 0 OFF | 8 bits | R438 | 7 -/
  swapPeriod : Nat := 7
  /-- swap second of the day | 32 bits | R438 | 10800 -/
  swapSecond : Nat := 10800
  /-- TAI second at which a swap commanded or postponed is due | option | R438 | none -/
  swapDue : Option Nat := none
  /-- a swap has been agreed and awaits its handover instant | option TAI second S | R439 | none -/
  swapArmed : Option Nat := none
  /-- partner's last good frame carried SWAP | 1 bit | R439 | false -/
  partnerSwap : Bool := false
  /-- the two pair lanes are up | 2 bits | R416 | false -/
  lane0 : Bool := false
  /-- lane 1 is up | 1 bit | R416 | false -/
  lane1 : Bool := false
  /-- partner authenticated (device certificate and owner root) | 1 bit | R416 | false -/
  authed : Bool := false
  /-- partner is pairable | 1 bit | R416, R442 | false -/
  pairable : Bool := false
  /-- both units read the same PAIR_ID | 1 bit | R413 | false -/
  idConflict : Bool := false
  /-- this unit's ROLE bit | 1 bit | R417, R420 | false -/
  role : Bool := false
  /-- partner's claim as taken under R419 | 16 bits | R419 | 0 -/
  partnerClaim : Nat := 0
  /-- partner drives, of its last good frame | 1 bit | R418, R419 | false -/
  partnerDrive : Bool := false
  /-- partner hears us, of its last good frame | 1 bit | R418 | false -/
  partnerHear : Bool := false
  /-- this unit's claim | 16 bits | R417, R593 | 0 -/
  claim : Nat := 0
  /-- this unit's claim exceeds the partner's: the claim condition of R213 | 1 bit | R420 | false -/
  wires : Bool := false
  /-- good frames are being received (HEAR to send) | 1 bit | R418 | false -/
  hear : Bool := false
  /-- consecutive bad frames | count | R418, R419 | 0 -/
  badRun : Nat := 0
  /-- consecutive good frames with DRIVE and without HEAR | count | R422 | 0 -/
  deafRun : Nat := 0
  /-- claim-deaf: FITNESS held at 0 | 1 bit | R422 | false -/
  deaf : Bool := false
  /-- bad claim frames | 48 bits | R418, R539 | 0 -/
  badClaims : Nat := 0
  /-- bad lane frames | 48 bits | R416, R539 | 0 -/
  badLanes : Nat := 0
  /-- divergences | 48 bits | R430, R539 | 0 -/
  divergences : Nat := 0
  /-- last divergence | record | R430, R485 | none -/
  lastDiv : Divergence := {}
  /-- instants, ns of counted time without steps, of divergences with equal SET values in the last 24 h | list | R430 | empty -/
  divTimes : List Nat := []
  /-- own SET digest of the last update | 128 bits | R429 | 0 -/
  ownSet : Nat := 0
  /-- own STATE digest of the last update | 128 bits | R429 | 0 -/
  ownState : Nat := 0
  /-- own digest is marked unpaired | 1 bit | R427 | false -/
  unpaired : Bool := false
  /-- consecutive matching digests | count | R415 | 0 -/
  matchRun : Nat := 0
  /-- last digest comparison matched (INSTEP) | 1 bit | R418 | false -/
  inStep : Bool := false
  /-- consecutive updates in ACTIVE or STANDBY with INSTEP | count to 60 | R438 | 0 -/
  stepRun : Nat := 0
  /-- a recomputation runs after a divergence | 1 bit | R430 | false -/
  recompute : Bool := false
  /-- the recomputing divergence had equal SET values | 1 bit | R430 | false -/
  divEqual : Bool := false
  /-- Delta_own, ps | signed | R425 | 0 -/
  dOwn : Int := 0
  /-- Delta_partner, ps | signed | R80 | 0 -/
  dPartner : Int := 0
  /-- delta applied as trim, ps | signed rational | R426, R428 | 0 -/
  trim : Rat := 0
  /-- partner's measurements of the second: REF, measurement, variance | list | R425, R426 | empty -/
  partnerRefs : List (Nat × Rat × Rat) := []
  /-- this unit held ROLE at the last latch | 1 bit | R426 | false -/
  roleAtLatch : Bool := false
  /-- partner's measurements have arrived for this second | 1 bit | R425, R427 | false -/
  gotMeas : Bool := false
  /-- frozen pair term while the pair settle window runs, ps | option | R82 | none -/
  frozenPair : Option Nat := none
  /-- both units have published records that include B_pair | 1 bit | R441 | false -/
  fit : Bool := false
  /-- mirrored changes in order | list | R433 | empty -/
  mirror : List MirrorItem := []
  /-- the join step has been taken in this TRANSFER | 1 bit | R440 | false -/
  joined : Bool := false
  /-- time-clock cycle in which CLM_OUT fell silent for 32 unit intervals | option, count | R419 | none -/
  silentAt : Option Nat := none
  /-- claim frame on CLM_OUT: CLAIM, FLAGS, CHECK; none while CLM_OUT is held low | option, 16, 4 and 4 bits | R418, R419 | none -/
  frame : Option (Nat × Nat × Nat) := none
  /-- time-clock cycle up to which the agreed post-swap claim of the partner stands | option, count | R439 | none -/
  agreedTo : Option Nat := none
  /-- instant from which every frame received was good with HEAR set, ns of counted time without steps | option, count | R422 | none -/
  hearSince : Option Nat := none
  /-- the partner has published records that include B_pair | 1 bit | R441 | false -/
  partnerFit : Bool := false
  /-- slot of the pair transport key | option, 12 bits | R416 | none -/
  transport : Option Nat := none
  /-- the measurements of the second last sent over the lanes | see its fields | R425 | none -/
  sent : Option PairMeas := none
  deriving DecidableEq, Repr, Inhabited

/-- Input states (R86). -/
inductive InState where
  | off | absent | qualifying | valid | held | fault
  deriving DecidableEq, Repr, Inhabited

/-- The STATE code of `ref.read_status` (R86 order, OFF = 0; R477). -/
def InState.code : InState → Nat
  | .off => 0 | .absent => 1 | .qualifying => 2 | .valid => 3 | .held => 4 | .fault => 5

/-- What every reference input holds, indexed by its REF code (R86, R87). -/
structure RefIn where
  /-- input state | 3 bits | R86 | off -/
  st : InState := .off
  /-- steps of the qualification run completed | count | R87 | 0 -/
  run : Nat := 0
  /-- consecutive failed qualification runs | count to 8 | R87, R605 | 0 -/
  fails : Nat := 0
  /-- consecutive missing pulses or frames | count to 3 | R88, R95 | 0 -/
  missRun : Nat := 0
  /-- measurement against the MTC delivered for the present second: MTC minus reference in ps for a time reference,
  fractional frequency for a frequency input | rational | R85, R88, R92 | none -/
  meas : Option Rat := none
  /-- variance that goes with it, ps^2 or squared fractional frequency | rational | R98 | 0 -/
  var : Rat := 0
  /-- rate against the MTC that goes with it and its variance, fractional | rationals | R98, R135 | none -/
  freq : Option (Rat × Rat) := none
  /-- rate at the last latch | rationals | R85 | none -/
  latchedFreq : Option (Rat × Rat) := none
  /-- state at the last latch | 3 bits | R85 | off -/
  latched : InState := .off
  /-- measurement at the last latch | rational | R85 | none -/
  latchedMeas : Option Rat := none
  /-- variance at the last latch | rational | R85, R135 | 0 -/
  latchedVar : Rat := 0
  /-- counters by cause | 48 bits each | R539 | 0 -/
  cnt : Tab Nat := []
  deriving DecidableEq, Repr, Inhabited

/-- A PPS input PPSI0-PPSI3 (R88-R90). -/
structure PpsIn where
  /-- FALLING polarity | 1 bit | R88, R477 | false -/
  falling : Bool := false
  /-- W, ns | 32 bits | R88 | 1000 -/
  w : Nat := 1000
  /-- cable delay, ps | signed | R89 | 0: DESIGN CHOICE 0 -/
  cable : Int := 0
  /-- declared uncertainty, ps | 32 bits | R89 | 0: DESIGN CHOICE 0 -/
  u : Nat := 0
  /-- previous in-window edge, units of 2^-20 ns | MTC instant | R88 | none -/
  last : Option Int := none
  /-- that edge's stamp was COARSE | 1 bit | R190 | false -/
  coarse : Bool := false
  /-- the input had a time-of-day source at the last latch | 1 bit | R85, R90 | false -/
  tod : Bool := false
  /-- an in-window edge has been used in the present second | 1 bit | R88 | false -/
  seen : Bool := false
  /-- operator's second waiting for the next in-window edge | 48 bits | R90 | none -/
  next : Option Nat := none
  /-- labelled edge and its second | instant and 48 bits | R90 | none -/
  label : Option (Int × Nat) := none
  /-- serial label waiting for the next edge | 48 bits | R96 | none -/
  serialNext : Option Nat := none
  /-- edge labelled by serial time of day, and its second | instant and 48 bits | R96 | none -/
  serial : Option (Int × Nat) := none
  deriving DecidableEq, Repr, Inhabited

/-- A frequency input CKI0-CKI3 (R91, R92). -/
structure ClkIn where
  /-- nominal frequency, Hz | 32 bits | R91 | 10000000: DESIGN CHOICE -/
  fN : Nat := 10000000
  /-- stamp rate, Hz | 32 bits | R91 | 1000 -/
  stampRate : Nat := 1000
  /-- W_F, 0.01 ppm | 32 bits | R92 | 1000 -/
  wF : Nat := 1000
  deriving DecidableEq, Repr, Inhabited

/-- A stamp that begins or ends a frequency gate (R92): its time, the input cycles counted up to it, and whether it is COARSE. -/
structure GateStamp where
  /-- time, 2^-20 ns | MTC instant | R92 | none -/
  t : Int := 0
  /-- input cycles | 32 bits | R92, R201 | 0 -/
  edges : Nat := 0
  /-- COARSE | 1 bit | R92, R190 | false -/
  coarse : Bool := false
  deriving DecidableEq, Repr, Inhabited

/-- The gate of a frequency input, MOSC among them (R92). -/
structure FreqGate where
  /-- stamp the gate began with | option | R92 | none -/
  first : Option GateStamp := none
  /-- last stamp of the gate | option | R92 | none -/
  last : Option GateStamp := none
  deriving DecidableEq, Repr, Inhabited

/-- A time-code input TCI0-TCI1 (R93-R96). -/
structure TcIn where
  /-- KIND 0 off, 1 IRIG-B, 2 serial | 2 bits | R93 | 0 -/
  kind : Nat := 0
  /-- FORMAT or BAUD | 3 bits | R94, R96 | 0: DESIGN CHOICE -/
  format : Nat := 0
  /-- TIMESCALE or MESSAGE | 2 bits | R94, R96 | 0: DESIGN CHOICE -/
  scale : Nat := 0
  /-- IEEE1344 | 1 bit | R94 | false -/
  ieee1344 : Bool := false
  /-- PREVIOUS | 1 bit | R96 | false -/
  previous : Bool := false
  /-- time of the previous well-formed frame, TAI s | 48 bits | R95 | none -/
  last : Option Nat := none
  /-- stamp of the last on-time edge, 2^-20 ns, and whether it is COARSE | option | R84, R94 | none -/
  pr : Option (Int × Bool) := none
  /-- IEEE 1344 fields of the last well-formed frame that carried them | option | R94 | none -/
  ext : Option IrigExt := none
  /-- a message has been taken in the present labelling interval | 1 bit | R96 | false -/
  seen : Bool := false
  deriving DecidableEq, Repr, Inhabited

/-- A network reference NREF00-NREF15 (R97-R103). -/
structure NrefIn where
  /-- configuration of `ref.set_nref` | see its fields | R477 | disabled -/
  cfg : NrefArgs := { nref := 0, accept := 1000, loss := 3 }
  /-- accepted samples of the present window: offset and path delay, ps | list | R98 | empty -/
  samples : List (Rat × Rat) := []
  /-- outliers of the present window | count | R99 | 0 -/
  outliers : Nat := 0
  /-- consecutive windows in which every sample was an outlier | count to 8 | R99 | 0 -/
  outRun : Nat := 0
  /-- offsets of the last 16 windows with the latch of each, ns of counted time without steps, and their variance, ps and ps^2 | list | R98 | empty -/
  hist : List (Nat × Rat × Rat) := []
  /-- last offset, ps | rational | R98, R101 | 0 -/
  offset : Rat := 0
  /-- last rate, fractional | rational | R98, R101 | 0 -/
  rate : Rat := 0
  /-- latch of the last offset, ns of counted time without steps | count | R101 | 0 -/
  at_ : Nat := 0
  /-- grandmasterIdentity over sourcePortIdentity, or reference ID over stratum, as one number | 144 bits | R100 | none -/
  ident : Option Nat := none
  /-- CHAIN of the verified upstream Hallmark no more than 1.1 s old at the last latch | 32 bits | R74, R85, R103 | none -/
  chain : Option Nat := none
  /-- BOUND of that Hallmark, ps | 32 bits | R85, R103 | none -/
  bound : Option Nat := none
  /-- the last upstream Hallmark that verified | record | R100, R103 | none -/
  hall : Option HallRec := none
  /-- sequenceId last received, by kind of message | 16 bits each | R102 | none -/
  lastSeq : Tab Nat := []
  /-- last Sync: sequenceId and when it came, ns of counted time without steps | option | R102 | none -/
  lastSync : Option (Nat × Nat) := none
  /-- the servo entered HOLD in the present window | 1 bit | R100 | false -/
  heldNow : Bool := false
  /-- the first window after HOLD reports a return jump | 1 bit | R101 | false -/
  returning : Bool := false
  /-- last return jump, ps | rational | R101 | none -/
  jump : Option Rat := none
  /-- outstanding requests | count | R97, R102 | 0 -/
  outstanding : Nat := 0
  /-- requests sent | 16 bits | R97 | 0 -/
  reqSeq : Nat := 0
  /-- NTS cookies held | count | R368 | 0 -/
  cookies : Nat := 0
  deriving DecidableEq, Repr, Inhabited

/-- Pendant health (R107). -/
inductive Health where
  | none | stale | alarm | warmup | good
  deriving DecidableEq, Repr, Inhabited

/-- A Pendant port PEND0-PEND3 (R104-R110). -/
structure PendIn where
  /-- configuration of `ref.set_pendant` | see its fields | R477 | deconfigured, G 1, SMAX 65536, HEALTH_TIMEOUT 3 -/
  cfg : PendantArgs := { pend := 0, g := 1, smax := 65536, healthTimeout := 3, stampRate := 1000, sck := 1 }
  /-- health | 3 bits | R107 | none -/
  health : Health := .none
  /-- KIND of the last well-formed health frame | 8 bits | R105 | 0 -/
  kind : Nat := 0
  /-- TEMP, 0.01 C | 16 bits signed | R105 | 0 -/
  temp : Int := 0
  /-- MONITOR | 32 bits | R105 | 0 -/
  monitor : Nat := 0
  /-- STEER the partner reports | 48 bits signed | R105 | 0 -/
  steer : Int := 0
  /-- SEQ of the previous health frame | 8 bits | R105, R106 | none -/
  seq : Option Nat := none
  /-- carried residue e, LSB | rational | R109 | 0 -/
  e : Rat := 0
  /-- last DAC code written | 24 bits | R109 | none -/
  last : Option Int := none
  /-- correction in force as last applied or acknowledged | 48 bits signed | R109, R110 | 0 -/
  applied : Int := 0
  /-- last frame on PSPI: bits and value, prefix first | up to 32 bits | R109 | none -/
  spi : Option (Nat × Nat) := none
  /-- last frame sent on PENDn_TXD | bytes | R110 | empty -/
  txd : List (BitVec 8) := []
  /-- SEQ of the last steer command | 8 bits | R110 | 0 -/
  steerSeq : Nat := 0
  /-- steer command awaiting its reply | 48 bits signed | R110 | none -/
  waiting : Option Int := none
  /-- sends of that command | count to 3 | R110 | 0 -/
  sends : Nat := 0
  /-- steering FAILED | 1 bit | R110 | false -/
  failed : Bool := false
  deriving DecidableEq, Repr, Inhabited

/-- Reference inputs and Pendant ports (chapter 03). -/
structure RefSt where
  /-- every reference input by REF code | 33 | R86 | as its fields -/
  ins : Tab RefIn := []
  /-- PPSI0-PPSI3 | 4 | R88 | as its fields -/
  pps : Tab PpsIn := []
  /-- CKI0-CKI3 | 4 | R91 | as its fields -/
  clk : Tab ClkIn := []
  /-- frequency gates by REF, MOSC 0 | 9 | R92 | none begun -/
  gates : Tab FreqGate := []
  /-- TCI0-TCI1 | 2 | R93 | as its fields -/
  tci : Tab TcIn := []
  /-- NREF00-NREF15 | 16 | R97 | as its fields -/
  nref : Tab NrefIn := []
  /-- PEND0-PEND3 | 4 | R104 | as its fields -/
  pend : Tab PendIn := []
  deriving DecidableEq, Repr, Inhabited

/-- Stream states (R115), coded as in the epoch header (R125). -/
inductive StreamState where
  | off | align | up | lost
  deriving DecidableEq, Repr, Inhabited

/-- The stream state code of R125. -/
def StreamState.code : StreamState → Nat
  | .off => 0 | .align => 1 | .up => 2 | .lost => 3

/-- A GNSS sample stream A-L1, A-L5, B-L1, B-L5 (R113, R115). -/
structure GnssStream where
  /-- stream state | 2 bits | R115 | off -/
  st : StreamState := .off
  /-- configuration of `gnss.set_stream` (MRAM) | see its fields | R113, R478 | disabled -/
  cfg : StreamArgs := { stream := 0 }
  /-- SLIP for the next epoch header | 1 bit | R116 | false -/
  slip : Bool := false
  /-- phase re-fixes | 48 bits | R116, R539 | 0 -/
  slips : Nat := 0
  /-- clipped-sample fraction at the last latch, 0.1 percent | 8 bits | R112, R125 | 0 -/
  clip : Nat := 0
  /-- clipped samples counted | count | R112 | 0 -/
  clips : Nat := 0
  /-- samples of the last second by the value they were taken as, -7 to +7 | 15 counts | R112 | empty -/
  taken : List Nat := []
  /-- in-band power at the last latch, 0.25 dB | signed | R139 | 0 -/
  power : Int := 0
  /-- learned power baseline, 0.25 dB (MRAM) | option, signed | R139 | none -/
  baseline : Option Int := none
  /-- POWER flag | 1 bit | R139 | false -/
  flag : Bool := false
  /-- consecutive seconds with the power or clip condition | count to 10 | R139 | 0 -/
  powRun : Nat := 0
  /-- consecutive seconds without it | count to 60 | R139 | 0 -/
  powClear : Nat := 0
  /-- cable delay d in force, ps (MRAM) | 25 bits | R127 | 0: DESIGN CHOICE 0 -/
  d : Nat := 0
  /-- declared uncertainty U of it, ps (MRAM) | 32 bits | R127 | 0: DESIGN CHOICE 0 -/
  u : Nat := 0
  /-- cable delay and uncertainty waiting for their second | option | R127 | none -/
  cableNext : Option (Nat × Nat × Nat) := none
  deriving DecidableEq, Repr, Inhabited

/-- Channel states (R119), coded as in the channel record (R125). -/
inductive ChanState where
  | idle | acquire | pullIn | track | reacquire
  deriving DecidableEq, Repr, Inhabited

/-- The channel state code of R125; IDLE has no record. -/
def ChanState.code : ChanState → Nat
  | .idle => 0 | .acquire => 1 | .pullIn => 2 | .track => 3 | .reacquire => 4

/-- One tracking channel GCH000-GCH191 (R117-R119). -/
structure GnssChan where
  /-- channel state | 3 bits | R119 | idle -/
  st : ChanState := .idle
  /-- SYS | 8 bits | R125 | 0 -/
  sys : Nat := 0
  /-- SIG | 8 bits | R117, R125 | 0 -/
  sig : Nat := 0
  /-- SV | 8 bits | R125 | 0 -/
  sv : Nat := 0
  /-- ANT | 1 bit | R125 | 0 -/
  ant : Nat := 0
  /-- SLIP for the next record | 1 bit | R116, R119 | false -/
  slip : Bool := false
  /-- the time-clock cycle in which the channel was last given to a satellite | option | R118 | none -/
  given : Option Nat := none
  /-- half width of its Doppler search, Hz | 10000 or 500 | R120 | 10000 -/
  range : Nat := 10000
  /-- correlator sums at the last latch | 9 pairs | R117 | 0 -/
  corr : Correlators := {}
  /-- times the search space has been exhausted | count to 3 | R119 | 0 -/
  exhausted : Nat := 0
  /-- EXCL of the last solution | 1 bit | R125, R132 | false -/
  excl : Bool := false
  deriving DecidableEq, Repr, Inhabited

/-- A channel record of an epoch (R125). -/
structure ChanRec where
  /-- the channel as it stood | see its fields | R125 | none -/
  chan : GnssChan
  /-- the measurement it delivers | 48 bytes | R122, R125 | none -/
  obs : ChanObs
  /-- AUTH | 1 bit | R125, R138 | none -/
  auth : Bool := false
  /-- AUTH_FAIL | 1 bit | R125, R138 | none -/
  authFail : Bool := false
  deriving DecidableEq, Repr, Inhabited

/-- A measurement epoch held in the GNSS working store (R125). -/
structure Epoch where
  /-- EPOCH | 32 bits | R125 | none -/
  num : Nat := 0
  /-- LATCH | ETW | R125 | none -/
  latch : Etw := {}
  /-- RATE | 8 bits | R125 | none -/
  rate : Nat := 0
  /-- SPOOF_A and SPOOF_B | 2 x 2 bits | R125 | none -/
  spoof : Nat × Nat := (0, 0)
  /-- STEP | 1 bit | R124 | none -/
  step : Bool := false
  /-- RATE_CHANGE | 1 bit | R123 | none -/
  rateChange : Bool := false
  /-- CAL_CHANGE | 1 bit | R127 | none -/
  calChange : Bool := false
  /-- STREAM bytes | 4 x 8 bits | R125 | none -/
  streams : List Nat := []
  /-- PWR | 4 x 8 bits signed | R125 | none -/
  pwr : List Int := []
  /-- CLIP | 4 x 8 bits | R125 | none -/
  clip : List Nat := []
  /-- GPS_WEEK | 16 bits | R125 | none -/
  week : Nat := 0
  /-- CAL_SEQ | 16 bits | R125 | none -/
  calSeq : Nat := 0
  /-- channel records | up to 192 | R125 | none -/
  recs : List ChanRec := []
  deriving DecidableEq, Repr, Inhabited

/-- Navigation-data states of a Galileo satellite (R138). -/
inductive NavAuth where
  | none | pending | unsupported | authenticated | failed
  deriving DecidableEq, Repr, Inhabited

/-- Spoofing states of an antenna (R141), coded as SPOOF_A. -/
inductive SpoofState where
  | clear | suspect | spoofed
  deriving DecidableEq, Repr, Inhabited

/-- The SPOOF_A code of R125. -/
def SpoofState.code : SpoofState → Nat
  | .clear => 0 | .suspect => 1 | .spoofed => 2

/-- A TESLA chain in use (R136): the public key that signed its root, its functions, and the latest key of it that verified. -/
structure OsnmaChain where
  key : Nat := 0
  unsupported : Bool := false
  mac : OsnmaMac := .hmacSha256
  last : List Nat := []
  deriving DecidableEq, Repr, Inhabited

/-- One antenna's solution of an epoch (R128-R135). -/
structure Solution where
  /-- offset of the MTC against TAI, ps | rational | R130 | 0 -/
  offset : Rat := 0
  /-- variance of it, ps^2 | rational | R135 | 0 -/
  var : Rat := 0
  /-- frequency offset and its variance | rational | R135 | 0 -/
  freq : Rat := 0
  freqVar : Rat := 0
  /-- time offset of each further system against the reference system, ps | list by system | R130 | empty -/
  systems : List (Nat × Rat) := []
  /-- satellites used: dual-frequency, L1 alone, L5 alone | counts | R129, R133 | 0 -/
  dual : Nat := 0
  l1 : Nat := 0
  l5 : Nat := 0
  /-- satellites used, by system | 4 counts | R135 | empty -/
  perSys : List Nat := []
  /-- satellites used whose record carries AUTH | count | R135, R148 | 0 -/
  auth : Nat := 0
  /-- satellites that RAIM excluded, as system and number | at most 2 | R132 | empty -/
  excluded : List (Nat × Nat) := []
  /-- a RAIM fault with no consistent exclusion | 1 bit | R132 | false -/
  fault : Bool := false
  /-- a satellite of the reference system is used | 1 bit | R130 | false -/
  reference : Bool := false
  /-- mean broadcast-model ionosphere delay, ps | rational | R133 | 0 -/
  iModel : Rat := 0
  /-- square of U_pos, ps^2 | rational | R133 | 0 -/
  uPosSq : Rat := 0
  /-- time dilution, 0.01 | count | R135 | 0 -/
  tdop : Nat := 0
  deriving DecidableEq, Repr, Inhabited

/-- A surveyed antenna position (R131). -/
structure Survey where
  /-- position, ECEF mm (MRAM) | option, 3 x 64 bits signed, and covariance | R131 | none -/
  pos : Option SurveyRec := none
  /-- a survey runs | 1 bit | R131 | false -/
  running : Bool := false
  /-- duration of the survey, s | 32 bits | R131 | 21600 -/
  duration : Nat := 21600
  /-- TAI second at which it started | 48 bits | R131 | 0 -/
  start : Nat := 0
  /-- seed position | option | R131 | none -/
  seed : Option (Int × Int × Int) := none
  deriving DecidableEq, Repr, Inhabited

/-- One antenna: its last solution, its spoofing state and its survey (R128-R141). -/
structure Antenna where
  /-- the last solution | record | R128, R135 | none -/
  sol : Option Solution := none
  /-- the last solution was valid | 1 bit | R132 | false -/
  valid : Bool := false
  /-- the last solution was dual-frequency | 1 bit | R129 | false -/
  dual : Bool := false
  /-- static uncertainty U_i, ps | count | R133 | 0 -/
  u : Nat := 0
  /-- TAI second of the last valid solution's latch | option | R134 | none -/
  last : Option Nat := none
  /-- time offset of the previous valid solution at a latch, ps | rational | R134 | none -/
  prev : Option Rat := none
  /-- frequency estimate of it | rational | R134 | 0 -/
  prevFreq : Rat := 0
  /-- consecutive latches without a valid solution | count to 3 | R134 | 0 -/
  missing : Nat := 0
  /-- the clock filter restarts at the next solution | 1 bit | R124, R143 | false -/
  restart : Bool := false
  /-- INCONSISTENT and COLLAPSED are held for both antennas in `GnssSt`; ASSAY flag of this antenna | 1 bit | R141, R155 | false -/
  assay : Bool := false
  /-- ASSAY flag as it stood when the last epoch was latched | 1 bit | R155 | false -/
  assayAt : Bool := false
  /-- the last top-of-second epoch has had its solution | 1 bit | R134 | true -/
  judged : Bool := true
  /-- spoofing state | 2 bits | R141 | clear -/
  spoof : SpoofState := .clear
  /-- consecutive top-of-second epochs in which SPOOFED would not have been computed | count to 300 | R141 | 0 -/
  holdOff : Nat := 0
  /-- exclusions made by RAIM | 48 bits | R132, R539 | 0 -/
  exclusions : Nat := 0
  /-- OSNMA checks that failed on its signals | 48 bits | R138, R539 | 0 -/
  navFails : Nat := 0
  /-- instant, ns of counted time without steps, of the last AUTH_FAIL on a channel of the antenna | option | R148 | none -/
  authFailAt : Option Nat := none
  /-- the survey | see its fields | R131 | as its fields -/
  survey : Survey := {}
  deriving DecidableEq, Repr, Inhabited

/-- The GNSS baseband (chapter 04). -/
structure GnssSt where
  /-- streams A-L1, A-L5, B-L1, B-L5 | 4 | R115 | as its fields -/
  streams : Tab GnssStream := []
  /-- channels | 192 | R117 | as its fields -/
  chans : Tab GnssChan := []
  /-- satellites marked not visible, as system, number, antenna | list | R119 | empty -/
  hidden : List (Nat × Nat × Nat) := []
  /-- SYSTEMS enabled (MRAM) | 4 bits | R117 | 0: DESIGN CHOICE, none -/
  systems : Nat := 0
  /-- L1C choices of GPS and QZSS (MRAM) | 2 bits | R117 | 0: DESIGN CHOICE 0 -/
  l1c : Nat := 0
  /-- reference system (MRAM) | 2 bits | R130 | 0: GPS -/
  refSys : Nat := 0
  /-- elevation mask, degrees (MRAM) | 8 bits, 0-30 | R128 | 10 -/
  mask : Nat := 10
  /-- epoch rate code in force | 3 bits | R122, R125 | 0: DESIGN CHOICE, 1 Hz -/
  rate : Nat := 0
  /-- epoch rate waiting for the next top of the second, with that second | option | R123 | none -/
  rateNext : Option (Nat × Nat) := none
  /-- EPOCH of the next epoch | 32 bits | R125 | 0 -/
  epoch : Nat := 0
  /-- CAL_SEQ | 16 bits | R125, R127 | 0 -/
  calSeq : Nat := 0
  /-- the next epoch is latched in a step cycle: its pre-step TAI second | option | R124 | none -/
  stepAt : Option Nat := none
  /-- the last 64 epochs | list | R125 | empty -/
  store : List Epoch := []
  /-- navigation-data state by Galileo satellite | sparse | R138 | none -/
  nav : Tab NavAuth := []
  /-- which of ADKD 0 or 12 and ADKD 4 have verified for the data in use, by Galileo satellite | sparse | R138 | none -/
  verified : Tab (Bool × Bool) := []
  /-- public keys that verified against the Merkle root, as whether P-521 and their octets | sparse | R136 | none -/
  pubKeys : Tab (Bool × List Nat) := []
  /-- the TESLA chain in use | option | R136 | none -/
  chain : Option OsnmaChain := none
  /-- full week number last resolved for each system, counted as GPS weeks | sparse | R126 | none -/
  weeks : Tab Nat := []
  /-- the last epoch was latched in a step cycle | 1 bit | R124 | false -/
  stepped : Bool := false
  /-- Merkle tree root (MRAM) | bytes | R136 | empty: DESIGN CHOICE, none loaded -/
  root : List Nat := []
  /-- time asserted by the operator: the asserted TIME and U in ms | option | R137 | none -/
  asserted : Option (EtwArg × Nat) := none
  /-- almanac stored (MRAM), with the TAI second of it | option | R121 | none -/
  almanac : Option Nat := none
  /-- ephemerides stored (MRAM), with the TAI second of them | option | R121 | none -/
  ephem : Option Nat := none
  /-- a priori TAI second of the last start | option | R121 | none -/
  apriori : Option Nat := none
  /-- the last start used the MTC as a priori time | 1 bit | R121 | false -/
  mtcStart : Bool := false
  /-- kind of the last start | 2 bits | R121 | 0: DESIGN CHOICE, COLD -/
  start : Nat := 0
  /-- power threshold, dB (MRAM) | 8 bits, 1-20 | R139 | 3 -/
  powerTh : Nat := 3
  /-- streams whose power baseline is being learned | list | R139 | empty -/
  learning : List Nat := []
  /-- baseline vector from antenna A to B, mm (MRAM) | option, 3 x 32 bits signed | R140 | none -/
  vector : Option (Int × Int × Int) := none
  /-- INCONSISTENT | 1 bit | R140 | false -/
  inconsistent : Bool := false
  /-- epochs towards raising or clearing INCONSISTENT | count | R140 | 0 -/
  incRun : Nat := 0
  /-- COLLAPSED | 1 bit | R140 | false -/
  collapsed : Bool := false
  /-- epochs towards raising or clearing COLLAPSED | count | R140 | 0 -/
  colRun : Nat := 0
  /-- antennas A and B | 2 | R128 | as its fields -/
  ants : Tab Antenna := []
  deriving DecidableEq, Repr, Inhabited

/-- A member noise model in ps and s: q_w in ps^2/s, q_f in ps^2/s^2, q_rw in ps^2/s^3, drift in ps/s^2 (R160). -/
structure NoiseModel where
  /-- q_w | rational | R160, R161 | row of R161 for the kind -/
  qw : Rat := 100
  /-- q_f | rational | R160, R161 | row of R161 -/
  qf : Rat := 1
  /-- q_rw | rational | R160, R161 | row of R161 -/
  qrw : Rat := 1/10
  /-- drift estimate d | rational | R160 | 0 -/
  drift : Rat := 0
  /-- variance of d | rational | R160, R161 | square of the drift prior of R161 -/
  driftVar : Rat := (100/86400) * (100/86400)
  deriving DecidableEq, Repr, Inhabited

/-- What Assay and the ensemble hold for one reference, indexed by its REF code (chapter 05). -/
structure RefAssay where
  /-- operator ceiling (MRAM), the table's where none is set | option, 0-24 | R147 | none -/
  ceiling : Option Nat := none
  /-- operator mode EXCLUDE (MRAM) | 1 bit | R149 | false: AUTO -/
  exclude : Bool := false
  /-- carat grade | 5 bits, 0-24 | R146 | 0 -/
  grade : Nat := 0
  /-- target it would have had in AUTO | 5 bits | R149 | 0 -/
  shadow : Nat := 0
  /-- consistency score | 5 bits | R152 | 24: DESIGN CHOICE, the score of a lone group -/
  cons : Nat := 24
  /-- statistics score | 5 bits | R153, R154 | 24 -/
  stat : Nat := 24
  /-- consecutive updates with e > 5s | count | R153 | 0 -/
  excess : Nat := 0
  /-- consecutive updates with a statistics score of 4 | count | R155 | 0 -/
  fourRun : Nat := 0
  /-- consecutive clean updates towards clearing ASSAY | count to 60 | R155 | 0 -/
  cleanRun : Nat := 0
  /-- a frequency member's score is held at 4 | 1 bit | R154 | false -/
  held : Bool := false
  /-- its measurement of this update is rejected | 1 bit | R154, R176 | false -/
  rejected : Bool := false
  /-- consecutive updates with normalised innovations of 3 or less | count to 60 | R154 | 0 -/
  goodRun : Nat := 0
  /-- independence group, as the lowest REF in it | 6 bits | R150 | 0 -/
  group : Nat := 0
  /-- selected | 1 bit | R156 | false -/
  selected : Bool := false
  /-- member slot, none where none remains or it is not selected | option, 0-11 | R157 | none -/
  slot : Option Nat := none
  /-- ensemble weight | rational | R159 | 0 -/
  weight : Rat := 0
  /-- holdover weight | rational | R174 | 0 -/
  hold : Rat := 0
  /-- the noise model (MRAM) | see its fields | R160 | as its fields -/
  model : NoiseModel := {}
  /-- row of R161 the model is drawn from | 2 bits | R161, R163 | 0: MOSC row -/
  row : Nat := 0
  /-- history, s (MRAM) | count | R163 | 0 -/
  history : Nat := 0
  /-- latch at which it was last a member, ns of counted time without steps | count | R163 | 0 -/
  lastMember : Nat := 0
  /-- estimated frequency against the MTC, fractional | rational | R158, R174 | 0 -/
  yHat : Rat := 0
  /-- an estimate of its frequency has been taken since it was last not VALID | 1 bit | R154, R158 | false -/
  known : Bool := false
  /-- its row of R161 was restored from MRAM and stands until a health frame is received | 1 bit | R163 | false -/
  restored : Bool := false
  /-- rate against the clock ensemble at each update in LOCKED as a member since the device started or the model was reset, ps/s | list | R162 | empty -/
  series : List Rat := []
  /-- measurement of the previous update, for the rate of a member that delivers phase only, ps | option | R174 | none -/
  prevPhase : Option Rat := none
  /-- offsets at updates of the last 60 s, with their latch, ns of counted time without steps, and u^2, ps | list | R155 | empty -/
  offsets : List (Nat × Rat × Rat) := []
  /-- updates left of the return-jump cap, running once VALID | count to 300 | R148 | 0 -/
  jumpCap : Nat := 0
  /-- steering mismatch of a Pendant | 1 bit | R171 | false -/
  mismatch : Bool := false
  /-- consecutive health frames that differ | count to 3 | R171 | 0 -/
  misRun : Nat := 0
  /-- consecutive health frames that agree | count to 10 | R171 | 0 -/
  misClear : Nat := 0
  /-- steering mismatches | 48 bits | R171, R539 | 0 -/
  mismatches : Nat := 0
  deriving DecidableEq, Repr, Inhabited

/-- The configuration a frequency member's model belongs to (R163). -/
inductive RefCfg where
  | fixed
  | pend (a : PendantArgs)
  | clock (fN stampRate wF : Nat)
  | pps (falling : Bool) (w : Nat) (cable : Int) (u : Nat)
  deriving DecidableEq, Repr, Inhabited

/-- A member's model in MRAM (R163). -/
structure SavedModel where
  /-- model with drift | see its fields | R160, R163 | as its fields -/
  model : NoiseModel := {}
  /-- row of R161 | 2 bits | R161 | 0 -/
  row : Nat := 0
  /-- history, s | count | R163 | 0 -/
  history : Nat := 0
  /-- the input is configured | 1 bit | R163 | false -/
  on : Bool := false
  /-- its configuration | see its fields | R163 | fixed -/
  cfg : RefCfg := .fixed
  deriving DecidableEq, Repr, Inhabited

/-- Steering policy of a Pendant (R169). -/
structure SteerCfg where
  /-- POLICY TRACK (MRAM) | 1 bit | R169 | false: OFF -/
  track : Bool := false
  /-- tau_p, s (MRAM) | 32 bits | R169 | 86400 -/
  tau : Nat := 86400
  /-- steering interval, s (MRAM) | 32 bits | R169 | 60 -/
  interval : Nat := 60
  /-- updates since the interval began | count | R169 | 0 -/
  count : Nat := 0
  /-- change of the applied correction credited at the last latch | 48 bits signed | R170 | 0 -/
  credit : Int := 0
  /-- applied correction last credited to the member's frequency | 48 bits signed | R170 | 0 -/
  credited : Int := 0
  deriving DecidableEq, Repr, Inhabited

/-- What the filter holds of one frequency member (R158, R170): phase in ps, frequency (fractional) and drift against the MTC, with variances. -/
structure MemberEst where
  /-- phase since it joined, ps | binary64 | R158, R174 | 0 -/
  x : Rat := 0
  /-- frequency against the MTC, fractional | binary64 | R158, R174 | 0 -/
  y : Rat := 0
  /-- drift, ps/s^2 | binary64 | R160 | 0 -/
  d : Rat := 0
  /-- variance of the phase, ps^2 | binary64 | R158 | 0 -/
  px : Rat := 0
  /-- variance of the frequency, ps^2/s^2 | binary64 | R158 | 0 -/
  py : Rat := 0
  /-- variance of the drift, ps^2/s^4 | binary64 | R160 | 0 -/
  pd : Rat := 0
  /-- sum of the steering credited to it since it joined, fractional | binary64 | R170 | 0 -/
  moved : Rat := 0
  deriving DecidableEq, Repr, Inhabited

/-- The posterior of the ensemble filter (R79): covariances of phase, frequency and drift in ps and s. -/
structure Posterior where
  /-- estimate of the MTC against TAI, ps | rational | R164 | 0 -/
  x : Rat := 0
  /-- estimated fractional frequency | rational | R65 | 0 -/
  y : Rat := 0
  /-- P_x | rational | R79 | 0 -/
  px : Rat := 0
  /-- P_y | rational | R79 | 0 -/
  py : Rat := 0
  /-- P_d | rational | R79 | 0 -/
  pd : Rat := 0
  /-- P_xy | rational | R79 | 0 -/
  pxy : Rat := 0
  /-- P_xd | rational | R79 | 0 -/
  pxd : Rat := 0
  /-- P_yd | rational | R79 | 0 -/
  pyd : Rat := 0
  /-- estimate of each frequency member | by REF | R158, R174 | none -/
  members : Tab MemberEst := []
  deriving DecidableEq, Repr, Inhabited

/-- A frequency member as the filter takes it up at an update (R154, R158, R170): its predicted estimate, its measured frequency where that is
applied with the variance of its measurement, and its model. -/
structure MemberIn where
  ref : Nat
  pred : MemberEst
  meas : Option Rat
  var : Rat
  model : NoiseModel
  deriving DecidableEq, Repr, Inhabited

/-- What an update's filter works on (R158, R164, R167): its posterior with the predicted phase of the MTC, whether it has an estimate, the time
measurements (REF, offset ps, variance ps^2) and the rates delivered with them, the frequency members in slot order, the weights, and the phase the MTC's words and slews
added since the last latch, ps. -/
structure FilterIn where
  prior : Posterior
  start : Bool
  times : List (Nat × Rat × Rat)
  rates : List (Nat × Rat × Rat)
  members : List MemberIn
  weights : List (Nat × Rat)
  freq : Int
  slewed : Rat
  deriving DecidableEq, Repr, Inhabited

/-- Assay, the ensemble and holdover (chapter 05). -/
structure EnsSt where
  /-- every reference by REF code | 33 | R146 | as its fields -/
  refs : Tab RefAssay := []
  /-- filter posterior of the last update | see its fields | R79, R164 | as its fields -/
  post : Posterior := {}
  /-- covariances P at the last update that applied a time-reference measurement | see its fields | R79, R602 | as its fields -/
  applied : Posterior := {}
  /-- the filter has an estimate of its own | 1 bit | R67 | false -/
  hasEstimate : Bool := false
  /-- steering frequency ys, fractional | rational | R164 | 0 -/
  ys : Rat := 0
  /-- the clock-ensemble correction ye in force, fractional | rational | R164, R173 | 0 -/
  ye : Rat := 0
  /-- ys_hold, fractional | rational | R172 | 0 -/
  ysHold : Rat := 0
  /-- yd at the last holdover update, fractional | rational | R173, R177 | 0 -/
  yd : Rat := 0
  /-- dhat fixed at holdover entry, per s | rational | R173 | 0 -/
  dHat : Rat := 0
  /-- ensemble drift D, ps/s^2 | rational | R79, R174 | 0 -/
  drift : Rat := 0
  /-- the learned drift correction applies | 1 bit | R175 | false -/
  driftOn : Bool := false
  /-- enabled by `ens.set_drift` (MRAM) | 1 bit | R175, R178 | false -/
  driftEnable : Bool := false
  /-- schedule step, 12 the last | 4 bits | R165 | 0 -/
  step : Nat := 0
  /-- the final value itself is in force | 1 bit | R165 | false -/
  atFinal : Bool := false
  /-- dwell counter | count | R165 | 0 -/
  dwell : Nat := 0
  /-- final bandwidth, uHz (MRAM) | 32 bits | R165, R178 | 100 -/
  final : Nat := 100
  /-- holdover horizon tau_h, s (MRAM) | 32 bits | R174, R178 | 86400 -/
  horizon : Nat := 86400
  /-- horizon in force in the present holdover, s | 32 bits | R178 | 86400 -/
  horizonNow : Nat := 86400
  /-- holdover age limit, s, 0 none (MRAM) | 32 bits | R65, R178 | 0: none -/
  ageLimit : Nat := 0
  /-- U_ref, ps | rational | R79, R159 | 0 -/
  uRef : Rat := 0
  /-- SRC class by weight of the last update | 8 bits | R73 | 7 -/
  srcClass : Nat := 7
  /-- the reference of that class: the one with the highest weight at the last update | REF | R73, R311 | 0 -/
  srcRef : Nat := 0
  /-- combined coefficients q_w, q_f, q_rw in force | see its fields | R79, R174 | as its fields -/
  comb : NoiseModel := {}
  /-- noise accumulated before the coefficients in force, ps^2 | rational | R79, R176 | 0 -/
  accum : Rat := 0
  /-- seconds since the last applied measurement at which the coefficients in force began | rational | R79 | 0 -/
  accumAt : Rat := 0
  /-- latch of the last applied time-reference measurement, ns of counted time without steps | count | R78, R602 | 0 -/
  lastApplied : Nat := 0
  /-- latch of the update of holdover entry, ns of counted time without steps | count | R173 | 0 -/
  holdEntry : Nat := 0
  /-- update in progress is the first after the latch | 1 bit | R85 | false -/
  latched : Bool := false
  /-- the counter's rate against the time clock at the last update, fractional | rational | R154 | 0 -/
  ctrlAt : Rat := 0
  /-- MOSC frequency against the MTC of the last latch, fractional | option | R154 | none -/
  moscMeas : Option Rat := none
  /-- steering policies of PEND0-PEND3 | 4 | R169 | as its fields -/
  steer : Tab SteerCfg := []
  /-- steady frequency word without the pair trim, 2^-56 | 48 bits signed | R428, R429 | 0 -/
  word : Int := 0
  /-- words outside the 48-bit range that were clamped | 48 bits | R164 | 0 -/
  clamps : Nat := 0
  /-- updates in LOCKED since the models were last re-estimated | count | R162 | 0 -/
  learnAge : Nat := 0
  /-- updates since the models were last written to MRAM | count | R163 | 0 -/
  saveAge : Nat := 0
  /-- models, drifts and histories as last written to MRAM, by REF, with the configuration they were learned under | list | R163 | empty -/
  saved : Tab SavedModel := []
  /-- device-point bound of the last update, ps | 32 bits | R65, R78 | 0xFFFFFFFF -/
  devBound : Nat := 0xFFFFFFFF
  /-- the clock ensemble's rate against the MTC at updates of the last 60 s, with their latch, ns of counted time without steps, ps/s | list | R155 | empty -/
  rates : List (Nat × Rat) := []
  /-- updates run | count | R145 | 0 -/
  updates : Nat := 0
  deriving DecidableEq, Repr, Inhabited

/-- An interpolator's bin table from its last successful run (R187): first code of the span and hits per code. -/
structure BinTable where
  /-- first code of the span | 12 bits | R187 | none -/
  first : Nat := 0
  /-- hits h per code | 1100 to 1800 counts | R186, R187 | none -/
  hits : List Nat := []
  deriving DecidableEq, Repr, Inhabited

/-- States of a pair of interpolators (R189). -/
inductive InterpState where
  | normal | single | out
  deriving DecidableEq, Repr, Inhabited

/-- The state code used in status readings and events (R486: 1 SINGLE, 2 OUT). -/
def InterpState.code : InterpState → Nat
  | .normal => 0 | .single => 1 | .out => 2

/-- The two interpolators of a Filigree channel or of a facet (R186-R189, R279, R604). -/
structure Interp where
  /-- channel state | 2 bits | R189 | normal -/
  st : InterpState := .normal
  /-- the ACTIVE interpolator is Y | 1 bit | R186, R188 | false -/
  activeY : Bool := false
  /-- table of X in force | option | R187 | none: both calibrate after a device reset -/
  tabX : Option BinTable := none
  /-- table of Y in force | option | R187 | none -/
  tabY : Option BinTable := none
  /-- table of the CALIBRATING interpolator, waiting for the swap | option | R188 | none -/
  fresh : Option BinTable := none
  /-- consecutive failed runs | count to 3 | R189 | 0 -/
  fails : Nat := 0
  /-- calibration failures | 48 bits | R189, R539 | 0 -/
  failed : Nat := 0
  /-- the survivor's own run is in progress or has not yet succeeded | 1 bit | R189, R604 | false -/
  surv : Bool := false
  deriving DecidableEq, Repr, Inhabited

/-- The table of the ACTIVE interpolator: in NORMAL there is none before both interpolators have calibrated (R189). -/
def Interp.table (p : Interp) : Option BinTable :=
  if p.st = .normal && (p.tabX.isNone || p.tabY.isNone) then none else if p.activeY then p.tabY else p.tabX

/-- A raw stamp in a channel's queue (R184, R194). -/
structure RawStamp where
  /-- COARSE | 24 bits | R184 | none -/
  coarse : Nat := 0
  /-- FINE | 12 bits | R184 | none -/
  fine : Nat := 0
  /-- INTERP: 1 for Y | 1 bit | R188 | none -/
  interp : Bool := false
  /-- EDGE: 1 for falling | 1 bit | R201 | none -/
  falling : Bool := false
  /-- GAP | 1 bit | R194 | none -/
  gap : Bool := false
  /-- timed at the middle of its cycle | 1 bit | R189 | none -/
  mid : Bool := false
  /-- i of the measuring interpolator's table for FINE, cycles | rational | R187, R191 | none -/
  i : Rat := 3/2
  /-- SEQ | 32 bits | R194 | none -/
  seq : Nat := 0
  /-- EDGES | 32 bits | R201 | none -/
  edges : Nat := 0
  /-- time-clock cycle in which it entered the queue | count | R193 | none -/
  pushed : Nat := 0
  deriving DecidableEq, Repr, Inhabited

/-- A record of the stamp store (R201). -/
structure StampRec where
  /-- TIME in units of 2^-20 ns since the epoch | 128 bits | R191, R201 | none -/
  time : Nat := 0
  /-- CH | 6 bits | R201 | none -/
  ch : Nat := 0
  /-- KIND: a difference | 1 bit | R201 | none -/
  isDiff : Bool := false
  /-- the raw stamp | see its fields | R201 | none -/
  raw : RawStamp := {}
  /-- OVF | 1 bit | R192 | none -/
  ovf : Bool := false
  /-- TSLEW | 1 bit | R201 | none -/
  tslew : Bool := false
  /-- DIFF, 2^-20 ns | 64 bits signed | R201 | none -/
  diff : Int := 0
  deriving DecidableEq, Repr, Inhabited

/-- Consumers of a ring (R181). -/
inductive FilUser where
  | timeCore | engine (n : Nat) | bezel (b : Nat)
  deriving DecidableEq, Repr, Inhabited

/-- A consumer's place in a ring (R181, R198). -/
structure FilReader where
  /-- the consumer | see its cases | R181 | none -/
  user : FilUser
  /-- read position, as records written before it | count | R181 | none -/
  pos : Nat := 0
  /-- lost count | 32 bits | R198 | 0 -/
  lost : Nat := 0
  deriving DecidableEq, Repr, Inhabited

/-- A host stream of a granted bezel on a channel (R200). -/
structure FilStream where
  /-- the bezel | 6 bits | R200 | none -/
  bezel : Nat := 0
  /-- arguments of `fil.set_stream` | see its fields | R200, R480 | none -/
  cfg : FilStreamArgs := { ch := 0 }
  /-- records written to host memory | count | R200 | 0 -/
  put : Nat := 0
  /-- READ index returned by the host | 32 bits | R200, R480 | 0 -/
  ack : Nat := 0
  /-- next record of the stamp ring to be written | count | R200 | 0 -/
  next : Nat := 0
  /-- records in host memory and not returned: place in the stamp ring, and record | list | R200 | empty -/
  out : List (Nat × StampRec) := []
  deriving DecidableEq, Repr, Inhabited

/-- A ring of the stamp store: 0-63 channels, 64-95 difference engines (R196-R199). -/
structure FilRing where
  /-- allotment, records | count | R196 | 1024; 2048 for rings 24-39 -/
  allot : Nat := 1024
  /-- mode HOLD | 1 bit | R198 | false: WRAP -/
  hold : Bool := false
  /-- a change accepted and waiting: mode and allotment | option | R199 | none -/
  next : Option (Bool × Nat) := none
  /-- held records, oldest first | list | R197 | empty -/
  recs : List StampRec := []
  /-- records written since enable | count | R197 | 0 -/
  put : Nat := 0
  /-- consumers | up to 4 | R181 | none -/
  readers : List FilReader := []
  deriving DecidableEq, Repr, Inhabited

/-- A Filigree channel FIL00-FIL63 (R179-R195). -/
structure FilChan where
  /-- enable | 1 bit | R183 | false: DESIGN CHOICE (FIL24-FIL63 run with their inputs and outputs) -/
  en : Bool := false
  /-- EDGE 0 rising, 1 falling, 2 both | 2 bits | R183, R480 | 0: DESIGN CHOICE -/
  edge : Nat := 0
  /-- prescaler N | 16 bits | R183 | 1: DESIGN CHOICE -/
  n : Nat := 1
  /-- qualifying edges since the last stamp | count | R183 | 0 -/
  presc : Nat := 0
  /-- EDGES | 32 bits | R185, R201 | 0 -/
  edges : Nat := 0
  /-- SEQ of the next stamp | 32 bits | R194 | 0 -/
  seq : Nat := 0
  /-- cycle and phase of the last stamped edge, cycles | option, rational | R185 | none -/
  last : Option Rat := none
  /-- the next stamp that enters the queue carries GAP | 1 bit | R194 | false -/
  gap : Bool := false
  /-- raw stamps waiting | up to 1024 | R194 | empty -/
  queue : List RawStamp := []
  /-- a stamp that met the full queue, with its GAP: no overflow if a stamp is popped in the same cycle | option | R193 | none -/
  spill : Option RawStamp := none
  /-- the interpolators | see its fields | R186 | as its fields -/
  interp : Interp := {}
  /-- counters: 0 too close, 1 range, 2 overflow, 3 OVF stamps not used | 48 bits each | R184, R185, R192, R194, R539 | 0 -/
  cnt : Tab Nat := []
  /-- granted bezels | list | R180 | none -/
  grants : List Nat := []
  deriving DecidableEq, Repr, Inhabited

/-- A gate of a difference engine (R204). -/
structure DiffGate where
  /-- count | 32 bits | R204 | 0 -/
  count : Nat := 0
  /-- sum, 2^-20 ns | signed | R204 | 0 -/
  sum : Int := 0
  /-- sum of squares | count | R204 | 0 -/
  sumSq : Nat := 0
  /-- minimum | option, signed | R204 | none -/
  lo : Option Int := none
  /-- maximum | option, signed | R204 | none -/
  hi : Option Int := none
  deriving DecidableEq, Repr, Inhabited

/-- A difference engine DE00-DE31 (R202-R204). -/
structure DiffEng where
  /-- arguments of `fil.set_diff` | see its fields | R202 | disabled -/
  cfg : DiffArgs := { de := 0 }
  /-- channel-a stamps waiting, oldest first | list | R203 | empty -/
  as : List StampRec := []
  /-- channel-b stamps still of use, each with whether it has been matched | list | R203 | empty -/
  bs : List (StampRec × Bool) := []
  /-- SEQ of the next difference | 32 bits | R201 | 0 -/
  seq : Nat := 0
  /-- counters: 0 unmatched a, 1 unmatched b, 2 skipped, 3 gaps | 48 bits each | R203, R539 | 0 -/
  cnt : Tab Nat := []
  /-- TAI second at which the running gate ends | 48 bits | R204 | 0 -/
  gateEnd : Nat := 0
  /-- TAI ms at which the running gate ends | count | R204 | 0 -/
  gateEndMs : Nat := 0
  /-- the running gate | see its fields | R204 | as its fields -/
  run : DiffGate := {}
  /-- the last completed gate | see its fields | R204 | as its fields -/
  last : DiffGate := {}
  deriving DecidableEq, Repr, Inhabited

/-- Filigree (chapter 06). -/
structure FilSt where
  /-- channels FIL00-FIL63 | 64 | R179 | as its fields -/
  chans : Tab FilChan := []
  /-- rings of the stamp store | 96 | R196 | as its fields -/
  rings : Tab FilRing := []
  /-- channel that the drain served last | 6 bits | R195 | 63: DESIGN CHOICE, FIL00 first -/
  turn : Nat := 63
  /-- output of each loopback channel FIL40-FIL63 (outKey), none for a channel moved away | 24 | R182 | default assignment of R182 -/
  loopOut : Tab Nat := []
  /-- divider of each loopback channel | 24 x 25 bits | R183 | 0: the default of R183 -/
  divider : Tab Nat := []
  /-- loopback moves waiting for their record: channel, output, divider | list | R81, R182 | empty -/
  moves : List (Nat × Nat × Nat) := []
  /-- difference engines | 32 | R202 | as its fields -/
  engines : Tab DiffEng := []
  /-- host streams | list | R200 | none -/
  streams : List FilStream := []
  deriving DecidableEq, Repr, Inhabited

/-- Output loop states (R209). -/
inductive LoopState where
  | freeRun | acquiring | locked | holdover | lost
  deriving DecidableEq, Repr, Inhabited

/-- The loop state code used in status readings, in the order of R209. -/
def LoopState.code : LoopState → Nat
  | .freeRun => 0 | .acquiring => 1 | .locked => 2 | .holdover => 3 | .lost => 4

/-- An output loop OL0-OL7 (R208, R209, R215, R216). -/
structure OutLoop where
  /-- enable (MRAM) | 1 bit | R208 | false; OL0 true -/
  en : Bool := false
  /-- f_L, 2^-16 Hz (MRAM) | 64 bits | R208 | 10 GHz -/
  fl : Nat := 655360000000000
  /-- loop bandwidth, kHz (MRAM) | 32 bits | R208 | 200 -/
  bw : Nat := 200
  /-- loop state | 3 bits | R209 | freeRun -/
  st : LoopState := .freeRun
  /-- the loop's TDC error pin is raised | 1 bit | R209 | false -/
  tdc : Bool := false
  /-- frequency offset at the start of the ramp, 10^-12 | rational | R215 | 0 -/
  y0 : Rat := 0
  /-- frequency offset y_o commanded, 10^-12 (MRAM) | 32 bits signed | R215 | 0 -/
  y1 : Int := 0
  /-- ramp slope, 0.001 ppm/s | 32 bits | R215 | 100000 -/
  slope : Nat := 100000
  /-- when the ramp began, ns of counted time without steps | count | R215 | 0 -/
  rampAt : Nat := 0
  /-- a ramp runs | 1 bit | R215 | false -/
  ramping : Bool := false
  /-- spread-spectrum MODE (MRAM) | 2 bits | R216 | 0: OFF -/
  ssc : Nat := 0
  /-- DEPTH, 0.01 percent (MRAM) | 16 bits | R216 | 0: DESIGN CHOICE 0 -/
  depth : Nat := 0
  /-- profile rate, Hz (MRAM) | 32 bits | R216 | 0: DESIGN CHOICE, none while OFF -/
  rate : Nat := 0
  /-- counters: 0 clamped words, 1 LOST entries | 48 bits each | R539 | 0 -/
  cnt : Tab Nat := []
  deriving DecidableEq, Repr, Inhabited

/-- Alignment states of a time-bearing output (R218). -/
inductive AlignState where
  | off | squelched | slewing | aligned
  deriving DecidableEq, Repr, Inhabited

/-- The alignment state code used in status readings, in the order of R218. -/
def AlignState.code : AlignState → Nat
  | .off => 0 | .squelched => 1 | .slewing => 2 | .aligned => 3

/-- A bead-code frame as built (R223-R225): data bits 0-95. -/
structure BeadFrame where
  /-- data bits 0-95 | 96 bits | R224 | none -/
  bits : List Bool := []
  /-- level of the line in each 5 ms half cell from the on-time instant | 200 bits | R223 | empty -/
  line : List Bool := []
  deriving DecidableEq, Repr, Inhabited

/-- An IRIG-B frame as built (R226). -/
structure IrigFrame where
  /-- format B000-B007 | 3 bits | R226 | none -/
  format : Nat := 0
  /-- seconds, minutes, hours, day of year, year of the on-time instant in the timescale | BCD fields | R226 | none -/
  ss : Nat := 0
  /-- minutes | BCD | R226 | none -/
  mm : Nat := 0
  /-- hours | BCD | R226 | none -/
  hh : Nat := 0
  /-- day of the year | BCD | R226 | none -/
  day : Nat := 0
  /-- year | BCD | R226 | none -/
  year : Nat := 0
  /-- straight binary seconds | 17 bits | R226 | none -/
  sbs : Nat := 0
  /-- the IEEE 1344 extension is carried | 1 bit | R226 | none -/
  ext : Bool := false
  /-- time-quality code | 4 bits | R226, R599 | none -/
  quality : Nat := 0
  /-- leap second pending, and its sign (1 negative) | 2 bits | R226 | none -/
  leap : Bool × Bool := (false, false)
  /-- offset of the coded time from UTC, s | signed | R226 | none -/
  offset : Int := 0
  /-- width of the pulse that begins each 10 ms element, from Pr on, ms | 100 of 2, 5 or 8 | R226 | empty -/
  pulses : List Nat := []
  /-- pulses are low | 1 bit | R211, R226 | false -/
  low : Bool := false
  deriving DecidableEq, Repr, Inhabited

/-- A clock, PPS or time-code output (R211, R214, R218-R222). -/
structure OutPin where
  /-- configuration of `out.set_output` (MRAM) | see its fields | R211, R480 | D 64, RATE 1, WIDTH 100 us, UTC, disabled; PPSO0 enabled -/
  cfg : OutputArgs := { kind := 0, index := 0, d := 64, rate := 1, width := 100000, scale := 1 }
  /-- alignment state | 2 bits | R218 | off; PPSO0 squelched -/
  st : AlignState := .off
  /-- the generator runs at its target | 1 bit | R213, R214, R421 | false -/
  gen : Bool := false
  /-- phase to be moved towards the target when it last changed, ps; 0 once the target is reached | rational | R219 | 0 -/
  rem : Rat := 0
  /-- counted time of that change, ns | count | R219 | none -/
  remAt : Nat := 0
  /-- S_out, ns/s (MRAM) | 32 bits | R219 | 50 -/
  sOut : Nat := 50
  /-- OFFSET change waiting: new OFFSET in ps, TAI second of effect | option | R220 | none -/
  next : Option (Int × Nat) := none
  /-- first TAI second at which it may take effect by the record published with its widening | option | R81, R220 | none -/
  cover : Option Nat := none
  /-- alignment transient | 1 bit | R220 | false -/
  trans : Bool := false
  /-- last alignment error measured before the output left ALIGNED, ps | rational | R220 | 0 -/
  e0 : Rat := 0
  /-- sum of the magnitudes of the target changes since it last was ALIGNED, ps | rational | R220 | 0 -/
  moves : Rat := 0
  /-- last alignment error measured on the loopback channel, ps | option, rational | R80, R212 | none -/
  err : Option Rat := none
  /-- fine-delay trim, ps | rational | R212 | 0: DESIGN CHOICE 0 -/
  trim : Rat := 0
  /-- start of the last pulse in EVENT mode, 2^-20 ns | option | R249, R250 | none -/
  pulse : Option Nat := none
  /-- last bead frame built | option | R225 | none -/
  bead : Option BeadFrame := none
  /-- last IRIG-B frame built | option | R226 | none -/
  irig : Option IrigFrame := none
  deriving DecidableEq, Repr, Inhabited

/-- Output loops and outputs (chapter 07). -/
structure OutSt where
  /-- output loops OL0-OL7 | 8 | R208 | as its fields; OL0 enabled -/
  loops : Tab OutLoop := [(0, { en := true })]
  /-- outputs CKO00-CKO31 (0-31), PPSO0-PPSO7 (32-39), TCO0-TCO3 (40-43) | 44 | R211 | as its fields; PPSO0 enabled on OL0 -/
  pins : Tab OutPin := [(32, { cfg := { kind := 1, index := 0, enable := 1, d := 64, rate := 1, width := 100000, scale := 1 }, st := .squelched })]
  /-- n of LOCKMON, 0 while the pin is held low | 4 bits | R227 | 0: held low during reset -/
  lockmon : Nat := 0
  deriving DecidableEq, Repr, Inhabited

/-- States of a tap (R242). -/
inductive TapState where
  | off | warmup | seek | track | transient | predict
  deriving DecidableEq, Repr, Inhabited

/-- The state code of R242. -/
def TapState.code : TapState → Nat
  | .off => 0 | .warmup => 1 | .seek => 2 | .track => 3 | .transient => 4 | .predict => 5

/-- A held estimate: the LA pair of R244 with its rates. -/
structure LaModel where
  /-- estimate instant t_0, 2^-20 ns since the epoch | count | R244 | none -/
  at_ : Nat := 0
  /-- angle a_0, 2^-32 turn | 32 bits | R244 | none -/
  angle : Nat := 0
  /-- frequency, Hz | rational | R240 | none -/
  f : Rat := 50
  /-- ROCOF, Hz/s | rational | R240 | none -/
  r : Rat := 0
  /-- peak amplitude, 2^-8 LSB | 32 bits | R253 | none -/
  ampl : Nat := 0
  /-- sigma_phi, turns | rational | R240 | none -/
  sigPhi : Rat := 0
  /-- sigma_f, Hz | rational | R240 | none -/
  sigF : Rat := 0
  deriving DecidableEq, Repr, Inhabited

/-- An estimate or phasor record (R253). -/
structure LaRecord where
  /-- TIME, 2^-20 ns since the epoch | 128 bits | R253 | none -/
  at_ : Nat := 0
  /-- KIND: phasor | 1 bit | R253 | none -/
  phasor : Bool := false
  /-- STATE | 3 bits | R253 | none -/
  st : Nat := 0
  /-- STEADY, PRED, JUMPED, CLASS | 4 bits | R253 | none -/
  steady : Bool := false
  /-- PRED | 1 bit | R253 | none -/
  pred : Bool := false
  /-- JUMPED | 1 bit | R243, R253 | none -/
  jumped : Bool := false
  /-- CLASS M | 1 bit | R253 | none -/
  clsM : Bool := false
  /-- HSEQ | 16 bits | R253 | none -/
  hseq : Nat := 0
  /-- ANGLE | 32 bits | R253 | none -/
  angle : Nat := 0
  /-- FREQ, 2^-24 Hz | 32 bits | R253 | none -/
  freq : Nat := 0
  /-- ROCOF, 2^-16 Hz/s | 32 bits signed | R253 | none -/
  rocof : Int := 0
  /-- AMPL | 32 bits | R253 | none -/
  ampl : Nat := 0
  /-- SIGMA | 32 bits | R253 | none -/
  sigma : Nat := 0
  /-- JUMP | 32 bits signed | R253 | none -/
  jump : Int := 0
  /-- ESEQ | 32 bits | R253 | none -/
  eseq : Nat := 0
  deriving DecidableEq, Repr, Inhabited

/-- A tap TAP0-TAP7 (0-7) or VTAP0-VTAP7 (8-15) (R230-R246). -/
structure LaTap where
  /-- tap state | 3 bits | R242 | off -/
  st : TapState := .off
  /-- configuration shared by TAP and VTAP (MRAM) | see its fields | R242 | R_TH 3 percent, A_MIN 5 percent, HOLD 100 ms, R_LIM 1 Hz/s -/
  cfg : TapArgs := { rTh := 30, aMin := 50, hold := 100, rLim := 100, reportRate := 50 }
  /-- d_tap, ns (MRAM) | 20 bits | R233 | 0: DESIGN CHOICE 0 -/
  dTap : Nat := 0
  /-- configuration of a VTAP (MRAM) | see its fields | R235 | none -/
  vcfg : Option VtapArgs := none
  /-- the latest estimate, or the last TRACK model | option | R244 | none -/
  model : Option LaModel := none
  /-- MTC instant of the last valid sample, 2^-20 ns | count | R242, R245 | 0 -/
  lastValid : Nat := 0
  /-- MTC instant of the last invalid or missing sample, 2^-20 ns | option | R234, R237 | none -/
  lastBad : Option Nat := none
  /-- MTC instant since which the tap has been in TRACK with |ROCOF| of at most 0.1 Hz/s | option | R242 | none -/
  steadySince : Option Nat := none
  /-- MTC instant at which TRANSIENT was entered | count | R242 | 0 -/
  transientAt : Nat := 0
  /-- JUMP waiting for the next record | option, 2^-32 turn | R243 | none -/
  jump : Option Int := none
  /-- last accepted smpCnt of a VTAP, or the expectation after a discontinuity | option, 16 bits | R238 | none -/
  lastCnt : Option Nat := none
  /-- instant of the sample of lastCnt, 2^-20 ns | option | R238 | none -/
  lastAt : Option Int := none
  /-- instants of the samples accepted in the last 20 ms, by which a repeated smpCnt shows | list | R236 | empty -/
  accepted : List Int := []
  /-- ESEQ of the next record | 32 bits | R253 | 0 -/
  eseq : Nat := 0
  /-- records delivered, newest last | list | R253 | empty -/
  recs : List LaRecord := []
  /-- products held back until the record of a new state is published | list | R81, R246 | empty -/
  held : List LaRecord := []
  /-- a record for a new tap state is awaited | 1 bit | R246 | false -/
  await : Bool := false
  /-- B_LA as the point's record in force has it, ps, none where unbounded | option | R252 | none -/
  bPub : Option Nat := none
  /-- counters: 0 stuck, 1 clip, 2 LATE frames, 3 SHORT, 4 LONG, 5 discontinuity, 6 duplicate, 7 quality, 8 smpSynch | 48 bits each | R234-R239, R539 | 0 -/
  cnt : Tab Nat := []
  /-- granted bezels | list | R230 | none -/
  grants : List Nat := []
  deriving DecidableEq, Repr, Inhabited

/-- States of a scheduled-event slot (R247, R248). -/
inductive SlotState where
  | free | armed | committed
  deriving DecidableEq, Repr, Inhabited

/-- A fired event that awaits its check (R252). -/
structure FiredEvent where
  /-- t_e, 2^-20 ns | count | R252 | none -/
  te : Nat := 0
  /-- B_LA of the record under which it was committed, ps, none where unbounded | option | R252 | none -/
  bound : Option Nat := none
  /-- the tap and the angle it was set for, 2^-32 turn | 4 and 32 bits | R252 | none -/
  tap : Nat := 0
  angle : Nat := 0
  deriving DecidableEq, Repr, Inhabited

/-- A scheduled-event slot ES00-ES31 (R247-R252). -/
structure LaSlot where
  /-- state | 2 bits | R247, R248 | free -/
  st : SlotState := .free
  /-- configuration of `la.set_event` | see its fields | R247 | none -/
  cfg : EventArgs := { slot := 0 }
  /-- the next crossing is the first after this MTC instant, 2^-20 ns | count | R248 | 0 -/
  after : Nat := 0
  /-- t_e of a committed event, 2^-20 ns | count | R248 | 0 -/
  te : Nat := 0
  /-- B_LA of the record under which it was committed, ps, none where unbounded | option | R252 | none -/
  bound : Option Nat := none
  /-- fired events that await their check, oldest first | list | R252 | empty -/
  fired : List FiredEvent := []
  /-- difference found by the last check, 2^-32 turn | signed | R252 | 0 -/
  diff : Int := 0
  /-- MISS of the last check | 1 bit | R252 | false -/
  miss : Bool := false
  /-- `la.cancel_event` waits for the committed event | 1 bit | R247 | false -/
  cancel : Bool := false
  /-- the open ARM window: its end, 2^-20 ns, and its channel | option | R249 | none -/
  window : Option (Nat × Nat) := none
  /-- counters: 0 LATE, 1 skipped, 2 merged, 3 overlap, 4 empty, 5 MISS | 48 bits each | R248, R250, R252, R539 | 0 -/
  cnt : Tab Nat := []
  deriving DecidableEq, Repr, Inhabited

/-- A sample block (R254). -/
structure LaBlock where
  /-- instant of the first sample, 2^-20 ns | count | R254 | none -/
  at_ : Nat := 0
  /-- HSEQ | 16 bits | R254 | none -/
  hseq : Nat := 0
  /-- BSEQ | 32 bits | R254 | none -/
  bseq : Nat := 0
  /-- 56 sample words | 56 x 32 bits | R254 | none -/
  words : List Nat := []
  deriving DecidableEq, Repr, Inhabited

/-- A tap's host stream for a bezel (R254). -/
structure LaStream where
  /-- the bezel | 6 bits | R230, R254 | none -/
  bezel : Nat := 0
  /-- the tap | 4 bits | R254 | none -/
  tap : Nat := 0
  /-- n: the ring has 2^n blocks | 4-16 | R254 | none -/
  n : Nat := 4
  /-- VECTOR | 6 bits | R480 | none -/
  vector : Nat := 2
  /-- BASE | 64 bits | R480 | none -/
  base : Nat := 0
  /-- BSEQ of the next block | 32 bits | R254 | 0 -/
  bseq : Nat := 0
  /-- the block being filled | see its fields | R254 | empty -/
  cur : LaBlock := {}
  /-- blocks waiting for room, oldest first; a lost one has zero words | list | R254 | empty -/
  wait : List LaBlock := []
  /-- blocks in the host ring and not returned, oldest first | list | R254 | empty -/
  out : List LaBlock := []
  /-- octets of the block written last | 256 | R254 | empty -/
  image : List Nat := []
  /-- estimate and phasor records to be written with the stream, oldest first | list | R253 | empty -/
  recs : List LaRecord := []
  /-- octets of the records written, in order | multiple of 64 | R253 | empty -/
  recImage : List Nat := []
  deriving DecidableEq, Repr, Inhabited

/-- The Line-Angle Engine (chapter 08). -/
structure LaSt where
  /-- taps | 16 | R230 | as its fields -/
  taps : Tab LaTap := []
  /-- time-clock cycle at which TAPCK0 and TAPCK1 started, while they run | 2 | R231, R232 | none -/
  tapck : Tab Nat := []
  /-- slots ES00-ES31 | 32 | R247 | as its fields -/
  slots : Tab LaSlot := []
  /-- host streams | list | R254 | none -/
  streams : List LaStream := []
  /-- edges outside ARM windows, by channel | 24 x 48 bits | R249, R539 | 0 -/
  unarmed : Tab Nat := []
  deriving DecidableEq, Repr, Inhabited

/-- Port modes (R256), in the order of their codes (R481). -/
inductive PortMode where
  | off | g25 | g10 | x1000 | sgmii1000 | sgmii100 | sgmii10
  deriving DecidableEq, Repr, Inhabited

/-- Port states (R260), in the order of their codes (R481). -/
inductive PortState where
  | disabled | calibrating | down | up | upUntimed | failed
  deriving DecidableEq, Repr, Inhabited

/-- The code of a port state (R481: R260 order, DISABLED = 0). -/
def PortState.code : PortState → Nat
  | .disabled => 0 | .calibrating => 1 | .down => 2 | .up => 3 | .upUntimed => 4 | .failed => 5

/-- Colours of a frame (R376). -/
inductive Colour where
  | green | yellow | red
  deriving DecidableEq, Repr, Inhabited

/-- What a frame to be sent is. -/
inductive TxKind where
  | host | sync | followUp | delayResp | pdelayResp | pdelayFollowUp | announce | grant | cancel | ackCancel | signaling | ntp | ntsNak
  | arp | neighbour | echo | membership | keyEstablishment | nrefRequest
  deriving DecidableEq, Repr, Inhabited

/-- The frame bears time: it carries a timestamp or a data set of the clock (R260, R327). -/
def TxKind.timed : TxKind → Bool
  | .sync => true | .followUp => true | .delayResp => true | .pdelayResp => true | .pdelayFollowUp => true | .announce => true
  | .ntp => true | .nrefRequest => true
  | _ => false

/-- A frame that waits to be sent, is being sent, or has been sent. -/
structure TxFrame where
  /-- what it is | see its cases | R309, R311, R327 | none -/
  kind : TxKind := .host
  /-- bezel it is charged to | 6 bits | R378 | none -/
  bezel : Nat := 0
  /-- subscriber | 16 bits | R372 | none -/
  sub : Nat := 0
  /-- service class | 3 bits | R297, R372 | none -/
  cls : Nat := 0
  /-- colour inherited from the request | 2 bits | R377 | green -/
  colour : Colour := .green
  /-- length with the FCS, octets | 14 bits | R262, R383 | none -/
  len : Nat := 64
  /-- service number, for frames of a service | 10 bits | R296 | none -/
  service : Nat := 0
  /-- client it goes to (0 for multicast) | count | R318 | none -/
  client : Nat := 0
  /-- sequenceId, or the origin timestamp of an NTP response | 64 bits | R310, R311 | none -/
  seq : Nat := 0
  /-- instant stated in the message: the request's stamp or the stamp of the message it follows, 2^-20 ns TAI | option | R308, R309, R311 | none -/
  t : Option Nat := none
  /-- launch instant L, 2^-20 ns TAI | option | R313 | none -/
  launch : Option Nat := none
  /-- Hallmark record carried | option | R314-R316 | none -/
  record : Option HallRec := none
  /-- residuals RES1 or RES_T2, and RES_T3, 2^-32 ns | signed | R315-R317 | 0 -/
  res1 : Int := 0
  res2 : Int := 0
  /-- further fields of the message, in the order in which the message's table lists them | list | R307, R311, R319, R330 | empty -/
  body : Rec := []
  /-- Unique Identifier field of an NTS response: length and value | option | R323, R329 | none -/
  uid : Option (Nat × Nat) := none
  /-- new cookies of an NTS response | up to 8 seals | R323 | empty -/
  cookies : List SealTok := []
  /-- octets of the message's own fields and of its Hallmark as it left | list | R10, R315, R316 | empty -/
  octets : List Nat := []
  /-- the message carries an AUTHENTICATION TLV or an NTS authenticator | 1 bit | R304 | false -/
  auth : Bool := false
  /-- one-step: the facet writes its time into it during transmission | 1 bit | R309 | false -/
  oneStep : Bool := false
  /-- RCT sequence number | option | R326, R327 | none -/
  rct : Option Nat := none
  /-- ring handle and place of its descriptor | option | R290 | none -/
  desc : Option (Nat × Nat) := none
  /-- TSREQ of its descriptor | 1 bit | R290 | false -/
  tsreq : Bool := false
  /-- COOKIE of its descriptor | 32 bits | R290 | 0 -/
  cookie : Nat := 0
  /-- transmission attempts made | 5 bits | R270, R290 | 0 -/
  attempts : Nat := 0
  /-- packet-clock cycle in which it was enqueued | count | R386 | 0 -/
  at_ : Nat := 0
  /-- exchange whose authenticator is still under way | option | R302, R313 | none -/
  work : Option Nat := none
  deriving DecidableEq, Repr, Inhabited

/-- Bytes 16-31 of a transmit descriptor, or the write-back of a receive descriptor (R290, R291). -/
structure DescBack where
  /-- STATUS of a transmit descriptor | 8 bits | R290 | none -/
  status : Nat := 0
  /-- TSV | 1 bit | R290, R291 | none -/
  tsv : Bool := false
  /-- ATTEMPTS | 4 bits | R290 | none -/
  attempts : Nat := 1
  /-- FRAC, 2^-8 ns | 8 bits | R290, R291 | none -/
  frac : Nat := 0
  /-- NS32 | 32 bits | R290, R291 | none -/
  ns32 : Nat := 0
  /-- COOKIE | 32 bits | R290 | none -/
  cookie : Nat := 0
  /-- LEN of a receive descriptor | 14 bits | R291 | none -/
  len : Nat := 0
  /-- TRUNC | 1 bit | R291 | none -/
  trunc : Bool := false
  /-- SHORTBUF | 1 bit | R291 | none -/
  shortBuf : Bool := false
  /-- FILTER | 4 bits | R291 | none -/
  filter : Nat := 0
  /-- PHASE | 1 bit | R290, R291 | none -/
  phase : Bool := true
  deriving DecidableEq, Repr, Inhabited

/-- A descriptor ring (R288-R294, R590). -/
structure PortRing where
  /-- port | 8 bits | R288 | none -/
  port : Nat := 0
  /-- DIR 1: receive | 1 bit | R288, R481 | none -/
  rx : Bool := false
  /-- N | 4 bits | R288 | none -/
  n : Nat := 6
  /-- VECTOR | 6 bits | R481 | none -/
  vector : Nat := 2
  /-- BASE | 64 bits | R481 | none -/
  base : Nat := 0
  /-- owning bezel | 6 bits | R288 | none -/
  owner : Nat := 0
  /-- TAIL last written | 16 bits | R590 | 0 -/
  tail : Nat := 0
  /-- descriptors not yet taken up, oldest first | list | R290, R294 | empty -/
  descs : List TxDesc := []
  /-- descriptors taken up since the ring opened | count | R290 | 0 -/
  taken : Nat := 0
  /-- descriptors written back since the ring opened | count | R290 | 0 -/
  done : Nat := 0
  /-- results that wait for an earlier descriptor of the ring: place and write-back | list | R294 | empty -/
  late : List (Nat × DescBack) := []
  /-- write-backs in host memory, the newest of each descriptor, oldest first | up to 2^n | R290, R291 | empty -/
  back : List DescBack := []
  deriving DecidableEq, Repr, Inhabited

/-- A receive filter of a port (R289). -/
structure PortFilter where
  /-- KIND 0 off, 1 EtherType, 2 UDP, 3 TCP, 4 IP protocol | 3 bits | R289, R481 | 0 -/
  kind : Nat := 0
  /-- VALUE | 16 bits | R481 | 0 -/
  value : Nat := 0
  /-- ring handle | 12 bits | R481 | 0 -/
  handle : Nat := 0
  deriving DecidableEq, Repr, Inhabited

/-- An address of a port (R299). -/
structure PortAddr where
  /-- 4 or 6 | 3 bits | R299 | none -/
  family : Nat := 4
  /-- VLAN, 0 untagged | 12 bits | R299 | none -/
  vlan : Nat := 0
  /-- priority code point | 3 bits | R299 | none -/
  pcp : Nat := 0
  /-- the address | 128 bits | R299 | none -/
  addr : Nat := 0
  deriving DecidableEq, Repr, Inhabited

/-- What the production test stores of a port: d_pad in ps, and s and d_prod at -40, 25 and 150 degrees (R279 heading, R280). -/
structure PortProd where
  /-- d_pad, ps | rational | R280 | 0: DESIGN CHOICE, a value of the device -/
  dPad : Rat := 0
  /-- s at -40, 25 and 150 degrees | 3 rationals | R280 | 1/2 each: DESIGN CHOICE, a value of the device -/
  s : List Rat := [1/2, 1/2, 1/2]
  /-- d_prod at -40, 25 and 150 degrees, ps | 3 rationals | R280 | 0 each: DESIGN CHOICE, a value of the device -/
  dProd : List Rat := [0, 0, 0]
  deriving DecidableEq, Repr, Inhabited

/-- Loopback calibration of a facet (R280-R284). -/
structure FacetCal where
  /-- port temperature, degrees | rational | R284 | 25: DESIGN CHOICE -/
  temp : Rat := 25
  /-- T_cal | option, rational | R281 | none: no run has succeeded -/
  tCal : Option Rat := none
  /-- d_rx, ps | rational | R280 | 0: DESIGN CHOICE -/
  dRx : Rat := 0
  /-- d_tx, ps | rational | R280 | 0: DESIGN CHOICE -/
  dTx : Rat := 0
  /-- a run is due | 1 bit | R282 | false -/
  due : Bool := false
  /-- a run is under way | 1 bit | R282 | false -/
  running : Bool := false
  /-- consecutive failed runs | count to 3 | R283 | 0 -/
  fails : Nat := 0
  /-- the loopback calibration is out of service | 1 bit | R283 | false -/
  out : Bool := false
  /-- a launch diverged and no run has succeeded since | 1 bit | R313 | false -/
  diverged : Bool := false
  /-- T_cal the temperature transient counts from | option, rational | R82, R284 | none: no such transient -/
  hotFrom : Option Rat := none
  /-- a run has succeeded in the transient and no stamp has used it yet | 1 bit | R82, R281 | false -/
  hotDone : Bool := false
  deriving DecidableEq, Repr, Inhabited

/-- Low-power idle of a port (R274, R275). -/
inductive LpiState where
  | active | sleeping | waking
  deriving DecidableEq, Repr, Inhabited

/-- A port P000-P255 (chapter 09). -/
structure PortSt where
  /-- mode (MRAM) | 3 bits | R256 | off: DESIGN CHOICE -/
  mode : PortMode := .off
  /-- half duplex (MRAM) | 1 bit | R259 | false: DESIGN CHOICE -/
  half : Bool := false
  /-- auto-negotiation (MRAM) | 1 bit | R256 | false: DESIGN CHOICE -/
  an : Bool := false
  /-- port state | 3 bits | R260 | disabled -/
  st : PortState := .disabled
  /-- held in CALIBRATING until device reset | 1 bit | R261 | false -/
  held : Bool := false
  /-- a change into UP waits for its record | 1 bit | R81, R261 | false -/
  toUp : Bool := false
  /-- PAUSE_RX (MRAM) | 1 bit | R266 | false -/
  pauseRx : Bool := false
  /-- maximum frame length (MRAM) | 14 bits | R263 | 9216 -/
  maxLen : Nat := 9216
  /-- pause watchdog limit, ms (MRAM) | 32 bits | R268 | 100 -/
  watchdog : Nat := 100
  /-- pause hold-off, ms (MRAM) | 32 bits | R268 | 1000 -/
  holdoff : Nat := 1000
  /-- pause in force: the packet-clock cycle in which it ends | option | R267 | none -/
  pause : Option Nat := none
  /-- packet-clock cycle since which a pause has been in force without a gap | count | R268 | 0 -/
  pauseFrom : Nat := 0
  /-- the hold-off after a watchdog event runs | 1 bit | R268 | false -/
  holding : Bool := false
  /-- Energy-Efficient Ethernet enabled (MRAM) | 1 bit | R273 | false -/
  eee : Bool := false
  /-- idle threshold, us (MRAM) | 32 bits | R274 | 20 -/
  idle : Nat := 20
  /-- T_w, us (MRAM); none for the default of the speed | option, 32 bits | R274 | none -/
  tw : Option Nat := none
  /-- low-power idle | 2 bits | R274, R275 | active -/
  lpi : LpiState := .active
  /-- receive interpolator pair | see its fields | R277, R279 | as its fields -/
  rxPair : Interp := {}
  /-- transmit interpolator pair | see its fields | R277, R279 | as its fields -/
  txPair : Interp := {}
  /-- loopback calibration | see its fields | R280-R284 | as its fields -/
  cal : FacetCal := {}
  /-- production values (MRAM) | see its fields | R280 | as its fields -/
  prod : PortProd := {}
  /-- external asymmetry A in force, ps | signed 32 bits | R285 | 0 -/
  asym : Int := 0
  /-- U_A in force, ps | 32 bits | R285 | 0 -/
  uAsym : Nat := 0
  /-- asymmetry accepted and waiting: A, U_A and the TAI second of effect | option | R287 | none -/
  asymNext : Option (Int × Nat × Nat) := none
  /-- a record with its widening has been published since it was accepted | 1 bit | R81 | false -/
  asymCover : Bool := false
  /-- widening in place of B_asym until the settle window ends, ps | option | R82 | none -/
  asymWiden : Option Nat := none
  /-- launch margin, ns (MRAM) | 32 bits | R313 | 950 -/
  margin : Nat := 950
  /-- port MAC address | 48 bits | R299 | 0: DESIGN CHOICE, a value of the device -/
  mac : Nat := 0
  /-- addresses (MRAM) | up to 16 | R299 | none -/
  addrs : Tab PortAddr := []
  /-- receive filters (MRAM) | 16 | R289 | off -/
  filters : Tab PortFilter := []
  /-- committed launch-time frames, in order of L | list | R313 | empty -/
  launches : List TxFrame := []
  /-- frame on the wire | option | R384 | none -/
  wire : Option TxFrame := none
  /-- frame that waits for its back-off: frame and slot times r | option | R270 | none -/
  backoff : Option (TxFrame × Nat) := none
  /-- frame that completed last, and its facet stamp | option | R278, R313 | none -/
  sent : Option (TxFrame × Nat) := none
  /-- Syncs sent whose Follow_Up is to be built, and Pdelay_Resps likewise: frame and transmit stamp | list | R309 | empty -/
  follow : List (TxFrame × Nat) := []
  /-- TAI second of the last echo request answered, and how many in it | 48 bits and count | R300 | 0 -/
  echoSec : Nat := 0
  echoCnt : Nat := 0
  /-- what the TSE dropped before any service, by cause | 48 bits each | R300, R328 | 0 -/
  drops : Tab Nat := []
  deriving DecidableEq, Repr, Inhabited

/-- Two ports joined as a PRP node (R325, R326). -/
structure PrpPair where
  /-- LAN A port | 8 bits | R325 | none -/
  a : Nat := 0
  /-- LAN B port | 8 bits | R325 | none -/
  b : Nat := 0
  /-- entry-forget time, ms | 32 bits | R326 | 400 -/
  forget : Nat := 400
  /-- node table: source, sequence number, arrival in ns of counted time without steps | up to 65536 sources | R326 | empty -/
  seen : List (Nat × Nat × Nat) := []
  /-- RCT sequence number of the next frame sent on both ports | 16 bits | R327 | 0: DESIGN CHOICE -/
  seq : Nat := 0
  deriving DecidableEq, Repr, Inhabited

/-- Ports, their rings and their PRP pairs (chapter 09, R325). -/
structure PortsSt where
  /-- ports P000-P255 | 256 | R256 | as its fields -/
  ports : Tab PortSt := []
  /-- open rings by handle | up to 4096 | R288 | none open -/
  rings : Tab PortRing := []
  /-- write-backs in host memory of each handle's ring as it stood when it was last closed | lists | R288 | empty -/
  closed : Tab (List DescBack) := []
  /-- PRP pairs (MRAM) | list | R325 | none -/
  prp : List PrpPair := []
  deriving DecidableEq, Repr, Inhabited

/-- One three-colour meter (R374-R376). -/
structure Meter where
  /-- MODE 0 OFF, 1 SRTCM, 2 TRTCM (MRAM) | 2 bits | R374, R484 | 0: DESIGN CHOICE, as an unset meter colours green -/
  mode : Nat := 0
  /-- PACKETS (MRAM) | 1 bit | R374, R484 | false: DESIGN CHOICE -/
  packets : Bool := false
  /-- CIR, tokens/s (MRAM) | 40 bits | R375 | 0 -/
  cir : Nat := 0
  /-- PIR, tokens/s (MRAM) | 40 bits | R375 | 0 -/
  pir : Nat := 0
  /-- CBS, tokens (MRAM) | 32 bits | R375 | 0 -/
  cbs : Nat := 0
  /-- EBS or PBS, tokens (MRAM) | 32 bits | R375 | 0 -/
  ebs : Nat := 0
  /-- committed bucket, 1/1200000000 token | count | R375 | 0: no meter configured -/
  tc : Nat := 0
  /-- excess or peak bucket, 1/1200000000 token | count | R375 | 0: no meter configured -/
  te : Nat := 0
  /-- packet-clock cycle up to which the buckets are filled | count | R375 | 0 -/
  at_ : Nat := 0
  /-- book: units credited, spent and discarded above size, both buckets | counts | R394 | 0 -/
  credited : Nat := 0
  spent : Nat := 0
  discarded : Nat := 0
  deriving DecidableEq, Repr, Inhabited

/-- What a shaped entity does (R383). -/
inductive ShaperPhase where
  | idle | waiting | sending (line : Nat)
  deriving DecidableEq, Repr, Inhabited

/-- One credit shaper (R383). -/
structure Shaper where
  /-- rate r, bytes/s, 0 OFF (MRAM) | 64 bits | R383 | 0: OFF; port shapers run at their line rate (R383) -/
  rate : Nat := 0
  /-- high credit, bytes (MRAM) | 25 bits | R383 | 16383 -/
  high : Nat := 16383
  /-- low credit, bytes (MRAM) | signed 25 bits | R383 | -16383 -/
  low : Int := -16383
  /-- set by `tm.set_shaper` (MRAM): a port shaper that is not set runs at the line rate | 1 bit | R383 | false -/
  set : Bool := false
  /-- credit, 1/1200000000 byte | signed | R383 | 0 -/
  credit : Int := 0
  /-- packet-clock cycle up to which the credit is brought | count | R383 | 0 -/
  at_ : Nat := 0
  /-- what the entity does | see its cases | R383 | idle -/
  phase : ShaperPhase := .idle
  /-- book: units accrued, sent, cut at a bound, zeroed when idle | counts | R394 | 0 -/
  accrued : Nat := 0
  sent : Nat := 0
  cut : Int := 0
  zeroed : Nat := 0
  deriving DecidableEq, Repr, Inhabited

/-- A flow of a service queue: one subscriber's frames (R381, R384). -/
structure Flow where
  /-- subscriber | 16 bits | R381 | none -/
  sub : Nat := 0
  /-- deficit, bytes | count | R384 | 0 -/
  deficit : Nat := 0
  /-- the quantum of its present turn has been added | 1 bit | R384 | false -/
  turn : Bool := false
  /-- frames, oldest first | list | R381 | empty -/
  frames : List TxFrame := []
  deriving DecidableEq, Repr, Inhabited

/-- Depth and delay statistics over one window (R386): last, least, greatest and sum of frames, cells and head delay. -/
structure DepthStat where
  /-- samples taken | count | R386 | 0 -/
  n : Nat := 0
  /-- last values: frames, cells, head delay in packet-clock cycles | 3 counts | R386 | 0 -/
  last : Nat × Nat × Nat := (0, 0, 0)
  /-- least values | 3 counts | R386 | 0 -/
  lo : Nat × Nat × Nat := (0, 0, 0)
  /-- greatest values | 3 counts | R386 | 0 -/
  hi : Nat × Nat × Nat := (0, 0, 0)
  /-- sums | 3 counts | R386 | 0 -/
  sum : Nat × Nat × Nat := (0, 0, 0)
  deriving DecidableEq, Repr, Inhabited

/-- The samples of a queue or subscriber: the running window and the last completed one (R386). -/
structure DepthWin where
  /-- running window | see its fields | R386 | as its fields -/
  run : DepthStat := {}
  /-- last completed window | see its fields | R386 | as its fields -/
  done : DepthStat := {}
  deriving DecidableEq, Repr, Inhabited

/-- A service queue of a port and class (R381, R382). -/
structure SvcQueue where
  /-- limit, cells (MRAM) | 15 bits | R382 | 1024 -/
  limit : Nat := 1024
  /-- yellow threshold, cells; none for half the limit (MRAM) | option, 15 bits | R382 | none -/
  yellow : Option Nat := none
  /-- flows in round-robin order | list | R381, R384 | empty -/
  flows : List Flow := []
  deriving DecidableEq, Repr, Inhabited

/-- What the TM holds of a bezel (R378-R380). -/
structure TmBezel where
  /-- reservation, cells (MRAM) | 16 bits | R379 | 0: DESIGN CHOICE -/
  reserve : Nat := 0
  /-- shared cap, cells (MRAM) | 15 bits | R379 | 4096 -/
  cap : Nat := 4096
  /-- cells in use | 17 bits | R378 | 0 -/
  held : Nat := 0
  deriving DecidableEq, Repr, Inhabited

/-- Sampling of a port's queues (R386). -/
structure SampleCfg where
  /-- PERIOD, us (MRAM) | 32 bits | R386 | 1000 -/
  period : Nat := 1000
  /-- WINDOW, periods (MRAM) | 17 bits | R386 | 1: DESIGN CHOICE -/
  window : Nat := 1
  deriving DecidableEq, Repr, Inhabited

/-- A rule of the subscriber rule table (R373). -/
structure SubRule where
  /-- owning bezel | 6 bits | R373 | none -/
  bezel : Nat := 0
  /-- index within the bezel's quota | 14 bits | R484 | none -/
  index : Nat := 0
  /-- KIND 1 IPv4, 2 IPv6, 3 MAC | 2 bits | R373, R484 | none -/
  kind : Nat := 1
  /-- length of the address's leading part | 8 bits | R373, R484 | none -/
  pfxLen : Nat := 0
  /-- SUBSCRIBER | 32 bits | R373, R484 | none -/
  sub : Nat := 0
  /-- ADDRESS | 128 bits | R373, R484 | none -/
  addr : Nat := 0
  deriving DecidableEq, Repr, Inhabited

/-- The traffic manager (chapter 12). -/
structure TmSt where
  /-- bezel meters | 64 | R374 | as its fields -/
  bezMeters : Tab Meter := []
  /-- subscriber meters | 65536 | R374 | as its fields -/
  subMeters : Tab Meter := []
  /-- service meters, port * 8 + class | 2048 | R374 | as its fields -/
  svcMeters : Tab Meter := []
  /-- packet-buffer cells by bezel | 64 | R378-R380 | as its fields -/
  bezels : Tab TmBezel := []
  /-- service queues, port * 8 + class | 2048 | R381 | as its fields -/
  queues : Tab SvcQueue := []
  /-- subscriber shapers | 65536 | R383 | as its fields -/
  subShapers : Tab Shaper := []
  /-- service-queue shapers | 2048 | R383 | as its fields -/
  svcShapers : Tab Shaper := []
  /-- port shapers | 256 | R383 | at line rate -/
  portShapers : Tab Shaper := []
  /-- sampling by port | 256 | R386 | as its fields -/
  samples : Tab SampleCfg := []
  /-- samples of service queues | 2048 | R386 | as its fields -/
  queueWins : Tab DepthWin := []
  /-- samples of subscribers | sparse | R386 | as its fields -/
  subWins : Tab DepthWin := []
  /-- the subscriber rule table (MRAM) | up to 16384 | R373 | empty -/
  rules : List SubRule := []
  deriving DecidableEq, Repr, Inhabited

/-- A service (R296, R297). -/
structure Service where
  /-- owning bezel | 6 bits | R296 | none -/
  bezel : Nat := 0
  /-- its parameters (MRAM) | see `svc.set_service` | R297, R481 | none -/
  cfg : ServiceArgs := { op := 0 }
  /-- sequence counters of multicast messages by port: 0 Sync, 1 Announce | 16 bits each | R310 | 0: DESIGN CHOICE -/
  seqs : Tab Nat := []
  /-- sequence counters of unicast messages by grant entry and message type | 16 bits each | R310 | 0: DESIGN CHOICE -/
  useqs : Tab Nat := []
  /-- counters: 0 requests answered, 1 messages originated, 2 Announces of other clocks, 3 drops | 48 bits each | R296, R306 | 0 -/
  cnt : Tab Nat := []
  /-- TAI second in which each sender was last sent an error signal | list | R330 | empty -/
  signalled : List (Nat × Nat) := []
  deriving DecidableEq, Repr, Inhabited

/-- An entry of the grant table (R318). -/
structure Grant where
  /-- TAG | 48 bits | R318 | 0 -/
  tag : Nat := 0
  /-- the client whose TAG it is (the model's own, for the collision of R319) | count | R318, R319 | 0 -/
  client : Nat := 0
  /-- port on which it was granted (the model's own) | 8 bits | R320 | 0 -/
  port : Nat := 0
  /-- SERVICE | 10 bits | R318 | 0 -/
  service : Nat := 0
  /-- BEZEL | 6 bits | R318 | 0 -/
  bezel : Nat := 0
  /-- SUBSCRIBER | 16 bits | R318 | 0 -/
  sub : Nat := 0
  /-- ANN_LOG, SYNC_LOG, DRESP_LOG | signed 4 bits each | R318 | 0 -/
  annLog : Int := 0
  syncLog : Int := 0
  drespLog : Int := 0
  /-- GRANTED | 3 bits | R318 | 0: free -/
  granted : Nat := 0
  /-- CANCELLING | 1 bit | R318 | false -/
  cancelling : Bool := false
  /-- EXPIRY as a whole TAI second | 48 bits, 16 of them shown | R318, R320 | 0 -/
  expiry : Nat := 0
  /-- KEY | 12 bits | R318 | 0 -/
  key : Nat := 0
  /-- AUTHED | 1 bit | R318 | false -/
  authed : Bool := false
  deriving DecidableEq, Repr, Inhabited

/-- A frame in a pipeline's input queue (R303). -/
structure TseIn where
  /-- port that received it | 8 bits | R301 | none -/
  port : Nat := 0
  /-- owning bezel | 6 bits | R301 | none -/
  bezel : Nat := 0
  /-- the frame | see its fields | R302 | none -/
  f : RxFrame := {}
  /-- facet stamp, 2^-20 ns TAI | count | R278 | none -/
  stamp : Nat := 0
  /-- the port was UP at the time-stamp point | 1 bit | R260, R292 | none -/
  timed : Bool := true
  /-- colour given by the bezel meter | 2 bits | R376 | none -/
  colour : Colour := .green
  /-- stored part marked TRUNC | 1 bit | R263 | none -/
  trunc : Bool := false
  /-- record latest for the port's point at the stamp | option | R314 | none -/
  record : Option HallRec := none
  /-- packet cycle in which it joined the queue | count | R303, R545 | none -/
  at_ : Nat := 0
  deriving DecidableEq, Repr, Inhabited

/-- The request of an exchange in the pipelines. -/
inductive WorkReq where
  /-- Delay_Req or Pdelay_Req (R309) -/
  | ptp (peer : Bool) (m : PtpMsg)
  /-- an NTP request (R311) -/
  | ntp (m : NtpReq)
  /-- REQUEST_UNICAST_TRANSMISSION (R319) -/
  | unicast (r : UnicastReq)
  /-- a message the service originates (R310) -/
  | originate
  deriving DecidableEq, Repr, Inhabited

/-- One Signet operation of an exchange (R304). -/
inductive SigStep where
  | verify | openSeal | sealCookies | sign
  deriving DecidableEq, Repr, Inhabited

/-- An exchange whose Signet operations are under way (R302, R304). -/
structure Work where
  /-- its number | count | R304 | none -/
  id : Nat := 0
  /-- pipeline | 2 bits | R302 | none -/
  pipe : Nat := 0
  /-- port | 8 bits | R302 | none -/
  port : Nat := 0
  /-- bezel | 6 bits | R301 | none -/
  bezel : Nat := 0
  /-- service | 10 bits | R372 | none -/
  service : Nat := 0
  /-- subscriber | 16 bits | R372 | none -/
  sub : Nat := 0
  /-- colour | 2 bits | R376 | none -/
  colour : Colour := .green
  /-- receive stamp, 2^-20 ns TAI | count | R278 | none -/
  rx : Nat := 0
  /-- length of the received frame | 14 bits | R378 | none -/
  len : Nat := 64
  /-- record latest for the port's point at the stamp | option | R314 | none -/
  record : Option HallRec := none
  /-- the request | see its cases | R302 | none -/
  req : WorkReq := .originate
  /-- operations still to be performed, with key slot and beats | list | R304, R339 | none -/
  steps : List (SigStep × Nat × Nat) := []
  /-- RCT sequence number of the request | option, 16 bits | R436 | none -/
  rct : Option Nat := none
  /-- the service's parameters when the request was parsed | see `svc.set_service` | R333 | none -/
  cfg : ServiceArgs := { op := 0 }
  /-- the response once built | option | R302 | none -/
  resp : Option TxFrame := none
  deriving DecidableEq, Repr, Inhabited

/-- Seals of a bezel (R321, R322). -/
structure SealSt where
  /-- seal lifetime, s (MRAM) | 32 bits | R322 | 86400 -/
  lifetime : Nat := 86400
  /-- KEY_GEN | 32 bits | R321, R322 | 0: DESIGN CHOICE -/
  gen : Nat := 0
  /-- second of counted time without steps from which the next seal key is due | count | R322 | 86400: DESIGN CHOICE, one lifetime after second 0 -/
  next : Nat := 86400
  /-- receive stamps below this TAI second are judged under the generations before the last rotation | 48 bits | R322 | 0 -/
  since : Nat := 0
  deriving DecidableEq, Repr, Inhabited

/-- The Time Service Engine (chapter 10). -/
structure TseSt where
  /-- services | up to 1024 | R296 | none -/
  services : Tab (Option Service) := []
  /-- grant table (sparse) | 2^20 entries | R318 | free -/
  grants : Tab Grant := []
  /-- input queues of pipelines 0-3, oldest first | 4 x 4096 | R303 | empty -/
  inputs : Tab (List TseIn) := []
  /-- exchanges whose Signet operations are under way | list | R304 | empty -/
  works : List Work := []
  /-- number of the next exchange | count | R304 | 0 -/
  nextWork : Nat := 0
  /-- launch lists: pipeline * 64 + bezel, launch-time responses that are not eligible, with their port | list each | R385 | empty -/
  waits : Tab (List (Nat × TxFrame)) := []
  /-- first issue slot of a pipeline after its last one taken, of 16 packet cycles each | 4 | R302, R545 | 0 -/
  issued : Tab Nat := []
  /-- seals by bezel | 64 | R322 | as its fields -/
  seals : Tab SealSt := []
  deriving DecidableEq, Repr, Inhabited

/-- A job of the Signet pool (R338, R387). -/
structure SigJob where
  /-- requester: 0-63 bezel, 64 Time Core, 65 Locket | 7 bits | R387 | none -/
  req : Nat := 0
  /-- beats | count | R339 | none -/
  beats : Nat := 2
  /-- green, or of the Time Core or Locket | 1 bit | R389 | none -/
  green : Bool := true
  /-- key slot | 12 bits | R338 | none -/
  slot : Nat := 0
  /-- the operation needs this USAGE bit | 4 bits | R340, R348 | none -/
  usage : Nat := 0
  /-- its place in the order of arrival | count | R389 | none -/
  serial : Nat := 0
  /-- exchange it belongs to | option | R304 | none -/
  work : Option Nat := none
  /-- it has been reissued after ENGINE | 1 bit | R340 | false -/
  again : Bool := false
  /-- the engine on which it returned ENGINE | option, 4 bits | R340 | none -/
  failedOn : Option Nat := none
  deriving DecidableEq, Repr, Inhabited

/-- A Signet engine SG00-SG15 (R338, R341). -/
structure SigEngine where
  /-- in service | 1 bit | R341 | true -/
  inService : Bool := true
  /-- its current job | option | R389 | none -/
  job : Option SigJob := none
  /-- counters: jobs, ENGINE results | 48 bits each | R539 | 0 -/
  jobs : Nat := 0
  faults : Nat := 0
  deriving DecidableEq, Repr, Inhabited

/-- A copy of the slot table and of the background weights (R387). -/
structure StaTable where
  /-- OWNER of each entry that differs from 127, the fixed entries not listed | 512 x 7 bits | R387 | 127 -/
  owner : Tab Nat := []
  /-- background weights of BZ00-BZ63 | 64 x 8 bits | R387 | 16 -/
  weight : Tab Nat := []
  deriving DecidableEq, Repr, Inhabited

/-- The slot-table arbiter (R387-R393). -/
structure StaSt where
  /-- shadow copy (MRAM) | see its fields | R387 | as its fields -/
  shadow : StaTable := {}
  /-- active copy | see its fields | R387 | as its fields -/
  active : StaTable := {}
  /-- reservations in beats/s by bezel (MRAM) | 64 | R391 | 0 -/
  reserve : Tab Nat := []
  /-- a commit waits for entry 0 | 1 bit | R392 | false -/
  commit : Bool := false
  /-- next entry to be passed | 9 bits | R388 | 0 -/
  pointer : Nat := 0
  /-- credits of the requesters | 66, signed | R388, R389 | 0 -/
  credit : Tab Int := []
  /-- background counters of the requesters | 66 | R389 | 0 -/
  counter : Tab Nat := []
  /-- waiting jobs | list | R389, R390 | empty -/
  jobs : List SigJob := []
  /-- last hint of each requester: its credit and the entries until its next owned one | 66 | R390 | none -/
  hints : Tab (Int × Nat) := []
  /-- slots whose keys the Signet key caches hold | list | R355, R390 | empty -/
  cached : List Nat := []
  /-- jobs to be reissued after ENGINE | list | R389 | empty -/
  reissue : List SigJob := []
  /-- number of the next job | count | R389 | 0 -/
  serial : Nat := 0
  /-- engines SG00-SG15 | 16 | R338 | as its fields -/
  engines : Tab SigEngine := []
  /-- book: entries passed, credits granted by requester, credits passed to background, beats debited by requester | counts | R388, R394 | 0 -/
  passed : Nat := 0
  granted : Tab Nat := []
  background : Nat := 0
  debited : Tab Nat := []
  /-- bezels whose reservation was met at the last evaluation | list | R393 | every bezel has none: empty -/
  unmet : List Nat := []
  deriving DecidableEq, Repr, Inhabited

/-- States of a key slot (R348). -/
inductive SlotKeyState where
  | free | valid | exhausted | expired | orphan | invalid
  deriving DecidableEq, Repr, Inhabited

/-- The STATE code (R348). -/
def SlotKeyState.code : SlotKeyState → Nat
  | .free => 0 | .valid => 1 | .exhausted => 2 | .expired => 3 | .orphan => 4 | .invalid => 5

/-- A key slot KS0000-KS4095 (R347, R348). -/
structure KeySlot where
  /-- USAGE (MRAM) | 14 bits | R348 | 0: a free slot -/
  usage : Nat := 0
  /-- ALG (MRAM) | 8 bits | R348 | 0: a free slot -/
  alg : Nat := 0
  /-- LEN (MRAM) | 8 bits | R348 | 0: a free slot -/
  len : Nat := 0
  /-- STATE (MRAM) | 3 bits | R348 | free -/
  st : SlotKeyState := .free
  /-- DEPTH (MRAM) | 3 bits | R348 | 0: a free slot -/
  depth : Nat := 0
  /-- OWNER (MRAM) | 6 bits | R348 | 0: a free slot -/
  owner : Nat := 0
  /-- LOCKET (MRAM) | 1 bit | R348 | false: a free slot -/
  locket : Bool := false
  /-- EXPIRE_AT_RESET | 1 bit | R348 | false: a free slot -/
  expireAtReset : Bool := false
  /-- PARENT (MRAM) | 12 bits | R348 | 0: a free slot -/
  parent : Nat := 0
  /-- USE_CTR | 32 bits | R348, R351 | 0: a free slot -/
  useCtr : Nat := 0
  /-- USE_LIMIT (MRAM) | 32 bits | R348 | 0: a free slot -/
  useLimit : Nat := 0
  /-- EXPIRY (MRAM) | 32 bits | R348 | 0: a free slot -/
  expiry : Nat := 0
  /-- GEN (MRAM) | 16 bits | R348 | 0: a free slot -/
  gen : Nat := 0
  /-- LABEL (MRAM) | 32 bits | R348 | 0: a free slot -/
  label : Nat := 0
  /-- key material, which no command returns | 64 bytes | R337, R348 | 0: a free slot -/
  material : Nat := 0
  /-- USE_CTR reservation recorded in MRAM | 32 bits | R352 | 0 -/
  reserved : Nat := 0
  deriving DecidableEq, Repr, Inhabited

/-- A DRBG unit (R344, R345): 0 LK, 1-4 TS0-TS3, 5 MAC. -/
structure Drbg where
  /-- generate requests since the last reseed | count | R344 | 0 -/
  requests : Nat := 0
  /-- ERROR | 1 bit | R345 | false -/
  error : Bool := false
  deriving DecidableEq, Repr, Inhabited

/-- TLS server configuration of a bezel (R361). -/
structure TlsCfg where
  /-- SIGN slot | 12 bits | R361 | none -/
  signSlot : Nat := 0
  /-- CLIENT_AUTH | 1 bit | R361 | false -/
  clientAuth : Bool := false
  /-- trust anchors | 0-8 | R361 | 0 -/
  anchors : Nat := 0
  /-- length of the chain in bytes | 14 bits | R361 | 0 -/
  chainLen : Nat := 0
  deriving DecidableEq, Repr, Inhabited

/-- What a key-establishment connection does. -/
inductive ConnPhase where
  | open_ | waiting | handshake | established
  deriving DecidableEq, Repr, Inhabited

/-- A TCP connection to port 4460 (R362). -/
structure KeConn where
  /-- port it arrived on | 8 bits | R362 | none -/
  port : Nat := 0
  /-- bezel of its address | 6 bits | R362 | none -/
  bezel : Nat := 0
  /-- client's address and TCP port | count | R362 | none -/
  client : Nat := 0
  sport : Nat := 0
  /-- local address | 128 bits | R362 | none -/
  addr : Nat := 0
  /-- what it does | see its cases | R362 | open -/
  phase : ConnPhase := .open_
  deriving DecidableEq, Repr, Inhabited

/-- Signet keys, the Locket and the key-establishment service (chapter 11). -/
structure KeySt where
  /-- key slots, sparse | 4096 | R347, R348 | KS0000 and KS0001 VALID (R347, R353), no owner root yet: DESIGN CHOICE, as at the first boot; every other slot FREE -/
  slots : Tab KeySlot := [(0, { usage := 0x40, alg := 2, len := 32, st := .valid, owner := 63, locket := true, gen := 1 }),
                          (1, { usage := 0x30, alg := 2, len := 32, st := .valid, depth := 1, owner := 63, locket := true, gen := 1 })]
  /-- DRBG units | 6 | R344 | as its fields -/
  drbgs : Tab Drbg := []
  /-- the entropy source has passed its start-up test | 1 bit | R343 | false -/
  entropyUp : Bool := false
  /-- the entropy source is out of service | 1 bit | R345 | false -/
  entropyOut : Bool := false
  /-- consecutive failed restarts | count to 3 | R345 | 0 -/
  entropyFails : Nat := 0
  /-- entropy restarts | 48 bits | R345, R539 | 0 -/
  restarts : Nat := 0
  /-- public-key engines out of service | list of 0, 1 | R342 | none -/
  pkOut : List Nat := []
  /-- TLS configuration by bezel (MRAM) | 64 | R361 | none -/
  tls : Tab (Option TlsCfg) := []
  /-- connections by number | up to 4096 | R362 | none -/
  conns : Tab (Option KeConn) := []
  /-- answers of the key-establishment service by cause: 0 bad_record_mac, 1 handshake_failure, 2 decode_error,
  3 no_application_protocol, 4 internal_error, 5 NTS-KE error 0, 6 error 1, 7 error 2, 8 protocol_version, 9 bad_certificate,
  10 limit resets, 11 no server identity | 48 bits each | R361-R363 | 0 -/
  answers : Tab Nat := []
  /-- integrity failures found | 48 bits | R349 | 0 -/
  tagFails : Nat := 0
  deriving DecidableEq, Repr, Inhabited

/-- States of a firmware set (R507). -/
inductive SetState where
  | empty | valid | trial | confirmed | bad
  deriving DecidableEq, Repr, Inhabited

/-- One stored firmware set (R506, R507); MRAM. -/
structure FwSet where
  /-- state | 3 bits | R507 | confirmed: DESIGN CHOICE, as shipped (set A), empty (set B) -/
  st : SetState := .empty
  /-- signature and image hashes verify | 1 bit | R508 | true: DESIGN CHOICE, as shipped -/
  verified : Bool := true
  /-- PRODUCT | 16 bits | R506 | 0x9256 -/
  product : Nat := 0x9256
  /-- hardware revisions listed | up to 16 | R506 | [1]: DESIGN CHOICE, names the shipped HW_REV -/
  hw : List Nat := [1]
  /-- SET_VERSION | 32 bits | R506 | 1: DESIGN CHOICE -/
  version : Nat := 1
  /-- SVN | 32 bits | R506 | 0: DESIGN CHOICE -/
  svn : Nat := 0
  /-- BUILD_WEEK | 16 bits | R506 | 2300: DESIGN CHOICE -/
  week : Nat := 2300
  /-- companion set versions | up to 32 | R506 | empty: DESIGN CHOICE -/
  comp : List Nat := []
  /-- the previous boot of this set did not reach RUN within 10 s | 1 bit | R508 | false -/
  slowBoot : Bool := false
  deriving DecidableEq, Repr, Inhabited

/-- Kinds of sensor (R493). -/
inductive SensorKind where
  | temperature | voltage | clock
  deriving DecidableEq, Repr, Inhabited

/-- One sensor record (R493). -/
structure Sensor where
  /-- STATUS 0 good, 1 warning, 2 out of range, 3 failed, 4 absent | 8 bits | R493 | 0: DESIGN CHOICE good -/
  status : Nat := 0
  /-- VALUE | 32 bits signed | R493 | 0: DESIGN CHOICE 0 -/
  value : Int := 0
  deriving DecidableEq, Repr, Inhabited

/-- One MRAM bank (R497, R502). -/
structure NvBank where
  /-- read-only until device reset | 1 bit | R502 | false -/
  readOnly : Bool := false
  /-- wear count of the most-written page | 32 bits | R502 | 0: DESIGN CHOICE 0 -/
  wear : Nat := 0
  deriving DecidableEq, Repr, Inhabited

/-- One copy of a stored record, by its trailer (R499). -/
structure NvCopy where
  /-- GEN | 32 bits | R499 | 0: DESIGN CHOICE, absent -/
  gen : Nat := 0
  /-- SETGEN | 32 bits | R499, R501 | 0 -/
  setGen : Nat := 0
  /-- no word of it is uncorrectable and its CRC matches | 1 bit | R499 | false: absent -/
  ok : Bool := false
  /-- times its pages were written | count | R502 | 0: DESIGN CHOICE -/
  writes : Nat := 0
  deriving DecidableEq, Repr, Inhabited

/-- One record of the record store, or the boot record, in its two copies (R499, R500). -/
structure NvRec where
  /-- copy 0, in NV2 (the boot record's in NV0) | see its fields | R497, R499 | absent -/
  c0 : NvCopy := {}
  /-- copy 1, in NV3 (the boot record's in NV1) | see its fields | R497, R499 | absent -/
  c1 : NvCopy := {}
  deriving DecidableEq, Repr, Inhabited

/-- One event-log entry (R504). -/
structure LogEntry where
  /-- LSEQ | 32 bits | R504 | none -/
  lseq : Nat := 0
  /-- EPOCH | 32 bits | R504 | none -/
  epoch : Nat := 0
  /-- TIME | ETW | R504 | none -/
  time : Etw := {}
  /-- CODE | 16 bits | R504 | none -/
  code : Nat := 0
  /-- SEVERITY | 8 bits | R504 | none -/
  severity : Nat := 0
  /-- COUNT | 32 bits | R504, R43 | none -/
  count : Nat := 1
  /-- SUBJECT | 32 bits | R504 | none -/
  subject : Nat := 0
  /-- DETAIL | up to 24 bytes | R504 | none -/
  detail : Rec := []
  /-- its CRC fails: power failed while it was written | 1 bit | R498, R505 | false -/
  torn : Bool := false
  deriving DecidableEq, Repr, Inhabited

/-- What a write of MRAM that no completion waits for replaces, which stands again where power fails before it is valid (R498, R499). -/
inductive NvValue where
  | hours (hours : Nat × Nat × Nat)
  | models (saved : Tab SavedModel)
  | baseline (stream : Nat) (level : Option Int)
  | survey (antenna : Nat) (pos : Option SurveyRec)
  | stored (almanac ephem : Option Nat)
  | reserve (slot reserved : Nat)
  | sets (sets : Tab FwSet) (highSvn : Nat)
  | ring (before added : List LogEntry)
  deriving DecidableEq, Repr, Inhabited

/-- How a word that was being written when power failed reads afterwards (R498). -/
inductive WordFate where
  | old | new | uncorrectable
  deriving DecidableEq, Repr, Inhabited

/-- A write of MRAM: the words of its pages follow one another in 250 ns each (R498). -/
structure NvWrite where
  /-- the record's key; the boot record and the log have none of the record store | option | R499, R500 | none -/
  key : Option Nat := none
  /-- the copy written | 1 bit | R499 | 0 -/
  copy : Nat := 0
  /-- words to be written | count | R498, R499 | 0 -/
  words : Nat := 0
  /-- instant of its first word, ns of counted time | count | R498 | 0 -/
  at_ : Nat := 0
  /-- words written when the MP restarted, after which it is redone | option | R515 | none -/
  stopped : Option Nat := none
  /-- the record before it | see its fields | R499 | as its fields -/
  was : NvRec := {}
  /-- what it replaces | see its cases | R499 | as its fields -/
  old : NvValue := default
  deriving DecidableEq, Repr, Inhabited

/-- States of an interrupt source (R492). -/
inductive IcuState where
  | inactive | pending | active | activePending
  deriving DecidableEq, Repr, Inhabited

/-- One source of the interrupt controller (R491, R492): 0-63 MP, 64-127 TP, 128-191 LP, 192-1215 shared. -/
structure IcuSrc where
  /-- state | 2 bits | R492 | inactive -/
  st : IcuState := .inactive
  /-- masked | 1 bit | R492 | false: DESIGN CHOICE -/
  masked : Bool := false
  /-- priority | 4 bits | R491 | 0: DESIGN CHOICE -/
  priority : Nat := 0
  /-- target 0 MP, 1-4 TP0-TP3, 5 LP, 6 HOST | 3 bits | R491 | 0: DESIGN CHOICE -/
  target : Nat := 0
  /-- HOST function | 6 bits | R491 | 0: DESIGN CHOICE -/
  fn : Nat := 0
  /-- HOST vector | 6 bits | R491 | 0: DESIGN CHOICE -/
  vector : Nat := 0
  /-- taken again ahead of equal priority | 1 bit | R492 | false -/
  again : Bool := false
  deriving DecidableEq, Repr, Inhabited

/-- What BAR2 shows beside MBX_EPOCH and the fault status words (R593). -/
structure Bar2View where
  /-- the snapshot registers | see its fields | R591 | as its fields -/
  snap : Snap := {}
  /-- rewrites of each bezel's snapshot record | 64 counts | R592 | 0 -/
  rewrites : Tab Nat := []
  /-- records of the snapshot points | 64 x 32 bytes | R591 | as its fields -/
  recs : Tab HallRec := []
  /-- MBX_STATE.READY | 1 bit | R593 | false -/
  ready : Bool := false
  /-- DEV_STATE | 32 bits | R593 | 2 -/
  dev : Nat := 2
  /-- DEV_PAIR | 32 bits | R593 | 0 -/
  pair : Nat := 0
  /-- queue state and semaphores of each function | 64 | R594, R596 | as its fields -/
  fns : Tab FnSt := []
  /-- the counters | 10240 x 48 bits | R597 | 0 -/
  ctr : Tab Nat := []
  /-- granted bezel of each bank | 320 | R540, R597 | none -/
  grants : Tab (Option Nat) := []
  deriving DecidableEq, Repr, Inhabited

/-- The management subsystem (chapter 17). -/
structure MgmtSt where
  /-- device identifier, set at manufacture | 64 bits | R75, R476 | 1: DESIGN CHOICE -/
  deviceId : Nat := 1
  /-- HW_REV, set at manufacture | 16 bits | R476 | 1: DESIGN CHOICE -/
  hwRev : Nat := 1
  /-- firmware sets A = 0, B = 1 (MRAM) | 2 | R506, R507 | A confirmed, B empty: DESIGN CHOICE -/
  sets : Tab FwSet := [(0, { st := .confirmed })]
  /-- selected set (MRAM) | 1 bit | R500 | 0: DESIGN CHOICE -/
  selected : Nat := 0
  /-- running set, 2 the recovery monitor | 2 bits | R508, R509 | 0: DESIGN CHOICE -/
  running : Nat := 0
  /-- a set whose checks passed runs (not RESTRICTED's newest set) | 1 bit | R508, R555 | true: DESIGN CHOICE -/
  tested : Bool := true
  /-- reason of the last fallback, 0 none | 8 bits | R508 | 0 -/
  fallback : Nat := 0
  /-- highest SVN confirmed (MRAM) | 32 bits | R500 | 0: DESIGN CHOICE -/
  highSvn : Nat := 0
  /-- `nv.reset_config` waits for the next device reset | 1 bit | R503 | false -/
  nvReset : Bool := false
  /-- committed SETGEN (MRAM) | 32 bits | R500, R501 | 0: DESIGN CHOICE 0 -/
  setGen : Nat := 0
  /-- stored records' generations, keyed by objKey (MRAM) | list | R499 | empty -/
  recs : Tab NvRec := []
  /-- the boot record's copies (MRAM) | see its fields | R500 | copy 0 valid with GEN 1: DESIGN CHOICE, as shipped -/
  boot : NvRec := { c0 := { gen := 1, ok := true, writes := 1 } }
  /-- the last write of MRAM that no completion waits for, if none followed it | option | R498 | none -/
  writing : Option NvWrite := none
  /-- MRAM banks NV0-NV3 | 4 | R497, R502 | as its fields -/
  banks : Tab NvBank := []
  /-- sensors by ID | 45 | R493 | as its fields -/
  sensors : Tab Sensor := []
  /-- hours above 105, 125, 150 C (MRAM) | 3 x 32 bits | R496 | 0: DESIGN CHOICE 0 -/
  hours : Nat × Nat × Nat := (0, 0, 0)
  /-- next LSEQ (MRAM) | 32 bits | R504 | 0: DESIGN CHOICE 0 -/
  lseq : Nat := 0
  /-- log ring (MRAM) | 65536 entries | R504 | empty -/
  log : List LogEntry := []
  /-- entries staged in MP memory | list | R504 | empty -/
  staged : List LogEntry := []
  /-- entries of the present second still being coalesced | list | R43 | empty -/
  coal : List LogEntry := []
  /-- occurrences folded into coalesced entries this epoch | 32 bits | R505 | 0 -/
  coalesced : Nat := 0
  /-- entries dropped in the present second above 10000 per s | count | R505 | 0 -/
  dropped : Nat := 0
  /-- TAI second the log-rate count belongs to | 48 bits | R505 | 0 -/
  logSec : Nat := 0
  /-- entries logged in that second | count | R505 | 0 -/
  logRate : Nat := 0
  /-- sources of the interrupt controller | 1216 | R491 | as its fields -/
  icu : Tab IcuSrc := []
  /-- MP restart in progress | 1 bit | R488 | false -/
  mpRestart : Bool := false
  /-- the MP has stopped for good | 1 bit | R531 | false -/
  mpStopped : Bool := false
  /-- what BAR2 keeps while the MP is stopped | option | R531, R593 | none -/
  held : Option Bar2View := none
  /-- instant, ns of counted time without steps, of the first lockstep mismatch, MP memory | option | R488 | none -/
  mismatch : Option Nat := none
  /-- lockstep transients | count | R488 | 0 -/
  transients : Nat := 0
  /-- TP cores out of service | list of 0-3 | R490 | empty -/
  tpOut : List Nat := []
  /-- the mismatch being recovered is a second one within 24 h | 1 bit | R488, R607 | false -/
  mpSecond : Bool := false
  /-- 10 ms periods in which the hottest sensor exceeded 105, 125, 150 C | 3 counts | R496 | 0: DESIGN CHOICE 0 -/
  hot : Nat × Nat × Nat := (0, 0, 0)
  deriving DecidableEq, Repr, Inhabited

/-- The whole state of the block. -/
structure State where
  /-- Time Core (chapter 02) -/
  tc : TcSt := {}
  /-- Hallmark records (chapter 02) -/
  hall : HallSt := {}
  /-- host interface and mailboxes (chapters 15, 22) -/
  mbx : MbxSt := {}
  /-- bezels (chapter 13) -/
  bez : BezSt := {}
  /-- power, reset and the vault (chapter 20) -/
  pwr : PwrSt := {}
  /-- management subsystem (chapter 17) -/
  mgmt : MgmtSt := {}
  /-- fault collector and device health (chapter 18) -/
  fault : FaultSt := {}
  /-- Loupe counters (chapter 19) -/
  loupe : LoupeSt := {}
  /-- Clasp, pair states and the claim channel (chapter 14) -/
  clasp : ClaspSt := {}
  /-- reference inputs and Pendant ports (chapter 03) -/
  ref : RefSt := {}
  /-- GNSS baseband (chapter 04) -/
  gnss : GnssSt := {}
  /-- Assay, ensemble and holdover (chapter 05) -/
  ens : EnsSt := {}
  /-- Filigree time-interval measurement (chapter 06) -/
  fil : FilSt := {}
  /-- output loops and outputs (chapter 07) -/
  out : OutSt := {}
  /-- line-angle engine (chapter 08) -/
  la : LaSt := {}
  /-- ports, rings and PRP pairs (chapter 09) -/
  ports : PortsSt := {}
  /-- traffic manager (chapter 12) -/
  tm : TmSt := {}
  /-- Time Service Engine (chapter 10) -/
  tse : TseSt := {}
  /-- slot-table arbiter and Signet engines (chapters 11, 12) -/
  sta : StaSt := {}
  /-- key slots, the Locket and key establishment (chapter 11) -/
  keys : KeySt := {}
  /-- plain counter that tells one free value from the next | count | none: the model's own field | 0: DESIGN CHOICE -/
  free : Nat := 0
  /-- the commands that are waiting, first in, first out | list | none: the model's own field | empty -/
  pending : List Instr := []
  deriving DecidableEq, Repr

/-- Why a run of the block can stop with a fault. Every row of the table has an effect in every state, so no meaning
raises one; the type is part of the host's interface. -/
inductive Fault where
  /-- Raised by no meaning: the spec names no state from which the block cannot go on. Safe. -/
  | halted
  deriving DecidableEq, Repr

/-- Why a command has no meaning. -/
inductive Refusal where
  /-- Raised by an arm of exec whose command has no meaning yet, with its mnemonic. Safe. -/
  | notModelled (mnemonic : String)
  deriving DecidableEq, Repr

/-- The state right after the first power-on device reset of a shipped device (R550, R552): power state BOOT, the MTC
held at zero (R553), every queue disabled, every field at the value its docstring names. -/
def State.reset : State := {}

end Sys2Proof.Machine
end

