-- ==== Sys2Proof/Config.lean ====
section
/-! DEFINITION. What the spec leaves open: free values, each an opaque constant without a body applied to what it depends
on or to the model's counter of free values. -/

namespace Sys2Proof.Machine

/-- The state of one block, as its class reads it back (R47): key slots without their material. -/
inductive Block where
  | timeCore (x : TcSt) | hallmark (x : HallSt) | mailboxes (x : MbxSt) | bezels (x : BezSt) | power (x : PwrSt) | management (x : MgmtSt)
  | faults (x : FaultSt) | loupe (x : LoupeSt) | clasp (x : ClaspSt) | references (x : RefSt) | gnss (x : GnssSt) | ensemble (x : EnsSt)
  | filigree (x : FilSt) | outputs (x : OutSt) | lineAngle (x : LaSt) | ports (x : PortsSt) | traffic (x : TmSt) | timeService (x : TseSt)
  | schedule (x : StaSt) | keys (x : KeySt)
  deriving DecidableEq, Repr

end Sys2Proof.Machine

namespace Sys2Proof.Config

/-- Random bytes of a DRBG request, as one number: fresh for each request (R344). -/
opaque randomBytes : (len fresh : Nat) → Nat

/-- The value of a key the Locket generates (R352, R354). -/
opaque newKey : (fresh : Nat) → Nat

/-- The bytes of the pair set, REF with measurement and variance, in its canonical order, and those of the outputs of an update (R429: the spec
spells out neither). -/
opaque setBytes : (set : List (Nat × Rat × Rat)) → List Nat
opaque outputBytes : EnsImage → List Nat

/-- The ensemble filter (R158, R164, R167): the spec gives no update equations, only that the result depends on nothing but the
measurement set and the configuration. -/
opaque filter : Machine.FilterIn → Machine.Posterior

/-- The upper 95 percent confidence limits of q_w, q_f and q_rw (ps and s) fitted to a member's Hadamard variance: tau in s, the variance in ps^2/s^2
and its number of independent samples (R162 names the fit and its limit, and gives neither method). -/
opaque fitUpper : (points : List (Nat × Rat × Nat)) → Rat × Rat × Rat

/-- The filter's prediction of the MTC offset one second on, ps, from its posterior, the frequency word in force and the phase
that words and slews added to the counter meanwhile, ps (R153). -/
opaque predict : (post : Machine.Posterior) → (freq : Int) → (added : Rat) → Rat

/-- The identity of a PPSI or TCI reference in CHAIN (R74 states none). -/
opaque plainIdentity : (ref : Nat) → List Nat

/-- CHAIN in LOST (R74 states none). -/
opaque lostChain : (fresh : Nat) → Nat

/-- The magnitude of an output's alignment error before its loopback channel has measured one, ps (R80 states none). -/
opaque firstError : (key : Nat) → Nat

/-- The 20-bit sample word of a sampled value (R254 states no scaling of the INT32 value), and the estimator's prediction for a missing
sample (R237 gives no equation). -/
opaque svSample : Int → Int
opaque svPredict : (fresh : Nat) → Int

/-- The hash of a frame's source that chooses its pipeline (R302 does not give it). -/
opaque pipeHash : (src sip sport : Nat) → Nat

/-- The keyed hash TAG of a client (R318 gives neither key nor function). -/
opaque grantTag : (client : Nat) → Nat

/-- The first four octets of the MD5 hash of an IPv6 address (R311), which no other rule uses. -/
opaque md5First : (address : Nat) → Nat

/-- From the end of the launch margin to the first start position of the serial stream, 2^-20 ns (R313). -/
opaque startSlack : (fresh : Nat) → Nat

/-- The public key of a generated private key, and the device's key-agreement public key and certificate (R357, R358: device data that no
rule gives). -/
opaque publicKey : (alg material : Nat) → Nat
opaque agreementKey : Nat
opaque certificate : List Nat

/-- The class codes of POWER and OWNERSHIP, which the spec names without one, and of each block's class; the length of a record of the class in
bytes and the number of its objects (R47, R476, R514, R557). -/
opaque powerClass : Nat
opaque ownershipClass : Nat
opaque blockClass : (block : Nat) → Nat
opaque blockShape : (block : Nat) → Nat × Nat

/-- The record of an object of a block's class: a function of that block's state, whose layout no chapter gives (R47, R476), and whether a bezel may
read it. -/
opaque blockRecord : (index : Nat) → Machine.Block → Nat
opaque blockReadable : (bezel block index : Nat) → Bool

/-- The first fuse row was programmed when a `sys.seal` that had not completed was cut short (R562, R563). -/
opaque rowProgrammed : (fresh : Nat) → Bool

/-- How a word of MRAM that was being written when power failed reads afterwards: old, new or uncorrectable (R498). -/
opaque wordFate : (fresh : Nat) → Machine.WordFate

/-- How many tuning words of a loop met a range limit in the millisecond at it (R209, R539; assumption 167). -/
opaque clampedWords : (before : Nat) → Nat

/-- CODE and DETAIL of the event of a NOTICE source, which no table gives (R486, R522). -/
opaque noticeCode : Nat
opaque noticeDetail : (source : Nat) → Nat

/-- The length in bytes of the body of a record of the store, by its key, and of the boot record's (R499, R500: the spec gives the layout of none). -/
opaque recordLength : (key : Nat) → Nat
opaque bootLength : Nat

end Sys2Proof.Config
end

