-- ==== Sys2Proof/Machine/Setters.lean ====
section
/-! DEFINITION. One update of the state per block: each changes its own block and nothing else. -/

namespace Sys2Proof.Machine

/-- Update of the `tc` block. -/
def State.onTc (s : State) (f : TcSt → TcSt) : State := { s with tc := f s.tc }

/-- Update of the `hall` block. -/
def State.onHall (s : State) (f : HallSt → HallSt) : State := { s with hall := f s.hall }

/-- Update of the `mbx` block. -/
def State.onMbx (s : State) (f : MbxSt → MbxSt) : State := { s with mbx := f s.mbx }

/-- Update of the `bez` block. -/
def State.onBez (s : State) (f : BezSt → BezSt) : State := { s with bez := f s.bez }

/-- Update of the `pwr` block. -/
def State.onPwr (s : State) (f : PwrSt → PwrSt) : State := { s with pwr := f s.pwr }

/-- Update of the `mgmt` block. -/
def State.onMgmt (s : State) (f : MgmtSt → MgmtSt) : State := { s with mgmt := f s.mgmt }

/-- Update of the `fault` block. -/
def State.onFault (s : State) (f : FaultSt → FaultSt) : State := { s with fault := f s.fault }

/-- Update of the `loupe` block. -/
def State.onLoupe (s : State) (f : LoupeSt → LoupeSt) : State := { s with loupe := f s.loupe }

/-- Update of the `clasp` block. -/
def State.onClasp (s : State) (f : ClaspSt → ClaspSt) : State := { s with clasp := f s.clasp }

/-- Update of the `ref` block. -/
def State.onRef (s : State) (f : RefSt → RefSt) : State := { s with ref := f s.ref }

/-- Update of the `gnss` block. -/
def State.onGnss (s : State) (f : GnssSt → GnssSt) : State := { s with gnss := f s.gnss }

/-- Update of the `ens` block. -/
def State.onEns (s : State) (f : EnsSt → EnsSt) : State := { s with ens := f s.ens }

/-- Update of the `fil` block. -/
def State.onFil (s : State) (f : FilSt → FilSt) : State := { s with fil := f s.fil }

/-- Update of the `out` block. -/
def State.onOut (s : State) (f : OutSt → OutSt) : State := { s with out := f s.out }

/-- Update of the `la` block. -/
def State.onLa (s : State) (f : LaSt → LaSt) : State := { s with la := f s.la }

/-- Update of the `ports` block. -/
def State.onPorts (s : State) (f : PortsSt → PortsSt) : State := { s with ports := f s.ports }

/-- Update of the `tm` block. -/
def State.onTm (s : State) (f : TmSt → TmSt) : State := { s with tm := f s.tm }

/-- Update of the `tse` block. -/
def State.onTse (s : State) (f : TseSt → TseSt) : State := { s with tse := f s.tse }

/-- Update of the `sta` block. -/
def State.onSta (s : State) (f : StaSt → StaSt) : State := { s with sta := f s.sta }

/-- Update of the `keys` block. -/
def State.onKeys (s : State) (f : KeySt → KeySt) : State := { s with keys := f s.keys }

/-- Update of the `free` block. -/
def State.onFree (s : State) (f : Nat → Nat) : State := { s with free := f s.free }

end Sys2Proof.Machine
end

