-- ==== Sys2Proof/Machine/Ops.lean ====
section
/-! DEFINITION. The named operations the meanings share: sparse tables, exact arithmetic, time words, the clock,
leap seconds and who exists. -/

namespace Sys2Proof

/-- Reads a sparse table; `d` is what an unlisted index holds. -/
def Tab.look {α : Type} (t : Tab α) (d : α) (i : Nat) : α :=
  match t with
  | [] => d
  | (j, a) :: r => if j = i then a else Tab.look r d i

/-- Writes a sparse table, which stays sorted. -/
def Tab.put {α : Type} (t : Tab α) (i : Nat) (a : α) : Tab α :=
  match t with
  | [] => [(i, a)]
  | (j, b) :: r => if j = i then (i, a) :: r else if i < j then (i, a) :: (j, b) :: r else (j, b) :: Tab.put r i a

/-- Changes one entry of a sparse table. -/
def Tab.upd {α : Type} (t : Tab α) (d : α) (i : Nat) (f : α → α) : Tab α := t.put i (f (t.look d i))

/-- Changes every listed entry. -/
def Tab.mapAll {α : Type} (t : Tab α) (f : Nat → α → α) : Tab α := t.map fun p => (p.1, f p.1 p.2)

/-- The length of a record layout in bits. -/
def Rec.bits (r : Rec) : Nat := (r.map (·.1)).sum

/-- The length of a record layout in bytes. -/
def Rec.bytes (r : Rec) : Nat := r.bits / 8

/-- The number a record spells: its first field lowest (R10). -/
def Rec.value : Rec → Nat
  | [] => 0
  | (w, v) :: r => (v % (2 ^ w : Int)).toNat + 2 ^ w * Rec.value r

/-- A one-bit field. -/
def bit (b : Bool) : Nat × Int := (1, if b then 1 else 0)

/-- An unsigned field of w bits. -/
def fld (w n : Nat) : Nat × Int := (w, n)

/-- Reserved bits, which read as zero (R19). -/
def rsv (w : Nat) : Nat × Int := (w, 0)

/-- A natural number as 0 or 1. -/
def b01 (b : Bool) : Nat := if b then 1 else 0

/-- Bit n of a number. -/
def nbit (v n : Nat) : Bool := v / 2 ^ n % 2 = 1

/-- Smallest natural r with r * r ≥ x, found with `k` halvings of the range below 2^k. -/
def sqrtUp (x : Nat) : Nat := if x.sqrt * x.sqrt = x then x.sqrt else x.sqrt + 1

/-- The ceiling of the square root of a nonnegative rational: the least n with n * n ≥ q. -/
def ratSqrtUp (q : Rat) : Nat := sqrtUp q.ceil.toNat

/-- Rounds half away from zero to an integer (R68, R164). -/
def roundHalf (q : Rat) : Int := if 0 ≤ q then (q + 1/2).floor else -((-q + 1/2).floor)

/-- The absolute value of a rational. -/
def rabs (q : Rat) : Rat := if 0 ≤ q then q else -q

/-- The sign of a rational or integer as -1, 0 or 1. -/
def rsign (q : Rat) : Int := if 0 < q then 1 else if q < 0 then -1 else 0

/-- The low w bits of an integer as an unsigned number. -/
def wrapU (w : Nat) (v : Int) : Nat := (v % (2 ^ w : Int)).toNat

/-- CRC over a list of bits, most significant bit first: polynomial `poly` of width w, from initial value `init`. -/
def crcBits (w poly init : Nat) (bs : List Bool) : Nat :=
  bs.foldl (fun c b =>
    let top := nbit c (w - 1)
    let c2 := c * 2 % 2 ^ w
    if top != b then c2 ^^^ poly else c2) init

/-- The bits of an n-bit number, most significant first. -/
def msbBits (n v : Nat) : List Bool := (List.range n).map fun i => nbit v (n - 1 - i)

/-- The bits of an n-bit number, least significant first. -/
def lsbBits (n v : Nat) : List Bool := (List.range n).map fun i => nbit v i

/-- The bytes of a record, lowest first (R10). -/
def Rec.toBytes (r : Rec) : List Nat := (List.range r.bytes).map fun i => r.value / 256 ^ i % 256

/-- CRC-32 of IEEE 802.3 over bytes: reflected, initial value and final inversion all ones. -/
def crc32 (bs : List Nat) : Nat :=
  ((bs.flatMap (lsbBits 8)).foldl (fun c b =>
    let x := c / 2
    if nbit c 0 != b then x ^^^ 0xEDB88320 else x) 0xFFFFFFFF) ^^^ 0xFFFFFFFF

/-- The entries of a list with their places. -/
def zipIdx {α : Type} (l : List α) : List (Nat × α) := (List.range l.length).zip l

end Sys2Proof

namespace Sys2Proof.Machine

/-! ### The master time counter (R52, R68) -/

/-- Units of 2^-20 ns in a second. -/
def unitsPerSec : Nat := 1000000000 * 1048576

/-- Units of 2^-20 ns in a millisecond. -/
def unitsPerMs : Nat := 1000000 * 1048576

/-- Residue units that carry 8 units of 2^-20 ns into the counter (R52). -/
def residueUnit : Int := 343597383680

/-- The counter as one number of 2^-20 ns units (R52: mixed radix). -/
def Mtc.units (m : Mtc) : Nat := (m.sec * 1000000000 + m.ns) * 1048576 + m.frac

/-- The counter set from a number of units; SEC has 48 bits. -/
def Mtc.setUnits (m : Mtc) (u : Nat) : Mtc :=
  { m with sec := u / unitsPerSec % 2 ^ 48, ns := u / 1048576 % 1000000000, frac := u % 1048576 }

/-- One time-clock cycle with frequency word f in force (R52). -/
def Mtc.cycle (f : Int) (m : Mtc) : Mtc :=
  let k := (m.k + 1) % 5
  let inc : Int := if k < 3 then 1677722 else 1677721
  let res := m.res + f
  let q := res.tdiv residueUnit
  { (m.setUnits ((m.units : Int) + (inc + 8 * q)).toNat) with
    k := k, res := res - q * residueUnit, cyc := m.cyc + 1 }

/-- The slew ends in this cycle: a whole F_slew would carry the applied phase to or past C (R68). -/
def Slew.last (sl : Slew) : Bool := decide (sl.c.natAbs ≤ (sl.applied + sl.f).natAbs)

/-- One time-clock cycle with the slew of R68 added to the steady word. -/
def Mtc.tick (m : Mtc) : Mtc :=
  match m.slew with
  | none => m.cycle m.freq
  | some sl =>
    if sl.last then { (m.cycle (m.freq + (sl.c - sl.applied))) with slew := none }
    else { (m.cycle (m.freq + sl.f)) with slew := some { sl with applied := sl.applied + sl.f } }

/-- How many of the n cycles after phase k have a phase below 3 (R52). -/
def longCycles (k n : Nat) : Nat :=
  3 * (n / 5) + ((List.range (n % 5)).filter fun i => decide ((k + 1 + i) % 5 < 3)).length

/-- n cycles at one frequency word, in closed form. -/
def Mtc.cycles (f : Int) (n : Nat) (m : Mtc) : Mtc :=
  let t := m.res + (n : Int) * f
  let q := t.tdiv residueUnit
  { (m.setUnits ((m.units : Int) + ((1677721 * n + longCycles m.k n : Nat) : Int) + 8 * q).toNat) with
    k := (m.k + n) % 5, res := t - q * residueUnit, cyc := m.cyc + n }

/-- Cycles a slew still needs, its last cycle among them. -/
def Slew.left (sl : Slew) : Nat := ((sl.c - sl.applied).natAbs + sl.f.natAbs - 1) / sl.f.natAbs

/-- n time-clock cycles in closed form, the slew ending in its own last cycle (R68). -/
def Mtc.run (n : Nat) (m : Mtc) : Mtc :=
  match m.slew with
  | none => m.cycles m.freq n
  | some sl =>
    let w := max 1 sl.left
    if n < w then
      { (m.cycles (m.freq + sl.f) n) with slew := some { sl with applied := sl.applied + (n : Int) * sl.f } }
    else
      let m1 := m.cycles (m.freq + sl.f) (w - 1)
      let m2 := m1.cycle (m.freq + (sl.c - (sl.applied + ((w : Int) - 1) * sl.f)))
      { (m2.cycles m.freq (n - w)) with slew := none }

/-- The TAI second of the MTC. -/
def State.sec (s : State) : Nat := s.tc.mtc.sec

/-- The MTC reading as an ETW tagged TAI (R14, R55). -/
def State.now (s : State) : Etw := { sec := s.tc.mtc.sec, ns := s.tc.mtc.ns, frac := s.tc.mtc.frac, scale := .tai }

/-- The MTC reading in nanoseconds since the epoch. -/
def State.nowNs (s : State) : Nat := s.tc.mtc.sec * 1000000000 + s.tc.mtc.ns

/-- The time that has passed since the counter started, ns: its reading without the steps, since a step is no time that passes. -/
def State.upNs (s : State) : Nat := (((s.tc.mtc.units : Int) - s.tc.mtc.steps) / 1048576).toNat

/-- That time at the last top of the TAI second. -/
def State.topNs (s : State) : Nat := s.upNs - s.tc.mtc.ns

/-- The first top of the TAI second at least `ns` nanoseconds after now. -/
def State.topAfter (s : State) (ns : Nat) : Nat := (s.nowNs + (if s.tc.mtc.frac = 0 then 0 else 1) + ns + 999999999) / 1000000000

/-- The next top of the TAI second. -/
def State.nextTop (s : State) : Nat := s.tc.mtc.sec + 1

/-! ### TAI, UTC and local time (R55, R57-R62) -/

/-- The offset a leap table gives at a TAI second; 0 where no table is loaded (R599). -/
def leapOffset (t : List LeapEntry) (sec : Nat) : Int :=
  match t with
  | [] => 0
  | b :: r => r.foldl (fun o e => if e.tEff ≤ sec then e.offset else o) b.offset

/-- TAI - UTC in force. -/
def State.taiUtc (s : State) : Int := leapOffset s.tc.leap s.sec

/-- The entries of a table after the first, each with the offset before it. -/
def leapSteps (t : List LeapEntry) : List (Int × LeapEntry) :=
  match t with
  | [] => []
  | b :: r => (r.foldl (fun (acc : Int × List (Int × LeapEntry)) e => (e.offset, acc.2 ++ [(acc.1, e)])) (b.offset, [])).2

/-- The TAI second at which the announcement of an entry begins: 00:00:00 UTC of the UTC day on which it falls (R58, R60). -/
def announceFrom (o : Int) (e : LeapEntry) : Nat := e.tEff - (if e.offset > o then 86400 else 86399)

/-- The entries whose announcement has begun at a TAI second (R58). -/
def announced (t : List LeapEntry) (sec : Nat) : List (Int × LeapEntry) :=
  (leapSteps t).filter fun p => decide (announceFrom p.1 p.2 ≤ sec ∧ sec < p.2.tEff)

/-- LEAP61 at a TAI second (R60). -/
def leap61At (t : List LeapEntry) (sec : Nat) : Bool := (announced t sec).any fun p => decide (p.1 < p.2.offset)

/-- LEAP59 at a TAI second (R60). -/
def leap59At (t : List LeapEntry) (sec : Nat) : Bool := (announced t sec).any fun p => decide (p.2.offset < p.1)

/-- SEC of a timescale for a TAI second (R55, R600: modulo 2^48). -/
def State.scaleSec (s : State) (sc : Scale) (sec : Nat) : Nat :=
  match sc with
  | .tai => sec
  | .utc => wrapU 48 ((sec : Int) - leapOffset s.tc.leap sec)
  | .gps => wrapU 48 ((sec : Int) - 19)
  | .loc => wrapU 48 ((sec : Int) - leapOffset s.tc.leap sec + s.tc.localOff)

/-- An ETW in any timescale from one MTC sample (R55). -/
def State.etwIn (s : State) (sc : Scale) : Etw :=
  { sec := s.scaleSec sc s.sec, ns := s.tc.mtc.ns, frac := s.tc.mtc.frac, scale := sc }

/-- The key of an object in reservations, change counts and stored records: the command group of its block and its
place within the block. -/
def objKey (cls index : Nat) : Nat := cls * 4294967296 + index

/-! ### Functions and bezels -/

/-- State of a PCIe function. -/
def State.fn (s : State) (b : Nat) : FnSt := s.mbx.fns.look {} b

/-- Update of one function. -/
def State.onFn (s : State) (b : Nat) (f : FnSt → FnSt) : State :=
  s.onMbx fun m => { m with fns := m.fns.upd {} b f }

/-- A command queue of a function. -/
def FnSt.q (f : FnSt) (n : Nat) : CmdQueue := f.queues.look {} n

/-- Update of one command queue. -/
def State.onQueue (s : State) (b n : Nat) (f : CmdQueue → CmdQueue) : State :=
  s.onFn b fun x => { x with queues := x.queues.upd {} n f }

/-- Row of the ownership table. BZ00 exists from device reset (R397). -/
def State.bezel (s : State) (b : Nat) : BezelRow := s.bez.rows.look {} b

/-- Update of one bezel's row. -/
def State.onBezel (s : State) (b : Nat) (f : BezelRow → BezelRow) : State :=
  s.onBez fun z => { z with rows := z.rows.upd {} b f }

/-- The bezel exists and is not being deleted (R398, R399). -/
def State.bezelServes (s : State) (b : Nat) : Bool := (s.bezel b).present && !(s.bezel b).deleting

/-- The existing bezels (R486 "all"). -/
def State.bezels (s : State) : List Nat := (s.bez.rows.filter fun p => p.2.present).map (·.1)

/-- Owner of a port (R402). -/
def State.portOwner (s : State) (p : Nat) : Nat := s.bez.portOwner.look 0 p

/-- The function serves its bezel: BZ00 always; a virtual function while VF Enable is set with NumVFs at least n (R445). -/
def State.fnEnabled (s : State) (b : Nat) : Bool := b = 0 || (s.mbx.vfEnable && decide (b ≤ s.mbx.numVfs))

/-- The bytes [base, base + len) lie wholly within one DMA window of the bezel (R403, R455); BZ00 without windows is
bounded by the extents of its enabled queues (R450). -/
def State.inWindow (s : State) (b base len : Nat) : Bool :=
  (s.bezel b).windows.any (fun p => decide (p.2.base ≤ base ∧ base + len ≤ p.2.base + p.2.size ∧ 0 < p.2.size))

/-- The extents of a function's enabled queues: base and length (R450). -/
def FnSt.extents (f : FnSt) : List (Nat × Nat) :=
  (if f.cplEn then [(f.cplBase, 65536)] else []) ++ (if f.evtEn then [(f.evtBase, 64 * 2 ^ f.evtSize)] else []) ++
    ((f.queues.filter fun p => p.2.en).map fun p => (p.2.base, 16384))

/-- A DMA access is permitted (R403, R450). -/
def State.dmaOk (s : State) (b base len : Nat) : Bool :=
  s.inWindow b base len || (b = 0 && (s.bezel 0).windows.isEmpty &&
    ((s.fn 0).extents.any fun e => decide (e.1 ≤ base ∧ base + len ≤ e.1 + e.2)))

/-- The device is sealed when either fuse row reads programmed (R563). -/
def State.isSealed (s : State) : Bool := s.pwr.fuses != 0

/-- `sys.health` is DEGRADED (R530). -/
def State.degraded (s : State) : Bool := !s.fault.causes.isEmpty

/-- The pair is formed (R415). -/
def State.paired (s : State) : Bool := s.clasp.st = .active || s.clasp.st = .standby

/-- The main rails are up and no reset or stop keeps the processors from work. -/
def State.alive (s : State) : Bool := !(s.pwr.st = .off || s.pwr.st = .vault)

/-- Squelch is in force (R526): a latched FATAL, a live SQUELCH source, or the Time Core in LOST. -/
def State.squelched (s : State) : Bool :=
  s.fault.fatal || nbit ((s.fault.live.look 0 0).toNat) 4 || s.tc.ts = .lost

end Sys2Proof.Machine
end

