-- ==== Sys2Proof/Machine/Sha.lean ====
section
/-! DEFINITION. Numbers as big-endian bytes, and the hash that forms CHAIN and the digests of an update (R74, R429): SHA-256 over bytes, its constants
taken from the roots of the primes that define them. -/

namespace Sys2Proof.Machine

/-- A number as n big-endian bytes. -/
def beBytes (n v : Nat) : List Nat := (List.range n).map fun i => v / 256 ^ (n - 1 - i) % 256

/-- The number that bytes spell, most significant first. -/
def beNum (bs : List Nat) : Nat := bs.foldl (fun a x => a * 256 + x % 256) 0

/-- The greatest number below 2^k whose e-th power is at most x, bit by bit from the top. -/
def floorRoot (e k x : Nat) : Nat :=
  (List.range k).foldl (fun r i => if (r + 2 ^ (k - 1 - i)) ^ e ≤ x then r + 2 ^ (k - 1 - i) else r) 0

/-- The primes below 312, of which there are 64. -/
def hashPrimes : List Nat := (List.range 312).filter fun n => decide (1 < n) && (List.range 18).all fun d => decide (d < 2) || decide (n ≤ d) || n % d != 0

/-- The first 32 bits of the fraction of the e-th root of p. -/
def rootFraction (e p : Nat) : BitVec 32 := BitVec.ofNat 32 (floorRoot e 40 (p * 2 ^ (32 * e)))

/-- The constant of each round: cube roots of the 64 primes. -/
def hashConstants : List (BitVec 32) := hashPrimes.map (rootFraction 3)

/-- The eight chaining words. -/
structure Chaining where
  a : BitVec 32
  b : BitVec 32
  c : BitVec 32
  d : BitVec 32
  e : BitVec 32
  f : BitVec 32
  g : BitVec 32
  h : BitVec 32

/-- The chaining value before the first block: square roots of the first eight primes. -/
def Chaining.start : Chaining :=
  let r := rootFraction 2
  ⟨r 2, r 3, r 5, r 7, r 11, r 13, r 17, r 19⟩

/-- The chaining value as one number, `a` on top. -/
def Chaining.value (x : Chaining) : Nat :=
  [x.a, x.b, x.c, x.d, x.e, x.f, x.g, x.h].foldl (fun n w => n * 2 ^ 32 + w.toNat) 0

/-- Word by word sums. -/
def Chaining.plus (x y : Chaining) : Chaining :=
  ⟨x.a + y.a, x.b + y.b, x.c + y.c, x.d + y.d, x.e + y.e, x.f + y.f, x.g + y.g, x.h + y.h⟩

/-- The exclusive or of a word turned right by each of three amounts. -/
def turned (x : BitVec 32) (i j k : Nat) : BitVec 32 := x.rotateRight i ^^^ x.rotateRight j ^^^ x.rotateRight k

/-- The same, with the third a plain shift. -/
def shifted (x : BitVec 32) (i j k : Nat) : BitVec 32 := x.rotateRight i ^^^ x.rotateRight j ^^^ (x >>> k)

/-- One round: the message word `w` and the round's constant go into the chaining value. -/
def Chaining.round (x : Chaining) (w k : BitVec 32) : Chaining :=
  let u := x.h + turned x.e 6 11 25 + (x.g ^^^ (x.e &&& (x.f ^^^ x.g))) + k + w
  let v := turned x.a 2 13 22 + ((x.a &&& (x.b ||| x.c)) ||| (x.b &&& x.c))
  ⟨u + v, x.a, x.b, x.c, x.d + u, x.e, x.f, x.g⟩

/-- The rounds over a window of sixteen message words, which moves on by one word each round. -/
def Chaining.rounds (ks : List (BitVec 32)) (win : List (BitVec 32)) (x : Chaining) : Chaining :=
  match ks, win with
  | k :: ks, w :: r =>
    let new := w + shifted (r.getD 0 0) 7 18 3 + r.getD 8 0 + shifted (r.getD 13 0) 17 19 10
    Chaining.rounds ks (r ++ [new]) (x.round w k)
  | _, _ => x

/-- The chaining value after the block that a 512-bit number spells. -/
def Chaining.block (x : Chaining) (n : Nat) : Chaining :=
  x.plus (x.rounds hashConstants ((List.range 16).map fun t => BitVec.ofNat 32 (n / 2 ^ (32 * (15 - t)))))

/-- The number of blocks a message of L bits fills with its padding. -/
def hashBlocks (l : Nat) : Nat := (l + 576) / 512

/-- The padded message as one number: a one bit, zeros up to the last 64 bits, and the length in bits. -/
def hashPadded (bs : List Nat) : Nat :=
  let l := 8 * bs.length
  (beNum bs * 2 + 1) * 2 ^ (512 * hashBlocks l - l - 1) + l

/-- SHA-256 of bytes as one 256-bit number, its first byte on top. -/
def sha256 (bs : List Nat) : Nat :=
  let n := hashBlocks (8 * bs.length)
  let m := hashPadded bs
  ((List.range n).foldl (fun (x : Chaining) i => x.block (m / 2 ^ (512 * (n - 1 - i)) % 2 ^ 512)) Chaining.start).value

/-- The octets of a hash of bytes. -/
def sha256Bytes (bs : List Nat) : List Nat := beBytes 32 (sha256 bs)

/-- HMAC-SHA-256 of bytes under a key, which fills 64 octets (R136). -/
def hmacSha256 (key msg : List Nat) : List Nat :=
  let k := if 64 < key.length then sha256Bytes key else key
  let pad := fun (x : Nat) => ((List.range 64).map fun i => k.getD i 0 ^^^ x)
  sha256Bytes (pad 0x5C ++ sha256Bytes (pad 0x36 ++ msg))

end Sys2Proof.Machine
end

