-- ==== Sys2Proof/Machine/Aes.lean ====
section
/-! DEFINITION. AES-128 and its CMAC, which signs Hallmark records (R71, R75): blocks are 16 bytes, byte 4c + r in column c and row r. -/

namespace Sys2Proof.Machine

/-- Twice an element of the field of 256 elements with the polynomial x^8 + x^4 + x^3 + x + 1. -/
def fieldTwice (a : Nat) : Nat := if a < 128 then 2 * a else (2 * a) ^^^ 0x11B

/-- The product of two field elements. -/
def fieldMul (a b : Nat) : Nat :=
  ((List.range 8).foldl (fun (acc : Nat × Nat) i => (if nbit b i then acc.1 ^^^ acc.2 else acc.1, fieldTwice acc.2)) (0, a)).1

/-- The inverse of a field element, 0 for 0: its 254th power. -/
def fieldInv (a : Nat) : Nat :=
  let sq := fun x => fieldMul x x
  let p2 := sq a; let p4 := sq p2; let p8 := sq p4; let p16 := sq p8; let p32 := sq p16; let p64 := sq p32
  [p4, p8, p16, p32, p64, sq p64].foldl fieldMul p2

/-- The byte substitution: the inverse, and the sum of five turns of it and 0x63. -/
def subByte (a : Nat) : Nat :=
  let x := fieldInv a
  (List.range 4).foldl (fun r i => r ^^^ (x * 2 ^ (i + 1) % 256 + x / 2 ^ (7 - i))) (x ^^^ 0x63)

/-- Exclusive or of two byte strings. -/
def xorBytes (a b : List Nat) : List Nat := (a.zip b).map fun p => p.1 ^^^ p.2

/-- Word i of a round key. -/
def keyWord (k : List Nat) (i : Nat) : List Nat := (k.drop (4 * i)).take 4

/-- A word turned by one byte, substituted and added to the round's constant. -/
def keyTurn (w : List Nat) (con : Nat) : List Nat :=
  [subByte (w.getD 1 0) ^^^ con, subByte (w.getD 2 0), subByte (w.getD 3 0), subByte (w.getD 0 0)]

/-- A round key whose words are the running sums of a word and those of the round key before. -/
def keyChain (k first : List Nat) : List Nat :=
  let a := xorBytes (keyWord k 0) first
  let b := xorBytes (keyWord k 1) a
  let c := xorBytes (keyWord k 2) b
  a ++ b ++ c ++ xorBytes (keyWord k 3) c

/-- The next round key of a key of 16 bytes. -/
def nextRoundKey (k : List Nat) (con : Nat) : List Nat := keyChain k (keyTurn (keyWord k 3) con)

/-- The next two round keys of a key of 32 bytes. -/
def nextRoundPair (k : List Nat × List Nat) (con : Nat) : List Nat × List Nat :=
  let n := keyChain k.1 (keyTurn (keyWord k.2 3) con)
  (n, keyChain k.2 ((keyWord n 3).map subByte))

/-- Substitution and row shift of a block. -/
def subShift (b : List Nat) : List Nat := (List.range 16).map fun i => subByte (b.getD ((4 * (i / 4 + i % 4) + i % 4) % 16) 0)

/-- Column mix of a block. -/
def mixColumns (b : List Nat) : List Nat :=
  (List.range 16).map fun i =>
    let cell := fun k => b.getD (4 * (i / 4) + (i + k) % 4) 0
    fieldTwice (cell 0) ^^^ (fieldTwice (cell 1) ^^^ cell 1) ^^^ cell 2 ^^^ cell 3

/-- AES-128 of one block under a key of 16 bytes: nine full rounds and one without the column mix. -/
def aes128 (key block : List Nat) : List Nat :=
  let step := fun (x : List Nat × List Nat × Nat) (_ : Nat) =>
    let k := nextRoundKey x.2.1 x.2.2
    (xorBytes (mixColumns (subShift x.1)) k, k, fieldTwice x.2.2)
  let x := (List.range 9).foldl step (xorBytes block key, key, 1)
  xorBytes (subShift x.1) (nextRoundKey x.2.1 x.2.2)

/-- Twice a block as an element of the field of 2^128 elements. -/
def blockTwice (b : List Nat) : List Nat :=
  let v := 2 * beNum b
  beBytes 16 (if 2 ^ 128 ≤ v then v ^^^ (2 ^ 128 + 0x87) else v)

/-- AES-256 of one block under a key of 32 bytes: thirteen full rounds and one without the column mix. -/
def aes256 (key block : List Nat) : List Nat :=
  let full := fun (b k : List Nat) => xorBytes (mixColumns (subShift b)) k
  let step := fun (x : List Nat × (List Nat × List Nat) × Nat) (_ : Nat) =>
    let k := nextRoundPair x.2.1 x.2.2
    (full (full x.1 x.2.1.2) k.1, k, fieldTwice x.2.2)
  let x := (List.range 6).foldl step (xorBytes block (key.take 16), (key.take 16, key.drop 16), 1)
  xorBytes (subShift (full x.1 x.2.1.2)) (nextRoundPair x.2.1 x.2.2).1

/-- CMAC of bytes under a block cipher with its key: the tag, 16 bytes. -/
def cmacOf (enc : List Nat → List Nat) (msg : List Nat) : List Nat :=
  let k1 := blockTwice (enc (List.replicate 16 0))
  let n := max 1 ((msg.length + 15) / 16)
  let last := msg.drop (16 * (n - 1))
  let final := if last.length = 16 then xorBytes last k1
    else xorBytes (last ++ [0x80] ++ List.replicate (15 - last.length) 0) (blockTwice k1)
  let x := (List.range (n - 1)).foldl (fun c i => enc (xorBytes c ((msg.drop (16 * i)).take 16))) (List.replicate 16 0)
  enc (xorBytes x final)

/-- AES-128-CMAC of bytes under a key of 16 bytes. -/
def aesCmac (key msg : List Nat) : List Nat := cmacOf (aes128 key) msg

end Sys2Proof.Machine
end

