-- ==== Sys2Proof/Machine/Flags.lean ====
section
/-! DEFINITION. What the block shows the outside: counters, events, log entries, MSI-X messages, freezes, causes of
`sys.health`, interrupt sources and Hallmark records that fall due. -/

namespace Sys2Proof.Machine

/-! ### MSI-X (R466) -/

/-- A source announces a written entry on a vector (R466): a masked vector sets its pending bit, a running hold-off
collects, otherwise one message is sent and the hold-off starts. -/
def Vec.announce (v : Vec) : Vec :=
  if v.mask then { v with pend := true }
  else if v.holding then { v with more := true }
  else { v with sent := v.sent + 1, holding := decide (0 < v.hold), more := false }

/-- Announce on a vector of a function. -/
def State.announce (s : State) (b vec : Nat) : State :=
  s.onFn b fun x => { x with vecs := x.vecs.upd {} vec Vec.announce }

/-! ### Event log (R43, R504, R505) -/

/-- Puts a log entry into staging; above 10,000 entries in a second those below severity 2 are dropped (R505). -/
def State.logPut (s : State) (e : LogEntry) : State :=
  s.onMgmt fun m =>
    let rate := if m.logSec = e.time.sec then m.logRate else 0
    let lostPrev : List LogEntry :=
      if m.logSec = e.time.sec || m.dropped = 0 then []
      else [{ lseq := m.lseq % 2 ^ 32, epoch := e.epoch, time := e.time, code := 0x4280, severity := 1, count := m.dropped }]
    let lseq := m.lseq + lostPrev.length
    let dropped := if m.logSec = e.time.sec then m.dropped else 0
    if rate ≥ 10000 && decide (e.severity < 2) then
      { m with logSec := e.time.sec, logRate := rate + 1, dropped := dropped + 1, staged := m.staged ++ lostPrev, lseq := lseq % 2 ^ 32 }
    else
      { m with logSec := e.time.sec, logRate := rate + 1, dropped := dropped, lseq := (lseq + 1) % 2 ^ 32,
               staged := m.staged ++ lostPrev ++ [{ e with lseq := lseq % 2 ^ 32 }] }

/-- Logs an occurrence. -/
def State.log (s : State) (code severity subject : Nat) (detail : Rec := []) : State :=
  s.logPut { epoch := s.mbx.epoch, time := s.now, code := code, severity := severity, subject := subject, detail := detail }

/-- The first entry of a second for a partner and a class of violation (R43). -/
def State.violation (s : State) (code partner severity : Nat) (detail : Rec) : LogEntry :=
  { epoch := s.mbx.epoch, time := s.now, code := code, severity := severity, subject := partner, detail := detail }

/-- Logs a partner violation, coalesced to one entry per partner and class each second (R43). -/
def State.logPartner (s : State) (code partner : Nat) (severity : Nat := 1) (detail : Rec := []) : State :=
  let mine := fun (e : LogEntry) => e.code = code && e.subject = partner
  match s.mgmt.coal.find? mine with
  | none => s.onMgmt fun m => { m with coal := m.coal ++ [s.violation code partner severity detail] }
  | some e =>
    if e.time.sec = s.sec then
      s.onMgmt fun m => { m with
        coal := m.coal.map fun x => if mine x then { x with count := x.count + 1 } else x
        coalesced := (m.coalesced + 1) % 2 ^ 32 }
    else (s.logPut e).onMgmt fun m => { m with coal := m.coal.map fun x => if mine x then s.violation code partner severity detail else x }

/-! ### Events (R457, R486) -/

/-- An event falls due for one bezel. -/
def State.dueFor (s : State) (b : Nat) (e : DueEvent) : State := s.onFn b fun x => { x with due := x.due ++ [e] }

/-- An event falls due for a list of bezels and is logged once (R486, R505). -/
def State.raise (s : State) (bs : List Nat) (code : Nat) (detail : Rec) (severity : Nat := 0) : State :=
  let e : DueEvent := { code := code, time := s.now, detail := detail }
  (bs.eraseDups.foldl (fun t b => t.dueFor b e) s).log code severity 0 detail

/-- An event for every existing bezel. -/
def State.raiseAll (s : State) (code : Nat) (detail : Rec) : State := s.raise s.bezels code detail

/-- An event for BZ00. -/
def State.raise0 (s : State) (code : Nat) (detail : Rec) : State := s.raise [0] code detail

/-! ### Loupe counters (R534, R536, R542) -/

/-- Adds n to a counter; an armed counter that wraps is disarmed, raises event 0x4001 and announces it (R542). -/
def State.countRaw (s : State) (i n : Nat) : State :=
  let v := s.loupe.ctr.look 0 i + n
  let s1 := s.onLoupe fun l => { l with ctr := l.ctr.put i (v % 2 ^ 48) }
  if v < 2 ^ 48 then s1
  else
    match s.loupe.armed.find? (fun p => p.1 = i) with
    | none => s1
    | some (_, a) =>
      let s2 := s1.onLoupe fun l => { l with armed := l.armed.filter fun p => p.1 != i }
      (s2.raise [a.fn] 0x4001 [fld 16 i]).announce a.fn a.vector

/-- Counts n events at a position of a bank; positions 24-31 count only in MODE 0 (R537, R538). -/
def State.countN (s : State) (bank pos n : Nat) : State :=
  if 24 ≤ pos && (s.loupe.banks.look {} bank).mode != 0 then s else s.countRaw (bank * 32 + pos) n

/-- Counts one event of a port (R537). -/
def State.countPort (s : State) (p pos : Nat) : State := s.countN p pos 1

/-- Counts one event charged to a bezel (R538). -/
def State.countBezel (s : State) (b pos : Nat) : State := s.countN (256 + b) pos 1

/-- Adds to a derived-mode accumulator of a bank (R544, R545). -/
def State.derive (s : State) (bank mode pos n : Nat) : State :=
  if (s.loupe.banks.look {} bank).mode = mode then
    s.onLoupe fun l => { l with banks := l.banks.upd {} bank fun k => { k with acc := k.acc.upd 0 pos (· + n) } }
  else s

/-! ### Freezing (R44, R408, R410) -/

/-- The event of a freeze, and its log entry, which also holds the address, slot or object concerned (R408, R486). -/
def State.reportFreeze (s : State) (b kind index row object : Nat) : State :=
  let d : Rec := [fld 8 b, fld 8 kind, fld 16 index, fld 8 row]
  let e : DueEvent := { code := 0x2302, time := s.now, detail := d }
  ((([b, 0].eraseDups).foldl (fun t i => t.dueFor i e) s).log 0x2302 2 b (d ++ [rsv 24, fld 64 object])).countBezel b 31

/-- Freezes a function; kind 0 of `bezel.release`. `row` is the row of the table of R408. -/
def State.freezeFn (s : State) (b row : Nat) (object : Nat := 0) : State :=
  (s.onFn b fun x => { x with frozen := true }).reportFreeze b 0 0 row object

/-- Freezes a DMA queue (kind 1), a stream (kind 2) or an agent (kind 3) of a bezel. -/
def State.freezeMaster (s : State) (b kind index row : Nat) (object : Nat := 0) : State :=
  let key := kind * 65536 + index
  (s.onBezel b fun z => { z with frozen := if key ∈ z.frozen then z.frozen else z.frozen ++ [key] }).reportFreeze b kind index row object

/-- A DMA queue, stream or agent of a bezel is frozen, or the whole function is. -/
def State.masterFrozen (s : State) (b kind index : Nat) : Bool :=
  (s.fn b).frozen || (kind * 65536 + index) ∈ (s.bezel b).frozen

/-! ### Health (R528, R530) -/

/-- A power-state change with its event (R552). -/
def State.setPower (s : State) (p : PowerState) : State :=
  if s.pwr.st = p then s
  else
    let s1 := s.onPwr fun x => { x with st := p }
    if p = .off || p = .vault then s1 else s1.raiseAll 0x0102 [fld 8 s.pwr.st.code, fld 8 p.code]

/-- The power state follows `sys.health` in RUN and DEGRADED (R530, R552). -/
def State.followHealth (s : State) : State :=
  if s.pwr.st = .run && s.degraded then s.setPower .degraded
  else if s.pwr.st = .degraded && !s.degraded then s.setPower .run
  else s

/-- REPLACE_N asserted (R528). -/
def State.replaceN (s : State) : State := s.onFault fun f => { f with replace := true }

/-! ### Interrupt sources (R492) -/

/-- A source fires. -/
def IcuSrc.fire (x : IcuSrc) : IcuSrc :=
  match x.st with
  | .inactive => { x with st := .pending }
  | .active => { x with st := .activePending }
  | .pending => x
  | .activePending => x

/-- The target of a source: 0 MP, 1-4 TP0-TP3, 5 LP, 6 HOST. -/
def icuTarget (src : Nat) (x : IcuSrc) : Nat :=
  if src < 64 then 0 else if src < 128 then 1 + x.target % 4 else if src < 192 then 5 else x.target

/-- The pending source a target takes next: highest priority, a re-taken one first, then the lowest number (R492). -/
def icuBest (t : Tab IcuSrc) (target : Nat) : Option (Nat × IcuSrc) :=
  (t.filter fun p => p.2.st = .pending && !p.2.masked && icuTarget p.1 p.2 = target).foldl (fun best p =>
    match best with
    | none => some p
    | some b => if b.2.priority < p.2.priority || (b.2.priority = p.2.priority && p.2.again && !b.2.again) then some p else some b) none

/-- The highest priority being served at a target. -/
def icuServing (t : Tab IcuSrc) (target : Nat) : Option Nat :=
  (t.filter fun p => (p.2.st = .active || p.2.st = .activePending) && icuTarget p.1 p.2 = target).foldl (fun m p =>
    some (match m with | none => p.2.priority | some v => max v p.2.priority)) none

/-- A target takes its best pending source when it runs and serves none of its priority or higher; HOST sends the message and the
source is inactive again (R492). -/
def State.icuTake (s : State) (target : Nat) : State :=
  match icuBest s.mgmt.icu target with
  | none => s
  | some (src, x) =>
    let ok := !(target = 0 && (s.mgmt.mpStopped || s.mgmt.mpRestart)) && match icuServing s.mgmt.icu target with
      | none => true
      | some v => decide (v < x.priority)
    if !ok then s
    else if target = 6 then
      (s.onMgmt fun m => { m with icu := m.icu.put src { x with st := .inactive, again := false } }).announce x.fn x.vector
    else s.onMgmt fun m => { m with icu := m.icu.put src { x with st := .active, again := false } }

/-! ### Error pins (R518-R521) -/

/-- The mask of one bit. -/
def bitMask (n : Nat) : BitVec 32 := 1#32 <<< n

/-- Sets the sticky and the live bit of a source, and the wiring bit of its word for a wiring fault (R518, R520). -/
def State.setPin (s : State) (word bitNo : Nat) (wiring : Bool) : State :=
  s.onFault fun f =>
    let st := f.sticky.upd 0 word (· ||| bitMask bitNo)
    let lv := f.live.upd 0 word (· ||| bitMask bitNo)
    { f with
      sticky := if wiring then st.upd 0 15 (· ||| bitMask word) else st
      live := if wiring then lv.upd 0 15 (· ||| bitMask word) else lv
      wired := if wiring then (32 * word + bitNo) :: f.wired.filter (· != 32 * word + bitNo) else f.wired }

/-- Clears the live bit of a source (R520), and that of its word's wiring faults where no other pin of the word reads one. -/
def State.clearPin (s : State) (word bitNo : Nat) : State :=
  s.onFault fun f =>
    let wired := f.wired.filter (· != 32 * word + bitNo)
    let lv := f.live.upd 0 word (· &&& ~~~(bitMask bitNo))
    { f with
      live := if wired.any fun n => n / 32 = word then lv else lv.upd 0 15 (· &&& ~~~(bitMask word))
      wired := wired }

/-- Setting a sticky bit fires a private MP source of the ICU (R521): source 0. -/
def State.fireMp (s : State) : State := (s.onMgmt fun m => { m with icu := m.icu.upd {} 0 IcuSrc.fire }).icuTake 0

/-- A cause of DEGRADED that has no pin (R523, R530): a temperature sensor in warning or failed, and the pair fault. -/
def pinless (code : Nat) : Bool := decide (code / 256 ∈ [0x0A, 0x0B, 0x0D])

/-- A cause of DEGRADED becomes present; each change of `sys.health` raises event 0x0101 (R530). The MP declares
one that has no pin: FSW15 bit 30 (R523). -/
def State.addCause (s : State) (code : Nat) (replace : Bool := true) : State :=
  let s1 := if replace then s.replaceN else s
  if code ∈ s.fault.causes then s1
  else
    let s0 := if pinless code then (s1.setPin 15 30 false).fireMp else s1
    let s2 := s0.onFault fun f => { f with causes := f.causes ++ [code] }
    (if s.fault.causes.isEmpty then s2.raiseAll 0x0101 [fld 8 1, fld 16 code] else s2).followHealth

/-- A cause of DEGRADED clears. DESIGN CHOICE (assumption 163): FSW15 bit 30 is live while a declared cause is present. -/
def State.dropCause (s : State) (code : Nat) : State :=
  if code ∈ s.fault.causes then
    let s1 := s.onFault fun f => { f with causes := f.causes.filter (· != code) }
    let s2 := if pinless code && !(s1.fault.causes.any pinless) then s1.clearPin 15 30 else s1
    (if s2.fault.causes.isEmpty then s2.raiseAll 0x0101 [fld 8 0, fld 16 code] else s2).followHealth
  else s

/-! ### Hallmark records that fall due (R76) -/

/-- Fresh records are due for some points. -/
def State.hallDue (s : State) (ps : List Nat) : State :=
  s.onHall fun h => { h with due := (h.due ++ ps).eraseDups }

/-- Fresh records are due for some points with a widening, which comes before a narrowing that falls due with it (R81). -/
def State.hallWiden (s : State) (ps : List Nat) : State :=
  (s.hallDue ps).onHall fun h => { h with widen := (h.widen ++ ps).eraseDups }

/-- Fresh records are due for every point. -/
def State.hallDueAll (s : State) : State := s.onHall fun h => { h with dueAll := true }

/-- Points of ports and electrical outputs (R72, R76). -/
def portAndOutputPoints : List Nat := List.range 256 ++ (List.range 32).map (0x100 + ·) ++ (List.range 12).map (0x120 + ·)

/-! ### Object change counts and stored records (R460, R476, R499) -/

/-- GEN a is greater than b, modulo 2^32 (R499). -/
def genAfter (a b : Nat) : Bool := a != b && decide ((a + 2 ^ 32 - b) % 2 ^ 32 < 2 ^ 31)

/-- The copy a read takes: the valid one with the greater GEN (R499). -/
def NvRec.newest (r : NvRec) : Nat := if r.c1.ok && (!r.c0.ok || genAfter r.c1.gen r.c0.gen) then 1 else 0

/-- A copy of a record. -/
def NvRec.copy (r : NvRec) (n : Nat) : NvCopy := if n = 0 then r.c0 else r.c1
def NvRec.setCopy (r : NvRec) (n : Nat) (c : NvCopy) : NvRec := if n = 0 then { r with c0 := c } else { r with c1 := c }

/-- A write of copy n with GEN one greater than that of the copy a read takes (R499). -/
def NvRec.write (r : NvRec) (n setGen : Nat) : NvRec :=
  r.setCopy n { gen := ((r.copy r.newest).gen + 1) % 2 ^ 32, setGen := setGen, ok := true, writes := (r.copy n).writes + 1 }

/-- A bank's wear follows the writes of a copy in it (R502). -/
def wearBank (banks : Tab NvBank) (n writes : Nat) : Tab NvBank := banks.upd {} n fun b => { b with wear := max b.wear writes }

/-- The bank of copy n in a pair of banks from `first` on: the surviving one while its own is read-only (R502). -/
def bankOfCopy (banks : Tab NvBank) (first n : Nat) : Nat := if (banks.look {} (first + n)).readOnly then first + 1 - n else first + n

/-- The length of a record's body in bytes: that of the temperature hours, that of a port's record by the example of R501, and for the others a
length no rule gives. -/
def bodyBytes (key : Nat) : Nat :=
  if key = objKey 0x43 1 then 12 else if key / 4294967296 = 0x20 then 488 else Config.recordLength key

/-- The words of a copy, whole pages with the trailer at their end (R498, R499). -/
def wordsOf (body : Nat) : Nat := (body + 24 + 255) / 256 * 32

/-- Records a change of an object: its change count, and its record in MRAM written to the other copy (R499), before the completion where a command
changes it (R460). Where no completion waits for the write, `old` is what it replaces. -/
def State.store (s : State) (cls index : Nat) (old : Option NvValue := none) : State :=
  let key := objKey cls index
  let s1 := s.onMbx fun m => { m with objGen := m.objGen.upd 0 key (· + 1) }
  s1.onMgmt fun m =>
    let r := m.recs.look {} key
    let n := 1 - r.newest
    let w := r.write n m.setGen
    { m with
      recs := m.recs.put key w
      banks := wearBank m.banks (bankOfCopy m.banks 2 n) (w.copy n).writes
      writing := old.map fun v => { key := some key, copy := n, words := wordsOf (bodyBytes key), at_ := s.upNs, was := r, old := v } }

/-- The boot record is written to its other copy, or to its surviving one (R500, R502). -/
def State.writeBoot (s : State) (old : Option NvValue := none) : State :=
  s.onMgmt fun m =>
    let r := m.boot
    let n := if (m.banks.look {} 0).readOnly then 1 else if (m.banks.look {} 1).readOnly then 0 else 1 - r.newest
    let w := r.write n m.setGen
    { m with
      boot := w
      banks := wearBank m.banks n (w.copy n).writes
      writing := old.map fun v => { copy := n, words := wordsOf Config.bootLength, at_ := s.upNs, was := r, old := v } }

/-- Records a change of an object that is not held in MRAM. -/
def State.touch (s : State) (cls index : Nat) : State :=
  s.onMbx fun m => { m with objGen := m.objGen.upd 0 (objKey cls index) (· + 1) }

/-- The next free value's index: the step reads and advances it. -/
def State.nextFree (s : State) : State := s.onFree (· + 1)

end Sys2Proof.Machine
end

