-- ==== Sys2Proof/Machine/Operands.lean ====
section
/-! DEFINITION. The operand forms: reference, output and emission-point codes, time words, and the objects a staged
command names. -/

namespace Sys2Proof.Machine

/-- REF names a reference (R475). -/
def refOk (r : Nat) : Bool := decide (r ≤ 16) || (decide (32 ≤ r) && decide (r ≤ 47))

/-- REF of PPSI n, CKI n, PEND n, TCI n, GNSS antenna n, NREF n (R475). -/
def refPpsi (n : Nat) : Nat := 9 + n
def refCki (n : Nat) : Nat := 5 + n
def refPend (n : Nat) : Nat := 1 + n
def refTci (n : Nat) : Nat := 13 + n
def refGnss (n : Nat) : Nat := 15 + n
def refNref (n : Nat) : Nat := 32 + n

/-- Every reference code, in order (R475). -/
def allRefs : List Nat := List.range 17 ++ (List.range 16).map (32 + ·)

/-- A frequency member: MOSC, PEND0-PEND3, CKI0-CKI3 (R64 preamble). -/
def isFreqRef (r : Nat) : Bool := decide (r ≤ 8)

/-- A time reference: PPSI, TCI, GNSS, NREF. -/
def isTimeRef (r : Nat) : Bool := refOk r && decide (9 ≤ r)

/-- Output KIND and INDEX name an output (R475). -/
def outputOk (kind index : Nat) : Bool :=
  (kind = 0 && decide (index < 32)) || (kind = 1 && decide (index < 8)) || (kind = 2 && decide (index < 4))

/-- POINT of an output (R72). -/
def outPoint (kind index : Nat) : Nat :=
  if kind = 0 then 0x100 + index else if kind = 1 then 0x120 + index else 0x128 + index

/-- The place of an output among all outputs: CKO 0-31, PPSO 32-39, TCO 40-43. -/
def outKey (kind index : Nat) : Nat := if kind = 0 then index else if kind = 1 then 32 + index else 40 + index

/-- POINT is assigned (R72). -/
def pointOk (p : Nat) : Bool :=
  decide (p ≤ 0x12B) || (decide (0x140 ≤ p) && decide (p ≤ 0x18F)) || p = 0xFFFF

/-- An ETW supplied by a command is valid (R15): NS in range, a listed TAG, low bits zero. -/
def etwOk (e : EtwArg) : Bool :=
  decide (e.sec < 2 ^ 48) && decide (e.ns ≤ 999999999) && decide (e.frac < 2 ^ 20) && decide (e.tag ≤ 3) && e.low = 0

/-- The objects a stageable command would change (R463): their class is the command's group, their index the object's
place within the group. -/
def objsOf : Instr → List Nat
  | .refSetPps _ a => [objKey 0x10 (refPpsi a.input)]
  | .refSetClock _ a => [objKey 0x10 (refCki a.input)]
  | .refSetTimecode _ a => [objKey 0x10 (refTci a.input)]
  | .refSetPendant _ a => [objKey 0x10 (refPend a.pend)]
  | .refSetNref _ a => [objKey 0x10 (refNref a.nref)]
  | .refClearFault _ r => [objKey 0x10 r]
  | .gnssSetStream _ a => [objKey 0x11 a.stream]
  | .gnssSetSignals _ _ _ _ _ => [objKey 0x11 8]
  | .gnssSetEpoch _ _ => [objKey 0x11 9]
  | .gnssSetCable _ d _ _ => [objKey 0x11 (16 + d)]
  | .gnssSetSurvey _ _ => [objKey 0x11 10]
  | .gnssLoadSurvey _ a _ => [objKey 0x11 (24 + a)]
  | .gnssSetOsnma _ _ => [objKey 0x11 11]
  | .gnssSetSpoof _ _ => [objKey 0x11 12]
  | .gnssStart _ _ => [objKey 0x11 13]
  | .gnssAssertTime _ _ _ => [objKey 0x11 14]
  | .ensSetLeapTable _ _ _ _ => [objKey 0x12 0]
  | .ensSetLocalOffset _ _ _ _ => [objKey 0x12 1]
  | .ensSetAcquire _ _ => [objKey 0x12 2]
  | .ensForceState _ _ => [objKey 0x12 3]
  | .ensReleaseLost _ => [objKey 0x12 4]
  | .ensStepTime _ _ _ _ => [objKey 0x12 5]
  | .ensSetSlew _ _ => [objKey 0x12 6]
  | .ensSetMember _ r _ _ => [objKey 0x12 (256 + r)]
  | .ensSetBandwidth _ _ => [objKey 0x12 7]
  | .ensSetHoldover _ _ _ => [objKey 0x12 8]
  | .ensSetDrift _ _ => [objKey 0x12 9]
  | .ensSetSteer _ p _ _ _ => [objKey 0x12 (16 + p)]
  | .ensResetModel _ r => [objKey 0x12 (512 + r)]
  | .hallSetWindows _ _ _ => [objKey 0x13 0]
  | .outSetLoop _ l _ _ _ => [objKey 0x14 l]
  | .outResetLoop _ l => [objKey 0x14 l]
  | .outSetOutput _ a => [objKey 0x14 (256 + outKey a.kind a.index)]
  | .outSetOffset _ l _ _ => [objKey 0x14 l]
  | .outSetSsc _ l _ _ _ => [objKey 0x14 l]
  | .outSetSlew _ k i _ => [objKey 0x14 (256 + outKey k i)]
  | .filSetChannel _ c _ _ _ => [objKey 0x15 c]
  | .filSetLoopback _ c _ _ _ => [objKey 0x15 c]
  | .filGrantChannel _ c _ _ => [objKey 0x15 c]
  | .filSetRing _ r _ _ => [objKey 0x15 (256 + r)]
  | .filSetDiff _ a => [objKey 0x15 (512 + a.de)]
  | .filSetStream _ a => [objKey 0x15 a.ch]
  | .filAckStream _ c _ => [objKey 0x15 c]
  | .laSetTap _ t _ _ => [objKey 0x16 t]
  | .laSetVtap _ a => [objKey 0x16 (8 + a.vtap)]
  | .laGrantTap _ t _ _ => [objKey 0x16 t]
  | .laSetEvent _ a => [objKey 0x16 (256 + a.slot)]
  | .laCancelEvent _ sl => [objKey 0x16 (256 + sl)]
  | .laSetStream _ t _ _ _ => [objKey 0x16 t]
  | .laAckStream _ t _ => [objKey 0x16 t]
  | .portSetMode _ p _ _ _ => [objKey 0x20 p]
  | .portSetMac _ p _ _ _ _ => [objKey 0x20 p]
  | .portSetEee _ p _ _ _ => [objKey 0x20 p]
  | .portCalibrate _ p => [objKey 0x20 p]
  | .portSetAsym _ p _ _ => [objKey 0x20 p]
  | .portOpenRing _ p _ _ _ _ => [objKey 0x20 p]
  | .portCloseRing _ hd => [objKey 0x20 (4096 + hd)]
  | .portSetFilter _ p _ _ _ _ => [objKey 0x20 p]
  | .svcSetService _ a => if a.op = 0 then [] else [objKey 0x21 a.service]
  | .svcSetAddress _ p _ _ _ _ _ => [objKey 0x20 p]
  | .svcSetLaunch _ p _ => [objKey 0x20 p]
  | .svcCancelGrant _ e => [objKey 0x21 (4096 + e)]
  | .svcSetSeal h _ => [objKey 0x21 (2048 + h.fn)]
  | .svcSetPrp _ a b _ _ => [objKey 0x20 a, objKey 0x20 b]
  | .bezelCreate _ b _ _ => [objKey 0x23 b]
  | .bezelDelete _ b => [objKey 0x23 b]
  | .bezelAssignPort _ p _ => [objKey 0x20 p]
  | .bezelSetQuota _ b _ _ _ _ _ => [objKey 0x23 b]
  | .bezelSetDmaWindow _ b _ _ _ => [objKey 0x23 b]
  | .bezelSetFlags _ b _ => [objKey 0x23 b]
  | .bezelRelease _ b _ _ => [objKey 0x23 b]
  | .tmSetSubscriberRule h i _ _ _ _ => [objKey 0x24 (h.fn * 65536 + i)]
  | .tmSetMeter _ a => [objKey 0x24 (4194304 + a.kind * 1048576 + a.index)]
  | .tmSetBuffer _ b _ _ => [objKey 0x23 b]
  | .tmSetQueue _ p c _ _ => [objKey 0x24 (8388608 + p * 8 + c)]
  | .tmSetShaper _ k i _ _ _ => [objKey 0x24 (16777216 + k * 1048576 + i)]
  | .tmSetSample _ p _ _ => [objKey 0x24 (33554432 + p)]
  | .staSetReserve _ b _ => [objKey 0x25 b]
  | .staSetWeight _ b _ => [objKey 0x25 b]
  | .staCommit _ => [objKey 0x25 65535]
  | .claspSetPair _ _ _ _ _ => [objKey 0x30 0]
  | .claspSetSwap _ _ _ => [objKey 0x30 1]
  | .claspSwapNow _ => [objKey 0x30 1]
  | .claspResync _ => [objKey 0x30 0]
  | .loupeGrantBank _ b _ _ => [objKey 0x40 b]
  | .loupeSetBank _ b _ _ => [objKey 0x40 b]
  | .loupePreset _ c _ _ _ => [objKey 0x40 (c / 32)]
  | _ => []

end Sys2Proof.Machine
end

