-- ==== Sys2Proof/Machine/CmdFlow.lean ====
section
/-! DEFINITION. The life of a mailbox command: availability, fetch, the checks in the order of R23, staging, effect and
completion (R451-R474). Every command of the groups is run by `runCommand` over its own body. -/

namespace Sys2Proof.Machine

/-- Who may issue a command (R470). -/
inductive Who where
  | operator | any | granted
  deriving DecidableEq, Repr

/-- What the command reference says of a command (R468-R474). -/
structure CmdMeta where
  /-- OPCODE (R468) -/
  op : Nat
  /-- PLEN the command requires (R469) -/
  plen : Nat := 0
  /-- Who column (R470) -/
  who : Who := .operator
  /-- M: changes mirrored state (R472) -/
  mirrored : Bool := false
  /-- X: an action (R472) -/
  action : Bool := false
  /-- reads an extended buffer (R474) -/
  xbIn : Bool := false
  /-- writes an extended buffer (R474) -/
  xbOut : Bool := false
  deriving DecidableEq, Repr

/-- Group code of a command (R468). -/
def CmdMeta.group (m : CmdMeta) : Nat := m.op / 256

/-- Verbs 0x41-0x7F only read (R468). -/
def CmdMeta.reads (m : CmdMeta) : Bool := decide (64 ≤ m.op % 256)

/-- The groups sys, fw and state are accepted in RESTRICTED and in BOOT after READY (R454, R554). -/
def CmdMeta.basic (m : CmdMeta) : Bool := m.group ∈ [1, 2, 3]

/-- The stageable groups (R472). -/
def CmdMeta.stageable (m : CmdMeta) : Bool :=
  m.group ∈ [0x10, 0x11, 0x12, 0x13, 0x14, 0x15, 0x16, 0x20, 0x21, 0x23, 0x24, 0x25, 0x30, 0x40]

/-- What the checks of a command that judge state, ownership and effect say (R23): the code, whether the function is
frozen (R471), and a RESULT that goes with a code other than OK. -/
structure Judged where
  status : Status := .ok
  freeze : Option Nat := none
  result : Rec := []
  deriving DecidableEq, Repr

/-- The first code of R23's order among the rules that apply; a violating PERM freezes with its row of R408. -/
def judge (l : List (Bool × Status)) : Judged :=
  { status := ((l.filter (·.1)).map (·.2)).foldl (fun a b => if b.rank < a.rank then b else a) Status.ok }

/-- As `judge`, with a violation of R471: PERM that freezes the function of a state-changing command. -/
def judgeOwned (own reads : Bool) (row : Nat) (l : List (Bool × Status)) : Judged :=
  if own then judge l
  else { status := .perm, freeze := if reads then none else some row }

/-- What a command leaves: the state, its RESULT and what it writes to the extended buffer. -/
structure CmdOut where
  st : State
  result : Rec := []
  xb : Rec := []
  deriving DecidableEq, Repr

/-- A command's outcome: the state, its RESULT and the extended buffer. -/
def cmdOut (st : State) (result : Rec := []) (xb : Rec := []) : CmdOut := { st := st, result := result, xb := xb }

/-- A command's own part: its range and consistency checks, its further checks, and its effect. -/
structure CmdBody where
  argOk : State → Bool
  check : State → Judged := fun _ => {}
  /-- E_VER and E_STATE by rules that judge neither an object the payload names nor the effect of its values: they come before
  E_ARG in R23's order. `check` holds them too. -/
  early : State → Judged := fun _ => {}
  act : State → CmdOut

/-! ### Checks that do not depend on the payload -/

/-- The device, pair and transaction state accepts the command (R454, R472, R531, R554). -/
def stateAccepts (m : CmdMeta) (h : CmdHdr) (s : State) : Bool :=
  let inTxn := ((s.fn h.fn).q h.queue).txn.isSome
  (match s.pwr.st with
    | .off => false
    | .vault => false
    | .boot => m.basic
    | .restricted => m.basic
    | .run => true
    | .degraded => true)
  && (!s.fault.fatal || m.group ∈ [1, 2, 3, 0x41, 0x42])
  && !(m.mirrored && s.clasp.st = .standby)
  && !(inTxn && m.action)
  && !(inTxn && !m.reads && m.group ∈ [1, 2, 0x22, 0x41, 0x43])

/-- The issuing bezel may issue the command at all (R470). -/
def issuerOk (m : CmdMeta) (h : CmdHdr) : Bool := !(m.who = .operator) || h.fn = 0

/-- The entry's own form is right (R455, R469, R474). -/
def entryOk (m : CmdMeta) (h : CmdHdr) (s : State) : Bool :=
  h.zeros && h.plen = m.plen && decide (h.xlen ≤ 65536) && h.xaddr % 64 = 0
  && !((m.xbIn || m.xbOut) && h.xaddr = 0)
  && (h.xaddr = 0 || s.dmaOk h.fn h.xaddr h.xlen)

/-- An object is named by a command staged in another transaction (R463). -/
def reservedElsewhere (h : CmdHdr) (objs : List Nat) (s : State) : Bool :=
  s.mbx.fns.any fun p => p.2.queues.any fun q =>
    !(p.1 = h.fn && q.1 = h.queue) &&
      (match q.2.txn with
        | none => false
        | some t => t.staged.any fun i => (objsOf i).any fun o => o ∈ objs)

/-! ### Fetch (R452, R458) -/

/-- The function's queues are served at all: the device runs, its mailbox is ready, the MP works and the function
serves its bezel (R445, R451, R488, R531). -/
def fetchOn (b : Nat) (s : State) : Bool :=
  s.alive && s.mbx.ready && !s.mgmt.mpRestart && !s.mgmt.mpStopped && s.fnEnabled b

/-- A command is available on the queue and a completion entry can be reserved (R451, R452). -/
def canFetch (b q : Nat) (s : State) : Bool :=
  let f := s.fn b
  let k := f.q q
  fetchOn b s && decide (q < 4) && k.en && f.cplEn && k.fetched != k.tail
    && decide ((f.cplPut + 65536 - f.cplHead) % 65536 + f.cplRes < 1024)

/-- Fetches an entry: a completion entry is reserved and the command takes the next SEQ (R452, R458). -/
def fetchEntry (e : CmdEntry) (s : State) : State :=
  let b := e.hdr.fn
  let q := e.hdr.queue
  let f := s.fn b
  let k := f.q q
  let s1 := s.onFn b fun x => { x with cplRes := x.cplRes + 1, order := x.order + 1 }
  s1.onQueue b q fun x => { x with
    fetched := (k.fetched + 1) % 65536, fetchSeq := (k.fetchSeq + 1) % 2 ^ 32,
    inflight := x.inflight ++ [{ entry := e, seq := k.fetchSeq, order := f.order }] }

/-! ### Completion (R456) -/

/-- A completion entry as its 64 bytes (R456). -/
def Completion.layout (c : Completion) : Rec :=
  [fld 32 c.epoch, fld 32 c.seq, fld 32 c.tag, fld 8 c.status.code, fld 2 c.queue, bit c.staged, rsv 5, fld 16 c.result.bytes, fld 32 c.xb.bytes]
    ++ c.result ++ [rsv (8 * (40 - c.result.bytes)), rsv 24, fld 1 c.phase, rsv 7]

/-- Writes a completion entry into the reserved place, frees the command entry and announces it (R452, R456, R466). -/
def completeOne (b q : Nat) (seq tag : Nat) (status : Status) (staged : Bool) (result xb : Rec) (s : State) : State :=
  let f := s.fn b
  let c : Completion := { epoch := s.mbx.epoch, seq := seq, tag := tag, status := status, queue := q, staged := staged,
                          result := result, xb := xb, phase := (f.cplPut / 1024 + 1) % 2 }
  let s1 := s.onFn b fun x => { x with cplPut := (x.cplPut + 1) % 65536, cplRes := x.cplRes - 1, cplQ := x.cplQ ++ [c], cplOctets := c.layout.toBytes }
  let s2 := s1.onQueue b q fun x => { x with done := (x.done + 1) % 65536, doneSeq := (seq + 1) % 2 ^ 32,
                                             inflight := x.inflight.drop 1 }
  let s3 := (s2.announce b f.cplVec).countBezel b 28
  if status = .ok || status = .abandoned then s3 else s3.countBezel b 29

/-- The opcodes the command reference lists (R468). -/
def knownOps : List Nat :=
  [0x0101, 0x0102, 0x0141, 0x0142, 0x0143, 0x0201, 0x0202, 0x0241, 0x0341, 0x0342]
  ++ ((List.range 5).map (0x0401 + ·)) ++ ((List.range 6).map (0x1001 + ·)) ++ [0x1041]
  ++ ((List.range 10).map (0x1101 + ·)) ++ [0x1141, 0x1142] ++ ((List.range 13).map (0x1201 + ·)) ++ [0x1241, 0x1242]
  ++ [0x1301, 0x1341, 0x1342] ++ ((List.range 6).map (0x1401 + ·)) ++ [0x1441]
  ++ ((List.range 7).map (0x1501 + ·)) ++ [0x1541, 0x1542, 0x1543] ++ ((List.range 7).map (0x1601 + ·)) ++ [0x1641, 0x1642]
  ++ ((List.range 8).map (0x2001 + ·)) ++ [0x2041] ++ ((List.range 6).map (0x2101 + ·)) ++ [0x2141, 0x2142]
  ++ ((List.range 6).map (0x2201 + ·)) ++ ((List.range 4).map (0x2241 + ·)) ++ ((List.range 7).map (0x2301 + ·)) ++ [0x2341]
  ++ ((List.range 6).map (0x2401 + ·)) ++ [0x2441, 0x2442] ++ [0x2501, 0x2502, 0x2503, 0x2541]
  ++ [0x3001, 0x3002, 0x3003, 0x3004, 0x3041, 0x4001, 0x4002, 0x4003, 0x4041, 0x4101, 0x4141, 0x4241, 0x4242, 0x4301, 0x4341]

/-- The entry names no command: a reserved field that is not zero, an unknown OPCODE or a PLEN above 44 (R455). -/
def entryBad (e : CmdEntry) : Bool := !(e.opcode ∈ knownOps) || decide (44 < e.hdr.plen)

/-- Opcodes whose Who column is A or G, so that the issuing bezel alone gives no E_PERM (R470). `tm.set_meter` is BZ00's only for some
payloads, which an entry judged here has not got. -/
def tenantOps : List Nat :=
  [0x0141, 0x0142, 0x0341, 0x0342] ++ ((List.range 5).map (0x0401 + ·)) ++ [0x1341, 0x1342, 0x1506, 0x1507, 0x1541, 0x1606, 0x1607, 0x1641, 0x1642]
  ++ [0x2002, 0x2003, 0x2005, 0x2006, 0x2007, 0x2008, 0x2041] ++ ((List.range 6).map (0x2101 + ·)) ++ [0x2141, 0x2142]
  ++ [0x2201, 0x2202, 0x2204, 0x2205, 0x2206, 0x2241, 0x2242, 0x2243, 0x2244, 0x2341]
  ++ [0x2401, 0x2402, 0x2404, 0x2405, 0x2406, 0x2441, 0x2442, 0x4003, 0x4041]

/-- Opcodes with M in the St column (R472). The key commands whose M depends on the slot they name are not here: their payload is not
judged. -/
def mirroredOps : List Nat :=
  ((List.range 6).map (0x1001 + ·)) ++ ((List.range 10).map (0x1101 + ·)) ++ ((List.range 13).map (0x1201 + ·)) ++ [0x1301]
  ++ ((List.range 6).map (0x1401 + ·)) ++ ((List.range 5).map (0x1501 + ·)) ++ ((List.range 5).map (0x1601 + ·)) ++ [0x2001, 0x2002, 0x2003]
  ++ ((List.range 6).map (0x2101 + ·)) ++ [0x2206, 0x2301, 0x2302, 0x2303, 0x2304, 0x2306] ++ ((List.range 6).map (0x2401 + ·))
  ++ [0x2501, 0x2502, 0x2503, 0x3002, 0x3003]

/-- Opcodes with X in the St column (R472). -/
def actionOps : List Nat :=
  [0x0101, 0x0102, 0x0201, 0x0202, 0x1006, 0x1103, 0x1109, 0x1204, 0x1205, 0x1206, 0x120D, 0x1402, 0x1507, 0x1605, 0x1607, 0x2004, 0x2007,
   0x2104, 0x2302, 0x2307, 0x2503, 0x3003, 0x3004, 0x4003, 0x4101, 0x4301]

/-- What the command reference says of an opcode whatever its payload (R470, R472); an unlisted one has no issuer to refuse. -/
def attrOf (op : Nat) : CmdMeta :=
  { op := op, who := if op ∈ knownOps && !(op ∈ tenantOps) then .operator else .any, mirrored := decide (op ∈ mirroredOps),
    action := decide (op ∈ actionOps) }

/-- The status of an entry that names no command, in the order of R23: the issuer's right and the state come before E_ARG. -/
def badStatus (e : CmdEntry) (s : State) : Status :=
  let m := attrOf e.opcode
  if !s.bezelServes e.hdr.fn then .state
  else if (s.fn e.hdr.fn).frozen then .frozen
  else if !issuerOk m e.hdr then .perm
  else if stateAccepts m e.hdr s then .arg else .state

/-- Entries at the head of a queue that name no command complete at once; `n` bounds how many. -/
def settle (b q n : Nat) (s : State) : State :=
  match n with
  | 0 => s
  | k + 1 =>
    match ((s.fn b).q q).inflight with
    | [] => s
    | x :: _ =>
      if entryBad x.entry then settle b q k (completeOne b q x.seq x.entry.hdr.tag (badStatus x.entry s) false [] [] s) else s

/-- A completion, after which entries that name no command complete in their turn (R453). -/
def complete (b q : Nat) (seq tag : Nat) (status : Status) (staged : Bool) (result xb : Rec) (s : State) : State :=
  let s1 := completeOne b q seq tag status staged result xb s
  settle b q ((s1.fn b).q q).inflight.length s1

/-- A FENCE command begins only after every command fetched earlier on the function has completed (R453). -/
def fenceOk (h : CmdHdr) (order : Nat) (s : State) : Bool :=
  !h.fence || ((s.fn h.fn).queues.all fun p => p.2.inflight.all fun x => decide (order ≤ x.order))

/-! ### Running a command -/

/-- The outcome of a command's checks in the order of R23. -/
def verdict (m : CmdMeta) (h : CmdHdr) (b : CmdBody) (busy : Bool) (s : State) : Judged :=
  if !s.bezelServes h.fn then { status := .state }
  else if (s.fn h.fn).frozen then { status := .frozen }
  else if !issuerOk m h then { status := .perm }
  else
    let gen := stateAccepts m h s
    if !(entryOk m h s && b.argOk s) then
      let e := (b.early s).status
      { status := if e = .ver && entryOk m h s then .ver else if !gen || e = .state then .state else .arg }
    else
      let j := b.check s
      if !gen && decide (Status.rank .state ≤ j.status.rank) then { status := .state }
      else if j.status = .ok && busy then { status := .busy }
      else j

/-- The command takes effect: OK and E_ABANDONED (R24). -/
def Judged.effects (j : Judged) : Bool := j.status = .ok || j.status = .abandoned

/-- A command that is staged rather than executed (R463): a state-changing command of a stageable group without X while
a transaction is open on its queue. -/
def staging (m : CmdMeta) (h : CmdHdr) (s : State) : Bool :=
  ((s.fn h.fn).q h.queue).txn.isSome && m.stageable && !m.action && !m.reads

/-- A command that waits for the partner before it takes effect (R433). -/
def mirroring (m : CmdMeta) (s : State) : Bool := m.mirrored && s.clasp.st = .active

/-- The command in flight on the queue with its SEQ and TAG, fetching it if it is available. -/
def takeUp (m : CmdMeta) (h : CmdHdr) (s : State) : Option (State × Nat) :=
  match ((s.fn h.fn).q h.queue).inflight with
  | x :: _ => if x.entry.opcode = m.op && x.entry.hdr = h && !x.begun && fetchOn h.fn s && fenceOk h x.order s then some (s, x.seq) else none
  | [] =>
    if canFetch h.fn h.queue s && fenceOk h (s.fn h.fn).order s then
      some (fetchEntry { opcode := m.op, hdr := h } s, ((s.fn h.fn).q h.queue).fetchSeq)
    else none

/-- The XB w rule of R474: a buffer shorter than the data completes with E_ARG and the length needed. -/
def xbShort (m : CmdMeta) (h : CmdHdr) (o : CmdOut) : Bool := m.xbOut && decide (h.xlen < o.xb.bytes)

/-- E_ARG by R474 is the code returned: no code that comes before E_ARG in R23's order applies. -/
def xbRefused (m : CmdMeta) (h : CmdHdr) (j : Judged) (o : CmdOut) : Bool :=
  xbShort m h o && decide (Status.rank .arg < j.status.rank)

/-- The head of a queue has begun. -/
def markHead : List Fetched → List Fetched
  | [] => []
  | x :: r => { x with begun := true } :: r

/-- A command's own part judged and answered as of another state of the device: the settings accepted so far, for a command that waits for
the partner (R207, R433). -/
def CmdBody.over (b : CmdBody) (acc : State → State) : CmdBody :=
  { argOk := fun s => b.argOk (acc s), check := fun s => b.check (acc s), early := fun s => b.early (acc s), act := fun s => b.act (acc s) }

/-- An accepted change waits for the partner: the queue's command has begun, and the instant and the free values it was accepted with stay with
it (R433, R464). -/
def mirrorItem (h : CmdHdr) (asSet : Bool) (cmds : List Instr) (seq : Nat) (o : CmdOut) (s : State) : State :=
  (((s.onQueue h.fn h.queue fun q => { q with inflight := markHead q.inflight }).onClasp
    fun c => { c with mirror := c.mirror ++ [{ cmds := cmds, asSet := asSet, done := some (h.fn, h.queue, seq, h.tag), result := o.result, xb := o.xb,
                                               stood := s.tc.mtc, free := s.free }] })).onFree fun _ => o.st.free

/-- Runs the checked command on a queue: staged, mirrored, or executed and completed. `acc` gives the state with the changes that wait for the
partner in effect. -/
def runChecked (acc : State → State) (m : CmdMeta) (h : CmdHdr) (i : Instr) (b0 : CmdBody) (busy : Bool) (seq : Nat) (s : State) : State :=
  let b := if mirroring m s then b0.over acc else b0
  let j := verdict m h b busy s
  let fin := complete h.fn h.queue seq h.tag
  if xbRefused m h j (b.act s) then fin .arg false [fld 32 (b.act s).xb.bytes] [] s
  else if !j.effects then
    let s1 := fin j.status false j.result [] s
    match j.freeze with
    | none => s1
    | some row => s1.freezeFn h.fn row ((objsOf i).headD 0)
  else if staging m h s then
    match ((s.fn h.fn).q h.queue).txn with
    | none => s
    | some t =>
      if t.staged.length ≥ 64 then fin .busy false [] [] s
      else fin .ok true [] [] (s.onQueue h.fn h.queue fun q => { q with txn := some { t with staged := t.staged ++ [i] } })
  else if mirroring m s then mirrorItem h false [i] seq (b.act s) s
  else
    let o := b.act s
    fin j.status false (if j.status = .ok then o.result else o.result ++ j.result) o.xb o.st

/-- A mirrored change of the serving or ACTIVE partner arrives over a pair lane: the STANDBY unit acknowledges it and holds it until the update
at which both units take it (R433); a unit in TRANSFER takes it, as part of the partner's configuration (R440). -/
def takeOver (m : CmdMeta) (t : Nat × Nat × Nat) (i : Instr) (b : CmdBody) (s : State) : State :=
  if m.mirrored && s.clasp.st = .transfer then (b.act s).st
  else if m.mirrored && s.clasp.st = .standby then
    s.onClasp fun c => { c with mirror := c.mirror ++ [{ cmds := [i], acked := true, ackAt := s.upNs,
                                                         stood := { s.tc.mtc with sec := t.1, ns := t.2.1, frac := t.2.2 }, free := s.free }] }
  else s

/-- A mailbox command: the entry in flight on its queue, or the next available entry, is checked and executed; where
no entry can be fetched the state stays. One that came over a pair lane is a change of the partner's. -/
def runCommand (acc : State → State) (m : CmdMeta) (h : CmdHdr) (i : Instr) (b : CmdBody) (s : State) : State :=
  match h.lane with
  | some t => if s.alive then takeOver m t i b s else s
  | none =>
    match takeUp m h s with
    | none => s
    | some (s1, seq) => runChecked acc m h i b (!m.reads && reservedElsewhere h (objsOf i) s1) seq s1

end Sys2Proof.Machine
end

