-- ==== Sys2Proof/Machine/ClockOps.lean ====
section
/-! DEFINITION. The running clock: cycles up to a pending step, the snapshot of every millisecond instant passed, and the
record form of the Hallmark (R52, R56, R71, R601). -/

namespace Sys2Proof.Machine

/-- The least k in (lo, hi] for which the counter has reached the target after k cycles, by halving; `fuel` halvings. -/
def reachIn (m : Mtc) (target : Nat) (fuel lo hi : Nat) : Nat :=
  match fuel with
  | 0 => hi
  | f + 1 =>
    if hi ≤ lo + 1 then hi
    else
      let mid := (lo + hi) / 2
      if target ≤ (m.run mid).units then reachIn m target f lo mid else reachIn m target f mid hi

/-- How many of n cycles run before a pending step's cycle: the clock stops at the start of the step cycle, which is the
row STEP_CYCLE (R69). -/
def State.cyclesToStep (s : State) (n : Nat) : Nat :=
  match s.tc.step with
  | none => n
  | some p =>
    let target := p.due * unitsPerSec
    if target ≤ s.tc.mtc.units then 0
    else if (s.tc.mtc.run n).units < target then n
    else reachIn s.tc.mtc target 64 0 n

/-- The snapshot after the counter has passed from a to b units: rewritten for every millisecond instant passed, the last
one standing in it (R56, R591, R601). -/
def State.snapAt (s : State) (a b : Nat) : State :=
  let n := b / unitsPerMs - a / unitsPerMs
  if n = 0 then s
  else
    let ms := b / unitsPerMs
    let sec := ms / 1000 % 2 ^ 48
    s.onTc fun c => { c with snap := {
      seq := (c.snap.seq + 2 * n) % 2 ^ 32, sec := sec, ns := ms % 1000 * 1000000,
      taiUtc := leapOffset c.leap sec, leap61 := leap61At c.leap sec, leap59 := leap59At c.leap sec,
      table := !c.leap.isEmpty, state := c.ts.code, loc := c.localOff } }

/-- n time-clock cycles pass, at most up to a pending step's cycle, with every snapshot they bring (R52, R601). -/
def State.runClock (s : State) (n : Nat) : State :=
  if !s.tc.mtc.running || !s.alive then s
  else
    let k := s.cyclesToStep n
    let a := s.tc.mtc.units
    let s1 := s.onTc fun c => { c with mtc := c.mtc.run k }
    s1.snapAt a (a + (if s1.tc.mtc.units ≥ a then s1.tc.mtc.units - a else 0))

/-- What step does on an empty queue: one time-clock cycle. -/
def State.idleCycle (s : State) : State :=
  if !s.tc.mtc.running || !s.alive || s.cyclesToStep 1 = 0 then s
  else
    let a := s.tc.mtc.units
    let s1 := s.onTc fun c => { c with mtc := c.mtc.tick }
    s1.snapAt a (a + (if s1.tc.mtc.units ≥ a then s1.tc.mtc.units - a else 0))

/-- An offset added to the counter (R69), SEC modulo 2^48. -/
def Mtc.add (m : Mtc) (sec ns frac : Int) : Mtc :=
  let u : Int := (m.units : Int) + (sec * 1000000000 + ns) * 1048576 + frac
  m.setUnits (u % ((2 ^ 48 * unitsPerSec : Nat) : Int)).toNat

/-- The steady word plus the slew in force, replaced by a new correction of c residue units at slew rate `rate` ns/s
(R68); a zero correction leaves no slew. -/
def Mtc.correct (m : Mtc) (c : Int) (rate : Nat) : Mtc :=
  { m with slew := if c = 0 then none
      else some { c := c, applied := 0, f := (if 0 < c then 1 else -1) * roundHalf ((rate : Rat) * (2 ^ 56 : Rat) / 1000000000) } }

/-- A correction in picoseconds as residue units of 2^-56 of a nominal cycle (R68), rounded half away from zero. -/
def residueOfPs (ps : Rat) : Int := roundHalf (ps / 1600 * (2 ^ 56 : Rat))

/-- The unapplied remainder of the slew, in ps (R68, R78). -/
def State.slewLeftPs (s : State) : Rat :=
  match s.tc.mtc.slew with
  | none => 0
  | some sl => ((sl.c - sl.applied : Int) : Rat) * 1600 / (2 ^ 56 : Rat)

/-- The ETW as a record: its 128 bits from bit 0 upward (R14). -/
def etwRec (e : Etw) : Rec := [rsv 24, fld 6 e.scale.tag, fld 20 e.frac, fld 30 e.ns, fld 48 e.sec]

/-- A record padded with zeros to a whole number of bytes. -/
def padTo (bytes : Nat) (r : Rec) : Rec := r ++ [rsv (8 * bytes - r.bits)]

/-- Units of 2^-20 ns since the epoch as a time word tagged TAI. -/
def etwOfUnits (u : Nat) : Etw :=
  { sec := u / unitsPerSec % 2 ^ 48, ns := u / 1048576 % 1000000000, frac := u % 1048576, scale := .tai }

/-- The 8 bytes of a MAC in the order of the tag (R71). -/
def macBytes (mac : Nat) : Rec := (List.range 8).map fun i => fld 8 (mac / 2 ^ (8 * (7 - i)) % 256)

/-- Bytes 0-23 of the canonical form of a Hallmark record, big-endian, over which it is signed (R71, R75). -/
def hallHead (r : HallRec) : List Nat :=
  beBytes 4 r.bound ++ beBytes 2 r.point ++ beBytes 1 r.src
  ++ [r.state % 8 + 8 * b01 r.pair + 16 * b01 r.transient + 32 * b01 r.leap61 + 64 * b01 r.leap59]
  ++ beBytes 2 r.gen ++ beBytes 2 r.seq ++ beBytes 4 r.issueSec ++ beBytes 1 r.issueSub ++ beBytes 3 r.holdAge ++ beBytes 4 r.chain

/-- The canonical form of a Hallmark record, as network frames carry it (R10, R71). -/
def hallCanonical (r : HallRec) : List Nat := hallHead r ++ beBytes 8 r.mac

/-- The MAC of a record: the first 64 bits of the AES-128-CMAC tag over the device identifier and bytes 0-23 (R71, R75). -/
def hallMac (key deviceId : Nat) (r : HallRec) : Nat :=
  beNum ((aesCmac (beBytes 16 key) (beBytes 8 deviceId ++ hallHead r)).take 8)

/-- A Hallmark record in its little-endian form (R71). -/
def hallLayout (r : HallRec) : Rec :=
  [fld 32 r.bound, fld 16 r.point, fld 8 r.src, fld 3 r.state, bit r.pair, bit r.transient, bit r.leap61, bit r.leap59, rsv 1,
   fld 16 r.gen, fld 16 r.seq, fld 32 r.issueSec, fld 8 r.issueSub, fld 24 r.holdAge, fld 32 r.chain] ++ macBytes r.mac

/-- The current record of a point (R71), SEQ zero at reset. -/
def State.hallRec (s : State) (p : Nat) : HallRec := s.hall.recs.look { point := p } p

/-- The bezel that owns a point (R72). -/
def State.pointOwner (s : State) (p : Nat) : Nat :=
  if p < 256 then s.portOwner p else if 0x140 ≤ p && decide (p ≤ 0x17F) then p - 0x140 else 0

/-- TC_SNAP_SEQ as a bezel's BAR2 shows it: two counts for every snapshot update and every rewrite of its record (R56, R591, R592). -/
def State.snapSeq (s : State) (b : Nat) : Nat := (s.tc.snap.seq + 2 * s.hall.snapRewrites.look 0 b) % 2 ^ 32

/-- A record signed with the Hallmark key of the bezel that owns its point (R75). -/
def State.signed (s : State) (r : HallRec) : HallRec :=
  { r with mac := hallMac (s.keys.slots.look {} (128 + s.pointOwner r.point)).material s.mgmt.deviceId r }

/-- Age of a record, in units of 2^-20 ns, from ISSUE_SEC and ISSUE_SUB (R77). -/
def State.recAge (s : State) (r : HallRec) : Nat :=
  ((((s.sec * unitsPerSec + s.tc.mtc.ns * 1048576 + s.tc.mtc.frac : Nat) : Int) - ((r.issueSec * unitsPerSec + r.issueSub * (unitsPerSec / 256) : Nat) : Int))
    % ((2 ^ 32 * unitsPerSec : Nat) : Int)).toNat

/-- The record an emission at a point carries: the current one, its bound unbounded while the Hallmark is withdrawn, its
window has ended, or squelch is in force (R32, R33, R525). -/
def State.carried (s : State) (p : Nat) : HallRec :=
  let r := s.hallRec p
  if s.hall.withdrawn || p ∈ s.hall.expired || s.squelched then s.signed { r with bound := 0xFFFFFFFF } else r

end Sys2Proof.Machine
end

