-- ==== Sys2Proof/Machine/Float.lean ====
section
/-! DEFINITION. IEEE 754 binary64 on exact rationals, in which the ensemble computes (R167): every operation rounds its exact result to the nearest
number of 53 significant bits, ties to even. Infinities and numbers that are none do not arise. -/

namespace Sys2Proof.Machine

/-- The exponent of the highest bit of a positive rational. -/
def topBit (q : Rat) : Int :=
  let e : Int := (Nat.log2 q.num.natAbs : Int) - (Nat.log2 q.den : Int)
  if rabs q < (2 : Rat) ^ e then e - 1 else e

/-- The nearest integer, ties to even. -/
def roundEven (q : Rat) : Int :=
  let n := q.floor
  let f := q - (n : Rat)
  if f < 1 / 2 then n else if 1 / 2 < f then n + 1 else if n % 2 = 0 then n else n + 1

/-- The binary64 number nearest to a rational; below 2^-1022 the last bit stays at 2^-1074. -/
def fl (q : Rat) : Rat :=
  if q = 0 then 0
  else
    let u : Rat := (2 : Rat) ^ (max (topBit q - 52) (-1074))
    (roundEven (q / u) : Rat) * u

/-- Sum, difference, product and quotient in binary64; a quotient by zero, which no rule forms, is 0. -/
def fAdd (a b : Rat) : Rat := fl (a + b)
def fSub (a b : Rat) : Rat := fl (a - b)
def fMul (a b : Rat) : Rat := fl (a * b)
def fDiv (a b : Rat) : Rat := fl (a / b)

/-- A sum in the order of its list. -/
def fSum (l : List Rat) : Rat := l.foldl fAdd 0

/-- The square root in binary64 of a nonnegative rational: 64 bits of it and whether any lie below, rounded once. -/
def fSqrt (q : Rat) : Rat :=
  if q ≤ 0 then 0
  else
    let k : Int := 64 - (topBit q) / 2
    let n := (q * (4 : Rat) ^ k).floor.toNat
    let r := n.sqrt
    let exact : Rat := if ((r * r : Nat) : Rat) = q * (4 : Rat) ^ k then (r : Rat) else (r : Rat) + 1 / 4
    fl (exact / (2 : Rat) ^ k)

/-- The 64 bits of a binary64 number. -/
def doubleBits (q : Rat) : Nat :=
  let x := fl q
  if x = 0 then 0
  else
    let e := max (topBit x) (-1022)
    let m := (rabs x / (2 : Rat) ^ (e - 52)).floor.toNat
    (if x < 0 then 2 ^ 63 else 0) + (if m < 2 ^ 52 then m else (e + 1023).toNat * 2 ^ 52 + (m - 2 ^ 52))

end Sys2Proof.Machine
end

