-- ==== Sys2Proof/Machine/RefOps.lean ====
section
/-! DEFINITION. The state machine every reference input shares (R86, R87, R605), PPS edges, Pendant frames and steering. -/

namespace Sys2Proof.Machine

/-- A reference input. -/
def State.inp (s : State) (r : Nat) : RefIn := s.ref.ins.look {} r

/-- Update of a reference input. -/
def State.onIn (s : State) (r : Nat) (f : RefIn → RefIn) : State := s.onRef fun x => { x with ins := x.ins.upd {} r f }

/-- Update of a PPS input, a time-code input, a network reference, a Pendant. -/
def State.onPps (s : State) (n : Nat) (f : PpsIn → PpsIn) : State := s.onRef fun x => { x with pps := x.pps.upd {} n f }
def State.onTci (s : State) (n : Nat) (f : TcIn → TcIn) : State := s.onRef fun x => { x with tci := x.tci.upd {} n f }
def State.onNref (s : State) (n : Nat) (f : NrefIn → NrefIn) : State := s.onRef fun x => { x with nref := x.nref.upd {} n f }
def State.onPend (s : State) (n : Nat) (f : PendIn → PendIn) : State := s.onRef fun x => { x with pend := x.pend.upd {} n f }

/-- One of them. -/
def State.pps (s : State) (n : Nat) : PpsIn := s.ref.pps.look {} n
def State.tci (s : State) (n : Nat) : TcIn := s.ref.tci.look {} n
def State.nrefIn (s : State) (n : Nat) : NrefIn := s.ref.nref.look {} n
def State.pend (s : State) (n : Nat) : PendIn := s.ref.pend.look {} n

/-- Counters of a reference input, by cause (R539): 0 missing pulses, 1 out-of-window and extra edges, 2 discarded frames,
3 discontinuities, 4 outliers, 5 vanishes, 6 changes, 8-15 drops by cause (R102), 16 noise, 17 malformed, 18 duplicate,
19 unknown, 20 unexpected, 21 clamps, 22 step limits, 23 resends, 24 Hallmarks that do not verify. -/
def State.countRef (s : State) (r cause n : Nat) : State := s.onIn r fun x => { x with cnt := x.cnt.upd 0 cause (· + n) }

/-- The state shown for MOSC, which has no qualification (R86, R144): VALID while its clock monitor reports good. -/
def State.moscState (s : State) : InState := if !s.pwr.moscGood then .off else if s.pwr.moscLost then .absent else .valid

/-- The state of a reference that `ref.read_status` gives (R86). -/
def State.refState (s : State) (r : Nat) : InState := if r = 0 then s.moscState else (s.inp r).st

/-- The event of a change of MOSC's state (R486). -/
def State.raiseMosc (s : State) (old : InState) : State := s.raise0 0x1001 [fld 8 0, fld 8 old.code, fld 8 s.moscState.code]

/-- An input enters a state, with the event of a change (R87, R486). -/
def State.setIn (s : State) (r : Nat) (st : InState) : State :=
  let old := (s.inp r).st
  if old = st then s
  else (s.onIn r fun x => { x with st := st, meas := if st = .valid then x.meas else none, freq := if st = .valid then x.freq else none }).raise0 0x1001
        [fld 8 r, fld 8 old.code, fld 8 st.code]

/-- A rejection event (R87): VALID goes back to QUALIFYING; in QUALIFYING the run fails, the eighth time to FAULT. -/
def State.rejectIn (s : State) (r : Nat) : State :=
  let x := s.inp r
  match x.st with
  | .valid => (s.setIn r .qualifying).onIn r fun y => { y with run := 0 }
  | .qualifying =>
    let s1 := s.onIn r fun y => { y with run := 0, fails := y.fails + 1 }
    if 8 ≤ x.fails + 1 then s1.setIn r .fault else s1
  | .off => s
  | .absent => s
  | .held => s
  | .fault => s

/-- The loss condition (R87, R605): the eighth failed run goes to FAULT, otherwise ABSENT. -/
def State.loseIn (s : State) (r : Nat) : State :=
  let x := s.inp r
  match x.st with
  | .valid => (s.setIn r .absent).onIn r fun y => { y with run := 0 }
  | .qualifying =>
    let s1 := s.onIn r fun y => { y with run := 0, fails := y.fails + 1 }
    if 8 ≤ x.fails + 1 then s1.setIn r .fault else s1.setIn r .absent
  | .off => s
  | .absent => s
  | .held => s
  | .fault => s

/-- A well-formed event that counts towards a run of `need` (R87, R605). -/
def State.goodIn (s : State) (r need : Nat) : State :=
  let x := s.inp r
  let s0 := s.onIn r fun y => { y with missRun := 0 }
  match x.st with
  | .absent => (s0.setIn r .qualifying).onIn r fun y => { y with run := 1 }
  | .held => (s0.setIn r .qualifying).onIn r fun y => { y with run := 1 }
  | .qualifying =>
    if need ≤ x.run + 1 then (s0.onIn r fun y => { y with run := 0, fails := 0 }).setIn r .valid
    else s0.onIn r fun y => { y with run := y.run + 1 }
  | .valid => s0
  | .off => s
  | .fault => s

/-- An input is configured: from OFF to ABSENT, otherwise to QUALIFYING with its count cleared (R87, R605). -/
def State.configureIn (s : State) (r : Nat) : State :=
  if (s.inp r).st = .off then (s.setIn r .absent).onIn r fun y => { y with run := 0, fails := 0, missRun := 0 }
  else (s.setIn r .qualifying).onIn r fun y => { y with run := 0, fails := 0, missRun := 0 }

/-- An input is deconfigured (R87, R606). -/
def State.deconfigureIn (s : State) (r : Nat) : State :=
  (s.setIn r .off).onIn r fun y => { y with run := 0, fails := 0, missRun := 0, meas := none }

/-- A missing pulse or frame; the third in a row is the loss condition (R88, R95). -/
def State.missIn (s : State) (r : Nat) : State :=
  let n := (s.inp r).missRun + 1
  let s1 := (s.countRef r 0 1).onIn r fun y => { y with missRun := n, meas := none, run := if y.st = .qualifying then 0 else y.run }
  if n = 3 then s1.loseIn r else s1

/-- An indication disagrees with the leap table (R61, R95): another offset in force, a leap announced for the present UTC day that the table has not, or
a coming leap that is no entry of it. DESIGN CHOICE (assumption 147): while no table is loaded there is nothing to disagree with, and an
indication that names no leap says nothing of the table's later ones. -/
def State.leapDisagrees (s : State) (i : LeapInd) : Bool :=
  !s.tc.leap.isEmpty &&
    ((match i.offset with | some o => o != s.taiUtc | none => false)
      || (i.leap61 && !leap61At s.tc.leap s.sec) || (i.leap59 && !leap59At s.tc.leap s.sec)
      || (match i.coming with | some c => !(s.tc.leap.any fun e => e.tEff = c.1 && e.offset = c.2) | none => false))

/-- An indication that disagrees with the leap table raises event 0x1102, with the broadcast offset, and is logged; the table stays (R61, R95). -/
def State.checkIndicated (s : State) (source : Nat) (i : LeapInd) : State :=
  if s.leapDisagrees i then s.raise0 0x1102 [fld 8 source, (16, i.offset.getD s.taiUtc)] else s

/-! ### The calendar -/

/-- Days from 1970-01-01 to the first of January of a year. -/
def daysToYear (y : Nat) : Nat := 365 * (y - 1970) + ((y - 1969) / 4 - (y - 1901) / 100 + (y - 1601) / 400)

/-- The year of a count of seconds. -/
def yearOf (sec : Nat) : Nat :=
  let y := 1970 + sec / 31556952
  if sec / 86400 < daysToYear y then y - 1 else if daysToYear (y + 1) ≤ sec / 86400 then y + 1 else y

/-- Nominal frequency of a Pendant by its FREQ code (R91). -/
def pendFreq (f : Nat) : Nat := if f = 0 then 5000000 else if f = 1 then 10000000 else 100000000

/-! ### PPS edges (R88-R90) -/

/-- Units of 2^-20 ns in a second, signed. -/
def secUnits : Int := 1000000000 * 1048576

/-- Rounds a number of units to whole seconds. -/
def nearestSec (u : Int) : Int := (u + secUnits / 2) / secUnits

/-- An edge is in window of its prediction: the previous in-window edge plus as many whole seconds, at least one, as have passed since (R88); the
first edge has no prediction. -/
def PpsIn.inWindow (p : PpsIn) (t : Int) : Bool :=
  match p.last with
  | none => true
  | some l => decide ((t - (l + max 1 (nearestSec (t - l)) * secUnits)).natAbs ≤ p.w * 1048576)

/-- Variance of one Filigree stamp, ps^2: 3.5 ps rms (R205). -/
def stampVar : Rat := 49 / 4

/-- The serial time of day of the TCI paired with a PPSI is in use (R90, R96). -/
def State.serialTod (s : State) (n : Nat) : Bool := decide (n < 2) && (s.inp (refTci n)).st = .valid && (s.tci n).kind = 2

/-- The offset of the MTC against TAI, ps, by the NREF or GNSS reference that tells a PPSI its second (R90). DESIGN CHOICE (assumption 148): of several
that are VALID the one of the lowest REF. -/
def State.todOffset (s : State) : Option Rat :=
  (([15, 16] ++ (List.range 16).map refNref).filter fun r => decide ((s.inp r).st = InState.valid)).head?.map fun r =>
    if r < 17 then (match (s.gnss.ants.look {} (r - 15)).sol with | some o => o.offset | none => 0) else (s.nrefIn (r - 32)).offset

/-- The second an edge is labelled with: the labelled edge's plus the whole seconds since (R90). -/
def labelOf (l : Option (Int × Nat)) (t : Int) : Option Int := l.map fun p => (p.2 : Int) + nearestSec (t - p.1)

/-- Units of 2^-20 ns as ps. -/
def unitsPs (u : Int) : Rat := (u : Rat) * 1000 / 1048576

/-- A stamped edge of a PPSI (R88-R90): only the first in-window edge of a second is used; the cable delay is subtracted;
the measurement is the MTC less the label, or modulo 1 s without one; an edge on a COARSE stamp brings none (R190). On a PPSI with a serial
TCI it begins a labelling interval, and measures the TCI by the label that waited for it (R96). -/
def State.ppsEdge (s : State) (n : Nat) (t : Int) (coarse : Bool) : State :=
  let r := refPpsi n
  let p := s.pps n
  let x := s.inp r
  if x.st = .off || x.st = .fault then s
  else if p.seen || !p.inWindow t then s.countRef r 1 1
  else
    let label := match p.next with
      | some sec => some (t, sec)
      | none => p.label
    let serial := match p.serialNext with
      | some sec => some (t, sec)
      | none => p.serial
    let sec : Int := match labelOf label t with
      | some k => k
      | none => match (if s.serialTod n then labelOf serial t else none) with
        | some k => k
        | none => nearestSec (t - roundHalf ((s.todOffset.getD 0) * 1048576 / 1000))
    let m : Rat := unitsPs (t - sec * secUnits) - (p.cable : Rat)
    let s1 := s.onPps n fun q => { q with
      last := some t, coarse := coarse, seen := true, next := none, label := label, serialNext := none, serial := serial }
    let s2 := s1.goodIn r 4
    let s3 := s2.onIn r fun y => { y with meas := if y.st = .valid && !coarse then some m else none, var := stampVar }
    if n < 2 && (s.tci n).kind = 2 then
      let s4 := s3.onTci n fun c => { c with seen := false }
      match p.serialNext with
      | some k => if s.serialTod n && !coarse then s4.onIn (refTci n) fun y => { y with
          meas := some (unitsPs (t - (k : Int) * secUnits) - (p.cable : Rat)), var := stampVar } else s4
      | none => s4
    else s3

/-- The PPSI has a time-of-day source (R90): its own label, serial time of day on its paired TCI, an NREF or a GNSS reference. -/
def State.ppsHasTod (s : State) (n : Nat) : Bool :=
  let p := s.pps n
  p.label.isSome || (p.serial.isSome && s.serialTod n) || s.todOffset.isSome

/-! ### Pendant serial frame (R104-R107) -/

/-- A byte list as a big-endian number. -/
def beNat (l : List (BitVec 8)) : Nat := l.foldl (fun a b => a * 256 + b.toNat) 0

/-- A big-endian number as signed. -/
def beInt (l : List (BitVec 8)) : Int :=
  let n := beNat l
  if n < 2 ^ (8 * l.length - 1) then n else (n : Int) - 2 ^ (8 * l.length)

/-- CRC-16/CCITT-FALSE over bytes (R104). -/
def crc16 (l : List (BitVec 8)) : Nat := crcBits 16 0x1021 0xFFFF (l.flatMap fun b => msbBits 8 b.toNat)

/-- A steer command (R110): TYPE 0x81, LEN 8, y in 6 bytes, SEQ, a zero byte and the CRC. -/
def steerFrame (y : Int) (seq : Nat) : List (BitVec 8) :=
  let body := [0x81, 8] ++ (beBytes 6 (wrapU 48 y) ++ [seq, 0]).map (BitVec.ofNat 8)
  [0xA5, 0x5A] ++ body ++ (beBytes 2 (crc16 body)).map (BitVec.ofNat 8)

/-! ### Pendant steering (R108-R110) -/

/-- Clamps an integer. -/
def clampInt (x lo hi : Int) : Int := min hi (max lo x)

/-- The DAC code of R109, with the new residue, whether the clamp and whether the step limit acted. DESIGN CHOICE (assumption 148): the first write
after configuration has no step limit, since there is no last code. -/
def dacCode (c : PendantArgs) (e : Rat) (last : Option Int) (y : Int) : Int × Rat × Bool × Bool :=
  let v : Rat := (y : Rat) / (2 ^ 56 : Rat) / ((c.g : Rat) / 1000000000000000000) + e
  let code := (c.m : Int) + roundHalf v
  let k1 := clampInt code c.cmin c.cmax
  let k2 := match last with
    | none => k1
    | some l => clampInt k1 (l - c.smax) (l + c.smax)
  (k2, v - roundHalf v, k1 != code, k2 != k1)

/-- The correction a DAC code stands for, in frequency-word units (R109: the applied value is reported). -/
def dacApplied (c : PendantArgs) (code : Int) : Int :=
  roundHalf (((code - c.m : Int) : Rat) * ((c.g : Rat) / 1000000000000000000) * (2 ^ 56 : Rat))

/-- The frame of a DAC write (R109): the constant bits first, then the 24-bit code, most significant bit first. -/
def spiFrame (c : PendantArgs) (code : Int) : Nat × Nat := (24 + c.pfxBits, c.pfx % 2 ^ c.pfxBits * 2 ^ 24 + wrapU 24 code)

/-- A steering request for a Pendant (R108): none is sent while its health is STALE or ALARM. -/
def State.steerPend (s : State) (n : Nat) (y : Int) : State :=
  let p := s.pend n
  if p.health = .stale || p.health = .alarm || p.cfg.steer = 0 || p.failed then s
  else if p.cfg.steer = 1 then
    let d := dacCode p.cfg p.e p.last y
    let s1 := s.onPend n fun q => { q with e := d.2.1, last := some d.1, applied := dacApplied q.cfg d.1, spi := some (spiFrame q.cfg d.1) }
    (s1.countRef (refPend n) 21 (b01 d.2.2.1)).countRef (refPend n) 22 (b01 d.2.2.2)
  else s.onPend n fun q => { q with steerSeq := (q.steerSeq + 1) % 256, waiting := some y, sends := 1, txd := steerFrame y ((q.steerSeq + 1) % 256) }

/-- A frame from its sync pair: TYPE and payload, or nothing where it is malformed whatever its TYPE (R104, R106). -/
def parseFrame (f : List (BitVec 8)) : Option (Nat × List (BitVec 8)) :=
  match f with
  | 0xA5 :: 0x5A :: ty :: len :: rest =>
    if decide (len.toNat ≤ 64) && rest.length = len.toNat + 2 && beNat (rest.drop len.toNat) = crc16 (ty :: len :: rest.take len.toNat)
    then some (ty.toNat, rest.take len.toNat) else none
  | _ => none

/-- A malformed frame: counted and logged, and health is STALE at once (R42, R106). -/
def State.pendMalformed (s : State) (n : Nat) : State :=
  ((s.countRef (refPend n) 17 1).onPend n fun p => { p with health := if p.health = .none then .none else .stale }).logPartner 0x1081 (refPend n)

/-- A health frame with a good CRC (R105-R107); MONITOR goes to the log. -/
def State.pendHealth (s : State) (n : Nat) (b : List (BitVec 8)) : State :=
  let status := (b.getD 1 0).toNat
  if b.length != 16 || 8 ≤ status || b.getD 15 0 != 0 then s.pendMalformed n
  else
    let seq := (b.getD 14 0).toNat
    if (s.pend n).seq = some seq then s.countRef (refPend n) 18 1
    else
      let kind := (b.getD 0 0).toNat
      (s.log 0x1083 0 (refPend n) [fld 32 (beNat ((b.drop 4).take 4))]).onPend n fun p => { p with
        kind := if kind ≤ 3 then kind else 0, temp := beInt ((b.drop 2).take 2), monitor := beNat ((b.drop 4).take 4),
        steer := beInt ((b.drop 8).take 6), seq := some seq,
        health := if nbit status 2 then .alarm else if nbit status 1 || !nbit status 0 then .warmup else .good }

/-- A steer acknowledgement (R110): it must echo the SEQ of the command that waits; the value it gives is in force. -/
def State.pendAck (s : State) (n : Nat) (b : List (BitVec 8)) : State :=
  let p := s.pend n
  if b.length = 8 && p.waiting.isSome && (b.getD 6 0).toNat = p.steerSeq && !p.failed then
    s.onPend n fun q => { q with waiting := none, sends := 0, applied := beInt (b.take 6) }
  else s

/-- Health channel code for status readings (R107). -/
def Health.code : Health → Nat
  | .none => 0 | .stale => 1 | .alarm => 2 | .warmup => 3 | .good => 4

end Sys2Proof.Machine
end

