-- ==== Sys2Proof/Machine/Bound.lean ====
section
/-! DEFINITION. The ensemble part of a bound (R78, R79), classes and chain of the Hallmark (R73, R74), and what Assay reads of a
reference. -/

namespace Sys2Proof.Machine

/-- What Assay holds of a reference. -/
def State.ra (s : State) (r : Nat) : RefAssay := s.ens.refs.look {} r

/-- Update of it. -/
def State.onRa (s : State) (r : Nat) (f : RefAssay → RefAssay) : State :=
  s.onEns fun e => { e with refs := e.refs.upd {} r f }

/-! ### The bound (R78, R79) -/

/-- The growth of the combined noise from t_a to t_b seconds after the last applied measurement (R79), ps^2. -/
def noiseGrowth (m : NoiseModel) (ta tb : Rat) : Rat :=
  m.qw * (tb - ta) + m.qf * (tb * tb - ta * ta) + m.qrw * (tb * tb * tb - ta * ta * ta) / 3

/-- Seconds from the last applied measurement to the latch of the update in progress (R79). -/
def State.sinceApplied (s : State) : Rat := (((s.tc.lastLatch : Int) - (s.ens.lastApplied : Int) : Int) : Rat) / 1000000000

/-- sigma_x squared at t seconds after the last applied measurement (R79), ps^2. -/
def EnsSt.sigmaSq (e : EnsSt) (t : Rat) : Rat :=
  let p := e.applied
  p.px + p.py * t * t + p.pd * (t * t * t * t) / 4 + 2 * p.pxy * t + p.pxd * t * t + p.pyd * t * t * t
    + e.accum + noiseGrowth e.comb e.accumAt t

/-- The deterministic drift term D (R79), ps. -/
def EnsSt.driftTerm (e : EnsSt) (t : Rat) : Rat := if e.driftOn then 0 else rabs e.drift * t * t / 2

/-- HOLD_AGE, counted exactly: seconds since the last applied measurement (R71, R78, R602). -/
def State.holdAge (s : State) : Nat := (s.upNs - s.ens.lastApplied) / 1000000000

/-- t_h of a publication at the present instant (R78), s: to the end of the validity window. -/
def State.tHold (s : State) : Rat :=
  if s.tc.ts = .holdover then (s.holdAge : Rat) + 11 / 10
  else (((s.upNs : Int) - (s.ens.lastApplied : Int) : Int) : Rat) / 1000000000 + 11 / 10

/-- The remainder r of R78, ps: the slew's, or the whole estimated offset while an initial set is pending. -/
def State.remainderPs (s : State) : Rat := if s.tc.initPending then s.ens.post.x else s.slewLeftPs

/-- The ensemble terms of a bound before rounding (R78): the quantile term is whole already. -/
def State.ensembleTerms (s : State) : Rat :=
  let t := s.tHold
  (ratSqrtUp (2401 / 100 * s.ens.sigmaSq t) : Rat) + s.ens.driftTerm t + s.ens.uRef + rabs s.remainderPs

/-- A sum as BOUND: rounded up, and unbounded from 0xFFFF_FFFF ps on (R78). -/
def encodeBound (b : Rat) : Nat := min 0xFFFFFFFF b.ceil.toNat

/-- The timing states in which a bound is computed (R64). -/
def TimingState.bounded (t : TimingState) : Bool := t = .acquiring || t = .locked || t = .holdover

/-- The device-point bound (R64, R72, R78). -/
def State.deviceBound (s : State) : Nat := if s.tc.ts.bounded then encodeBound s.ensembleTerms else 0xFFFFFFFF

/-! ### References as Assay sees them -/

/-- The NREF behind a reference code. -/
def nrefNo (r : Nat) : Option Nat := if 32 ≤ r && decide (r ≤ 47) then some (r - 32) else none

/-- A reference counts as a time reference (R64 preamble): a PPSI without a time-of-day source at the latch is graded as a frequency member (R85,
R147). -/
def State.isTimeNow (s : State) (r : Nat) : Bool :=
  if 9 ≤ r && decide (r ≤ 12) then (s.pps (r - 9)).tod else isTimeRef r

/-- The KIND that a Pendant's health reports: that of the last well-formed frame while its channel is enabled, 0 without one (R155, R161). -/
def State.rowOf (s : State) (r : Nat) : Nat :=
  if 1 ≤ r && decide (r ≤ 4) then
    let p := s.pend (r - 1)
    if p.health = .none || p.seq.isNone then 0 else if p.kind ≤ 3 then p.kind else 0
  else 0

/-- Row of R161 for a reference. A row restored with its model stands until the channel's first well-formed frame, without which no model of a Pendant
would survive a device reset (R163; DEDUCED, assumption 144). -/
def State.modelRow (s : State) (r : Nat) : Nat :=
  if (s.ra r).restored && decide (1 ≤ r) && decide (r ≤ 4) && (s.pend (r - 1)).health != .none && (s.pend (r - 1)).seq.isNone then (s.ra r).row
  else s.rowOf r

/-- The configuration a frequency member's model belongs to (R163). -/
def State.refCfg (s : State) (r : Nat) : RefCfg :=
  if 1 ≤ r && decide (r ≤ 4) then .pend (s.pend (r - 1)).cfg
  else if 5 ≤ r && decide (r ≤ 8) then (let c := s.ref.clk.look {} (r - 5); .clock c.fN c.stampRate c.wF)
  else if 9 ≤ r && decide (r ≤ 12) then (let p := s.pps (r - 9); .pps p.falling p.w p.cable p.u)
  else .fixed

/-- A saved model's reference is configured as it was when the model was written (R163). -/
def State.sameCfg (s : State) (r : Nat) (m : SavedModel) : Bool := decide (m.cfg = s.refCfg r) && decide (m.on = ((s.inp r).st != .off))

/-- The default model of a row (R161), in ps and s. -/
def defaultModel (row : Nat) : NoiseModel :=
  if row = 1 then { qw := 10, qf := 1 / 1000, qrw := 1 / 1000000000, driftVar := (2 / 86400) * (2 / 86400) }
  else if row = 2 then { qw := 25, qf := 1 / 100000, qrw := 1 / 100000000000, driftVar := (1 / 864000000) * (1 / 864000000) }
  else if row = 3 then { qw := 1 / 100, qf := 1 / 250000, qrw := 1 / 10000000000, driftVar := (1 / 86400000) * (1 / 86400000) }
  else {}

/-- sigma_i^2 of a member over t seconds (R160, R167), ps^2. -/
def NoiseModel.varAt (m : NoiseModel) (t : Rat) : Rat :=
  fAdd (fAdd (fMul m.qw t) (fMul (fMul m.qf t) t)) (fDiv (fMul (fMul (fMul m.qrw t) t) t) 3)

/-- A reference's model is reset (R163): the defaults of its row, and no history. -/
def State.resetModel (s : State) (r : Nat) : State :=
  (s.onRa r fun a => { a with model := defaultModel (s.rowOf r), row := s.rowOf r, history := 0, series := [], restored := false }).onEns fun e =>
    { e with saved := e.saved.filter fun q => q.1 != r }

/-- The row of R161 a Pendant's model is drawn from has changed: the model is reset (R163). A frame that reports the restored row ends the wait for
it. -/
def State.followRow (s : State) (r : Nat) : State :=
  if (s.ra r).row != s.modelRow r then s.resetModel r
  else if (s.ra r).restored && decide (1 ≤ r) && (s.pend (r - 1)).seq.isSome then s.onRa r fun a => { a with restored := false }
  else s

/-- The STEER field of a health frame is compared with the last acknowledged correction (R171). -/
def State.checkSteer (s : State) (n : Nat) : State :=
  let p := s.pend n
  if p.cfg.steer != 2 then s
  else
    let r := refPend n
    let a := s.ra r
    if decide (1 < (p.steer - p.applied).natAbs) then
      let run := a.misRun + 1
      let s1 := s.onRa r fun x => { x with misRun := run, misClear := 0 }
      if run = 3 && !a.mismatch then (s1.onRa r fun x => { x with mismatch := true, mismatches := x.mismatches + 1 }).log 0x1280 1 r
      else s1
    else
      let run := a.misClear + 1
      s.onRa r fun x => { x with misRun := 0, misClear := run, mismatch := x.mismatch && decide (run < 10) }

/-! ### SRC and CHAIN (R73, R74) -/

/-- The identity of a reference as bytes (R74); of a PPSI and a TCI the spec states none. -/
def State.identity (s : State) (r : Nat) : List Nat :=
  match nrefNo r with
  | some n =>
    let x := s.nrefIn n
    match x.chain with
    | some c => beBytes 4 c
    | none => if x.cfg.profile = 8 then beBytes 4 (x.ident.getD 0 / 256) else beBytes 8 (x.ident.getD 0 / 2 ^ 80)
  | none =>
    if r = 15 || r = 16 then
      (if s.gnss.refSys = 1 then [0x47, 0x41, 0x4C, 0] else if s.gnss.refSys = 2 then [0x42, 0x44, 0x53, 0] else [0x47, 0x50, 0x53, 0])
    else Config.plainIdentity r

/-- The source class of a time reference (R73). -/
def State.srcOf (s : State) (r : Nat) : Nat :=
  match nrefNo r with
  | some n => if (s.nrefIn n).cfg.profile = 8 then 3 else 2
  | none => if r = 15 || r = 16 then (if (s.gnss.ants.look {} (r - 15)).dual then 0 else 1) else 4

/-- CHAIN over identities in member order (R74). -/
def chainOf (ids : List (List Nat)) : Nat := sha256 ids.flatten / 2 ^ 224

end Sys2Proof.Machine
end

