-- ==== Sys2Proof/Machine/FilOps.lean ====
section
/-! DEFINITION. Filigree (chapter 06): calibration tables, time of a stamp, rings and their consumers. -/

namespace Sys2Proof.Machine

/-! ### Calibration (R186-R189) -/

/-- Hits of a calibration run (R186). -/
def calHits : Nat := 4194304

/-- A run succeeds (R187): the hits fill a contiguous span of 1,100 to 1,800 codes, no code is empty, and none is above 4 ps wide. -/
def calGood (first : Nat) (hits : List Nat) : Bool :=
  decide (1100 ≤ hits.length) && decide (hits.length ≤ 1800) && decide (first + hits.length ≤ 4096) && hits.sum = calHits
    && hits.all fun h => decide (0 < h) && decide (h * 1600 ≤ 4 * calHits)

/-- i(n) of a bin table in time-clock cycles (R187); a code outside the span is taken as its nearest end (R184). -/
def BinTable.at (b : BinTable) (code : Nat) : Rat :=
  let k := min (code - b.first) (b.hits.length - 1)
  1 + (((b.hits.take k).sum : Rat) + (b.hits.getD k 0 : Rat) / 2) / (b.hits.sum : Rat)

/-- The code lies outside the calibrated span (R184). -/
def BinTable.outside (b : BinTable) (code : Nat) : Bool := decide (code < b.first) || decide (b.first + b.hits.length ≤ code)

/-- How a calibration run of a pair of interpolators comes out. -/
inductive CalOutcome where
  | good | failed | single | out
  deriving DecidableEq, Repr

/-- A table for the CALIBRATING interpolator: after a device reset first X and then Y gets its table, and later the one that is not ACTIVE (R189). -/
def Interp.newTable (p : Interp) (b : BinTable) : Interp :=
  if p.tabX.isNone then { p with tabX := some b } else if p.tabY.isNone then { p with tabY := some b } else { p with fresh := some b }

/-- The CALIBRATING interpolator goes out of service and the other one survives (R189): X before it has a table, Y before it has one, then the one that
is not ACTIVE. -/
def Interp.survive (p : Interp) : Interp :=
  let y := p.tabX.isNone || (p.tabY.isSome && p.activeY)
  { p with st := .single, fails := 0, fresh := none, activeY := y, surv := (if y then p.tabY else p.tabX).isNone }

/-- A run ends (R187-R189, R604). -/
def Interp.runEnd (p : Interp) (first : Nat) (hits : List Nat) : Interp × CalOutcome :=
  let b : BinTable := { first := first, hits := hits }
  if calGood first hits then
    match p.st with
    | .normal => ({ p.newTable b with fails := 0 }, .good)
    | .single => ({ (if p.activeY then { p with tabY := some b } else { p with tabX := some b }) with fails := 0, surv := false }, .good)
    | .out => (p, .good)
  else
    let q := { p with failed := p.failed + 1, fails := p.fails + 1 }
    if q.fails < 3 || p.st = .out then (q, .failed)
    else if p.st = .normal then (q.survive, .single)
    else ({ q with st := .out, fails := 0 }, .out)

/-- The roles swap where a fresh table waits and the ACTIVE interpolator is neither converting nor dead (R188). -/
def Interp.swap (busy : Bool) (p : Interp) : Interp :=
  match p.fresh with
  | none => p
  | some b => if busy then p else if p.st != .normal then { p with fresh := none }
    else if p.activeY then { p with activeY := false, tabX := some b, fresh := none }
    else { p with activeY := true, tabY := some b, fresh := none }

/-- The survivor's own run starts in SINGLE (R189, R604). -/
def Interp.survStart (p : Interp) : Interp := if p.st = .single then { p with surv := true } else p

/-! ### The counter at a cycle (R191) -/

/-- Keeps the counter's value at a change of the frequency word or a step, for the last 2^24 cycles (R191). -/
def State.pushHist (s : State) : State :=
  s.onTc fun c =>
    let h := c.hist ++ [c.mtc]
    let old := h.filter fun m => decide (m.cyc + 16777216 ≤ c.mtc.cyc)
    { c with hist := h.drop (old.length - 1) }

/-- The counter at the start of a cycle, reconstructed from the last change before it (R191). -/
def State.mtcAt (s : State) (cyc : Nat) : Mtc :=
  match (s.tc.hist.filter fun m => decide (m.cyc ≤ cyc)).getLast? with
  | some m => m.run (cyc - m.cyc)
  | none => (s.tc.hist.head?).getD s.tc.mtc

/-- The modulus of the counter: SEC has 48 bits. -/
def counterRange : Int := (2 ^ 48 * unitsPerSec : Nat)

/-- The increment added in a cycle, with the word in force in it (R52, R191). -/
def State.incAt (s : State) (cyc : Nat) : Int := (((s.mtcAt cyc).tick.units : Int) - ((s.mtcAt cyc).units : Int)) % counterRange

/-- The full cycle count of a stamp, and whether its drain delay exceeds 2^23 cycles (R192). -/
def State.resolve (s : State) (coarse : Nat) : Nat × Bool :=
  let d := (s.tc.mtc.cyc + 16777216 - coarse % 16777216) % 16777216
  (s.tc.mtc.cyc - d, decide (8388608 < d))

/-- The time of a stamp in units of 2^-20 ns (R191): phi := 2 - i, rounded half up; a COARSE stamp at the middle of its cycle. -/
def State.stampTime (s : State) (r : RawStamp) : Nat :=
  let c := (s.resolve r.coarse).1
  let phi : Rat := if r.mid then 1 / 2 else 2 - r.i
  ((((s.mtcAt c).units : Int) + (phi * ((s.incAt c : Int) : Rat) + 1 / 2).floor) % counterRange).toNat

/-! ### Channels and rings -/

/-- A channel, a ring, a difference engine. -/
def State.chan (s : State) (c : Nat) : FilChan := s.fil.chans.look {} c
def State.onChan (s : State) (c : Nat) (f : FilChan → FilChan) : State := s.onFil fun x => { x with chans := x.chans.upd {} c f }

/-- At a position the channel is still dead: less than 25 cycles, 40 ns, have passed since its last stamped edge, whose conversion ends before (R184,
R185). -/
def FilChan.dead (c : FilChan) (pos : Rat) : Bool := match c.last with | some l => decide (l ≤ pos) && decide (pos < l + 25) | none => false

/-- The default of a ring (R196). -/
def ringDefault (r : Nat) : FilRing := { allot := if 24 ≤ r && decide (r ≤ 39) then 2048 else 1024 }
def State.ring (s : State) (r : Nat) : FilRing := s.fil.rings.look (ringDefault r) r
def State.onRing (s : State) (r : Nat) (f : FilRing → FilRing) : State :=
  s.onFil fun x => { x with rings := x.rings.upd (ringDefault r) r f }
def State.eng (s : State) (d : Nat) : DiffEng := s.fil.engines.look {} d
def State.onEng (s : State) (d : Nat) (f : DiffEng → DiffEng) : State := s.onFil fun x => { x with engines := x.engines.upd {} d f }

/-- Counts on a channel and on an engine. -/
def State.countChan (s : State) (c k : Nat) : State := s.onChan c fun x => { x with cnt := x.cnt.upd 0 k (· + 1) }
def State.countEng (s : State) (d k n : Nat) : State := s.onEng d fun x => { x with cnt := x.cnt.upd 0 k (· + n) }

/-- Place of the oldest held record. -/
def FilRing.base (r : FilRing) : Nat := r.put - r.recs.length

/-- A record is held until every consumer has read past it (R197). -/
def FilRing.free (r : FilRing) : FilRing :=
  let low := (r.readers.map (·.pos)).foldl min r.put
  { r with recs := r.recs.drop (low - r.base) }

/-- The oldest n records are freed; consumers that had not read them advance and count them lost (R198, R199). -/
def FilRing.shed (r : FilRing) (n : Nat) : FilRing :=
  let b := r.base + n
  { r with recs := r.recs.drop n
           readers := r.readers.map fun (x : FilReader) => if x.pos < b then { x with pos := b, lost := (x.lost + (b - x.pos)) % 2 ^ 32 } else x }

/-- The ring takes another record now (R198). -/
def FilRing.takes (r : FilRing) : Bool := !r.hold || decide (r.recs.length < r.allot)

/-- The drain may serve a channel (R193, R195, R198): a stamp that did not enter in this very cycle waits, and the ring takes it. -/
def State.drains (s : State) (ch : Nat) : Bool :=
  match (s.chan ch).queue with
  | [] => false
  | r :: _ => r.pushed != s.tc.mtc.cyc && (s.ring ch).takes

/-- The channel the drain serves next: the first after the last one served, in rotation, that it may serve (R195). -/
def State.drainNext (s : State) : Option Nat := ((List.range 64).map fun i => (s.fil.turn + 1 + i) % 64).find? s.drains

/-- A record is written (R197, R198). -/
def FilRing.write (r : FilRing) (x : StampRec) : FilRing :=
  let r1 := r.shed (r.recs.length + 1 - r.allot)
  ({ r1 with recs := r1.recs ++ [x], put := r1.put + 1 }).free

/-- A change of mode and allotment takes effect (R199). -/
def FilRing.change (r : FilRing) (hold : Bool) (allot : Nat) : FilRing :=
  { r.shed (r.recs.length - allot) with hold := hold, allot := allot, next := none }

/-- Rings that exist (R196). -/
def filRings : List Nat := List.range 96

/-- The sum of allotments, those accepted and waiting among them (R196, R197). -/
def State.allotted (s : State) : Nat :=
  (filRings.map fun r => match (s.ring r).next with | some (_, a) => max a (s.ring r).allot | none => (s.ring r).allot).sum

/-- Consumers of a channel: the Time Core on FIL24-FIL63, engines and bezels (R181). -/
def State.consumers (s : State) (c : Nat) : Nat := (s.ring c).readers.length + (if 24 ≤ c then 1 else 0)

/-- A consumer has a place in a ring. -/
def FilRing.reader (r : FilRing) (u : FilUser) : Option FilReader := r.readers.find? fun x => x.user = u

/-- A consumer joins at the next record to be written (R181). -/
def State.join (s : State) (c : Nat) (u : FilUser) : State :=
  if ((s.ring c).reader u).isSome then s else s.onRing c fun r => { r with readers := r.readers ++ [{ user := u, pos := r.put }] }

/-- A consumer leaves. -/
def State.leave (s : State) (c : Nat) (u : FilUser) : State :=
  s.onRing c fun r => ({ r with readers := r.readers.filter fun (x : FilReader) => x.user != u }).free

/-- A consumer moves to a place in its ring. -/
def State.moveReader (s : State) (c : Nat) (u : FilUser) (pos : Nat) : State :=
  s.onRing c fun r => ({ r with readers := r.readers.map fun (x : FilReader) => if x.user = u then { x with pos := pos } else x }).free

/-- The records a consumer has not read. -/
def FilRing.unread (r : FilRing) (u : FilUser) : List StampRec :=
  match r.reader u with
  | none => []
  | some x => r.recs.drop (x.pos - r.base)

/-- The layout of a stamp record (R201). -/
def stampLayout (x : StampRec) : Rec :=
  let t := etwRec (etwOfUnits x.time)
  (if x.isDiff then [(64, x.diff), fld 64 (Rec.value t / 2 ^ 64)] else t) ++
  [fld 6 x.ch, bit x.isDiff, rsv 1, bit x.raw.interp, bit x.raw.falling, bit x.ovf, bit x.raw.gap, bit x.raw.mid, bit x.tslew, rsv 2,
   fld 12 x.raw.fine, rsv 4, fld 24 x.raw.coarse, rsv 8, fld 32 x.raw.seq]
  ++ (if x.isDiff then [(32, x.diff)] else [fld 32 x.raw.edges])

/-! ### Loopback channels (R182) -/

/-- The default output of a loopback channel (R182). -/
def loopDefault (c : Nat) : Nat := if c < 48 then 32 + (c - 40) else if c < 52 then 40 + (c - 48) else c - 52

/-- The output a loopback channel is assigned to. -/
def State.loopTarget (s : State) (c : Nat) : Nat := s.fil.loopOut.look (loopDefault c) c

/-- The loopback channel of an output, if it has one. -/
def State.loopbackOf (s : State) (key : Nat) : Option Nat := ((List.range 24).map (40 + ·)).find? fun c => s.loopTarget c = key

/-- The channel of an output is in service: it has one that is not OUT (R182, R189). -/
def State.loopbackIn (s : State) (key : Nat) : Bool :=
  match s.loopbackOf key with
  | none => false
  | some c => (s.chan c).interp.st != .out

end Sys2Proof.Machine
end

