-- ==== Sys2Proof/Machine/OutOps.lean ====
section
/-! DEFINITION. Output loops, drivers and alignment states (R208-R222), the output terms of a bound (R80), and whether the
claim-gated outputs are in order (R417). -/

namespace Sys2Proof.Machine

/-- A loop; a disabled loop at the defaults of R208. -/
def State.loop (s : State) (l : Nat) : OutLoop := s.out.loops.look {} l
def State.onLoop (s : State) (l : Nat) (f : OutLoop → OutLoop) : State := s.onOut fun x => { x with loops := x.loops.upd {} l f }

/-- KIND and INDEX of an output's place (inverse of `outKey`). -/
def kindOf (key : Nat) : Nat := if key < 32 then 0 else if key < 40 then 1 else 2
def indexOf (key : Nat) : Nat := if key < 32 then key else if key < 40 then key - 32 else key - 40

/-- The default of an output (R211). -/
def pinDefault (key : Nat) : OutPin :=
  { cfg := { kind := kindOf key, index := indexOf key, d := 64, rate := 1, width := 100000, scale := 1 } }

/-- An output by its place; every output. -/
def State.pin (s : State) (key : Nat) : OutPin := s.out.pins.look (pinDefault key) key
def State.onPin (s : State) (key : Nat) (f : OutPin → OutPin) : State := s.onOut fun x => { x with pins := x.pins.upd (pinDefault key) key f }
def outKeys : List Nat := List.range 44

/-- POINT of an output's place (R72). -/
def pointOfKey (key : Nat) : Nat := outPoint (kindOf key) (indexOf key)

/-- Time-bearing outputs: every PPSO, every TCO, every CKO in ALIGNED mode (R210). -/
def timeBearing (c : OutputArgs) : Bool := c.kind != 0 || c.mode = 1

/-- Enabled. -/
def OutPin.on (o : OutPin) : Bool := o.cfg.enable = 1

/-- A CKO owned by the GBB as the front-end reference of an enabled stream (R111, R206). -/
def State.gbbCko (s : State) (key : Nat) : Bool := s.gnss.streams.any fun p => p.2.cfg.enable = 1 && p.2.cfg.cko = key && decide (key < 32)

/-- Loop states that let an output run (R209). -/
def loopAllows (st : LoopState) (tb : Bool) : Bool := st = .locked || (st = .holdover && !tb)

/-- The claim condition of R213: with pairing OFF it holds. -/
def State.claimHolds (s : State) : Bool := s.clasp.st = .off || s.clasp.wires

/-- A cause other than the claim disables the output's driver (R213). -/
def State.pinHeld (s : State) (o : OutPin) : Bool :=
  !o.on || !loopAllows (s.loop o.cfg.loop).st (timeBearing o.cfg) || (timeBearing o.cfg && s.squelched)

/-- The driver of an output is enabled (R213). -/
def State.driverOn (s : State) (key : Nat) : Bool :=
  let o := s.pin key
  !s.pinHeld o && s.claimHolds && o.gen

/-- An output after a change of what enables its driver (R213, R214, R218, R221): a generator that any cause other than the claim
stops waits for its release; an output that is not time-bearing runs when nothing holds it; a pending OFFSET change of an output that
stops takes effect. -/
def State.followPin (s : State) (key : Nat) : State :=
  let o := s.pin key
  let held := s.pinHeld o
  let tb := timeBearing o.cfg
  let gen := if tb then o.gen && !held else !held
  let st : AlignState :=
    if !tb || !o.on then .off
    else if !gen || !s.claimHolds then .squelched
    else if o.rem = 0 then .aligned else .slewing
  let o1 : OutPin := if gen then { o with gen := gen, st := st }
    else { o with gen := gen, st := st, rem := 0, cfg := (match o.next with | some (f, _) => { o.cfg with offset := f } | none => o.cfg),
                  next := none }
  let s1 := if o1 = o then s else s.onPin key fun _ => o1
  if o1.st = o.st then s1 else s1.hallDue [pointOfKey key]

/-- Every output after such a change. -/
def State.followPins (s : State) : State := outKeys.foldl State.followPin s

/-- The FITNESS 8 row of R417: an enabled loop that carries an enabled time-bearing output is not LOCKED, or such an output's loopback
channel is OUT. -/
def State.claimLoopTrouble (s : State) : Bool :=
  outKeys.any fun k =>
    let o := s.pin k
    o.on && timeBearing o.cfg &&
      (((s.loop o.cfg.loop).en && (s.loop o.cfg.loop).st != .locked) ||
       (match s.loopbackOf k with | some c => (s.chan c).interp.st = .out | none => false))

/-! ### Loops (R209) -/

/-- The time clock is good: MOSC is declared good. -/
def State.timeClockGood (s : State) : Bool := s.pwr.moscGood && !s.pwr.moscLost

/-- A loop enters a state; its outputs follow. -/
def State.setLoop (s : State) (l : Nat) (st : LoopState) : State :=
  if (s.loop l).st = st then s else (s.onLoop l fun x => { x with st := st }).followPins

/-- A loop goes LOST with its event: cause 1 DCO error pin, which also asserts REPLACE_N and degrades `sys.health`; 2 a range limit;
3 not LOCKED within 100 ms (R209, R486). An entry to LOST is counted (R539). -/
def State.loseLoop (s : State) (l cause : Nat) : State :=
  let s0 := if (s.loop l).st = .lost then s else s.onLoop l fun x => { x with cnt := x.cnt.upd 0 1 (· + 1) }
  let s1 := (s0.setLoop l .lost).raise0 0x1401 [fld 8 l, fld 8 cause]
  if cause = 1 then s1.addCause (0x0200 + l) else s1

/-- Enabled loops in FREE_RUN start when the time clock is good (R209). -/
def State.startLoops (s : State) : State :=
  (List.range 8).foldl (fun t l => if (t.loop l).en && (t.loop l).st = .freeRun && t.timeClockGood then t.setLoop l .acquiring else t) s

/-- y_o in force at present, 10^-12 (R215): the linear ramp from its start. -/
def State.loopOffset (s : State) (l : Nat) : Rat :=
  let x := s.loop l
  if !x.ramping then (x.y1 : Rat)
  else
    let el : Rat := ((s.upNs - x.rampAt : Nat) : Rat) / 1000000000
    let gone := el * (x.slope : Rat) * 1000
    let d := (x.y1 : Rat) - x.y0
    if rabs d ≤ gone then (x.y1 : Rat) else x.y0 + (if 0 < d then gone else -gone)

/-- A loop has SSC, or an offset in force or on its way (R217). -/
def State.loopMoves (s : State) (l : Nat) : Bool := (s.loop l).ssc != 0 || (s.loop l).y1 != 0 || s.loopOffset l != 0

/-- The DCO stays within 9.6 GHz to 11.2 GHz at an offset (10^-12) with the modulation (R216); f_L in 2^-16 Hz. -/
def dcoOk (fl : Nat) (y : Rat) (ssc depth : Nat) : Bool :=
  let f : Rat := (fl : Rat) / 65536 * (1 + y / 1000000000000)
  let lo : Rat := if ssc = 0 then 0 else (depth : Rat) / 10000
  let hi : Rat := if ssc = 2 then (depth : Rat) / 10000 else 0
  decide (9600000000 ≤ f * (1 - lo)) && decide (f * (1 + hi) ≤ 11200000000)

/-! ### The output term of a bound (R80, R220) -/

/-- The error last measured on an output; before the first measurement the free value (R80 states none). -/
def OutPin.lastError (o : OutPin) (key : Nat) : Rat := (o.err).getD ((Config.firstError key : Nat) : Rat)

/-- B_fil of an output point, ps: 250 without a loopback channel in service; 18 plus the error last measured; the form of R220 in an
alignment transient. -/
def State.bFil (s : State) (key : Nat) : Rat :=
  let o := s.pin key
  let moving := s.fil.moves.any fun m => s.loopTarget m.1 = key
  let base : Rat := 18 + rabs (o.lastError key)
  let e0 : Rat := rabs o.e0
  if !s.loopbackIn key then (if o.trans then 250 + o.moves else 250)
  else
    let b := if o.trans then 18 + e0 + o.moves else base
    if moving then max b 250 else b

/-- An alignment transient begins or goes on with a target change (R220). -/
def OutPin.startTrans (o : OutPin) (key : Nat) (d : Rat) : OutPin :=
  if o.trans then { o with moves := o.moves + rabs d }
  else { o with trans := true, e0 := o.lastError key, moves := rabs d }

/-- The period of an output's pulses or cycles, ps (R211). -/
def State.pinPeriod (s : State) (o : OutPin) : Rat :=
  if o.cfg.kind = 0 then 1000000000000 * (o.cfg.d : Rat) / ((s.loop o.cfg.loop).fl : Rat) * 65536
  else if o.cfg.mode = 1 then 1000000000000 / (o.cfg.rate : Rat)
  else 1000000000000

/-- A rational modulo a positive period, in [0, p). -/
def ratMod (x p : Rat) : Rat := x - p * ((x / p).floor : Rat)

/-- A rational modulo a period, the nearest to zero. -/
def ratNear (x p : Rat) : Rat :=
  let m := ratMod x p
  if p < 2 * m then m - p else m

/-- What is left to move of an output's phase, ps (R219): it moves by S_out, and stops at the target. -/
def State.pinLeft (s : State) (o : OutPin) : Rat :=
  let moved : Rat := ((o.sOut * (s.upNs - o.remAt) : Nat) : Rat) / 1000000
  if rabs o.rem ≤ moved then 0 else if 0 < o.rem then o.rem - moved else o.rem + moved

/-- The target changes by d ps (R219): SLEW leaves it to be moved together with what is left, JUMP moves at once. -/
def State.moveTarget (s : State) (key : Nat) (d : Rat) : State :=
  let o := s.pin key
  if !o.gen || !timeBearing o.cfg || d = 0 then s
  else (s.onPin key fun p => { p with rem := if p.cfg.align = 0 then s.pinLeft p + d else 0, remAt := s.upNs }).followPin key

/-- The phase an OFFSET change moves the target by, ps (R211, R219): on an ALIGNED CKO both are taken modulo the output period. -/
def State.offsetMove (s : State) (o : OutPin) (f : Int) : Rat :=
  if o.cfg.kind = 0 then ratMod (f : Rat) (s.pinPeriod o) - ratMod (o.cfg.offset : Rat) (s.pinPeriod o) else ((f - o.cfg.offset : Int) : Rat)

/-- The OFFSET change of an output takes effect where it is due and covered (R220). -/
def State.offsetEffect (s : State) (key : Nat) : State :=
  let o := s.pin key
  match o.next with
  | none => s
  | some (f, due) =>
    match o.cover with
    | none => s
    | some c =>
      if s.sec < max due c then s
      else (s.onPin key fun p => { p with cfg := { p.cfg with offset := f }, next := none, cover := none }).moveTarget key (s.offsetMove o f)

/-- An OFFSET change that still waits at a step waits for the first top of the second at least 2 ms after it (R69, R220). -/
def OutPin.putOff (o : OutPin) (top : Nat) : OutPin :=
  { o with next := o.next.map fun (e : Int × Nat) => (e.1, top), cover := o.cover.map fun _ => top }

/-- A step of the MTC by d ps (R219, R220, R222): the offset is a target change of every running time-bearing output, together with an
OFFSET change due at the same second. -/
def State.stepPins (s : State) (d : Rat) : State :=
  outKeys.foldl (fun t k =>
    let o := t.pin k
    if o.gen && timeBearing o.cfg && d != 0 then (t.onPin k fun p => p.startTrans k d).moveTarget k d else t)
    (s.onOut fun x => { x with pins := x.pins.mapAll fun _ (p : OutPin) => { p with pulse := p.pulse.map fun t => ((t : Int) + roundHalf (d * 1048576 / 1000)).toNat } })

end Sys2Proof.Machine
end

