-- ==== Sys2Proof/Machine/LaOps.lean ====
section
/-! DEFINITION. Taps, models, the LA term and slots of the Line-Angle Engine (chapter 08). -/

namespace Sys2Proof.Machine

/-- A tap (0-7 TAP, 8-15 VTAP) and a slot. -/
def State.tap (s : State) (t : Nat) : LaTap := s.la.taps.look {} t
def State.onTap (s : State) (t : Nat) (f : LaTap → LaTap) : State := s.onLa fun x => { x with taps := x.taps.upd {} t f }
def State.slot (s : State) (n : Nat) : LaSlot := s.la.slots.look {} n
def State.onSlot (s : State) (n : Nat) (f : LaSlot → LaSlot) : State := s.onLa fun x => { x with slots := x.slots.upd {} n f }
def State.countTap (s : State) (t k : Nat) : State := s.onTap t fun x => { x with cnt := x.cnt.upd 0 k (· + 1) }
def State.countSlot (s : State) (n k : Nat) : State := s.onSlot n fun x => { x with cnt := x.cnt.upd 0 k (· + 1) }

/-- Slots ES00-ES31. -/
def laSlots : List Nat := List.range 32

/-- The POINT of a tap's LA point (R72). -/
def laPoint (t : Nat) : Nat := 0x180 + t

/-- Nominal frequency, Hz; a quarter nominal cycle in 2^-20 ns, rounded down (R240). -/
def LaTap.nominal (t : LaTap) : Nat := if t.cfg.nominal = 0 then 50 else 60
def LaTap.quarter (t : LaTap) : Nat := unitsPerSec / (4 * t.nominal)

/-- Seconds between two instants in 2^-20 ns. -/
def secondsFrom (a b : Nat) : Rat := (((b : Int) - (a : Int) : Int) : Rat) / (unitsPerSec : Rat)

/-- The angle at an instant in turns, not reduced (R244). -/
def LaModel.turns (m : LaModel) (t : Nat) : Rat :=
  let h := secondsFrom m.at_ t
  (m.angle : Rat) / (2 ^ 32 : Rat) + m.f * h + m.r * h * h / 2

/-- Turns as a 32-bit angle. -/
def angleOf (x : Rat) : Nat := wrapU 32 (roundHalf (x * (2 ^ 32 : Rat)))

/-- Turns as a signed difference in 2^-32 turn, in [-1/2, 1/2) turn. -/
def angleDiff (x : Rat) : Int :=
  let d := angleOf x
  if d < 2 ^ 31 then d else (d : Int) - 2 ^ 32

/-- Frequency and ROCOF continued to an instant (R244). -/
def LaModel.freqAt (m : LaModel) (t : Nat) : Rat := m.f + m.r * secondsFrom m.at_ t

/-! ### The LA term (R245) -/

/-- T_gap, ps (R245). -/
def LaTap.gap (t : LaTap) (m : LaModel) (now : Nat) : Rat :=
  let g := secondsFrom t.lastValid now + 1 / (4 * (t.nominal : Rat))
  (49 / 10 * m.sigF * g + (t.cfg.rLim : Rat) / 100 * g * g / 2) / m.f * 1000000000000

/-- B_LA in ps (R245); none where unbounded. -/
def State.bLa (s : State) (n : Nat) : Option Nat :=
  let t := s.tap n
  match t.model with
  | none => none
  | some m =>
    if t.st = .track || t.st = .predict then
      some (49 / 10 * m.sigPhi / m.f * 1000000000000 + (t.cfg.uTap : Rat) + 500000 + 200000 * rabs m.r
        + (if t.st = .predict then t.gap m s.tc.mtc.units else 0)).ceil.toNat
    else none

/-! ### Tap states and records (R242, R246) -/

/-- A tap enters a state; a record for its point is due, and its products wait for it (R81, R246). -/
def State.setTap (s : State) (n : Nat) (st : TapState) : State :=
  if (s.tap n).st = st then s else (s.onTap n fun t => { t with st := st, await := true }).hallDue [laPoint n]

/-- How many records of a tap are kept for `la.read_estimates`. -/
def laKeep : Nat := 256

/-- Records are delivered with the HSEQ of the record in force, to `la.read_estimates` and to the tap's host streams (R253). -/
def State.deliver (s : State) (n : Nat) (l : List LaRecord) : State :=
  let hseq := (s.hall.recs.look { point := laPoint n } (laPoint n)).seq
  let new := l.map fun (x : LaRecord) => { x with hseq := hseq }
  (s.onTap n fun t => { t with recs := (t.recs ++ new).drop ((t.recs ++ new).length - laKeep) }).onLa fun x => { x with
    streams := x.streams.map fun (y : LaStream) => if y.tap = n then { y with recs := y.recs ++ new } else y }

/-- A record is produced (R246): it waits while the record of a new state does. -/
def State.emitLa (s : State) (n : Nat) (x : LaRecord) : State :=
  let y : LaRecord := { x with eseq := (s.tap n).eseq }
  let s1 := s.onTap n fun t => { t with eseq := (t.eseq + 1) % 2 ^ 32 }
  if (s.tap n).await then s1.onTap n fun t => { t with held := t.held ++ [y] } else s1.deliver n [y]

/-! ### Slots (R247-R250) -/

/-- TARGET of a slot that pulses a pin, as the pin's place. -/
def pulseKey (target : Nat) : Nat := if target / 256 = 1 then 32 + target % 256 else 40 + target % 256

/-- A pin handed to the LAE: a slot in use pulses it (R206, R249). -/
def State.laePin (s : State) (key : Nat) : Bool :=
  laSlots.any fun n => (s.slot n).st != .free && (s.slot n).cfg.action = 0 && pulseKey (s.slot n).cfg.target = key

/-- An ARM slot names the channel (R249). -/
def State.armNamed (s : State) (ch : Nat) : Bool :=
  laSlots.any fun n => (s.slot n).cfg.action = 2 && (s.slot n).cfg.target = ch && (s.slot n).st != .free || (match (s.slot n).window with | some w => w.2 = ch | none => false)

/-- A window of some ARM slot is open on the channel: overlapping windows form their union (R249, R250). -/
def State.armOpen (s : State) (ch : Nat) : Bool :=
  laSlots.any fun n => match (s.slot n).window with | some w => w.2 = ch | none => false

/-- The greatest n below 2^bits for which p holds, p holding up to some n. -/
def lastWhere (p : Nat → Bool) (bits : Nat) : Nat :=
  (List.range bits).foldl (fun n i => if p (n + 2 ^ (bits - 1 - i)) then n + 2 ^ (bits - 1 - i) else n) 0

/-- Time from an estimate to the instant at which f h + r h^2 / 2 first reaches phi turns, 2^-20 ns (R248): while the frequency falls the angle grows up to
h = f / -r only. -/
def crossUnits (f r phi : Rat) : Nat :=
  lastWhere (fun n =>
    let x : Rat := (n : Rat) / (unitsPerSec : Rat)
    decide (0 ≤ f + r * x) && decide (f * x + r * x * x / 2 ≤ phi)) 56

/-- The start of the time-clock cycle nearest to an instant, counted from that of the cycle in progress (R248), 2^-20 ns. -/
def cycleNear (now t : Nat) : Nat :=
  let k : Int := roundHalf (((t : Int) - (now : Int) : Int) * 5 / (8388608 : Rat))
  ((now : Int) + roundHalf ((k : Rat) * 8388608 / 5)).toNat

/-- The next crossing of an angle (2^-32 turn) after an instant (R248), 2^-20 ns, to the nearest time-clock cycle. -/
def LaModel.crossing (m : LaModel) (now angle after : Nat) : Nat :=
  let cur := m.turns after
  let d := (angle : Rat) / (2 ^ 32 : Rat) - cur
  let phi := cur + (d - (d.floor : Rat)) - (m.angle : Rat) / (2 ^ 32 : Rat)
  cycleNear now (m.at_ + crossUnits m.f m.r phi)

/-- A slot after a crossing that was used or skipped: a slot that fires once is free, a repeating one goes on (R247, R248). -/
def LaSlot.advance (x : LaSlot) (te : Nat) (f : Rat) : LaSlot :=
  if x.cfg.rept = 0 then { x with st := .free }
  else { x with st := .armed, after := te + (((x.cfg.rept : Rat) - 1 / 2) / f * (unitsPerSec : Rat)).floor.toNat }

/-- A slot at an estimate record of its tap (R247, R248): no crossing before its TAI start counts. -/
def State.slotAt (s : State) (n : Nat) (m : LaModel) (st : TapState) (quarter : Nat) : State :=
  let x := s.slot n
  let now := s.tc.mtc.units
  let after := max x.after (x.cfg.start * unitsPerSec)
  if x.st != .armed || now + unitsPerSec < after then s
  else
    let te := m.crossing now x.cfg.angle after
    let lead : Int := (te : Int) - (now : Int)
    if x.cfg.expiry != 0 && decide (x.cfg.expiry * unitsPerSec ≤ te) then s.onSlot n fun y => { y with st := .free }
    else if lead < 20000 * 1048576 then
      (s.countSlot n 0).onSlot n fun y => { y with after := te + (1 / 2 / m.f * (unitsPerSec : Rat)).floor.toNat }
    else if (quarter : Int) + 500000 * 1048576 < lead then s
    else if st != .track && x.cfg.policy = 0 then (s.countSlot n 1).onSlot n fun y => y.advance te m.f
    else s.onSlot n fun y => { y with st := .committed, te := te, bound := (s.tap x.cfg.tap).bPub }

/-- The check of one fired event of a slot at the first estimate after it (R252). -/
def State.checkOne (n : Nat) (m : LaModel) (s : State) (x : FiredEvent) : State :=
  let d := angleDiff (m.turns x.te - (x.angle : Rat) / (2 ^ 32 : Rat))
  let ps := rabs ((d : Rat) / (2 ^ 32 : Rat) / m.f * 1000000000000)
  let miss := match x.bound with | some v => decide ((v : Rat) < ps) | none => false
  let s1 := s.onSlot n fun y => { y with diff := d, miss := miss }
  if miss then (s1.countSlot n 5).logPartner 0x1680 n else s1

/-- The events of a slot that fired on a tap are checked (R252). -/
def State.checkFired (s : State) (tap n : Nat) (m : LaModel) : State :=
  (((s.slot n).fired.filter fun x => x.tap = tap).foldl (State.checkOne n m) s).onSlot n fun y => { y with fired := y.fired.filter fun x => x.tap != tap }

/-- The armed slots of a tap meet its estimate (R246, R248): none is committed while the record of a new state is awaited. -/
def State.slotsAt (s : State) (n : Nat) : State :=
  let t := s.tap n
  match t.model with
  | none => s
  | some m =>
    if t.await then s
    else (laSlots.filter fun k => (s.slot k).cfg.tap = n).foldl (fun u k => u.slotAt k m t.st t.quarter) s

/-- The record of a tap's point has been published (R81, R246, R252): its B_LA is that of the record in force; what waited for it is delivered, and
slots that could not be committed meanwhile are. -/
def State.releaseLa (s : State) (n : Nat) : State :=
  let s1 := s.onTap n fun t => { t with bPub := s.bLa n }
  if (s.tap n).await then (((s1.onTap n fun t => { t with held := [], await := false }).deliver n (s.tap n).held).slotsAt n) else s1

end Sys2Proof.Machine
end

