-- ==== Sys2Proof/Machine/TmOps.lean ====
section
/-! DEFINITION. The traffic manager's operations (chapter 12): packet-clock time, meters, shapers, cells, service queues and
their deficit round robin, and the write-back of descriptors (R290-R294). -/

namespace Sys2Proof.Machine

/-! ### Packet-clock time and line rates -/

/-- Packet-clock cycles in a second. -/
def packetHz : Nat := 1200000000

/-- Packet-clock cycles since the counter started: both clocks come from one oscillator, 1.2 GHz to 625 MHz. -/
def State.pcyc (s : State) : Nat := s.tc.mtc.cyc * 48 / 25

/-- The mode of a code (R481). -/
def PortMode.of (c : Nat) : PortMode :=
  match c with
  | 1 => .g25 | 2 => .g10 | 3 => .x1000 | 4 => .sgmii1000 | 5 => .sgmii100 | 6 => .sgmii10 | _ => .off

/-- The code of a mode (R481). -/
def PortMode.code : PortMode → Nat
  | .off => 0 | .g25 => 1 | .g10 => 2 | .x1000 => 3 | .sgmii1000 => 4 | .sgmii100 => 5 | .sgmii10 => 6

/-- The lane rate in kb/s (R256). -/
def PortMode.lane : PortMode → Nat
  | .off => 0 | .g25 => 25781250 | .g10 => 10312500 | .x1000 => 1250000 | .sgmii1000 => 1250000 | .sgmii100 => 1250000 | .sgmii10 => 1250000

/-- The data rate in bytes/s (R267, R383). -/
def PortMode.rate : PortMode → Nat
  | .off => 0 | .g25 => 3125000000 | .g10 => 1250000000 | .x1000 => 125000000 | .sgmii1000 => 125000000 | .sgmii100 => 12500000 | .sgmii10 => 1250000

/-- A port, a ring. -/
def State.port (s : State) (p : Nat) : PortSt := s.ports.ports.look {} p
def State.onPort (s : State) (p : Nat) (f : PortSt → PortSt) : State := s.onPorts fun x => { x with ports := x.ports.upd {} p f }
def State.pring (s : State) (hd : Nat) : Option PortRing := (s.ports.rings.find? fun x => x.1 = hd).map (·.2)
def State.onPring (s : State) (hd : Nat) (f : PortRing → PortRing) : State :=
  s.onPorts fun x => { x with rings := x.rings.map fun (q : Nat × PortRing) => if q.1 = hd then (q.1, f q.2) else q }

/-- The line rate of a port. -/
def State.line (s : State) (p : Nat) : Nat := (s.port p).mode.rate

/-! ### Three-colour meters (R374-R376) -/

/-- Brings the buckets to a packet-clock cycle (R375): SRTCM fills the committed bucket first and then the excess bucket. -/
def Meter.fill (m : Meter) (now : Nat) : Meter :=
  let dt := now - m.at_
  if m.mode = 1 then
    let inc := dt * m.cir
    let a := min inc (m.cbs * packetHz - m.tc)
    let b := min (inc - a) (m.ebs * packetHz - m.te)
    { m with tc := m.tc + a, te := m.te + b, at_ := now, credited := m.credited + inc, discarded := m.discarded + (inc - a - b) }
  else if m.mode = 2 then
    let a := min (dt * m.cir) (m.cbs * packetHz - m.tc)
    let b := min (dt * m.pir) (m.ebs * packetHz - m.te)
    { m with tc := m.tc + a, te := m.te + b, at_ := now,
             credited := m.credited + dt * m.cir + dt * m.pir, discarded := m.discarded + (dt * m.cir - a) + (dt * m.pir - b) }
  else { m with at_ := now }

/-- The colour a meter gives a frame of n tokens that comes with colour `pre` (R374, R376; RFC 2697, RFC 2698). -/
def Meter.colour (m : Meter) (pre : Colour) (n : Nat) : Colour × Meter :=
  let u := n * packetHz
  if m.mode = 0 then (.green, m)
  else if m.mode = 1 then
    if pre = .green && decide (u ≤ m.tc) then (.green, { m with tc := m.tc - u, spent := m.spent + u })
    else if pre != .red && decide (u ≤ m.te) then (.yellow, { m with te := m.te - u, spent := m.spent + u })
    else (.red, m)
  else if pre = .red || decide (m.te < u) then (.red, m)
  else if pre = .yellow || decide (m.tc < u) then (.yellow, { m with te := m.te - u, spent := m.spent + u })
  else (.green, { m with tc := m.tc - u, te := m.te - u, spent := m.spent + 2 * u })

/-- A meter: KIND 0 bezel, 1 subscriber, 2 service (R374). -/
def State.meter (s : State) (kind i : Nat) : Meter :=
  if kind = 0 then s.tm.bezMeters.look {} i else if kind = 1 then s.tm.subMeters.look {} i else s.tm.svcMeters.look {} i
def State.onMeter (s : State) (kind i : Nat) (f : Meter → Meter) : State :=
  s.onTm fun x =>
    if kind = 0 then { x with bezMeters := x.bezMeters.upd {} i f }
    else if kind = 1 then { x with subMeters := x.subMeters.upd {} i f }
    else { x with svcMeters := x.svcMeters.upd {} i f }

/-- A frame of `len` octets meets a meter (R376); the colours it gives are counted against the bezel (R538). -/
def State.meet (s : State) (kind i b : Nat) (pre : Colour) (len : Nat) : Colour × State :=
  let m := (s.meter kind i).fill s.pcyc
  let (c, m2) := m.colour pre (if m.packets then 1 else len)
  let s1 := if m.mode = 0 then s else s.onMeter kind i fun _ => m2
  (c, match c with
    | .green => s1
    | .yellow => s1.countBezel b (2 + 2 * kind)
    | .red => s1.countBezel b (3 + 2 * kind))

/-! ### Packet-buffer cells (R378-R380) -/

/-- A bezel's quota of grants (0), pool slots (1) or rules (2): BZ00 has all that is not given to tenants (R400). -/
def State.quota (s : State) (k b : Nat) : Nat :=
  let of := fun (z : BezelRow) => if k = 0 then z.grants else if k = 1 then z.poolSlots else z.rules
  let all := if k = 0 then 1048576 else if k = 1 then 3776 else 16384
  if b = 0 then all - (s.bez.rows.map fun q => if q.1 != 0 && q.2.present then of q.2 else 0).sum else of (s.bezel b)

/-- A bezel's subscribers (R400). -/
def State.ownsSub (s : State) (b sub : Nat) : Bool :=
  (s.bezel b).present && decide ((s.bezel b).subBase ≤ sub) && decide (sub < (s.bezel b).subBase + (s.bezel b).subCount)

/-- Cells of a frame (R378). -/
def cellsOf (len : Nat) : Nat := (len + 255) / 256

/-- A bezel's cells. -/
def State.tmBez (s : State) (b : Nat) : TmBezel := s.tm.bezels.look {} b
def State.onTmBez (s : State) (b : Nat) (f : TmBezel → TmBezel) : State := s.onTm fun x => { x with bezels := x.bezels.upd {} b f }

/-- Shared cells a bezel uses: what it holds above its reservation (R379, R380). -/
def TmBezel.shared (x : TmBezel) : Nat := x.held - x.reserve

/-- Cells of the shared pool, and those in use (R379). -/
def State.poolSize (s : State) : Nat := 65536 - (s.tm.bezels.map fun p => p.2.reserve).sum
def State.poolUsed (s : State) : Nat := (s.tm.bezels.map fun p => p.2.shared).sum

/-- Cells of all bezels in use. -/
def State.cellsHeld (s : State) : Nat := (s.tm.bezels.map fun p => p.2.held).sum

/-- A bezel can take n cells (R380). No cell exists beyond the 65,536: a reservation that was raised while the pool it came from was in use is free
only as those cells are (DEDUCED, assumption 156). -/
def State.canTake (s : State) (b n : Nat) : Bool :=
  let x := s.tmBez b
  let after := x.held + n - x.reserve
  decide (s.cellsHeld + n ≤ 65536) && (decide (after ≤ x.shared) || (decide (after ≤ x.cap) && decide (s.poolUsed - x.shared + after ≤ s.poolSize)))

/-- Cells are taken and freed. -/
def State.takeCells (s : State) (b n : Nat) : State := s.onTmBez b fun x => { x with held := x.held + n }
def State.freeCells (s : State) (b n : Nat) : State := s.onTmBez b fun x => { x with held := x.held - n }

/-! ### Credit shapers (R383) -/

/-- Brings a shaper of rate r to a packet-clock cycle (R383). -/
def Shaper.run (x : Shaper) (r now : Nat) : Shaper :=
  let dt := now - x.at_
  if r = 0 then { x with credit := 0, at_ := now, cut := x.cut + x.credit }
  else
    match x.phase with
    | .sending line =>
      let raw : Int := x.credit + (dt : Int) * ((r : Int) - (line : Int))
      let c := max raw (min x.credit (x.low * packetHz))
      { x with credit := c, at_ := now, accrued := x.accrued + dt * r, sent := x.sent + dt * line, cut := x.cut + (raw - c) }
    | .waiting =>
      let raw : Int := x.credit + (dt * r : Nat)
      let c := min raw ((x.high * packetHz : Nat) : Int)
      { x with credit := c, at_ := now, accrued := x.accrued + dt * r, cut := x.cut + (raw - c) }
    | .idle =>
      if 0 ≤ x.credit then { x with credit := 0, at_ := now, zeroed := x.zeroed + x.credit.toNat }
      else
        let c := min 0 (x.credit + ((dt * r : Nat) : Int))
        { x with credit := c, at_ := now, accrued := x.accrued + (c - x.credit).toNat }

/-- A shaper: KIND 0 subscriber, 1 service queue (port * 8 + class), 2 port (R383). -/
def State.shaper (s : State) (kind i : Nat) : Shaper :=
  if kind = 0 then s.tm.subShapers.look {} i else if kind = 1 then s.tm.svcShapers.look {} i else s.tm.portShapers.look {} i
def State.onShaper (s : State) (kind i : Nat) (f : Shaper → Shaper) : State :=
  s.onTm fun x =>
    if kind = 0 then { x with subShapers := x.subShapers.upd {} i f }
    else if kind = 1 then { x with svcShapers := x.svcShapers.upd {} i f }
    else { x with portShapers := x.portShapers.upd {} i f }

/-- The rate a shaper runs at: a port shaper that is not set runs at its line rate (R383). -/
def State.shaperRate (s : State) (kind i : Nat) : Nat :=
  let x := s.shaper kind i
  if kind = 2 && !x.set then s.line i else x.rate

/-- The credit of a shaper now. -/
def State.credit (s : State) (kind i : Nat) : Int := ((s.shaper kind i).run (s.shaperRate kind i) s.pcyc).credit

/-- An entity of a shaper starts to wait, to be sent or to rest. -/
def State.setPhase (s : State) (kind i : Nat) (ph : ShaperPhase) : State :=
  let x := s.shaper kind i
  if x.phase = ph then s
  else s.onShaper kind i fun _ => { x.run (s.shaperRate kind i) s.pcyc with phase := ph }

/-! ### Service queues (R381, R382, R384) -/

/-- A service queue. -/
def State.svcQ (s : State) (p c : Nat) : SvcQueue := s.tm.queues.look {} (p * 8 + c)
def State.onSvcQ (s : State) (p c : Nat) (f : SvcQueue → SvcQueue) : State := s.onTm fun x => { x with queues := x.queues.upd {} (p * 8 + c) f }

/-- Frames and cells of a queue. -/
def SvcQueue.frames (q : SvcQueue) : List TxFrame := q.flows.flatMap (·.frames)
def SvcQueue.cells (q : SvcQueue) : Nat := (q.frames.map fun f => cellsOf f.len).sum
def SvcQueue.threshold (q : SvcQueue) : Nat := q.yellow.getD (q.limit / 2)

/-- Classes of a port, highest first (R384). -/
def classesDown : List Nat := [7, 6, 5, 4, 3, 2, 1, 0]

/-- Frames of a subscriber wait somewhere. -/
def State.subWaits (s : State) (sub : Nat) : Bool :=
  s.tm.queues.any fun q => q.2.flows.any fun (x : Flow) => x.sub = sub && !x.frames.isEmpty

/-- Frames wait on a port. -/
def State.portWaits (s : State) (p : Nat) : Bool := classesDown.any fun c => !(s.svcQ p c).frames.isEmpty

/-- The phases of the three shapers of a frame follow what waits and what is on the wire (R383). -/
def State.followShapers (s : State) (p : Nat) (f : TxFrame) : State :=
  let wire := (s.port p).wire
  let line := s.line p
  let subSends := match s.ports.ports.find? (fun x => match x.2.wire with | some w => w.sub = f.sub | none => false) with
    | some x => some (x.2.mode.rate) | none => none
  let ph := fun (sends : Option Nat) (waits : Bool) => match sends with
    | some r => ShaperPhase.sending r | none => if waits then .waiting else .idle
  let clsSends := match wire with | some w => if w.cls = f.cls then some line else none | none => none
  let portSends := match wire with | some _ => some line | none => none
  ((s.setPhase 0 f.sub (ph subSends (s.subWaits f.sub))).setPhase 1 (p * 8 + f.cls) (ph clsSends (!(s.svcQ p f.cls).frames.isEmpty))).setPhase
    2 p (ph portSends (s.portWaits p))

/-- Flows of the device (R381). -/
def State.flowCount (s : State) : Nat := (s.tm.queues.map fun q => (q.2.flows.filter fun (x : Flow) => !x.frames.isEmpty).length).sum

/-- A frame joins the flow of its subscriber at the end, or a new flow at the end of the round. -/
def SvcQueue.push (q : SvcQueue) (f : TxFrame) : SvcQueue :=
  if q.flows.any fun (x : Flow) => x.sub = f.sub then
    { q with flows := q.flows.map fun (x : Flow) => if x.sub = f.sub then { x with frames := x.frames ++ [f] } else x }
  else { q with flows := q.flows ++ [{ sub := f.sub, frames := [f] }] }

/-- Why a frame is not admitted to its service queue, as the counter of the bezel's bank (R380-R382, R538). -/
def State.refusal (s : State) (p : Nat) (f : TxFrame) : Option Nat :=
  let q := s.svcQ p f.cls
  let n := q.cells + cellsOf f.len
  if decide (q.limit < n) || (f.colour = .yellow && decide (q.threshold < n)) then some 9
  else if !(q.flows.any fun (x : Flow) => x.sub = f.sub) && decide (262144 ≤ s.flowCount) then some 10
  else if !s.canTake f.bezel (cellsOf f.len) then some 8
  else none

/-! ### Descriptor write-back (R290-R294) -/

/-- Results that are next in ring order are written back (R294). -/
def PortRing.flush (r : PortRing) (fuel : Nat) : PortRing :=
  match fuel with
  | 0 => r
  | k + 1 =>
    match r.late.find? (fun x => x.1 = r.done) with
    | none => r
    | some (_, b) =>
      let all := r.back ++ [{ b with phase := r.done / 2 ^ r.n % 2 = 0 }]
      PortRing.flush { r with late := r.late.filter (fun x => x.1 != r.done), done := r.done + 1, back := all.drop (all.length - 2 ^ r.n) } k

/-- A descriptor's result is known; write-backs follow in ring order and are announced (R290, R294, R466); a frozen queue writes nothing back (R45). -/
def State.backDesc (s : State) (hd place : Nat) (b : DescBack) : State :=
  match s.pring hd with
  | none => s
  | some r =>
    let r0 := { r with late := r.late ++ [(place, b)] }
    let r1 := if s.masterFrozen r.owner 1 hd then r0 else r0.flush r0.late.length
    let s1 := s.onPring hd fun _ => r1
    if r1.done = r.done then s1 else s1.announce r.owner r.vector

/-- The descriptor of a frame, if it has one, is written back without a stamp. -/
def State.backFrame (s : State) (f : TxFrame) (status : Nat) : State :=
  match f.desc with
  | none => s
  | some (hd, place) => s.backDesc hd place { status := status, attempts := max 1 f.attempts, cookie := f.cookie }

/-- A frame is handed to its service queue, or dropped and counted, a host-ring frame then being written back as DROPPED
(R380-R382). -/
def State.enqueue (s : State) (p : Nat) (f : TxFrame) : State :=
  match s.refusal p f with
  | some c => (s.countBezel f.bezel c).backFrame f 5
  | none =>
    let g : TxFrame := { f with at_ := s.pcyc }
    ((s.takeCells f.bezel (cellsOf f.len)).onSvcQ p f.cls fun q => q.push g).followShapers p g

/-- A frame leaves the block's keeping: its cells are freed. -/
def State.dropFrame (s : State) (f : TxFrame) : State := s.freeCells f.bezel (cellsOf f.len)

/-! ### Deficit round robin (R384) -/

/-- The quantum (R384). -/
def drrQuantum : Nat := 2048

/-- Serves a round of flows: a flow that `pass` passes over keeps its deficit; the one whose turn it is sends while its head frame fits
its deficit. Answers the frame and the flows as they stand; `fuel` bounds the turns. -/
def drr (pass : Flow → Bool) (fuel : Nat) (flows : List Flow) : Option (TxFrame × List Flow) :=
  match fuel with
  | 0 => none
  | k + 1 =>
    match flows with
    | [] => none
    | x :: r =>
      match x.frames with
      | [] => drr pass k r
      | f :: fs =>
        if pass x then drr pass k (r ++ [x])
        else
          let d := if x.turn then x.deficit else x.deficit + drrQuantum
          if f.len ≤ d then
            some (f, if fs.isEmpty then r else { x with deficit := d - f.len, turn := true, frames := fs } :: r)
          else drr pass k (r ++ [{ x with deficit := d, turn := false }])

/-- Every queued frame of a port for which `p` holds leaves, flows that empty with it. -/
def SvcQueue.take (q : SvcQueue) (out : TxFrame → Bool) : List TxFrame × SvcQueue :=
  (q.frames.filter out, { q with flows := (q.flows.map fun (x : Flow) => { x with frames := x.frames.filter fun f => !out f }).filter fun x => !x.frames.isEmpty })

/-- Frames of a port's queues that `out` names are dropped; each is handled by `act`. -/
def State.purge (s : State) (p : Nat) (out : TxFrame → Bool) (act : TxFrame → State → State) : State :=
  classesDown.foldl (fun (t : State) c =>
    let (fs, q) := (t.svcQ p c).take out
    if fs.isEmpty then t
    else fs.foldl (fun (u : State) f => ((act f (u.dropFrame f)).followShapers p f)) (t.onSvcQ p c fun _ => q)) s

/-! ### Subscribers and issue slots -/

/-- The bezel's default subscriber (R372). -/
def State.defaultSub (s : State) (b : Nat) : Nat := (s.bezel b).subBase

/-- A rule matches an address of a kind (R373). -/
def SubRule.covers (r : SubRule) (kind addr : Nat) : Bool :=
  let w := if r.kind = 1 then 32 else if r.kind = 2 then 128 else 48
  r.kind = kind && decide (addr / 2 ^ (w - min w r.pfxLen) = r.addr / 2 ^ (w - min w r.pfxLen))

/-- The subscriber of an address: the longest matching rule, of equal lengths the lower index, else the default (R372). -/
def State.subscriberOf (s : State) (b : Nat) (addrs : List (Nat × Nat)) : Nat :=
  let l := s.tm.rules.filter fun r => r.bezel = b && addrs.any fun a => r.covers a.1 a.2
  match l.foldl (fun (o : Option SubRule) r => match o with
      | none => some r
      | some x => if x.pfxLen < r.pfxLen || (x.pfxLen = r.pfxLen && decide (r.index < x.index)) then some r else o) none with
  | some r => r.sub
  | none => s.defaultSub b

/-- The addresses of a received frame that rules can match (R373). -/
def frameSources (f : RxFrame) : List (Nat × Nat) :=
  (if f.family = 4 then [(1, f.sip)] else if f.family = 6 then [(2, f.sip)] else []) ++ [(3, f.src)]

/-- An issue slot is RETIRED or WASTED: it counts on the bezel's bank and on bank 256 (R545). -/
def State.slotRetired (s : State) (pipe b : Nat) : State :=
  let s1 := s.derive 256 2 (4 + pipe) 1
  if b = 0 then s1 else s1.derive (256 + b) 2 (4 + pipe) 1
def State.slotWasted (s : State) (b : Nat) : State :=
  let s1 := s.derive 256 2 1 1
  if b = 0 then s1 else s1.derive (256 + b) 2 1 1

end Sys2Proof.Machine
end

