-- ==== Sys2Proof/Machine/Uses.lean ====
section
/-! DEFINITION. Uses of a port, a ring or a key by other blocks. -/

namespace Sys2Proof.Machine

/-- The declared uncertainty U_A of a port, ps (R41, R285). -/
def State.portUA (s : State) (p : Nat) : Nat := (s.port p).uAsym

/-- An NREF uses the port (R97). -/
def State.nrefUses (s : State) (p : Nat) : Bool :=
  (List.range 16).any fun n => (s.nrefIn n).cfg.enable = 1 && (s.nrefIn n).cfg.port = p

/-- A VTAP uses the port (R235). -/
def State.vtapUses (s : State) (p : Nat) : Bool :=
  (List.range 8).any fun n => (s.tap (8 + n)).st != .off && (match (s.tap (8 + n)).vcfg with | some v => v.port = p | none => false)

/-- A PRP pair uses the port (R325). -/
def State.portInPrp (s : State) (p : Nat) : Bool := s.ports.prp.any fun x => x.a = p || x.b = p

/-- The Clasp uses the port (R434). -/
def State.claspUses (s : State) (p : Nat) : Bool := p ∈ s.clasp.ports

/-- An LA TX slot targets a ring of the port (R249, R402). -/
def State.laTxUses (s : State) (p : Nat) : Bool :=
  laSlots.any fun n => (s.slot n).st != .free && (s.slot n).cfg.action = 1 &&
    (match s.pring (s.slot n).cfg.target with | some r => r.port = p | none => false)

/-- Uses of a port within BZ00 (R511). -/
inductive PortUse where
  | nref | vtap | prp | clasp | laTx
  deriving DecidableEq, Repr

/-- The port has a use other than k (R511, R512). -/
def State.portUsed (s : State) (k : PortUse) (p : Nat) : Bool :=
  (k != .nref && s.nrefUses p) || (k != .vtap && s.vtapUses p) || (k != .prp && s.portInPrp p) || (k != .clasp && s.claspUses p)
    || (k != .laTx && s.laTxUses p)

/-- A ring handle names a transmit ring of a port owned by BZ00 (R249). -/
def State.operatorTxRing (s : State) (hd : Nat) : Bool :=
  match s.pring hd with
  | some r => !r.rx && s.portOwner r.port = 0
  | none => false

/-- A key slot and its owner (R347, R348). -/
def State.key (s : State) (k : Nat) : KeySlot := s.keys.slots.look {} k
def State.keyOwned (s : State) (b k : Nat) : Bool := (s.key k).st != .free && !(s.key k).locket && (s.key k).owner = b

/-- USAGE holds a bit (R348). -/
def KeySlot.may (k : KeySlot) (n : Nat) : Bool := nbit k.usage n

/-- A key's ALG and USAGE fit Annex P: MAC_GEN and MAC_VERIFY under AES-128 or HMAC-SHA-256 (R338, R340, R366). -/
def State.macKeyOk (s : State) (k : Nat) : Bool := decide ((s.key k).alg ∈ [1, 5]) && (s.key k).may 0 && (s.key k).may 1

/-- A slot is usable (R350). -/
def State.keyUsable (s : State) (k : Nat) : Bool :=
  let x := s.key k
  x.st = .valid && (x.expiry = 0 || decide (s.sec % 2 ^ 32 ≤ x.expiry)) && (x.useLimit = 0 || decide (x.useCtr < x.useLimit))

end Sys2Proof.Machine
end

