-- ==== Sys2Proof/Machine/PortOps.lean ====
section
/-! DEFINITION. A port's state machine, its facet and stamps, its rings and the start and end of a transmission
(chapter 09). -/

namespace Sys2Proof.Machine

/-- A port exists. -/
def portOk (p : Nat) : Bool := decide (p < 256)

/-- The port's link is up (R260). -/
def PortSt.linked (x : PortSt) : Bool := x.st = .up || x.st = .upUntimed

/-- Counts what the TSE drops on a port by cause; 0 malformed IP, 1 UDP or TCP port not served, 2 TRUNC, 3 PTP rows of R328 without a
service, 4 NTP without a service, 5 frames ended by a squelch, 6 ARP, neighbour or membership requests not for the port. -/
def State.countDrop (s : State) (p k : Nat) : State := s.onPort p fun x => { x with drops := x.drops.upd 0 k (· + 1) }

/-! ### The facet (R277-R284) -/

/-- A pair has its tables (R187, R279): both of a NORMAL pair, the survivor's in SINGLE. -/
def Interp.ready (p : Interp) : Bool :=
  match p.st with
  | .normal => p.tabX.isSome && p.tabY.isSome
  | .single => p.table.isSome && !p.surv
  | .out => false

/-- A pair can time now (R279): not OUT, and in SINGLE not during the survivor's own run. -/
def Interp.times (p : Interp) : Bool := p.st = .normal || (p.st = .single && !p.surv)

/-- The facet can time (R261, R279, R283, R313). -/
def PortSt.canTime (x : PortSt) : Bool := x.rxPair.times && x.txPair.times && !x.cal.out && !x.cal.diverged

/-- Picoseconds in units of 2^-20 ns, rounded half up. -/
def unitsOfPs (q : Rat) : Int := (q * 131072 / 125 + 1 / 2).floor

/-- t_rx and t_tx (R278). -/
def PortSt.rxStamp (x : PortSt) (tb : Nat) : Nat := ((tb : Int) + unitsOfPs ((x.asym : Rat) - x.cal.dRx)).toNat
def PortSt.txStamp (x : PortSt) (tb : Nat) : Nat := ((tb : Int) + unitsOfPs (x.cal.dTx + (x.asym : Rat))).toNat

/-- NS32 and FRAC of a stamp (R292). -/
def ns32Of (stamp : Nat) : Nat × Nat :=
  let v := (stamp + 2048) / 4096
  (v / 256 % 2 ^ 32, v % 256)

/-- The instant of a 32-bit stamp in TAI nanoseconds, from a snapshot taken within 2.147 s of it: how host software extends it (R293). -/
def extendNs (snap ns32 : Nat) : Int :=
  let d : Nat := (ns32 + 2 ^ 32 - snap % 2 ^ 32) % 2 ^ 32
  if 2 ^ 31 ≤ d then (snap : Int) + d - 2 ^ 32 else (snap : Int) + d

/-- Bytes 16-31 of a transmit descriptor as they are written back (R290). -/
def DescBack.txBytes (b : DescBack) : Rec :=
  [fld 8 b.status, bit b.tsv, fld 4 b.attempts, rsv 3, fld 8 b.frac, rsv 8, fld 32 b.ns32, fld 32 b.cookie, rsv 24, bit b.phase, rsv 7]

/-- Bytes 8-31 of a receive descriptor as they are written back (R291). -/
def DescBack.rxBytes (b : DescBack) : Rec :=
  [fld 14 b.len, rsv 2, bit b.trunc, bit b.tsv, bit b.shortBuf, rsv 5, fld 4 b.filter, rsv 4, fld 8 b.frac, rsv 24, fld 32 b.ns32, rsv 88,
   bit b.phase, rsv 7]

/-- What a ring's write-backs leave in host memory, descriptor by descriptor (R290, R291). -/
def PortRing.image (r : PortRing) : List (List Nat) := r.back.map fun b => Rec.toBytes (if r.rx then b.rxBytes else b.txBytes)

/-- Linear interpolation over -40, 25 and 150 degrees (R280). -/
def interpT (l : List Rat) (t : Rat) : Rat :=
  let a := l.getD 0 0
  let b := l.getD 1 0
  let c := l.getD 2 0
  if t ≤ 25 then a + (b - a) * (t + 40) / 65 else b + (c - b) * (t - 25) / 125

/-- The departure of the port temperature from T_cal (R82, R282). -/
def FacetCal.departure (c : FacetCal) : Rat := match c.tCal with | none => 0 | some t => rabs (c.temp - t)

/-- A term of a point ends: the asymmetry widening, the temperature transient of a port, or the transient of an output (R82, R220). -/
def State.narrowNow (s : State) (p kind : Nat) : State :=
  (if kind = 0 then s.onPort p fun y => { y with asymWiden := none }
   else if kind = 1 then s.onPort p fun x => { x with cal := { x.cal with hotFrom := none, hotDone := false } }
   else s.onPin (p - 0x100) fun o => { o with trans := false, moves := 0 }).hallDue [p]

/-- A narrowing waits for the record that carries a widening of the same point (R81). -/
def State.narrow (s : State) (p kind : Nat) : State :=
  if p ∈ s.hall.widen then (if (p, kind) ∈ s.hall.narrow then s else s.onHall fun h => { h with narrow := h.narrow ++ [(p, kind)] })
  else s.narrowNow p kind

/-- A stamp is taken at a port: the first one that uses a new calibration ends the temperature transient (R82, R281). -/
def State.stamped (s : State) (p : Nat) : State :=
  if (s.port p).cal.hotDone then s.narrow p 1 else s

/-! ### Port states (R260, R261) -/

/-- A cause of DEGRADED of a port (R261, R279, R283, R530). -/
def State.portCause (s : State) (p : Nat) : State := (s.addCause (0x0300 + p)).log 0x2080 2 p

/-- A launch-time response that cannot leave is discarded as a launch miss (R313). -/
def State.launchMiss (s : State) (p : Nat) (f : TxFrame) : State := (s.dropFrame f).countPort p 23

/-- A port changes state (R261): its launches and pending Follow_Ups end with UP (R332), its link functions with the link. The record of a
change into UP has been published before it. -/
def State.setPort (s : State) (p : Nat) (st : PortState) : State :=
  let x := s.port p
  if x.st = st then s.onPort p fun y => { y with toUp := false }
  else
    let s1 := if x.st = .up then (x.launches.foldl (fun (t : State) f => t.launchMiss p f) s).onPort p fun y => { y with launches := [], follow := [] } else s
    let linked : Bool := st = .up || st = .upUntimed
    let s2 := s1.onPort p fun y =>
      if linked then { y with st := st, toUp := false }
      else { y with st := st, toUp := false, pause := none, holding := false, lpi := .active }
    let s3 := if x.linked && st = .down then s2.countPort p 31 else s2
    let s4 := s3.raise [s3.portOwner p] 0x2001 [fld 16 p, fld 8 x.st.code, fld 8 st.code]
    if st = .up then s4 else s4.hallDue [p]

/-- A port that can time waits for its record before it enters UP (R81, R261); one that cannot enters UP_UNTIMED. -/
def State.enterUp (s : State) (p : Nat) : State :=
  if (s.port p).canTime then (s.onPort p fun x => { x with toUp := true }).hallDue [p] else s.setPort p .upUntimed

/-- The port follows its facet (R261, R279, R283). -/
def State.followPort (s : State) (p : Nat) : State :=
  let x := s.port p
  match x.st with
  | .calibrating =>
    if x.held then s
    else if x.rxPair.st = .out || x.txPair.st = .out || x.cal.out then s.onPort p fun y => { y with held := true }
    else if x.rxPair.ready && x.txPair.ready && x.cal.tCal.isSome then s.setPort p .down
    else s
  | .down => if x.toUp && !x.canTime then s.setPort p .upUntimed else s
  | .up => if x.canTime then s else s.setPort p .upUntimed
  | .upUntimed => if x.canTime then (if x.toUp then s else s.enterUp p) else s.onPort p fun y => { y with toUp := false }
  | .disabled => s
  | .failed => s

/-- A port fails (R261): REPLACE_N, DEGRADED and the log. -/
def State.failPort (s : State) (p : Nat) : State :=
  if (s.port p).st = .disabled || (s.port p).st = .failed then s else (s.setPort p .failed).portCause p

/-- A run of a facet's pair of interpolators ends (R187, R189, R279). -/
def State.facetRunEnd (s : State) (p : Nat) (tx : Bool) (first : Nat) (hits : List Nat) : State :=
  let r := (if tx then (s.port p).txPair else (s.port p).rxPair).runEnd first hits
  let s1 := s.onPort p fun x => if tx then { x with txPair := r.1 } else { x with rxPair := r.1 }
  let s2 := if r.2 = .single || r.2 = .out then s1.portCause p else s1
  s2.followPort p

/-- A pair of interpolators changes by itself: a swap or the survivor's run (R188, R279). -/
def State.facetChange (s : State) (p : Nat) (tx : Bool) (f : Interp → Interp) : State :=
  (s.onPort p fun x => if tx then { x with txPair := f x.txPair } else { x with rxPair := f x.rxPair }).followPort p

/-! ### Transmit rings (R288-R294) -/

/-- Takes the head descriptor of a transmit ring (R264, R288, R290, R382). -/
def State.takeDesc (s : State) (hd : Nat) : State :=
  match s.pring hd with
  | none => s
  | some r =>
    match r.descs with
    | [] => s
    | d :: ds =>
      if !s.dmaOk r.owner d.addr d.len then s.freezeMaster r.owner 1 hd 2 d.addr
      else
        let s1 := s.onPring hd fun x => { x with descs := ds, taken := x.taken + 1 }
        if (s.port r.port).maxLen < d.len + 4 then (s1.countPort r.port 9).backDesc hd r.taken { status := 1, cookie := d.cookie }
        else s1.enqueue r.port { kind := .host, bezel := r.owner, sub := s.defaultSub r.owner, cls := d.cls % 8, len := max 60 d.len + 4,
                                 desc := some (hd, r.taken), tsreq := d.tsreq, cookie := d.cookie }

/-- Takes descriptors in ring order up to one that waits for LA release (R294); `fuel` bounds them. -/
def State.feed (s : State) (hd fuel : Nat) : State :=
  match fuel with
  | 0 => s
  | k + 1 =>
    match s.pring hd with
    | none => s
    | some r =>
      if r.rx || s.masterFrozen r.owner 1 hd then s
      else
        match r.descs with
        | [] => s
        | d :: _ => if d.larel then s else (s.takeDesc hd).feed hd k

/-- A TX event releases the frame at the head of its ring (R249, R294); false where none waits. -/
def State.releaseRing (s : State) (hd : Nat) : State × Bool :=
  match s.pring hd with
  | none => (s, false)
  | some r =>
    match r.descs with
    | [] => (s, false)
    | d :: _ =>
      if d.larel && !r.rx && !s.masterFrozen r.owner 1 hd then ((s.takeDesc hd).feed hd r.descs.length, true) else (s, false)

/-- A ring closes (R288): every outstanding descriptor is written back FLUSHED in ring order, and the handle is free. -/
def State.closeRing (s : State) (hd : Nat) : State :=
  match s.pring hd with
  | none => s
  | some r =>
    let mine : TxFrame → Bool := fun f => match f.desc with | some (n, _) => decide (n = hd) | none => false
    let x := s.port r.port
    let flying := ((match x.wire with | some f => [f] | none => []) ++ (match x.backoff with | some f => [f.1] | none => [])).filter mine
    let s1 := if r.rx then s else flying.foldl (fun (t : State) f => t.backFrame f 2) (s.purge r.port mine fun f t => t.backFrame f 2)
    let s2 := s1.onPort r.port fun (y : PortSt) => { y with
      wire := y.wire.map fun (f : TxFrame) => if mine f then { f with desc := none } else f
      backoff := y.backoff.map fun (f : TxFrame × Nat) => if mine f.1 then ({ f.1 with desc := none }, f.2) else f }
    let s3 := (zipIdx r.descs).foldl (fun (t : State) d => t.backDesc hd (r.taken + d.1) { status := 2, cookie := d.2.cookie }) s2
    s3.onPorts fun y => { y with
      closed := match y.rings.find? (fun q => q.1 = hd) with | some q => y.closed.put hd q.2.back | none => y.closed
      rings := y.rings.filter fun q => q.1 != hd }

/-- Frames a port holds for transmission are discarded with a count each and FLUSHED write-backs (R258). -/
def State.flushPort (s : State) (p : Nat) : State :=
  let out := fun (f : TxFrame) (t : State) => (t.countPort p 27).backFrame f 2
  let x := s.port p
  let s1 := s.purge p (fun _ => true) out
  let held := (match x.wire with | some f => [f] | none => []) ++ (match x.backoff with | some f => [f.1] | none => []) ++ x.launches
  let s2 := held.foldl (fun (t : State) f => out f (t.dropFrame f)) (s1.onPort p fun y => { y with wire := none, backoff := none, launches := [], follow := [] })
  held.foldl (fun (t : State) f => t.followShapers p f) s2

/-! ### Transmission (R260, R262, R313, R384, R525) -/

/-- A frame of `len` octets, started now, would still be on the wire at a committed launch position (R313). -/
def State.overruns (s : State) (p len : Nat) : Bool :=
  let r := s.line p
  match (s.port p).launches with
  | [] => false
  | f :: _ => match f.launch with
    | none => false
    | some l => decide (l * r < (s.tc.mtc.units * r + (len + 28) * unitsPerSec))

/-- The next frame of a port begins transmission (R384): the eligible service queue of the highest class, by deficit round robin. A
time-bearing frame begins neither in UP_UNTIMED, where it is dropped (R260), nor during a squelch (R525). -/
def State.startTx (s : State) (p : Nat) : State :=
  let x := s.port p
  if !x.linked || x.wire.isSome || x.backoff.isSome || x.pause.isSome || x.cal.running || x.lpi != .active then s
  else
    let s1 := if x.st = .upUntimed then s.purge p (fun f => f.kind.timed) fun f t => (t.countPort p 25).backFrame f 5 else s
    if s1.credit 2 p < 0 then s1
    else
      let pass := fun (w : Flow) => decide (s1.credit 0 w.sub < 0) || (s1.squelched && (match w.frames with | f :: _ => f.kind.timed | [] => false))
      let pick := classesDown.findSome? fun c =>
        if s1.credit 1 (p * 8 + c) < 0 then none
        else
          let fl := (s1.svcQ p c).flows
          (drr pass (10 * fl.length + 10) fl).map fun r => (c, r)
      match pick with
      | none => s1
      | some (c, f, flows) =>
        if s1.overruns p f.len then s1
        else
          let g : TxFrame := { f with attempts := f.attempts + 1 }
          ((s1.onSvcQ p c fun q => { q with flows := flows }).onPort p fun y => { y with wire := some g }).followShapers p g

/-- The frame on the wire ends without having been sent. -/
def State.abortTx (s : State) (p : Nat) (f : TxFrame) (status : Nat) : State :=
  (((s.onPort p fun y => { y with wire := none }).dropFrame f).followShapers p f).backFrame f status

/-- Octets and frames transmitted are counted (R537, R544). -/
def State.countTx (s : State) (p len : Nat) : State :=
  ((((s.countN p 2 len).countPort p 3).derive p 1 1 len).derive p 1 3 1)

end Sys2Proof.Machine
end

