-- ==== Sys2Proof/Machine/FaultOps.lean ====
section
/-! DEFINITION. The fault collector's own operations: severity classes, sticky and live bits, the fatal latch and the start
of a squelch (R516-R531). -/

namespace Sys2Proof.Machine

/-- Severity classes (R522). -/
inductive Severity where
  | fatal | squelch | contain | notice
  deriving DecidableEq, Repr

/-- The class of a source (R523). -/
def severityOf (word bitNo : Nat) : Severity :=
  if word = 0 && bitNo ∈ [0, 1, 2, 3, 5, 6, 8, 10, 11] then .fatal
  else if word = 15 && bitNo ∈ [16, 17, 18, 28, 29] then .fatal
  else if word = 0 && bitNo = 4 then .squelch
  else if (word = 0 && bitNo = 9) || (word = 15 && bitNo = 23) then .notice
  else .contain

/-- A bit that R519 assigns a source; others are reserved. -/
def sourceOk (word bitNo : Nat) : Bool :=
  (word = 0 && decide (bitNo ≤ 11)) || (word = 1 && decide (bitNo ≤ 19)) || (decide (2 ≤ word) && decide (word ≤ 14) && decide (bitNo < 32))
    || (word = 15 && decide (16 ≤ bitNo) && decide (bitNo ≤ 30))

/-- Squelch is in force from now (R525): every point's current Hallmark is withdrawn, every time-bearing driver is disabled, CLM_OUT falls silent
(R419), and a time-bearing frame on the wire is ended with an invalid FCS and counted. -/
def State.squelchStart (s : State) : State :=
  let s1 := ((s.onHall fun h => { h with withdrawn := true }).onClasp fun c => { c with silentAt := some s.tc.mtc.cyc, frame := none }).followPins
  (s1.ports.ports.filter fun q => match q.2.wire with | some f => f.kind.timed | none => false).foldl (fun (t : State) q =>
    match q.2.wire with
    | some f => (t.countDrop q.1 5).abortTx q.1 f 5
    | none => t) s1

/-- The fatal latch (R522, R527, R528, R531). -/
def State.latchFatal (s : State) : State :=
  ((s.onFault fun f => { f with fatal := true }).squelchStart).addCause 0x0F00

/-- The MP declares a fatal fault: FSW15 bit 29 (R523, R607). -/
def State.declareFatal (s : State) : State := (((s.setPin 15 29 false).fireMp).latchFatal)

/-- ALIVE runs (R527). -/
def State.aliveRuns (s : State) : Bool := s.fault.alive && !s.fault.fatal && s.alive

/-- The level of ALIVE (R527): high at the first heartbeat, and changed every 500 us from there while it runs; low otherwise. -/
def State.aliveLevel (s : State) : Bool := s.aliveRuns && (s.upNs - s.fault.aliveAt) / 500000 % 2 = 0

/-- The MP writes its heartbeat; the first after a device reset starts ALIVE (R527). -/
def State.heartbeat (s : State) : State :=
  s.onFault fun f => { f with beats := f.beats + 1, alive := true, aliveAt := if f.alive then f.aliveAt else s.upNs }

/-- A NOTICE source is raised as an event (R522); the MP's reading logs it (R521). DESIGN CHOICE (assumption 163): the table of R486 gives it no code, so
CODE and DETAIL are left open. -/
def State.notice (s : State) (word bitNo : Nat) : State :=
  s.dueFor 0 { code := Config.noticeCode, time := s.now, detail := [fld 192 (Config.noticeDetail (32 * word + bitNo))] }

end Sys2Proof.Machine
end

