-- ==== Sys2Proof/Machine/Wire.lean ====
section
/-! DEFINITION. The octets of a time message's own fields and of its Hallmark as a network frame carries them, big-endian (R10, R71, R315-R317). -/

namespace Sys2Proof.Machine

/-- A PTP timestamp of an instant: seconds, nanoseconds, correctionField in 2^-16 ns, and the residual in 2^-32 ns (R308, R317). -/
def ptpStamp (u : Nat) : Nat × Nat × Nat × Int :=
  let frac := u % 1048576
  let corr := (frac + 8) / 16
  (u / unitsPerSec % 2 ^ 48, u / 1048576 % 1000000000, corr, (frac : Int) * 4096 - (corr : Int) * 65536)

/-- The fields of a message in order, each most significant bit first (R10). -/
def networkBytes (r : Rec) : List Nat := beBytes (r.bits / 8) (r.foldl (fun a x => a * 2 ^ x.1 + wrapU x.1 x.2) 0)

/-- The Hallmark TLV of a PTP message (R315). -/
def hallTlv (r : HallRec) (res : Int) : List Nat :=
  beBytes 2 0x8000 ++ beBytes 2 46 ++ beBytes 3 0x2CF4D9 ++ beBytes 3 1 ++ hallCanonical r ++ beBytes 4 (wrapU 32 res) ++ beBytes 4 0

/-- The Hallmark extension field of an NTP response, under the service's type (R316). -/
def hallField (ef : Nat) (r : HallRec) (t2 t3 : Int) : List Nat :=
  beBytes 2 ef ++ beBytes 2 48 ++ [1, 0, 0, 0] ++ hallCanonical r ++ beBytes 4 (wrapU 32 t2) ++ beBytes 4 (wrapU 32 t3)

/-- Messages that carry the TLV on a service with HALLMARK ON (R315). -/
def TxFrame.mayHall (f : TxFrame) : Bool :=
  decide (f.kind ∈ [.announce, .followUp, .delayResp, .pdelayResp, .pdelayFollowUp]) || (f.kind = .sync && f.oneStep)

/-- The turnaround of a one-step Pdelay_Resp in 2^-16 ns, rounded half up, and its residual in 2^-32 ns (R309, R317). -/
def turnaround (t stamp : Nat) : Nat × Int :=
  let d := stamp - t
  ((d + 8) / 16, (d : Int) * 4096 - (((d + 8) / 16 : Nat) : Int) * 65536)

/-- The place of a port in a list, from 1. -/
def placeIn (l : List Nat) (p : Nat) : Nat := (l.takeWhile fun x => x != p).length + 1

/-- A message of the Precision Time Protocol. -/
def TxKind.ptp : TxKind → Bool
  | .sync => true | .followUp => true | .delayResp => true | .pdelayResp => true | .pdelayFollowUp => true | .announce => true
  | .grant => true | .cancel => true | .ackCancel => true | .signaling => true
  | _ => false

/-- What R310 and R435 say of a message's header, in the order sdoId, minorVersionPTP, versionPTP, domain, sequenceId, clockIdentity and
portNumber: the port's place in its service, with PAIR_ID in bit 15 on ports paired over the Clasp. -/
def State.ptpHead (s : State) (v : ServiceArgs) (p : Nat) (f : TxFrame) : Rec :=
  [fld 12 v.sdoId, fld 4 1, fld 8 2, fld 8 v.domain, fld 16 f.seq, fld 64 v.identity,
   fld 16 (placeIn v.ports p + (if s.clasp.st != .off && decide (p ∈ s.clasp.ports) then b01 s.pwr.pairId * 32768 else 0))]

/-- A message's own fields as it leaves at a stamp: a one-step Sync has its stamp written during transmission, and a one-step Pdelay_Resp its
turnaround (R272, R309). -/
def TxFrame.ownFields (f : TxFrame) (stamp : Nat) : Rec :=
  let st := ptpStamp stamp
  if f.kind = .sync then (if f.oneStep then [fld 48 st.1, fld 32 st.2.1, fld 64 st.2.2.1] else [])
  else if f.kind = .pdelayResp && f.oneStep then [fld 48 0, fld 32 0, fld 64 (turnaround (f.t.getD 0) stamp).1]
  else f.body

/-- RES1 as a message leaves (R315, R317). -/
def TxFrame.resOut (f : TxFrame) (stamp : Nat) : Int :=
  if f.oneStep && f.kind = .sync then (ptpStamp stamp).2.2.2
  else if f.oneStep && f.kind = .pdelayResp then (turnaround (f.t.getD 0) stamp).2
  else f.res1

/-- What a time message says as it leaves a port at a stamp: its header, its own fields, the Unique Identifier of NTS, then its Hallmark. -/
def State.octetsOf (s : State) (p : Nat) (f : TxFrame) (stamp : Nat) : List Nat :=
  let v := (s.tse.services.look none f.service).map fun (x : Service) => x.cfg
  (match v with | some c => if f.kind.ptp then networkBytes (s.ptpHead c p f) else [] | none => [])
    ++ networkBytes (f.ownFields stamp)
    ++ (match f.uid with | some u => beBytes u.1 u.2 | none => [])
    ++ (match f.record, v with
        | some r, some c =>
          if f.kind = .ntp then hallField c.hallmarkEf r f.res1 f.res2
          else if c.hallmark = 2 && f.mayHall then hallTlv r (f.resOut stamp)
          else []
        | _, _ => [])

end Sys2Proof.Machine
end

