-- ==== Sys2Proof/Machine/Port.lean ====
section
/-! DEFINITION. The port commands and the events of a port's link, facet and MAC (chapter 09). -/

namespace Sys2Proof.Machine

/-! ### Commands -/

/-- The lane rates of a quad with port p in mode m (R257). -/
def State.quadRates (s : State) (p : Nat) (m : PortMode) : List Nat :=
  (((List.range 4).map fun i => let q := p / 4 * 4 + i; if q = p then m.lane else (s.port q).mode.lane).filter (· != 0)).eraseDups

/-- The mode offers Energy-Efficient Ethernet (R273). -/
def eeeMode (m : PortMode) (half : Bool) : Bool := (m = .x1000 || m = .sgmii1000 || m = .sgmii100) && !half

/-- The lane's error pin shows an error (R519, R583). -/
def State.laneBad (s : State) (p : Nat) : Bool := ((s.fault.live.look 0 (4 + p / 32)).toNat / 2 ^ (p % 32)) % 2 = 1

/-- `port.set_mode` (R22, R256-R261): auto-negotiation is a choice of 1000BASE-X only (DEDUCED, assumption 76);
a lane whose error pin still shows an error fails as it leaves DISABLED (DEDUCED, assumption 76); the port starts again from CALIBRATING; one that is FAILED or held stays so until a device reset. -/
def cmdPortSetMode (_h : CmdHdr) (port mode half an : Nat) : CmdMeta × CmdBody :=
  let m := PortMode.of mode
  ({ op := 0x2001, plen := 5, mirrored := true },
   { argOk := fun _ => portOk port && decide (mode ≤ 6) && decide (half ≤ 1) && decide (an ≤ 1) && (half = 0 || mode = 5 || mode = 6) && (an = 0 || mode = 3)
     check := fun s => judge [(decide (2 < (s.quadRates port m).length), .conflict)]
     act := fun s =>
       let x := s.port port
       let stuck := x.st = .failed || x.held
       let set := fun (t : State) => t.onPort port fun y => { y with
         mode := m, half := half = 1, an := an = 1, eee := y.eee && eeeMode m (half = 1) }
       let s1 := if x.mode = .off then s else s.flushPort port
       if stuck then cmdOut ((set s1).store 0x20 port)
       else
         let s2 := set (s1.setPort port .disabled)
         let s3 := if m = .off then s2
           else (s2.onPort port fun y => { y with cal := { y.cal with due := true, running := false, tCal := none } }).setPort port .calibrating
         let s4 := if s3.laneBad port then s3.failPort port else s3
         cmdOut ((s4.followPort port).store 0x20 port) })

/-- `port.set_mac` (R263, R266, R268). -/
def cmdPortSetMac (h : CmdHdr) (port pauseRx maxLen watchdog holdoff : Nat) : CmdMeta × CmdBody :=
  ({ op := 0x2002, plen := 16, who := .any, mirrored := true },
   { argOk := fun _ => portOk port && decide (pauseRx ≤ 1) && decide (1522 ≤ maxLen) && decide (maxLen ≤ 16383)
       && decide (1 ≤ watchdog) && decide (watchdog ≤ 10000) && decide (100 ≤ holdoff) && decide (holdoff ≤ 60000)
     check := fun s => judgeOwned (s.portOwner port = h.fn) false 3 []
     act := fun s => cmdOut ((s.onPort port fun y => { y with pauseRx := pauseRx = 1, maxLen := maxLen, watchdog := watchdog, holdoff := holdoff }).store 0x20 port) })

/-- `port.set_eee` (R273, R274). -/
def cmdPortSetEee (h : CmdHdr) (port enable idle tw : Nat) : CmdMeta × CmdBody :=
  ({ op := 0x2003, plen := 12, who := .any, mirrored := true },
   { argOk := fun s => portOk port && decide (enable ≤ 1) && eeeMode (s.port port).mode (s.port port).half
       && (enable = 0 || (decide (1 ≤ idle) && decide (idle ≤ 10000) && decide (tw ≤ 1000)))
     check := fun s => judgeOwned (s.portOwner port = h.fn) false 3
       [(!(s.bezel (s.portOwner port)).nonTiming || s.nrefUses port || s.vtapUses port, .conflict)]
     act := fun s => cmdOut ((s.onPort port fun y =>
       if enable = 1 then { y with eee := true, idle := idle, tw := some tw } else { y with eee := false, lpi := .active }).store 0x20 port) })

/-- `port.calibrate` (R282): a run falls due at once. -/
def cmdPortCalibrate (_h : CmdHdr) (port : Nat) : CmdMeta × CmdBody :=
  ({ op := 0x2004, plen := 2, action := true },
   { argOk := fun _ => portOk port
     check := fun s => judge [((s.port port).st = .disabled || (s.port port).st = .failed, .state), ((s.port port).cal.running, .busy)]
     act := fun s => cmdOut (s.onPort port fun y => { y with cal := { y.cal with due := !y.cal.out } }) })

/-- The TAI second at which an asymmetry accepted now takes effect: 2 ms after a record published within 30 us (R287). -/
def State.asymSec (s : State) : Nat := s.topAfter 2030000

/-- `port.set_asym` (R82, R285, R287). -/
def cmdPortSetAsym (h : CmdHdr) (port : Nat) (asym : Int) (unc : Nat) : CmdMeta × CmdBody :=
  ({ op := 0x2005, plen := 12, who := .any },
   { argOk := fun _ => portOk port && decide (-10000000 ≤ asym) && decide (asym ≤ 10000000) && decide (unc ≤ 10000000)
     check := fun s => judgeOwned (s.portOwner port = h.fn) false 3 [((s.port port).asymNext.isSome, .busy)]
     act := fun s =>
       let x := s.port port
       let w := (asym - x.asym).natAbs + max x.uAsym unc
       cmdOut (((s.onPort port fun y => { y with asymNext := some (asym, unc, s.asymSec), asymCover := false, asymWiden := some (max w (y.asymWiden.getD 0)) }).hallWiden [port]).store 0x20 port)
         [fld 32 (s.asymSec % 2 ^ 32)] })

/-- The lowest free ring handle. -/
def State.freeHandle (s : State) : Option Nat := (List.range 4096).find? fun n => (s.pring n).isNone

/-- Rings open on a port in a direction (R288). -/
def State.ringsOn (s : State) (p : Nat) (rx : Bool) : Nat := (s.ports.rings.filter fun q => q.2.port = p && q.2.rx = rx).length

/-- `port.open_ring` (R288, R403). -/
def cmdPortOpenRing (h : CmdHdr) (port dir n vector base : Nat) : CmdMeta × CmdBody :=
  ({ op := 0x2006, plen := 16, who := .any },
   { argOk := fun s => portOk port && decide (dir ≤ 1) && decide (6 ≤ n) && decide (n ≤ 14) && decide (vector < 64) && s.dmaOk h.fn base (32 * 2 ^ n)
     check := fun s => judgeOwned (s.portOwner port = h.fn) false 3 [(decide (8 ≤ s.ringsOn port (dir = 1)) || s.freeHandle.isNone, .busy)]
     act := fun s => match s.freeHandle with
       | none => cmdOut s
       | some hd => cmdOut ((s.onPorts fun x => { x with
           rings := x.rings.put hd { port := port, rx := dir = 1, n := n, vector := vector, base := base, owner := h.fn } }).touch 0x20 (4096 + hd)) [fld 16 hd] })

/-- The issuer owns an open ring. -/
def State.ringOwned (s : State) (b hd : Nat) : Bool := match s.pring hd with | some r => r.owner = b | none => false

/-- `port.close_ring` (R288). -/
def cmdPortCloseRing (h : CmdHdr) (handle : Nat) : CmdMeta × CmdBody :=
  ({ op := 0x2007, plen := 2, who := .any, action := true },
   { argOk := fun _ => decide (handle < 4096)
     check := fun s => judgeOwned (s.ringOwned h.fn handle) false 3 []
     act := fun s => cmdOut ((s.closeRing handle).touch 0x20 (4096 + handle)) })

/-- A filter would claim traffic of the TSE or of a VTAP of the port (R289). -/
def State.filterTaken (s : State) (p kind value : Nat) : Bool :=
  (kind = 1 && (value = 0x88F7 || (value = 0x88BA && s.vtapUses p))) || (kind = 2 && decide (value ∈ [123, 319, 320])) || (kind = 3 && value = 4460)

/-- `port.set_filter` (R289). -/
def cmdPortSetFilter (h : CmdHdr) (port index kind value handle : Nat) : CmdMeta × CmdBody :=
  ({ op := 0x2008, plen := 8, who := .any },
   { argOk := fun s => portOk port && decide (index < 16) && decide (kind ≤ 4) && (kind != 4 || decide (value < 256))
       && (kind = 0 || (match s.pring handle with | some r => r.rx && r.port = port | none => false))
     check := fun s => judgeOwned (s.portOwner port = h.fn && (kind = 0 || s.ringOwned h.fn handle)) false 3 [(s.filterTaken port kind value, .conflict)]
     act := fun s => cmdOut ((s.onPort port fun y => { y with filters := y.filters.put index { kind := kind, value := value, handle := handle } }).store 0x20 port) })

/-- `port.read_status`: state, calibration, delays and counters; the layout is the model's own. -/
def cmdPortReadStatus (h : CmdHdr) (port : Nat) : CmdMeta × CmdBody :=
  ({ op := 0x2041, plen := 2, who := .any, xbOut := true },
   { argOk := fun _ => portOk port
     check := fun s => judgeOwned (h.fn = 0 || s.portOwner port = h.fn) true 3 []
     act := fun s =>
       let x := s.port port
       cmdOut s [fld 8 x.st.code]
         ([fld 8 x.st.code, fld 8 x.mode.code, bit x.half, bit x.an, bit x.held, bit x.eee, bit x.cal.due, bit x.cal.running, bit x.cal.out, rsv 1,
           fld 8 x.rxPair.st.code, fld 8 x.txPair.st.code, rsv 24,
           (32, roundHalf (x.cal.dRx * 1000)), (32, roundHalf (x.cal.dTx * 1000)), (32, roundHalf (x.cal.temp * 1000)), (32, x.asym), fld 32 x.uAsym]
          ++ (List.range 32).map fun i => fld 64 (s.loupe.ctr.look 0 (port * 32 + i))) })


/-! ### Link (R261) -/

/-- The link comes up: a PHY that reports another speed or duplex holds an SGMII port in DOWN, counted (R259). -/
def onLinkUp (port : Nat) (sgmiiMatch : Bool) (s : State) : State :=
  let x := s.port port
  if !(x.st = .down) || x.toUp then s
  else if (x.mode = .sgmii1000 || x.mode = .sgmii100 || x.mode = .sgmii10) && !sgmiiMatch then s.countPort port 26
  else s.enterUp port

/-- The link goes down. -/
def onLinkDown (port : Nat) (s : State) : State :=
  if (s.port port).linked then s.setPort port .down else s.onPort port fun x => { x with toUp := false }

/-- The PLL of a port's quad shows an error (R519). -/
def State.quadBad (s : State) (p : Nat) : Bool := ((s.fault.live.look 0 (12 + p / 128)).toNat / 2 ^ (p / 4 % 32)) % 2 = 1

/-- A link DOWN for 1 s with its quad PLL unlocked. -/
def onLinkFailedTimeout (port : Nat) (s : State) : State :=
  if (s.port port).st = .down && s.quadBad port then (s.failPort port).addCause (0x0400 + port / 4) else s

/-- LINK_UP (R261). -/
def execLinkUp (port : Nat) (sgmiiMatch : Bool) (s : State) : Host.Outcome State Fault Refusal :=
  .next (if s.alive then onLinkUp port sgmiiMatch s else s)

/-- LINK_DOWN (R261). -/
def execLinkDown (port : Nat) (s : State) : Host.Outcome State Fault Refusal :=
  .next (if s.alive then onLinkDown port s else s)

/-- LINK_FAILED_TIMEOUT (R261). -/
def execLinkFailedTimeout (port : Nat) (s : State) : Host.Outcome State Fault Refusal :=
  .next (if s.alive then onLinkFailedTimeout port s else s)


/-! ### Facet calibration (R280-R284) -/

/-- A run falls due. -/
def onCalibrationDue (port : Nat) (s : State) : State :=
  let x := s.port port
  if x.st = .disabled || x.st = .failed || x.cal.out || x.cal.running then s
  else s.onPort port fun y => { y with cal := { y.cal with due := true } }

/-- A due run starts at the first instant at which no frame is on the port (R282). -/
def onLoopbackRunStart (port : Nat) (s : State) : State :=
  let x := s.port port
  if x.cal.due && !x.cal.running && !x.cal.out && !x.held && x.wire.isNone && !(x.st = .disabled || x.st = .failed) then
    s.onPort port fun y => { y with cal := { y.cal with due := false, running := true } }
  else s

/-- A run ends (R280, R281, R283). -/
def onLoopbackRunEnd (port : Nat) (obs : LoopbackObs) (s : State) : State :=
  let x := s.port port
  if !x.cal.running then s
  else if obs.rms ≤ 5 && rabs (obs.drt - interpT x.prod.dProd x.cal.temp) ≤ 150 then
    let sp := interpT x.prod.s x.cal.temp
    let d := obs.drt - x.prod.dPad
    let s1 := s.onPort port fun y => { y with
      cal := { y.cal with running := false, fails := 0, diverged := false, tCal := some y.cal.temp, dTx := sp * d, dRx := (1 - sp) * d,
                           hotDone := y.cal.hotFrom.isSome } }
    (s1.countPort port 20).followPort port
  else
    let s1 := (s.onPort port fun y => { y with cal := { y.cal with running := false, fails := y.cal.fails + 1, out := decide (3 ≤ y.cal.fails + 1) } }).countPort port 21
    if 3 ≤ x.cal.fails + 1 then (s1.portCause port).followPort port else s1

/-- The port temperature is read (R284): where it departs from T_cal by more than 10 K the transient begins, a record is due and a run
falls due at once (R82, R282). -/
def onPortTemperatureRead (port : Nat) (temp : Rat) (s : State) : State :=
  let x := s.port port
  let s1 := s.onPort port fun y => { y with cal := { y.cal with temp := temp } }
  if x.cal.departure ≤ 10 && decide (10 < (s1.port port).cal.departure) then
    let s2 := s1.onPort port fun y => { y with cal :=
      { y.cal with due := y.cal.due || (!y.cal.running && !y.cal.out),
                   hotFrom := if y.cal.hotFrom.isNone || y.cal.hotDone then y.cal.tCal else y.cal.hotFrom, hotDone := false } }
    if x.cal.hotFrom.isNone then s2.hallWiden [port] else s2
  else s1

/-- A new asymmetry takes effect at its second (R287), and not before a record with its widening is out (R81). -/
def onAsymmetryEffect (port : Nat) (s : State) : State :=
  match (s.port port).asymNext with
  | none => s
  | some (a, u, sec) =>
    if s.sec < sec || !(s.port port).asymCover then s
    else (s.onPort port fun y => { y with asym := a, uAsym := u, asymNext := none, asymCover := false }).touch 0x20 port

/-- CALIBRATION_DUE (R282). -/
def execCalibrationDue (port : Nat) (s : State) : Host.Outcome State Fault Refusal :=
  .next (if s.alive then onCalibrationDue port s else s)

/-- LOOPBACK_RUN_START (R282). -/
def execLoopbackRunStart (port : Nat) (s : State) : Host.Outcome State Fault Refusal :=
  .next (if s.alive then onLoopbackRunStart port s else s)

/-- LOOPBACK_RUN_END (R281). -/
def execLoopbackRunEnd (port : Nat) (obs : LoopbackObs) (s : State) : Host.Outcome State Fault Refusal :=
  .next (if s.alive then onLoopbackRunEnd port obs s else s)

/-- PORT_TEMPERATURE_READ (R284). -/
def execPortTemperatureRead (port : Nat) (temp : Rat) (s : State) : Host.Outcome State Fault Refusal :=
  .next (if s.alive then onPortTemperatureRead port temp s else s)

/-- ASYMMETRY_EFFECT (R287). -/
def execAsymmetryEffect (port : Nat) (s : State) : Host.Outcome State Fault Refusal :=
  .next (if s.alive then onAsymmetryEffect port s else s)


/-! ### PAUSE (R266-R269) -/

/-- Packet-clock cycles of q pause quanta, rounded up (R267): a quantum is 512 bit times. -/
def pauseCycles (m : PortMode) (q : Nat) : Nat := if m.rate = 0 then 0 else (q * 64 * packetHz + m.rate - 1) / m.rate

/-- A PAUSE frame is received. -/
def onPauseFrame (port quanta : Nat) (forUs fcsOk : Bool) (s : State) : State :=
  let x := s.port port
  if !x.linked then s
  else if x.cal.running then s.countPort port 22
  else if !fcsOk then s.countPort port 4
  else if !forUs || x.half || !x.pauseRx then s.countPort port 13
  else if x.holding then s.countPort port 14
  else if quanta % 65536 = 0 then (s.countPort port 12).onPort port fun y => { y with pause := none }
  else (s.countPort port 12).onPort port fun y => { y with
    pause := some (s.pcyc + pauseCycles x.mode (quanta % 65536)), pauseFrom := if y.pause.isSome then y.pauseFrom else s.pcyc }

/-- The pause in force expires. -/
def onPauseEnd (port : Nat) (s : State) : State := s.onPort port fun y => { y with pause := none }

/-- A pause has been in force without a gap beyond the watchdog limit (R268). -/
def onPauseWatchdog (port : Nat) (s : State) : State :=
  if (s.port port).pause.isNone || (s.port port).holding || s.pcyc ≤ (s.port port).pauseFrom + (s.port port).watchdog * (packetHz / 1000) then s
  else ((s.onPort port fun y => { y with pause := none, holding := true }).countPort port 15).logPartner 0x2081 port

/-- The hold-off ends. -/
def onPauseHoldoffEnd (port : Nat) (s : State) : State := s.onPort port fun y => { y with holding := false }

/-- PAUSE_FRAME (R267). -/
def execPauseFrame (port : Nat) (quanta : Nat) (forUs : Bool) (fcsOk : Bool) (s : State) : Host.Outcome State Fault Refusal :=
  .next (if s.alive then onPauseFrame port quanta forUs fcsOk s else s)

/-- PAUSE_END (R267). -/
def execPauseEnd (port : Nat) (s : State) : Host.Outcome State Fault Refusal :=
  .next (if s.alive then onPauseEnd port s else s)

/-- PAUSE_WATCHDOG (R268). -/
def execPauseWatchdog (port : Nat) (s : State) : Host.Outcome State Fault Refusal :=
  .next (if s.alive then onPauseWatchdog port s else s)

/-- PAUSE_HOLDOFF_END (R268). -/
def execPauseHoldoffEnd (port : Nat) (s : State) : Host.Outcome State Fault Refusal :=
  .next (if s.alive then onPauseHoldoffEnd port s else s)


/-! ### Half-duplex (R270-R272) -/

/-- A collision (R271, R313): a launch-time frame is not retried. The back-off is a random number of the MAC's DRBG. -/
def onCollision (port : Nat) (late : Bool) (s : State) : State :=
  let x := s.port port
  match x.wire with
  | none => s
  | some f =>
    if !x.half then s
    else
      let s1 := s.countPort port 16
      if late then (s1.countPort port 18).abortTx port f 3
      else if 16 ≤ f.attempts then (s1.countPort port 17).abortTx port f 4
      else
        let r := Config.randomBytes 2 s.free % 2 ^ min f.attempts 10
        let s2 := (s1.nextFree).onKeys fun k => { k with drbgs := k.drbgs.upd {} 5 fun d => { d with requests := d.requests + 1 } }
        (s2.onPort port fun y => { y with wire := none, backoff := some (f, r) }).followShapers port f

/-- The back-off ends and the frame is retried. -/
def onBackoffExpiry (port : Nat) (s : State) : State :=
  let x := s.port port
  match x.backoff with
  | none => s
  | some (f, _) =>
    if x.wire.isSome || !x.linked || x.cal.running || (s.squelched && f.kind.timed) then s
    else (s.onPort port fun y => { y with backoff := none, wire := some { f with attempts := f.attempts + 1 } }).followShapers port f

/-- COLLISION (R271). -/
def execCollision (port : Nat) (late : Bool) (s : State) : Host.Outcome State Fault Refusal :=
  .next (if s.alive then onCollision port late s else s)

/-- BACKOFF_EXPIRY (R270). -/
def execBackoffExpiry (port : Nat) (s : State) : Host.Outcome State Fault Refusal :=
  .next (if s.alive then onBackoffExpiry port s else s)


/-! ### Energy-Efficient Ethernet (R274, R275) -/

/-- The queues have been empty for the idle threshold. -/
def onLpiEntry (port : Nat) (s : State) : State :=
  let x := s.port port
  if x.eee && eeeMode x.mode x.half && x.linked && x.lpi = .active && x.wire.isNone && !s.portWaits port && x.launches.isEmpty && !x.cal.running then
    s.onPort port fun y => { y with lpi := .sleeping }
  else s

/-- A frame is queued in low-power idle, or was queued as entry was committed: one sleep and wake cycle. -/
def onLpiWake (port : Nat) (s : State) : State :=
  let x := s.port port
  if x.lpi = .sleeping && (s.portWaits port || !x.launches.isEmpty) then (s.onPort port fun y => { y with lpi := .waking }).countPort port 19 else s

/-- T_w has passed; the waiting frame is transmitted. -/
def onLpiWakeComplete (port : Nat) (s : State) : State :=
  if (s.port port).lpi = .waking then (s.onPort port fun y => { y with lpi := .active }).startTx port else s

/-- LPI_ENTRY (R274). -/
def execLpiEntry (port : Nat) (s : State) : Host.Outcome State Fault Refusal :=
  .next (if s.alive then onLpiEntry port s else s)

/-- LPI_WAKE (R275). -/
def execLpiWake (port : Nat) (s : State) : Host.Outcome State Fault Refusal :=
  .next (if s.alive then onLpiWake port s else s)

/-- LPI_WAKE_COMPLETE (R274). -/
def execLpiWakeComplete (port : Nat) (s : State) : Host.Outcome State Fault Refusal :=
  .next (if s.alive then onLpiWakeComplete port s else s)


/-! ### Transmission (R384, R290) -/

/-- The port takes its next frame. -/
def onTransmitStart (port : Nat) (s : State) : State := s.startTx port

/-- Of two records the one with the larger bound, the later one when the bounds are equal (R314). -/
def wider (a b : HallRec) : HallRec := if b.bound < a.bound then a else b

/-- The frame has left: its stamp belongs to the attempt that completed (R272, R278). -/
def onTransmitComplete (port tb : Nat) (s : State) : State :=
  let x := s.port port
  match x.wire with
  | none => s
  | some f =>
      let stamp := x.txStamp tb
      let two := (f.kind = .sync || f.kind = .pdelayResp) && !f.oneStep && x.st = .up
      let g : TxFrame := { f with record := some (match f.record with | some r => wider r (s.carried port) | none => s.carried port) }
      let s1 := s.onPort port fun y => { y with
        wire := none, sent := some ({ f with octets := s.octetsOf port f stamp }, stamp), follow := if two then y.follow ++ [(g, stamp)] else y.follow }
      let s2 := (((s1.dropFrame f).followShapers port f).countTx port f.len).stamped port
      match f.desc with
      | none => s2
      | some (hd, place) =>
        let tsv := f.tsreq && x.st = .up
        let (ns, fr) := ns32Of stamp
        s2.backDesc hd place { status := 0, tsv := tsv, attempts := f.attempts, cookie := f.cookie, ns32 := if tsv then ns else 0, frac := if tsv then fr else 0 }

/-- TRANSMIT_START (R384). -/
def execTransmitStart (port : Nat) (s : State) : Host.Outcome State Fault Refusal :=
  .next (if s.alive then onTransmitStart port s else s)

/-- TRANSMIT_COMPLETE (R290). -/
def execTransmitComplete (port tb : Nat) (s : State) : Host.Outcome State Fault Refusal :=
  .next (if s.alive then onTransmitComplete port tb s else s)


/-! ### Port-ring doorbells (R449, R590) -/

/-- A doorbell of a port ring: descriptors become available (R288, R590). -/
def onPringDb (fn handle tail : Nat) (descs : List TxDesc) (s : State) : State :=
  if !s.fnEnabled fn || (s.fn fn).frozen || 65536 ≤ tail then s
  else
    match s.pring handle with
    | none => s.freezeFn fn 1 (0x8000 + 8 * handle)
    | some r =>
      if r.owner != fn then s.freezeFn fn 1 (0x8000 + 8 * handle)
      else
        let n := (tail + 65536 - r.tail) % 65536
        let out := (tail + 65536 - r.done % 65536) % 65536
        if (r.tail + 65536 - r.done % 65536) % 65536 + n != out || 2 ^ r.n < out || descs.length != n then s.onFn fn fun x => { x with ignored := x.ignored + 1 }
        else if s.masterFrozen fn 1 handle then s.onFn fn fun x => { x with ignored := x.ignored + 1 }
        else (s.onPring handle fun q => { q with tail := tail, descs := q.descs ++ descs }).feed handle (r.descs.length + n)

/-- PRING_DB (R590). -/
def execPringDb (fn handle tail : Nat) (descs : List TxDesc) (s : State) : Host.Outcome State Fault Refusal :=
  .next (if s.alive then onPringDb fn handle tail descs s else s)


end Sys2Proof.Machine
end

