-- ==== Sys2Proof/Machine/StaOps.lean ====
section
/-! DEFINITION. The slot-table arbiter, the Signet pool and the isolation condition (R37, R339-R341, R387-R393, R406). -/

namespace Sys2Proof.Machine

/-! ### The slot table (R387, R391) -/

/-- Requester numbers of the Time Core and the Locket (R387). -/
def reqTime : Nat := 64
def reqLocket : Nat := 65

/-- The owner of a fixed entry (R387). -/
def fixedOwner (e : Nat) : Option Nat :=
  if e = 0 || e = 256 then some 64 else if e = 64 || e = 192 || e = 320 || e = 448 then some 65 else none

/-- The owner of an entry in a copy (R387). -/
def StaTable.at (t : StaTable) (e : Nat) : Nat := (fixedOwner e).getD (t.owner.look 127 e)

/-- Entries of the table. -/
def staEntries : List Nat := List.range 512

/-- The background weight of a requester in a copy (R387). -/
def StaTable.weightOf (t : StaTable) (r : Nat) : Nat := if 64 ≤ r then 255 else t.weight.look 16 r

/-- The entries a reservation receives (R391). -/
def entriesFor (beats : Nat) : Nat := (beats * 512 + 374999999) / 375000000

/-- The first free position at or after an ideal one, wrapping past 511 (R391). -/
def placeFrom (t : Tab Nat) (e fuel : Nat) : Option Nat :=
  match fuel with
  | 0 => none
  | k + 1 => if (fixedOwner e).isNone && t.look 127 e = 127 then some e else placeFrom t ((e + 1) % 512) k

/-- Places one bezel's n entries (R391). -/
def placeBezel (t : Tab Nat) (b n : Nat) : Tab Nat :=
  (List.range n).foldl (fun (u : Tab Nat) j => match placeFrom u ((2 * j + 1) * 512 / (2 * n) % 512) 512 with
    | some e => u.put e b
    | none => u) t

/-- Bezels in descending number of entries, of equal numbers the lower bezel first (R391). -/
def insertBezel (x : Nat × Nat) : List (Nat × Nat) → List (Nat × Nat)
  | [] => [x]
  | y :: r => if y.2 < x.2 || (y.2 = x.2 && decide (x.1 < y.1)) then x :: y :: r else y :: insertBezel x r

/-- The whole table laid out afresh from the reservations (R391). -/
def layTable (reserve : Tab Nat) : Tab Nat :=
  let l := ((reserve.map fun p => (p.1, entriesFor p.2)).filter fun p => 0 < p.2).foldl (fun (a : List (Nat × Nat)) x => insertBezel x a) []
  l.foldl (fun (t : Tab Nat) p => placeBezel t p.1 p.2) []

/-! ### Engines and reservations (R341, R393) -/

/-- An engine. -/
def State.eng16 (s : State) (n : Nat) : SigEngine := s.sta.engines.look {} n
def State.onEng16 (s : State) (n : Nat) (f : SigEngine → SigEngine) : State := s.onSta fun x => { x with engines := x.engines.upd {} n f }

/-- Engines in service. -/
def State.enginesUp (s : State) : Nat := ((List.range 16).filter fun n => (s.eng16 n).inService).length

/-- A bezel's Signet reservation is met (R393). -/
def State.resMet (s : State) (b : Nat) : Bool :=
  let r := s.sta.reserve.look 0 b
  decide (r * 512 ≤ entriesFor r * min 15 s.enginesUp * 25000000)

/-- The first failed condition of R406, in its order from 1; 0 where all hold. -/
def State.isoFail (s : State) (b : Nat) : Nat :=
  let res := (s.tmBez b).reserve
  let m := s.tm.bezMeters.look {} b
  if s.sta.reserve.look 0 b = 0 || !s.resMet b then 1
  else if res = 0 then 2
  else if m.mode = 0 || !m.packets then 3
  else if res < 64 * (m.cbs + (m.cir * 54613 + 999999999) / 1000000000) then 4
  else 0

/-- ISOLATED is evaluated again for every bezel; each change raises an event (R406). -/
def State.isolate (s : State) : State :=
  s.bezels.foldl (fun (t : State) b =>
    let f := t.isoFail b
    let iso := decide (f = 0)
    let was := (t.bezel b).isolated
    let t1 := if (t.bezel b).failed = f && was = iso then t else t.onBezel b fun z => { z with isolated := iso, failed := f }
    if was = iso then t1 else t1.raise [b, 0] 0x2301 [fld 8 b, bit iso, rsv 7, fld 8 f]) s

/-- Every reservation is evaluated again: one event for each bezel whose reservation is no longer met, or met again (R37, R393). -/
def State.weighReservations (s : State) : State :=
  let s1 := s.bezels.foldl (fun (t : State) b =>
    let met := t.sta.reserve.look 0 b = 0 || t.resMet b
    let was := !decide (b ∈ t.sta.unmet)
    if met = was then t
    else (t.onSta fun x => { x with unmet := if met then x.unmet.filter (· != b) else x.unmet ++ [b] }).raise [b, 0] 0x2501
      [fld 8 b, bit met, rsv 7, fld 8 t.enginesUp]) s
  s1.isolate

/-! ### Jobs (R339, R340, R389, R390) -/

/-- Beats of an operation on n bytes (R339): `hmac`, and `wide` for AES-256 or AES-SIV-CMAC-512. -/
def beatsOf (hmac wide : Bool) (n : Nat) : Nat :=
  let b := max 2 ((n + 63) / 64 + (if hmac then 1 else 0))
  if wide then (b * 3 + 1) / 2 else b

/-- A requester has a job waiting. -/
def State.hasJob (s : State) (r : Nat) : Bool := s.sta.jobs.any fun j => j.req = r

/-- The least background counter among requesters with jobs waiting (R389). -/
def State.leastCounter (s : State) : Nat :=
  match s.sta.jobs with
  | [] => 0
  | j :: r => r.foldl (fun m x => min m (s.sta.counter.look 0 x.req)) (s.sta.counter.look 0 j.req)

/-- A job joins the waiting ones (R389). -/
def State.addJob (s : State) (j : SigJob) : State :=
  let c := if s.hasJob j.req || s.sta.jobs.isEmpty then s.sta.counter.look 0 j.req else max (s.sta.counter.look 0 j.req) s.leastCounter
  s.onSta fun x => { x with
    jobs := x.jobs ++ [{ j with serial := x.serial }], serial := x.serial + 1
    counter := if c = x.counter.look 0 j.req then x.counter else x.counter.put j.req c }

/-- The credit of a requester. -/
def State.creditOf (s : State) (r : Nat) : Int := s.sta.credit.look 0 r

/-- A requester is frozen (R388, R396). -/
def State.reqFrozen (s : State) (r : Nat) : Bool := decide (r < 64) && (s.fn r).frozen

/-- The oldest job of a list, of equal age the lower requester. -/
def oldest (l : List SigJob) : Option SigJob :=
  l.foldl (fun (o : Option SigJob) j => match o with
    | none => some j
    | some x => if j.serial < x.serial || (j.serial = x.serial && decide (j.req < x.req)) then some j else o) none

/-- The background candidate (R389): the requester with the lowest counter, of equal ones the lower number, and its oldest job. -/
def State.backgroundPick (s : State) : Option SigJob :=
  let l := s.sta.jobs.filter fun j => decide (j.beats ≤ 32) && decide (0 < s.sta.active.weightOf j.req) && !s.reqFrozen j.req
  let best := l.foldl (fun (o : Option Nat) j => match o with
    | none => some j.req
    | some r =>
      let a := s.sta.counter.look 0 j.req
      let b := s.sta.counter.look 0 r
      if a < b || (a = b && decide (j.req < r)) then some j.req else o) none
  match best with
  | none => none
  | some r => oldest (l.filter fun j => j.req = r)

/-- The job a deciding engine takes (R389): a reissue (0), a credited job (1) or a background job (2). A job is reissued on another engine than
the one it failed on (R340). -/
def State.pickJob (s : State) (engine : Nat) : Option (SigJob × Nat) :=
  match s.sta.reissue.find? fun j => j.failedOn != some engine with
  | some j => some (j, 0)
  | none =>
    match oldest (s.sta.jobs.filter fun j => (j.green || decide (64 ≤ j.req)) && decide (1 ≤ s.creditOf j.req) && !s.reqFrozen j.req) with
    | some j => some (j, 1)
    | none => s.backgroundPick.map fun j => (j, 2)

/-- A job leaves the lists of waiting jobs. -/
def State.dropJob (s : State) (j : SigJob) : State :=
  s.onSta fun x => { x with jobs := x.jobs.filter fun (y : SigJob) => y.serial != j.serial, reissue := x.reissue.filter fun (y : SigJob) => y.serial != j.serial }

/-- The requester of a job is charged (R389). -/
def State.chargeJob (s : State) (j : SigJob) (how : Nat) : State :=
  if how = 1 then
    let c := max (-256) (s.creditOf j.req - (j.beats : Int))
    s.onSta fun x => { x with credit := x.credit.put j.req c, debited := x.debited.upd 0 j.req (· + (s.creditOf j.req - c).toNat) }
  else if how = 2 then
    let w := s.sta.active.weightOf j.req
    s.onSta fun x => { x with counter := x.counter.upd 0 j.req (· + (j.beats * 65536 + w - 1) / w) }
  else s

/-- A requester that takes a job of its own, with no exchange behind it, is charged for the beats (R387, R389): from its credit while that is at least
1, else from background. -/
def State.chargeBeats (s : State) (r beats : Nat) : State :=
  s.chargeJob { req := r, beats := beats } (if 1 ≤ s.creditOf r then 1 else 2)

/-- Entries until a requester's next owned one; 511 where it owns none (R390). -/
def State.untilOwned (s : State) (r : Nat) : Nat := ((List.range 511).find? fun k => s.sta.active.at ((s.sta.pointer + k) % 512) = r).getD 511

/-- The requesters with a job waiting. -/
def State.waitingReqs (s : State) : List Nat := (s.sta.jobs.map (·.req)).eraseDups

/-- The jobs of the next two decisions as things stand (R390). -/
def State.nextTwo (s : State) (engine : Nat) : List SigJob :=
  match s.pickJob engine with
  | none => []
  | some (j, _) => j :: match (s.dropJob j).pickJob engine with | none => [] | some (k, _) => [k]

/-- A decision's hints (R390): every requester with a job still waiting learns its credit and the distance of its next entry, and the key caches
fetch ahead the key of its head job where its turn is within the next two decisions. -/
def State.giveHints (s : State) (engine : Nat) : State :=
  if s.sta.jobs.isEmpty then s
  else
    let near := (s.nextTwo engine).filterMap fun j => (oldest (s.sta.jobs.filter fun k => k.req = j.req)).map (·.slot)
    s.onSta fun x => { x with
      hints := s.waitingReqs.foldl (fun t r => t.put r (s.creditOf r, s.untilOwned r)) x.hints
      cached := (x.cached ++ near).eraseDups }

/-- The pointer passes one entry (R388). -/
def State.passEntry (s : State) : State :=
  let e := s.sta.pointer
  let o := s.sta.active.at e
  let grant := !(o = 127) && !s.reqFrozen o && decide (s.creditOf o < 64)
  s.onSta fun x =>
    let y : StaSt := { x with pointer := (e + 1) % 512, passed := x.passed + 1 }
    if grant then { y with credit := y.credit.upd 0 o (· + 1), granted := y.granted.upd 0 o (· + 1) } else { y with background := y.background + 1 }

/-- The shadow becomes active (R392). -/
def State.applyCommit (s : State) : State := s.onSta fun x => { x with active := x.shadow, commit := false }

/-- n entries pass; a commit takes effect in the cycle in which the pointer reaches entry 0 (R388, R392). -/
def State.passEntries (s : State) (n : Nat) : State :=
  match n with
  | 0 => s
  | k + 1 =>
    let s1 := s.passEntry
    (if s1.sta.pointer = 0 && s1.sta.commit then s1.applyCommit else s1).passEntries k

end Sys2Proof.Machine
end

