-- ==== Sys2Proof/Machine/TseOps.lean ====
section
/-! DEFINITION. The Time Service Engine's operations (chapter 10): services, the data sets and timestamps of its messages, grants,
seals, the exchange through the Signets and the hand-over to the traffic manager. -/

namespace Sys2Proof.Machine

/-! ### Services (R296-R298) -/

/-- A service by number. -/
def State.svc (s : State) (n : Nat) : Option Service := s.tse.services.look none n
def State.onSvc (s : State) (n : Nat) (f : Service → Service) : State := s.onTse fun x => { x with services := x.services.upd none n (Option.map f) }

/-- Every service with its number. -/
def State.allSvcs (s : State) : List (Nat × Service) := s.tse.services.filterMap fun p => p.2.map fun v => (p.1, v)

/-- Counts on a service: 0 answered, 1 originated, 2 foreign Announces, 3 drops. -/
def State.countSvc (s : State) (n k : Nat) : State := s.onSvc n fun v => { v with cnt := v.cnt.upd 0 k (· + 1) }

/-- The service is an NTP server; it has a transport (R306, R481). -/
def Service.isNtp (v : Service) : Bool := v.cfg.profile = 8
def Service.over (v : Service) (transport : Nat) : Bool := nbit v.cfg.transport transport

/-- The device runs its network services: in RUN and DEGRADED alone (R49, R509). -/
def State.network (s : State) : Bool := s.pwr.st = .run || s.pwr.st = .degraded

/-- A unit that takes over the partner's state serves no time (R28). -/
def State.joining (s : State) : Bool := s.clasp.st = .transfer

/-- A service serves in its SERVE states (R298), while the device serves time at all (R28, R49, R531). -/
def State.serves (s : State) (v : Service) : Bool :=
  nbit v.cfg.serve s.tc.ts.code && s.tc.ts != .lost && !s.fault.fatal && s.network && !s.joining

/-- No time-bearing frame leaves on a port and no request there is answered with time: in LOST (R298), after a fatal fault (R531), without network
services (R49), in a unit that joins (R28), and on paired ports in UNPAIRED_STANDBY (R442). -/
def State.mute (s : State) (p : Nat) : Bool :=
  s.tc.ts = .lost || s.fault.fatal || !s.network || s.joining || (s.clasp.st = .unpairedStandby && s.claspUses p)

/-- The pipeline context of a service is frozen (R45, R408). -/
def State.contextFrozen (s : State) (n : Nat) (v : Service) : Bool := decide (3 * 65536 + n ∈ (s.bezel v.bezel).frozen)

/-- PTP services of a port (R301). -/
def State.ptpOn (s : State) (p : Nat) : List (Nat × Service) := s.allSvcs.filter fun q => !q.2.isNtp && decide (p ∈ q.2.cfg.ports)

/-- The service a PTP message belongs to (R328). -/
def State.ptpSvc (s : State) (p : Nat) (m : PtpMsg) : Option (Nat × Service) :=
  (s.ptpOn p).find? fun q => q.2.cfg.domain = m.domain && q.2.cfg.sdoId = m.sdoId && q.2.over m.transport && (!m.unicast || q.2.over 3 || m.transport = 0)

/-- The NTP service of a port. -/
def State.ntpSvc (s : State) (p : Nat) : Option (Nat × Service) := s.allSvcs.find? fun q => q.2.isNtp && decide (p ∈ q.2.cfg.ports)

/-! ### Timestamps and residuals (R308, R312, R317) -/

/-- An NTP timestamp of an instant: seconds, fraction and residual in 2^-32 ns (R312, R317). -/
def State.ntpStamp (s : State) (u : Nat) : Nat × Nat × Int :=
  let part := u % unitsPerSec
  let f := (part * 2 ^ 33 + unitsPerSec) / (2 * unitsPerSec)
  let sec := s.scaleSec .utc (u / unitsPerSec) + 2208988800 + f / 2 ^ 32
  (sec % 2 ^ 32, f % 2 ^ 32, (part : Int) * 4096 - (f : Int) * 1000000000)

/-! ### Data sets (R306, R307, R311) -/

/-- The bound values of the clockAccuracy codes from 0x17, ps (IEEE 1588-2019; R307 gives the ends). -/
def accuracySteps : List Nat :=
  [1, 2, 10, 25, 100, 250, 1000, 2500, 10000, 25000, 100000, 250000, 1000000, 2500000, 10000000, 25000000, 100000000, 250000000, 1000000000,
   2500000000, 10000000000]

/-- clockAccuracy (R307): 2.5 ps covers a whole-picosecond bound of 2. -/
def accuracyOf (bound : Nat) : Nat :=
  if bound = 0xFFFFFFFF then 0xFE
  else match (zipIdx accuracySteps).find? (fun p => decide (bound ≤ p.2)) with
    | some p => 0x17 + p.1
    | none => 0x31

/-- clockClass (R307). -/
def classOf (profile hold : Nat) (r : HallRec) : Nat :=
  if r.state = 2 then 6
  else if r.state = 3 then (if r.bound ≤ hold then 7 else if profile = 3 || profile = 4 then 140 else 52)
  else 248

/-- timeSource of a source class (R307). -/
def timeSourceOf (src : Nat) : Nat :=
  if src ≤ 1 then 0x20 else if src = 2 then 0x40 else if src = 3 then 0x50 else if src = 4 then 0x90 else if src = 5 then 0x10 else 0xA0

/-- The data set an Announce carries (R298, R306, R307): class, accuracy, variance, priorities, timeSource, UTC offset and its validity, leap61,
leap59, timeTraceable, frequencyTraceable, ptpTimescale, identity, stepsRemoved and totalTimeInaccuracy in ns. -/
def State.dataSet (s : State) (v : Service) (r : HallRec) : Rec :=
  let un := r.bound = 0xFFFFFFFF
  let ok := s.serves v
  let tr := (r.state = 2 || r.state = 3) && !un
  [fld 8 (if ok then classOf v.cfg.profile v.cfg.holdSpec r else 248), fld 8 (if ok then accuracyOf r.bound else 0xFE),
   fld 16 (if ok && !un then v.cfg.variance else 0xFFFF), fld 8 v.cfg.priority1, fld 8 v.cfg.priority2, fld 8 (timeSourceOf r.src),
   (16, s.taiUtc), bit (!s.tc.leap.isEmpty), bit r.leap61, bit r.leap59, bit tr, bit tr, bit true, fld 64 v.cfg.identity, fld 16 0]
  ++ (if v.cfg.profile = 5 then [fld 32 (if un then 0xFFFFFFFF else (r.bound + 999) / 1000)] else [])

/-- The four octets of the reference ID (R311). -/
def State.refIdOf (s : State) (src : Nat) : Nat :=
  if src ≤ 1 then
    (if s.gnss.refSys = 1 then 0x47414C00 else if s.gnss.refSys = 2 then 0x42445300 else 0x47505300)
  else if src = 2 then 0x50545000
  else if src = 3 then
    let c := (s.nrefIn (s.ens.srcRef - 32)).cfg
    if c.addrKind = 6 then Config.md5First c.address % 2 ^ 32 else c.address % 2 ^ 32
  else if src = 4 then 0x50505300
  else if src = 7 then 0x46524545
  else 0x484F4C44

/-- The stratum of an NTP upstream (R100, R311). -/
def State.upStratum (s : State) : Nat := ((s.nrefIn (s.ens.srcRef - 32)).ident.getD 0) % 256

/-- Root dispersion in NTP short format (R311). -/
def rootDispersion (bound : Nat) : Nat :=
  if bound = 0xFFFFFFFF then 0xFFFFFFFF else (((bound : Rat) * 65536 / 1000000000000 + 1 / 131072).ceil).toNat

/-- LI of an NTP response (R298, R311). -/
def State.leapOf (s : State) (v : Service) (r : HallRec) : Nat :=
  if r.bound = 0xFFFFFFFF || !s.serves v || s.tc.leap.isEmpty then 3 else if r.leap61 then 1 else if r.leap59 then 2 else 0

/-- The fields of an NTP response that its record and service give (R311): LI, version, mode, stratum, poll, precision, root delay, root dispersion,
reference ID, reference timestamp, origin and receive timestamps. The transmit timestamp follows when L is chosen (R313). -/
def State.ntpFields (s : State) (v : Service) (m : NtpReq) (r : HallRec) (rx : Nat) : Rec :=
  let li := s.leapOf v r
  let stratum := if li = 3 then 16 else if r.src = 3 then min 15 (s.upStratum + 1) else 1
  let t2 := s.ntpStamp rx
  let issue := (s.scaleSec .utc (s.sec / 2 ^ 32 * 2 ^ 32 + r.issueSec) + 2208988800) % 2 ^ 32
  [fld 2 li, fld 3 m.version, fld 3 4, fld 8 stratum, fld 8 m.poll, (8, -32), fld 32 0, fld 32 (rootDispersion r.bound),
   fld 32 (s.refIdOf r.src), fld 32 issue, fld 32 (r.issueSub * 2 ^ 24), fld 64 m.xmt, fld 32 t2.1, fld 32 t2.2.1]

/-! ### Lengths (IEEE 802.3, IP, UDP, IEEE 1588 and RFC 8915 headers) -/

/-- The length of a frame with FCS that carries `n` octets over a transport (0 Ethernet, 1 IPv4, 2 IPv6). -/
def wireLen (transport n : Nat) : Nat := max 64 (n + 18 + (if transport = 1 then 28 else if transport = 2 then 48 else 0))

/-- Octets of a PTP message: its body, the Hallmark TLV and the AUTHENTICATION TLV (R315, R324). -/
def ptpLen (k : TxKind) (hall auth c37 : Bool) : Nat :=
  (match k with | .announce => 64 | .sync => 44 | .followUp => 44 | .grant => 56 | .cancel => 50 | .ackCancel => 50 | .signaling => 58 | _ => 54)
  + (if hall then 50 else 0) + (if auth then 26 else 0) + (if c37 then 22 else 0)

/-! ### Hand-over to the traffic manager (R327, R372) -/

/-- The PRP pair of a port (R325). -/
def State.prpOf (s : State) (p : Nat) : Option PrpPair := s.ports.prp.find? fun x => x.a = p || x.b = p

/-- The pair's next RCT sequence number is used. -/
def State.bumpRct (s : State) (p : Nat) : State :=
  s.onPorts fun x => { x with prp := x.prp.map fun (q : PrpPair) => if q.a = p || q.b = p then { q with seq := (q.seq + 1) % 65536 } else q }

/-- A frame the TSE has built is handed to the traffic manager (R327, R372), none in BOOT and in RESTRICTED but the refusal of a connection (R49, R509): a PRP pair sends frames that bear no time on both ports with one RCT,
and an NTP response with an RCT on the port that received the request. -/
def State.hand (s0 : State) (p : Nat) (f : TxFrame) : State :=
  if !s0.network && !(s0.pwr.st = .restricted && f.kind = .keyEstablishment) then s0 else
  let s := s0
  let s1 := if f.kind.timed then s.countBezel f.bezel 23 else s
  match s.prpOf p with
  | none => s1.enqueue p f
  | some q =>
    if f.kind = .arp || f.kind = .neighbour || f.kind = .echo || f.kind = .membership || f.kind = .keyEstablishment then
      let g : TxFrame := { f with rct := some q.seq, len := f.len + 6 }
      ((s1.enqueue q.a g).enqueue q.b g).bumpRct p
    else s1.enqueue p f

/-! ### Input queues (R302, R303) -/

/-- The pipeline of a frame's source (R302). -/
def pipeOf (f : RxFrame) : Nat :=
  (if f.family = 0 then Config.pipeHash f.src 0 0 else Config.pipeHash 0 f.sip f.sport) % 4

/-- A pipeline's input queue. -/
def State.input (s : State) (pipe : Nat) : List TseIn := s.tse.inputs.look [] pipe

/-- A bezel's share of each input queue (R303, R405). -/
def State.share (s : State) (b : Nat) : Nat := (s.tmBez b).reserve / 16

/-- The frame is admitted to its input queue (R303, R377). -/
def State.admits (s : State) (pipe b : Nat) (c : Colour) : Bool :=
  let l := s.input pipe
  let mine := (l.filter fun x => x.bezel = b).length
  let sh := s.share b
  if l.length ≥ 4096 then false
  else if c = .yellow then decide (4 * mine < 3 * sh)
  else if mine < sh then true
  else
    let shared := 4096 - (s.tm.bezels.map fun q => q.2.reserve / 16).sum
    let used := (s.bezels.map fun x => ((l.filter fun e => e.bezel = x).length) - s.share x).sum
    decide (used < shared)

/-- Kinds of frame the TSE tells apart (R299, R300). -/
def isPtp (f : RxFrame) : Bool := f.etherType = 0x88F7 || (f.family != 0 && f.proto = 17 && (f.dport = 319 || f.dport = 320))
def isNtp (f : RxFrame) : Bool := f.family != 0 && f.proto = 17 && f.dport = 123
def isArp (f : RxFrame) : Bool := f.etherType = 0x0806
def isKe (f : RxFrame) : Bool := f.family != 0 && f.proto = 6 && f.dport = 4460

/-- The oldest frame of a port in a pipeline's queue for which `p` holds, and the queue without it. -/
def pullFrom (l : List TseIn) (p : TseIn → Bool) : Option (TseIn × List TseIn) :=
  match l with
  | [] => none
  | x :: r => if p x then some (x, r) else (pullFrom r p).map fun q => (q.1, x :: q.2)

/-- A frame takes an issue slot of its pipeline (R302). DEDUCED (assumption 164): the slots since it joined the queue, or since the last frame was
issued, in which it waited are BACK_STARVED (R545), and count in the window in which it is issued. -/
def State.issue (s : State) (pipe : Nat) (e : TseIn) : State :=
  let now := s.pcyc / 16
  (s.onTse fun x => { x with issued := x.issued.put pipe (now + 1) }).derive 256 2 3 (now - max (e.at_ / 16 + 1) (s.tse.issued.look 0 pipe))

/-- The next frame of a port of a kind leaves its input queue. -/
def State.pull (s : State) (port : Nat) (kind : RxFrame → Bool) : Option (Nat × TseIn × State) :=
  [0, 1, 2, 3].findSome? fun pipe =>
    (pullFrom (s.input pipe) fun x => x.port = port && kind x.f).map fun q =>
      (pipe, q.1, (s.onTse fun x => { x with inputs := x.inputs.put pipe q.2 }).issue pipe q.1)

/-- The cells of a received frame are freed. -/
def State.freeRx (s : State) (e : TseIn) : State := s.freeCells e.bezel (cellsOf e.f.len)

/-! ### Grants and seals (R318-R322) -/

/-- A grant entry. -/
def State.grant (s : State) (n : Nat) : Grant := s.tse.grants.look {} n
def State.onGrant (s : State) (n : Nat) (f : Grant → Grant) : State := s.onTse fun x => { x with grants := x.grants.upd {} n f }

/-- A client's entry with a service. -/
def State.grantOf (s : State) (svc client : Nat) : Option (Nat × Grant) :=
  s.tse.grants.find? fun q => q.2.granted != 0 && q.2.service = svc && q.2.client = client

/-- Entry of another client with the same TAG (R319). -/
def State.tagTaken (s : State) (client : Nat) : Bool :=
  s.tse.grants.any fun q => q.2.granted != 0 && q.2.tag = Config.grantTag client % 2 ^ 48 && q.2.client != client

/-- Entries a bezel uses (R400). -/
def State.grantsUsed (s : State) (b : Nat) : Nat := (s.tse.grants.filter fun q => q.2.granted != 0 && q.2.bezel = b).length

/-- A free entry. -/
def State.freeGrant (s : State) : Option Nat :=
  let used := s.tse.grants.filter fun q => q.2.granted != 0
  if 1048576 ≤ used.length then none else (List.range (used.length + 1)).find? fun n => (s.grant n).granted = 0

/-- A message from the client is served under a grant of a type (R320): bit 0 Announce, 1 Sync, 2 Delay_Resp. -/
def Grant.covers (g : Grant) (type rx : Nat) : Bool := nbit g.granted type && decide (rx < (g.expiry + 1) * unitsPerSec)

/-- Message types of an entry end; it frees when none is left (R320). -/
def State.endGrant (s : State) (n types : Nat) : State :=
  s.onGrant n fun g =>
    let left := (List.range 3).foldl (fun a i => if nbit g.granted i && !nbit types i then a + 2 ^ i else a) 0
    if left = 0 then {} else { g with granted := left }

/-- Seals of a bezel. -/
def State.seal (s : State) (b : Nat) : SealSt := s.tse.seals.look {} b

/-- The generation test of R322 by the receive stamp. -/
def SealSt.genOk (x : SealSt) (gen rx : Nat) : Bool :=
  if rx < x.since * unitsPerSec then gen + 1 = x.gen || gen + 2 = x.gen else gen = x.gen || gen + 1 = x.gen

/-- The slot of a seal key (R347). -/
def sealSlot (b gen : Nat) : Nat := 192 + 2 * b + gen % 2

/-- What a seal must show besides its SIV (R322, R324). -/
def State.tokenOk (s : State) (b svc kind rx : Nat) (k : SealTok) : Bool :=
  (s.seal b).genOk k.keyGen rx && k.kind = kind && k.bezel = b && k.service = svc && decide (rx / unitsPerSec % 2 ^ 32 ≤ k.expiry)

/-- The keyID of a service's key (R366). -/
def State.keyIdOf (s : State) (k : Nat) : Nat := k + (s.key k).gen % 65536 * 4096

/-! ### Exchanges (R302-R304, R338-R340) -/

/-- The AES-256 and SIV-512 operations take half as long again (R339). -/
def State.wideKey (s : State) (k : Nat) : Bool := decide ((s.key k).alg ∈ [2, 4])

/-- An operation with a slot, in beats. -/
def State.opBeats (s : State) (k n : Nat) : Nat := beatsOf ((s.key k).alg = 5) (s.wideKey k) n

/-- The key of a seal stands in no slot; its operations use the client's algorithm (R321). -/
def sealedKey : Nat := 4096

/-- USAGE bit an operation needs (R348). -/
def stepUsage : SigStep → Nat
  | .verify => 1 | .openSeal => 10 | .sealCookies => 10 | .sign => 0

/-- The first remaining operation of an exchange joins the waiting jobs, or is dropped where the bezel's wait list is full (R390). -/
def State.nextJob (s : State) (w : Work) : State :=
  match w.steps with
  | [] => s
  | (st, slot, beats) :: _ =>
    let blocked := decide (s.creditOf w.bezel < 1) && !(decide (beats ≤ 32) && decide (0 < s.sta.active.weightOf w.bezel))
    let waiting := (s.sta.jobs.filter fun j => j.req = w.bezel && (match j.work with
      | some id => (s.tse.works.any fun x => x.id = id && x.pipe = w.pipe) | none => false)).length
    if blocked && 32 ≤ waiting then
      (((s.onTse fun x => { x with works := x.works.filter fun (y : Work) => y.id != w.id }).countBezel w.bezel 13).slotWasted w.bezel).freeCells w.bezel
        (if w.resp.isNone then cellsOf w.len else 0)
    else s.addJob { req := w.bezel, beats := beats, green := w.colour = .green, slot := slot, usage := stepUsage st, work := some w.id }

/-- The exchange ends without an answer (R304). -/
def State.dropWork (s : State) (w : Work) : State :=
  ((((s.onTse fun x => { x with works := x.works.filter fun (y : Work) => y.id != w.id }).slotWasted w.bezel).countSvc w.service 3)).freeCells w.bezel
    (if w.resp.isNone then cellsOf w.len else 0)

/-- Error signalling (R330): at most one to a sender in a second. -/
def State.signal (s : State) (p svc client code seq : Nat) : State :=
  match s.svc svc with
  | none => s
  | some v =>
    if v.cfg.signalErr = 0 || v.signalled.any (fun q => q.1 = client && q.2 = s.sec) then s
    else
      let s1 := s.onSvc svc fun x => { x with signalled := (x.signalled.filter fun q => q.1 != client && q.2 = s.sec) ++ [(client, s.sec)] }
      s1.hand p { kind := .signaling, bezel := v.bezel, sub := s.defaultSub v.bezel, cls := v.cfg.cls, len := wireLen 0 (ptpLen .signaling false false false),
                  service := svc, client := client, seq := seq, body := [fld 16 0x8000, fld 16 10, fld 24 0x2CF4D9, fld 24 3, fld 16 code, fld 16 seq] }

/-- The fields of a launch-time response that depend on L are written when its position is chosen (R313, R316). -/
def State.stampLaunch (s : State) (f : TxFrame) (l : Nat) : TxFrame :=
  let t3 := s.ntpStamp l
  { f with launch := some l, body := f.body.take 14 ++ [fld 32 t3.1, fld 32 t3.2.1], res2 := t3.2.2 }

/-- A launch-time response takes its launch position (R313, R385) and is counted as handed over. -/
def State.place (s0 : State) (p : Nat) (f : TxFrame) : State :=
  let s := s0.countBezel f.bezel 23
  let l := s.tc.mtc.units + (s.port p).margin * 1048576 + Config.startSlack s.free
  let charge := fun (t : State) (kind i : Nat) =>
    let r := t.shaperRate kind i
    if r = 0 then t
    else t.onShaper kind i fun x =>
      let y := x.run r t.pcyc
      let raw := y.credit - ((f.len + 20) * packetHz : Nat)
      let c := max raw (min y.credit (y.low * packetHz))
      { y with credit := c, sent := y.sent + (f.len + 20) * packetHz, cut := y.cut + (raw - c) }
  let s1 := charge (charge (charge s.nextFree 0 f.sub) 1 (p * 8 + f.cls)) 2 p
  s1.onPort p fun x => { x with launches := x.launches ++ [s.stampLaunch f l] }

/-- The three shapers of a frame pass it (R384, R385). -/
def State.eligible (s : State) (p : Nat) (f : TxFrame) : Bool :=
  decide (0 ≤ s.credit 0 f.sub) && decide (0 ≤ s.credit 1 (p * 8 + f.cls)) && decide (0 ≤ s.credit 2 p)

end Sys2Proof.Machine
end

