-- ==== Sys2Proof/Machine/FrameIn.lean ====
section
/-! DEFINITION. A received frame at its port: line checks, duplicate discard, acceptance, host rings and the pipeline inputs (R262-R265,
R289, R291, R299-R303, R326, R376-R380). -/

namespace Sys2Proof.Machine

/-- The port whose addresses and MAC address a port uses: LAN A of a PRP pair (R325). -/
def State.homePort (s : State) (p : Nat) : Nat := match s.prpOf p with | some q => q.a | none => p

/-- The addresses of a port. -/
def State.addrsOf (s : State) (p : Nat) : List PortAddr := (s.port (s.homePort p)).addrs.map fun (q : Nat × PortAddr) => q.2

/-- The IPv6 link-local address of a port (R299), formed of its MAC address. PRESUMED (assumption 154): as RFC 4291 forms it. -/
def linkLocal (mac : Nat) : Nat :=
  0xFE80 * 2 ^ 112 + (mac / 2 ^ 24 ^^^ 0x020000) * 2 ^ 40 + 0xFFFE * 2 ^ 24 + mac % 2 ^ 24

/-- The addresses a port answers for: those configured, and its link-local address untagged. -/
def State.ownAddrs (s : State) (p : Nat) : List PortAddr :=
  s.addrsOf p ++ [{ family := 6, addr := linkLocal (s.port (s.homePort p)).mac }]

/-- The counter of the line check a frame fails (R262, R282). -/
def lineCheck (x : PortSt) (f : RxFrame) : Option Nat :=
  if x.cal.running then some 22 else if f.fecErr then some 6 else if f.codeErr then some 5 else if !f.fcsOk then some 4
  else if f.len < 64 then some 7 else none

/-- The node-table entries that are not yet forgotten (R326). -/
def PrpPair.live (q : PrpPair) (now : Nat) : List (Nat × Nat × Nat) := q.seen.filter fun x => decide (now < x.2.2 + q.forget * 1000000)

/-- Duplicate discard (R326): whether the frame is kept, and the state with its node-table entry. -/
def State.prpKeep (s : State) (p : Nat) (f : RxFrame) : Bool × State :=
  match s.prpOf p, f.rct with
  | some q, some r =>
    if !r.sizeOk then (true, s)
    else
      let seen := q.live s.upNs
      let put := fun (l : List (Nat × Nat × Nat)) => s.onPorts fun x => { x with prp := x.prp.map fun (y : PrpPair) => if y.a = q.a then { y with seen := l } else y }
      if seen.any (fun x => x.1 = f.src && x.2.1 = r.seq) || (r.twin && p = q.b) then (false, (put seen).countPort p 28)
      else if !(seen.any fun x => x.1 = f.src) && decide (65536 ≤ (seen.map fun x => x.1).eraseDups.length) then (true, (put seen).countPort p 29)
      else (true, put (seen ++ [(f.src, r.seq, s.upNs)]))
  | _, _ => (true, s)

/-- A PTP service of the port works over a transport. -/
def State.ptpOver (s : State) (p t : Nat) : Bool := (s.ptpOn p).any fun q => q.2.over t

/-- The solicited-node multicast address of an IPv6 address. -/
def solicited (a : Nat) : Nat := 0xFF020000000000000000000100000000 + 0xFF000000 + a % 0x1000000

/-- The PTP multicast addresses (R299). -/
def ptpGroup (family a : Nat) : Bool :=
  (family = 4 && (a = 0xE0000181 || a = 0xE000006B)) ||
  (family = 6 && (a = 0xFF02 * 2 ^ 112 + 0x6B || (a % 2 ^ 112 = 0x181 && a / 2 ^ 116 = 0xFF0)))

/-- A port accepts a frame for the TSE (R299). In an ARP request `dip` is the address asked for. -/
def State.accepts (s : State) (p : Nat) (f : RxFrame) : Bool :=
  let l := s.addrsOf p
  let here := l.any fun a => a.vlan = f.vlan
  let ip := (s.ownAddrs p).any fun a => a.vlan = f.vlan && a.family = f.family && a.addr = f.dip
  (f.etherType = 0x88F7 && (f.dest = 0x011B19000000 || f.dest = 0x0180C200000E) && s.ptpOver p 0)
  || (ptpGroup f.family f.dip && s.ptpOver p (if f.family = 4 then 1 else 2))
  || (f.dest = (s.port (s.homePort p)).mac && (ip || (here && (isArp f || (f.family = 6 && f.icmp = 2)))))
  || (f.dest = 0xFFFFFFFFFFFF && isArp f && l.any fun a => a.family = 4 && a.vlan = f.vlan && a.addr = f.dip)
  || (f.family = 6 && f.icmp = 2 && (s.ownAddrs p).any fun a => a.family = 6 && a.vlan = f.vlan && solicited a.addr = f.dip)

/-- The TSE serves frames of this kind (R300). -/
def tseKind (f : RxFrame) : Bool := isPtp f || isNtp f || isKe f || isArp f || decide (f.icmp ∈ [1, 2, 3])

/-- A receive filter matches a frame (R289). -/
def PortFilter.hits (x : PortFilter) (f : RxFrame) : Bool :=
  (x.kind = 1 && f.etherType = x.value) || (f.family != 0 &&
    ((x.kind = 2 && f.proto = 17 && f.dport = x.value) || (x.kind = 3 && f.proto = 6 && f.dport = x.value) || (x.kind = 4 && f.proto = x.value)))

/-- The filter of lowest index that matches. -/
def State.filterOf (s : State) (p : Nat) (f : RxFrame) : Option (Nat × PortFilter) := (s.port p).filters.find? fun q => q.2.hits f

/-- A frame is for a VTAP of the port (R235, R299). -/
def State.forVtap (s : State) (p : Nat) (f : RxFrame) : Bool :=
  (List.range 8).any fun n => (s.tap (8 + n)).st != .off && (match (s.tap (8 + n)).vcfg with
    | some v => v.port = p && f.etherType = 0x88BA && v.dest = f.dest && v.appid = f.appid && v.svid = f.svid | none => false)

/-- The partner a frame comes from, as the log names it (R43). -/
def framePeer (f : RxFrame) : Nat := if f.family = 0 then f.src else f.sip

/-- The stored part of a frame goes into a host ring (R289, R291). -/
def State.toRing (s : State) (p i hd : Nat) (f : RxFrame) (trunc : Bool) : State :=
  match s.pring hd with
  | none => s.countPort p 11
  | some r =>
    if !r.rx || r.port != p || s.masterFrozen r.owner 1 hd then s.countPort p 11
    else
      match r.descs with
      | [] => s.countPort p 11
      | d :: ds =>
        if !s.dmaOk r.owner d.addr d.len then s.freezeMaster r.owner 1 hd 2 d.addr
        else
          let n := if trunc then (s.port p).maxLen else f.len - 4
          let tsv : Bool := (s.port p).st = .up
          let (ns, fr) := ns32Of ((s.port p).rxStamp f.tb)
          (s.onPring hd fun x => { x with descs := ds, taken := x.taken + 1 }).backDesc hd r.taken
            { len := min n d.len, trunc := trunc, shortBuf := decide (d.len < n), filter := i, tsv := tsv,
              ns32 := if tsv then ns else 0, frac := if tsv then fr else 0 }

/-- A frame joins its pipeline's input queue, or is dropped (R300-R303). -/
def State.toTse (s : State) (p b : Nat) (f : RxFrame) (trunc : Bool) (c : Colour) : State :=
  let k := cellsOf f.len
  if trunc then ((s.freeCells b k).countDrop p 2).logPartner 0x2180 (framePeer f)
  else if f.ipBad then ((s.freeCells b k).countDrop p 0).logPartner 0x2180 (framePeer f)
  else
    let pipe := pipeOf f
    if !s.admits pipe b c then (s.freeCells b k).countBezel b 1
    else
      let e : TseIn := { port := p, bezel := b, f := f, stamp := (s.port p).rxStamp f.tb, timed := (s.port p).st = .up, colour := c,
                         trunc := trunc, record := some (s.carried p), at_ := s.pcyc }
      (s.onTse fun x => { x with inputs := x.inputs.put pipe (s.input pipe ++ [e]) }).countBezel b 0

/-- Where a frame goes. -/
inductive RxWay where
  | tse | ring (index handle : Nat) | vtap | badPort | nowhere
  deriving DecidableEq, Repr

/-- The way of a good frame (R289, R299, R300). -/
def State.wayOf (s : State) (p : Nat) (f : RxFrame) : RxWay :=
  if s.forVtap p f then .vtap
  else if tseKind f && s.accepts p f then .tse
  else match s.filterOf p f with
    | some (i, x) => .ring i x.handle
    | none => if s.accepts p f then .badPort else .nowhere

/-- A frame is received. -/
def onFrameReceived (port : Nat) (f : RxFrame) (s : State) : State :=
  let x := s.port port
  if !portOk port || !x.linked then s
  else match lineCheck x f with
    | some k => s.countPort port k
    | none =>
      let s1 := ((((s.stamped port).countN port 0 f.len).countPort port 1).derive port 1 0 f.len).derive port 1 2 1
      if f.etherType = 0x8808 then s1.countPort port 13
      else
        let trunc := decide (x.maxLen < f.len)
        let s2 := if trunc then s1.countPort port 8 else s1
        let (keep, s3) := s2.prpKeep port f
        if !keep then s3
        else
          let b := s3.portOwner port
          let g : RxFrame := { f with len := min f.len x.maxLen }
          match s3.wayOf port g with
          | .nowhere => s3.countPort port 10
          | .badPort => if f.ipBad then (s3.countDrop port 0).logPartner 0x2180 (framePeer f) else s3.countDrop port 1
          | .vtap => s3
          | .ring i hd =>
            if !s3.canTake b (cellsOf g.len) then s3.countBezel b 8
            else
              let (c, s4) := s3.meet 0 b b .green f.len
              if c = .red then s4.logPartner 0x2188 (framePeer f) else s4.toRing port i hd g trunc
          | .tse =>
            if !s3.canTake b (cellsOf g.len) then s3.countBezel b 8
            else
              let (c, s4) := s3.meet 0 b b .green f.len
              if c = .red then s4.logPartner 0x2188 (framePeer f) else (s4.takeCells b (cellsOf g.len)).toTse port b g trunc c

/-- FRAME_RECEIVED (R262). -/
def execFrameReceived (port : Nat) (f : RxFrame) (s : State) : Host.Outcome State Fault Refusal :=
  .next (if s.alive then onFrameReceived port f s else s)


end Sys2Proof.Machine
end

