-- ==== Sys2Proof/Machine/Tse.lean ====
section
/-! DEFINITION. Requests to the Time Service Engine: address resolution and echo, PTP and NTP requests, unicast negotiation, and the
building of their responses (R298-R324, R328-R334, R376, R385). -/

namespace Sys2Proof.Machine

/-! ### Frames that bear no time (R300) -/

/-- The TSE answers a waiting frame of a kind with a frame of its own. -/
def State.answerPlain (s : State) (port : Nat) (kind : RxFrame → Bool) (k : TxKind) (len : TseIn → Nat) : State :=
  match s.pull port kind with
  | none => s
  | some (pipe, e, s1) =>
    ((s1.freeRx e).slotRetired pipe e.bezel).hand port
      { kind := k, bezel := e.bezel, sub := s.subscriberOf e.bezel (frameSources e.f), cls := 4, colour := e.colour, len := len e, client := e.f.src }

/-- An ARP request for a configured address. -/
def onArpRequest (port address : Nat) (s : State) : State := s.answerPlain port (fun f => isArp f && f.dip = address) .arp fun _ => 64

/-- A neighbour solicitation for a configured address; the solicited address is the configured one that the frame's address names. -/
def onNeighbourSolicitation (port address : Nat) (s : State) : State :=
  if !((s.ownAddrs port).any fun a => a.family = 6 && a.addr = address) then
    match s.pull port (fun f => f.family = 6 && f.icmp = 2 && (f.dip = address || f.dip = solicited address)) with
    | none => s
    | some (_, e, s1) => ((s1.freeRx e).slotWasted e.bezel).countDrop port 6
  else s.answerPlain port (fun f => f.family = 6 && f.icmp = 2 && (f.dip = address || f.dip = solicited address)) .neighbour fun _ => 90

/-- An echo request, answered at up to 100 per second and port. -/
def onEchoRequest (port address : Nat) (s : State) : State :=
  let kind := fun (f : RxFrame) => f.icmp = 1 && f.dip = address
  let x := s.port port
  let n := if x.echoSec = s.sec then x.echoCnt else 0
  match s.pull port kind with
  | none => s
  | some (_, e, s1) =>
    if 100 ≤ n then ((s1.freeRx e).slotWasted e.bezel).countPort port 30
    else (s.onPort port fun y => { y with echoSec := s.sec, echoCnt := n + 1 }).answerPlain port kind .echo fun q => q.f.len

/-- A membership query for a PTP group of the port's services. -/
def onMembershipQuery (port group : Nat) (s : State) : State :=
  let kind := fun (f : RxFrame) => f.icmp = 3 && f.dip = group
  if (ptpGroup 4 group && s.ptpOver port 1) || (ptpGroup 6 group && s.ptpOver port 2) then s.answerPlain port kind .membership fun e => if e.f.family = 6 then 98 else 64
  else match s.pull port kind with
    | none => s
    | some (_, e, s1) => ((s1.freeRx e).slotWasted e.bezel).countDrop port 6

/-- ARP_REQUEST (R300). -/
def execArpRequest (port address : Nat) (s : State) : Host.Outcome State Fault Refusal :=
  .next (if s.alive then onArpRequest port address s else s)

/-- NEIGHBOUR_SOLICITATION (R300). -/
def execNeighbourSolicitation (port address : Nat) (s : State) : Host.Outcome State Fault Refusal :=
  .next (if s.alive then onNeighbourSolicitation port address s else s)

/-- ECHO_REQUEST (R300). -/
def execEchoRequest (port address : Nat) (s : State) : Host.Outcome State Fault Refusal :=
  .next (if s.alive then onEchoRequest port address s else s)

/-- MEMBERSHIP_QUERY (R300). -/
def execMembershipQuery (port group : Nat) (s : State) : Host.Outcome State Fault Refusal :=
  .next (if s.alive then onMembershipQuery port group s else s)


/-! ### Stages shared by requests (R302-R304, R328, R376) -/

/-- A request is dropped under row `row` of R328 (R43): counted by cause and logged, its cells freed and its issue slot wasted. -/
def State.refuse (s : State) (e : TseIn) (row client : Nat) (pos : Option Nat := none) : State :=
  let s1 := (s.freeRx e).slotWasted e.bezel
  (match pos with | some k => s1.countBezel e.bezel k | none => s1).logPartner (0x2180 + row) client

/-- As `refuse`, for an exchange that a service already holds. -/
def State.fail (s : State) (w : Work) (row client : Nat) (pos : Option Nat := none) : State :=
  let s1 := s.dropWork w
  (match pos with | some k => s1.countBezel w.bezel k | none => s1).logPartner (0x2180 + row) client

/-- The police stage (R302, R376): the subscriber meter, then the service meter, each with the colour before it. -/
def State.police (s : State) (port sub cls b : Nat) (c : Colour) (len : Nat) : Colour × State :=
  let r := s.meet 1 sub b c len
  if r.1 = .red then r else r.2.meet 2 (port * 8 + cls) b r.1 len

/-- A service with peer delay measures with Pdelay messages alone, any other with Delay messages (R306). -/
def Service.peer (v : Service) : Bool := decide (v.cfg.profile ∈ [1, 5, 6])

/-- AUTHENTICATION TLV of a service's key (R366). -/
def State.authFits (s : State) (v : Service) (a : AuthTlv) : Bool := v.cfg.auth = 1 && a.keyId = s.keyIdOf v.cfg.key && a.spp = v.cfg.spp

/-! ### Building responses (R298, R308-R311, R314-R320) -/

/-- The service of an exchange, with the parameters it had when the request was parsed (R333). -/
def State.svcOf (s : State) (w : Work) : Service := { (s.svc w.service).getD {} with bezel := w.bezel, cfg := w.cfg }

/-- New cookies (R321, R323): each a fresh seal of the current generation, its NONCE drawn from the pipeline's DRBG and its EXPIRY the receive
stamp plus the lifetime. -/
def State.freshCookies (s : State) (w : Work) (k : SealTok) (n : Nat) : List SealTok × State :=
  match n with
  | 0 => ([], s)
  | i + 1 =>
    let x := s.seal w.bezel
    let c : SealTok := { k with
      keyGen := x.gen, kind := 0, bezel := w.bezel, service := w.service, subscriber := w.sub, expiry := (w.rx / unitsPerSec + x.lifetime) % 2 ^ 32
      nonce := Config.randomBytes 16 s.free }
    let (l, t) := ((s.onKeys fun y => { y with drbgs := y.drbgs.upd {} (1 + w.pipe) fun d => { d with requests := d.requests + 1 } }).nextFree).freshCookies w k i
    (c :: l, t)

/-- A response to a PTP request. -/
def State.buildPtp (s : State) (w : Work) (peer : Bool) (m : PtpMsg) (signed : Bool) : TxFrame :=
  let v := s.svcOf w
  let st := ptpStamp w.rx
  let k : TxKind := if peer then .pdelayResp else .delayResp
  { kind := k, bezel := w.bezel, sub := w.sub, cls := v.cfg.cls, colour := w.colour, service := w.service, client := m.client, seq := m.seq,
    len := wireLen m.transport (ptpLen k (v.cfg.hallmark = 2) signed false), t := some w.rx, record := w.record, res1 := st.2.2.2,
    body := [fld 48 st.1, fld 32 st.2.1, fld 64 st.2.2.1], auth := signed, oneStep := peer && v.cfg.stepMode = 1 && !signed }

/-- A grant covers intervals of the service's profile (R306): message types 0 Announce, 1 Sync, 2 Delay_Resp. -/
def intervalOk (profile type : Nat) (i : Int) : Bool :=
  if profile = 4 then decide ((if type = 0 then -3 else -7) ≤ i) && decide (i ≤ 0)
  else if profile = 0 || profile = 2 then decide ((if type = 0 then -3 else -7) ≤ i) && decide (i ≤ 4)
  else false

/-- Why a unicast request is denied (R319): 0 granted, 1 denied, 2 denied for a tag collision. -/
def State.deny (s : State) (w : Work) (q : UnicastReq) : Nat :=
  let v := s.svcOf w
  if 3 ≤ q.msgType || (q.msgType = 2 && v.peer) || !intervalOk v.cfg.profile q.msgType q.interval || q.duration < 10 || v.cfg.maxGrant < q.duration then 1
  else if s.tagTaken q.m.client then 2
  else if (s.grantOf w.service q.m.client).isSome then 0
  else if s.quota 0 w.bezel ≤ s.grantsUsed w.bezel || s.freeGrant.isNone then 1
  else 0

/-- The entry with one more grant (R318-R320, R334): one that had expired at the receive stamp starts afresh. -/
def Grant.renew (g : Grant) (q : UnicastReq) (w : Work) (key : Nat) (authed : Bool) : Grant :=
  let sec := w.rx / unitsPerSec
  let g0 : Grant := if g.granted != 0 && decide (g.expiry < sec) then {} else g
  let only := g0.granted = 0 || g0.granted = 2 ^ q.msgType
  { g0 with
    tag := Config.grantTag q.m.client % 2 ^ 48, client := q.m.client, port := w.port, service := w.service, bezel := w.bezel, sub := w.sub
    granted := if nbit g0.granted q.msgType then g0.granted else g0.granted + 2 ^ q.msgType
    annLog := if q.msgType = 0 then q.interval else g0.annLog
    syncLog := if q.msgType = 1 then q.interval else g0.syncLog
    drespLog := if q.msgType = 2 then q.interval else g0.drespLog
    expiry := if only then sec + q.duration else max g0.expiry (sec + q.duration)
    key := key, authed := authed }

/-- The answer to a unicast request, with the grant entered (R319). -/
def State.buildGrant (s : State) (w : Work) (q : UnicastReq) (signed : Bool) : TxFrame × State :=
  let v := s.svcOf w
  let d := s.deny w q
  let s1 :=
    if d = 0 then
      match (match s.grantOf w.service q.m.client with | some g => some g.1 | none => s.freeGrant) with
      | some n => s.onGrant n fun g => g.renew q w v.cfg.key signed
      | none => s
    else
      let s2 := (s.countBezel w.bezel 18).logPartner 0x2187 q.m.client
      if d = 2 then s2.countBezel w.bezel 19 else s2
  ({ kind := .grant, bezel := w.bezel, sub := w.sub, cls := v.cfg.cls, colour := w.colour, service := w.service, client := q.m.client, seq := q.m.seq,
     len := wireLen q.m.transport (ptpLen .grant false signed false), auth := signed,
     body := [fld 4 q.msgType, (8, q.interval), fld 32 (if d = 0 then q.duration else 0)] }, s1)

/-- Octets of an NTP response: its header, Hallmark field and NTS fields (R316, R323). -/
def ntpSize (m : NtpReq) (hall : Bool) : Nat :=
  48 + (if hall then 48 else 0) + (match m.nts with | some q => 4 + q.uidLen + 40 + 116 * (1 + q.placeholders) | none => 0)

/-- The response carries the Hallmark field: asked for, and whether it fits the request's length (R316). -/
def hallAsked (v : Service) (m : NtpReq) : Bool := v.cfg.hallmark = 2 || (v.cfg.hallmark = 1 && m.hall = some true)

/-- The RCT of an NTP response (R327, R436): the next of the port's PRP pair, or that of the request on a port paired over the Clasp. -/
def State.rctFor (s : State) (w : Work) : Option Nat :=
  match s.prpOf w.port with
  | some q => some q.seq
  | none => if s.claspUses w.port then w.rct else none

/-- An NTP response up to its launch instant. -/
def State.buildNtp (s0 : State) (w : Work) (m : NtpReq) : TxFrame × State :=
  let rct := s0.rctFor w
  let s1 := if (s0.prpOf w.port).isSome then s0.bumpRct w.port else s0
  let (cookies, s) := match m.nts with | some q => s1.freshCookies w q.cookie (1 + q.placeholders) | none => ([], s1)
  let v := s.svcOf w
  let r := match w.record with | some x => wider x (s.carried w.port) | none => s.carried w.port
  let hall := hallAsked v m && decide (ntpSize m true ≤ m.size)
  ({ kind := .ntp, bezel := w.bezel, sub := w.sub, cls := v.cfg.cls, colour := w.colour, service := w.service, seq := m.xmt,
     len := max 64 (w.len - m.size + ntpSize m hall + (if rct.isSome && w.rct.isNone then 6 else 0)), rct := rct, t := some w.rx, record := if hall then some r else none,
     res1 := if hall then (s.ntpStamp w.rx).2.2 else 0, body := s.ntpFields v m r w.rx, auth := m.nts.isSome,
     uid := m.nts.map fun q => (q.uidLen, q.uid), cookies := cookies, work := if m.nts.isSome then some w.id else none },
   if hallAsked v m && !hall then s.countBezel w.bezel 24 else s)

/-- An exchange ends with its answer. -/
def State.endWork (s : State) (w : Work) : State :=
  ((s.onTse fun x => { x with works := x.works.filter fun (y : Work) => y.id != w.id }).slotRetired w.pipe w.bezel).countSvc w.service 0

/-- An exchange's entry is replaced. -/
def State.putWork (s : State) (w : Work) : State :=
  s.onTse fun x => { x with works := x.works.map fun (y : Work) => if y.id = w.id then w else y }

/-- A launch-time response at the Stamp stage (R313, R332, R385): its port must be UP; it takes its position when its shapers let it, else waits. -/
def State.stampStage (s : State) (w : Work) (f : TxFrame) : State :=
  if (s.port w.port).st != .up then ((s.dropWork { w with resp := some f }).countPort w.port 23)
  else if !s.canTake w.bezel (cellsOf f.len) then ((s.dropWork { w with resp := some f }).countBezel w.bezel 8)
  else
    let s1 := s.takeCells w.bezel (cellsOf f.len)
    let first := (s.tse.waits.look [] (w.pipe * 64 + w.bezel)).isEmpty
    if first && s.eligible w.port f then
      let s2 := s1.place w.port f
      if w.steps.isEmpty then s2.endWork w else (s2.putWork { w with resp := some f }).nextJob w
    else
      let s2 := s1.onTse fun x => { x with waits := x.waits.upd [] (w.pipe * 64 + w.bezel) (· ++ [(w.port, f)]) }
      if w.steps.isEmpty then s2.endWork w else s2.putWork { w with resp := some f }

/-- An exchange goes on: to its next Signet operation, or to its response once only the response's authenticator is left (R302). -/
def State.advance (s : State) (w : Work) : State :=
  let left := match w.steps with | [] => true | (.sign, _, _) :: _ => true | _ => false
  if !left || w.resp.isSome then
    (match w.resp, w.steps with
      | some f, [] => if f.kind = .ntp then s.endWork w else (s.endWork w).hand w.port f
      | _, _ => s.nextJob w)
  else
    let s1 := s.freeCells w.bezel (cellsOf w.len)
    let signed := !w.steps.isEmpty
    match w.req with
    | .ntp m => let (f, s2) := s1.buildNtp w m; s2.stampStage w f
    | .ptp peer m =>
      let f := s1.buildPtp w peer m signed
      if signed then (s1.putWork { w with resp := some f }).nextJob w else (s1.endWork w).hand w.port f
    | .unicast q =>
      let (f, s2) := s1.buildGrant w q signed
      if signed then (s2.putWork { w with resp := some f }).nextJob w else (s2.endWork w).hand w.port f
    | .originate => s1

/-- An exchange begins. -/
def State.begin (s : State) (w : Work) : State :=
  let w1 : Work := { w with id := s.tse.nextWork }
  (s.onTse fun x => { x with nextWork := x.nextWork + 1, works := x.works ++ [w1] }).advance w1

/-! ### PTP requests (R298, R306, R319, R324, R328) -/

/-- What a PTP message meets up to the grant stage; `k` goes on with the service, its number, the subscriber and the colour after the police
stage. -/
def State.ptpParse (s : State) (port : Nat) (m : PtpMsg) (k : Nat → TseIn → Nat → Service → Nat → Colour → State → State) : State :=
  match s.pull port isPtp with
  | none => s
  | some (pipe, e, s1) =>
    if m.version != 2 || 1 < m.minor then s1.refuse e 1 m.client (some 16)
    else match s1.ptpSvc port m with
      | none => (s1.refuse e 2 m.client (some 16)).countDrop port 3
      | some (n, v) =>
        if !(m.lenOk && m.reservedOk && m.nsOk) then
          (((s1.refuse e 3 m.client (some 16)).countSvc n 3).signal port n m.client (if !m.lenOk then 1 else if !m.reservedOk then 2 else 3) m.seq)
        else if s1.contextFrozen n v then ((s1.freeRx e).slotWasted e.bezel).countSvc n 3
        else if !e.timed then ((s1.freeRx e).slotWasted e.bezel).countPort port 25
        else if m.token.isSome then k pipe e n v 0 e.colour s1
        else
          let sub := match s1.grantOf n m.client with | some g => g.2.sub | none => s1.subscriberOf e.bezel (frameSources e.f)
          let (c, s2) := s1.police port sub v.cfg.cls e.bezel e.colour e.f.len
          if c = .red then (((s2.freeRx e).slotWasted e.bezel).countSvc n 3).logPartner 0x2188 m.client else k pipe e n v sub c s2

/-- An exchange of a request. -/
def workOf (pipe : Nat) (e : TseIn) (n sub : Nat) (v : Service) (c : Colour) (req : WorkReq) (steps : List (SigStep × Nat × Nat)) : Work :=
  { pipe := pipe, port := e.port, bezel := e.bezel, service := n, sub := sub, colour := c, rx := e.stamp, len := e.f.len, record := e.record, req := req, steps := steps, cfg := v.cfg,
    rct := e.f.rct.map fun (r : Rct) => r.seq }

/-- Octets of a seal under its 3/2 key: 3 beats (R304, R339). -/
def sealBeats (seals : Nat) : Nat := beatsOf false true (112 * seals)

/-- A Delay_Req or a Pdelay_Req. -/
def State.ptpAsk (s : State) (peer : Bool) (port : Nat) (m : PtpMsg) : State :=
  s.ptpParse port m fun pipe e n v sub c t =>
    let drop := fun (row : Nat) (pos : Option Nat) => (t.refuse e row m.client pos).countSvc n 3
    let grant := match t.grantOf n m.client with | some g => g.2.covers 2 e.stamp | none => false
    let size := ptpLen (if peer then .pdelayResp else .delayResp) (v.cfg.hallmark = 2) true false
    if v.peer != peer then drop 2 (some 16)
    else match m.token, m.auth with
      | some k, some a =>
        if a.keyId != 0xFFFFFFFF || a.spp != v.cfg.spp then drop 4 none
        else if v.cfg.sealedGrants = 1 || !(t.seal v.bezel).genOk k.keyGen e.stamp then (drop 5 (some 20)).signal port n m.client 4 m.seq
        else if (!peer && !t.serves v) || t.mute port then drop 0 (some 17)
        else
          let op := fun (z : Nat) => beatsOf (k.alg = 5) (decide (k.alg ∈ [2, 4])) z
          t.begin (workOf pipe e n sub v c (.ptp peer m) [(.openSeal, sealSlot v.bezel k.keyGen, sealBeats 1), (.verify, sealedKey, op m.size), (.sign, sealedKey, op size)])
      | some _, none => drop 4 none
      | none, some a =>
        if !t.authFits v a then drop 4 none
        else if !peer && m.unicast && v.over 3 && !grant then drop 6 none
        else if (!peer && !t.serves v) || t.mute port then drop 0 (some 17)
        else t.begin (workOf pipe e n sub v c (.ptp peer m) [(.verify, v.cfg.key, t.opBeats v.cfg.key m.size), (.sign, v.cfg.key, t.opBeats v.cfg.key size)])
      | none, none =>
        if v.cfg.auth = 1 && v.cfg.required = 1 then drop 4 none
        else if !peer && m.unicast && v.over 3 && !grant then drop 6 none
        else if (!peer && !t.serves v) || t.mute port then drop 0 (some 17)
        else t.begin (workOf pipe e n sub v c (.ptp peer m) [])

/-- A Delay_Req. -/
def onDelayReq (port : Nat) (m : PtpMsg) (s : State) : State := s.ptpAsk false port m

/-- A Pdelay_Req. -/
def onPdelayReq (port : Nat) (m : PtpMsg) (s : State) : State := s.ptpAsk true port m

/-- A REQUEST_UNICAST_TRANSMISSION; a sealed grant serves no negotiation (R324). On paired ports the ACTIVE unit alone answers (R435). -/
def onRequestUnicastTransmission (port : Nat) (q : UnicastReq) (s : State) : State :=
  s.ptpParse port q.m fun pipe e n v sub c t =>
    let drop := fun (row : Nat) (pos : Option Nat) => (t.refuse e row q.m.client pos).countSvc n 3
    if s.clasp.st = .standby && s.claspUses port then (t.freeRx e).slotWasted e.bezel
    else if q.m.token.isSome then (drop 5 (some 20)).signal port n q.m.client 4 q.m.seq
    else if !v.over 3 then drop 2 (some 16)
    else match q.m.auth with
      | some a =>
        if !t.authFits v a then drop 4 none
        else t.begin (workOf pipe e n sub v c (.unicast q) [(.verify, v.cfg.key, t.opBeats v.cfg.key q.m.size), (.sign, v.cfg.key, t.opBeats v.cfg.key (ptpLen .grant false true false))])
      | none =>
        if v.cfg.auth = 1 && v.cfg.required = 1 then drop 4 none else t.begin (workOf pipe e n sub v c (.unicast q) [])

/-- A message the TSE originates for a service goes out, through a Signet where it is authenticated (R304). -/
def State.originate (s : State) (p n : Nat) (f : TxFrame) (key : Nat) : State :=
  let s1 := (s.countSvc n 1)
  if !f.auth then (s1.slotRetired (n % 4) f.bezel).hand p f
  else
    let w : Work := { id := s.tse.nextWork, pipe := n % 4, port := p, bezel := f.bezel, service := n, sub := f.sub, colour := f.colour, req := .originate, cfg := ((s.svc n).getD {}).cfg,
                      resp := some f, steps := [(.sign, key, s.opBeats key f.len)] }
    (s1.onTse fun x => { x with nextWork := x.nextWork + 1, works := x.works ++ [w] }).nextJob w

/-- A client's cancel (R320): acknowledged, and the message types concerned stop at once. -/
def onCancelUnicastTransmission (port client msgTypes : Nat) (s : State) : State :=
  match s.pull port isPtp with
  | none => s
  | some (_, e, s1) =>
    let s2 := s1.freeRx e
    match s2.tse.grants.find? fun q => q.2.granted != 0 && q.2.client = client && q.2.port = port with
    | none => s2.slotWasted e.bezel
    | some (n, g) =>
      let v := (s2.svc g.service).getD {}
      (s2.endGrant n msgTypes).originate port g.service
        { kind := .ackCancel, bezel := g.bezel, sub := g.sub, cls := v.cfg.cls, colour := e.colour, service := g.service, client := client,
          len := wireLen 1 (ptpLen .ackCancel false g.authed false), auth := g.authed, body := [fld 3 msgTypes] } g.key

/-- A client's acknowledgement of a cancel (R320). -/
def onAcknowledgeCancel (port client : Nat) (s : State) : State :=
  match s.pull port isPtp with
  | none => s
  | some (pipe, e, s1) =>
    let s2 := (s1.freeRx e).slotRetired pipe e.bezel
    match s2.tse.grants.find? fun q => q.2.granted != 0 && q.2.cancelling && q.2.client = client && q.2.port = port with
    | none => s2
    | some (n, _) => s2.onGrant n fun _ => {}

/-- An Announce of another clock (R306): counted and logged, and nothing else. -/
def onForeignAnnounce (port : Nat) (s : State) : State :=
  match s.pull port isPtp with
  | none => s
  | some (_, e, s1) =>
    let s2 := ((s1.freeRx e).slotWasted e.bezel).logPartner 0x2189 port
    match s2.ptpOn port with
    | [] => s2
    | (n, _) :: _ => s2.countSvc n 2

/-- DELAY_REQ (R309). -/
def execDelayReq (port : Nat) (m : PtpMsg) (s : State) : Host.Outcome State Fault Refusal :=
  .next (if s.alive then onDelayReq port m s else s)

/-- PDELAY_REQ (R309). -/
def execPdelayReq (port : Nat) (m : PtpMsg) (s : State) : Host.Outcome State Fault Refusal :=
  .next (if s.alive then onPdelayReq port m s else s)

/-- REQUEST_UNICAST_TRANSMISSION (R319). -/
def execRequestUnicastTransmission (port : Nat) (m : UnicastReq) (s : State) : Host.Outcome State Fault Refusal :=
  .next (if s.alive then onRequestUnicastTransmission port m s else s)

/-- CANCEL_UNICAST_TRANSMISSION (R320). -/
def execCancelUnicastTransmission (port client msgTypes : Nat) (s : State) : Host.Outcome State Fault Refusal :=
  .next (if s.alive then onCancelUnicastTransmission port client msgTypes s else s)

/-- ACKNOWLEDGE_CANCEL (R320). -/
def execAcknowledgeCancel (port client : Nat) (s : State) : Host.Outcome State Fault Refusal :=
  .next (if s.alive then onAcknowledgeCancel port client s else s)

/-- FOREIGN_ANNOUNCE (R306). -/
def execForeignAnnounce (port : Nat) (s : State) : Host.Outcome State Fault Refusal :=
  .next (if s.alive then onForeignAnnounce port s else s)


/-! ### NTP requests (R311, R323, R328, R329) -/

/-- An NTS NAK (R329). -/
def State.nak (s : State) (w : Work) (m : NtpReq) : State :=
  let n := 48 + (match m.nts with | some q => 4 + q.uidLen | none => 0)
  let s1 := ((s.onTse fun x => { x with works := x.works.filter fun (y : Work) => y.id != w.id }).freeCells w.bezel (cellsOf w.len)).slotRetired w.pipe w.bezel
  ((s1.countBezel w.bezel 20).countBezel w.bezel 21).hand w.port
    { kind := .ntsNak, bezel := w.bezel, sub := w.sub, cls := (s.svcOf w).cfg.cls, colour := w.colour, len := max 64 (w.len - m.size + n), service := w.service, seq := m.xmt,
      body := [fld 2 3, fld 3 m.version, fld 3 4, fld 8 0, fld 32 0x4E54534E], uid := m.nts.map fun q => (q.uidLen, q.uid) }

/-- An NTP request. -/
def onNtpRequest (port : Nat) (m : NtpReq) (s : State) : State :=
  match s.pull port isNtp with
  | none => s
  | some (pipe, e, s1) =>
    let client := e.f.sip
    match s1.ntpSvc port with
    | none => ((s1.freeRx e).slotWasted e.bezel).countDrop port 4
    | some (n, v) =>
      let drop := fun (t : State) (row : Nat) => (t.refuse e row client (some 22)).countSvc n 3
      if !(m.version = 3 || m.version = 4) || m.mode != 3 || m.size < 48 then drop s1 10
      else if !m.efOk then drop s1 11
      else if !e.timed then ((s1.freeRx e).slotWasted e.bezel).countPort port 25
      else if s1.mute port || s1.contextFrozen n v then ((s1.freeRx e).slotWasted e.bezel).countSvc n 3
      else match m.nts with
        | none =>
          if v.cfg.auth = 2 && v.cfg.required = 1 then drop s1 16
          else
            let sub := s1.subscriberOf e.bezel (frameSources e.f)
            let (c, s2) := s1.police port sub v.cfg.cls e.bezel e.colour e.f.len
            if c = .red then (((s2.freeRx e).slotWasted e.bezel).countSvc n 3).logPartner 0x2188 client else s2.begin (workOf pipe e n sub v c (.ntp m) [])
        | some q =>
          if !q.formOk || q.uidLen < 32 || 64 < q.uidLen || 7 < q.placeholders then drop s1 13
          else if v.cfg.auth != 2 then drop s1 16
          else if (s1.keys.drbgs.look {} (1 + pipe)).error then drop s1 0
          else
            let w := workOf pipe e n (s1.subscriberOf e.bezel (frameSources e.f)) v e.colour (.ntp m)
              [(.openSeal, sealSlot v.bezel q.cookie.keyGen, sealBeats 1), (.verify, sealedKey, beatsOf false false (m.size - 40)),
               (.sealCookies, sealSlot v.bezel (s1.seal v.bezel).gen, sealBeats (1 + q.placeholders)),
               (.sign, sealedKey, beatsOf false false (52 + q.uidLen + 116 * (1 + q.placeholders) + (if hallAsked v m && decide (ntpSize m true ≤ m.size) then 48 else 0)))]
            if !(s1.seal v.bezel).genOk q.cookie.keyGen e.stamp then (s1.nak w m).logPartner 0x218E client else s1.begin w

/-- NTP_REQUEST (R311). -/
def execNtpRequest (port : Nat) (m : NtpReq) (s : State) : Host.Outcome State Fault Refusal :=
  .next (if s.alive then onNtpRequest port m s else s)


/-! ### After each Signet operation (R322-R324, R328, R340) -/

/-- A seal has been opened: its fields are judged, and the request then meets the meters of the subscriber it names (R322, R372, R376). -/
def State.afterOpen (s : State) (w : Work) (k : SealTok) (kind : Nat) (bad : State → State) (rest : List (SigStep × Nat × Nat)) : State :=
  let v := s.svcOf w
  if !s.tokenOk w.bezel w.service kind w.rx k then bad s
  else
    let (c, s1) := s.police w.port k.subscriber v.cfg.cls w.bezel w.colour w.len
    if c = .red then (s1.dropWork w).logPartner 0x2188 w.service
    else
      let w1 : Work := { w with sub := k.subscriber, colour := c, steps := rest }
      (s1.putWork w1).advance w1

/-- A seal did not open (R328): a NAK to NTP, error signalling to PTP. -/
def State.sealBad (s : State) (w : Work) : State :=
  match w.req with
  | .ntp m => (s.nak w m).logPartner 0x218E w.service
  | .ptp _ m => ((s.fail w 5 m.client (some 20))).signal w.port w.service m.client 4 m.seq
  | _ => s.dropWork w

/-- The exchange's operation succeeded. -/
def State.stepOk (s : State) (w : Work) : State :=
  match w.steps with
  | [] => s
  | (.openSeal, _, _) :: rest =>
    (match w.req with
      | .ntp m => match m.nts with | some q => s.afterOpen w q.cookie 0 (fun t => t.sealBad w) rest | none => s
      | .ptp _ m => match m.token with | some k => s.afterOpen w k 1 (fun t => t.sealBad w) rest | none => s
      | _ => s)
  | _ :: rest =>
    let w1 : Work := { w with steps := rest }
    let s1 := if rest.isEmpty then s.onPorts fun x => { x with ports := x.ports.mapAll fun _ (y : PortSt) => { y with
      launches := y.launches.map fun (f : TxFrame) => if f.work = some w.id then { f with work := none } else f } } else s
    (s1.putWork w1).advance w1

/-- The exchange's operation failed its comparison (R328, R340). -/
def State.stepBad (s : State) (w : Work) : State :=
  let s1 := s.countBezel w.bezel 15
  match w.steps, w.req with
  | (.openSeal, _, _) :: _, _ => s1.sealBad w
  | _, .ptp _ m => s1.fail w 4 m.client
  | _, .unicast q => s1.fail w 4 q.m.client
  | _, .ntp _ => s1.fail w 15 w.service (some 22)
  | _, .originate => s1.dropWork w

end Sys2Proof.Machine
end

