-- ==== Sys2Proof/Machine/TseOut.lean ====
section
/-! DEFINITION. What the Time Service Engine sends of itself: launch-time responses at their positions, originated messages, Follow_Ups, and
the end of grants (R298, R309, R310, R313, R315, R320, R332, R385). -/

namespace Sys2Proof.Machine

/-! ### Launch-time responses (R313, R385) -/

/-- The exchange a launch-time frame belongs to ends with it. -/
def State.endLaunch (s : State) (f : TxFrame) : State :=
  match f.work with
  | none => s
  | some id => match s.tse.works.find? fun w => w.id = id with
    | none => s
    | some w => s.dropWork w

/-- The response at the head of a port's launch positions starts, or is discarded before any bit leaves. -/
def onNtpLaunch (port : Nat) (usable : Bool) (stampError : Rat) (s : State) : State :=
  let x := s.port port
  match x.launches with
  | [] => s
  | f :: rest =>
    let s1 := s.onPort port fun y => { y with launches := rest }
    if !usable || x.st != .up || x.pause.isSome || x.lpi != .active || x.wire.isSome || x.cal.running || f.work.isSome then (s1.launchMiss port f).endLaunch f
    else if s.squelched then (s1.dropFrame f).countDrop port 5
    else if 10 < rabs stampError then
      ((((s1.dropFrame f).countPort port 24).log 0x2082 1 port).onPort port fun y => { y with
        cal := { y.cal with diverged := true, due := !y.cal.out } }).followPort port
    else
      let stamp := (((f.launch.getD 0 : Nat) : Int) + unitsOfPs stampError).toNat
      (((s1.onPort port fun y => { y with sent := some ({ f with octets := s.octetsOf port f stamp }, stamp) }).dropFrame f).countTx port f.len).stamped port

/-- A response that waits in the launch list becomes eligible. -/
def onLaunchWaitEligible (pipeline bezel : Nat) (s : State) : State :=
  let key := pipeline * 64 + bezel
  match s.tse.waits.look [] key with
  | [] => s
  | (p, f) :: rest =>
    let s1 := s.onTse fun x => { x with waits := x.waits.put key rest }
    if (s.port p).st != .up then (s1.launchMiss p f).endLaunch f
    else if !s.eligible p f then s
    else
      let s2 := s1.place p f
      match f.work with
      | none => s2
      | some id => match s2.tse.works.find? fun w => w.id = id with
        | none => s2
        | some w => s2.nextJob w

/-- NTP_LAUNCH (R313). -/
def execNtpLaunch (port : Nat) (usable : Bool) (stampError : Rat) (s : State) : Host.Outcome State Fault Refusal :=
  .next (if s.alive then onNtpLaunch port usable stampError s else s)

/-- LAUNCH_WAIT_ELIGIBLE (R385). -/
def execLaunchWaitEligible (pipeline bezel : Nat) (s : State) : Host.Outcome State Fault Refusal :=
  .next (if s.alive then onLaunchWaitEligible pipeline bezel s else s)


/-! ### Originated messages (R306, R310) -/

/-- The transport of a service's unicast messages. -/
def Service.unicastVia (v : Service) : Nat := if v.over 1 then 1 else if v.over 2 then 2 else 0

/-- The transports of a service's multicast messages: G.8275.2 has none (R306). -/
def Service.multicastVia (v : Service) : List Nat := if v.cfg.profile = 4 then [] else [0, 1, 2].filter fun t => v.over t

/-- The grant entries of a service's clients on a port for a message type (R320). -/
def State.clientsOf (s : State) (n p type : Nat) : List (Nat × Grant) :=
  s.tse.grants.filter fun q => q.2.service = n && q.2.port = p && q.2.covers type s.tc.mtc.units

/-- A message to each multicast transport and to each client with a grant of its type; `mk` makes it from transport, client, sequenceId and
whether it is authenticated. `kind` is 0 for Sync and 1 for Announce; `type` the grant's bit. -/
def State.originateAll (s : State) (n p kind type : Nat) (v : Service) (mk : Nat → Nat → Nat → Nat → Bool → TxFrame) : State :=
  let s1 := v.multicastVia.foldl (fun (t : State) tr =>
    let key := p * 2 + kind
    let q := ((t.svc n).getD {}).seqs.look 0 key
    (t.onSvc n fun x => { x with seqs := x.seqs.put key ((q + 1) % 65536) }).originate p n (mk tr 0 (s.defaultSub v.bezel) q (v.cfg.auth = 1)) v.cfg.key) s
  (s.clientsOf n p type).foldl (fun (t : State) g =>
    let key := g.1 * 3 + type
    let q := ((t.svc n).getD {}).useqs.look 0 key
    (t.onSvc n fun x => { x with useqs := x.useqs.put key ((q + 1) % 65536) }).originate p n (mk v.unicastVia g.2.client g.2.sub q g.2.authed) g.2.key) s1

/-- A service originates its Syncs at its interval: none in a state it does not serve (R298). The body of a two-step Sync records its transport. -/
def onSyncOriginate (service port : Nat) (s : State) : State :=
  match s.svc service with
  | none => s
  | some v =>
    if v.isNtp || !decide (port ∈ v.cfg.ports) || !(s.port port).linked || s.mute port || !s.serves v || s.contextFrozen service v then s
    else if s.portOwner port != v.bezel then s.freezeMaster v.bezel 3 service 6 port
    else
      let one : Bool := v.cfg.stepMode = 1
      let hall : Bool := v.cfg.hallmark = 2
      s.originateAll service port 0 1 v fun tr client sub q auth =>
        { kind := .sync, bezel := v.bezel, sub := sub, cls := v.cfg.cls, service := service, client := client, seq := q, oneStep := one && !auth, auth := auth,
          len := wireLen tr (ptpLen .sync (hall && one) auth false), record := if hall && one then some (s.carried port) else none, body := [fld 2 tr] }

/-- A service originates its Announces, with the data sets of R298 and R307. On a high accuracy service the L1_SYNC flags follow, all
FALSE (R306). -/
def onAnnounceOriginate (service port : Nat) (s : State) : State :=
  match s.svc service with
  | none => s
  | some v =>
    if v.isNtp || !decide (port ∈ v.cfg.ports) || !(s.port port).linked || s.mute port || s.contextFrozen service v then s
    else if s.portOwner port != v.bezel then s.freezeMaster v.bezel 3 service 6 port
    else
      let hall : Bool := v.cfg.hallmark = 2
      let r := s.carried port
      s.originateAll service port 1 0 v fun tr client sub q auth =>
        { kind := .announce, bezel := v.bezel, sub := sub, cls := v.cfg.cls, service := service, client := client, seq := q, auth := auth,
          len := wireLen tr (ptpLen .announce hall auth (v.cfg.profile = 5)), record := if hall then some r else none,
          body := s.dataSet v r ++ (if v.cfg.profile = 2 then [rsv 6] else []) }

/-- The frame of a port whose follow-up is due, and the list without it. -/
def takeFollow (l : List (TxFrame × Nat)) (k : TxKind) (seq : Nat) : Option ((TxFrame × Nat) × List (TxFrame × Nat)) :=
  match l with
  | [] => none
  | x :: r => if x.1.kind = k && x.1.seq = seq then some (x, r) else (takeFollow r k seq).map fun q => (q.1, x :: q.2)

/-- A Follow_Up or Pdelay_Resp_Follow_Up is built from the transmit stamp of its message (R309, R314, R332). -/
def State.followOn (s : State) (port : Nat) (k up : TxKind) (seq : Nat) : State :=
  match takeFollow (s.port port).follow k seq with
  | none => s
  | some ((f, stamp), rest) =>
    let s1 := s.onPort port fun x => { x with follow := rest }
    if (s.port port).st != .up || s.mute port then s1
    else match s1.svc f.service with
      | none => s1
      | some v =>
        let st := ptpStamp stamp
        let hall : Bool := v.cfg.hallmark = 2
        let key := match s1.grantOf f.service f.client with | some g => g.2.key | none => v.cfg.key
        let tr := match f.body with | (2, t) :: _ => t.toNat | _ => v.unicastVia
        s1.originate port f.service { f with
          kind := up, t := some stamp, len := wireLen tr (ptpLen up hall f.auth false), record := if hall then f.record else none
          res1 := st.2.2.2, body := [fld 48 st.1, fld 32 st.2.1, fld 64 st.2.2.1], oneStep := false, attempts := 0, colour := f.colour } key

/-- A Follow_Up. -/
def onFollowUpSend (port seq : Nat) (s : State) : State := s.followOn port .sync .followUp seq

/-- A Pdelay_Resp_Follow_Up. -/
def onPdelayRespFollowUpSend (port seq : Nat) (s : State) : State := s.followOn port .pdelayResp .pdelayFollowUp seq

/-- SYNC_ORIGINATE (R310). -/
def execSyncOriginate (service port : Nat) (s : State) : Host.Outcome State Fault Refusal :=
  .next (if s.alive then onSyncOriginate service port s else s)

/-- ANNOUNCE_ORIGINATE (R307). -/
def execAnnounceOriginate (service port : Nat) (s : State) : Host.Outcome State Fault Refusal :=
  .next (if s.alive then onAnnounceOriginate service port s else s)

/-- FOLLOW_UP_SEND (R309). -/
def execFollowUpSend (port seq : Nat) (s : State) : Host.Outcome State Fault Refusal :=
  .next (if s.alive then onFollowUpSend port seq s else s)

/-- PDELAY_RESP_FOLLOW_UP_SEND (R309). -/
def execPdelayRespFollowUpSend (port seq : Nat) (s : State) : Host.Outcome State Fault Refusal :=
  .next (if s.alive then onPdelayRespFollowUpSend port seq s else s)


/-! ### The end of grants (R320) -/

/-- The TAI second of EXPIRY has ended. -/
def onGrantExpiry (entry : Nat) (s : State) : State :=
  let g := s.grant entry
  if g.granted != 0 && decide (g.expiry < s.sec) then s.onGrant entry fun _ => {} else s

/-- 3 s without an acknowledgement. -/
def onCancelTimeout (entry : Nat) (s : State) : State :=
  if (s.grant entry).granted != 0 && (s.grant entry).cancelling then s.onGrant entry fun _ => {} else s

/-- GRANT_EXPIRY (R320). -/
def execGrantExpiry (entry : Nat) (s : State) : Host.Outcome State Fault Refusal :=
  .next (if s.alive then onGrantExpiry entry s else s)

/-- CANCEL_TIMEOUT (R320). -/
def execCancelTimeout (entry : Nat) (s : State) : Host.Outcome State Fault Refusal :=
  .next (if s.alive then onCancelTimeout entry s else s)


end Sys2Proof.Machine
end

