-- ==== Sys2Proof/Machine/Sta.lean ====
section
/-! DEFINITION. The slot-table arbiter and the Signet pool at work, the integrity of key slots, and the sta commands (R340, R341,
R349-R352, R387-R393). -/

namespace Sys2Proof.Machine

/-! ### Key slots at work (R349-R352, R355) -/

/-- A key slot is changed. -/
def State.onKey (s : State) (k : Nat) (f : KeySlot → KeySlot) : State := s.onKeys fun x => { x with slots := x.slots.upd {} k f }

/-- The bezels told of a slot's event (R486): its owner, or BZ00 for the Locket's. -/
def KeySlot.told (x : KeySlot) : List Nat := [if x.locket then 0 else x.owner]

/-- A slot becomes EXHAUSTED, EXPIRED or INVALID, with its event (R349, R350). -/
def State.retireKey (s : State) (k : Nat) (st : SlotKeyState) : State :=
  let x := s.key k
  (s.onKey k fun y => if st = .invalid then { y with st := .invalid, material := 0 } else { y with st := st }).raise x.told 0x2201 [fld 16 k, fld 8 st.code]

/-- The children of a slot (R354). -/
def State.childrenOf (s : State) (k : Nat) : List Nat :=
  (s.keys.slots.filter fun q => q.1 != 0 && q.2.st != .free && q.2.st != .invalid && q.2.parent = k && q.1 != k).map (·.1)

/-- A slot's descendants, to a depth of 7 (R354). -/
def State.descendants (s : State) (fuel : Nat) (ks : List Nat) : List Nat :=
  match fuel with
  | 0 => []
  | n + 1 => match ks.flatMap s.childrenOf with
    | [] => []
    | l => l ++ s.descendants n l

/-- Every descendant of a slot becomes ORPHAN and its material is zeroised, and the key caches are flushed (R355). -/
def State.orphan (s : State) (k : Nat) : State :=
  (s.descendants 8 [k]).foldl (fun (t : State) i => t.onKey i fun x => { x with st := .orphan, material := 0 }) (s.onSta fun x => { x with cached := [] })

/-- A slot's tag fails (R349): INVALID, material gone, descendants orphaned; counted and logged. -/
def State.tagFailed (s : State) (k : Nat) : State :=
  if (s.key k).st = .free || (s.key k).st = .invalid then s
  else ((s.orphan k).retireKey k .invalid).onKeys fun x => { x with tagFails := x.tagFails + 1 }

/-- A job on a slot is dispatched (R351, R352): USE_CTR counts it, saturating; a slot at its limit is EXHAUSTED; the reservation in MRAM moves
ahead. -/
def State.useKey (s : State) (k : Nat) : State :=
  if k = sealedKey then s
  else
    let x := s.key k
    let n := min 0xFFFFFFFF (x.useCtr + 1)
    let ahead := x.useLimit != 0 && !x.expireAtReset && decide (x.reserved ≤ n)
    let s1 := s.onKey k fun y => { y with useCtr := n, reserved := if ahead then y.reserved + 1048576 else y.reserved }
    let s2 := if ahead then s1.store 0x22 k (some (.reserve k x.reserved)) else s1
    if x.useLimit != 0 && decide (x.useLimit ≤ n) && x.st = .valid then s2.retireKey k .exhausted else s2

/-- The slot a job names is usable for its operation (R340, R350). -/
def State.jobKeyOk (s : State) (j : SigJob) : Bool := j.slot = sealedKey || (s.keyUsable j.slot && (s.key j.slot).may j.usage)

/-! ### Jobs (R340, R389) -/

/-- The exchange of a job. -/
def State.workOfJob (s : State) (j : SigJob) : Option Work :=
  match j.work with
  | none => none
  | some id => s.tse.works.find? fun w => w.id = id

/-- A job ends without a result that lets its exchange go on (R340). -/
def State.jobLost (s : State) (j : SigJob) (nokey : Bool) : State :=
  let s1 := if nokey && decide (j.req < 64) then s.countBezel j.req 14 else s
  match s.workOfJob j with
  | none => s1
  | some w => s1.dropWork w

/-- Waiting jobs of frozen requesters are discarded (R396). -/
def State.dropFrozenJobs (s : State) : State :=
  (s.sta.jobs.filter fun j => s.reqFrozen j.req).foldl (fun (t : State) j => (t.dropJob j).jobLost j false) s

/-- An engine's decision (R389). A job whose slot is not usable returns NOKEY and is not dispatched. -/
def onSignetDispatch (engine : Nat) (s0 : State) : State :=
  let s := s0.dropFrozenJobs
  if 16 ≤ engine || !(s.eng16 engine).inService || (s.eng16 engine).job.isSome then s
  else match s.pickJob engine with
    | none => s.giveHints engine
    | some (j, how) =>
      let s1 := s.dropJob j
      (if !s1.jobKeyOk j then s1.jobLost j true
      else
        let s2 := ((s1.chargeJob j how).useKey j.slot).onEng16 engine fun x => { x with job := some j, jobs := x.jobs + 1 }
        if 64 ≤ j.req || how = 0 then s2 else s2.countBezel j.req (if how = 1 then 11 else 12)).giveHints engine

/-- The job of an engine returns ENGINE (R340, R389): it is reissued once, on another engine. -/
def State.engineResult (s : State) (engine : Nat) (j : SigJob) : State :=
  let s1 := s.onEng16 engine fun x => { x with job := none, faults := x.faults + 1 }
  if j.again then s1.jobLost j false
  else s1.onSta fun x => { x with reissue := x.reissue ++ [{ j with again := true, failedOn := some engine }] }

/-- A job ends. -/
def onSignetJobComplete (engine : Nat) (result : JobResult) (s : State) : State :=
  match (s.eng16 engine).job with
  | none => s
  | some j =>
    let s1 := s.onEng16 engine fun x => { x with job := none }
    match result with
    | .engine => s.engineResult engine j
    | .nokey => (if j.slot = sealedKey then s1 else s1.tagFailed j.slot).jobLost j true
    | .ok => match s1.workOfJob j with | none => s1 | some w => s1.stepOk w
    | .authFail => match s1.workOfJob j with | none => s1 | some w => s1.stepBad w

/-- The pointer passes entries (R388). -/
def onStaPointerAdvance (entries : Nat) (s : State) : State := s.passEntries (min entries 512)

/-- The pointer has reached entry 0 with a commit waiting (R392). -/
def onStaCommitEffect (s : State) : State := if s.sta.commit && s.sta.pointer = 0 then s.applyCommit else s

/-- An engine goes out of service (R341, R393). -/
def State.engineOut (s : State) (n : Nat) : State :=
  if !(s.eng16 n).inService then s
  else
    let first := s.enginesUp = 16
    let s1 := s.onEng16 n fun x => { x with inService := false }
    let s2 := match (s1.eng16 n).job with | some j => s1.engineResult n j | none => s1
    let s3 := s2.raise0 0x2202 [fld 8 n]
    (if first then s3 else s3.addCause (0x0500 + n)).weighReservations

/-- An engine's known-answer tests end (R341). -/
def onKnownAnswerTest (engine : Nat) (pass : Bool) (s : State) : State := if pass || 16 ≤ engine then s else s.engineOut engine

/-- SIGNET_DISPATCH (R389). -/
def execSignetDispatch (engine : Nat) (s : State) : Host.Outcome State Fault Refusal :=
  .next (if s.alive then onSignetDispatch engine s else s)

/-- SIGNET_JOB_COMPLETE (R340). -/
def execSignetJobComplete (engine : Nat) (result : JobResult) (s : State) : Host.Outcome State Fault Refusal :=
  .next (if s.alive then onSignetJobComplete engine result s else s)

/-- STA_POINTER_ADVANCE (R388). -/
def execStaPointerAdvance (entries : Nat) (s : State) : Host.Outcome State Fault Refusal :=
  .next (if s.alive then onStaPointerAdvance entries s else s)

/-- STA_COMMIT_EFFECT (R392). -/
def execStaCommitEffect (s : State) : Host.Outcome State Fault Refusal :=
  .next (if s.alive then onStaCommitEffect s else s)

/-- KNOWN_ANSWER_TEST (R341). -/
def execKnownAnswerTest (engine : Nat) (pass : Bool) (s : State) : Host.Outcome State Fault Refusal :=
  .next (if s.alive then onKnownAnswerTest engine pass s else s)


/-! ### Commands (R391, R392) -/

/-- Entries all bezels hold. -/
def State.entriesUsed (s : State) (but : Nat) : Nat := (s.sta.reserve.map fun p => if p.1 = but then 0 else entriesFor p.2).sum

/-- `sta.set_reserve`. -/
def cmdStaSetReserve (_h : CmdHdr) (bezel beats : Nat) : CmdMeta × CmdBody :=
  ({ op := 0x2501, plen := 8, mirrored := true },
   { argOk := fun s => decide (bezel < 64) && s.bezelServes bezel
     check := fun s => judge [(decide (506 < s.entriesUsed bezel + entriesFor beats), .conflict)]
     act := fun s =>
       let s1 := s.onSta fun x =>
         let r := x.reserve.put bezel beats
         { x with reserve := r, shadow := { x.shadow with owner := layTable r } }
       cmdOut ((s1.weighReservations).store 0x25 bezel) [fld 16 (entriesFor beats)] })

/-- `sta.set_weight`. -/
def cmdStaSetWeight (_h : CmdHdr) (bezel weight : Nat) : CmdMeta × CmdBody :=
  ({ op := 0x2502, plen := 2, mirrored := true },
   { argOk := fun s => decide (bezel < 64) && s.bezelServes bezel && decide (weight < 256)
     act := fun s => cmdOut ((s.onSta fun x => { x with shadow := { x.shadow with weight := x.shadow.weight.put bezel weight } }).store 0x25 bezel) })

/-- `sta.commit`. -/
def cmdStaCommit (_h : CmdHdr) : CmdMeta × CmdBody :=
  ({ op := 0x2503, mirrored := true, action := true },
   { argOk := fun _ => true
     check := fun s => judge [(s.sta.commit, .busy)]
     act := fun s => cmdOut (s.onSta fun x => { x with commit := true }) })

/-- A copy of the table as its 512 bytes. -/
def StaTable.bytes (t : StaTable) : Rec := staEntries.map fun e => fld 8 (t.at e)

/-- `sta.read_table`: the shadow table, the active table, then the 66 active weights. -/
def cmdStaReadTable (_h : CmdHdr) : CmdMeta × CmdBody :=
  ({ op := 0x2541, xbOut := true },
   { argOk := fun _ => true
     act := fun s => cmdOut s [] (s.sta.shadow.bytes ++ s.sta.active.bytes ++ (List.range 66).map fun r => fld 8 (s.sta.active.weightOf r)) })


end Sys2Proof.Machine
end

