-- ==== Sys2Proof/Machine/Svc.lean ====
section
/-! DEFINITION. The svc commands (R296, R297, R299, R306, R313, R318, R320, R322, R325, R333, R481). -/

namespace Sys2Proof.Machine

/-! ### Services -/

/-- The domain lies in the profile's range (R306). -/
def domainOk (profile d : Nat) : Bool :=
  if profile ≤ 2 then decide (d ≤ 127) else if profile = 3 then decide (24 ≤ d) && decide (d ≤ 43) else if profile = 4 then decide (44 ≤ d) && decide (d ≤ 63)
  else if profile = 5 then d = 254 else d = 0

/-- The transports fit the profile (R306): bits 0 Ethernet, 1 IPv4, 2 IPv6, 3 unicast negotiation. -/
def transportOk (profile t : Nat) : Bool :=
  if profile = 0 || profile = 2 then decide (t < 16) && decide (t % 8 != 0) else if profile = 1 then decide (t < 8) && t != 0
  else if profile = 4 then t = 10 || t = 12 || t = 14 else t = 1

/-- A message interval fits the profile (R306); `kind` 0 Announce, 1 Sync, 2 Delay_Resp. -/
def serviceLogOk (profile kind : Nat) (i : Int) : Bool :=
  if profile ≤ 2 then decide ((if kind = 0 then -3 else -7) ≤ i) && decide (i ≤ 4)
  else if profile = 4 then decide ((if kind = 0 then -3 else -7) ≤ i) && decide (i ≤ 0)
  else if profile = 3 then (kind = 2 || i = (if kind = 0 then -3 else -4)) else (kind = 2 || i = 0)

/-- The parameters lie in their ranges (R297, R298, R306). Fields that serve PTP alone are judged for PTP alone. -/
def serviceArgsOk (a : ServiceArgs) : Bool :=
  (decide (a.profile ≤ 6) || a.profile = 8) && decide (a.cls ≤ 7) && decide (a.serve < 16) && decide (a.required ≤ 1) && decide (a.signalErr ≤ 1)
  && decide (a.sealedGrants ≤ 1) && !decide (a.hallmarkEf ∈ [0x0104, 0x0204, 0x0304, 0x0404]) && a.ports.all portOk
  && (if a.profile = 8 then (a.auth = 0 || a.auth = 2) && decide (a.hallmark ≤ 2)
      else
        (a.auth = 0 || a.auth = 1) && (a.hallmark = 0 || a.hallmark = 2) && domainOk a.profile a.domain && transportOk a.profile a.transport
        && (a.stepMode = 2 || (a.stepMode = 1 && a.auth = 0)) && decide (10 ≤ a.maxGrant) && decide (a.maxGrant ≤ 1000)
        && decide (1000 ≤ a.holdSpec) && decide (a.holdSpec ≤ 0xFFFFFFFE) && decide (a.sdoId < 4096)
        && serviceLogOk a.profile 1 a.syncLog && serviceLogOk a.profile 0 a.annLog && serviceLogOk a.profile 2 a.drespLog)

/-- Two services would share a PTP domain and transport, or an IP address and UDP port 123, on one port (R296). -/
def servicesClash (a b : ServiceArgs) : Bool :=
  (a.ports.any fun p => decide (p ∈ b.ports)) &&
    ((a.profile = 8 && b.profile = 8) ||
     (a.profile != 8 && b.profile != 8 && a.domain = b.domain && [0, 1, 2].any fun t => nbit a.transport t && nbit b.transport t))

/-- A client's grant is cancelled (R320): a cancel is sent and CANCELLING set. -/
def State.cancelGrant (s : State) (n : Nat) : State :=
  let g := s.grant n
  if g.granted = 0 then s
  else
    let v := (s.svc g.service).getD {}
    (s.onGrant n fun x => { x with cancelling := true }).originate g.port g.service
      { kind := .cancel, bezel := g.bezel, sub := g.sub, cls := v.cfg.cls, service := g.service, client := g.client,
        len := wireLen v.unicastVia (ptpLen .cancel false g.authed false), auth := g.authed, body := [fld 3 g.granted] } g.key

/-- Every grant of a service is cancelled (R333). -/
def State.cancelGrants (s : State) (n : Nat) : State :=
  (s.tse.grants.filter fun q => q.2.granted != 0 && q.2.service = n).foldl (fun (t : State) q => t.cancelGrant q.1) s

/-- The lowest free service number. -/
def State.freeService (s : State) : Option Nat := (List.range 1024).find? fun n => (s.svc n).isNone

/-- `svc.set_service`. -/
def cmdSvcSetService (h : CmdHdr) (a : ServiceArgs) : CmdMeta × CmdBody :=
  ({ op := 0x2101, who := .any, mirrored := true, xbIn := true },
   { argOk := fun s => decide (a.op ≤ 2) && (if a.op = 0 then a.service = 0xFFFF else decide (a.service < 1024) && (s.svc a.service).isSome)
       && (a.op = 2 || (serviceArgsOk a && (a.auth != 1 || s.macKeyOk a.key)))
     check := fun s =>
       let own := (a.op = 0 || (match s.svc a.service with | some v => v.bezel = h.fn | none => true))
         && (a.op = 2 || (a.ports.all (fun p => s.portOwner p = h.fn) && (a.auth != 1 || s.keyOwned h.fn a.key)))
       judgeOwned own false 3
         [(a.op != 2 && s.allSvcs.any (fun q => q.1 != a.service && servicesClash a q.2.cfg), .conflict),
          (a.op = 0 && (decide (64 ≤ (s.allSvcs.filter fun q => q.2.bezel = h.fn).length) || s.freeService.isNone), .busy)]
     act := fun s =>
       if a.op = 0 then
         match s.freeService with
         | none => cmdOut s
         | some n => cmdOut ((s.onTse fun x => { x with services := x.services.put n (some { bezel := h.fn, cfg := { a with service := n } }) }).store 0x21 n) [fld 16 n]
       else if a.op = 1 then
         let old := ((s.svc a.service).getD {}).cfg
         let s1 := if old.profile != a.profile || old.ports != a.ports || old.auth != a.auth || old.required != a.required || old.key != a.key
           then s.cancelGrants a.service else s
         cmdOut ((s1.onSvc a.service fun v => { v with cfg := a }).store 0x21 a.service) [fld 16 a.service]
       else cmdOut (((s.cancelGrants a.service).onTse fun x => { x with services := x.services.put a.service none }).store 0x21 a.service) [fld 16 a.service] })

/-! ### Addresses, launch margin, PRP (R299, R313, R325) -/

/-- `svc.set_address`. The two ports of a PRP pair share one table (R325). -/
def cmdSvcSetAddress (h : CmdHdr) (port index family vlan pcp address : Nat) : CmdMeta × CmdBody :=
  ({ op := 0x2102, plen := 24, who := .any, mirrored := true },
   { argOk := fun _ => portOk port && decide (index < 16) && (family = 0 || family = 4 || family = 6) && decide (vlan ≤ 4094) && decide (pcp ≤ 7)
       && decide (address < (if family = 4 then 2 ^ 32 else 2 ^ 128))
     check := fun s => judgeOwned (s.portOwner port = h.fn) false 3
       [(family != 0 && (s.port (s.homePort port)).addrs.any (fun q => q.1 != index && q.2.family = family && q.2.vlan = vlan && q.2.addr = address), .conflict)]
     act := fun s => cmdOut ((s.onPort (s.homePort port) fun x => { x with
       addrs := if family = 0 then x.addrs.filter (fun q => q.1 != index) else x.addrs.put index { family := family, vlan := vlan, pcp := pcp, addr := address } }).store 0x20 port) })

/-- `svc.set_launch`. -/
def cmdSvcSetLaunch (h : CmdHdr) (port margin : Nat) : CmdMeta × CmdBody :=
  ({ op := 0x2103, plen := 8, who := .any, mirrored := true },
   { argOk := fun _ => portOk port && decide (500 ≤ margin) && decide (margin ≤ 100000)
     check := fun s => judgeOwned (s.portOwner port = h.fn) false 3 []
     act := fun s => cmdOut ((s.onPort port fun x => { x with margin := margin }).store 0x20 port) })

/-- `svc.set_prp`. -/
def cmdSvcSetPrp (h : CmdHdr) (portA portB join forget : Nat) : CmdMeta × CmdBody :=
  ({ op := 0x2106, plen := 12, who := .any, mirrored := true },
   { argOk := fun s => portOk portA && portOk portB && portA != portB && decide (join ≤ 1)
       && (if join = 1 then decide (10 ≤ forget) && decide (forget ≤ 1000) && (s.port portA).mode = (s.port portB).mode
           else s.ports.prp.any fun x => x.a = portA && x.b = portB)
     check := fun s => judgeOwned (s.portOwner portA = h.fn && s.portOwner portB = h.fn) false 3
       [(join = 1 && !(s.ports.prp.any fun x => x.a = portA && x.b = portB) &&
          (s.portInPrp portA || s.portInPrp portB || s.portUsed .prp portA || s.portUsed .prp portB), .conflict)]
     act := fun s =>
       let next := fun (l : List PrpPair) =>
         if join = 0 then l.filter (fun y => !(y.a = portA && y.b = portB))
         else if l.any (fun y => y.a = portA) then l.map (fun y => if y.a = portA then { y with forget := forget } else y)
         else l ++ [{ a := portA, b := portB, forget := forget }]
       let s1 := s.onPorts fun x => { x with prp := next x.prp }
       cmdOut ((s1.store 0x20 portA).store 0x20 portB) })

/-! ### Grants and seals (R318, R320, R322) -/

/-- The issuer owns a grant entry; a free one is nobody's. -/
def State.grantOwned (s : State) (b n : Nat) : Bool := (s.grant n).granted = 0 || (s.grant n).bezel = b

/-- `svc.cancel_grant`. -/
def cmdSvcCancelGrant (h : CmdHdr) (entry : Nat) : CmdMeta × CmdBody :=
  ({ op := 0x2104, plen := 4, who := .any, mirrored := true, action := true },
   { argOk := fun _ => decide (entry < 1048576)
     check := fun s => judgeOwned (s.grantOwned h.fn entry) false 3 [((s.grant entry).granted = 0, .state)]
     act := fun s => cmdOut (s.cancelGrant entry) })

/-- `svc.set_seal`. -/
def cmdSvcSetSeal (h : CmdHdr) (lifetime : Nat) : CmdMeta × CmdBody :=
  ({ op := 0x2105, plen := 4, who := .any, mirrored := true },
   { argOk := fun _ => decide (3600 ≤ lifetime) && decide (lifetime ≤ 604800)
     act := fun s => cmdOut ((s.onTse fun x => { x with seals := x.seals.upd {} h.fn fun y => { y with
       lifetime := lifetime, next := y.next - y.lifetime + lifetime } }).store 0x21 (2048 + h.fn)) })

/-- `svc.read_status`: configuration and counters; the layout is the model's own. -/
def cmdSvcReadStatus (h : CmdHdr) (service : Nat) : CmdMeta × CmdBody :=
  ({ op := 0x2141, plen := 2, who := .any, xbOut := true },
   { argOk := fun s => (s.svc service).isSome
     check := fun s => judgeOwned (h.fn = 0 || (match s.svc service with | some v => v.bezel = h.fn | none => false)) true 3 []
     act := fun s => match s.svc service with
       | none => cmdOut s
       | some v => cmdOut s []
         ([fld 16 service, fld 8 v.bezel, fld 8 v.cfg.profile, fld 8 v.cfg.domain, fld 8 v.cfg.transport, fld 8 v.cfg.cls, fld 8 v.cfg.serve, fld 8 v.cfg.auth,
           fld 8 v.cfg.required, fld 16 v.cfg.key, fld 8 v.cfg.spp, fld 8 v.cfg.stepMode, fld 8 v.cfg.hallmark, fld 8 v.cfg.priority1, fld 8 v.cfg.priority2,
           fld 8 v.cfg.signalErr, fld 16 v.cfg.variance, fld 16 v.cfg.hallmarkEf, fld 16 v.cfg.maxGrant, fld 32 v.cfg.holdSpec, fld 64 v.cfg.identity,
           fld 16 v.cfg.sdoId, (8, v.cfg.syncLog), (8, v.cfg.annLog), (8, v.cfg.drespLog), fld 8 v.cfg.sealedGrants]
          ++ (List.range 256).map (fun p => bit (decide (p ∈ v.cfg.ports))) ++ (List.range 4).map fun k => fld 64 (v.cnt.look 0 k)) })

/-- A grant entry in its layout (R318). -/
def Grant.layout (g : Grant) : Rec :=
  [fld 48 g.tag, fld 10 g.service, fld 6 g.bezel, fld 16 g.sub, (4, g.annLog), (4, g.syncLog), (4, g.drespLog), fld 3 g.granted, bit g.cancelling,
   fld 16 (g.expiry % 65536), fld 12 g.key, bit g.authed, rsv 3]

/-- `svc.read_grant`. -/
def cmdSvcReadGrant (h : CmdHdr) (entry : Nat) : CmdMeta × CmdBody :=
  ({ op := 0x2142, plen := 4, who := .any },
   { argOk := fun _ => decide (entry < 1048576)
     check := fun s => judgeOwned (h.fn = 0 || s.grantOwned h.fn entry) true 3 []
     act := fun s => cmdOut s (s.grant entry).layout })


end Sys2Proof.Machine
end

