-- ==== Sys2Proof/Machine/Tm.lean ====
section
/-! DEFINITION. The tm commands, the samples of queues and subscribers, and the audit of the conserved quantities (R373-R375, R379, R382,
R383, R386, R394, R395, R484). -/

namespace Sys2Proof.Machine

/-! ### Subscriber rules (R373) -/

/-- `tm.set_subscriber_rule`. A MAC address matches whole. -/
def cmdTmSetSubscriberRule (h : CmdHdr) (index kind pfxLen subscriber address : Nat) : CmdMeta × CmdBody :=
  ({ op := 0x2401, plen := 24, who := .any, mirrored := true },
   { argOk := fun s => decide (index < s.quota 2 h.fn) && decide (kind ≤ 3)
       && (kind = 0 || kind = 3 || decide (pfxLen ≤ (if kind = 1 then 32 else 128)))
     check := fun s => judgeOwned (kind = 0 || s.ownsSub h.fn subscriber) false 4 []
     act := fun s =>
       let rest := s.tm.rules.filter fun r => !(r.bezel = h.fn && r.index = index)
       let new := if kind = 0 then rest
         else rest ++ [{ bezel := h.fn, index := index, kind := kind, pfxLen := if kind = 3 then 48 else pfxLen, sub := subscriber, addr := address }]
       cmdOut ((s.onTm fun x => { x with rules := new }).store 0x24 (h.fn * 65536 + index)) })

/-! ### Meters (R374, R375) -/

/-- The parameters of a meter lie in their ranges (R375). -/
def meterOk (a : MeterArgs) : Bool :=
  let least := if a.unit = 0 then 1522 else 1
  a.mode = 0 || (decide (1 ≤ a.cir) && decide (a.cir < 2 ^ 40) && decide (least ≤ a.cbs) && decide (a.cbs < 2 ^ 32) && decide (least ≤ a.ebs) && decide (a.ebs < 2 ^ 32)
    && (if a.mode = 1 then a.pir = 0 else decide (a.cir ≤ a.pir) && decide (a.pir < 2 ^ 40)))

/-- A meter takes new parameters (R375): full where it is configured or its mode or unit changes, else its contents cut to size. -/
def Meter.set (m0 : Meter) (now : Nat) (a : MeterArgs) : Meter :=
  let m := m0.fill now
  let pk : Bool := a.unit = 1
  let m1 : Meter := { m with mode := a.mode, packets := pk, cir := a.cir, pir := a.pir, cbs := a.cbs, ebs := a.ebs, at_ := now }
  if a.mode = 0 then { m1 with tc := 0, te := 0, credited := 0, spent := 0, discarded := 0 }
  else if m.mode != a.mode || m.packets != pk then
    { m1 with tc := a.cbs * packetHz, te := a.ebs * packetHz, credited := (a.cbs + a.ebs) * packetHz, spent := 0, discarded := 0 }
  else
    let tc := min m.tc (a.cbs * packetHz)
    let te := min m.te (a.ebs * packetHz)
    { m1 with tc := tc, te := te, discarded := m.discarded + (m.tc - tc) + (m.te - te) }

/-- `tm.set_meter`. -/
def cmdTmSetMeter (h : CmdHdr) (a : MeterArgs) : CmdMeta × CmdBody :=
  ({ op := 0x2402, plen := 32, who := if a.kind = 0 then .operator else .any, mirrored := true },
   { argOk := fun s => decide (a.kind ≤ 2) && decide (a.mode ≤ 2) && decide (a.unit ≤ 1)
       && (if a.kind = 0 then decide (a.index < 64) && s.bezelServes a.index else decide (a.index < (if a.kind = 1 then 65536 else 2048))) && meterOk a
     check := fun s =>
       if a.kind = 1 then judgeOwned (s.ownsSub h.fn a.index) false 4 []
       else if a.kind = 2 then judgeOwned (s.portOwner (a.index / 8) = h.fn) false 3 [] else {}
     act := fun s =>
       let s1 := (s.onMeter a.kind a.index fun m => m.set s.pcyc a).store 0x24 (4194304 + a.kind * 1048576 + a.index)
       cmdOut (if a.kind = 0 then s1.isolate else s1) })

/-! ### Buffer, queues, shapers, sampling (R379, R382, R383, R386) -/

/-- `tm.set_buffer`. -/
def cmdTmSetBuffer (_h : CmdHdr) (bezel reserve cap : Nat) : CmdMeta × CmdBody :=
  ({ op := 0x2403, plen := 12, mirrored := true },
   { argOk := fun s => decide (bezel < 64) && s.bezelServes bezel && decide (reserve ≤ 49152) && reserve % 64 = 0 && decide (cap ≤ 16384)
     check := fun s => judge [(decide (49152 < (s.tm.bezels.map fun p => if p.1 = bezel then 0 else p.2.reserve).sum + reserve) && decide ((s.tmBez bezel).reserve < reserve), .conflict)]
     act := fun s => cmdOut (((s.onTmBez bezel fun x => { x with reserve := reserve, cap := cap }).isolate).store 0x23 bezel) })

/-- `tm.set_queue`. -/
def cmdTmSetQueue (h : CmdHdr) (port cls limit yellow : Nat) : CmdMeta × CmdBody :=
  ({ op := 0x2404, plen := 12, who := .any, mirrored := true },
   { argOk := fun _ => portOk port && decide (cls ≤ 7) && decide (16 ≤ limit) && decide (limit ≤ 16384) && decide (yellow ≤ limit)
     check := fun s => judgeOwned (s.portOwner port = h.fn) false 3 []
     act := fun s => cmdOut ((s.onSvcQ port cls fun q => { q with limit := limit, yellow := some yellow }).store 0x24 (8388608 + port * 8 + cls)) })

/-- The line rate that bounds a shaper: its port's, or the highest of any port for a subscriber (R383). -/
def State.shaperLine (s : State) (kind i : Nat) : Nat := if kind = 0 then PortMode.rate .g25 else if kind = 1 then s.line (i / 8) else s.line i

/-- A shaper takes new parameters (R383): its credit is brought to now under the old ones and cut to the new bounds. -/
def Shaper.setTo (x0 : Shaper) (old now rate high : Nat) (low : Int) : Shaper :=
  let x := x0.run old now
  let c : Int := if rate = 0 then 0 else max (low * packetHz) (min x.credit ((high * packetHz : Nat) : Int))
  { x with rate := rate, high := high, low := low, set := true, credit := c, cut := x.cut + (x.credit - c) }

/-- `tm.set_shaper`. -/
def cmdTmSetShaper (h : CmdHdr) (kind index rate high : Nat) (low : Int) : CmdMeta × CmdBody :=
  ({ op := 0x2405, plen := 24, who := .any, mirrored := true },
   { argOk := fun s => decide (kind ≤ 2) && decide (index < (if kind = 0 then 65536 else if kind = 1 then 2048 else 256))
       && (rate = 0 || (decide (1000 ≤ rate) && decide (rate ≤ s.shaperLine kind index))) && decide (high ≤ 16777216) && decide (-16777216 ≤ low) && decide (low ≤ 0)
     check := fun s =>
       if kind = 0 then judgeOwned (s.ownsSub h.fn index) false 3 []
       else judgeOwned (s.portOwner (if kind = 1 then index / 8 else index) = h.fn) false 3 []
     act := fun s => cmdOut ((s.onShaper kind index fun x => x.setTo (s.shaperRate kind index) s.pcyc rate high low).store 0x24 (16777216 + kind * 1048576 + index)) })

/-- `tm.set_sample`. -/
def cmdTmSetSample (h : CmdHdr) (port period window : Nat) : CmdMeta × CmdBody :=
  ({ op := 0x2406, plen := 12, who := .any, mirrored := true },
   { argOk := fun _ => portOk port && decide (1 ≤ period) && decide (period ≤ 1000000) && decide (1 ≤ window) && decide (window ≤ 65536)
     check := fun s => judgeOwned (s.portOwner port = h.fn) false 3 []
     act := fun s => cmdOut ((s.onTm fun x => { x with samples := x.samples.put port { period := period, window := window } }).store 0x24 (33554432 + port)) })

/-- The least or greatest of three values each. -/
def zip3 (f : Nat → Nat → Nat) (a b : Nat × Nat × Nat) : Nat × Nat × Nat := (f a.1 b.1, f a.2.1 b.2.1, f a.2.2 b.2.2)

/-- One more sample (R386). -/
def DepthStat.add (x : DepthStat) (v : Nat × Nat × Nat) : DepthStat :=
  { n := x.n + 1, last := v, lo := if x.n = 0 then v else zip3 min x.lo v, hi := zip3 max x.hi v, sum := zip3 (· + ·) x.sum v }

/-- One more sample of a window of `w` periods. -/
def DepthWin.add (x : DepthWin) (w : Nat) (v : Nat × Nat × Nat) : DepthWin :=
  let r := x.run.add v
  if w ≤ r.n then { run := {}, done := r } else { x with run := r }

/-- Depth in frames and cells and the age of the head of waiting frames, oldest first (R386). -/
def depthOf (now : Nat) (l : List TxFrame) : Nat × Nat × Nat :=
  (l.length, (l.map fun f => cellsOf f.len).sum, match l with | [] => 0 | f :: r => now - r.foldl (fun m g => min m g.at_) f.at_)

/-- The queues of a port and the subscribers that wait on it are sampled. -/
def onQueueSample (port : Nat) (s : State) : State :=
  if !portOk port then s
  else
    let w := (s.tm.samples.look {} port).window
    let s1 := classesDown.foldl (fun (t : State) c => t.onTm fun x => { x with
      queueWins := x.queueWins.upd {} (port * 8 + c) fun q => q.add w (depthOf s.pcyc (s.svcQ port c).frames) }) s
    let all := classesDown.flatMap fun c => (s.svcQ port c).frames
    (all.map (·.sub)).eraseDups.foldl (fun (t : State) sub => t.onTm fun x => { x with
      subWins := x.subWins.upd {} sub fun q => q.add w (depthOf s.pcyc (all.filter fun f => f.sub = sub)) }) s1

/-- A window's values: last, least, greatest and sum of the three. -/
def DepthStat.rec_ (x : DepthStat) : Rec :=
  fld 32 x.n :: ([x.last, x.lo, x.hi, x.sum].flatMap fun v => [fld 64 v.1, fld 64 v.2.1, fld 64 v.2.2])

/-- `tm.read_queue`: the last completed window and the running one; the layout is the model's own. -/
def cmdTmReadQueue (h : CmdHdr) (kind index : Nat) : CmdMeta × CmdBody :=
  ({ op := 0x2441, plen := 8, who := .any, xbOut := true },
   { argOk := fun _ => decide (kind ≤ 1) && decide (index < (if kind = 0 then 2048 else 65536))
     check := fun s => judgeOwned (h.fn = 0 || (if kind = 0 then s.portOwner (index / 8) = h.fn else s.ownsSub h.fn index)) true 3 []
     act := fun s =>
       let q := if kind = 0 then s.tm.queueWins.look {} index else s.tm.subWins.look {} index
       cmdOut s [] (q.done.rec_ ++ q.run.rec_) })

/-- QUEUE_SAMPLE (R386). -/
def execQueueSample (port : Nat) (s : State) : Host.Outcome State Fault Refusal :=
  .next (if s.alive then onQueueSample port s else s)


/-! ### The audit (R394, R395) -/

/-- A row of the books: what it is, its index, its terms, and the imbalance that its in-flight term (zero here) must cover. -/
structure BookRow where
  kind : Nat
  index : Nat
  terms : List Int
  off : Int
  deriving DecidableEq, Repr

/-- Rows of the packet-buffer cells: the device (index 64), then each bezel that counts. -/
def State.cellRows (s : State) (mine : Nat → Bool) : List BookRow :=
  let held := s.cellsHeld
  let free := 65536 - held
  (if mine 0 then [{ kind := 0, index := 64, terms := [free, held], off := (free : Int) + held - 65536 }] else [])
  ++ (s.tm.bezels.filter fun p => mine p.1).map fun p =>
    let r := min p.2.held p.2.reserve
    { kind := 0, index := p.1, terms := [p.2.held, r, p.2.shared], off := (p.2.held : Int) - r - p.2.shared }

/-- Rows of shapers and of meters. -/
def shaperRows (base : Nat) (l : Tab Shaper) (mine : Nat → Bool) : List BookRow :=
  (l.filter fun p => mine p.1).map fun p => { kind := 1, index := base + p.1, terms := [p.2.credit, p.2.accrued, p.2.sent, p.2.cut, p.2.zeroed],
                                              off := p.2.credit - ((p.2.accrued : Int) - p.2.sent - p.2.cut - p.2.zeroed) }
def meterRows (base : Nat) (l : Tab Meter) (mine : Nat → Bool) : List BookRow :=
  (l.filter fun p => mine p.1).map fun p => { kind := 2, index := base + p.1, terms := [p.2.tc, p.2.te, p.2.credited, p.2.spent, p.2.discarded],
                                              off := (p.2.tc : Int) + p.2.te - ((p.2.credited : Int) - p.2.spent - p.2.discarded) }

/-- Rows of the Signet slot credits: the pointer's (index 128), then each requester's. -/
def State.creditRows (s : State) (mine : Nat → Bool) : List BookRow :=
  let g := (s.sta.granted.map (·.2)).sum
  (if mine 0 then [{ kind := 3, index := 128, terms := [s.sta.passed, g, s.sta.background], off := (s.sta.passed : Int) - g - s.sta.background }] else [])
  ++ ((List.range 66).filter fun r => if r < 64 then mine r else mine 0).map fun r =>
    { kind := 3, index := r, terms := [s.creditOf r, s.sta.granted.look 0 r, s.sta.debited.look 0 r],
      off := s.creditOf r - ((s.sta.granted.look 0 r : Int) - s.sta.debited.look 0 r) }

/-- Rows of the mailbox queue credits: command queues 0-3, the completion queue (4) and the event queue (5). -/
def State.mailRows (s : State) (mine : Nat → Bool) : List BookRow :=
  (s.mbx.fns.filter fun p => mine p.1).flatMap fun p =>
    let f := p.2
    ((f.queues.filter fun q => q.2.en).map fun q =>
      let n := (q.2.tail + 65536 - q.2.done) % 65536
      { kind := 4, index := p.1 * 8 + q.1, terms := [(256 - n : Nat), n], off := if n ≤ 256 then 0 else (n : Int) - 256 : BookRow })
    ++ (if f.cplEn then
      let n := (f.cplPut + 65536 - f.cplHead) % 65536
      [{ kind := 4, index := p.1 * 8 + 4, terms := [(1024 - n : Nat), n], off := if n ≤ 1024 then 0 else (n : Int) - 1024 }] else [])
    ++ (if f.evtEn then
      let n := (f.evtPut + 65536 - f.evtHead) % 65536
      [{ kind := 4, index := p.1 * 8 + 5, terms := [((2 ^ f.evtSize - n : Nat) : Int), n], off := if n ≤ 2 ^ f.evtSize then 0 else (n : Int) - (2 ^ f.evtSize : Nat) }] else [])

/-- Rows of the stamp store (R197): each ring with what is free, held and in flight, which between two commands is none, then the sum of the allotments and
the unallotted count (index 96). -/
def State.stampRows (s : State) : List BookRow :=
  let rings := (List.range 96).map fun i => (i, s.ring i)
  (rings.map fun p => { kind := 5, index := p.1, terms := [(p.2.allot - p.2.recs.length : Nat), p.2.recs.length, 0], off := if p.2.recs.length ≤ p.2.allot then 0 else 1 : BookRow })
  ++ [{ kind := 5, index := 96, terms := [(rings.map fun p => (p.2.allot : Int)).sum, (131072 - (rings.map fun p => p.2.allot).sum : Nat)], off := if (rings.map fun p => p.2.allot).sum ≤ 131072 then 0 else 1 }]

/-- The books a bezel receives (R395). -/
def State.books (s : State) (b : Nat) : List BookRow :=
  let me := fun i => b = 0 || i = b
  let port := fun i => b = 0 || s.portOwner i = b
  let sub := fun i => b = 0 || s.ownsSub b i
  s.cellRows me
  ++ shaperRows 0 s.tm.subShapers sub ++ shaperRows 65536 s.tm.svcShapers (fun i => port (i / 8)) ++ shaperRows 131072 s.tm.portShapers port
  ++ meterRows 0 s.tm.bezMeters me ++ meterRows 64 s.tm.subMeters sub ++ meterRows 131072 s.tm.svcMeters (fun i => port (i / 8))
  ++ s.creditRows me ++ s.mailRows me ++ (if b = 0 then s.stampRows else [])

/-- A row as it is returned: the layout is the model's own. -/
def BookRow.rec_ (r : BookRow) : Rec :=
  [fld 8 r.kind, fld 8 (b01 (r.off != 0)), fld 16 r.terms.length, fld 32 r.index] ++ r.terms.map (fun t => (128, t)) ++ [fld 64 0]

/-- `tm.audit`: an ERROR raises the TM's error pin, FSW14 bit 30 (R395, R519). -/
def cmdTmAudit (h : CmdHdr) : CmdMeta × CmdBody :=
  ({ op := 0x2442, who := .any, xbOut := true },
   { argOk := fun _ => true
     act := fun s =>
       let l := s.books h.fn
       let bad := l.any fun r => r.off != 0
       cmdOut (if bad then (s.setPin 14 30 false).fireMp else s) [fld 8 (b01 bad)] (l.flatMap BookRow.rec_) })


end Sys2Proof.Machine
end

