-- ==== Sys2Proof/Machine/Key.lean ====
section
/-! DEFINITION. The key tree and its commands, the random numbers, the public-key engines and the seal keys (R322, R342-R359, R366, R482,
R483). -/

namespace Sys2Proof.Machine

/-! ### The tree (R347, R354) -/

/-- Material length of an algorithm in bytes (R338, R348); 0 for a reserved code. -/
def algLen (alg : Nat) : Nat :=
  if alg = 1 then 16 else if decide (alg ∈ [2, 3, 5, 0x10, 0x11, 0x12]) then 32 else if alg = 4 then 64 else 0

/-- A private key's algorithm. -/
def privateAlg (alg : Nat) : Bool := decide (alg ∈ [0x10, 0x11, 0x12])

/-- A slot passes from FREE to VALID, or is replaced, with new attributes and material (R348, R357). -/
def State.fillKey (s : State) (k : Nat) (x : KeySlot) : State :=
  (s.onKey k fun y => { x with st := .valid, gen := if y.st = .valid then y.gen else (y.gen + 1) % 65536 }).store 0x22 k

/-- A request to a DRBG unit (R344). -/
def State.draw (s : State) (unit : Nat) : State :=
  (s.onKeys fun x => { x with drbgs := x.drbgs.upd {} unit fun d => { d with requests := d.requests + 1 } }).nextFree

/-- Unit LK is in ERROR (R345). -/
def State.lkError (s : State) : Bool := (s.keys.drbgs.look {} 0).error

/-- A fixed slot of a bezel is made under its parent (R347, R397). -/
def State.makeFixed (s : State) (k b alg usage parent : Nat) : State :=
  (s.draw 0).fillKey k { usage := usage, alg := alg, len := algLen alg, depth := (s.key parent).depth + 1, owner := b, parent := parent, material := Config.newKey s.free }

/-- The bezel root, Hallmark key and seal keys of a bezel (R397). -/
def State.makeRoots (s : State) (b : Nat) : State :=
  ((((s.makeFixed (64 + b) b 2 0x3FFF 2).makeFixed (128 + b) b 1 0x0801 (64 + b)).makeFixed (192 + 2 * b) b 4 0x0400 (64 + b)).makeFixed (193 + 2 * b) b 4 0x0400 (64 + b)).onTse
    fun x => { x with seals := x.seals.upd {} b fun y => { y with next := s.upNs / 1000000000 + y.lifetime } }

/-- Pool slots a bezel uses (R347, R400). -/
def State.poolUsedBy (s : State) (b : Nat) : Nat := (s.keys.slots.filter fun q => 320 ≤ q.1 && q.2.st != .free && !q.2.locket && q.2.owner = b).length

/-- A free pool slot: the lowest. -/
def State.freeSlot (s : State) : Option Nat := (List.range 3776).findSome? fun i => if (s.key (320 + i)).st = .free then some (320 + i) else none

/-- No pool slot is left for a bezel (R357). -/
def State.poolFull (s : State) (b : Nat) : Bool := decide (s.quota 1 b ≤ s.poolUsedBy b) || s.freeSlot.isNone

/-- A slot becomes FREE, its material gone (R350, R355). -/
def State.freeKey (s : State) (k : Nat) : State := (s.onKey k fun x => { gen := x.gen }).store 0x22 k

/-- A change of the slot is mirrored (R482): it carries PAIR_MIRROR, or is a Hallmark or seal slot. -/
def State.keyMirrors (s : State) (k : Nat) : Bool := (s.key k).may 13 || (128 ≤ k && decide (k < 320))

/-! ### Commands (R357, R358, R482) -/

/-- `key.generate`. -/
def cmdKeyGenerate (h : CmdHdr) (a : GenKeyArgs) : CmdMeta × CmdBody :=
  ({ op := 0x2201, plen := 20, who := .any, mirrored := nbit a.usage 13, xbOut := privateAlg a.alg },
   { argOk := fun s => decide (a.parent < 4096) && algLen a.alg != 0 && decide (a.usage < 16384) && decide ((s.key a.parent).depth < 7)
     check := fun s => judgeOwned (s.keyOwned h.fn a.parent) false 3
       [(s.lkError || (s.key a.parent).st != .valid, .state), (s.poolFull h.fn, .busy)]
     early := fun s => judge [(s.lkError, .state)]
     act := fun s => match s.freeSlot with
       | none => cmdOut s
       | some k =>
         let m := Config.newKey s.free
         let s1 := (s.draw 0).fillKey k {
           usage := a.usage, alg := a.alg, len := algLen a.alg, depth := (s.key a.parent).depth + 1, owner := h.fn,
           expireAtReset := a.expireAtReset, parent := a.parent, useLimit := a.useLimit, expiry := a.expiry, label := a.label, material := m,
           reserved := if a.useLimit != 0 then 1048576 else 0 }
         cmdOut s1 [fld 16 k, fld 16 (s1.key k).gen] (if privateAlg a.alg then [fld (if a.alg = 0x10 then 512 else 256) (Config.publicKey a.alg m)] else []) })

/-- `key.import`. -/
def cmdKeyImport (h : CmdHdr) (parent target : Nat) (blob : KeyBlob) : CmdMeta × CmdBody :=
  let fixed : Bool := target != 0
  ({ op := 0x2202, plen := 4, who := .any, mirrored := fixed || nbit blob.usage 13, xbIn := true },
   { argOk := fun s => decide (parent < 4096) && decide (target < 4096) && (!fixed || target = 128 + h.fn || !s.keyOwned h.fn target)
       && (blob.version != 1 || (blob.wrap = 1 && blob.len = algLen blob.alg && blob.parent = parent && blob.owner = h.fn
         && (!fixed || (blob.alg = 1 && !blob.expireAtReset))))
     early := fun _ => judge [(blob.version != 1, .ver)]
     check := fun s => judgeOwned (s.keyOwned h.fn parent && (target = 0 || s.keyOwned h.fn target)) false 3
       [(blob.version != 1, .ver),
        (blob.version = 1 && (!blob.sivOk || !(s.key parent).may 5 || (List.range 13).any (fun n => nbit blob.usage n && !(s.key parent).may n)
           || 7 ≤ (s.key parent).depth), .arg),
        (!s.keyUsable parent, .state), (!fixed && s.poolFull h.fn, .busy)]
     act := fun s => match (if fixed then some target else s.freeSlot) with
       | none => cmdOut s
       | some k =>
         let s1 := (s.useKey parent).fillKey k {
           usage := blob.usage, alg := blob.alg, len := blob.len, depth := (s.key parent).depth + 1, owner := h.fn,
           expireAtReset := blob.expireAtReset, parent := parent, useLimit := blob.useLimit, expiry := blob.expiry, label := blob.label, material := blob.material,
           reserved := if blob.useLimit != 0 then 1048576 else 0 }
         cmdOut s1 [fld 16 k, fld 16 (s1.key k).gen] })

/-- `key.provision_owner`: the owner root, and below it the fixed slots of the bezels that have none. -/
def cmdKeyProvisionOwner (_h : CmdHdr) (blob : KeyBlob) : CmdMeta × CmdBody :=
  ({ op := 0x2203, mirrored := nbit blob.usage 13, xbIn := true },
   { argOk := fun _ => blob.version != 1 || (blob.wrap = 2 && blob.sivOk && blob.alg = 2 && blob.len = 32 && blob.parent = 1 && blob.owner = 0 && !blob.expireAtReset)
     check := fun s => judge [(blob.version != 1, .ver), ((s.key 2).st = .valid, .state)]
     early := fun s => judge [(blob.version != 1, .ver), ((s.key 2).st = .valid, .state)]
     act := fun s =>
       let s1 := s.fillKey 2 {
         usage := blob.usage, alg := 2, len := 32, depth := 2, owner := 0, parent := 1, useLimit := blob.useLimit, expiry := blob.expiry,
         label := blob.label, material := blob.material }
       cmdOut (s1.bezels.foldl (fun (t : State) b => if (t.key (64 + b)).st = .valid then t else t.makeRoots b) s1) })

/-- `key.destroy`. -/
def cmdKeyDestroy (h : CmdHdr) (slot confirm : Nat) : CmdMeta × CmdBody :=
  ({ op := 0x2204, plen := 8, who := .any, mirrored := true },
   { argOk := fun s => decide (slot < 4096) && (s.key slot).st != .free && (decide (320 ≤ slot) || (slot = 2 && h.fn = 0) || !s.keyOwned h.fn slot)
       && confirm = (if slot = 2 then s.mbx.epoch ^^^ 0x4F574E52 else 0)
     check := fun s => judgeOwned (s.keyOwned h.fn slot) false 3 []
     act := fun s => cmdOut ((s.orphan slot).freeKey slot) })

/-- `key.free`. -/
def cmdKeyFree (h : CmdHdr) (slot : Nat) : CmdMeta × CmdBody :=
  ({ op := 0x2205, plen := 2, who := .any, mirrored := true },
   { argOk := fun _ => decide (slot < 4096)
     check := fun s => judgeOwned ((s.key slot).st = .free || s.keyOwned h.fn slot) false 3 [((s.key slot).st = .free || (s.key slot).st = .valid, .state)]
     act := fun s => cmdOut (s.freeKey slot) })

/-- `key.set_tls`. -/
def cmdKeySetTls (h : CmdHdr) (signSlot clientAuth anchors chainLen : Nat) : CmdMeta × CmdBody :=
  ({ op := 0x2206, plen := 4, who := .any, mirrored := true, xbIn := true },
   { argOk := fun s => decide (signSlot < 4096) && decide (clientAuth ≤ 1) && decide (anchors ≤ 8) && decide (chainLen ≤ 8192)
       && (!s.keyOwned h.fn signSlot || ((s.key signSlot).alg = 0x10 || (s.key signSlot).alg = 0x12) && (s.key signSlot).may 7)
     check := fun s => judgeOwned (s.keyOwned h.fn signSlot) false 3 []
     act := fun s => cmdOut ((s.onKeys fun x => { x with
       tls := x.tls.put h.fn (some { signSlot := signSlot, clientAuth := clientAuth = 1, anchors := anchors, chainLen := chainLen }) }).store 0x22 (8192 + h.fn)) })

/-- The attribute block (R348): of an INVALID slot only STATE can be trusted (R349). -/
def KeySlot.layout (x : KeySlot) : Rec :=
  if x.st = .invalid then [rsv 32, fld 3 5, rsv 221]
  else [fld 16 x.usage, fld 8 x.alg, fld 8 x.len, fld 3 x.st.code, fld 3 x.depth, rsv 2, fld 6 x.owner, bit x.locket, bit x.expireAtReset, fld 12 x.parent, rsv 4,
        fld 32 x.useCtr, fld 32 x.useLimit, fld 32 x.expiry, fld 16 x.gen, rsv 16, fld 32 x.label, rsv 32]

/-- `key.read_slot`. -/
def cmdKeyReadSlot (h : CmdHdr) (slot : Nat) : CmdMeta × CmdBody :=
  ({ op := 0x2241, plen := 2, who := .any },
   { argOk := fun _ => decide (slot < 4096)
     check := fun s => judgeOwned (h.fn = 0 || decide (slot ≤ 2) || s.keyOwned h.fn slot) true 3 []
     act := fun s => cmdOut s ((s.key slot).layout ++ [fld 8 (b01 ((s.key slot).st = .invalid))]) })

/-- `key.read_identity`. -/
def cmdKeyReadIdentity (_h : CmdHdr) : CmdMeta × CmdBody :=
  ({ op := 0x2242, who := .any, xbOut := true },
   { argOk := fun _ => true
     act := fun s => cmdOut s [] (fld 256 Config.agreementKey :: Config.certificate.map fun b => fld 8 b) })

/-- `key.random`. -/
def cmdKeyRandom (_h : CmdHdr) (len : Nat) : CmdMeta × CmdBody :=
  ({ op := 0x2243, plen := 2, who := .any, xbOut := true },
   { argOk := fun _ => decide (1 ≤ len) && decide (len ≤ 256)
     check := fun s => judge [(s.lkError, .state)]
     early := fun s => judge [(s.lkError, .state)]
     act := fun s => cmdOut (s.draw 0) [] [fld (8 * len) (Config.randomBytes len s.free)] })

/-- `key.read_status`: engines, entropy, DRBG units, and the sessions of the issuer, of all for BZ00; the layout is the model's own. -/
def cmdKeyReadStatus (h : CmdHdr) : CmdMeta × CmdBody :=
  ({ op := 0x2244, who := .any, xbOut := true },
   { argOk := fun _ => true
     act := fun s =>
       let mine := s.keys.conns.filter fun q => match q.2 with | some c => h.fn = 0 || c.bezel = h.fn | none => false
       cmdOut s [] (((List.range 16).flatMap fun n => let e := s.eng16 n; [fld 8 (b01 e.inService), fld 48 e.jobs, fld 48 e.faults])
         ++ [bit (!decide (0 ∈ s.keys.pkOut)), bit (!decide (1 ∈ s.keys.pkOut)), bit s.keys.entropyUp, bit s.keys.entropyOut, rsv 4, fld 48 s.keys.restarts]
         ++ ((List.range 6).map fun n => fld 8 (b01 (s.keys.drbgs.look {} n).error))
         ++ (List.range 12).map (fun k => fld 64 (s.keys.answers.look 0 k)) ++ [fld 64 s.keys.tagFails, fld 16 mine.length, fld 16 (s.poolUsedBy h.fn)]) })


/-! ### Engines, entropy and DRBG units (R342-R345) -/

/-- A public-key operation ends; an engine that fails goes out of service. -/
def onPkOperationComplete (pk : Nat) (ok : Bool) (s : State) : State :=
  if ok || 2 ≤ pk || decide (pk ∈ s.keys.pkOut) then s
  else ((s.onKeys fun x => { x with pkOut := x.pkOut ++ [pk] }).raise0 0x2202 [fld 8 (16 + pk)]).addCause (0x0600 + pk)

/-- The entropy source goes out of service (R345). -/
def State.entropyDead (s : State) : State := ((s.onKeys fun x => { x with entropyOut := true, entropyUp := false }).log 0x2280 2 0).addCause 0x0700

/-- A continuous health test fails: the source restarts. -/
def onEntropyHealthFailure (s : State) : State :=
  if s.keys.entropyOut then s else s.onKeys fun x => { x with entropyUp := false, restarts := x.restarts + 1 }

/-- A start-up test ends; the third failed restart in a row puts the source out of service. -/
def onEntropyStartupEnd (pass : Bool) (s : State) : State :=
  if s.keys.entropyOut then s
  else if pass then s.onKeys fun x => { x with entropyUp := true, entropyFails := 0 }
  else
    let n := s.keys.entropyFails + 1
    let s1 := s.onKeys fun x => { x with entropyUp := false, entropyFails := n, restarts := x.restarts + 1 }
    if 3 ≤ n then s1.entropyDead else s1

/-- A DRBG unit reseeds: not in ERROR, which only a device reset ends. -/
def onDrbgReseed (inst : Nat) (s : State) : State :=
  if inst < 6 && s.keys.entropyUp && !s.keys.entropyOut && !(s.keys.drbgs.look {} inst).error then
    s.onKeys fun x => { x with drbgs := x.drbgs.upd {} inst fun d => { d with requests := 0 } }
  else s

/-- 60 s without a reseed, and so without a passed start-up test. -/
def onDrbgErrorTimeout (inst : Nat) (s : State) : State :=
  if 6 ≤ inst || s.keys.entropyUp then s
  else
    let s1 := s.onKeys fun x => { x with drbgs := x.drbgs.upd {} inst fun d => { d with error := true } }
    if s.keys.entropyOut then s1 else s1.entropyDead

/-- A slot's expiry passes (R350). -/
def onSlotExpiry (slot : Nat) (s : State) : State :=
  let x := s.key slot
  if x.st = .valid && x.expiry != 0 && decide (x.expiry < s.sec % 2 ^ 32) then s.retireKey slot .expired else s

/-- The scrub passes a slot (R349). -/
def onSlotScrub (slot : Nat) (tagGood : Bool) (s : State) : State := if tagGood || 4096 ≤ slot then s else s.tagFailed slot

/-- A new seal key (R322): not while unit LK is in ERROR (R345), nor for a bezel without a root. -/
def onSealKeyRotation (bezel : Nat) (s : State) : State :=
  let x := s.seal bezel
  if 64 ≤ bezel || s.upNs / 1000000000 < x.next || s.lkError || (s.key (64 + bezel)).st != .valid then s
  else
    let g := (x.gen + 1) % 2 ^ 32
    (s.makeFixed (sealSlot bezel g) bezel 4 0x0400 (64 + bezel)).onTse fun y => { y with
      seals := y.seals.upd {} bezel fun z => { z with gen := g, since := s.sec, next := s.upNs / 1000000000 + z.lifetime } }

/-- PK_OPERATION_COMPLETE (R342). -/
def execPkOperationComplete (pk : Nat) (ok : Bool) (s : State) : Host.Outcome State Fault Refusal :=
  .next (if s.alive then onPkOperationComplete pk ok s else s)

/-- ENTROPY_HEALTH_FAILURE (R345). -/
def execEntropyHealthFailure (s : State) : Host.Outcome State Fault Refusal :=
  .next (if s.alive then onEntropyHealthFailure s else s)

/-- ENTROPY_STARTUP_END (R343). -/
def execEntropyStartupEnd (pass : Bool) (s : State) : Host.Outcome State Fault Refusal :=
  .next (if s.alive then onEntropyStartupEnd pass s else s)

/-- DRBG_RESEED (R344). -/
def execDrbgReseed (inst : Nat) (s : State) : Host.Outcome State Fault Refusal :=
  .next (if s.alive then onDrbgReseed inst s else s)

/-- DRBG_ERROR_TIMEOUT (R345). -/
def execDrbgErrorTimeout (inst : Nat) (s : State) : Host.Outcome State Fault Refusal :=
  .next (if s.alive then onDrbgErrorTimeout inst s else s)

/-- SLOT_EXPIRY (R350). -/
def execSlotExpiry (slot : Nat) (s : State) : Host.Outcome State Fault Refusal :=
  .next (if s.alive then onSlotExpiry slot s else s)

/-- SLOT_SCRUB (R349). -/
def execSlotScrub (slot : Nat) (tagGood : Bool) (s : State) : Host.Outcome State Fault Refusal :=
  .next (if s.alive then onSlotScrub slot tagGood s else s)

/-- SEAL_KEY_ROTATION (R322). -/
def execSealKeyRotation (bezel : Nat) (s : State) : Host.Outcome State Fault Refusal :=
  .next (if s.alive then onSealKeyRotation bezel s else s)


end Sys2Proof.Machine
end

