-- ==== Sys2Proof/Machine/Ke.lean ====
section
/-! DEFINITION. The key-establishment service and the Locket as an NTS client (R360-R368, R437). -/

namespace Sys2Proof.Machine

/-- A connection. -/
def State.conn (s : State) (n : Nat) : Option KeConn := s.keys.conns.look none n

/-- Every connection with its number. -/
def State.allConns (s : State) : List (Nat × KeConn) := s.keys.conns.filterMap fun q => q.2.map fun c => (q.1, c)

/-- Connections in a phase. -/
def State.inPhase (s : State) (p : ConnPhase) : List (Nat × KeConn) := s.allConns.filter fun q => q.2.phase = p

/-- The subscriber of a client of the service (R372). -/
def State.keSub (s : State) (b client : Nat) : Nat := s.subscriberOf b [(1, client), (2, client)]

/-- A frame of a connection goes out (R327), with the records and the seals it carries; TLS records of application data are a job of the Locket
(R387). -/
def State.keSend (s : State) (p b client len : Nat) (body : Rec := []) (seals : List SealTok := []) : State :=
  (if body.isEmpty then s else s.chargeBeats reqLocket (beatsOf false false len)).hand p { kind := .keyEstablishment, bezel := b, sub := s.keSub b client, cls := 4, len := len, client := client, body := body, cookies := seals }

/-- A connection ends; a handshake that waits takes the place of one that ends (R362). -/
def State.endConn (s : State) (n : Nat) : State :=
  let s1 := s.onKeys fun x => { x with conns := x.conns.filter fun q => q.1 != n }
  if 64 ≤ (s1.inPhase .handshake).length then s1
  else match s1.inPhase .waiting with
    | [] => s1
    | (m, _) :: _ => s1.onKeys fun x => { x with conns := x.conns.upd none m fun q => q.map fun (c : KeConn) => { c with phase := .handshake } }

/-- An answer of the service is counted by cause and logged (R363); alerts and resets count on the bezel too (R538). -/
def State.keAnswer (s : State) (k b client : Nat) (refused : Bool) : State :=
  let s1 := (s.onKeys fun x => { x with answers := x.answers.upd 0 k (· + 1) }).logPartner (0x2290 + k) client
  if refused then s1.countBezel b 27 else s1

/-- A connection is answered with an alert or an Error record and closed (R363). -/
def State.keClose (s : State) (n : Nat) (c : KeConn) (k : Nat) (alert : Bool) : State :=
  ((s.endConn n).keSend c.port c.bezel c.client 90).keAnswer k c.bezel c.client alert

/-- A connection that the limits do not allow is reset (R362). -/
def State.keReset (s : State) (p b client k : Nat) : State := (s.keSend p b client 64).keAnswer k b client true

/-- A bezel's share of the connections lets it open one more (R303, R362). -/
def State.keAdmits (s : State) (b : Nat) : Bool :=
  let mine := (s.allConns.filter fun q => q.2.bezel = b).length
  let shared := 4096 - (s.tm.bezels.map fun q => q.2.reserve / 16).sum
  let used := (s.bezels.map fun x => ((s.allConns.filter fun q => q.2.bezel = x).length) - s.share x).sum
  decide (s.allConns.length < 4096) && (decide (mine < s.share b) || decide (used < shared))

/-- A TCP segment to port 4460. The STANDBY unit drops those on paired ports (R437). -/
def onTcpSegment (port : Nat) (seg : TcpSeg) (s : State) : State :=
  match s.pull port isKe with
  | none => s
  | some (pipe, e, s1) =>
    if s.clasp.st = .standby && s.claspUses port then ((s1.freeRx e).slotWasted e.bezel).countDrop port 1
    else
      let s2 := (s1.freeRx e).slotRetired pipe e.bezel
      let mine := s2.allConns.find? fun q => q.2.client = seg.client && q.2.sport = seg.sport && q.2.addr = seg.addr
      match seg.kind, mine with
      | .opens, none =>
        if (s2.keys.tls.look none e.bezel).isNone || s2.pwr.st = .restricted then s2.keReset port e.bezel seg.client 11
        else if !s2.keAdmits e.bezel || decide (8 ≤ (s2.allConns.filter fun q => q.2.client = seg.client).length) then s2.keReset port e.bezel seg.client 10
        else match (List.range 4096).find? fun n => (s2.conn n).isNone with
          | none => s2.keReset port e.bezel seg.client 10
          | some n => (s2.onKeys fun x => { x with
              conns := x.conns.put n (some { port := port, bezel := e.bezel, client := seg.client, sport := seg.sport, addr := seg.addr }) }).keSend port e.bezel seg.client 64
      | .opens, some _ => s2.keSend port e.bezel seg.client 64
      | .hello, some (n, c) =>
        if c.phase != .open_ then s2
        else
          let goTo := fun (p : ConnPhase) => s2.onKeys fun x => { x with conns := x.conns.put n (some { c with phase := p }) }
          if (s2.inPhase .handshake).length < 64 then goTo .handshake
          else if (s2.inPhase .waiting).length < 256 then goTo .waiting
          else (s2.endConn n).keReset port e.bezel seg.client 10
      | .data, some _ => s2.keSend port e.bezel seg.client 64
      | .closes, some (n, _) => (s2.endConn n).keSend port e.bezel seg.client 64
      | _, none => s2.keReset port e.bezel seg.client 10

/-- The service cannot finish a handshake (R363). -/
def State.tlsDown (s : State) (b : Nat) : Bool :=
  s.lkError || 2 ≤ s.keys.pkOut.length || (match s.keys.tls.look none b with | some t => !s.keyUsable t.signSlot | none => true)

/-- Seals can be issued (R345, R363). -/
def State.canSeal (s : State) (b : Nat) : Bool := !s.lkError && s.keyUsable (sealSlot b (s.seal b).gen)

/-- Seals made for a client (R321, R351): each one use of the bezel's seal key, with a NONCE of its own. -/
def State.sealed (s : State) (b : Nat) (k : SealTok) : Nat → List SealTok × State
  | 0 => ([], s)
  | n + 1 =>
    let x := s.seal b
    let c : SealTok := { k with keyGen := x.gen, bezel := b, expiry := (s.sec + x.lifetime) % 2 ^ 32, nonce := Config.randomBytes 16 s.free }
    let (l, t) := ((s.draw 1).useKey (sealSlot b x.gen)).sealed b k n
    (c :: l, t)

/-- What the service answers an NTS-KE request with (R363-R367): an Error record or a refusal by cause, cookies, a service's key, or a sealed
grant. -/
inductive KeAnswer where
  | error (cause : Nat) | cookies (service : Nat) | group (service : Nat) | sealedGrant (service : Nat)
  deriving DecidableEq, Repr

/-- The outcome of an NTS-KE request (R363-R367). -/
def State.keOutcome (s : State) (c : KeConn) (r : KeReq) : KeAnswer :=
  let svcs := s.allSvcs.filter fun q => q.2.bezel = c.bezel && decide (c.port ∈ q.2.cfg.ports)
  if r.unknownCritical then .error 5
  else if !r.eom then .error 6
  else match r.next with
    | none => .error 6
    | some 0 =>
      match svcs.find? fun q => q.2.isNtp && q.2.cfg.auth = 2 with
      | none => .error 6
      | some (n, _) => if !r.aead15 then .error 6 else if !s.canSeal c.bezel then .error 7 else .cookies n
    | some p =>
      match r.ptp with
      | none => .error 6
      | some q =>
        if p != 0x8D01 || q.ver != 1 then .error 6
        else match svcs.find? fun x => !x.2.isNtp && x.2.cfg.auth = 1 && x.2.cfg.domain = q.domain && x.2.cfg.sdoId = q.sdoId with
          | none => .error 6
          | some (n, v) =>
            if q.mode = 1 then (if (s.key v.cfg.key).may 12 then .group n else .error 6)
            else if q.mode != 0 || v.cfg.sealedGrants = 1 then .error 6
            else if !s.canSeal c.bezel then .error 7 else .sealedGrant n

/-- ALG of the PTP key record (R366): 1 HMAC-SHA-256-128, 2 AES-128-CMAC. -/
def ptpKeyAlg (alg : Nat) : Nat := if alg = 5 then 1 else 2

/-- The PTP key record up to its KEY or SEAL (R366): the type, sent critical, the body length, VER, MODE, SPP, ALG, KEYID, EXPIRY and a zero word. -/
def State.ptpKeyHead (s : State) (v : Service) (group : Bool) : Rec :=
  let k := v.cfg.key
  let life := (s.sec + (s.seal v.bezel).lifetime) % 2 ^ 32
  [fld 16 0xCD01, fld 16 (if group then 48 else 128), fld 8 1, fld 8 (b01 group), fld 8 v.cfg.spp, fld 8 (ptpKeyAlg (s.key k).alg),
   fld 32 (if group then s.keyIdOf k else 0xFFFFFFFF), fld 32 (if group && (s.key k).expiry != 0 then (s.key k).expiry else life), rsv 32]

/-- KEY of a group's record (R366): the slot's material, zero-padded to 32 octets. -/
def State.groupKey (s : State) (v : Service) : Nat :=
  let x := s.key v.cfg.key
  x.material % 256 ^ x.len * 256 ^ (32 - x.len)

/-- Next Protocol before, and End of Message after, the records of an answer (R366). PRESUMED (assumption 155): encoded as RFC 8915 has them. -/
def keRecords (next : Nat) (r : Rec) : Rec := [fld 16 0x8001, fld 16 2, fld 16 next] ++ r ++ [fld 16 0x8000, fld 16 0]

/-- The answer to a request that can be met goes out, and the connection closes (R363-R367). -/
def State.keReply (s : State) (n : Nat) (c : KeConn) (a : KeAnswer) : State :=
  let sub := s.keSub c.bezel c.client
  match a with
  | .error k => s.keClose n c k false
  | .cookies v =>
    let (l, t) := s.sealed c.bezel { keyGen := 0, alg := 15, kind := 0, service := v, subscriber := sub } 8
    (t.endConn n).keSend c.port c.bezel c.client 1100 (keRecords 0 []) l
  | .group v => match s.svc v with
    | none => s
    | some x => (s.endConn n).keSend c.port c.bezel c.client 250 (keRecords 0x8D01 (s.ptpKeyHead x true ++ [fld 256 (s.groupKey x)]))
  | .sealedGrant v => match s.svc v with
    | none => s
    | some x =>
      let (l, t) := s.sealed c.bezel { keyGen := 0, alg := (s.key x.cfg.key).alg, kind := 1, service := v, subscriber := sub } 1
      (t.endConn n).keSend c.port c.bezel c.client 250 (keRecords 0x8D01 (s.ptpKeyHead x false)) l

/-- A TLS record. -/
def onTlsRecord (n : Nat) (r : TlsRec) (s : State) : State :=
  match s.conn n with
  | none => s
  | some c =>
    match r with
    | .badTag => s.keClose n c 0 true
    | .malformed => if c.phase = .handshake then s.keClose n c 2 true else s
    | .clientHello tls13 common alpn =>
      if c.phase != .handshake then s
      else if !tls13 then s.keClose n c 8 true
      else if !alpn then s.keClose n c 3 true
      else if !common then s.keClose n c 1 true
      else if s.tlsDown c.bezel then s.keClose n c 4 true
      else
        let slot := match s.keys.tls.look none c.bezel with | some t => t.signSlot | none => 0
        ((s.draw 0).useKey slot).keSend c.port c.bezel c.client 1518
    | .finished certOk =>
      if c.phase != .handshake then s
      else if s.tlsDown c.bezel then s.keClose n c 4 true
      else if !certOk && (match s.keys.tls.look none c.bezel with | some t => t.clientAuth | none => false) then s.keClose n c 9 true
      else
        let s1 := (s.onKeys fun x => { x with conns := x.conns.put n (some { c with phase := .established }) }).countBezel c.bezel 26
        match s1.inPhase .waiting with
        | [] => s1
        | (m, d) :: _ => s1.onKeys fun x => { x with conns := x.conns.put m (some { d with phase := .handshake }) }
    | .request q =>
      if c.phase != .established then s
      else s.keReply n c (s.keOutcome c q)

/-- A handshake not complete within 10 s is reset. -/
def onHandshakeTimeout (n : Nat) (s : State) : State :=
  match s.conn n with
  | none => s
  | some c => if c.phase = .handshake || c.phase = .waiting then (s.endConn n).keReset c.port c.bezel c.client 10 else s

/-- A connection idle for 30 s is closed. -/
def onConnectionIdleTimeout (n : Nat) (s : State) : State :=
  match s.conn n with
  | none => s
  | some c => if c.phase = .established then (s.endConn n).keSend c.port c.bezel c.client 90 else s

/-- The Locket ends a key exchange as a client (R368): 8 cookies, and the exported keys in two Locket slots with EXPIRE_AT_RESET. -/
def onNtsKeClientExchange (nref : Nat) (success : Bool) (s : State) : State :=
  if 16 ≤ nref || !success || (s.nrefIn nref).cfg.auth != 2 || (s.nrefIn nref).cfg.enable = 0 || s.lkError || 2 ≤ s.keys.pkOut.length then s
  else
    let put := fun (t : State) (k : Nat) => (t.onKey k fun y => {
      usage := 0x000C, alg := 3, len := 32, st := .valid, depth := 2, owner := 63, locket := true,
      expireAtReset := true, parent := 1, gen := (y.gen + 1) % 65536, material := Config.newKey t.free }).nextFree
    (put (put s (3 + 2 * nref)) (4 + 2 * nref)).onNref nref fun x => { x with cookies := 8 }

/-- TCP_SEGMENT (R362). -/
def execTcpSegment (port : Nat) (seg : TcpSeg) (s : State) : Host.Outcome State Fault Refusal :=
  .next (if s.alive then onTcpSegment port seg s else s)

/-- TLS_RECORD (R363). -/
def execTlsRecord (conn : Nat) (r : TlsRec) (s : State) : Host.Outcome State Fault Refusal :=
  .next (if s.alive then onTlsRecord conn r s else s)

/-- HANDSHAKE_TIMEOUT (R362). -/
def execHandshakeTimeout (conn : Nat) (s : State) : Host.Outcome State Fault Refusal :=
  .next (if s.alive then onHandshakeTimeout conn s else s)

/-- CONNECTION_IDLE_TIMEOUT (R362). -/
def execConnectionIdleTimeout (conn : Nat) (s : State) : Host.Outcome State Fault Refusal :=
  .next (if s.alive then onConnectionIdleTimeout conn s else s)

/-- NTS_KE_CLIENT_EXCHANGE (R368). -/
def execNtsKeClientExchange (nref : Nat) (success : Bool) (s : State) : Host.Outcome State Fault Refusal :=
  .next (if s.alive then onNtsKeClientExchange nref success s else s)


end Sys2Proof.Machine
end

