-- ==== Sys2Proof/Machine/Loupe.lean ====
section
/-! DEFINITION. Loupe counters (chapter 19): grants, modes, presets, reads and derived windows. -/

namespace Sys2Proof.Machine

/-- A bank exists (R485). -/
def loupeBankOk (b : Nat) : Bool := decide (b < 320)

/-- A bank of the counters. -/
def State.loupeBank (s : State) (b : Nat) : LoupeBank := s.loupe.banks.look {} b

/-- A bank may be granted only to the bezel that owns the port, or bank 256 + b to BZb, and never to BZ00 (R540). -/
def loupeGrantable (s : State) (bank bezel : Nat) : Bool :=
  bezel != 0 && decide (bezel < 64) && (if bank < 256 then s.portOwner bank = bezel else bank = 256 + bezel)

/-- Revocation: the grant goes and every armed overflow interrupt of the bank is disarmed (R540). -/
def State.loupeRevoke (s : State) (bank : Nat) : State :=
  s.onLoupe fun l => { l with
    banks := l.banks.upd {} bank fun k => { k with grantee := none }
    armed := l.armed.filter fun p => p.1 / 32 != bank }

/-- `loupe.grant_bank`. -/
def cmdLoupeGrantBank (_h : CmdHdr) (bank bezel grant : Nat) : CmdMeta × CmdBody :=
  ({ op := 0x4001, plen := 4 },
   { argOk := fun s => loupeBankOk bank && decide (grant ≤ 1) && loupeGrantable s bank bezel
     check := fun s => judge [(grant = 1 && (match (s.loupeBank bank).grantee with | none => false | some g => g != bezel), .conflict)]
     act := fun s => { st := ((if grant = 0 then s.loupeRevoke bank
       else s.onLoupe fun l => { l with banks := l.banks.upd {} bank fun k => { k with grantee := some bezel } }).store 0x40 bank) } })

/-- `loupe.set_bank`: a mode change sets positions 24-31 to zero (R543). -/
def cmdLoupeSetBank (_h : CmdHdr) (bank mode window : Nat) : CmdMeta × CmdBody :=
  ({ op := 0x4002, plen := 8 },
   { argOk := fun _ => loupeBankOk bank && decide (mode ≤ 2) && (mode = 0 || (decide (1 ≤ window) && decide (window ≤ 10000)))
       && !(mode = 1 && decide (256 ≤ bank)) && !(mode = 2 && decide (bank < 256))
     act := fun s => { st := (s.onLoupe fun l => { l with
       banks := l.banks.upd {} bank fun k =>
         if k.mode = mode then { k with window := window } else { k with mode := mode, window := window, acc := [], windows := 0 }
       ctr := if (l.banks.look {} bank).mode = mode then l.ctr
              else (List.range 8).foldl (fun t i => t.put (bank * 32 + 24 + i) 0) l.ctr }).store 0x40 bank } })

/-- The issuer reaches a counter: BZ00 presets only in banks not granted, a grantee in its own (R541). -/
def loupePresetOwn (h : CmdHdr) (s : State) (c : Nat) : Bool :=
  match (s.loupeBank (c / 32)).grantee with
  | none => h.fn = 0
  | some g => h.fn = g

/-- `loupe.preset`: writes the value and arms the overflow (R542); positions 24-31 of a derived bank stop it (R543). -/
def cmdLoupePreset (h : CmdHdr) (counter irq vector value : Nat) : CmdMeta × CmdBody :=
  ({ op := 0x4003, plen := 16, who := .granted, action := true },
   { argOk := fun _ => decide (counter < 10240) && decide (irq ≤ 1) && decide (vector < 64) && decide (value < 2 ^ 48)
     check := fun s =>
       if !loupePresetOwn h s counter then { status := .perm, freeze := if h.fn = 0 then none else some 3 }
       else judge [(decide (24 ≤ counter % 32) && (s.loupeBank (counter / 32)).mode != 0, .state)]
     act := fun s => { st := s.onLoupe fun l => { l with
       ctr := l.ctr.put counter value
       armed := (l.armed.filter fun p => p.1 != counter) ++
         (if irq = 1 then [(counter, { fn := h.fn, vector := vector })] else []) } } })

/-- `loupe.read`: every counter latched in one cycle (R536). -/
def cmdLoupeRead (h : CmdHdr) (first count : Nat) : CmdMeta × CmdBody :=
  ({ op := 0x4041, plen := 4, who := .granted, xbOut := true },
   { argOk := fun _ => decide (1 ≤ count) && decide (count ≤ 1024) && decide (first + count ≤ 10240)
     check := fun s => judgeOwned (h.fn = 0 || (List.range count).all fun i => (s.loupeBank ((first + i) / 32)).grantee = some h.fn) true 3 []
     act := fun s => { st := s, xb := ((List.range count).map fun i => [fld 48 (s.loupe.ctr.look 0 (first + i)), rsv 16]).flatten } })


/-- Positions 24-31 at the end of a window in MODE 1 (R544) and MODE 2 (R545), from what the window accumulated. -/
def loupeWindowValues (k : LoupeBank) (old : Nat → Nat) (tms : Nat) (slots : Nat) : List Nat :=
  let a := fun i => k.acc.look 0 i
  if k.mode = 1 then
    [a 0, a 1, a 2, a 3, max (old 4) (a 0), max (old 5) (a 1), k.windows + 1, tms % 2 ^ 48]
  else
    [a 4 + a 5 + a 6 + a 7, a 1, slots - min slots (a 4 + a 5 + a 6 + a 7 + a 1 + a 3), a 3, a 4, a 5, a 6, a 7]

/-- A derived-mode window ends at a TAI instant whose milliseconds are a multiple of WINDOW (R543). -/
def onLoupeWindowEnd (bank : Nat) (s : State) : State :=
  let k := s.loupeBank bank
  let tms := s.tc.snap.sec * 1000 + s.tc.snap.ns / 1000000
  if k.mode = 0 || k.window = 0 || tms % k.window != 0 then s
  else
    let v := loupeWindowValues k (fun i => s.loupe.ctr.look 0 (bank * 32 + 24 + i)) tms (300000 * k.window)
    let v := if k.mode = 2 && bank != 256 then v.mapIdx fun i x => if i = 2 || i = 3 then 0 else x else v
    s.onLoupe fun l => { l with
      ctr := (List.range 8).foldl (fun t i => t.put (bank * 32 + 24 + i) (v.getD i 0 % 2 ^ 48)) l.ctr
      banks := l.banks.upd {} bank fun b => { b with acc := [], windows := b.windows + 1 } }

/-- LOUPE_WINDOW_END (R543). -/
def execLoupeWindowEnd (bank : Nat) (s : State) : Host.Outcome State Fault Refusal :=
  .next (if s.alive then onLoupeWindowEnd bank s else s)


end Sys2Proof.Machine
end

