-- ==== Sys2Proof/Machine/Mbx.lean ====
section
/-! DEFINITION. The host's doorbells and queue enables in BAR0 and the mailbox engine's own events (chapters 15 and 22). -/

namespace Sys2Proof.Machine

/-- An ignored write is counted (R449, R583). -/
def State.ignore (s : State) (b : Nat) : State := s.onFn b fun x => { x with ignored := x.ignored + 1 }

/-- A command doorbell (R451, R585). -/
def onMbxCmdDb (fn queue tail : Nat) (s : State) : State :=
  if !s.fnEnabled fn || !decide (queue < 4) then s
  else
    let k := (s.fn fn).q queue
    if !s.mbx.ready || !k.en then s.ignore fn
    else
      let new := (tail % 65536 + 65536 - k.done) % 65536
      let old := (k.tail + 65536 - k.done) % 65536
      if new < old || 256 < new then (s.ignore fn).raise [fn] 0x0402 [fld 8 queue, fld 16 tail]
      else s.onQueue fn queue fun x => { x with tail := tail % 65536 }

/-- The host releases completion entries (R452, R585). -/
def onMbxCplDb (fn head : Nat) (s : State) : State :=
  if !s.fnEnabled fn then s
  else
    let f := s.fn fn
    if !f.cplEn then s.ignore fn
    else
      let n := (head % 65536 + 65536 - f.cplHead) % 65536
      if (f.cplPut + 65536 - f.cplHead) % 65536 < n then s.raise [fn] 0x0402 [fld 8 4, fld 16 head]
      else s.onFn fn fun x => { x with cplHead := head % 65536, cplQ := x.cplQ.drop n }

/-- The host releases event entries (R450, R585). -/
def onMbxEvtDb (fn head : Nat) (s : State) : State :=
  if !s.fnEnabled fn then s
  else
    let f := s.fn fn
    if !f.evtEn then s.ignore fn
    else
      let n := (head % 65536 + 65536 - f.evtHead) % 65536
      if (f.evtPut + 65536 - f.evtHead) % 65536 < n then s.raise [fn] 0x0402 [fld 8 5, fld 16 head]
      else s.onFn fn fun x => { x with evtHead := head % 65536, evtQ := x.evtQ.drop n }

/-- A queue of `len` bytes may be enabled at `base`: aligned and within one DMA window, or any place for BZ00 while it
has no window (R450). -/
def queuePlaceOk (s : State) (b base len : Nat) : Bool :=
  base % 4096 = 0 && (s.inWindow b base len || (b = 0 && (s.bezel 0).windows.isEmpty))

/-- Setting a CMD_EN bit (R450, R587). -/
def onCmdQueueEnable (fn queue : Nat) (s : State) : State :=
  if !s.fnEnabled fn || !decide (queue < 4) then s
  else
    let k := (s.fn fn).q queue
    if k.en then s
    else if queuePlaceOk s fn k.base 16384 then
      s.onQueue fn queue fun x => { x with
        en := true, err := 0, tail := 0, fetched := 0, done := (65536 - x.inflight.length) % 65536 }
    else s.onQueue fn queue fun x => { x with err := Status.arg.code }

/-- A transaction is rolled back: counted and logged (R465). -/
def State.rollback (s : State) (fn queue : Nat) : State :=
  match ((s.fn fn).q queue).txn with
  | none => s
  | some t =>
    ((s.onQueue fn queue fun x => { x with txn := none }).onFn fn fun x => { x with rollbacks := x.rollbacks + 1 }).log
      0x0480 1 fn [fld 16 t.id, fld 8 queue]

/-- The owner of semaphores resets: HELD becomes ABANDONED where `mine` says so (R462). -/
def State.abandon (s : State) (fn : Nat) (mine : Nat → Bool) : State :=
  s.onFn fn fun x => { x with
    sems := x.sems.mapAll fun _ e => if e.st = .held && mine e.owner then { e with st := .abandoned } else e }

/-- Clearing a CMD_EN bit (R462, R465, R587). -/
def onCmdQueueDisable (fn queue : Nat) (s : State) : State :=
  if !s.fnEnabled fn || !((s.fn fn).q queue).en then s
  else ((s.onQueue fn queue fun x => { x with en := false }).abandon fn (· = queue)).rollback fn queue

/-- Setting CPL_EN (R587). -/
def onCplQueueEnable (fn : Nat) (s : State) : State :=
  let f := s.fn fn
  if !s.fnEnabled fn || f.cplEn then s
  else if queuePlaceOk s fn f.cplBase 65536 then
    s.onFn fn fun x => { x with cplEn := true, qErr := 0, cplPut := 0, cplHead := 0, cplQ := [] }
  else s.onFn fn fun x => { x with qErr := Status.arg.code }

/-- Clearing CPL_EN, only while every CMD_EN is 0 (R587). -/
def onCplQueueDisable (fn : Nat) (s : State) : State :=
  let f := s.fn fn
  if !s.fnEnabled fn || !f.cplEn then s
  else if f.queues.any (fun p => p.2.en) then s.ignore fn
  else s.onFn fn fun x => { x with cplEn := false }

/-- Setting EVT_EN (R587); EVT_SIZE outside 6 to 12 refuses it. -/
def onEvtQueueEnable (fn : Nat) (s : State) : State :=
  let f := s.fn fn
  if !s.fnEnabled fn || f.evtEn then s
  else if decide (6 ≤ f.evtSize ∧ f.evtSize ≤ 12) && queuePlaceOk s fn f.evtBase (64 * 2 ^ f.evtSize) then
    s.onFn fn fun x => { x with evtEn := true, qErr := 0, evtPut := 0, evtHead := 0, evtQ := [] }
  else s.onFn fn fun x => { x with qErr := Status.arg.code }

/-- Clearing EVT_EN (R587). -/
def onEvtQueueDisable (fn : Nat) (s : State) : State :=
  if !s.fnEnabled fn then s else s.onFn fn fun x => { x with evtEn := false }

/-- The host masks a vector; a message issued within the window before is not called back (R466). -/
def onMsixVectorMask (fn vector : Nat) (_inWindow : Bool) (s : State) : State :=
  if !s.fnEnabled fn || !decide (vector < 64) then s
  else s.onFn fn fun x => { x with vecs := x.vecs.upd {} vector fun v => { v with mask := true } }

/-- The host unmasks a vector: a pending one sends one message (R466). -/
def onMsixVectorUnmask (fn vector : Nat) (s : State) : State :=
  if !s.fnEnabled fn || !decide (vector < 64) then s
  else s.onFn fn fun x => { x with vecs := x.vecs.upd {} vector fun v =>
    if v.mask && v.pend then { v with mask := false, pend := false, sent := v.sent + 1, holding := decide (0 < v.hold), more := false }
    else { v with mask := false } }

/-- An MMIO access outside the function's BARs freezes the function; of a frozen one it is logged (R408, R410, R449). -/
def onMmioViolation (fn address : Nat) (s : State) : State :=
  if s.fnEnabled fn then s.freezeFn fn 1 address else s

/-- A command is fetched once a completion entry can be reserved (R452); an entry that names no command completes in its
turn (R455). -/
def onCommandFetch (fn queue : Nat) (entry : CmdEntry) (s : State) : State :=
  if entry.hdr.fn = fn && entry.hdr.queue = queue && canFetch fn queue s then
    settle fn queue (((s.fn fn).q queue).inflight.length + 1) (fetchEntry entry s)
  else s

/-- An event entry as its 64 bytes (R457). -/
def EventEntry.layout (n : EventEntry) : Rec :=
  [fld 32 n.epoch, fld 32 n.eseq, fld 16 n.ev.code, fld 8 (n.ev.code / 256), rsv 8, fld 32 n.lost] ++ etwRec n.ev.time
    ++ n.ev.detail ++ [rsv (8 * (28 - n.ev.detail.bytes)), rsv 24, fld 1 n.phase, rsv 7]

/-- The oldest event that has fallen due is written to the event queue, or discarded and counted (R457). -/
def onEventWrite (fn : Nat) (s : State) : State :=
  let f := s.fn fn
  match f.due with
  | [] => s
  | e :: r =>
    if f.evtEn && decide ((f.evtPut + 65536 - f.evtHead) % 65536 < 2 ^ f.evtSize) then
      let n : EventEntry := { epoch := s.mbx.epoch, eseq := f.eseq, lost := f.lost, ev := e, phase := (f.evtPut / 2 ^ f.evtSize + 1) % 2 }
      (s.onFn fn fun x => { x with due := r, eseq := (x.eseq + 1) % 2 ^ 32, lost := 0, evtPut := (x.evtPut + 1) % 65536,
                                   evtQ := x.evtQ ++ [n], evtOctets := n.layout.toBytes }).announce fn f.evtVec
    else
      (s.onFn fn fun x => { x with due := r, eseq := (x.eseq + 1) % 2 ^ 32, lost := (x.lost + 1) % 2 ^ 32 }).countBezel fn 30

/-- A vector's hold-off ends: one message for the entries written during it (R466). -/
def onHoldOffEnd (fn vector : Nat) (s : State) : State :=
  s.onFn fn fun x => { x with vecs := x.vecs.upd {} vector fun v =>
    if !v.holding then v
    else
      let w := { v with holding := false, more := false }
      if v.more then w.announce else w }

/-- A transaction whose queue was idle for 10 s is rolled back, with its event (R465). -/
def onTxnIdleTimeout (fn queue : Nat) (s : State) : State :=
  match ((s.fn fn).q queue).txn with
  | none => s
  | some t => (s.rollback fn queue).raise [fn] 0x0401 [fld 16 t.id, fld 8 queue]

/-- The host sets or clears VF Enable or NumVFs (R445). -/
def onVfEnable (enable : Bool) (numVfs : Nat) (s : State) : State :=
  s.onMbx fun m => { m with vfEnable := enable, numVfs := min numVfs 63 }

/-- MBX_CMD_DB (R451). -/
def execMbxCmdDb (fn queue tail : Nat) (s : State) : Host.Outcome State Fault Refusal :=
  .next (if s.alive then onMbxCmdDb fn queue tail s else s)

/-- MBX_CPL_DB (R585). -/
def execMbxCplDb (fn head : Nat) (s : State) : Host.Outcome State Fault Refusal :=
  .next (if s.alive then onMbxCplDb fn head s else s)

/-- MBX_EVT_DB (R585). -/
def execMbxEvtDb (fn head : Nat) (s : State) : Host.Outcome State Fault Refusal :=
  .next (if s.alive then onMbxEvtDb fn head s else s)

/-- CMD_QUEUE_ENABLE (R587). -/
def execCmdQueueEnable (fn queue : Nat) (s : State) : Host.Outcome State Fault Refusal :=
  .next (if s.alive then onCmdQueueEnable fn queue s else s)

/-- CMD_QUEUE_DISABLE (R587). -/
def execCmdQueueDisable (fn queue : Nat) (s : State) : Host.Outcome State Fault Refusal :=
  .next (if s.alive then onCmdQueueDisable fn queue s else s)

/-- CPL_QUEUE_ENABLE (R587). -/
def execCplQueueEnable (fn : Nat) (s : State) : Host.Outcome State Fault Refusal :=
  .next (if s.alive then onCplQueueEnable fn s else s)

/-- CPL_QUEUE_DISABLE (R587). -/
def execCplQueueDisable (fn : Nat) (s : State) : Host.Outcome State Fault Refusal :=
  .next (if s.alive then onCplQueueDisable fn s else s)

/-- EVT_QUEUE_ENABLE (R587). -/
def execEvtQueueEnable (fn : Nat) (s : State) : Host.Outcome State Fault Refusal :=
  .next (if s.alive then onEvtQueueEnable fn s else s)

/-- EVT_QUEUE_DISABLE (R587). -/
def execEvtQueueDisable (fn : Nat) (s : State) : Host.Outcome State Fault Refusal :=
  .next (if s.alive then onEvtQueueDisable fn s else s)

/-- MSIX_VECTOR_MASK (R466). -/
def execMsixVectorMask (fn vector : Nat) (inWindow : Bool) (s : State) : Host.Outcome State Fault Refusal :=
  .next (if s.alive then onMsixVectorMask fn vector inWindow s else s)

/-- MSIX_VECTOR_UNMASK (R466). -/
def execMsixVectorUnmask (fn vector : Nat) (s : State) : Host.Outcome State Fault Refusal :=
  .next (if s.alive then onMsixVectorUnmask fn vector s else s)

/-- MMIO_VIOLATION (R408). -/
def execMmioViolation (fn address : Nat) (s : State) : Host.Outcome State Fault Refusal :=
  .next (if s.alive then onMmioViolation fn address s else s)

/-- COMMAND_FETCH (R452). -/
def execCommandFetch (fn queue : Nat) (entry : CmdEntry) (s : State) : Host.Outcome State Fault Refusal :=
  .next (if s.alive then onCommandFetch fn queue entry s else s)

/-- EVENT_WRITE (R457). -/
def execEventWrite (fn : Nat) (s : State) : Host.Outcome State Fault Refusal :=
  .next (if s.alive then onEventWrite fn s else s)

/-- HOLD_OFF_END (R466). -/
def execHoldOffEnd (fn vector : Nat) (s : State) : Host.Outcome State Fault Refusal :=
  .next (if s.alive then onHoldOffEnd fn vector s else s)

/-- TXN_IDLE_TIMEOUT (R465). -/
def execTxnIdleTimeout (fn queue : Nat) (s : State) : Host.Outcome State Fault Refusal :=
  .next (if s.alive then onTxnIdleTimeout fn queue s else s)

/-- VF_ENABLE (R445). -/
def execVfEnable (enable : Bool) (numVfs : Nat) (s : State) : Host.Outcome State Fault Refusal :=
  .next (if s.alive then onVfEnable enable numVfs s else s)


end Sys2Proof.Machine
end

