-- ==== Sys2Proof/Machine/Bezel.lean ====
section
/-! DEFINITION. Bezels: the reset of a function, creation, deletion and the bezel commands (R273, R397-R411, R447, R450). -/

namespace Sys2Proof.Machine

/-! ### The reset of a function (R409, R447) -/

/-- A ring closes with no write-back (R447): its frames leave the port's queues, and one on the wire runs out unreported. -/
def State.dropRing (s : State) (hd : Nat) : State :=
  match s.pring hd with
  | none => s
  | some r =>
    let mine : TxFrame → Bool := fun f => match f.desc with | some (n, _) => decide (n = hd) | none => false
    let s1 := s.onPorts fun y => { y with closed := y.closed.put hd r.back, rings := y.rings.filter fun q => q.1 != hd }
    let s2 := if r.rx then s1 else s1.purge r.port mine fun _ t => t
    s2.onPort r.port fun (y : PortSt) => { y with
      wire := y.wire.map fun (f : TxFrame) => if mine f then { f with desc := none } else f
      backoff := y.backoff.map fun (f : TxFrame × Nat) => if mine f.1 then ({ f.1 with desc := none }, f.2) else f }

/-- The rings of a bezel. -/
def State.ringsOf (s : State) (b : Nat) : List Nat := (s.ports.rings.filter fun q => q.2.owner = b).map (·.1)

/-- A stream of a bezel stops: INDEX is the channel of a Filigree stream, 256 + tap of an LA stream. -/
def State.stopStream (s : State) (b index : Nat) : State :=
  (s.onFil fun x => { x with streams := x.streams.filter fun t => !(t.bezel = b && t.cfg.ch = index) }).onLa
    fun x => { x with streams := x.streams.filter fun t => !(t.bezel = b && 256 + t.tap = index) }

/-- Every stream of a bezel stops. -/
def State.stopStreams (s : State) (b : Nat) : State :=
  (s.onFil fun x => { x with streams := x.streams.filter fun t => t.bezel != b }).onLa
    fun x => { x with streams := x.streams.filter fun t => t.bezel != b }

/-- The executing command of a queue completes without a completion, the others are discarded and their SEQ released (R447, R458, R459). -/
def CmdQueue.drop (k : CmdQueue) : CmdQueue :=
  let next := match k.inflight with
    | x :: _ => if x.begun then (x.seq + 1) % 2 ^ 32 else x.seq
    | [] => k.fetchSeq
  { k with en := false, inflight := [], fetchSeq := next, doneSeq := next }

/-- The MSI-X table with every vector masked; the hold-off registers are not part of it (R447). -/
def Vec.reset (v : Vec) : Vec := { v with addr := 0, data := 0, mask := true, pend := false, more := false }

/-- The EXPIRE_AT_RESET slots of a bezel are freed (R352). -/
def State.expireSlots (s : State) (mine : KeySlot → Bool) : State :=
  (s.keys.slots.filter fun q => q.2.st != .free && q.2.expireAtReset && mine q.2).foldl (fun (t : State) q => (t.orphan q.1).freeKey q.1) s

/-- A function-level reset of a function (R447), in its order. -/
def State.resetFn (s : State) (b : Nat) : State :=
  let s1 := (s.onFn b fun x => { x with
      queues := x.queues.mapAll fun _ k => k.drop, cplEn := false, evtEn := false, cplRes := 0 }).onClasp
    fun c => { c with mirror := c.mirror.map fun (m : MirrorItem) => match m.done with
      | some (f, _, _, _) => if f = b then { m with done := none } else m
      | none => m }
  let s2 := ((s1.ringsOf b).foldl (fun (t : State) hd => t.dropRing hd) s1).stopStreams b
  let s3 := (List.range 4).foldl (fun (t : State) q => t.rollback b q) s2
  let s4 := (s3.abandon b fun _ => true).expireSlots fun x => x.owner = b && !x.locket
  s4.onFn b fun x => { x with vecs := x.vecs.mapAll fun _ v => v.reset }

/-! ### Ranges and quotas (R400, R401) -/

/-- A subscriber range: multiples of 256 within the 65,536 subscribers, not empty. -/
def subRangeOk (base count : Nat) : Bool := base % 256 = 0 && count % 256 = 0 && decide (0 < count) && decide (base + count ≤ 65536)

/-- The range overlaps another bezel's. -/
def State.subOverlap (s : State) (b base count : Nat) : Bool :=
  s.bez.rows.any fun q => q.1 != b && q.2.present && decide (q.2.subBase < base + count) && decide (base < q.2.subBase + q.2.subCount)

/-- A quota of kind k given to the tenants other than b. -/
def State.given (s : State) (k b : Nat) : Nat :=
  (s.bez.rows.map fun q => if q.1 != 0 && q.1 != b && q.2.present then (if k = 0 then q.2.grants else if k = 1 then q.2.poolSlots else q.2.rules) else 0).sum

/-- Grant entries, pool slots (the last place counts for rules) a bezel uses. -/
def State.usedOf (s : State) (k b : Nat) : Nat :=
  if k = 0 then (s.tse.grants.filter fun q => q.2.granted != 0 && q.2.bezel = b).length
  else if k = 1 then s.poolUsedBy b
  else (s.tm.rules.filter fun r => r.bezel = b).foldl (fun m r => max m (r.index + 1)) 0

/-- The limit of a sum (R400). -/
def quotaLimit (k : Nat) : Nat := if k = 0 then 1048576 else if k = 1 then 3776 else 16384

/-- A tenant's quota n of kind k raises the sum above its limit, or goes below what the bezel, or BZ00 of the remainder, uses (R401). -/
def State.quotaBad (s : State) (k b n : Nat) : Bool :=
  decide (quotaLimit k < s.given k b + n) || decide (n < s.usedOf k b) || decide (quotaLimit k - (s.given k b + n) < s.usedOf k 0)

/-- A subscriber in use outside a new range (R401): a rule, a meter that is not OFF, a shaper that is set, a grant. -/
def State.subsOutside (s : State) (b base count : Nat) : Bool :=
  let out := fun n => s.ownsSub b n && !(decide (base ≤ n) && decide (n < base + count))
  (s.tm.rules.any fun r => r.bezel = b && out r.sub) || (s.tm.subMeters.any fun q => q.2.mode != 0 && out q.1)
    || (s.tm.subShapers.any fun q => q.2.set && out q.1) || (s.tse.grants.any fun q => q.2.granted != 0 && q.2.bezel = b && out q.2.sub)

/-! ### Commands (R397, R399-R403, R409, R484) -/

/-- `bezel.create`: the new row with its defaults, its fixed key slots and its counters at zero (R397, R400, R535). -/
def cmdBezelCreate (_h : CmdHdr) (bezel subBase subCount : Nat) : CmdMeta × CmdBody :=
  ({ op := 0x2301, plen := 12, mirrored := true },
   { argOk := fun _ => decide (1 ≤ bezel) && decide (bezel < 64) && subRangeOk subBase subCount
     check := fun s => judge [((s.key 2).st != .valid, .state), ((s.bezel bezel).present, .busy),
       (s.subOverlap bezel subBase subCount || s.quotaBad 1 bezel 32 || s.quotaBad 2 bezel 256, .conflict)]
     early := fun s => judge [((s.key 2).st != .valid, .state)]
     act := fun s =>
       let s1 := s.onBezel bezel fun _ => { present := true, subBase := subBase, subCount := subCount }
       let s2 := s1.onLoupe fun l => { l with ctr := (List.range 32).foldl (fun t i => t.put ((256 + bezel) * 32 + i) 0) l.ctr }
       cmdOut ((s2.makeRoots bezel).isolate.store 0x23 bezel) })

/-- The frames and exchanges of a bezel leave the TSE, and its services go. -/
def State.clearServices (s : State) (b : Nat) : State :=
  let s1 := (s.tse.works.filter fun w => w.bezel = b).foldl (fun (t : State) w => t.dropWork w) s
  let s2 := s1.tse.inputs.foldl (fun (t : State) q => (q.2.filter fun e => e.bezel = b).foldl (fun (u : State) e => u.freeRx e) t) s1
  s2.onTse fun x => { x with
    inputs := x.inputs.mapAll fun _ l => l.filter fun (e : TseIn) => e.bezel != b
    waits := x.waits.mapAll fun _ l => l.filter fun (e : Nat × TxFrame) => e.2.bezel != b
    grants := x.grants.filter fun q => q.2.bezel != b
    services := x.services.mapAll fun _ (v : Option Service) => match v with | some y => if y.bezel = b then none else some y | none => none
    seals := x.seals.filter fun q => q.1 != b }

/-- Addresses and filters of a port go, its former owner's services no longer name it, and its bank is not granted (R540). -/
def State.clearPort (s : State) (p : Nat) : State :=
  ((s.onPort p fun x => { x with addrs := [], filters := [] }).onTse fun x => { x with
    services := x.services.mapAll fun _ (v : Option Service) => v.map fun (y : Service) => { y with cfg := { y.cfg with ports := y.cfg.ports.filter (· != p) } } }).loupeRevoke p

/-- Deletion of a tenant (R399), in its order. -/
def State.deleteBezel (s : State) (b : Nat) : State :=
  -- masters frozen: waiting jobs go; the write-backs that follow are the deletion's own
  let s1 := (((s.onBezel b fun z => { z with deleting := true }).onFn b fun x => { x with frozen := true }).dropFrozenJobs.onFn b
    fun x => { x with frozen := false }).onBezel b fun z => { z with frozen := [] }
  let s2 := (s1.ringsOf b).foldl (fun (t : State) hd => t.closeRing hd) s1
  let s3 := (s2.tse.grants.filter fun q => q.2.granted != 0 && q.2.bezel = b).foldl (fun (t : State) q => t.cancelGrant q.1) s2
  let s4 := (s3.allConns.filter fun q => q.2.bezel = b).foldl (fun (t : State) q => (t.endConn q.1).keSend q.2.port b q.2.client 64) s3
  let s5 := ((s4.orphan (64 + b)).keys.slots.filter fun q => q.2.st != .free && !q.2.locket && q.2.owner = b).foldl
    (fun (t : State) q => t.freeKey q.1) (s4.orphan (64 + b))
  let s6 := (List.range 256).foldl (fun (t : State) p => if t.portOwner p != b then t else
    (((cmdPortSetMode { fn := 0, queue := 0 } p 0 0 0).2.act t).st.clearPort p).onBez fun z => { z with portOwner := z.portOwner.filter fun q => q.1 != p }) (s5.clearServices b)
  let s7 := (s6.onSta fun x =>
    let r : Tab Nat := x.reserve.filter fun q => q.1 != b
    { x with reserve := r, shadow := { x.shadow with owner := layTable r } }).onTm fun x => { x with
      bezels := x.bezels.upd {} b fun y => { y with reserve := 0, cap := 4096 }
      bezMeters := x.bezMeters.filter fun q => q.1 != b
      rules := x.rules.filter fun r => r.bezel != b
      subMeters := x.subMeters.filter fun q => !s6.ownsSub b q.1
      subShapers := x.subShapers.filter fun q => !s6.ownsSub b q.1 }
  let s8 := (List.range 320).foldl (fun (t : State) k => if (t.loupeBank k).grantee = some b then t.loupeRevoke k else t) s7
  let s9 := ((List.range 64).foldl (fun (t : State) c => t.leave c (.bezel b)) (s8.stopStreams b)).onFil fun x => { x with
    chans := x.chans.mapAll fun _ (c : FilChan) => { c with grants := c.grants.filter (· != b) } }
  let s10 := s9.onLa fun x => { x with taps := x.taps.mapAll fun _ (t : LaTap) => { t with grants := t.grants.filter (· != b) } }
  let s11 := ((List.range 4).foldl (fun (t : State) q => t.rollback b q) s10).onFn b fun x => { x with
    due := [], sems := x.sems.mapAll fun _ (e : Sem) => { e with st := .free } }
  let s12 := s11.onKeys fun x => { x with tls := x.tls.filter fun q => q.1 != b }
  (s12.onBez fun z => { z with rows := z.rows.filter fun q => q.1 != b }).weighReservations

/-- `bezel.delete`: it completes when all is done. -/
def cmdBezelDelete (_h : CmdHdr) (bezel : Nat) : CmdMeta × CmdBody :=
  ({ op := 0x2302, plen := 1, mirrored := true, action := true },
   { argOk := fun _ => decide (1 ≤ bezel) && decide (bezel < 64)
     check := fun s => judge [(!s.bezelServes bezel, .state)]
     act := fun s => cmdOut ((s.deleteBezel bezel).store 0x23 bezel) })

/-- `bezel.assign_port`: between BZ00 and a tenant that exists (R402). -/
def cmdBezelAssignPort (_h : CmdHdr) (port bezel : Nat) : CmdMeta × CmdBody :=
  ({ op := 0x2303, plen := 3, mirrored := true },
   { argOk := fun s => portOk port && s.bezelServes bezel && (s.portOwner port = 0 || bezel = 0)
     check := fun s => judge [((s.port port).st != .disabled || s.ports.rings.any fun q => q.2.port = port, .state),
       (s.nrefUses port || s.vtapUses port || s.portInPrp port || s.laTxUses port, .conflict)]
     act := fun s =>
       let s1 := if s.portOwner port = bezel then s else s.clearPort port
       cmdOut ((s1.onBez fun z => { z with portOwner := if bezel = 0 then z.portOwner.filter fun q => q.1 != port else z.portOwner.put port bezel }).store 0x23 bezel) })

/-- `bezel.set_quota`: BZ00 keeps the remainder, and only its subscriber range is set (R400, R401). -/
def cmdBezelSetQuota (_h : CmdHdr) (bezel grants poolSlots rules subBase subCount : Nat) : CmdMeta × CmdBody :=
  ({ op := 0x2304, plen := 20, mirrored := true },
   { argOk := fun s => s.bezelServes bezel && subRangeOk subBase subCount
     check := fun s => judge [(s.subOverlap bezel subBase subCount || s.subsOutside bezel subBase subCount
       || (bezel != 0 && (s.quotaBad 0 bezel grants || s.quotaBad 1 bezel poolSlots || s.quotaBad 2 bezel rules)), .conflict)]
     act := fun s => cmdOut ((s.onBezel bezel fun z =>
       let y := { z with subBase := subBase, subCount := subCount }
       if bezel = 0 then y else { y with grants := grants, poolSlots := poolSlots, rules := rules }).store 0x23 bezel) })

/-- A DMA window is well formed (R400), or SIZE is 0, which removes it. -/
def windowOk (base size : Nat) : Bool :=
  base % 4096 = 0 && (size = 0 || (size % 4096 = 0 && decide (4096 ≤ size) && decide (size ≤ 2 ^ 40) && decide (base + size ≤ 2 ^ 64)))

/-- `bezel.set_dma_window`; BZ00's first window must cover its enabled queues (R450). -/
def cmdBezelSetDmaWindow (_h : CmdHdr) (bezel index base size : Nat) : CmdMeta × CmdBody :=
  ({ op := 0x2305, plen := 24 },
   { argOk := fun s => s.bezelServes bezel && decide (index < 16) && windowOk base size
       && !(bezel = 0 && size != 0 && (s.bezel 0).windows.isEmpty && !((s.fn 0).extents.all fun e => decide (base ≤ e.1 ∧ e.1 + e.2 ≤ base + size)))
     act := fun s => cmdOut ((s.onBezel bezel fun z => { z with
       windows := if size = 0 then z.windows.filter fun q => q.1 != index else z.windows.put index { base := base, size := size } }).store 0x23 bezel) })

/-- `bezel.set_flags` (R273). -/
def cmdBezelSetFlags (_h : CmdHdr) (bezel flags : Nat) : CmdMeta × CmdBody :=
  ({ op := 0x2306, plen := 2, mirrored := true },
   { argOk := fun s => s.bezelServes bezel && decide (flags ≤ 1)
     check := fun s => judge [(flags = 0 && (List.range 256).any fun p => s.portOwner p = bezel && (s.port p).eee, .conflict)]
     act := fun s => cmdOut ((s.onBezel bezel fun z => { z with nonTiming := flags = 1 }).store 0x23 bezel) })

/-- A frozen tenant master is reset and released (R409). -/
def State.releaseMaster (s : State) (b kind index : Nat) : State :=
  if kind = 0 then (s.dropFrozenJobs.resetFn b).onFn b fun x => { x with frozen := false }
  else
    let s1 := s.onBezel b fun z => { z with frozen := z.frozen.filter (· != kind * 65536 + index) }
    if kind = 1 then s1.closeRing index else if kind = 2 then s1.stopStream b index
    else (s1.tse.works.filter fun w => w.service = index && w.bezel = b).foldl (fun (t : State) w => t.dropWork w) s1

/-- `bezel.release`: tenant masters alone. -/
def cmdBezelRelease (_h : CmdHdr) (bezel kind index : Nat) : CmdMeta × CmdBody :=
  ({ op := 0x2307, plen := 4, action := true },
   { argOk := fun s => decide (1 ≤ bezel) && s.bezelServes bezel && decide (kind ≤ 3)
     check := fun s => judge [(!(if kind = 0 then (s.fn bezel).frozen else decide (kind * 65536 + index ∈ (s.bezel bezel).frozen)), .state)]
     act := fun s => cmdOut (s.releaseMaster bezel kind index) })

/-- `bezel.read_status` (R401, R406); the layout of the buffer is the model's own: range, quotas, windows, flags, reservations, the first failed
condition and one bit for each port. -/
def cmdBezelReadStatus (h : CmdHdr) (bezel : Nat) : CmdMeta × CmdBody :=
  ({ op := 0x2341, plen := 1, who := .any, xbOut := true },
   { argOk := fun _ => decide (bezel < 64)
     check := fun s => judgeOwned (h.fn = 0 || h.fn = bezel) true 3 [(!(s.bezel bezel).present, .state)]
     act := fun s =>
       let z := s.bezel bezel
       cmdOut s [bit z.isolated, rsv 7]
         ([fld 32 z.subBase, fld 32 z.subCount, fld 32 (s.quota 0 bezel), fld 16 (s.quota 1 bezel), fld 16 (s.quota 2 bezel),
           fld 64 (s.sta.reserve.look 0 bezel), fld 32 (s.tmBez bezel).reserve, fld 32 (s.tmBez bezel).cap, bit z.nonTiming, bit z.isolated, bit (s.fn bezel).frozen, rsv 5,
           fld 8 (s.isoFail bezel)]
          ++ ((List.range 16).flatMap fun n => let w := z.windows.look {} n; [fld 64 w.base, fld 64 w.size])
          ++ (List.range 256).map fun p => bit (s.portOwner p = bezel)) })


/-! ### Resets of functions by PCIe (R446, R447) -/

/-- R447 for a function: that of physical function 0 releases the frozen masters of BZ00 (R46). -/
def State.flrFn (s : State) (fn : Nat) : State :=
  let s1 := s.resetFn fn
  if fn = 0 then (s1.onFn 0 fun x => { x with frozen := false }).onBezel 0 fun z => { z with frozen := [] } else s1

/-- A function-level reset. -/
def onFlr (fn : Nat) (s : State) : State := if s.fnEnabled fn then s.flrFn fn else s

/-- A hot reset, link down or loss of PCIe reset: R447 for every function. VF Enable and NumVFs stay (DESIGN CHOICE, assumption 9). -/
def onHotReset (s : State) : State :=
  (List.range 64).foldl (fun (t : State) b => t.flrFn b) s

/-- FLR (R447). -/
def execFlr (fn : Nat) (s : State) : Host.Outcome State Fault Refusal :=
  .next (if s.alive then onFlr fn s else s)

/-- HOT_RESET (R446). -/
def execHotReset (s : State) : Host.Outcome State Fault Refusal :=
  .next (if s.alive then onHotReset s else s)


end Sys2Proof.Machine
end

