-- ==== Sys2Proof/Machine/Moved.lean ====
section
/-! DEFINITION. What moves with the MTC when it is stepped (R28, R69, R88, R90, R251): a step is no time that passes, and every reading of
the counter that is kept for later moves by its offset. -/

namespace Sys2Proof.Machine

/-- An MTC instant of 2^-20 ns moved by a step. -/
def movedBy (d : Int) (t : Nat) : Nat := ((t : Int) + d).toNat

/-- Edges that predictions and labels of a PPSI count from move with the MTC (R88, R90). -/
def PpsIn.stepped (d : Int) (p : PpsIn) : PpsIn :=
  { p with
    last := p.last.map (· + d)
    label := p.label.map fun (e : Int × Nat) => (e.1 + d, e.2)
    serial := p.serial.map fun (e : Int × Nat) => (e.1 + d, e.2) }

/-- Held estimates and committed instants of the LAE move with the MTC (R251); angles stay. -/
def LaTap.stepped (d : Int) (t : LaTap) : LaTap :=
  { t with
    model := t.model.map fun (m : LaModel) => { m with at_ := movedBy d m.at_ }
    lastValid := movedBy d t.lastValid
    lastBad := t.lastBad.map (movedBy d)
    steadySince := t.steadySince.map (movedBy d)
    transientAt := movedBy d t.transientAt, lastAt := t.lastAt.map (· + d), accepted := t.accepted.map (· + d) }

/-- A committed event's instant moves with the MTC (R251). -/
def LaSlot.stepped (d : Int) (e : LaSlot) : LaSlot :=
  { e with
    after := movedBy d e.after
    te := movedBy d e.te
    fired := e.fired.map fun (x : FiredEvent) => { x with te := movedBy d x.te }
    window := e.window.map fun w => (movedBy d w.1, w.2) }

/-- Offsets of the MTC against a time reference that were measured before a step move by it, ps. -/
def RefIn.stepped (ps : Rat) (x : RefIn) : RefIn := { x with meas := x.meas.map (· + ps), latchedMeas := x.latchedMeas.map (· + ps) }

/-- The servo's offsets move with the MTC (R98, R99, R101). -/
def NrefIn.stepped (ps : Rat) (x : NrefIn) : NrefIn :=
  { x with
    samples := x.samples.map fun (p : Rat × Rat) => (p.1 + ps, p.2)
    hist := x.hist.map fun (p : Nat × Rat × Rat) => (p.1, p.2.1 + ps, p.2.2)
    offset := x.offset + ps }

/-- A gate that runs over a step measures the time counted, not the step (R92). -/
def FreqGate.stepped (d : Int) (g : FreqGate) : FreqGate :=
  { first := g.first.map fun (x : GateStamp) => { x with t := x.t + d }, last := g.last.map fun (x : GateStamp) => { x with t := x.t + d } }

/-- The offsets that Assay keeps of a reference move with the MTC (R155, R174). -/
def RefAssay.stepped (ps : Rat) (a : RefAssay) : RefAssay :=
  { a with prevPhase := a.prevPhase.map (· + ps), offsets := a.offsets.map fun (p : Nat × Rat × Rat) => (p.1, p.2.1 + ps, p.2.2) }

/-- What is kept of the counter's readings moves by d units of 2^-20 ns; fractional frequencies stay. -/
def State.stepFrame (d : Int) (s : State) : State :=
  let ps := unitsPs d
  let s1 := s.onEns fun e => { e with
    post := { e.post with x := e.post.x + ps }
    refs := e.refs.mapAll fun r a => if isFreqRef r then a else RefAssay.stepped ps a }
  let s2 := s1.onRef fun r => { r with
    ins := r.ins.mapAll fun k x => if isFreqRef k then x else RefIn.stepped ps x
    pps := r.pps.mapAll fun _ x => PpsIn.stepped d x
    gates := r.gates.mapAll fun _ x => FreqGate.stepped d x
    tci := r.tci.mapAll fun _ (x : TcIn) => { x with pr := x.pr.map fun (e : Int × Bool) => (e.1 + d, e.2) }
    nref := r.nref.mapAll fun _ x => NrefIn.stepped ps x }
  s2.onLa fun l => { l with
    taps := l.taps.mapAll fun _ t => LaTap.stepped d t
    slots := l.slots.mapAll fun _ e => LaSlot.stepped d e }

/-- The counter m jumps to n: the slew is cancelled, and the jump is no time that passes (R28, R69). -/
def Mtc.jump (m n : Mtc) : Mtc := { n with slew := none, steps := m.steps + ((n.units : Int) - (m.units : Int)) }

end Sys2Proof.Machine
end

