-- ==== Sys2Proof/Machine/Pair.lean ====
section
/-! DEFINITION. What one unit of a pair sends the other of its state, and what the other takes of it (R425, R429, R431, R440). -/

namespace Sys2Proof.Machine

/-- The unit exchanges measurements and digests with its partner: the pair is formed, or this unit or its partner is in TRANSFER (R425, R440). -/
def State.exchanges (s : State) : Bool :=
  s.paired || s.clasp.st = .transfer || (s.clasp.st = .alone && s.clasp.authed && s.clasp.partner = .transfer)

/-- The level of PAIR_PPS_OUT: it rises at each top of the TAI second and falls 1 us later (R575). -/
def State.pairPpsOut (s : State) : Bool := s.tc.mtc.running && s.alive && decide (s.tc.mtc.ns < 1000)

/-! ### The ensemble state (R429, R440) -/

/-- What is sent of one reference. -/
def State.refImage (s : State) (r : Nat) : RefImage :=
  let a := s.ra r
  let m := a.model
  { ref := r, grade := a.grade, shadow := a.shadow, cons := a.cons, stat := a.stat, excess := a.excess, fourRun := a.fourRun, cleanRun := a.cleanRun
    held := a.held, goodRun := a.goodRun, selected := a.selected, slot := a.slot, weight := a.weight, hold := a.hold
    model := [m.qw, m.qf, m.qrw, m.drift, m.driftVar], row := a.row, history := a.history, yHat := a.yHat, known := a.known, jumpCap := a.jumpCap
    est := match s.ens.post.members.find? fun q => q.1 = r with
      | some q => [q.2.x, q.2.y, q.2.d, q.2.px, q.2.py, q.2.pd, q.2.moved]
      | none => [] }

/-- The numbers of a posterior without its members. -/
def Posterior.numbers (p : Posterior) : List Rat := [p.x, p.y, p.px, p.py, p.pd, p.pxy, p.pxd, p.pyd]

/-- The outputs of an update that STATE covers (R429), as they are sent to a joining unit (R440). -/
def State.ensImage (s : State) : EnsImage :=
  let e := s.ens
  { refs := (List.range 33).map s.refImage, post := e.post.numbers, applied := e.applied.numbers, hasEstimate := e.hasEstimate
    steer := [e.ys, e.ye, e.ysHold, e.yd, e.dHat, e.drift], driftOn := e.driftOn, timing := s.tc.ts.code, step := e.step, atFinal := e.atFinal
    dwell := e.dwell, word := e.word, terms := s.ensembleTerms }

/-- A posterior of its numbers, with the estimates of the members. -/
def posteriorOf (l : List Rat) (members : Tab MemberEst) : Posterior :=
  { x := l.getD 0 0, y := l.getD 1 0, px := l.getD 2 0, py := l.getD 3 0, pd := l.getD 4 0, pxy := l.getD 5 0, pxd := l.getD 6 0
    pyd := l.getD 7 0, members := members }

/-- A noise model of its numbers. -/
def modelOf (l : List Rat) : NoiseModel :=
  { qw := l.getD 0 0, qf := l.getD 1 0, qrw := l.getD 2 0, drift := l.getD 3 0, driftVar := l.getD 4 0 }

/-- What is taken of one reference; its configuration and the record of its own measurements stay. -/
def adoptRef (i : RefImage) (a : RefAssay) : RefAssay :=
  { a with
    grade := i.grade, shadow := i.shadow, cons := i.cons, stat := i.stat, excess := i.excess, fourRun := i.fourRun, cleanRun := i.cleanRun
    held := i.held, goodRun := i.goodRun, selected := i.selected, slot := i.slot, weight := i.weight, hold := i.hold, model := modelOf i.model
    row := i.row, history := i.history, yHat := i.yHat, known := i.known, jumpCap := i.jumpCap }

/-- The timing state of a code (R64). -/
def timingOf (n : Nat) : TimingState :=
  if n = 1 then .acquiring else if n = 2 then .locked else if n = 3 then .holdover else if n = 4 then .lost else .freeRun

/-- The joining unit takes the ensemble state of the serving unit (R440 step 4). -/
def State.adoptEns (s : State) (i : EnsImage) : State :=
  let members := (i.refs.filter fun x => !x.est.isEmpty).map fun x =>
    (x.ref, ({ x := x.est.getD 0 0, y := x.est.getD 1 0, d := x.est.getD 2 0, px := x.est.getD 3 0, py := x.est.getD 4 0
               pd := x.est.getD 5 0, moved := x.est.getD 6 0 } : MemberEst))
  let s1 := (i.refs.filter fun x => decide (x.ref < 33)).foldl (fun (t : State) x => t.onRa x.ref fun a => adoptRef x a) s
  (s1.onEns fun e => { e with
    post := posteriorOf i.post members, applied := posteriorOf i.applied members, hasEstimate := i.hasEstimate
    ys := i.steer.getD 0 0, ye := i.steer.getD 1 0, ysHold := i.steer.getD 2 0, yd := i.steer.getD 3 0, dHat := i.steer.getD 4 0
    drift := i.steer.getD 5 0, driftOn := i.driftOn, step := i.step, atFinal := i.atFinal, dwell := i.dwell, word := i.word
    lastApplied := s.tc.lastLatch }).onTc fun c => { c with ts := timingOf i.timing }

/-! ### Keys and grants (R337, R431) -/

/-- Slots that are mirrored: those with PAIR_MIRROR, Hallmark slots and seal slots (R431, R482). -/
def mirroredSlot (slot usage : Nat) : Bool := nbit usage 13 || decide (128 ≤ slot && slot < 320)

/-- A mirrored key slot of the serving or ACTIVE unit is taken; any other is not. -/
def State.adoptKey (s : State) (i : KeyImage) : State :=
  if decide (4096 ≤ i.slot) || !mirroredSlot i.slot i.usage then s
  else s.onKeys fun k => { k with slots := k.slots.upd {} i.slot fun y =>
    if i.valid then { usage := i.usage, alg := i.alg, len := i.len, st := .valid, depth := i.depth, owner := i.owner, locket := i.locket
                      parent := i.parent, useLimit := i.useLimit, expiry := i.expiry, gen := i.gen, label := i.label, material := i.material }
    else { gen := y.gen } }

/-- An entry of the ACTIVE unit's grant table is taken (R431). -/
def State.adoptGrant (s : State) (i : GrantImage) : State :=
  if 1048576 ≤ i.index then s
  else s.onTse fun x => { x with grants := x.grants.upd {} i.index fun _ =>
    { tag := i.tag, client := i.client, port := i.port, service := i.service, bezel := i.bezel, sub := i.sub, annLog := i.annLog
      syncLog := i.syncLog, drespLog := i.drespLog, granted := i.granted, cancelling := i.cancelling, expiry := i.expiry, key := i.key
      authed := i.authed } }

/-- KEY_GEN of a bezel is taken (R431). -/
def State.adoptSeal (s : State) (q : Nat × Nat) : State :=
  if 64 ≤ q.1 then s else s.onTse fun x => { x with seals := x.seals.upd {} q.1 fun z => { z with gen := q.2 } }

end Sys2Proof.Machine
end

