-- ==== Sys2Proof/Machine/Clasp.lean ====
section
/-! DEFINITION. Clasp and redundant pairs (chapter 14): pair states, claims, digests, mirrored changes and role swaps. -/

namespace Sys2Proof.Machine

/-! ### Claims out (R417-R420, R441) -/

/-- FITNESS, the first row of R417 that applies. -/
def State.fitness (s : State) : Nat :=
  let c := s.clasp
  if s.pwr.st = .boot || s.pwr.st = .restricted || !s.alive || s.tc.ts = .lost || s.squelched
      || c.st = .seeking || c.st = .unpairedStandby || c.st = .transfer || c.st = .pairFault
      || (c.st = .standby && !c.fit) || c.deaf then 0
  else if s.claimLoopTrouble then 8
  else if s.degraded then 12
  else 15

/-- CLAIM from FITNESS, ROLE and UNIT (R417). -/
def claimWord (fitness : Nat) (role unit : Bool) : Nat := fitness * 4096 + b01 role * 2048 + b01 unit

/-- The claim condition of R213: with pairing OFF it holds; otherwise FITNESS is above 0 and the claim exceeds the
partner's (R420). -/
def State.wiresHeld (s : State) : Bool :=
  s.clasp.st = .off || (decide (0 < s.fitness) && decide (s.clasp.partnerClaim < claimWord s.fitness s.clasp.role s.pwr.pairId))

/-- The pair term of R80, in ps. -/
def State.pairTerm (s : State) : Nat := max s.clasp.dOwn.natAbs s.clasp.dPartner.natAbs + 40

/-- A change of pair state, with its event; forming or dissolving the pair makes records due and, when dissolved,
freezes the pair term (R76, R82, R415). -/
def State.setPair (s : State) (p : PairState) : State :=
  if s.clasp.st = p then s
  else
    let was := s.paired
    let s1 := s.onClasp fun c => { c with st := p }
    let s2 := s1.raise0 0x3002 [fld 8 s.clasp.st.code, fld 8 p.code]
    if was = s2.paired then s2
    else if was then (s2.onClasp fun c => { c with frozenPair := some s.pairTerm, fit := false, partnerFit := false, stepRun := 0, trim := 0 }).hallDue portAndOutputPoints
    else (s2.onClasp fun c => { c with frozenPair := none, stepRun := 0 }).hallWiden portAndOutputPoints

/-- ROLE changes, with the event every bezel receives (R420, R433); a unit that loses it resets its connections on port 4460 (R437). -/
def State.setRole (s : State) (r : Bool) : State :=
  if s.clasp.role = r then s
  else
    let s0 := if r then s else s.onKeys fun k => { k with conns := [] }
    let s1 := s0.onClasp fun c => { c with role := r }
    s1.raiseAll 0x3001 [fld 8 (b01 (if r then s.pwr.pairId else !s.pwr.pairId))]

/-- This unit has published, for every paired port and claim-gated electrical output, a record that includes B_pair (R441): none of the
widenings that came with the pair is still to be published. -/
def State.ownFit (s : State) : Bool :=
  s.paired && s.hall.widen.all fun p => !(decide (p ∈ s.clasp.ports) || decide (256 ≤ p && p < 0x12C))

/-- CHECK of a claim frame: CRC-4, x^4 + x + 1, initial value 0, over CLAIM then FLAGS in transmission order (R418). -/
def claimCheck (claim flags : Nat) : Nat := crcBits 4 3 0 (lsbBits 16 claim ++ lsbBits 4 flags)

/-- CLM_OUT is held low: in reset, OFF and VAULT, and for 32 unit intervals of one time-clock cycle each from a squelch or the loss of the
wires (R419). -/
def State.claimLow (s : State) : Bool :=
  !s.alive || s.pwr.st = .off || s.pwr.st = .vault ||
    (match s.clasp.silentAt with | none => false | some c => decide (s.tc.mtc.cyc < c + 32))

/-- A claim-gated driver of this unit is enabled (R418). -/
def State.drives (s : State) : Bool := s.clasp.wires && outKeys.any fun k => s.driverOn k

/-- A swap is due at a TAI second (R438). -/
def State.swapDueAt (s : State) (sec : Nat) : Bool :=
  match s.clasp.swapDue with
  | some d => decide (d ≤ sec)
  | none => s.clasp.swapPeriod != 0 && sec % 86400 = s.clasp.swapSecond && sec / 86400 % s.clasp.swapPeriod = 0

/-- What R438 asks of a swap holds: both units in step for 60 updates, equal FITNESS, and no step, transfer or earlier swap pending. -/
def State.swapReady (s : State) : Bool :=
  s.paired && decide (60 ≤ s.clasp.stepRun) && s.clasp.partnerClaim / 4096 = s.fitness && s.tc.step.isNone && s.clasp.swapArmed.isNone

/-- The SWAP flag (R418, R439): from one second before a swap that can proceed until it is taken. -/
def State.swapFlag (s : State) : Bool := s.clasp.swapArmed.isSome || ((s.swapDueAt (s.sec + 1) || s.swapDueAt s.sec) && s.swapReady)

/-- FLAGS: DRIVE, HEAR, SWAP, INSTEP (R418). -/
def State.claimFlags (s : State) : Nat := b01 s.drives + 2 * b01 s.clasp.hear + 4 * b01 s.swapFlag + 8 * b01 s.clasp.inStep

/-- The claim frame that goes out on CLM_OUT, back to back (R418, R419). -/
def State.sendClaim (s : State) : State :=
  s.onClasp fun c => { c with
    frame := if s.claimLow then none else some (c.claim, s.claimFlags, claimCheck c.claim s.claimFlags) }

/-- The claim is recomputed; the wires and ROLE follow the comparison, and losing the wires silences CLM_OUT for 32 unit
intervals (R417, R419, R420, R441). -/
def State.reclaim (s0 : State) : State :=
  let s := s0.onClasp fun c => { c with fit := c.fit || (s0.ownFit && c.partnerFit) }
  let w := s.wiresHeld
  let s1 := s.onClasp fun c => { c with wires := w, silentAt := if c.wires && !w then some s.tc.mtc.cyc else c.silentAt }
  let s2 :=
    if s.clasp.st = .active && !w then (s1.setPair .standby).setRole false
    else if s.clasp.st = .standby && w then (s1.setPair .active).setRole true
    else if s.clasp.st = .alone || s.clasp.st = .off then s1.setRole (w || s.clasp.st = .off)
    else s1.setRole false
  ((s2.onClasp fun c => { c with claim := claimWord s2.fitness s2.clasp.role s2.pwr.pairId }).followPins).sendClaim

/-- Acknowledged changes complete their commands (R433). -/
def ackMirror (n : Nat) (s : State) : State :=
  let waiting := (s.clasp.mirror.filter (fun x => !x.acked)).take n
  let s1 := s.onClasp fun c => { c with mirror :=
    (c.mirror.foldl (fun (acc : Nat × List MirrorItem) x =>
      if x.acked || acc.1 = 0 then (acc.1, acc.2 ++ [x]) else (acc.1 - 1, acc.2 ++ [{ x with acked := true, ackAt := s.upNs }])) (n, [])).2 }
  waiting.foldl (fun t x => match x.done with
    | none => t
    | some (b, q, seq, tag) => complete b q seq tag .ok false x.result x.xb t) s1

/-- The partner is lost: the pair dissolves and a transfer ends (R415); changes that waited for it take effect alone. -/
def State.partnerGone (s : State) : State :=
  let s1 := (ackMirror s.clasp.mirror.length s).onClasp fun c => { c with
    authed := false, pairable := false, matchRun := 0, gotMeas := false, partnerFit := false
    mirror := c.mirror.map fun (x : MirrorItem) => { x with ackAt := 0 } }
  let s2 :=
    match s.clasp.st with
    | .active => s1.setPair .alone
    | .standby => s1.setPair .alone
    | .transfer => s1.setPair .seeking
    | .off => s1
    | .seeking => s1
    | .unpairedStandby => s1
    | .alone => s1
    | .pairFault => s1
  (if s2.clasp.st = .alone then s2.setRole true else s2).reclaim

/-- PAIR_FAULT with REPLACE_N and its cause of `sys.health` (R430). -/
def State.pairFaulted (s : State) : State := ((s.setPair .pairFault).addCause 0x0D00).reclaim

/-! ### Commands -/

/-- `clasp.set_pair` (R412, R413, R415, R434, R485). -/
def cmdClaspSetPair (_h : CmdHdr) (enable dPps pairWait : Nat) (ports : List Nat) : CmdMeta × CmdBody :=
  ({ op := 0x3001, plen := 44 },
   { argOk := fun _ => decide (enable ≤ 1) && decide (dPps ≤ 100000) && decide (1 ≤ pairWait) && decide (pairWait ≤ 600)
       && ports.all fun p => decide (p < 256)
     check := fun s => judge [(ports.any fun p => s.portUsed .clasp p, .conflict)]
     act := fun s =>
       let s1 := s.onClasp fun c => { c with dPps := dPps, pairWait := pairWait, ports := ports }
       let s2 := if enable = 0 then s1.setPair .off else if s.clasp.st = .off then s1.setPair .seeking else s1
       { st := (s2.reclaim).store 0x30 0 } })

/-- `clasp.set_swap` (R438). -/
def cmdClaspSetSwap (_h : CmdHdr) (period second : Nat) : CmdMeta × CmdBody :=
  ({ op := 0x3002, plen := 8, mirrored := true },
   { argOk := fun _ => decide (period ≤ 90) && decide (second ≤ 86399)
     act := fun s => { st := (s.onClasp fun c => { c with swapPeriod := period, swapSecond := second }).store 0x30 1 } })

/-- `clasp.swap_now`: due at the first top of the second at least 2 s after acceptance (R438). -/
def cmdClaspSwapNow (_h : CmdHdr) : CmdMeta × CmdBody :=
  ({ op := 0x3003, mirrored := true, action := true },
   { argOk := fun _ => true
     check := fun s => judge [(!(s.clasp.st = .active), .state)]
     act := fun s =>
       let due := s.topAfter 2000000000
       { st := s.onClasp fun c => { c with swapDue := some due }, result := [fld 64 due] } })

/-- `clasp.resync` (R415). -/
def cmdClaspResync (_h : CmdHdr) : CmdMeta × CmdBody :=
  ({ op := 0x3004, action := true },
   { argOk := fun _ => true
     check := fun s => judge [(!(s.clasp.st = .unpairedStandby || s.clasp.st = .pairFault), .state)]
     act := fun s => { st := ((s.setPair .seeking).onClasp fun c => { c with authed := false, pairable := false, matchRun := 0 }).reclaim } })

/-- `clasp.read_status`. -/
def cmdClaspReadStatus (_h : CmdHdr) : CmdMeta × CmdBody :=
  ({ op := 0x3041, xbOut := true },
   { argOk := fun _ => true
     act := fun s =>
       let c := s.clasp
       { st := s, result := [fld 8 c.st.code, fld 8 c.partner.code],
         xb := [fld 8 c.st.code, fld 8 c.partner.code, fld 16 c.claim, fld 16 c.partnerClaim, bit c.inStep, bit c.deaf, rsv 14,
                fld 64 c.lastDiv.sec, fld 128 c.lastDiv.sets.1, fld 128 c.lastDiv.sets.2, fld 128 c.lastDiv.states.1,
                fld 128 c.lastDiv.states.2, fld 48 c.badLanes, rsv 16, fld 48 c.badClaims, rsv 16, fld 48 c.divergences, rsv 16] } })


/-! ### Lanes -/

/-- The pair state of a code (R414). -/
def pairStateOf (n : Nat) : PairState :=
  if n = 1 then .seeking else if n = 2 then .unpairedStandby else if n = 3 then .transfer else if n = 4 then .active
  else if n = 5 then .standby else if n = 6 then .alone else if n = 7 then .pairFault else .off

/-- The join step of a unit in TRANSFER (R28, R440): the MTC is set to the partner's, GEN is adopted and Hallmarks are
withdrawn until fresh ones carry it; an instant outside the fields of a time word (R14) is not taken. -/
def joinStep (t : Nat × Nat × Nat) (gen : Nat) (s : State) : State :=
  if s.clasp.st = .transfer && !s.clasp.joined && decide (t.1 < 2 ^ 48) && decide (t.2.1 < 1000000000) && decide (t.2.2 < 1048576) then
    let n : Mtc := { s.tc.mtc with sec := t.1, ns := t.2.1, frac := t.2.2 }
    let s1 := (s.onTc fun c => { c with mtc := c.mtc.jump n, gen := gen }).pushHist
    let s2 := s1.stepFrame ((n.units : Int) - (s.tc.mtc.units : Int))
    (s2.onClasp fun c => { c with joined := true }).onHall fun h => { h with withdrawn := true, dueAll := true }
  else s

/-- What a lane frame brings of the partner's mirrored state (R431, R440): grants, keys and KEY_GEN to a unit in STANDBY or TRANSFER, and the
ensemble state to one in TRANSFER that has taken the join step. -/
def State.takeImage (s : State) (f : LaneFrame) : State :=
  if s.clasp.st = .standby || s.clasp.st = .transfer then
    let s1 := f.seals.foldl State.adoptSeal (f.keys.foldl State.adoptKey (f.grants.foldl State.adoptGrant s))
    match f.ens with
    | none => s1
    | some i => if s.clasp.st = .transfer && s.clasp.joined then s1.adoptEns i else s1
  else s

/-- The partner's firmware set has changed (R415). -/
def State.partnerFirmware (s : State) (changed : Bool) : State :=
  if changed && (s.clasp.st = .unpairedStandby || s.clasp.st = .pairFault) then
    ((s.setPair .seeking).onClasp fun c => { c with authed := false, pairable := false, matchRun := 0 }).reclaim
  else s

/-- The partner's published records include B_pair (R441). -/
def State.partnerPublished (s : State) (fit : Bool) : State :=
  if fit && s.paired then (s.onClasp fun c => { c with partnerFit := true }).reclaim else s

/-- A Clasp lane frame (R415, R416, R431, R433, R440, R441): a bad one is discarded and counted. -/
def onLaneFrame (f : LaneFrame) (s : State) : State :=
  if !f.good then (s.onClasp fun c => { c with badLanes := c.badLanes + 1 }).logPartner 0x3080 f.lane
  else
    let s1 := ackMirror f.acks s
    let s0 := match f.joinTime with
      | none => s1
      | some t => joinStep t f.gen s1
    let s2 := ((s0.takeImage f).partnerFirmware f.firmware).partnerPublished f.fit
    match f.partnerState with
    | none => s2
    | some n =>
      let p := pairStateOf n
      let s3 := s2.onClasp fun c => { c with partner := p }
      if p = .off || p = .pairFault then s3.partnerGone
      else if s3.clasp.st = .alone && s3.clasp.authed && p = .standby then (s3.setPair .active).reclaim
      else s3

/-- A pair lane is lost or restored (R416). -/
def onLaneLoss (lane : Nat) (lost : Bool) (s : State) : State :=
  if (if lane = 0 then s.clasp.lane0 else s.clasp.lane1) = !lost then s
  else
  let s1 := s.onClasp fun c => if lane = 0 then { c with lane0 := !lost } else { c with lane1 := !lost }
  s1.raise0 0x3006 [fld 8 lane, fld 8 (b01 (!lost))]

/-- No good lane frame for 10 ms (R415). -/
def onPartnerLost (s : State) : State := (s.onClasp fun c => { c with lane0 := false, lane1 := false }).partnerGone

/-- The answer to a challenge under the owner root KS0002, an AES-256 key (R347, R416). -/
def State.rootAnswer (s : State) (challenge : List Nat) : Nat := beNum (cmacOf (aes256 (beBytes 32 (s.keys.slots.look {} 2).material)) challenge)

/-- The partner holds this unit's owner root (R416). -/
def State.rootProved (s : State) (p : PartnerInfo) : Bool :=
  (s.keys.slots.look {} 2).st = .valid && p.answer = s.rootAnswer p.challenge

/-- Each unit's firmware set is on the other's list of companion versions (R442). -/
def State.setsPair (s : State) (p : PartnerInfo) : Bool :=
  let f := s.mgmt.sets.look {} s.mgmt.running
  decide (s.mgmt.running < 2) && decide (p.version ∈ f.comp) && decide (f.version ∈ p.comp)

/-- The pair transport key is derived into a free Locket slot of KS0003-KS0063 (R347, R416), or replaces the one held. DESIGN CHOICE
(assumption 153): the highest, with USAGE WRAP and UNWRAP. -/
def State.deriveTransport (s : State) : State :=
  match s.clasp.transport.or ((List.range 61).findSome? fun i => if (s.keys.slots.look {} (3 + i)).st = .free then some (3 + i) else none) with
  | none => s
  | some k =>
    ((s.onKeys fun x => { x with slots := x.slots.upd {} k fun y =>
        { usage := 0x0030, alg := 2, len := 32, st := .valid, depth := 1, owner := 63, locket := true, expireAtReset := true
          gen := (y.gen + 1) % 65536, material := Config.newKey s.free } }).onClasp fun c => { c with transport := some k }).nextFree

/-- The pairability checks complete (R413, R415, R416, R442). -/
def onPartnerAuthenticated (p : PartnerInfo) (s : State) : State :=
  if s.clasp.st != .seeking && s.clasp.st != .alone then s
  else if p.pairId = s.pwr.pairId then
    (s.onClasp fun c => { c with idConflict := true }).raise0 0x3005 []
  else if !(p.certOk && s.rootProved p) then s.logPartner 0x3081 0
  else
    let ok := s.setsPair p
    let yields := pairStateOf p.state = .alone || decide (s.clasp.claim < p.claim)
    let neither := s.clasp.st = .seeking && pairStateOf p.state = .seeking && !s.pwr.pairId
    let s1 := s.onClasp fun c => { c with authed := true, pairable := ok, partner := pairStateOf p.state, idConflict := false }
    let s1 := if ok then s1.deriveTransport else s1
    if ok && yields then ((s1.setPair .transfer).onClasp fun c => { c with joined := false, matchRun := 0 }).reclaim
    else if !ok && (yields || neither) then (s1.setPair .unpairedStandby).reclaim
    else s1

/-- No partner authenticated within the pair wait after RUN (R415). -/
def onPairWaitTimeout (s : State) : State :=
  if s.clasp.st = .seeking && !s.clasp.authed && (s.pwr.st = .run || s.pwr.st = .degraded)
  then ((s.setPair .alone).setRole true).reclaim else s

/-- Transfer not complete within 120 s (R415). -/
def onTransferTimeout (s : State) : State := if s.clasp.st = .transfer then (s.setPair .seeking).reclaim else s

/-! ### Claims -/

/-- A good claim frame (R418). -/
def claimGood (own codeOk : Bool) (claim : BitVec 16) (flags check : BitVec 4) : Bool :=
  let c := claim.toNat
  codeOk && check.toNat = claimCheck c flags.toNat && c / 2 % 1024 = 0 && (c / 4096) ∈ [15, 12, 8, 0] && nbit c 0 != own

/-- A claim frame is received (R418, R419, R422). -/
def onClaimFrame (codeOk : Bool) (claim : BitVec 16) (flags check : BitVec 4) (s : State) : State :=
  if claimGood s.pwr.pairId codeOk claim flags check then
    let f := flags.toNat
    let deafSeen := s.clasp.wires && nbit f 0 && !nbit f 1
    let run := if deafSeen then s.clasp.deafRun + 1 else 0
    let agreed := match s.clasp.agreedTo with | none => false | some c => decide (s.tc.mtc.cyc < c)
    let s1 := s.onClasp fun c => { c with
      badRun := 0, partnerClaim := if agreed then c.partnerClaim else claim.toNat, partnerDrive := nbit f 0, partnerHear := nbit f 1
      partnerSwap := nbit f 2, hear := true, deafRun := run
      stepRun := if nbit f 3 then c.stepRun else 0
      hearSince := if nbit f 1 then c.hearSince.or (some s.upNs) else none }
    let s2 := if s.clasp.wires && nbit f 0 && nbit f 1 && decide (claim.toNat < s.clasp.claim) then s1.logPartner 0x3082 1 else s1
    let s3 := if run = 2 && !s.clasp.deaf then (s2.onClasp fun c => { c with deaf := true }).raise0 0x3003 [] else s2
    s3.reclaim
  else
    let run := s.clasp.badRun + 1
    let s1 := s.onClasp fun c => { c with
      badRun := run, badClaims := c.badClaims + 1, hear := c.hear && decide (run < 2), deafRun := 0, hearSince := none,
      partnerClaim := if 16 ≤ run then 0 else c.partnerClaim, partnerDrive := c.partnerDrive && decide (run < 16) }
    (if run = 16 then s1.logPartner 0x3083 1 else s1).reclaim

/-- CLM_IN is silent: the partner's claim is taken as 0 and the partner as not driving (R419, R443). -/
def onClaimSilence (s : State) : State :=
  let s1 := s.onClasp fun c => { c with partnerClaim := 0, partnerDrive := false, hear := false, hearSince := none, agreedTo := none }
  (if s.clasp.lane0 || s.clasp.lane1 then s1.logPartner 0x3083 1 else s1).reclaim

/-- The unit's own claim changes (R420). -/
def onClaimChange (s : State) : State := s.reclaim

/-- After 1 ms of good frames with HEAR a claim-deaf unit recomputes FITNESS (R422). -/
def onClaimDeafRecovery (s : State) : State :=
  match s.clasp.hearSince with
  | none => s
  | some t => if s.clasp.deaf && decide (t + 1000000 ≤ s.upNs) then (s.onClasp fun c => { c with deaf := false, deafRun := 0 }).reclaim else s

/-! ### In-step computation -/

/-- The partner's measurements arrive (R425, R426, R428): delta is half the difference of the measurement of the unit
without ROLE and that of the unit with it, and the unit without ROLE applies it as its trim. -/
def onPairMeasurementsReceived (m : PairMeas) (s : State) : State :=
  s.onClasp fun c => { c with
    gotMeas := true, unpaired := false, dPartner := m.dPartner
    partnerRefs := m.refs, trim := if c.role then 0 else ((c.dOwn - m.dPartner : Int) : Rat) / 2 }

/-- No partner measurements 10 ms after the second: the digest is marked unpaired (R427). -/
def onPairMeasurementTimeout (s : State) : State :=
  if s.exchanges && !s.clasp.gotMeas then s.onClasp fun c => { c with unpaired := true } else s

/-- A divergence is counted, logged and recomputed (R430). -/
def diverge (setDigest stateDigest : Nat) (s : State) : State :=
  let eq := setDigest = s.clasp.ownSet
  let s1 := s.onClasp fun c => { c with
    inStep := false, matchRun := 0, stepRun := 0, gotMeas := false, divergences := c.divergences + 1, recompute := true, divEqual := decide eq,
    lastDiv := { sec := s.sec, sets := (c.ownSet, setDigest), states := (c.ownState, stateDigest) } }
  (s1.logPartner 0x3084 1 2 [fld 64 s.clasp.ownSet, fld 64 setDigest]).sendClaim

/-- A mismatch counts as a divergence (R430): the pair is formed, or this unit has joined in TRANSFER. -/
def State.comparing (s : State) : Bool := s.paired || (s.clasp.st = .transfer && s.clasp.joined)

/-- The partner's digests are compared with this unit's own (R415, R430). -/
def onDigestReceived (setDigest stateDigest : Nat) (s : State) : State :=
  if !s.exchanges then s
  else if !s.clasp.unpaired && setDigest = s.clasp.ownSet && stateDigest = s.clasp.ownState then
    let s1 := s.onClasp fun c => { c with
      inStep := true, gotMeas := false, matchRun := c.matchRun + 1
      stepRun := if s.paired then c.stepRun + 1 else 0 }
    if s1.clasp.st = .transfer && s1.clasp.joined && decide (10 ≤ s1.clasp.matchRun)
    then (s1.setPair .standby).reclaim else s1.sendClaim
  else if s.comparing then diverge setDigest stateDigest s
  else s.onClasp fun c => { c with inStep := false, matchRun := 0, gotMeas := false }

/-- No digest 200 ms after the second counts as a mismatch (R429). -/
def onDigestTimeout (s : State) : State :=
  if s.comparing then diverge 0 0 s
  else if s.exchanges then s.onClasp fun c => { c with inStep := false, matchRun := 0 } else s

/-- Divergences with equal SET values after which neither unit was judged faulty, within the last 24 h (R430). -/
def ClaspSt.unexplained (c : ClaspSt) (now : Nat) : ClaspSt :=
  if c.divEqual then { c with divTimes := (c.divTimes.filter fun t => decide (now < t + 86400000000000)) ++ [now] } else c

/-- The recomputation ends (R430). -/
def onRecomputeComplete (differs partnerFaulty : Bool) (s : State) : State :=
  if !s.clasp.recompute then s
  else
    let s1 := s.onClasp fun c => { c with recompute := false }
    if differs then s1.pairFaulted
    else if partnerFaulty then s1
    else
    let s1 := s1.onClasp fun c => c.unexplained s.upNs
    if s.clasp.st != .standby then s1
    else if s1.clasp.divEqual && decide (3 ≤ s1.clasp.divTimes.length) then s1.pairFaulted
    else ((s1.setPair .transfer).onClasp fun c => { c with joined := false, matchRun := 0 }).reclaim

/-! ### Role swaps -/

/-- A swap falls due and proceeds or is skipped (R438); with pairing disabled there is none. -/
def onSwapDue (s : State) : State :=
  if !s.swapDueAt s.sec || s.clasp.st = .off then s
  else if s.swapReady then
    (s.onClasp fun c => { c with swapArmed := some s.sec, swapDue := none }).sendClaim
  else (s.onClasp fun c => { c with swapDue := some (s.sec + 86400) }).raise0 0x3004
        [fld 8 (if s.clasp.stepRun < 60 then 1 else if s.clasp.partnerClaim / 4096 != s.fitness then 2 else 3)]

/-- The instant of a handover, in 2^-20 ns: S + 0.5 s, and two time-clock cycles of 1.6 ns later in the STANDBY unit (R439). -/
def State.handoverAt (s : State) (sec : Nat) : Nat :=
  (sec * 1000000000 + 500000000) * 1048576 + (if s.clasp.st = .active then 0 else 3355444)

/-- At S + 0.5 s the ACTIVE unit releases the wires, and two cycles later the STANDBY unit takes them; for 256 ns each takes the partner's claim
to be the agreed one (R439). -/
def onSwapHandover (s : State) : State :=
  match s.clasp.swapArmed with
  | none => s
  | some t =>
    if s.tc.mtc.units < s.handoverAt t then s
    else
      let s1 := s.onClasp fun c => { c with swapArmed := none, agreedTo := some (s.tc.mtc.cyc + 160) }
      if !s.clasp.partnerSwap || !s.paired then s.onClasp fun c => { c with swapArmed := none }
      else if s.clasp.st = .active then
        let s2 := s1.onClasp fun c => { c with partnerClaim := claimWord s.fitness true (!s.pwr.pairId), wires := false, silentAt := some s.tc.mtc.cyc }
        let s3 := (s2.setPair .standby).setRole false
        ((s3.onClasp fun c => { c with claim := claimWord s3.fitness false s3.pwr.pairId }).followPins).sendClaim
      else
        let s2 := s1.onClasp fun c => { c with partnerClaim := claimWord s.fitness false (!s.pwr.pairId), wires := true }
        let s3 := (s2.setPair .active).setRole true
        ((s3.onClasp fun c => { c with claim := claimWord s3.fitness true s3.pwr.pairId }).followPins).sendClaim

/-- LANE_FRAME (R416). -/
def execLaneFrame (f : LaneFrame) (s : State) : Host.Outcome State Fault Refusal :=
  .next (if s.alive then onLaneFrame f s else s)

/-- LANE_LOSS (R416). -/
def execLaneLoss (lane : Nat) (lost : Bool) (s : State) : Host.Outcome State Fault Refusal :=
  .next (if s.alive then onLaneLoss lane lost s else s)

/-- PARTNER_LOST (R415). -/
def execPartnerLost (s : State) : Host.Outcome State Fault Refusal :=
  .next (if s.alive then onPartnerLost s else s)

/-- PARTNER_AUTHENTICATED (R416). -/
def execPartnerAuthenticated (p : PartnerInfo) (s : State) : Host.Outcome State Fault Refusal :=
  .next (if s.alive then onPartnerAuthenticated p s else s)

/-- PAIR_WAIT_TIMEOUT (R415). -/
def execPairWaitTimeout (s : State) : Host.Outcome State Fault Refusal :=
  .next (if s.alive then onPairWaitTimeout s else s)

/-- TRANSFER_TIMEOUT (R415). -/
def execTransferTimeout (s : State) : Host.Outcome State Fault Refusal :=
  .next (if s.alive then onTransferTimeout s else s)

/-- CLAIM_FRAME (R418). -/
def execClaimFrame (codeOk : Bool) (claim : BitVec 16) (flags check : BitVec 4) (s : State) : Host.Outcome State Fault Refusal :=
  .next (if s.alive then onClaimFrame codeOk claim flags check s else s)

/-- CLAIM_SILENCE (R419). -/
def execClaimSilence (s : State) : Host.Outcome State Fault Refusal :=
  .next (if s.alive then onClaimSilence s else s)

/-- CLAIM_CHANGE (R420). -/
def execClaimChange (s : State) : Host.Outcome State Fault Refusal :=
  .next (if s.alive then onClaimChange s else s)

/-- CLAIM_DEAF_RECOVERY (R422). -/
def execClaimDeafRecovery (s : State) : Host.Outcome State Fault Refusal :=
  .next (if s.alive then onClaimDeafRecovery s else s)

/-- PAIR_MEASUREMENTS_RECEIVED (R426). -/
def execPairMeasurementsReceived (m : PairMeas) (s : State) : Host.Outcome State Fault Refusal :=
  .next (if s.alive then onPairMeasurementsReceived m s else s)

/-- PAIR_MEASUREMENT_TIMEOUT (R427). -/
def execPairMeasurementTimeout (s : State) : Host.Outcome State Fault Refusal :=
  .next (if s.alive then onPairMeasurementTimeout s else s)

/-- DIGEST_RECEIVED (R430). -/
def execDigestReceived (setDigest stateDigest : Nat) (s : State) : Host.Outcome State Fault Refusal :=
  .next (if s.alive then onDigestReceived setDigest stateDigest s else s)

/-- DIGEST_TIMEOUT (R429). -/
def execDigestTimeout (s : State) : Host.Outcome State Fault Refusal :=
  .next (if s.alive then onDigestTimeout s else s)

/-- RECOMPUTE_COMPLETE (R430). -/
def execRecomputeComplete (differs : Bool) (partnerFaulty : Bool) (s : State) : Host.Outcome State Fault Refusal :=
  .next (if s.alive then onRecomputeComplete differs partnerFaulty s else s)

/-- SWAP_DUE (R438). -/
def execSwapDue (s : State) : Host.Outcome State Fault Refusal :=
  .next (if s.alive then onSwapDue s else s)

/-- SWAP_HANDOVER (R439). -/
def execSwapHandover (s : State) : Host.Outcome State Fault Refusal :=
  .next (if s.alive then onSwapHandover s else s)


end Sys2Proof.Machine
end

