-- ==== Sys2Proof/Machine/Clock.lean ====
section
/-! DEFINITION. The Time Core's own commands and events (chapter 02): leap table, local time, slewing, stepping, snapshot. -/

namespace Sys2Proof.Machine

/-- An offset is a signed 16-bit value (R57, R591). -/
def offsetOk (o : Int) : Bool := decide (-32768 ≤ o) && decide (o < 32768)

/-- A table of R57: the first T_eff 0, T_eff increasing, each offset one second from the one before, and each entry at the
end of a UTC day. -/
def leapTableOk (t : List LeapEntry) : Bool :=
  match t with
  | [] => false
  | b :: r => b.tEff = 0 && offsetOk b.offset &&
    (r.foldl (fun (acc : Bool × LeapEntry) e =>
      (acc.1 && decide (acc.2.tEff < e.tEff ∧ e.tEff < 2 ^ 48) && offsetOk e.offset &&
        ((e.offset = acc.2.offset + 1 && ((e.tEff : Int) - acc.2.offset) % 86400 = 0) ||
         (e.offset = acc.2.offset - 1 && ((e.tEff : Int) - acc.2.offset) % 86400 = 86399)), e)) (true, b)).1

/-- The first TAI second of the UTC day that holds the second before T, by the UTC of a table (R58). -/
def dayStart (t : List LeapEntry) (tEff : Nat) : Int :=
  let last : Int := (tEff : Int) - 1
  last - (last - leapOffset t (tEff - 1)) % 86400

/-- The entries of a table whose announcement has begun at a TAI second, judged by the UTC of the table in force (R58). -/
def begun (inForce t : List LeapEntry) (sec : Nat) : List LeapEntry :=
  (t.drop 1).filter fun e => decide (dayStart inForce e.tEff ≤ (sec : Int)) && decide (sec < e.tEff)

/-- The table needs FORCE (R58): a table is in force, and the new one changes the offset in force now or an entry whose
announcement has begun. -/
def leapNeedsForce (old new : List LeapEntry) (sec : Nat) : Bool :=
  !old.isEmpty && (leapOffset old sec != leapOffset new sec || begun old old sec != begun old new sec)

/-- `ens.set_leap_table` (R57, R58). -/
def cmdEnsSetLeapTable (_h : CmdHdr) (force count : Nat) (entries : List LeapEntry) : CmdMeta × CmdBody :=
  ({ op := 0x1201, plen := 2, mirrored := true, xbIn := true },
   { argOk := fun _ => decide (force ≤ 1) && decide (1 ≤ count) && decide (count ≤ 64) && entries.length = count && leapTableOk entries
     check := fun s => judge [(force = 0 && leapNeedsForce s.tc.leap entries s.sec, .state)]
     act := fun s =>
       let gen := leapNeedsForce s.tc.leap entries s.sec || (s.tc.leap.isEmpty && leapOffset entries s.sec != 0)
       { st := (s.onTc fun c => { c with leapNext := some { entries := entries, genInc := gen, due := s.nextTop } }).store 0x12 0 } })

/-- A local offset lies within its range (R62). -/
def localOk (o : Int) : Bool := decide (o.natAbs ≤ 50400)

/-- The scheduled changes name strictly increasing TAI seconds (R62). -/
def schedOk : List LocalChange → Bool
  | [] => true
  | [a] => localOk a.offset && decide (a.sec < 2 ^ 48)
  | a :: b :: r => localOk a.offset && decide (a.sec < b.sec) && schedOk (b :: r)

/-- `ens.set_local_offset` (R62). -/
def cmdEnsSetLocalOffset (_h : CmdHdr) (count : Nat) (offset : Int) (entries : List LocalChange) : CmdMeta × CmdBody :=
  ({ op := 0x1202, plen := 8, mirrored := true, xbIn := true },
   { argOk := fun _ => decide (count ≤ 16) && entries.length = count && localOk offset && schedOk entries
     act := fun s => { st := (s.onTc fun c => { c with localOff := offset, localSched := entries }).store 0x12 1 } })

/-- `ens.set_acquire` (R65, R67). -/
def cmdEnsSetAcquire (_h : CmdHdr) (a : AcquireArgs) : CmdMeta × CmdBody :=
  ({ op := 0x1203, plen := 16, mirrored := true },
   { argOk := fun _ => decide (1 ≤ a.acqGrade) && decide (a.acqGrade ≤ 24) && decide (1 ≤ a.holdGrade) && decide (a.holdGrade ≤ a.acqGrade)
       && decide (a.autoSet ≤ 1) && decide (1 ≤ a.lockOffset) && decide (a.lockOffset ≤ 1000000)
       && decide (1000 ≤ a.holdLimit) && decide (a.holdLimit ≤ 0xFFFFFFFE)
       && decide (100 ≤ a.stepThreshold) && decide (a.stepThreshold ≤ 1000000000)
     act := fun s => { st := (s.onTc fun c => { c with acq :=
       { acqGrade := a.acqGrade, holdGrade := a.holdGrade, lockOffset := a.lockOffset, holdLimit := a.holdLimit,
         stepThreshold := a.stepThreshold, autoSet := a.autoSet = 1 } }).store 0x12 2 } })

/-- `ens.force_state`: takes effect at the first ensemble update after its acceptance (R65, R66). -/
def cmdEnsForceState (_h : CmdHdr) (force : Nat) : CmdMeta × CmdBody :=
  ({ op := 0x1204, plen := 1, mirrored := true, action := true },
   { argOk := fun _ => force = 0 || force = 3
     act := fun s => { st := (s.onTc fun c => { c with force := force = 3 }).touch 0x12 3 } })

/-- `ens.release_lost` (R65, R66). -/
def cmdEnsReleaseLost (_h : CmdHdr) : CmdMeta × CmdBody :=
  ({ op := 0x1205, mirrored := true, action := true },
   { argOk := fun _ => true
     check := fun s => judge [(!(s.tc.ts = .lost), .state)]
     act := fun s => { st := s.onTc fun c => { c with releaseReq := true } } })

/-- No two of SEC, NS and FRAC have opposite signs, and the offset is not zero (R479). -/
def stepArgsOk (sec ns frac : Int) : Bool :=
  decide (ns.natAbs < 1000000000) && decide (frac.natAbs < 1048576)
    && !(decide (sec * ns < 0)) && !(decide (sec * frac < 0)) && !(decide (ns * frac < 0))
    && !(sec = 0 && ns = 0 && frac = 0)

/-- `ens.step_time` (R69): the first top of the second at least 2 ms after acceptance. -/
def cmdEnsStepTime (_h : CmdHdr) (sec ns frac : Int) : CmdMeta × CmdBody :=
  ({ op := 0x1206, plen := 16, mirrored := true, action := true },
   { argOk := fun _ => stepArgsOk sec ns frac
     check := fun s => judge [(s.tc.ts = .lost, .state), (s.tc.step.isSome, .busy)]
     early := fun s => judge [(s.tc.ts = .lost, .state)]
     act := fun s =>
       let due := s.topAfter 2000000
       { st := s.onTc fun c => { c with step := some { sec := sec, ns := ns, frac := frac, due := due } },
         result := [fld 64 due] } })

/-- `ens.set_slew` (R68). -/
def cmdEnsSetSlew (_h : CmdHdr) (rate : Nat) : CmdMeta × CmdBody :=
  ({ op := 0x1207, plen := 4, mirrored := true },
   { argOk := fun _ => decide (1 ≤ rate) && decide (rate ≤ 10000)
     act := fun s => { st := (s.onTc fun c => { c with slewRate := rate }).store 0x12 6 } })


/-! ### Events -/

/-- The clock runs; the snapshot is rewritten for every millisecond instant it passes (R56, R601). -/
def onSnapshotUpdate (cycles : Nat) (s : State) : State := s.runClock cycles

/-- The clock runs to the cycle in which the slew in progress ends (R68). -/
def onSlewComplete (s : State) : State :=
  match s.tc.mtc.slew with
  | none => s
  | some sl => s.runClock (max 1 sl.left)

/-- Announcement flags follow the table and the second; a start or an end makes fresh records due (R60, R76). -/
def State.reannounce (s : State) : State :=
  let a := leap61At s.tc.leap s.sec
  let b := leap59At s.tc.leap s.sec
  if a = s.tc.ann61 && b = s.tc.ann59 then s
  else (s.onTc fun c => { c with ann61 := a, ann59 := b }).hallDueAll

/-- An accepted leap-second table takes effect at its second (R58). -/
def onLeapTableEffect (s : State) : State :=
  match s.tc.leapNext with
  | none => s
  | some p =>
    if s.sec < p.due then s
    else
      let s1 := s.onTc fun c => { c with leap := p.entries, leapNext := none, gen := if p.genInc then (c.gen + 1) % 65536 else c.gen }
      (if p.genInc then s1.hallDueAll else s1).reannounce

/-- A leap announcement starts or ends (R60, R76). -/
def onLeapAnnouncement (s : State) : State := s.reannounce

/-- A scheduled local-offset change takes effect at its TAI second (R62). -/
def onLocalOffsetChange (s : State) : State :=
  match s.tc.localSched with
  | [] => s
  | a :: r => if a.sec ≤ s.sec then s.onTc fun c => { c with localOff := a.offset, localSched := r } else s

/-- SNAPSHOT_UPDATE (R601). -/
def execSnapshotUpdate (cycles : Nat) (s : State) : Host.Outcome State Fault Refusal :=
  .next (if s.alive then onSnapshotUpdate cycles s else s)

/-- SLEW_COMPLETE (R68). -/
def execSlewComplete (s : State) : Host.Outcome State Fault Refusal :=
  .next (if s.alive then onSlewComplete s else s)

/-- LEAP_TABLE_EFFECT (R58). -/
def execLeapTableEffect (s : State) : Host.Outcome State Fault Refusal :=
  .next (if s.alive then onLeapTableEffect s else s)

/-- LEAP_ANNOUNCEMENT (R60). -/
def execLeapAnnouncement (s : State) : Host.Outcome State Fault Refusal :=
  .next (if s.alive then onLeapAnnouncement s else s)

/-- LOCAL_OFFSET_CHANGE (R62). -/
def execLocalOffsetChange (s : State) : Host.Outcome State Fault Refusal :=
  .next (if s.alive then onLocalOffsetChange s else s)


end Sys2Proof.Machine
end

