-- ==== Sys2Proof/Machine/Assay.lean ====
section
/-! DEFINITION. Assay (R146-R157): carat grades, voting, statistics, the ASSAY flag, selection, slots and weights. -/

namespace Sys2Proof.Machine

/-! ### What an update works on -/

/-- The partner's measurement of a reference in the present second (R425). -/
def State.partnerMeas (s : State) (r : Nat) : Option (Rat × Rat) :=
  if s.clasp.gotMeas && s.exchanges then (s.clasp.partnerRefs.find? fun m => m.1 = r).map (·.2) else none

/-- delta of R426, ps: half the difference of the measurement of the unit without ROLE and that of the unit with it. -/
def State.pairDelta (s : State) : Rat :=
  if s.clasp.roleAtLatch then ((s.clasp.dPartner - s.clasp.dOwn : Int) : Rat) / 2
  else ((s.clasp.dOwn - s.clasp.dPartner : Int) : Rat) / 2

/-- MOSC counts as VALID while its monitor reports good (R146); other references as they were at the latch (R85). -/
def State.ownValid (s : State) (r : Nat) : Bool :=
  if r = 0 then s.pwr.moscGood && !s.pwr.moscLost else (s.inp r).latched = .valid

/-- The reference is VALID in the measurement set (R146, R426); in RESTRICTED no time reference is taken (R509). -/
def State.validRef (s : State) (r : Nat) : Bool :=
  (s.ownValid r || (s.partnerMeas r).isSome) && !(s.pwr.st = .restricted && s.isTimeNow r)

/-- Variance of a frequency from two stamps a second apart of 3.5 ps rms each, fractional: the Filigree measurement noise m_i of R154. -/
def gateVar : Rat := 245 / 10000000000000000000000000

/-- This unit's own measurement of a reference for the second: delivered since the latch, or held at it (R85). -/
def State.ownMeas (s : State) (r : Nat) : Option (Rat × Rat) :=
  if !s.ownValid r then none
  else if r = 0 then s.ens.moscMeas.map fun m => (m, gateVar)
  else match (s.inp r).meas with
    | some m => some (m, (s.inp r).var)
    | none => (s.inp r).latchedMeas.map fun m => (m, (s.inp r).latchedVar)

/-- The rate this unit's own reference delivers with its measurement (R98, R135). -/
def State.ownRate (s : State) (r : Nat) : Option (Rat × Rat) :=
  if !s.ownValid r then none else if (s.inp r).meas.isSome then (s.inp r).freq else (s.inp r).latchedFreq

/-- An offset stated against the MTC of the unit without ROLE has delta added (R426). -/
def State.withDelta (s : State) (r : Nat) (m : Option (Rat × Rat)) : Option (Rat × Rat) :=
  m.map fun p => (if isFreqRef r then p.1 else p.1 + s.pairDelta, p.2)

/-- The measurement of a reference in the measurement set of the update (R85, R426): that of the unit that held ROLE at the latch
where it is VALID there, otherwise the other unit's with delta added. -/
def State.measOf (s : State) (r : Nat) : Option (Rat × Rat) :=
  if s.clasp.gotMeas && s.exchanges then
    if s.clasp.roleAtLatch then (if s.ownValid r then s.ownMeas r else s.withDelta r (s.partnerMeas r))
    else (if (s.partnerMeas r).isSome then s.partnerMeas r else s.withDelta r (s.ownMeas r))
  else s.ownMeas r

/-- The static uncertainty U of a time reference (R79, R89, R103, R133), ps. -/
def State.staticU (s : State) (r : Nat) : Rat :=
  match nrefNo r with
  | some n => (s.portUA (s.nrefIn n).cfg.port : Rat) + ((s.nrefIn n).bound.getD 0 : Rat)
  | none =>
    if r = 15 || r = 16 then ((s.gnss.ants.look {} (r - 15)).u : Rat)
    else if 9 ≤ r && decide (r ≤ 12) then ((s.pps (r - 9)).u : Rat)
    else if r = 13 || r = 14 then (if (s.tci (r - 13)).kind = 2 then ((s.pps (r - 13)).u : Rat) else 0)
    else 0

/-- The rate of a frequency member against the MTC over the last second (R154, R174), fractional; a PPSI graded as a frequency
member delivers phase only, known modulo 1 s. -/
def State.freqMeas (s : State) (r : Nat) : Option Rat :=
  if isFreqRef r then (s.measOf r).map (·.1)
  else match s.measOf r, (s.ra r).prevPhase with
    | some m, some p => some ((p - m.1 - (roundHalf ((p - m.1) / 1000000000000) : Rat) * 1000000000000) / 1000000000000)
    | some _, none => none
    | none, some _ => none
    | none, none => none

/-! ### Ceilings and caps (R147, R148) -/

/-- The highest ceiling the table can give a reference (R147). -/
def topCeiling (r : Nat) : Nat :=
  if 32 ≤ r then 22 else if 9 ≤ r && decide (r ≤ 14) then 20 else if 5 ≤ r && decide (r ≤ 8) then 20 else 24

/-- The table's ceiling for the reference's present role (R147). -/
def State.tableCeiling (s : State) (r : Nat) : Nat :=
  match nrefNo r with
  | some n => if (s.nrefIn n).cfg.auth = 0 then 14 else 22
  | none => if 9 ≤ r && decide (r ≤ 12) && !s.isTimeNow r then 18 else topCeiling r

/-- The ceiling in force (R147). -/
def State.ceilingOf (s : State) (r : Nat) : Nat := min ((s.ra r).ceiling.getD 24) (s.tableCeiling r)

/-- The least of the caps whose condition holds (R148); 24 where none does. -/
def capOf (l : List (Bool × Nat)) : Nat := ((l.filter (·.1)).map (·.2)).foldl min 24

/-- The condition caps of a reference (R148). -/
def State.capsOf (s : State) (r : Nat) : Nat :=
  let a := s.ra r
  match nrefNo r with
  | some n => capOf [((s.nrefIn n).bound = some 0xFFFFFFFF, 8), (decide (0 < a.jumpCap), 10)]
  | none =>
    if r = 15 || r = 16 then
      let t := s.gnss.ants.look {} (r - 15)
      capOf [(t.spoof = .spoofed, 0), (t.spoof = .suspect, 12), (!t.dual, 18),
             ((match t.authFailAt with | some f => decide (s.tc.lastLatch ≤ f + 60000000000) | none => false), 16),
             ((match t.sol with | some o => decide (o.auth < 4) | none => true), 20)]
    else if 1 ≤ r && decide (r ≤ 4) then
      let h := (s.pend (r - 1)).health
      capOf [(h = .alarm, 0), (h = .warmup, 8), (h = .stale, 12), (h = .none, 20), (a.mismatch, 12)]
    else 24

/-! ### Consistency voting (R150-R152) -/

/-- The independence group of a time reference, named by its lowest code (R150). -/
def State.groupOf (s : State) (r : Nat) : Nat :=
  match nrefNo r with
  | some _ => ((allRefs.filter fun q => (nrefNo q).isSome && s.validRef q && s.identity q = s.identity r).head?).getD r
  | none =>
    if r = 15 || r = 16 then 15
    else if (r = 13 || r = 14) && (s.tci (r - 13)).kind = 2 then refPpsi (r - 13)
    else r

/-- The references that take part in the voting (R150, R603). -/
def State.voters (s : State) : List Nat :=
  allRefs.filter fun r => s.isTimeNow r && s.validRef r && decide (1 ≤ s.ceilingOf r) && decide (1 ≤ s.capsOf r) && (s.measOf r).isSome

/-- The member with the higher grade at the previous update, the lower index where they are equal (R150). -/
def State.better (s : State) (a b : Nat) : Nat := if (s.ra a).grade < (s.ra b).grade then b else a

/-- The representatives of the groups, in order of group (R150). -/
def State.reps (s : State) : List Nat :=
  let v := s.voters
  ((v.map s.groupOf).eraseDups).filterMap fun g =>
    match v.filter fun r => s.groupOf r = g with
    | [] => none
    | a :: l => some (l.foldl s.better a)

/-- |o_i - o_j| <= 5 sqrt(u_i^2 + u_j^2) + U_i + U_j (R151), in binary64 in this order (R167). -/
def agreeBy (oi vi ui oj vj uj : Rat) : Bool :=
  decide (rabs (fSub oi oj) ≤ fAdd (fAdd (fMul 5 (fSqrt (fAdd vi vj))) ui) uj)

/-- Two time references agree at the update (R151). -/
def State.agrees (s : State) (i j : Nat) : Bool :=
  match s.measOf i, s.measOf j with
  | some a, some b => agreeBy a.1 a.2 (s.staticU i) b.1 b.2 (s.staticU j)
  | some _, none => false
  | none, some _ => false
  | none, none => false

/-- Every cluster among representatives (R152): sets in which every pair agrees. -/
def State.clusters (s : State) (l : List Nat) : List (List Nat) :=
  l.foldl (fun acc r => acc ++ (acc.filter fun c => c.all fun q => s.agrees q r).map fun c => c ++ [r]) [[]]

/-- The consistency score of each representative's group (R152). When two clusters are equally large every group scores 14, so
the choice between them by grades has no effect on a score. -/
def State.consScores (s : State) : List (Nat × Nat) :=
  let l := s.reps
  let cs := s.clusters l
  let m := (cs.map List.length).foldl max 0
  let big := cs.filter fun c => c.length = m
  if m = l.length then l.map fun r => (s.groupOf r, 24)
  else match big with
    | [c] => if 2 ≤ m then l.map fun r => (s.groupOf r, if r ∈ c then 24 else 4) else l.map fun r => (s.groupOf r, 14)
    | _ => l.map fun r => (s.groupOf r, 14)

/-- The scores are given to every member that delivers a measurement (R152, R603). -/
def State.vote (s : State) : State :=
  let sc := s.consScores
  let v := s.voters
  v.foldl (fun t r => match sc.find? (fun p => p.1 = s.groupOf r) with
    | some p => t.onRa r fun a => { a with cons := p.2, group := p.1 }
    | none => t) s

/-! ### Statistics (R153, R154) -/

/-- e <= n s with s the root of a variance (R153, R154, R155). -/
def withinSigma (e var n : Rat) : Bool := decide (e ≤ fMul n (fSqrt var))

/-- e of R153: |o - x| - U. -/
def excessOf (o x u : Rat) : Rat := fSub (rabs (fSub o x)) u

/-- s squared of R153 for a measurement of variance v: the prediction's variance at this update, which in LOCKED lies 1 s after the last applied
measurement. -/
def State.predVar (s : State) (v : Rat) : Rat := fAdd (s.ens.sigmaSq s.sinceApplied) v

/-- The test of a time reference against the prediction (R153): nothing where it delivers no measurement. -/
def State.testTime (s : State) (r : Nat) (pred : Rat) : State :=
  match s.measOf r with
  | none => s
  | some m =>
    if s.tc.ts = .locked || s.tc.ts = .holdover then
      let e := excessOf m.1 pred (s.staticU r)
      let v := s.predVar m.2
      let run := if withinSigma e v 5 then 0 else (s.ra r).excess + 1
      let sc := if withinSigma e v 3 then 24 else if 3 ≤ run then 4 else 16
      s.onRa r fun a => { a with stat := sc, excess := run, fourRun := if sc = 4 then a.fourRun + 1 else 0 }
    else s.onRa r fun a => { a with stat := 24, excess := 0, fourRun := 0 }

/-- The frequency members in order of index, PPSI graded as frequency members last. -/
def State.freqRefs (s : State) : List Nat := allRefs.filter fun r => !s.isTimeNow r && decide (r ≤ 12)

/-- The change of its applied correction that a Pendant is credited with from this latch, fractional (R170). -/
def State.ctrlCredit (s : State) (r : Nat) : Rat :=
  if 1 ≤ r && decide (r ≤ 4) then ((s.ens.steer.look {} (r - 1)).credit : Rat) / (2 ^ 56 : Rat) else 0

/-- The predicted frequency of a member against the MTC at this update (R170): its estimate, what words and slews did to the MTC it is measured
against (R27), and the credited change of its correction. -/
def State.predictedY (s : State) (y : Rat) (r : Nat) : Rat := fAdd (fAdd y (fSub s.ens.ctrlAt s.tc.ctrl)) (s.ctrlCredit r)

/-- The phase innovation of a frequency member over 1 s (R154), ps; none before its frequency has an estimate (R158). -/
def State.rawInnovation (s : State) (r : Nat) : Option Rat :=
  if !(s.ra r).known then none else (s.freqMeas r).map fun m => fMul (fSub m (s.predictedY (s.ra r).yHat r)) 1000000000000

/-- The innovation tested: that of MOSC is formed against the weighted mean of the other frequency members selected at the previous
update, and is not tested without one (R154). -/
def State.innovation (s : State) (r : Nat) : Option Rat :=
  if r != 0 then s.rawInnovation r
  else
    let others := s.freqRefs.filterMap fun q =>
      if q = 0 || !(s.ra q).selected then none else (s.rawInnovation q).map fun z => ((s.ra q).hold, z)
    let w := fSum (others.map (·.1))
    if others.isEmpty then none
    else
      let mean := if w = 0 then fDiv (fSum (others.map (·.2))) (others.length : Rat) else fDiv (fSum (others.map fun p => fMul p.1 p.2)) w
      (s.rawInnovation 0).map fun z => fSub z mean

/-- The variance a member's innovation is normalised by (R154), ps^2. -/
def State.innovVar (s : State) (r : Nat) : Rat :=
  fAdd ((s.ra r).model.varAt 1) (match s.measOf r with | some m => (if isFreqRef r then fMul m.2 1000000000000000000000000 else m.2) | none => 0)

/-- The test of a frequency member (R154) with its innovation. -/
def State.testFreq (s : State) (r : Nat) (z : Rat) : State :=
  let v := s.innovVar r
  let le3 := withinSigma (rabs z) v 3
  s.onRa r fun a =>
    if !withinSigma (rabs z) v 5 then { a with stat := 4, held := true, goodRun := 0, rejected := true }
    else if a.held then
      (if le3 then (if 60 ≤ a.goodRun + 1 then { a with stat := 24, held := false, goodRun := 0 } else { a with stat := 4, goodRun := a.goodRun + 1 })
       else { a with stat := 4, goodRun := 0 })
    else { a with stat := if le3 then 24 else 16 }

/-- The measurement of a frequency member that is applied at this update (R154). -/
def State.freqApplied (s : State) (r : Nat) : Option Rat := if (s.ra r).rejected then none else s.freqMeas r

/-! ### Grades (R146, R149, R603) -/

/-- The target grade before the operator mode (R146). -/
def State.autoTarget (s : State) (r : Nat) : Nat :=
  let a := s.ra r
  min (min (s.ceilingOf r) (s.capsOf r)) (min (if s.isTimeNow r then a.cons else 24) a.stat)

/-- The new grade (R146, R603): down at once, up by at most 2, and not up without a measurement. -/
def nextGrade (g target : Nat) (delivers : Bool) : Nat :=
  if target ≤ g then target else if delivers then min target (g + 2) else g

/-- Every reference's grade and shadow grade (R146, R149). -/
def State.gradeAll (s : State) : State :=
  allRefs.foldl (fun t r =>
    if !s.validRef r then t.onRa r fun a => { a with grade := 0, shadow := 0 }
    else
      let auto := s.autoTarget r
      t.onRa r fun a => { a with
        shadow := auto
        grade := nextGrade a.grade (if a.exclude then 0 else auto) (s.measOf r).isSome
        jumpCap := a.jumpCap - 1 }) s

/-! ### Selection and slots (R156, R157) -/

/-- The lowest-graded of the selected NREFs; of equal grades the higher index. -/
def State.lowest (s : State) (l : List Nat) : Option Nat :=
  match l with
  | [] => none
  | a :: r => some (r.foldl (fun m q => if (s.ra m).grade < (s.ra q).grade then m else q) a)

/-- References in order of grade, and of equal grades in order of index (R156, R157). -/
def State.byGrade (s : State) (l : List Nat) : List Nat :=
  l.mergeSort fun a b => decide ((s.ra b).grade < (s.ra a).grade) || ((s.ra a).grade = (s.ra b).grade && decide (a ≤ b))

/-- At most four NREFs (R156): candidates fill free places and displace the lowest only with a grade at least 2 higher. -/
def State.pickNrefs (s : State) (kept cands : List Nat) : List Nat :=
  (s.byGrade cands).foldl (fun l c =>
    if l.length < 4 then l ++ [c]
    else match s.lowest l with
      | none => l
      | some m => if (s.ra m).grade + 2 ≤ (s.ra c).grade then (l.filter (· != m)) ++ [c] else l) kept

/-- The references selected at this update (R156). -/
def State.selection (s : State) : List Nat :=
  let acq := s.tc.acq.acqGrade
  let hold := s.tc.acq.holdGrade
  let stays := fun r => (s.ra r).selected && decide (hold ≤ (s.ra r).grade)
  let nrefs := allRefs.filter fun r => (nrefNo r).isSome
  let picked := s.pickNrefs (nrefs.filter stays) (nrefs.filter fun r => !stays r && decide (acq ≤ (s.ra r).grade))
  allRefs.filter fun r =>
    if r = 0 then true
    else if (nrefNo r).isSome then r ∈ picked
    else if s.isTimeNow r then stays r || decide (acq ≤ (s.ra r).grade)
    else decide (hold ≤ (s.ra r).grade) && s.validRef r

/-- The classes of R157 in order. -/
def State.slotOrder (s : State) (sel : List Nat) : List Nat :=
  let cls := fun (f : Nat → Bool) => s.byGrade (sel.filter f)
  cls (fun r => decide (1 ≤ r) && decide (r ≤ 4)) ++ cls (fun r => r = 15 || r = 16) ++ cls (fun r => (nrefNo r).isSome)
    ++ cls (fun r => decide (9 ≤ r) && decide (r ≤ 14) && s.isTimeNow r) ++ cls (fun r => decide (5 ≤ r) && decide (r ≤ 8))
    ++ cls (fun r => decide (9 ≤ r) && decide (r ≤ 12) && !s.isTimeNow r)

/-- Selection and member slots: slot 0 holds MOSC (R156, R157). -/
def State.assignSlots (s : State) : State :=
  let sel := s.selection
  let ord := (s.slotOrder sel).take 11
  allRefs.foldl (fun t r => t.onRa r fun a => { a with
    selected := r ∈ sel, slot := if r = 0 then some 0 else (ord.idxOf? r).map (· + 1) }) s

/-- The members in slot order, MOSC first (R157). -/
def State.memberRefs (s : State) : List Nat :=
  (List.range 12).filterMap fun k => allRefs.find? fun r => (s.ra r).slot = some k

/-- The selected time references. -/
def State.selTimes (s : State) : List Nat := allRefs.filter fun r => s.isTimeNow r && (s.ra r).selected

/-! ### Weights (R159, R174) -/

/-- The variance a weight is formed from: at least 1 ps^2 (R159). -/
def weightVar (u2 bigU : Rat) : Rat := max 1 (fAdd u2 (fMul bigU bigU))

/-- The selected time references, the members in slot order and after them those without a slot (R167). -/
def State.timesInOrder (s : State) : List Nat :=
  s.memberRefs.filter s.isTimeNow ++ s.selTimes.filter fun r => (s.ra r).slot.isNone

/-- The weights, U_ref and SRC of an update; kept where no selected time reference delivers (R159, R73). -/
def State.weigh (s : State) : State :=
  let l := s.timesInOrder.filterMap fun r => (s.measOf r).map fun m => (r, fDiv 1 (weightVar m.2 (s.staticU r)))
  match l with
  | [] => s
  | a :: rest =>
    let tot := fSum (l.map (·.2))
    let top := (rest.foldl (fun (m : Nat × Rat) q => if m.2 < q.2 then q else m) a).1
    let s1 := allRefs.foldl (fun t r => t.onRa r fun x => { x with
      weight := match l.find? (fun p => p.1 = r) with | some p => fDiv p.2 tot | none => 0 }) s
    s1.onEns fun e => { e with uRef := fSum (l.map fun p => fMul (fDiv p.2 tot) (s.staticU p.1)), srcClass := s.srcOf top, srcRef := top }

/-- The holdover weights over a list of frequency members at the horizon in force (R174). -/
def State.holdWeights (s : State) (l : List Nat) : List (Nat × Rat) :=
  let iv := l.map fun r => (r, fDiv 1 ((s.ra r).model.varAt (s.ens.horizonNow : Rat)))
  let tot := fSum (iv.map (·.2))
  iv.map fun p => (p.1, fDiv p.2 tot)

/-- The combined coefficients and the ensemble drift of weights (R174). -/
def State.combined (s : State) (w : List (Nat × Rat)) : NoiseModel × Rat :=
  let f := fun (g : NoiseModel → Rat) => fSum (w.map fun p => fMul (fMul p.2 p.2) (g (s.ra p.1).model))
  ({ qw := f (·.qw), qf := f (·.qf), qrw := f (·.qrw) }, fSum (w.map fun p => fMul p.2 (s.ra p.1).model.drift))

/-- The growth of the noise under the coefficients in force is kept up to `te` seconds after the last applied measurement, from where others
follow, so that the bound grows on without a jump (R79). -/
def EnsSt.keepNoise (e : EnsSt) (te : Rat) : EnsSt := { e with accum := e.accum + noiseGrowth e.comb e.accumAt te, accumAt := te }

/-- The weights, the combined coefficients and the drift are put in force; in HOLDOVER the drift stays as at entry (R174, R176). -/
def State.useWeights (s : State) (w : List (Nat × Rat)) (keep : Bool := false) : State :=
  let c := s.combined w
  let s1 := allRefs.foldl (fun t r => t.onRa r fun x => { x with
    hold := match w.find? (fun p => p.1 = r) with | some p => p.2 | none => 0 }) s
  s1.onEns fun e =>
    let e1 := if c.1 = e.comb then e else e.keepNoise s.sinceApplied
    { e1 with comb := c.1, drift := if keep then e.drift else c.2 }

/-- The conditions of R175 for the learned drift correction. -/
def State.driftApplies (s : State) : Bool :=
  s.ens.driftEnable && allRefs.all fun r => decide ((s.ra r).hold < 1 / 10) || decide (604800 ≤ (s.ra r).history)

/-! ### The ASSAY flag (R155) -/

/-- Weighted least-squares slope of (ns, offset, u^2) points in ps/s, with its variance, in binary64 in this order; times count from the first point.
DESIGN CHOICE (assumption 143): an offset delivered with u = 0, for which the inverse of u^2 is no number, counts with 1 ps^2 as in R159. -/
def slopeOf (l : List (Nat × Rat × Rat)) : Option (Rat × Rat) :=
  let w := fun (p : Nat × Rat × Rat) => fDiv 1 (if p.2.2 = 0 then 1 else p.2.2)
  let sw := fSum (l.map w)
  if sw = 0 then none
  else
    let t0 : Nat := match l with | p :: _ => p.1 | [] => 0
    let at_ := fun (p : Nat × Rat × Rat) => fDiv (((p.1 : Int) - (t0 : Int) : Int) : Rat) 1000000000
    let tm := fDiv (fSum (l.map fun p => fMul (w p) (at_ p))) sw
    let om := fDiv (fSum (l.map fun p => fMul (w p) p.2.1)) sw
    let den := fSum (l.map fun p => fMul (fMul (w p) (fSub (at_ p) tm)) (fSub (at_ p) tm))
    if den = 0 then none
    else some (fDiv (fSum (l.map fun p => fMul (fMul (w p) (fSub (at_ p) tm)) (fSub p.2.1 om))) den, fDiv 1 den)

/-- The frequency test of an antenna finds an excess (R155). -/
def State.assayFreq (s : State) (r : Nat) : Bool :=
  let l := (s.ra r).offsets
  if l.length < 30 || s.ens.rates.isEmpty then false
  else match slopeOf l with
    | none => false
    | some (b, v) =>
      let mean := fDiv (fSum (s.ens.rates.map (·.2))) (s.ens.rates.length : Rat)
      let c := s.ens.comb
      !withinSigma (rabs (fSub (-b) mean)) (fAdd v (fAdd (fAdd (fDiv c.qw 60) c.qf) (fDiv (fMul c.qrw 60) 3))) 5

/-- The flag may run: a Pendant of KIND 1, 2 or 3 is selected (R155). -/
def State.assayRuns (s : State) : Bool := (List.range 4).any fun n => (s.ra (refPend n)).selected && s.rowOf (refPend n) != 0

/-- The offset of an antenna at this update joins those of the last 60 s (R155), whether or not the flag may run. -/
def State.keepOffset (s : State) (k : Nat) : State :=
  match s.measOf (refGnss k) with
  | none => s
  | some m => s.onRa (refGnss k) fun a => { a with
      offsets := (a.offsets.filter fun p => decide (s.tc.lastLatch < p.1 + 60000000000)) ++ [(s.tc.lastLatch, m.1, m.2)] }

/-- The ASSAY flag of one antenna at an update (R155). -/
def State.assayFlag (s0 : State) (pred : Rat) (k : Nat) : State :=
  let s := s0.keepOffset k
  let r := refGnss k
  let setFlag := fun (b : Bool) (t : State) => t.onGnss fun g => { g with ants := g.ants.upd {} k fun x => { x with assay := b } }
  if !s.assayRuns then setFlag false (s.onRa r fun a => { a with cleanRun := 0 })
  else match s.measOf r with
    | none => s
    | some m =>
      let excess := s.assayFreq r
      let clean := !excess && (if s.tc.ts = .locked || s.tc.ts = .holdover
        then withinSigma (excessOf m.1 pred (s.staticU r)) (s.predVar m.2) 3 else (s.ra r).stat = 24)
      let raise := excess || decide (3 ≤ (s.ra r).fourRun)
      let run := if clean then (s.ra r).cleanRun + 1 else 0
      let s2 := s.onRa r fun a => { a with cleanRun := run }
      if raise then setFlag true s2 else if 60 ≤ run then setFlag false s2 else s2

/-- The prediction of the MTC offset that the tests use (R153). -/
def State.predictX (s : State) : Rat := Config.predict s.ens.post s.tc.mtc.freq (s.tc.ctrl * 1000000000000)

/-- Step 4 of the time path: voting, statistics, grades, selection, slots, the ASSAY flags (R145-R157). DESIGN CHOICE (assumption 143): MOSC's score
is 24 where it delivers a measurement that R154 does not test. -/
def State.assay (s : State) : State :=
  let pred := s.predictX
  let s1 := s.vote
  let s2 := allRefs.foldl (fun t r => if s.isTimeNow r && s.validRef r then t.testTime r pred else t) s1
  let s3 := s.freqRefs.foldl (fun t0 r =>
    let t := t0.onRa r fun a => { a with rejected := false }
    if s.validRef r then (match s.innovation r with
      | some z => t.testFreq r z
      | none => if r = 0 && !(s.ra r).held && (s.measOf r).isSome then t.onRa r fun a => { a with stat := 24 } else t) else t) s2
  let s4 := s3.gradeAll.assignSlots
  (s4.assayFlag pred 0).assayFlag pred 1

end Sys2Proof.Machine
end

