-- ==== Sys2Proof/Machine/Ens.lean ====
section
/-! DEFINITION. The ensemble (chapter 05): the latch, the update with its timing-state transition, steering, holdover, models, and the
commands of the group. -/

namespace Sys2Proof.Machine

/-! ### Commands -/

/-- `ens.set_member` (R147, R149). -/
def cmdEnsSetMember (_h : CmdHdr) (r ceiling mode : Nat) : CmdMeta × CmdBody :=
  ({ op := 0x1208, plen := 3, mirrored := true },
   { argOk := fun _ => refOk r && decide (mode ≤ 1) && decide (ceiling ≤ topCeiling r) && !(r = 0 && mode = 1)
     act := fun s => cmdOut ((s.onRa r fun a => { a with ceiling := some ceiling, exclude := mode = 1 }).store 0x12 (256 + r)) })

/-- bw of step n in uHz exceeds a value in uHz (R165): 10^(6 - n/2) > f, squared. -/
def stepWider (n f : Nat) : Bool := decide (f * f < 10 ^ (12 - n)) && decide (n ≤ 12)

/-- The first step narrower than a value in uHz (R166). -/
def firstNarrower (f : Nat) : Nat := ((List.range 13).find? fun n => decide (10 ^ (12 - n) < f * f)).getD 12

/-- The final bandwidth changes (R165, R166). -/
def EnsSt.setFinal (e : EnsSt) (f : Nat) : EnsSt :=
  if e.atFinal then
    if e.final ≤ f then { e with final := f }
    else
      let n := firstNarrower e.final
      if stepWider n f then { e with final := f, step := n, atFinal := false, dwell := 0 } else { e with final := f }
  else if stepWider e.step f then { e with final := f }
  else { e with final := f, atFinal := true }

/-- `ens.set_bandwidth` (R165, R166). -/
def cmdEnsSetBandwidth (_h : CmdHdr) (final : Nat) : CmdMeta × CmdBody :=
  ({ op := 0x1209, plen := 4, mirrored := true },
   { argOk := fun _ => decide (1 ≤ final) && decide (final ≤ 1000)
     act := fun s => cmdOut ((s.onEns fun e => e.setFinal final).store 0x12 7) })

/-- `ens.set_holdover` (R65, R174, R178). -/
def cmdEnsSetHoldover (_h : CmdHdr) (horizon ageLimit : Nat) : CmdMeta × CmdBody :=
  ({ op := 0x120A, plen := 8, mirrored := true },
   { argOk := fun _ => decide (1000 ≤ horizon) && decide (horizon ≤ 2592000) && (ageLimit = 0 || (decide (3600 ≤ ageLimit) && decide (ageLimit ≤ 31536000)))
     act := fun s => cmdOut ((s.onEns fun e => { e with horizon := horizon, ageLimit := ageLimit }).store 0x12 8) })

/-- `ens.set_drift` (R175). -/
def cmdEnsSetDrift (_h : CmdHdr) (enable : Nat) : CmdMeta × CmdBody :=
  ({ op := 0x120B, plen := 1, mirrored := true },
   { argOk := fun _ => decide (enable ≤ 1)
     act := fun s => cmdOut ((s.onEns fun e => { e with driftEnable := enable = 1 }).store 0x12 9) })

/-- Update of a Pendant's steering policy. -/
def State.onSteer (s : State) (n : Nat) (f : SteerCfg → SteerCfg) : State :=
  s.onEns fun e => { e with steer := e.steer.upd {} n f }

/-- `ens.set_steer` (R169). -/
def cmdEnsSetSteer (_h : CmdHdr) (pend policy tau interval : Nat) : CmdMeta × CmdBody :=
  ({ op := 0x120C, plen := 12, mirrored := true },
   { argOk := fun _ => decide (pend < 4) && decide (policy ≤ 1) && decide (3600 ≤ tau) && decide (tau ≤ 2592000)
       && decide (1 ≤ interval) && decide (interval ≤ 86400)
     check := fun s => judge [(policy = 1 && (s.pend pend).cfg.steer = 0, .conflict)]
     act := fun s => cmdOut ((s.onSteer pend fun c => { c with track := policy = 1, tau := tau, interval := interval, count := 0 }).store 0x12 (16 + pend)) })

/-- `ens.reset_model` (R163, R178). -/
def cmdEnsResetModel (_h : CmdHdr) (r : Nat) : CmdMeta × CmdBody :=
  ({ op := 0x120D, plen := 1, mirrored := true, action := true },
   { argOk := fun _ => refOk r
     check := fun s => judge [(s.tc.ts = .holdover, .state)]
     early := fun s => judge [(s.tc.ts = .holdover, .state)]
     act := fun s => cmdOut ((s.resetModel r).touch 0x12 (512 + r)) })

/-- A number as the 64 bits of a binary64. DESIGN CHOICE (assumption 145): the spec gives no layout for weights and models. -/
def double (q : Rat) : Nat × Int := fld 64 (doubleBits q)

/-- A value held in ps as seconds: powers of a second by powers of 10^12. -/
def inSeconds (q : Rat) (n : Nat) : Rat := q / (10 ^ (12 * n) : Nat)

/-- `ens.read_status`: grades, shadow grades, groups, slots (0xFF none, 0xFE SELECTED_NO_SLOT), weights and holdover weights (R149, R157, R174,
R178). -/
def cmdEnsReadStatus (_h : CmdHdr) : CmdMeta × CmdBody :=
  ({ op := 0x1241, xbOut := true },
   { argOk := fun _ => true
     act := fun s => cmdOut s [fld 8 s.tc.ts.code] (allRefs.flatMap fun r =>
       let a := s.ra r
       [fld 8 r, fld 8 a.grade, fld 8 a.shadow, fld 8 a.group,
        fld 8 (match a.slot with | some k => k | none => if a.selected then 0xFE else 0xFF), bit a.exclude, bit a.selected, rsv 22, double a.weight, double a.hold]) })

/-- A model as read: q_w in s, q_f, q_rw in 1/s, drift in 1/s and its variance in 1/s^2 (R160). -/
def modelRec (m : NoiseModel) : Rec :=
  [double (inSeconds m.qw 2), double (inSeconds m.qf 2), double (inSeconds m.qrw 2), double (inSeconds m.drift 1), double (inSeconds m.driftVar 2)]

/-- `ens.read_model`: model, drift and its variance in SI units, history in s (R160, R163, R178). -/
def cmdEnsReadModel (_h : CmdHdr) (r : Nat) : CmdMeta × CmdBody :=
  ({ op := 0x1242, plen := 1, xbOut := true },
   { argOk := fun _ => refOk r
     act := fun s =>
       let a := s.ra r
       cmdOut s [] (modelRec a.model ++ [fld 64 a.history]) })


/-! ### The latch (R85, R98, R99, R101, R170) -/

/-- The accepted samples whose path delay lies in the lowest quarter of the window's, and at least one (R98). -/
def lowestQuarter (l : List (Rat × Rat)) : List Rat :=
  ((l.mergeSort fun a b => decide (a.2 ≤ b.2)).take (max 1 (l.length / 4))).map (·.1)

/-- The mean of offsets. -/
def meanOf (l : List Rat) : Rat := l.sum / (l.length : Rat)

/-- The variance of their mean from their scatter (R98). -/
def scatterOf (l : List Rat) : Rat := (l.map fun x => (x - meanOf l) * (x - meanOf l)).sum / ((l.length : Rat) * (l.length : Rat))

/-- The rate fitted over the last 16 windows and its variance from their scatter (R98), fractional. -/
def rateOf (h : List (Nat × Rat × Rat)) : Option (Rat × Rat) :=
  (slopeOf h).map fun p => (p.1 / 1000000000000, p.2 / 1000000000000000000000000)

/-- A network reference's window ends at the latch (R98, R99, R101). DESIGN CHOICE (assumption 148): a window without any sample restarts the count of
consecutive windows of outliers alone, and one without accepted samples leaves the qualification run as it is. -/
def State.nrefWindow (s : State) (n : Nat) : State :=
  let r := refNref n
  let x := s.nrefIn n
  let st := (s.inp r).st
  if st = .off || st = .fault then s
  else if x.samples.isEmpty then
    if st = .valid && decide (0 < x.outliers) then
      if 8 ≤ x.outRun + 1 then (s.setIn r .held).onNref n fun y => { y with outliers := 0, outRun := 0 }
      else s.onNref n fun y => { y with outliers := 0, outRun := y.outRun + 1 }
    else s.onNref n fun y => { y with outliers := 0, outRun := 0 }
  else
    let q := lowestQuarter x.samples
    let o := meanOf q
    let h := (x.hist ++ [(s.topNs, o, scatterOf q)]).drop ((x.hist.length + 1) - 16)
    let jump : Option Rat := if x.returning then some (o - (x.offset + x.rate * (((s.topNs : Int) - (x.at_ : Int) : Int) : Rat) * 1000)) else x.jump
    let s1 := s.onNref n fun y => { y with
      samples := [], outliers := 0, outRun := 0, hist := h, offset := o, rate := ((rateOf h).map (·.1)).getD 0, at_ := s.topNs, returning := false, jump := jump }
    let s2 := if x.returning then
        let j := jump.getD 0
        let t := s1.log 0x1082 0 r
        if (x.cfg.accept : Rat) * 1000 < rabs j then t.onRa r fun a => { a with jumpCap := 300 } else t
      else s1
    let s3 := s2.goodIn r 16
    s3.onIn r fun y => { y with meas := if y.st = .valid then some o else none, var := scatterOf q, freq := if y.st = .valid then rateOf h else none }

/-- What a network reference is known by at the latch (R85, R103): the last Hallmark that verified, while it is no more than 1.1 s old. -/
def State.latchNref (s : State) (n : Nat) : State :=
  let h := match (s.nrefIn n).hall with
    | some r => if s.recAge r * 10 ≤ 11 * unitsPerSec then some r else none
    | none => none
  s.onNref n fun x => { x with chain := h.map (·.chain), bound := h.map (·.bound), heldNow := false }

/-- Every reference's state and measurement at the latch, and which PPS inputs have a time-of-day source (R85, R90). -/
def State.latchAll (s : State) : State :=
  let s1 := allRefs.foldl (fun t r => t.onIn r fun x => { x with
    latched := x.st, latchedMeas := x.meas, latchedVar := x.var, latchedFreq := x.freq, meas := none, freq := none }) s
  let s2 := (List.range 4).foldl (fun t n => t.onPps n fun p => { p with tod := s.ppsHasTod n }) s1
  (List.range 16).foldl State.latchNref s2

/-- The applied corrections of Pendants credited from this latch (R170). -/
def State.creditAll (s : State) : State :=
  (List.range 4).foldl (fun t n => t.onSteer n fun c => { c with credit := (s.pend n).applied - c.credited, credited := (s.pend n).applied }) s

/-- The latch's instant, and the counter's rate against the time clock since the latch before: what words and slews have added, which the
measurements against the MTC show with the opposite sign (R27, R154). -/
def TcSt.latchRate (top : Nat) (c : TcSt) : TcSt :=
  let a : Int := 5 * ((c.mtc.units : Int) - c.mtc.steps) - 8388608 * (c.mtc.cyc : Int)
  { c with
    lastLatch := top, adv := a, advCyc := c.mtc.cyc
    ctrl := if c.mtc.cyc ≤ c.advCyc then c.ctrl else ((a - c.adv : Int) : Rat) / (8388608 * ((c.mtc.cyc - c.advCyc : Nat) : Rat)) }

/-- What this unit sends its partner of a second (R425): its PAIR_PPS measurement, and its measurements of the references that are VALID here. -/
def State.ownMessage (s : State) : PairMeas :=
  { dPartner := s.clasp.dOwn, refs := allRefs.filterMap fun r => (s.ownMeas r).map fun m => (r, m) }

/-- The measurements of the second are sent over the lanes (R425). -/
def State.sendMeas (s : State) : State := if s.exchanges then s.onClasp fun c => { c with sent := some s.ownMessage } else s

/-- The ensemble latch of the second whose top it is, taken in that second (R85; assumption 168). -/
def onEnsembleLatch (sec : Nat) (s : State) : State :=
  if s.sec != sec then s else
  let s1 := ((List.range 16).foldl State.nrefWindow s).latchAll.creditAll
  (((s1.onEns fun e => { e with latched := true, moscMeas := (s.inp 0).meas }).onTc fun c => c.latchRate s.topNs).onClasp
    fun c => { c with roleAtLatch := c.role, gotMeas := false, partnerRefs := [], unpaired := false }).sendMeas

/-! ### The timing state (R65, R66) -/

/-- SRC and CHAIN in FREE_RUN and LOST (R73, R74). -/
def State.stampFree (s : State) : State :=
  if s.tc.ts = .lost then (s.onHall fun h => { h with src := 7, chain := Config.lostChain s.free % 2 ^ 32 }).nextFree
  else s.onHall fun h => { h with src := 7, chain := 0 }

/-- A timing state is entered, with its event and fresh records, which carry SRC 7 at once where nothing is steered to (R73); LOST squelches (R30, R65, R76, R525). -/
def State.setTiming (s : State) (t : TimingState) : State :=
  if s.tc.ts = t then s
  else
    let s1 := s.onTc fun c => { c with ts := t, lockRun := 0, freeRun := 0, relockRun := 0, agreeRun := 0 }
    let s0 := if t = .lost || t = .freeRun then s1.stampFree else s1
    let s2 := (s0.raiseAll 0x1201 [fld 8 s.tc.ts.code, fld 8 t.code]).hallDueAll
    if t = .lost then s2.squelchStart else s2.followPins

/-- A time reference at or above the acquisition grade is selected (R65). -/
def State.acqSelected (s : State) : Bool := s.selTimes.any fun r => decide (s.tc.acq.acqGrade ≤ (s.ra r).grade)

/-- A selected time reference is at or above the hold grade (R65). -/
def State.holdSelected (s : State) : Bool := s.selTimes.any fun r => decide (s.tc.acq.holdGrade ≤ (s.ra r).grade)

/-- A reference's offset lies within a bound in ps. -/
def State.within (s : State) (r bound : Nat) : Bool :=
  match s.measOf r with
  | some m => decide (rabs m.1 ≤ (bound : Rat))
  | none => false

/-- The relock condition holds at this update (R65). -/
def State.relockNow (s : State) : Bool :=
  !s.tc.force && allRefs.any fun r => s.isTimeNow r && s.validRef r && decide (s.tc.acq.acqGrade ≤ (s.ra r).grade) && s.within r s.deviceBound

/-- Two or more independent time references agree and lie outside the device-point bound (R65, R151). -/
def State.disagreeNow (s : State) : Bool :=
  let v := s.voters.filter fun r => !s.within r s.deviceBound
  !s.tc.force && v.any fun i => v.any fun j => s.groupOf i != s.groupOf j && s.agrees i j

/-- MOSC has been good for 1 s (R65). -/
def State.moscGood1s (s : State) : Bool := s.pwr.moscGood && !s.pwr.moscLost && decide (s.tc.moscGoodAt + 1000000000 ≤ s.upNs)

/-- The counts of consecutive updates that the triggers of R65 use, before the filter. DESIGN CHOICE (assumption 142): an update counts
whichever references meet the condition at it; R65 does not say that they are the same ones throughout. -/
def State.countTriggers (s : State) : State :=
  match s.tc.ts with
  | .acquiring => s.onTc fun c => { c with freeRun := if s.holdSelected then 0 else c.freeRun + 1 }
  | .holdover =>
    let a := s.relockNow
    let b := s.disagreeNow
    s.onTc fun c => { c with relockRun := if a then c.relockRun + 1 else 0, agreeRun := if b then c.agreeRun + 1 else 0 }
  | .freeRun => s
  | .locked => s
  | .lost => s

/-- The transition of this update that does not need the filter's result (R65, R66); that to LOCKED from ACQUIRING does. -/
def State.transition (s : State) : Option TimingState :=
  match s.tc.ts with
  | .freeRun => if s.acqSelected then some .acquiring else none
  | .acquiring => none
  | .locked => if s.tc.force || !s.holdSelected then some .holdover else none
  | .holdover =>
    if 16 ≤ s.tc.relockRun then some .locked
    else if 60 ≤ s.tc.agreeRun then some .acquiring
    else if s.tc.acq.holdLimit < s.deviceBound || (s.ens.ageLimit != 0 && decide (s.ens.ageLimit < s.holdAge)) then some .lost
    else none
  | .lost =>
    if s.moscGood1s && s.acqSelected then some .acquiring
    else if s.tc.releaseReq then some .freeRun
    else if s.moscGood1s && s.tc.lostByMosc then some .freeRun
    else none

/-! ### The filter (R158, R170, R174, R602) -/

/-- The frequency members in slot order. -/
def State.freqMembers (s : State) : List Nat := s.memberRefs.filter fun r => !s.isTimeNow r

/-- A member that joins: phase and frequency from its measurement, covariances from its model over 1 s (R158). DEDUCED (assumption 144): the phase of a
member that delivers a frequency counts from the edge it joins with. -/
def State.joiner (s : State) (r : Nat) : MemberEst :=
  let m := (s.ra r).model
  { x := if isFreqRef r then 0 else ((s.measOf r).map (·.1)).getD 0
    y := (s.freqApplied r).getD (s.ra r).yHat
    d := m.drift, px := m.varAt 1, py := m.varAt 1, pd := m.driftVar }

/-- A member's estimate as predicted for this update: carried on over 1 s with its credited change, or that of a joiner (R158, R170). -/
def State.memberPrior (s : State) (r : Nat) : MemberEst :=
  match s.ens.post.members.find? fun q => q.1 = r with
  | some q =>
    let e := q.2
    let y := s.predictedY e.y r
    { e with x := fAdd e.x (fMul y 1000000000000), y := y, moved := fAdd e.moved (s.ctrlCredit r) }
  | none => s.joiner r

/-- What the filter works on; `apply` where the timing state applies time-reference measurements (R602). -/
def State.filterIn (s : State) (apply : Bool) : FilterIn :=
  { prior := { s.ens.post with x := s.predictX }
    start := !s.ens.hasEstimate
    times := if apply then (s.memberRefs.filter s.isTimeNow).filterMap fun r => (s.measOf r).map fun m => (r, m.1, m.2) else []
    rates := if apply then (s.memberRefs.filter s.isTimeNow).filterMap fun r => (s.ownRate r).map fun m => (r, m.1, m.2) else []
    members := s.freqMembers.map fun r =>
      { ref := r, pred := s.memberPrior r, meas := s.freqApplied r, var := s.innovVar r, model := (s.ra r).model }
    weights := s.freqMembers.map fun r => (r, (s.ra r).hold)
    freq := s.tc.mtc.freq
    slewed := s.tc.ctrl * 1000000000000 }

/-- The clock ensemble's rate against the MTC: the weighted mean of the members' with the holdover weights (R174), ps/s. -/
def State.ensembleRate (s : State) (p : Posterior) : Rat :=
  fMul (fSum (s.freqMembers.map fun r => fMul (s.ra r).hold (p.members.look {} r).y)) 1000000000000

/-- The clock-ensemble correction: the word by which the MTC runs at the clock ensemble's rate (R164, R173). Against the time clock that rate is the
weighted mean of the members' rates against the MTC and the MTC's own; steering credited to a Pendant is left out, so that it does not
move it (R170). With MOSC alone it does not change (R173). -/
def State.clockCorrection (s : State) (p : Posterior) : Rat :=
  if s.freqMembers = [0] then s.ens.ye
  else fSum (s.freqMembers.map fun r =>
    let e := p.members.look {} r
    fMul (s.ra r).hold (fAdd (fSub e.y e.moved) s.tc.ctrl))

/-- The filter's result as R158 and R170 bound it: without a time measurement the estimate of the MTC is the prediction alone, whatever members came
or went; a member that has just joined holds what it joined with; steering credited stays with the member. -/
def State.posterior (s : State) (i : FilterIn) : Posterior :=
  let p := Config.filter i
  { p with
    x := if i.times.isEmpty then i.prior.x else fl p.x
    members := i.members.map fun m =>
      (m.ref, if s.ens.post.members.any (fun q => q.1 = m.ref) then { p.members.look m.pred m.ref with moved := m.pred.moved } else m.pred) }

/-- The member a frequency reference's estimate comes from after the filter: the filter's for members; a reference that is no member
would join with its measurement (R158), which is not learned where it is rejected (R154). -/
def State.learnRates (s : State) (p : Posterior) : State :=
  let mem := s.freqMembers
  allRefs.foldl (fun t r =>
    let a := s.ra r
    if r ∈ mem then
      let e := p.members.look {} r
      t.onRa r fun x => { x with
        yHat := e.y
        known := s.validRef r && (x.known || (s.freqApplied r).isSome)
        model := { x.model with drift := e.d, driftVar := e.pd }
        prevPhase := (s.measOf r).map (·.1)
        series := match s.freqApplied r with
          | some m => if s.tc.ts = .locked then x.series ++ [fSub (fMul m 1000000000000) (s.ensembleRate p)] else x.series
          | none => x.series
        history := if s.tc.ts = .locked then x.history + 1 else x.history
        lastMember := s.tc.lastLatch }
    else
      let t1 := t.onRa r fun x => { x with
        yHat := if s.isTimeNow r then x.yHat else (s.freqApplied r).getD x.yHat
        known := !s.isTimeNow r && s.validRef r && (x.known || (s.freqApplied r).isSome)
        prevPhase := (s.measOf r).map (·.1) }
      if decide (a.lastMember + 2592000000000000 < s.tc.lastLatch) then t1.resetModel r else t1) s

/-- The filter runs (R145): the posterior, and the covariances of R79 where a measurement was applied. -/
def State.runFilter (s : State) (apply : Bool) : State :=
  let i := s.filterIn apply
  let p := s.posterior i
  let s1 := s.onEns fun e => { e with post := p, ye := s.clockCorrection p }
  let s2 := if i.times.isEmpty then s1
    else s1.onEns fun e => { e with applied := p, hasEstimate := true, lastApplied := s.tc.lastLatch, accum := 0, accumAt := 0 }
  let s3 := s2.learnRates p
  s3.onEns fun e => { e with
    ctrlAt := s.tc.ctrl
    rates := (e.rates.filter fun q => decide (s.tc.lastLatch < q.1 + 60000000000)) ++
      [(s.tc.lastLatch, s.ensembleRate p)] }

/-- The ensemble drift from the filter's estimates of the update; in HOLDOVER it stays as at entry (R173, R174). -/
def State.freshDrift (s : State) (kept : Bool) : State :=
  if kept then s
  else s.onEns fun e => { e with drift := fSum (s.freqMembers.map fun r => fMul (s.ra r).hold (s.ra r).model.drift) }

/-! ### Weights by state (R159, R172, R174, R176) -/

/-- The holdover weights computed at entry to HOLDOVER, at the horizon set last: a member deselected or rejected in this update is left
out (R172, R176, R178). -/
def State.entryWeights (s : State) : State :=
  let s1 := s.onEns fun e => { e with horizonNow := e.horizon }
  let l := s1.freqMembers.filter fun r => !(s1.ra r).rejected
  s1.useWeights (s1.holdWeights (if l.isEmpty then [0] else l))

/-- In HOLDOVER a member that is deselected or rejected leaves the weights, and the noise so far is kept (R79, R176). -/
def State.holdMembers (s : State) : State :=
  let now := s.freqMembers.filter fun r => decide (0 < (s.ra r).hold) && (s.ra r).selected && !(s.ra r).rejected
  if allRefs.all fun r => decide ((s.ra r).hold = 0) || decide (r ∈ now) then s
  else s.useWeights (s.holdWeights (if now.isEmpty then [0] else now)) true

/-- The weights of an update: kept in HOLDOVER, computed in every other state (R159, R174). -/
def State.weights (s : State) : State :=
  if s.tc.ts = .holdover then s.holdMembers
  else
    let s1 := s.onEns fun e => { e with horizonNow := e.horizon }
    let s2 := (s1.weigh).useWeights (s1.holdWeights s1.freqMembers)
    s2.onEns fun e => { e with driftOn := s2.driftApplies }

/-! ### Steering (R164-R166, R173, R177) -/

/-- bw of a step in Hz: 10^(-n/2) (R165), the binary64 nearest to it. -/
def stepBw (n : Nat) : Rat := fSqrt (1 / ((10 ^ n : Nat) : Rat))

/-- The dwell of a step in updates (R165). -/
def stepDwell (n : Nat) : Nat := [3, 10, 30, 95, 300, 949, 3000, 9487, 30000, 94869, 300000, 948684].getD n 0

/-- The bandwidth in force, Hz (R165). -/
def EnsSt.bandwidth (e : EnsSt) : Rat := if e.atFinal then fDiv (e.final : Rat) 1000000 else stepBw e.step

/-- 2 pi in binary64. -/
def twoPi : Rat := fMul 2 (fl (314159265358979323846264338327950288 / 100000000000000000000000000000000000))

/-- One more update in LOCKED towards the dwell (R165). -/
def EnsSt.dwellOne (e : EnsSt) : EnsSt :=
  if e.atFinal then e
  else if e.dwell + 1 < stepDwell e.step then { e with dwell := e.dwell + 1 }
  else if stepWider (e.step + 1) e.final && decide (e.step < 12) then { e with step := e.step + 1, dwell := 0 }
  else { e with atFinal := true, dwell := 0 }

/-- The pair trim as a frequency word (R428): delta at 2 ns/s. -/
def State.trimWord (s : State) : Int :=
  if s.exchanges && !s.clasp.role then
    let d := s.clasp.trim
    roundHalf ((if 0 ≤ d then min d 2000 else max d (-2000)) / 1000000000000 * (2 ^ 56 : Rat))
  else 0

/-- A steady frequency word is written (R53, R164): clamped to 48 bits, counted and logged where it is outside. -/
def State.writeWord (s : State) (y : Rat) : State :=
  let w := roundHalf (y * (2 ^ 56 : Rat))
  let f := w + s.trimWord
  let g := clampInt f (-(2 ^ 47)) (2 ^ 47 - 1)
  let s1 := (s.onTc fun c => { c with mtc := { c.mtc with freq := g } }).onEns fun e => { e with word := w }
  let s2 := if g = f then s1 else (s1.onEns fun e => { e with clamps := e.clamps + 1 }).log 0x1281 1 0
  s2.pushHist

/-- A phase correction of c ps is slewed, replacing what remains (R68). -/
def State.slewBy (s : State) (c : Rat) : State :=
  (s.onTc fun t => { t with mtc := t.mtc.correct (residueOfPs c) t.slewRate }).pushHist

/-- The steering of an update in ACQUIRING or LOCKED (R164). -/
def State.steerTime (s : State) : State :=
  let a := min 1 (fMul twoPi s.ens.bandwidth)
  let g := fDiv (fMul a a) 4
  let x := s.ens.post.x
  let s1 := s.onEns fun e => { e with ys := fSub e.ys (fDiv (fMul g x) 1000000000000) }
  let s2 := if s1.tc.initPending then s1 else s1.slewBy (-(fMul a x))
  let s3 := s2.writeWord (fAdd s2.ens.ye s2.ens.ys)
  if s3.tc.ts = .locked then s3.onEns EnsSt.dwellOne else s3

/-- The initial set on entry to ACQUIRING (R67). -/
def State.initialSet (s : State) : State :=
  let x := s.ens.post.x
  if rabs x ≤ (s.tc.acq.stepThreshold : Rat) * 1000 then s.onTc fun c => { c with initPending := false, initDone := true }
  else
    let off := roundHalf (x * 1048576 / 1000)
    let s1 := s.onTc fun c => { c with initPending := true, initDone := false, initOffset := off }
    if s.tc.acq.autoSet then
      if s.tc.step.isSome then s1
      else s1.onTc fun c => { c with step := some { sec := 0, ns := 0, frac := -off, due := s.topAfter 2000000 } }
    else s1.raise0 0x1202 [(64, off)]

/-- Entry to ACQUIRING (R67, R166, R177): the schedule restarts; from FREE_RUN and LOST the word in force is carried over. -/
def State.enterAcquiring (s : State) (fromHold : Bool) : State :=
  let s1 := s.onEns fun e => { e with
    step := 0, atFinal := false, dwell := 0
    ys := if fromHold then fAdd e.ysHold e.yd else fSub ((s.tc.mtc.freq : Rat) / (2 ^ 56 : Rat)) e.ye }
  s1.initialSet.steerTime

/-- The models, drifts and histories are written to MRAM (R163). -/
def State.saveModels (s : State) : State :=
  (s.onEns fun e => { e with
    saved := allRefs.map fun r =>
      let a := e.refs.look {} r
      (r, { model := a.model, row := a.row, history := a.history, on := (s.inp r).st != .off, cfg := s.refCfg r })
    saveAge := 0 }).store 0x12 1024 (some (.models s.ens.saved))

/-- Entry to HOLDOVER (R172, R175). -/
def State.enterHoldover (s : State) : State :=
  (s.onEns fun e => { e with
    ysHold := e.ys, yd := 0, driftOn := s.driftApplies, dHat := fDiv e.drift 1000000000000, holdEntry := s.tc.lastLatch }).saveModels

/-- An update in HOLDOVER (R173). -/
def State.steerHold (s : State) : State :=
  let te : Rat := (((s.tc.lastLatch : Int) - (s.ens.holdEntry : Int) : Int) : Rat) / 1000000000
  let yd := if s.ens.driftOn then -(fMul s.ens.dHat te) else 0
  let s1 := s.onEns fun e => { e with yd := yd }
  s1.writeWord (fAdd (fAdd s1.ens.ye s1.ens.ysHold) yd)

/-- Pendant steering at an update in LOCKED (R169). -/
def State.steerPendant (s : State) (n : Nat) : State :=
  let c := s.ens.steer.look {} n
  if !c.track then s
  else if c.count + 1 < c.interval then s.onSteer n fun x => { x with count := x.count + 1 }
  else
    let p := s.pend n
    let s1 := s.onSteer n fun x => { x with count := 0 }
    let y := fAdd (s.ra (refPend n)).yHat s.ens.post.y
    let applied : Rat := (p.applied : Rat) / (2 ^ 56 : Rat)
    let req := fSub applied (fMul y (min 1 (fDiv (c.interval : Rat) (c.tau : Rat))))
    let lsb : Rat := if p.cfg.steer = 1 then rabs (p.cfg.g : Rat) / 1000000000000000000 else 1 / (2 ^ 56 : Rat)
    if lsb ≤ rabs (req - applied) then s1.steerPend n (roundHalf (req * (2 ^ 56 : Rat))) else s1

/-- SRC and CHAIN after an update (R73, R74). DESIGN CHOICE (assumption 142): a selected time reference that holds no member slot has no part in
CHAIN, whose identities R74 puts in order of member. -/
def State.stampChain (s : State) : State :=
  match s.tc.ts with
  | .freeRun => s.stampFree
  | .lost => s.stampFree
  | .holdover =>
    s.onHall fun h => { h with src := if (List.range 4).any fun n => decide (0 < (s.ra (refPend n)).hold) then 5 else 6 }
  | .acquiring => s.onHall fun h => { h with src := s.ens.srcClass, chain := chainOf ((s.memberRefs.filter s.isTimeNow).map s.identity) }
  | .locked => s.onHall fun h => { h with src := s.ens.srcClass, chain := chainOf ((s.memberRefs.filter s.isTimeNow).map s.identity) }

/-- The pair measurement set of the update (R426). -/
def State.pairSet (s : State) : List (Nat × Rat × Rat) := allRefs.filterMap fun r => (s.measOf r).map fun m => (r, m)

/-- The first 16 bytes of SHA-256 over bytes, as a number (R429). -/
def digest16 (bs : List Nat) : Nat := sha256 bs / 2 ^ 128

/-- The digests of an update in a pair (R429). -/
def State.digests (s : State) : State :=
  if s.exchanges then
    let set := Config.setBytes s.pairSet
    s.onClasp fun c => { c with
      ownSet := digest16 set, ownState := digest16 (set ++ Config.outputBytes s.ensImage), unpaired := !c.gotMeas }
  else s

/-- The measurements of the second are used up, and the update is over. -/
def State.endUpdate (s : State) : State :=
  let s1 := allRefs.foldl (fun t r => t.onIn r fun x => { x with meas := none, latchedMeas := none, freq := none, latchedFreq := none }) s
  s1.onEns fun e => { e with latched := false, updates := e.updates + 1, learnAge := e.learnAge + b01 (s.tc.ts = .locked), saveAge := e.saveAge + 1, devBound := s.deviceBound }

/-- What an update does in the state it leaves the Time Core in, for a state it has entered or kept. DESIGN CHOICE (assumption 142): a slew in
progress on entry to FREE_RUN or LOST runs to its end, as R68 says of HOLDOVER. -/
def State.conduct (s : State) (old : TimingState) : State :=
  match s.tc.ts with
  | .freeRun =>
    if old = .freeRun then s
    else ((s.onTc fun c => { c with mtc := { c.mtc with freq := c.moscCal } }).onEns fun e => { e with word := s.tc.moscCal }).pushHist
  | .acquiring =>
    if old = .acquiring then s.steerTime
    else s.enterAcquiring (old = .holdover)
  | .locked =>
    if old = .holdover then
      let s1 := s.onEns fun e => { e with ys := fAdd e.ysHold e.yd, dwell := 0 }
      (s1.slewBy (-s1.ens.post.x)).onEns EnsSt.dwellOne
    else s.steerTime
  | .holdover => (if old = .holdover then s else s.enterHoldover).steerHold
  | .lost => s

/-- The trigger of ACQUIRING to LOCKED, counted after the filter, and that to FREE_RUN (R65). -/
def State.acquireEnd (s : State) : State :=
  let ok := s.tc.initDone && decide (rabs s.ens.post.x ≤ (s.tc.acq.lockOffset : Rat) * 1000) && decide (rabs s.ens.post.y ≤ 1 / 10000000000)
  let run := if ok then s.tc.lockRun + 1 else 0
  let s1 := s.onTc fun c => { c with lockRun := run }
  if 16 ≤ run then s1.setTiming .locked else if 10 ≤ s1.tc.freeRun then s1.setTiming .freeRun else s1

/-- The ensemble update (R145): Assay, at most one timing-state transition, the filter, steering. -/
def onEnsembleUpdate (s : State) : State :=
  if !s.ens.latched || !s.tc.mtc.running then s
  else
    let old := s.tc.ts
    let s := s.sendMeas
    let s1 := ((List.range 4).foldl (fun t n => t.followRow (refPend n)) s).assay.countTriggers
    let s2 := match s1.transition with
      | some t => s1.setTiming t
      | none => s1
    let s3 := (s2.onTc fun c => { c with releaseReq := false, lostByMosc := c.lostByMosc && c.ts = .lost })
    let s4 := if s3.tc.ts = .holdover && old != .holdover then s3.entryWeights else s3.weights
    let s5 := (s4.runFilter (s4.tc.ts = .acquiring || s4.tc.ts = .locked)).freshDrift (s4.tc.ts = .holdover && old = .holdover)
    let s6 : State := if old = .acquiring then s5.acquireEnd else s5
    let s7 : State := s6.conduct old
    let s8 : State := if s7.tc.ts = TimingState.locked then (List.range 4).foldl State.steerPendant s7 else s7
    s8.stampChain.digests.endUpdate

/-! ### Models (R162, R163) -/

/-- The value adopted for a coefficient (R162): at least a tenth of the kind default; down by at most a factor of 2. -/
def adopt (old fit dflt : Rat) : Rat :=
  let v := max fit (dflt / 10)
  if old ≤ v then v else max v (old / 2)

/-- The means of consecutive blocks of n rates. -/
def blockMeans (n : Nat) (l : List Rat) : List Rat :=
  (List.range (l.length / n)).map fun k => fDiv (fSum ((l.drop (k * n)).take n)) (n : Rat)

/-- Second differences of a list. -/
def secondDiffs : List Rat → List Rat
  | a :: b :: c :: r => fAdd (fSub c (fMul 2 b)) a :: secondDiffs (b :: c :: r)
  | [] => []
  | [_] => []
  | [_, _] => []

/-- The Hadamard variance at tau = n s of a series of rates at updates, with its count of samples: a sixth of the mean square of the second differences
of the means over n s. -/
def hadamard (n : Nat) (l : List Rat) : Option (Nat × Rat × Nat) :=
  match secondDiffs (blockMeans n l) with
  | [] => none
  | d => some (n, fDiv (fSum (d.map fun x => fMul x x)) (6 * (d.length : Rat)), d.length)

/-- The Hadamard variances a re-estimate fits to (R162): at 1, 10, 100 and 1,000 s, and at 10,000 and 100,000 s once 16 blocks of that length are
there. DESIGN CHOICE (assumption 145): the samples of R162 are the blocks. -/
def learnPoints (l : List Rat) : List (Nat × Rat × Nat) :=
  ([1, 10, 100, 1000].filterMap fun n => hadamard n l) ++
    (([10000, 100000].filter fun n => decide (16 * n ≤ l.length)).filterMap fun n => hadamard n l)

/-- The model re-estimated from a member's series (R162); without a variance there is nothing to fit. -/
def RefAssay.learn (a : RefAssay) : RefAssay :=
  match learnPoints a.series with
  | [] => a
  | p =>
    let f := Config.fitUpper p
    let d := defaultModel a.row
    { a with model := { a.model with
        qw := adopt a.model.qw f.1 d.qw, qf := adopt a.model.qf f.2.1 d.qf, qrw := adopt a.model.qrw f.2.2 d.qrw } }

/-- Model learning in LOCKED, every 3,600 s, in the second it is due in (R162; assumption 168). -/
def onModelLearning (sec : Nat) (s : State) : State :=
  if s.sec != sec || s.tc.ts != .locked || decide (s.ens.learnAge < 3600) then s
  else (s.freqMembers.foldl (fun t r => t.onRa r RefAssay.learn) s).onEns fun e => { e with learnAge := 0 }

/-- The models are saved every 3,600 s (R163). -/
def onModelSave (s : State) : State := if s.ens.saveAge < 3600 then s else s.saveModels

/-- ENSEMBLE_LATCH (R85). -/
def execEnsembleLatch (sec : Nat) (s : State) : Host.Outcome State Fault Refusal :=
  .next (if s.alive then onEnsembleLatch sec s else s)

/-- ENSEMBLE_UPDATE (R145). -/
def execEnsembleUpdate (s : State) : Host.Outcome State Fault Refusal :=
  .next (if s.alive then onEnsembleUpdate s else s)

/-- MODEL_LEARNING (R162). -/
def execModelLearning (sec : Nat) (s : State) : Host.Outcome State Fault Refusal :=
  .next (if s.alive then onModelLearning sec s else s)

/-- MODEL_SAVE (R163). -/
def execModelSave (s : State) : Host.Outcome State Fault Refusal :=
  .next (if s.alive then onModelSave s else s)


/-- A Pendant whose steering mode is set to NONE gets policy OFF (R606). -/
def State.steerOff (s : State) (n : Nat) : State := s.onSteer n fun c => { c with track := false }

end Sys2Proof.Machine
end

