-- ==== Sys2Proof/Machine/Gnss.lean ====
section
/-! DEFINITION. The GNSS baseband (chapter 04): streams, channels, epochs, solutions and spoofing states. -/

namespace Sys2Proof.Machine

/-! ### Streams, channels, antennas -/

/-- A stream, a channel, an antenna. -/
def State.strm (s : State) (n : Nat) : GnssStream := s.gnss.streams.look {} n
def State.onStrm (s : State) (n : Nat) (f : GnssStream → GnssStream) : State := s.onGnss fun g => { g with streams := g.streams.upd {} n f }
def State.gch (s : State) (c : Nat) : GnssChan := s.gnss.chans.look {} c
def State.onGch (s : State) (c : Nat) (f : GnssChan → GnssChan) : State := s.onGnss fun g => { g with chans := g.chans.upd {} c f }
def State.ant (s : State) (a : Nat) : Antenna := s.gnss.ants.look {} a
def State.onAnt (s : State) (a : Nat) (f : Antenna → Antenna) : State := s.onGnss fun g => { g with ants := g.ants.upd {} a f }

/-- A signal of the L5 band (R117). -/
def sigL5 (sig : Nat) : Bool := sig ∈ [2, 4, 6, 9]

/-- The stream a channel takes its samples from. -/
def GnssChan.stream (c : GnssChan) : Nat := c.ant * 2 + b01 (sigL5 c.sig)

/-- The signal of a system in a band, by the L1C choices (R117). -/
def sigOf (sys l1c : Nat) (l5 : Bool) : Nat :=
  if sys = 0 then (if l5 then 2 else b01 (nbit l1c 0))
  else if sys = 1 then (if l5 then 4 else 3)
  else if sys = 2 then (if l5 then 6 else 5)
  else (if l5 then 9 else if nbit l1c 1 then 8 else 7)

/-- Every channel of a stream that leaves UP goes to IDLE at once (R116, R119). -/
def State.idleChannels (s : State) (stream : Nat) : State :=
  s.onGnss fun g => { g with chans := g.chans.mapAll fun _ c => if c.stream = stream then {} else c }

/-- A stream enters a state. -/
def State.setStream (s : State) (n : Nat) (st : StreamState) : State :=
  let s1 := s.onStrm n fun x => { x with st := st }
  if st = .up then s1 else s1.idleChannels n

/-- A configuration of a GNSS reference: it enters QUALIFYING, or ABSENT from OFF, and counts missing solutions afresh (R87, R113, R127, R134). -/
def State.configureGnss (s : State) (a : Nat) : State := (s.configureIn (refGnss a)).onAnt a fun v => { v with missing := 0 }

/-- Both streams of an antenna are out of UP: the loss condition of its reference (R134). -/
def State.antDark (s : State) (a : Nat) : Bool := (s.strm (2 * a)).st != .up && (s.strm (2 * a + 1)).st != .up

/-- f_1^2 and f_5^2 in units of (10.23 MHz)^2, and their difference (R128). -/
def alpha : Rat := 23716 / 10491
def beta : Rat := 13225 / 10491

/-- An antenna has the POWER flag while either of its streams has it (R139). -/
def State.antPower (s : State) (a : Nat) : Bool := (s.strm (2 * a)).flag || (s.strm (2 * a + 1)).flag

/-! ### Commands -/

/-- |IF| + B/2 is at most 0.4 f_s (R113); FS in kHz. -/
def bandFits (a : StreamArgs) : Bool :=
  decide (20000 ≤ a.fs) && decide (a.fs ≤ 100000)
    && decide (a.ifHz.natAbs + (if a.stream % 2 = 0 then 2046000 else 10230000) ≤ 400 * a.fs)

/-- `gnss.set_stream` (R111, R113, R115, R478): every field is checked whether it enables the stream or not, as R606 frees only `ref.*` commands from
it; a CKO of the GBB stands on no loop with SSC or an offset (R217). -/
def cmdGnssSetStream (_h : CmdHdr) (a : StreamArgs) : CmdMeta × CmdBody :=
  ({ op := 0x1101, plen := 12, mirrored := true },
   { argOk := fun _ => decide (a.stream < 4) && decide (a.enable ≤ 1) && decide (a.sense ≤ 1) && decide (a.cko < 32) && bandFits a
     check := fun s => judge [(a.enable = 1 && ((s.pin a.cko).on || s.loopMoves (s.pin a.cko).cfg.loop), .conflict)]
     act := fun s =>
       let r := refGnss (a.stream / 2)
       let s1 := (s.onStrm a.stream fun x => { x with cfg := a }).setStream a.stream (if a.enable = 1 then .align else .off)
       let used := (s1.strm (a.stream / 2 * 2)).cfg.enable = 1 || (s1.strm (a.stream / 2 * 2 + 1)).cfg.enable = 1
       cmdOut ((if used then s1.configureGnss (a.stream / 2) else s1.deconfigureIn r).store 0x11 a.stream) })

/-- `gnss.set_signals` (R117, R128, R130, R478). -/
def cmdGnssSetSignals (_h : CmdHdr) (systems l1c refSys mask : Nat) : CmdMeta × CmdBody :=
  ({ op := 0x1102, plen := 4, mirrored := true },
   { argOk := fun _ => decide (systems < 16) && decide (l1c < 4) && decide (refSys ≤ 2) && nbit systems refSys && decide (mask ≤ 30)
     act := fun s => cmdOut ((s.onGnss fun g => { g with systems := systems, l1c := l1c, refSys := refSys, mask := mask }).store 0x11 8) })

/-- `gnss.start` (R121, R478): the a priori time of a WARM or HOT start is the MTC in LOCKED or HOLDOVER, else the time of the stored data. -/
def cmdGnssStart (_h : CmdHdr) (kind : Nat) : CmdMeta × CmdBody :=
  ({ op := 0x1103, plen := 1, mirrored := true, action := true },
   { argOk := fun _ => decide (kind ≤ 2)
     act := fun s =>
       let mtc := kind != 0 && (s.tc.ts = .locked || s.tc.ts = .holdover)
       let s1 := s.onGnss fun g => { g with
         start := kind, mtcStart := mtc, almanac := if kind = 0 then none else g.almanac, ephem := if kind = 2 then g.ephem else none
         apriori := if kind = 0 then none else if mtc then some s.sec else if kind = 2 && g.ephem.isSome then g.ephem else g.almanac
         ants := if kind = 0 then g.ants.mapAll fun _ (x : Antenna) => { x with survey := { x.survey with seed := none } } else g.ants }
       cmdOut (s1.touch 0x11 13) })

/-- `gnss.set_epoch` (R122, R123). -/
def cmdGnssSetEpoch (_h : CmdHdr) (rate : Nat) : CmdMeta × CmdBody :=
  ({ op := 0x1104, plen := 1, mirrored := true },
   { argOk := fun _ => decide (rate ≤ 4)
     act := fun s => cmdOut ((s.onGnss fun g => { g with rateNext := some (rate, s.nextTop) }).store 0x11 9) })

/-- `gnss.set_cable` (R127). -/
def cmdGnssSetCable (_h : CmdHdr) (stream d u : Nat) : CmdMeta × CmdBody :=
  ({ op := 0x1105, plen := 12, mirrored := true },
   { argOk := fun _ => decide (stream < 4) && decide (d ≤ 20000000)
     act := fun s => cmdOut ((s.onStrm stream fun x => { x with cableNext := some (d, u, s.nextTop) }).store 0x11 (16 + stream))
       [fld 32 s.nextTop] })

/-- `gnss.set_survey` (R131). -/
def cmdGnssSetSurvey (_h : CmdHdr) (a : SurveyArgs) : CmdMeta × CmdBody :=
  ({ op := 0x1106, plen := 32, mirrored := true },
   { argOk := fun _ => decide (a.ant ≤ 3) && decide (a.seed ≤ 1) && decide (600 ≤ a.duration) && decide (a.duration ≤ 604800)
     act := fun s =>
       let seed := if a.seed = 1 then some (a.x, a.y, a.z) else none
       let go := fun (t : State) (n : Nat) => if nbit a.ant n then
           t.onAnt n fun x => { x with survey := { x.survey with running := true, duration := a.duration, start := s.sec, seed := seed } }
         else t
       cmdOut ((go (go s 0) 1).store 0x11 10) })

/-- `gnss.load_survey` (R131). -/
def cmdGnssLoadSurvey (_h : CmdHdr) (ant : Nat) (rec : SurveyRec) : CmdMeta × CmdBody :=
  ({ op := 0x1107, plen := 1, mirrored := true, xbIn := true },
   { argOk := fun _ => decide (ant < 2)
     check := fun _ => judge [(!rec.sameHw, .ver)]
     act := fun s => cmdOut ((s.onAnt ant fun x => { x with survey := { x.survey with pos := some rec, running := false } }).store 0x11 (24 + ant)) })

/-- `gnss.set_osnma` (R136). -/
def cmdGnssSetOsnma (_h : CmdHdr) (root : List Nat) : CmdMeta × CmdBody :=
  ({ op := 0x1108, mirrored := true, xbIn := true },
   { argOk := fun _ => true
     act := fun s => cmdOut ((s.onGnss fun g => { g with root := root }).store 0x11 11) })

/-- `gnss.assert_time` (R137). -/
def cmdGnssAssertTime (_h : CmdHdr) (time : EtwArg) (u : Nat) : CmdMeta × CmdBody :=
  ({ op := 0x1109, plen := 20, mirrored := true, action := true },
   { argOk := fun _ => etwOk time && decide (u < 10000)
     act := fun s => cmdOut ((s.onGnss fun g => { g with asserted := some (time, u) }).touch 0x11 14) })

/-- The baseline vector is from 1 m to 50 m long (R140), components in mm. -/
def vectorOk (e n u : Int) : Bool :=
  let q := e * e + n * n + u * u
  decide (1000000 ≤ q) && decide (q ≤ 2500000000)

/-- `gnss.set_spoof` (R139, R140). DESIGN CHOICE (assumption 149): with LEARN the other fields name no setting and are neither checked nor stored. -/
def cmdGnssSetSpoof (_h : CmdHdr) (a : SpoofArgs) : CmdMeta × CmdBody :=
  ({ op := 0x110A, plen := 16, mirrored := true },
   { argOk := fun _ => decide (a.action ≤ 1) && (a.action = 1 || (decide (1 ≤ a.powerTh) && decide (a.powerTh ≤ 20)
       && decide (a.baselineValid ≤ 1) && (a.baselineValid = 0 || vectorOk a.east a.north a.up)))
     act := fun s =>
       if a.action = 1 then cmdOut ((s.onGnss fun g => { g with learning := [0, 1, 2, 3] }).touch 0x11 12)
       else cmdOut ((s.onGnss fun g => { g with
         powerTh := a.powerTh, vector := if a.baselineValid = 1 then some (a.east, a.north, a.up) else none }).store 0x11 12) })

/-- A channel record (R125): TX_TIME, CARRIER and DOPPLER read as zero outside TRACK. -/
def chanLayout (c : ChanRec) : Rec :=
  let k := c.chan
  let o := c.obs
  let tr := k.st = .track
  [fld 8 o.ch, fld 8 k.sys, fld 8 k.sig, fld 8 k.sv, fld 3 k.st.code, fld 1 k.ant, rsv 4,
   bit o.codeLock, bit o.carrierLock, bit k.slip, bit o.half, bit c.auth, bit c.authFail, bit k.excl, rsv 1,
   fld 16 o.cn0, fld 64 (if tr then o.txTime else 0), (64, if tr then o.carrier else 0), (32, if tr then o.doppler else 0),
   fld 32 o.codeSd, fld 16 o.phaseSd, fld 16 (min 65535 o.lockTime), (16, o.elev), fld 16 o.az, rsv 64]

/-- The 64-byte header and the records of an epoch (R125). -/
def epochLayout (e : Epoch) : Rec :=
  etwRec e.latch ++ [fld 32 e.num, fld 8 e.rate, fld 8 e.recs.length, fld 2 e.spoof.1, fld 2 e.spoof.2, rsv 4,
    bit e.step, bit e.rateChange, bit e.calChange, rsv 5] ++ e.streams.map (fld 8) ++ e.pwr.map (fun p => (8, p)) ++ e.clip.map (fld 8)
    ++ [fld 16 e.week, fld 16 e.calSeq, rsv 192] ++ e.recs.flatMap chanLayout

/-- The held epoch of a number. -/
def State.epochOf (s : State) (n : Nat) : Option Epoch := s.gnss.store.find? fun e => e.num = n

/-- `gnss.read_epoch` (R125). -/
def cmdGnssReadEpoch (_h : CmdHdr) (epoch : Nat) : CmdMeta × CmdBody :=
  ({ op := 0x1141, plen := 4, xbOut := true },
   { argOk := fun s => (s.epochOf epoch).isSome
     act := fun s => match s.epochOf epoch with
       | none => cmdOut s
       | some e => cmdOut s [fld 8 e.recs.length] (epochLayout e) })

/-- The OSNMA summary (R135): how many Galileo satellites are AUTHENTICATED, PENDING, UNSUPPORTED and FAILED. -/
def State.osnmaSummary (s : State) : Rec :=
  [NavAuth.authenticated, .pending, .unsupported, .failed].map fun v => fld 8 (s.gnss.nav.filter fun p => p.2 = v).length

/-- What a GNSS reference delivers (R135): offset, frequency and their variances, rounded to ps, 2^-64, ps^2 and 2^-96; satellites by system and by
mode; those with AUTH; and TDOP. -/
def Solution.status (o : Solution) : Rec :=
  [(64, roundHalf o.offset), (64, roundHalf (o.freq * 2 ^ 64)), (64, roundHalf o.var), (64, roundHalf (o.freqVar * 2 ^ 96))]
    ++ (List.range 4).map (fun n => fld 8 (o.perSys.getD n 0)) ++ [fld 8 o.dual, fld 8 o.l1, fld 8 o.l5, fld 8 o.auth, fld 32 o.tdop]

/-- `gnss.read_status` (R126, R131, R135, R136, R539): reference data, stream state, survey state, resolved weeks, the OSNMA summary and the Merkle root; the
layout is the model's own (assumption 149). -/
def cmdGnssReadStatus (_h : CmdHdr) : CmdMeta × CmdBody :=
  ({ op := 0x1142, xbOut := true },
   { argOk := fun _ => true
     act := fun s => cmdOut s []
       (((List.range 2).flatMap fun a =>
           let x := s.ant a
           [fld 8 (s.inp (refGnss a)).st.code, bit x.valid, bit x.dual, bit x.assay, bit s.gnss.inconsistent, bit s.gnss.collapsed, rsv 3,
            fld 8 x.spoof.code, bit x.survey.running, bit x.survey.pos.isSome, bit (s.antPower a), rsv 5, fld 32 x.u, fld 48 x.exclusions, rsv 16, fld 48 x.navFails, rsv 16]
            ++ (x.sol.getD {}).status) ++ s.osnmaSummary ++ ((List.range 4).map fun n => fld 16 (s.gnss.weeks.look 0 n)) ++
         ((List.range 4).flatMap fun n => [fld 8 (s.strm n).st.code, fld 48 (s.strm n).slips, fld 48 (s.strm n).clips, rsv 24, fld 32 (s.strm n).d, fld 32 (s.strm n).u])
         ++ s.gnss.root.map (fld 8)) })


/-! ### Stream events (R115, R116, R134) -/

/-- A stream loses its clock or an eye margin in ALIGN or UP (R115). -/
def onGnssStreamLost (n : Nat) (s : State) : State :=
  if 4 ≤ n || !((s.strm n).st = .align || (s.strm n).st = .up) then s
  else
    let s1 := s.setStream n .lost
    if s1.antDark (n / 2) then s1.loseIn (refGnss (n / 2)) else s1

/-- Clock edges return in LOST (R115). -/
def onGnssStreamClockReturn (n : Nat) (s : State) : State :=
  if 4 ≤ n || (s.strm n).st != .lost then s else s.setStream n .align

/-- ALIGN is complete (R115). -/
def onGnssStreamAligned (n : Nat) (s : State) : State :=
  if 4 ≤ n || (s.strm n).st != .align then s else s.setStream n .up

/-- GNSS_STREAM_LOST (R115). -/
def execGnssStreamLost (stream : Nat) (s : State) : Host.Outcome State Fault Refusal :=
  .next (if s.alive then onGnssStreamLost stream s else s)

/-- GNSS_STREAM_CLOCK_RETURN (R115). -/
def execGnssStreamClockReturn (stream : Nat) (s : State) : Host.Outcome State Fault Refusal :=
  .next (if s.alive then onGnssStreamClockReturn stream s else s)

/-- GNSS_STREAM_ALIGNED (R115). -/
def execGnssStreamAligned (stream : Nat) (s : State) : Host.Outcome State Fault Refusal :=
  .next (if s.alive then onGnssStreamAligned stream s else s)


/-! ### Epoch latch (R122-R125, R139, R143) -/

/-- Epochs per second of a RATE code (R122). -/
def rateHz (code : Nat) : Nat := [1, 2, 5, 10, 20].getD code 1

/-- The value a 4-bit sample is taken as: -8 is taken as -7 (R112). -/
def takenLevel (v : Int) : Int := max (-7) v

/-- How many samples were taken as each value from -7 to +7 (R112); the levels are counted from -8 up. -/
def takenCounts (levels : List Nat) : List Nat :=
  (List.range 15).map fun i => (((List.range 16).filter fun (k : Nat) => takenLevel ((k : Int) - 8) = (i : Int) - 7).map fun k => levels.getD k 0).sum

/-- Samples of -8 and +7, which count as clipped (R112). -/
def clippedOf (levels : List Nat) : Nat := levels.getD 0 0 + levels.getD 15 0

/-- The clipped fraction in 0.1 percent (R125); DESIGN CHOICE (assumption 149): rounded down, 0 without samples. -/
def clipOf (o : StreamObs) : Nat := if o.levels.sum = 0 then 0 else 1000 * clippedOf o.levels / o.levels.sum

/-- The power and clip condition of a stream at a second (R139). -/
def GnssStream.loud (x : GnssStream) (th : Nat) (o : StreamObs) : Bool :=
  decide (10 < clipOf o) || (match x.baseline with | some b => decide ((4 * th : Int) < o.power - b) | none => false)

/-- The power test of one second (R139). -/
def GnssStream.powerSecond (x : GnssStream) (cond : Bool) : GnssStream :=
  if cond then
    let run := x.powRun + 1
    { x with powRun := run, powClear := 0, flag := x.flag || decide (10 ≤ run) }
  else
    let run := x.powClear + 1
    { x with powRun := 0, powClear := run, flag := x.flag && decide (run < 60) }

/-- What one stream brings to a top-of-second latch (R112, R116, R127, R139): phase check, clipped samples, power test and a cable delay due. -/
def GnssStream.second (x : GnssStream) (th sec : Nat) (o : Option StreamObs) : GnssStream :=
  let slip := x.st = .up && (match o with | some v => decide (1 / 4 < rabs v.phaseErr) | none => false)
  let y : GnssStream := match o with
    | some v => { x with power := v.power, clip := clipOf v, clips := x.clips + clippedOf v.levels, taken := takenCounts v.levels }
    | none => x
  let z := y.powerSecond (match o with | some v => x.loud th v | none => false)
  let w := if slip then { z with slip := true, slips := z.slips + 1 } else z
  match w.cableNext with
  | some (d, u, due) => if due ≤ sec then { w with d := d, u := u, cableNext := none } else w
  | none => w

/-- The STREAM byte of an epoch header (R125). -/
def GnssStream.byte (x : GnssStream) : Nat := x.st.code + 4 * b01 x.slip + 8 * b01 x.flag

/-- PWR of an epoch header (R125, R139). DESIGN CHOICE (assumption 149): a power beyond the signed 8-bit range reads as -127 or 127; -128 says that no
baseline is learned. -/
def GnssStream.pwr (x : GnssStream) : Int :=
  match x.baseline with
  | none => -128
  | some b => min 127 (max (-127) (x.power - b))

/-- The record of a channel at a latch (R125, R138). -/
def State.chanRec (s : State) (obs : EpochObs) (ch : Nat) : ChanRec :=
  let c := s.gch ch
  let nav := if c.sys = 1 then s.gnss.nav.look .none c.sv else .none
  { chan := c, obs := (obs.chans.find? fun o => o.ch = ch).getD { ch := ch }, auth := nav = .authenticated, authFail := nav = .failed }

/-- A channel has a record at a latch in a cycle (R118, R125): it is not IDLE, and it is not being given to a satellite in that very cycle. -/
def GnssChan.reports (c : GnssChan) (cyc : Nat) : Bool := c.st != .idle && c.given != some cyc

/-- The last top-of-second epoch passed without a solution (R134). -/
def State.missedSolution (s : State) (a : Nat) : State :=
  let n := (s.ant a).missing + 1
  let s1 := (s.onAnt a fun v => { v with missing := n, judged := true, valid := false }).onIn (refGnss a) fun y => { y with
    meas := none, freq := none, run := if y.st = .qualifying then 0 else y.run }
  if 3 ≤ n then s1.loseIn (refGnss a) else s1

/-- At a top-of-second latch the antennas whose last such epoch brought no solution have missed one (R134). DEDUCED (assumption 149): an epoch whose
solution has not come when the next is latched has none. -/
def State.missedSolutions (s : State) : State :=
  (List.range 2).foldl (fun t a => if !(t.ant a).judged && (t.inp (refGnss a)).st != .off then t.missedSolution a else t) s

/-- The latch of every channel at a common instant (R122-R125, R143): the header carries every flag that applies, each stream's SLIP and
each channel's is reported once, and the antennas concerned restart their clock filters, for a step after its epoch's own solution (R124). -/
def onGnssEpochLatch (obs : EpochObs) (s : State) : State :=
  let g := s.gnss
  let sec := g.stepAt.getD s.sec
  let step := g.stepAt.isSome
  let period := 1000000000 / rateHz g.rate
  let top := step || decide (s.tc.mtc.ns < period)
  let rateDue := top && (match g.rateNext with | some (_, due) => decide (due ≤ sec) | none => false)
  let rate := match g.rateNext with | some (r, _) => if rateDue then r else g.rate | none => g.rate
  let cal := top && (List.range 4).any fun n => match (s.strm n).cableNext with | some (_, _, due) => decide (due ≤ sec) | none => false
  let s1 := if top then
      (List.range 4).foldl (fun t n =>
        let x := t.strm n
        let y := x.second g.powerTh sec (obs.streams.find? fun o => o.stream = n)
        let slipped := x.slips < y.slips
        let moved := x.cableNext.isSome && y.cableNext.isNone
        let a := n / 2
        let t1 := t.onStrm n fun _ => y
        let t2 := if slipped then t1.onGnss fun g => { g with chans := g.chans.mapAll fun _ c => if c.stream = n && c.st != .idle then { c with slip := true } else c } else t1
        let t3 := if slipped || moved then t2.onAnt a fun v => { v with restart := true } else t2
        let joint := moved || (slipped && (rateDue || step))
        if joint && (t3.inp (refGnss a)).st != .off then t3.configureGnss a else t3) s.missedSolutions
    else s
  let s2 := if rateDue && step then (List.range 2).foldl (fun t a =>
      if (t.inp (refGnss a)).st != .off then t.configureGnss a else t) s1 else s1
  let s3 := (List.range 2).foldl (fun t a => t.onAnt a fun (v : Antenna) => { v with
      restart := v.restart || rateDue || g.stepped, assayAt := v.assay, judged := v.judged && !top }) s2
  let calSeq := if cal then (g.calSeq + 1) % 65536 else g.calSeq
  let recs := ((List.range 192).filter fun c => (s3.gch c).reports s.tc.mtc.cyc).map (s3.chanRec obs)
  let ns := if top then 0 else s.tc.mtc.ns / period * period
  let week := wrapU 16 (((sec : Int) - 19 - 315964800) / 604800)
  let e : Epoch := {
    num := g.epoch, latch := { sec := sec, ns := ns, frac := 0, scale := .tai }, rate := rate
    spoof := ((s3.ant 0).spoof.code, (s3.ant 1).spoof.code), step := step, rateChange := rateDue, calChange := cal
    streams := (List.range 4).map fun n => (s3.strm n).byte, pwr := (List.range 4).map fun n => (s3.strm n).pwr
    clip := (List.range 4).map fun n => min 255 (s3.strm n).clip, week := week, calSeq := calSeq, recs := recs }
  let failed := fun (a : Nat) => recs.any fun r => r.authFail && r.chan.ant = a
  s3.onGnss fun g => { g with
    rate := rate, rateNext := if rateDue then none else g.rateNext, calSeq := calSeq, stepAt := none, stepped := step
    epoch := (g.epoch + 1) % 2 ^ 32, store := (g.store ++ [e]).drop ((g.store.length + 1) - 64)
    streams := g.streams.mapAll fun _ (x : GnssStream) => { x with slip := false }
    chans := g.chans.mapAll fun n (c : GnssChan) => { c with slip := false, corr := ((obs.corr.find? fun p => p.1 = n).map (·.2)).getD c.corr }
    ants := (List.range 2).foldl (fun (l : Tab Antenna) a =>
      if failed a then l.upd {} a fun (v : Antenna) => { v with authFailAt := some (s.topNs + ns) } else l) g.ants }

/-- GNSS_EPOCH_LATCH (R122). -/
def execGnssEpochLatch (obs : EpochObs) (s : State) : Host.Outcome State Fault Refusal :=
  .next (if s.alive then onGnssEpochLatch obs s else s)


/-! ### Channels (R118, R119) -/

/-- The channels one satellite wants on its antenna: one per band whose stream is UP (R118). -/
def State.wanted (s : State) (d : SatDemand) : List GnssChan :=
  if 2 ≤ d.ant || 4 ≤ d.sys || !nbit s.gnss.systems d.sys || (d.sys, d.sv, d.ant) ∈ s.gnss.hidden then []
  else
    ((if (s.strm (2 * d.ant)).st = .up then [false] else []) ++ (if d.l5 && (s.strm (2 * d.ant + 1)).st = .up then [true] else [])).map
      fun l5 => { sys := d.sys, sig := sigOf d.sys s.gnss.l1c l5, sv := d.sv, ant := d.ant }

/-- Puts a satellite into its place in descending order of elevation. DESIGN CHOICE (assumption 149): of satellites of equal elevation the one that the
demand lists first comes first. -/
def insertSat (d : SatDemand) (l : List SatDemand) : List SatDemand :=
  match l with
  | [] => [d]
  | e :: r => if e.elev < d.elev then d :: e :: r else e :: insertSat d r

/-- The channels allocated, a satellite's together or not at all, highest satellites first (R118). -/
def allot (room : Nat) (l : List (List GnssChan)) : List GnssChan :=
  match l with
  | [] => []
  | x :: r => if x.length ≤ room then x ++ allot (room - x.length) r else []

/-- Two channels track the same signal of a satellite on an antenna. -/
def GnssChan.same (a b : GnssChan) : Bool := a.sys = b.sys && a.sig = b.sig && a.sv = b.sv && a.ant = b.ant

/-- Half width of the Doppler search (R120): 10 kHz in a cold start, 500 Hz around the prediction of the almanac or the ephemerides otherwise. -/
def State.searchRange (s : State) : Nat := if s.gnss.start = 0 || (s.gnss.almanac.isNone && s.gnss.ephem.isNone) then 10000 else 500

/-- The TP allocates the channels (R118, R119): a channel whose satellite keeps its place keeps its state. -/
def onChannelAllocation (sats : List SatDemand) (s : State) : State :=
  let want := allot 192 ((sats.foldl (fun l d => insertSat d l) []).map s.wanted)
  let s1 := s.onGnss fun g => { g with chans := g.chans.mapAll fun _ c => if c.st != .idle && want.any c.same then c else {} }
  want.foldl (fun t w =>
    if (List.range 192).any fun c => (t.gch c).st != .idle && (t.gch c).same w then t
    else match (List.range 192).find? fun c => (t.gch c).st = .idle with
      | none => t
      | some c => t.onGch c fun _ => { w with st := .acquire, given := some s.tc.mtc.cyc, range := s.searchRange }) s1

/-- A detection is confirmed, or the search space is exhausted; the third time the satellite is marked not
visible (R119, R120): what lies outside the space is not found. DESIGN CHOICE (assumption 149): the mark holds for the antenna whose
channel searched. -/
def onChannelDetection (ch : Nat) (d : Detection) (s : State) : State :=
  let c := s.gch ch
  if c.st != .acquire || (d.found && decide (c.range < d.away.natAbs)) then s
  else if d.found then s.onGch ch fun x => { x with st := .pullIn, exhausted := 0 }
  else if 2 ≤ c.exhausted then
    (s.onGch ch fun _ => {}).onGnss fun g => { g with hidden := if (c.sys, c.sv, c.ant) ∈ g.hidden then g.hidden else g.hidden ++ [(c.sys, c.sv, c.ant)] }
  else s.onGch ch fun x => { x with exhausted := x.exhausted + 1 }

/-- Lock indicators hold with synchronisation (R119): PULL_IN to TRACK, or lock regained, which sets SLIP. -/
def onChannelLock (ch : Nat) (s : State) : State :=
  if (s.gch ch).st = .pullIn then s.onGch ch fun x => { x with st := .track }
  else if (s.gch ch).st = .reacquire then s.onGch ch fun x => { x with st := .track, slip := true }
  else s

/-- Lock not reached within 2 s (R119). -/
def onPullInTimeout (ch : Nat) (s : State) : State :=
  if (s.gch ch).st = .pullIn then s.onGch ch fun x => { x with st := .acquire } else s

/-- Carrier lock or C/N0 falls (R119). -/
def onChannelLockLoss (ch : Nat) (s : State) : State :=
  if (s.gch ch).st = .track then s.onGch ch fun x => { x with st := .reacquire } else s

/-- 10 s without lock (R119). -/
def onReacquireTimeout (ch : Nat) (s : State) : State :=
  if (s.gch ch).st = .reacquire then s.onGch ch fun x => { x with st := .acquire } else s

/-- A not-visible mark expires (R119). -/
def onNotVisibleExpiry (sys sv ant : Nat) (s : State) : State :=
  s.onGnss fun g => { g with hidden := g.hidden.filter (· != (sys, sv, ant)) }

/-- CHANNEL_ALLOCATION (R118). -/
def execChannelAllocation (sats : List SatDemand) (s : State) : Host.Outcome State Fault Refusal :=
  .next (if s.alive then onChannelAllocation sats s else s)

/-- CHANNEL_DETECTION (R119). -/
def execChannelDetection (ch : Nat) (found : Detection) (s : State) : Host.Outcome State Fault Refusal :=
  .next (if s.alive then onChannelDetection ch found s else s)

/-- CHANNEL_LOCK (R119). -/
def execChannelLock (ch : Nat) (s : State) : Host.Outcome State Fault Refusal :=
  .next (if s.alive then onChannelLock ch s else s)

/-- PULL_IN_TIMEOUT (R119). -/
def execPullInTimeout (ch : Nat) (s : State) : Host.Outcome State Fault Refusal :=
  .next (if s.alive then onPullInTimeout ch s else s)

/-- CHANNEL_LOCK_LOSS (R119). -/
def execChannelLockLoss (ch : Nat) (s : State) : Host.Outcome State Fault Refusal :=
  .next (if s.alive then onChannelLockLoss ch s else s)

/-- REACQUIRE_TIMEOUT (R119). -/
def execReacquireTimeout (ch : Nat) (s : State) : Host.Outcome State Fault Refusal :=
  .next (if s.alive then onReacquireTimeout ch s else s)

/-- NOT_VISIBLE_EXPIRY (R119). -/
def execNotVisibleExpiry (sys sv ant : Nat) (s : State) : Host.Outcome State Fault Refusal :=
  .next (if s.alive then onNotVisibleExpiry sys sv ant s else s)


/-! ### Solutions (R128-R135) and spoofing states (R139-R141) -/

/-- The unknowns of a solution (R132). -/
def State.unknowns (s : State) (a : Nat) : Nat :=
  1 + (((List.range 4).filter fun k => nbit s.gnss.systems k).length - 1) + (if (s.ant a).survey.running then 3 else 0)

/-- An antenna tracks a satellite in a band at an epoch: its record is in TRACK (R120, R128). -/
def Epoch.tracks (e : Epoch) (a sys sv : Nat) (l5 : Bool) : Bool :=
  e.recs.any fun r => r.chan.ant = a && r.chan.sys = sys && r.chan.sv = sv && sigL5 r.chan.sig = l5 && r.chan.st = .track

/-- A satellite's elevation at an epoch, 0.01 degree, from its record in TRACK. -/
def Epoch.elevOf (e : Epoch) (a sys sv : Nat) : Int :=
  match e.recs.find? fun r => r.chan.ant = a && r.chan.sys = sys && r.chan.sv = sv && r.chan.st = .track with
  | some r => r.obs.elev
  | none => -9000

/-- A satellite of a solution, with whether each band tracks it. -/
structure SatUse where
  sat : SatObs
  l1 : Bool
  l5 : Bool
  deriving DecidableEq, Repr

/-- It is tracked in both bands. -/
def SatUse.dual (u : SatUse) : Bool := u.l1 && u.l5

/-- The satellites a solution may use (R128, R129, R138): of an enabled system, with navigation data that has not failed authentication, in TRACK on a
band, at the mask or above. -/
def State.candidates (s : State) (a : Nat) (e : Epoch) (o : SolutionObs) : List SatUse :=
  (o.sats.map fun x => { sat := x, l1 := e.tracks a x.sys x.sv false, l5 := e.tracks a x.sys x.sv true }).filter fun u =>
    nbit s.gnss.systems u.sat.sys && (u.l1 || u.l5) && decide ((100 * s.gnss.mask : Int) ≤ e.elevOf a u.sat.sys u.sat.sv)
      && !(u.sat.sys = 1 && s.gnss.nav.look .none u.sat.sv = .failed)

/-- The satellites RAIM finds inconsistent among those that may be used, in the order of exclusion (R132). -/
def raimOrder (l : List SatUse) (o : SolutionObs) : List (Nat × Nat) := o.atFault.filter fun p => l.any fun u => u.sat.sys = p.1 && u.sat.sv = p.2

/-- The satellites used: those RAIM does not exclude, at most two being excluded (R132). -/
def keptSats (l : List SatUse) (o : SolutionObs) : List SatUse := l.filter fun u => !(((raimOrder l o).take 2).contains (u.sat.sys, u.sat.sv))

/-- The offset of the MTC against a system's time that a satellite gives, ps (R128, R129): in a dual-frequency solution of both bands the ionosphere-free
combination of the two pseudoranges, each less its stream's cable delay; else of one band, with the ionosphere model. DESIGN CHOICE
(assumption 149): of a satellite that has both bands a single-frequency solution takes L1. -/
def State.satOffset (s : State) (a : Nat) (dual : Bool) (u : SatUse) : Rat :=
  let p1 := u.sat.r1 - ((s.strm (2 * a)).d : Rat)
  let p5 := u.sat.r5 - ((s.strm (2 * a + 1)).d : Rat)
  if dual && u.dual then alpha * p1 - beta * p5 - u.sat.gdIf
  else if u.l1 then p1 - u.sat.gd1 - u.sat.iono1 else p5 - u.sat.gd5 - u.sat.iono5

/-- The nominal offset of TAI from a system's time, s (R130); QZSS time is GPS time (PRESUMED, assumption 149). -/
def taiMinus (sys : Nat) : Nat := if sys = 2 then 33 else 19

/-- The GPS week number of a TAI second. -/
def gpsWeek (sec : Nat) : Int := ((sec : Int) - 19 - 315964800) / 604800

/-- The week, counted as GPS weeks, in which a system's week count begins (PRESUMED, assumption 149). -/
def weekBase (sys : Nat) : Nat := if sys = 1 then 1024 else if sys = 2 then 1356 else 0

/-- A broadcast week number resolved to a full one (R126): a 10-bit GPS week is the first not earlier than the build week of the running set. -/
def fullWeek (build sys bits v : Nat) : Nat :=
  if bits = 10 then build + (v + 1024 - build % 1024) % 1024 else weekBase sys + v

/-- The full week of each system whose signals are tracked, by the longest week field among them (R126). -/
def State.resolveWeeks (s : State) (weeks : List (Nat × Nat × Nat)) : Tab Nat :=
  (List.range 4).foldl (fun (t : Tab Nat) k =>
    match ((weeks.filter fun w => w.1 = k).foldl (fun (b : Option (Nat × Nat)) w =>
        match b with | some x => if x.1 < w.2.1 then some w.2 else b | none => some w.2) none) with
    | some w => t.put k (fullWeek (s.mgmt.sets.look {} s.mgmt.running).week k w.1 w.2)
    | none => t) s.gnss.weeks

/-- Whole weeks by which the MTC differs from the full week broadcast by a system, ps (R126, R130): none while no week is resolved. -/
def State.weekShift (s : State) (sec sys : Nat) : Rat :=
  match s.gnss.weeks.find? fun p => p.1 = sys with
  | some w => ((gpsWeek (sec + 19 - taiMinus sys) - (w.2 : Int) : Int) : Rat) * 604800000000000000
  | none => 0

/-- The weighted mean of the satellites' offsets of one system: its time offset (R130). -/
def meanOffset (l : List (Nat × Rat)) : Rat :=
  let w : Nat := (l.map fun p => max 1 p.1).sum
  if w = 0 then 0 else (l.map fun p => ((max 1 p.1 : Nat) : Rat) * p.2).sum / (w : Rat)

/-- The square of the time error that a position covariance implies through the geometry, ps^2 (R133). -/
def posVar (o : SolutionObs) (c : Cov3) : Rat :=
  let g := o.gain
  let x := g.1
  let y := g.2.1
  let z := g.2.2
  x * x * c.xx + y * y * c.yy + z * z * c.zz + 2 * (x * y * c.xy + x * z * c.xz + y * z * c.yz)

/-- The position covariance that a solution rests on (R131, R133): of the survey while it runs, of the stored position after it. -/
def State.positionCov (s : State) (a : Nat) (o : SolutionObs) : Cov3 :=
  match (s.ant a).survey.pos with
  | some p => if (s.ant a).survey.running then o.cov else p.cov
  | none => o.cov

/-- The solution of an antenna at an epoch (R128-R135). DESIGN CHOICE (assumption 149): the estimate of a system's time offset is the weighted mean over its
satellites, the weights, variances and frequency being what the sky gives. -/
def State.solution (s : State) (a : Nat) (e : Epoch) (o : SolutionObs) : Solution :=
  let c := s.candidates a e o
  let l := keptSats c o
  let dual := decide (4 ≤ (l.filter (·.dual)).length)
  let of := fun (k : Nat) => meanOffset ((l.filter fun u => u.sat.sys = k).map fun u => (u.sat.weight, s.satOffset a dual u + s.weekShift e.latch.sec k))
  let m := s.gnss.refSys
  { offset := of m - (taiMinus m : Rat) * 1000000000000, var := o.var, freq := o.freq, freqVar := o.freqVar
    systems := ((List.range 4).filter fun k => k != m && nbit s.gnss.systems k).map fun k => (k, of k - of m)
    dual := (l.filter (·.dual)).length, l1 := (l.filter fun u => u.l1 && !u.l5).length, l5 := (l.filter fun u => !u.l1).length
    perSys := (List.range 4).map fun k => (l.filter fun u => u.sat.sys = k).length
    auth := (l.filter fun u => u.sat.sys = 1 && s.gnss.nav.look .none u.sat.sv = .authenticated).length
    excluded := (raimOrder c o).take 2, fault := decide (2 < (raimOrder c o).length), reference := l.any fun u => u.sat.sys = m
    iModel := (l.map fun u => if u.l1 then u.sat.iono1 else u.sat.iono5).sum / ((max 1 l.length : Nat) : Rat)
    uPosSq := 25 * posVar o (s.positionCov a o), tdop := o.tdop }

/-- A solution as a whole is dual-frequency (R129). -/
def solDual (o : Solution) : Bool := decide (4 ≤ o.dual)

/-- A solution is valid (R132): no fault is left, and the satellites used are at least the unknowns plus 2. DEDUCED (assumption 149): one of them is of
the reference system, whose time the offset states. -/
def State.solves (s : State) (a : Nat) (o : Solution) : Bool :=
  !o.fault && o.reference && decide (s.unknowns a + 2 ≤ o.dual + o.l1 + o.l5)

/-- The least whole number at or above b plus the root of q. -/
def ceilPlusRoot (b q : Rat) : Nat :=
  let n := b.floor.toNat + q.floor.toNat.sqrt
  (((List.range 3).map (n + ·)).find? fun (k : Nat) => decide (b ≤ (k : Rat)) && decide (q ≤ ((k : Rat) - b) * ((k : Rat) - b))).getD (n + 3)

/-- U_i of a solution (R133), ps, rounded up. -/
def State.gnssU (s : State) (a : Nat) (o : Solution) : Nat :=
  let u1 : Rat := ((s.strm (2 * a)).u : Rat)
  let u5 : Rat := ((s.strm (2 * a + 1)).u : Rat)
  let ub : Rat := if o.l5 = 0 then u1 else if o.l1 = 0 && o.dual = 0 then u5 else max u1 u5
  ceilPlusRoot (if solDual o then alpha * u1 + beta * u5 else ub + o.iModel) o.uPosSq

/-- The spoofing state that the flags give (R141); an ASSAY flag acts from the first epoch latched after it (R155). -/
def State.spoofNow (s : State) (a : Nat) : SpoofState :=
  let n := b01 (s.antPower a) + b01 s.gnss.inconsistent + b01 (s.ant a).assayAt
  if s.gnss.collapsed || decide (2 ≤ n) then .spoofed else if n = 1 then .suspect else .clear

/-- An antenna enters a spoofing state, with the event of a change (R141, R486). -/
def State.setSpoof (s : State) (a : Nat) (st : SpoofState) : State :=
  let x := s.ant a
  if x.spoof = st then s
  else (s.onAnt a fun v => { v with spoof := st, holdOff := 0 }).raise0 0x1101
    [fld 8 a, fld 8 x.spoof.code, fld 8 st.code, bit (s.antPower a), bit s.gnss.inconsistent, bit s.gnss.collapsed, bit x.assay, rsv 4]

/-- The spoofing state of an antenna is recomputed (R141): SPOOFED gives way only after 300 consecutive top-of-second epochs. -/
def State.respoof (s : State) (a : Nat) (top : Bool) : State :=
  let x := s.ant a
  let now := s.spoofNow a
  if x.spoof != .spoofed then s.setSpoof a now
  else if now = .spoofed then s.onAnt a fun v => { v with holdOff := 0 }
  else if !top then s
  else if 300 ≤ x.holdOff + 1 then s.setSpoof a now
  else s.onAnt a fun v => { v with holdOff := v.holdOff + 1 }

/-- A flag with its runs of 10 to raise and 60 to clear (R140): flag and run. -/
def flagRun (flag : Bool) (run : Nat) (cond : Bool) : Bool × Nat :=
  if flag then (if cond then (true, 0) else if 60 ≤ run + 1 then (false, 0) else (true, run + 1))
  else (if !cond then (false, 0) else if 10 ≤ run + 1 then (true, 0) else (false, run + 1))

/-- Wraps a number of cycles to [-0.5, 0.5). -/
def wrapHalf (x : Rat) : Rat := x - (x + 1 / 2).floor

/-- The mean of a list, and the mean of its squares. -/
def meanCycles (l : List Rat) : Rat := l.sum / ((max 1 l.length : Nat) : Rat)
def meanSqCycles (l : List Rat) : Rat := meanCycles (l.map fun x => x * x)

/-- The records the dual-antenna test takes of an antenna (R140): the L1 band in TRACK with CARRIER_LOCK, HALF clear, at 15 degrees or above. -/
def Epoch.dualRecs (e : Epoch) (a : Nat) : List ChanRec :=
  e.recs.filter fun r => r.chan.ant = a && !sigL5 r.chan.sig && r.chan.st = .track && r.obs.carrierLock && !r.obs.half && decide (1500 ≤ r.obs.elev)

/-- The satellites of the dual-antenna test with their single differences s_j and predicted differences p_j, in cycles (R140): the baseline runs from A to B,
in mm, and the carrier of 1,575.42 MHz has a wavelength of 299,792,458 / 1,575,420 mm. DESIGN CHOICE (assumption 149): a carrier phase grows
with the range, so that a satellite towards B is farther from A by the baseline along its line of sight. -/
def State.differences (s : State) (e : Epoch) (o : SolutionObs) : List (Rat × Rat) :=
  match s.gnss.vector with
  | none => []
  | some v => (e.dualRecs 0).filterMap fun r =>
      match (e.dualRecs 1).find? fun q => q.chan.sys = r.chan.sys && q.chan.sv = r.chan.sv,
            o.sats.find? fun x => x.sys = r.chan.sys && x.sv = r.chan.sv with
      | some q, some x =>
        let d := r.obs.carrier - q.obs.carrier
        let w : Int := (d + 2 ^ 63) % 2 ^ 64 - 2 ^ 63
        some ((w : Rat) / 4294967296, ((v.1 : Rat) * x.east + (v.2.1 : Rat) * x.north + (v.2.2 : Rat) * x.up) * 1575420 / 299792458000)
      | _, _ => none

/-- The squares of D, S and S_p (R140). -/
def dualStats (l : List (Rat × Rat)) : Rat × Rat × Rat :=
  let sm := meanCycles (l.map (·.1))
  let pm := meanCycles (l.map (·.2))
  (meanSqCycles (l.map fun x => wrapHalf ((x.1 - sm) - (x.2 - pm))), meanSqCycles (l.map fun x => wrapHalf (x.1 - sm)), meanSqCycles (l.map fun x => wrapHalf (x.2 - pm)))

/-- The dual-antenna test of a top-of-second epoch (R140): with fewer than five satellites, or without a baseline, nothing moves. -/
def State.dualTest (s : State) (e : Epoch) (o : SolutionObs) : State :=
  let l := s.differences e o
  let q := dualStats l
  if s.gnss.vector.isNone || l.length < 5 then s
  else
    s.onGnss fun g =>
      let i := flagRun g.inconsistent g.incRun (decide (9 / 400 < q.1))
      let c := flagRun g.collapsed g.colRun (decide (q.2.1 < 1 / 400) && decide (1 / 16 ≤ q.2.2))
      { g with inconsistent := i.1, incRun := i.2, collapsed := c.1, colRun := c.2 }

/-- What a solution at an ensemble latch does to its reference (R134, R135). -/
def State.judgeGnss (s : State) (a sec : Nat) (ok : Bool) (o : Solution) : State :=
  let r := refGnss a
  let x := s.ant a
  if !ok then
    let s1 := s.missedSolution a
    if o.fault && decide (x.missing + 1 < 3) then s1.rejectIn r else s1
  else
    let dt : Rat := match x.last with | some l => (((sec : Int) - (l : Int) : Int) : Rat) | none => 0
    let jump := !x.restart && (match x.prev with
      | some p => decide (1000000 < rabs (o.offset - p - x.prevFreq * dt * 1000000000000))
      | none => false)
    let s1 := s.onAnt a fun v => { v with missing := 0, last := some sec, prev := some o.offset, prevFreq := o.freq, restart := false, judged := true }
    if jump then (s1.rejectIn r).onIn r fun y => { y with meas := none, freq := none }
    else (s1.goodIn r 10).onIn r fun y => { y with
      meas := if y.st = .valid then some o.offset else none, var := o.var, freq := if y.st = .valid then some (o.freq, o.freqVar) else none }

/-- The EXCL bits of the epoch and of the channels of the excluded satellites (R125, R132). -/
def State.markExcluded (s : State) (a : Nat) (ex : List (Nat × Nat)) : State :=
  s.onGnss fun g => { g with
    chans := g.chans.mapAll fun _ (c : GnssChan) => if c.ant = a then { c with excl := ex.contains (c.sys, c.sv) } else c
    store := g.store.take (g.store.length - 1) ++ (g.store.drop (g.store.length - 1)).map fun (e : Epoch) => { e with
      recs := e.recs.map fun (x : ChanRec) =>
        if x.chan.ant = a then { x with chan := { x.chan with excl := ex.contains (x.chan.sys, x.chan.sv) } } else x } }

/-- The UTC parameters broadcast by each system that the antenna tracks are compared with the leap table (R61). -/
def State.checkBroadcast (s : State) (a : Nat) (e : Epoch) (o : SolutionObs) : State :=
  (o.broadcast.filter fun b => e.recs.any fun r => r.chan.ant = a && r.chan.sys = b.1 && r.chan.st = .track).foldl
    (fun t b => t.checkIndicated (refGnss a) b.2) s

/-- The TP completes a solution for the last epoch (R126, R128-R135, R139-R141, R61). -/
def onGnssSolution (a : Nat) (o : SolutionObs) (s : State) : State :=
  if 2 ≤ a then s
  else
    match s.gnss.store.getLast? with
    | none => s
    | some e =>
      let top := e.latch.ns = 0
      let s0 := s.onGnss fun g => { g with weeks := s.resolveWeeks (o.weeks.filter fun w => e.recs.any fun r => r.chan.sys = w.1 && r.chan.st = .track) }
      let v := s0.solution a e o
      let ok := s0.solves a v
      let s1 := (s0.markExcluded a v.excluded).onAnt a fun x => { x with
        sol := some v, valid := ok, dual := solDual v, u := if ok then s0.gnssU a v else x.u, exclusions := x.exclusions + v.excluded.length }
      let s2 := if top then s1.judgeGnss a e.latch.sec ok v else s1
      let s3 := if top && a = 0 then s2.dualTest e o else s2
      (s3.respoof a top).checkBroadcast a e o

/-- GNSS_SOLUTION (R128). -/
def execGnssSolution (ant : Nat) (obs : SolutionObs) (s : State) : Host.Outcome State Fault Refusal :=
  .next (if s.alive then onGnssSolution ant obs s else s)


/-! ### OSNMA, learning, survey and almanac -/

/-- GST is known independently to within 10 s (R137). -/
def State.gstKnown (s : State) : Bool :=
  (s.tc.ts.bounded && s.ens.devBound != 0xFFFFFFFF) || s.gnss.asserted.isSome

/-- The root of a Merkle tree from a leaf, its index and the hashes beside its path (R136). -/
def merkleRoot (leaf : List Nat) (index : Nat) (path : List (List Nat)) : List Nat :=
  ((zipIdx path).foldl (fun (h : List Nat) p => sha256Bytes (if nbit index p.1 then p.2 ++ h else h ++ p.2)) (sha256Bytes leaf))

/-- One TESLA key back along its chain for each list of appended octets, keeping the key's length (R136). -/
def teslaBack (key : List Nat) (steps : List (List Nat)) : List Nat :=
  steps.foldl (fun k x => (sha256Bytes (k ++ x)).take key.length) key

/-- The MAC of an OSNMA chain over octets (R136). -/
def osnmaTag (m : OsnmaMac) (key data : List Nat) : List Nat :=
  match m with | .hmacSha256 => hmacSha256 key data | .cmacAes => aesCmac key data

/-- A satellite's data takes an authentication state; what had verified of it stays only with the states that build on it. -/
def State.setNav (s : State) (sv : Nat) (n : NavAuth) : State := s.onGnss fun g => { g with nav := g.nav.put sv n }

/-- A check failed for the data in use (R138): the satellite's data is FAILED until fresh data verifies; counted for the antenna (R539). -/
def State.failNav (s : State) (a sv : Nat) : State :=
  (((s.setNav sv .failed).onGnss fun g => { g with verified := g.verified.put sv (false, false) }).onAnt a fun x => { x with navFails := x.navFails + 1 }).logPartner
    0x1180 sv

/-- A tag verified (R138): AUTHENTICATED once ADKD 0 or 12 and the applicable ADKD 4 have; a FAILED satellite keeps its state until then. -/
def State.passNav (s : State) (sv adkd : Nat) : State :=
  let v := s.gnss.verified.look (false, false) sv
  let w := (v.1 || adkd = 0 || adkd = 12, v.2 || adkd = 4)
  let s1 := s.onGnss fun g => { g with verified := g.verified.put sv w }
  if w.1 && w.2 then s1.setNav sv .authenticated
  else if s.gnss.nav.look .none sv = .failed then s1 else s1.setNav sv .pending

/-- A tag under a chain (R136): the disclosed key leads back to the latest one that verified, and the MAC, cut to the tag's length, is the tag. -/
def OsnmaChain.tagOk (c : OsnmaChain) (data tag tesla : List Nat) (steps : List (List Nat)) : Bool :=
  teslaBack tesla steps = c.last && (osnmaTag c.mac tesla data).take tag.length = tag

/-- An E1-B navigation message of an antenna is verified (R136-R138); with no public-key engine left every chain is UNSUPPORTED (R342). DEDUCED (assumption 149): the
forms of the hashes' input are those that the message gives, and the verdict of a signature check comes with it. -/
def onOsnmaMessage (sv : Nat) (p : OsnmaPage) (s : State) : State :=
  let a := p.ant
  if 2 ≤ a then s
  else if !s.gstKnown then s.setNav sv .pending
  else match p.msg with
    | .publicKey id p521 leaf index path =>
      if merkleRoot leaf index path = s.gnss.root then s.onGnss fun g => { g with pubKeys := g.pubKeys.put id (p521, leaf) } else s.failNav a sv
    | .chainRoot key sha3 mac root signed =>
      match s.gnss.pubKeys.find? fun p => p.1 = key with
      | none => s.setNav sv .pending
      | some p =>
        if p.2.1 || sha3 || decide (2 ≤ s.keys.pkOut.length) then (s.onGnss fun g => { g with chain := some { key := key, unsupported := true } }).setNav sv .unsupported
        else if signed then s.onGnss fun g => { g with chain := some { key := key, mac := mac, last := root } }
        else s.failNav a sv
    | .revokeKey id => s.onGnss fun g => { g with
        pubKeys := g.pubKeys.filter (fun p => p.1 != id), chain := match g.chain with | some c => if c.key = id then none else some c | none => none }
    | .revokeChain => s.onGnss fun g => { g with chain := none }
    | .tag adkd data tag tesla steps =>
      match s.gnss.chain with
      | none => s.setNav sv .pending
      | some c =>
        if c.unsupported || decide (2 ≤ s.keys.pkOut.length) then s.setNav sv .unsupported
        else if c.tagOk data tag tesla steps then
          (s.onGnss fun g => { g with chain := some { c with last := tesla } }).passNav sv adkd
        else s.failNav a sv

/-- The power learning of a stream ends (R139). -/
def onPowerBaselineLearned (stream : Nat) (level : Int) (s : State) : State :=
  if stream ∈ s.gnss.learning then
    ((s.onStrm stream fun x => { x with baseline := some level }).onGnss fun g => { g with learning := g.learning.filter (· != stream) }).store 0x11 12
      (some (.baseline stream (s.strm stream).baseline))
  else s

/-- A survey ends: the position is fixed and stored with its covariance (R131). -/
def onSurveyComplete (a : Nat) (x y z : Int) (cov : Cov3) (s : State) : State :=
  if (s.ant a).survey.running then
    let pos : SurveyRec := { x := x, y := y, z := z, cov := cov, date := s.sec }
    (s.onAnt a fun v => { v with survey := { v.survey with running := false, pos := some pos } }).store 0x11 (24 + a)
      (some (.survey a (s.ant a).survey.pos))
  else s

/-- Almanac and ephemerides are written to MRAM with their time, never from a SPOOFED antenna (R121). -/
def onGnssAlmanacWrite (s : State) : State :=
  if (s.ant 0).spoof = .spoofed && (s.ant 1).spoof = .spoofed then s
  else (s.onGnss fun g => { g with almanac := some s.sec, ephem := some s.sec }).store 0x11 13 (some (.stored s.gnss.almanac s.gnss.ephem))

/-- OSNMA_MESSAGE (R136). -/
def execOsnmaMessage (sv : Nat) (page : OsnmaPage) (s : State) : Host.Outcome State Fault Refusal :=
  .next (if s.alive then onOsnmaMessage sv page s else s)

/-- POWER_BASELINE_LEARNED (R139). -/
def execPowerBaselineLearned (stream : Nat) (level : Int) (s : State) : Host.Outcome State Fault Refusal :=
  .next (if s.alive then onPowerBaselineLearned stream level s else s)

/-- SURVEY_COMPLETE (R131). -/
def execSurveyComplete (ant : Nat) (x y z : Int) (cov : Cov3) (s : State) : Host.Outcome State Fault Refusal :=
  .next (if s.alive then onSurveyComplete ant x y z cov s else s)

/-- GNSS_ALMANAC_WRITE (R121). -/
def execGnssAlmanacWrite (s : State) : Host.Outcome State Fault Refusal :=
  .next (if s.alive then onGnssAlmanacWrite s else s)


end Sys2Proof.Machine
end

