-- ==== Sys2Proof/Machine/Nv.lean ====
section
/-! DEFINITION. Power failure during a write of MRAM and the reading of the record store at a boot (R498-R501). -/

namespace Sys2Proof.Machine

/-! ### Banks and the log ring (R502) -/

/-- A bank of the MRAM becomes read-only; the second one is a fatal fault (R502). -/
def State.bankOut (s : State) (n : Nat) : State :=
  if (s.mgmt.banks.look {} n).readOnly then s
  else
    let s1 := (s.onMgmt fun m => { m with banks := m.banks.upd {} n fun b => { b with readOnly := true } }).addCause (0x0C00 + n)
    if (s.mgmt.banks.any fun q => q.2.readOnly) then s1.declareFatal else s1

/-- The ring's size: half of it while a log half is read-only (R502). -/
def State.logSize (s : State) : Nat :=
  if (s.mgmt.banks.look {} 2).readOnly || (s.mgmt.banks.look {} 3).readOnly then 32768 else 65536

/-! ### A write cut short (R498, R499) -/

/-- The word of a write that is being written: words take 250 ns each (R498). -/
def State.wordAt (s : State) (w : NvWrite) : Nat := w.stopped.getD ((s.upNs - w.at_) / 250)

/-- A copy after power failed at word k of its `words` (R498, R499): untouched where not even its first word changed, else not valid. Its trailer is its
last three words, RID and GEN the first of them: until that is reached the copy shows its old GEN, and none while the word is uncorrectable. -/
def NvCopy.cut (new was : NvCopy) (k words : Nat) (fate : WordFate) : NvCopy :=
  if k = 0 && fate = .old then { was with writes := new.writes }
  else { new with
    ok := false
    gen := if k + 3 < words || (k + 3 = words && fate = .old) then was.gen else if k + 3 = words && fate = .uncorrectable then 0 else new.gen }

/-- What a record's value becomes again when its newer copy is not valid. -/
def State.revert (s : State) : NvValue → State
  | .hours h => s.onMgmt fun m => { m with hours := h }
  | .models l => s.onEns fun e => { e with saved := l }
  | .baseline n v => s.onStrm n fun x => { x with baseline := v }
  | .survey a p => s.onAnt a fun x => { x with survey := { x.survey with pos := p } }
  | .stored a e => s.onGnss fun g => { g with almanac := a, ephem := e }
  | .reserve k n => s.onKeys fun x => { x with slots := x.slots.upd {} k fun y => { y with reserved := n } }
  | .sets l v => s.onMgmt fun m => { m with sets := l, highSvn := v }
  | .ring _ _ => s

/-- The entries of the log ring after power failed at word k of those being added (R498, R505): the entry of that word fails its CRC, unless nothing of
it was written or all of it was; those after it were not reached. -/
def cutRing (before added : List LogEntry) (size k : Nat) (fate : WordFate) : List LogEntry :=
  let l := before ++ added.take (k / 8) ++ match added[k / 8]? with
    | none => []
    | some e =>
      if k % 8 = 0 && fate = .old then [] else if k % 8 = 7 && fate = .new then [e] else [{ lseq := e.lseq, torn := true : LogEntry }]
  l.drop (l.length - size)

/-- Power fails (R498): the write of MRAM then in progress, if any, is cut short, and what a boot will read follows from it. How the word that
was being written reads afterwards is a free value. -/
def State.cutWrite (s : State) : State :=
  match s.mgmt.writing with
  | none => s
  | some w =>
    let k := s.wordAt w
    let fate := Config.wordFate s.free
    if w.words ≤ k || (k + 1 = w.words && fate = .new) then s.nextFree
    else match w.old with
      | .ring before added => s.nextFree.onMgmt fun m => { m with log := cutRing before added s.logSize k fate }
      | v =>
        let fix := fun (r : NvRec) => r.setCopy w.copy ((r.copy w.copy).cut (w.was.copy w.copy) k w.words fate)
        (s.nextFree.revert v).onMgmt fun m => match w.key with
          | some key => { m with recs := m.recs.upd {} key fix }
          | none => { m with boot := fix m.boot }

/-! ### The record store at a boot (R499, R501) -/

/-- A copy whose SETGEN exceeds the committed one has its trailer zeroed (R501). -/
def NvCopy.judged (c : NvCopy) (setGen : Nat) : NvCopy := if genAfter c.setGen setGen then { writes := c.writes } else c

/-- A record as a boot finds it. -/
def NvRec.judged (r : NvRec) (setGen : Nat) : NvRec := { c0 := r.c0.judged setGen, c1 := r.c1.judged setGen }

/-- A record is there: a copy of it is valid (R499). -/
def NvRec.present (r : NvRec) : Bool := r.c0.ok || r.c1.ok

/-- The records that a boot finds without a valid copy (R499): their defaults apply, and the loss is logged. -/
def State.absentRecords (s : State) : List Nat :=
  (s.mgmt.recs.filter fun q => !(q.2.judged s.mgmt.setGen).present).map (·.1)

/-- The record store as a boot reads it (R499, R501). -/
def State.readStore (s : State) : State :=
  s.onMgmt fun m => { m with recs := (m.recs.mapAll fun _ r => NvRec.judged r m.setGen).filter fun q => q.2.present }

/-- A `sys.seal` that waits to complete is cut short: whether its first fuse row was programmed by then, from which the device is sealed at the
next boot, is open (R562, R563). -/
def State.cutSeal (s : State) : State :=
  let waits := (s.fn 0).queues.any fun q => match q.2.inflight with
    | x :: _ => x.entry.opcode = 0x0102
    | [] => false
  if !waits || s.isSealed || !s.bezelServes 0 || (s.fn 0).frozen then s
  else s.nextFree.onPwr fun p => { p with fuses := if Config.rowProgrammed s.free then 1 else p.fuses }

end Sys2Proof.Machine
end

