-- ==== Sys2Proof/Machine/Regs.lean ====
section
/-! DEFINITION. What the host reads in BAR0 and BAR2 (chapter 22): each register as its 32-bit words, and the view that BAR2 keeps when the MP stops. -/

namespace Sys2Proof.Machine

/-- The 32-bit word at a byte offset into a register. -/
def wordOf (v o : Nat) : Nat := v / 2 ^ (8 * o) % 2 ^ 32

/-- DEV_STATE (R593): a cause of category c sets bit 16 + c, for c from 1 to 15. -/
def State.devState (s : State) : Nat :=
  s.pwr.st.code + 8 * b01 s.isSealed + 16 * b01 s.degraded + 32 * b01 s.fault.replace + 256 * s.mbx.boardTag
  + ((List.range 15).map fun i => b01 (s.fault.causes.any fun c => c / 256 % 256 = i + 1) * 2 ^ (17 + i)).sum

/-- DEV_PAIR (R593). -/
def State.devPair (s : State) : Nat :=
  s.clasp.st.code + 16 * s.clasp.partner.code + 256 * b01 s.clasp.role + 512 * b01 s.pwr.pairId + 2 ^ 16 * (s.clasp.claim % 2 ^ 16)

/-- What the FZ9256 last wrote to BAR2, apart from MBX_EPOCH and the fault status words. -/
def State.view (s : State) : Bar2View :=
  { snap := s.tc.snap, rewrites := s.hall.snapRewrites, recs := s.hall.recs, ready := s.mbx.ready, dev := s.devState, pair := s.devPair,
    fns := s.mbx.fns, ctr := s.loupe.ctr, grants := s.loupe.banks.map fun p => (p.1, p.2.grantee) }

/-- What BAR2 shows: while the MP is stopped, the values it held when the MP stopped (R531, R593). -/
def State.bar2 (s : State) : Bar2View := s.mgmt.held.getD s.view

/-- The MP stops for good: BAR2 keeps its last values (R531, R593). -/
def State.stopMp (s : State) : State := s.onMgmt fun m => { m with mpStopped := true, mpRestart := false, held := some s.bar2 }

/-- MBX_QCTRL (R586). -/
def FnSt.qctrl (f : FnSt) : Nat :=
  ((List.range 4).map fun n => b01 (f.q n).en * 2 ^ n).sum + 16 * b01 f.cplEn + 32 * b01 f.evtEn + 2 ^ 8 * f.evtSize + 2 ^ 16 * f.cplVec + 2 ^ 24 * f.evtVec

/-- A word of BAR0 (R584, R586, R588-R590): write-only registers and reserved places read as zero (R18, R19). -/
def State.bar0Word (s : State) (fn o : Nat) : Nat :=
  let f := s.fn fn
  if 0x1000 ≤ o && decide (o < 0x1020) then wordOf (f.q ((o - 0x1000) / 8)).base (o % 8)
  else if 0x1020 ≤ o && decide (o < 0x1028) then wordOf f.cplBase (o % 8)
  else if 0x1028 ≤ o && decide (o < 0x1030) then wordOf f.evtBase (o % 8)
  else if o = 0x1030 then f.qctrl
  else if o = 0x10F0 && fn = 0 then b01 s.mbx.testDis + 256 * s.mbx.boardTag
  else if 0x2000 ≤ o && decide (o < 0x2400) then
    let v := f.vecs.look {} ((o - 0x2000) / 16)
    if o % 16 < 8 then wordOf v.addr (o % 8) else if o % 16 = 8 then v.data else b01 v.mask
  else if 0x3000 ≤ o && decide (o < 0x3008) then
    wordOf ((List.range 64).map fun n => b01 (f.vecs.look {} n).pend * 2 ^ n).sum (o % 8)
  else if 0x4000 ≤ o && decide (o < 0x4100) then (f.vecs.look {} ((o - 0x4000) / 4)).hold
  else 0

/-- MBX_QSTATn (R594). -/
def CmdQueue.stat (k : CmdQueue) : Nat :=
  k.fetchSeq + 2 ^ 32 * k.doneSeq + 2 ^ 64 * b01 k.en + 2 ^ 65 * b01 k.txn.isSome + 2 ^ 72 * k.err + 2 ^ 80 * (k.txn.map (·.id)).getD 0

/-- MBX_EVT_STAT (R594). -/
def FnSt.evtStat (f : FnSt) : Nat :=
  f.eseq + 2 ^ 32 * f.evtPut + 2 ^ 48 * f.cplPut + 2 ^ 64 * b01 f.evtEn + 2 ^ 65 * b01 f.cplEn + 2 ^ 72 * f.qErr + 2 ^ 96 * f.lost

/-- MBX_SEMnn (R596). -/
def Sem.word (m : Sem) : Nat :=
  (match m.st with | .free => 0 | .held => 1 | .abandoned => 2) + (if m.st = .free then 0 else 4 * m.owner) + 2 ^ 16 * m.gen

/-- The snapshot registers (R591). -/
def Bar2View.snapWord (v : Bar2View) (fn o : Nat) : Nat :=
  let n := v.snap
  if o = 0 then (n.seq + 2 * v.rewrites.look 0 fn) % 2 ^ 32
  else if o = 8 || o = 12 then wordOf n.sec (o % 8)
  else if o = 0x10 then n.ns
  else if o = 0x14 then wrapU 16 n.taiUtc + 2 ^ 16 * b01 n.leap61 + 2 ^ 17 * b01 n.leap59 + 2 ^ 18 * b01 n.table + 2 ^ 24 * n.state
  else if o = 0x18 then wrapU 32 n.loc
  else if o = 0x1C then (v.recs.look { point := 0x140 + fn } (0x140 + fn)).seq
  else 0

/-- A word of BAR2 (R448, R591-R597). -/
def State.bar2Word (s : State) (fn o : Nat) : Nat :=
  let v := s.bar2
  let f := v.fns.look {} fn
  if o < 0x100 then v.snapWord fn o
  else if o < 0x120 then wordOf (hallLayout (v.recs.look { point := 0x140 + fn } (0x140 + fn))).value (o - 0x100)
  else if o = 0x200 then s.mbx.epoch
  else if o = 0x204 then b01 v.ready
  else if o = 0x208 then v.dev
  else if o = 0x20C then v.pair
  else if 0x300 ≤ o && decide (o < 0x330) then wordOf (f.q ((o - 0x300) / 12)).stat ((o - 0x300) % 12)
  else if 0x330 ≤ o && decide (o < 0x340) then wordOf f.evtStat (o - 0x330)
  else if 0x400 ≤ o && decide (o < 0x440) then (if fn = 0 then (s.fault.sticky.look 0#32 ((o - 0x400) / 4)).toNat else 0)
  else if 0x800 ≤ o && decide (o < 0x900) then (f.sems.look {} ((o - 0x800) / 4)).word
  else if 0x10000 ≤ o && decide (o < 0x24000) then
    let i := (o - 0x10000) / 8
    if fn = 0 || v.grants.look none (i / 32) = some fn then wordOf (v.ctr.look 0 i) (o % 8) else 0
  else 0

/-- A read of a register: an aligned access of 4 or 8 bytes gives the present value, any other access zero (R18, R19, R449, R583). -/
def State.readRegister (s : State) (fn bar offset size : Nat) : Nat :=
  let word := fun o => if bar = 0 then s.bar0Word fn o else if bar = 2 then s.bar2Word fn o else 0
  if size = 4 && offset % 4 = 0 then word offset
  else if size = 8 && offset % 8 = 0 then word offset + 2 ^ 32 * word (offset + 4)
  else 0

end Sys2Proof.Machine
end

