-- ==== Sys2Proof/Machine/Sys.lean ====
section
/-! DEFINITION. The groups sys, fw, txn, fault, log and nv (chapters 15, 16, 17, 18, 20). -/

namespace Sys2Proof.Machine

/-! ### sys -/

/-- A command reset is scheduled; a zeroisation reset that is to follow stays (R550, R560). -/
def PwrSt.schedule (p : PwrSt) (cause : Nat) : PwrSt := { p with cmdReset := if p.cmdReset = some 5 then some 5 else some cause }

/-- `sys.reset`: the completion is written, and the device resets 1 ms later (R476). -/
def cmdSysReset (_h : CmdHdr) (confirm : Nat) : CmdMeta × CmdBody :=
  ({ op := 0x0101, plen := 4, action := true },
   { argOk := fun s => confirm = s.mbx.epoch
     act := fun s => cmdOut (s.onPwr fun p => p.schedule 3) })

/-- `sys.seal`: both fuse rows are programmed, irreversibly (R562). -/
def cmdSysSeal (_h : CmdHdr) (confirm code : Nat) : CmdMeta × CmdBody :=
  ({ op := 0x0102, plen := 8, action := true },
   { argOk := fun s => confirm = s.mbx.epoch && code = 0x5345414C
     check := fun s => judge [(s.isSealed, .state)]
     early := fun s => judge [(s.isSealed, .state)]
     act := fun s => cmdOut (s.onPwr fun p => { p with fuses := 3 }) })

/-- SET_VERSION of the running set; zero under the recovery monitor (R476, R509). -/
def State.fwVersion (s : State) : Nat :=
  if s.mgmt.running < 2 then (s.mgmt.sets.look {} s.mgmt.running).version else 0

/-- `sys.read_info` (R476). -/
def cmdSysReadInfo (_h : CmdHdr) : CmdMeta × CmdBody :=
  ({ op := 0x0141, who := .any },
   { argOk := fun _ => true
     act := fun s => cmdOut s
       [fld 64 s.mgmt.deviceId, fld 16 s.mgmt.hwRev, fld 8 s.pwr.st.code, fld 8 (b01 s.isSealed), fld 32 s.mbx.epoch,
        fld 32 s.fwVersion, fld 8 (b01 s.pwr.pairId)] })

/-- `sys.read_health`: the cause list goes to BZ00 only (R476, R530). -/
def cmdSysReadHealth (h : CmdHdr) : CmdMeta × CmdBody :=
  ({ op := 0x0142, who := .any, xbOut := h.fn = 0 },
   { argOk := fun _ => true
     act := fun s => cmdOut s
       [fld 8 (b01 s.degraded), fld 8 (b01 s.fault.replace), fld 16 s.fault.causes.length]
       (if h.fn = 0 then s.fault.causes.map (fld 16) else []) })

/-- The sensors in ID order (R493). -/
def sensorIds : List Nat := List.range 24 ++ (List.range 8).map (0x20 + ·) ++ (List.range 13).map (0x40 + ·)

/-- KIND of a sensor (R493). -/
def sensorKind (id : Nat) : SensorKind := if id < 0x20 then .temperature else if id < 0x40 then .voltage else .clock

/-- KIND code (R493). -/
def SensorKind.code : SensorKind → Nat
  | .temperature => 0 | .voltage => 1 | .clock => 2

/-- One sensor record (R493): VALUE is zero when STATUS is 3 or 4. -/
def sensorRecord (id : Nat) (x : Sensor) : Rec :=
  [fld 16 id, fld 8 (sensorKind id).code, fld 8 x.status, (32, if x.status = 3 || x.status = 4 then 0 else x.value)]

/-- `sys.read_sensors`: one record per sensor, then the three temperature totals (R493, R496). -/
def cmdSysReadSensors (_h : CmdHdr) : CmdMeta × CmdBody :=
  ({ op := 0x0143, xbOut := true },
   { argOk := fun _ => true
     act := fun s => cmdOut s [fld 16 45]
       ((sensorIds.flatMap fun i => sensorRecord i (s.mgmt.sensors.look {} i)) ++
         [fld 32 s.mgmt.hours.1, fld 32 s.mgmt.hours.2.1, fld 32 s.mgmt.hours.2.2]) })

/-! ### fw -/

/-- The set's bank has become read-only (R502). -/
def setReadOnly (s : State) (set : Nat) : Bool := (s.mgmt.banks.look {} set).readOnly

/-- A big-endian field of a manifest. -/
def manifestNum (b : FwBlob) (offset n : Nat) : Nat := beNum ((b.manifest.drop offset).take n)

/-- An entry of IMAGES is that of an image that is there (R506): its length and the first 20 bytes of its SHA-256. DEDUCED (assumption 161): kind,
version and length have four bytes each. -/
def imageOk (b : FwBlob) (i : Nat) : Bool :=
  let o := 20 + 32 * i
  match b.images[manifestNum b o 4]? with
  | none => false
  | some image => manifestNum b (o + 8) 4 = image.length && (b.manifest.drop (o + 12)).take 20 == (sha256Bytes image).take 20

/-- A manifest as R506 lays it out, with what the verification finds; none where it is no manifest. -/
def parseManifest (b : FwBlob) : Option FwImage :=
  let nhw := manifestNum b 6 2
  let ncomp := manifestNum b 18 2
  if manifestNum b 0 1 != 1 || manifestNum b 1 3 != 0 || nhw = 0 || 16 < nhw || 32 < ncomp || b.manifest.length != 116 + 2 * nhw + 4 * ncomp + 64 then none
  else some {
    sigOk := b.sigOk
    hashesOk := ((List.range 3).all fun k => (List.range 3).any fun i => manifestNum b (20 + 32 * i) 4 = k) && (List.range 3).all (imageOk b)
    product := manifestNum b 4 2, setVersion := manifestNum b 8 4, svn := manifestNum b 12 4, buildWeek := manifestNum b 16 2
    hwList := (List.range nhw).map fun i => manifestNum b (116 + 2 * i) 2
    comp := (List.range ncomp).map fun i => manifestNum b (116 + 2 * nhw + 4 * i) 4 }

/-- A set may be loaded: signature, product, hashes and, on a sealed device, SVN (R507, R562). -/
def State.mayLoad (s : State) (o : Option FwImage) : Bool :=
  match o with
  | none => false
  | some g => g.sigOk && g.product = 0x9256 && g.hashesOk && !(s.isSealed && decide (g.svn < s.mgmt.highSvn))

/-- `fw.load_image`: the image is judged first (R507, R562). -/
def cmdFwLoadImage (_h : CmdHdr) (set : Nat) (blob : FwBlob) : CmdMeta × CmdBody :=
  ({ op := 0x0201, plen := 1, action := true, xbIn := true },
   { argOk := fun _ => decide (set ≤ 1)
     check := fun s => judge [(!s.mayLoad (parseManifest blob), .ver), (s.mgmt.running = set || setReadOnly s set, .state)]
     early := fun s => judge [(!s.mayLoad (parseManifest blob), .ver)]
     act := fun s =>
       let img := (parseManifest blob).getD {}
       let f : FwSet := {
         st := .valid, verified := true, product := img.product, hw := img.hwList, version := img.setVersion, svn := img.svn,
         week := img.buildWeek, comp := img.comp }
       cmdOut (((s.onMgmt fun m => { m with sets := m.sets.put set f }).touch 0x02 set).writeBoot.writeBoot) })

/-- `fw.activate`: selects a VALID or CONFIRMED set whose list names this hardware (R507, R476). -/
def cmdFwActivate (_h : CmdHdr) (set whenCode : Nat) : CmdMeta × CmdBody :=
  ({ op := 0x0202, plen := 2, action := true },
   { argOk := fun _ => decide (set ≤ 1) && decide (whenCode ≤ 1)
     check := fun s =>
       let f := s.mgmt.sets.look {} set
       judge [(!(s.mgmt.hwRev ∈ f.hw), .ver), (!(f.st = .valid || f.st = .confirmed), .state)]
     act := fun s =>
       let s1 := ((s.onMgmt fun m => { m with selected := set }).touch 0x02 set).writeBoot
       { st := if whenCode = 1 then s1.onPwr fun p => p.schedule 4 else s1 } })

/-- Code of a set state, in the order of R507. -/
def SetState.code : SetState → Nat
  | .empty => 0 | .valid => 1 | .trial => 2 | .confirmed => 3 | .bad => 4

/-- `fw.read_sets` (R476, R507). -/
def cmdFwReadSets (_h : CmdHdr) : CmdMeta × CmdBody :=
  ({ op := 0x0241, xbOut := true },
   { argOk := fun _ => true
     act := fun s => cmdOut s [fld 8 s.mgmt.running]
       ((List.range 2).flatMap fun i =>
         let f := s.mgmt.sets.look {} i
         [fld 8 f.st.code, fld 8 (b01 (s.mgmt.selected = i)), fld 16 f.product, fld 32 f.version, fld 32 f.svn, fld 16 f.week,
          fld 8 f.hw.length, fld 8 f.comp.length] ++ f.hw.map (fld 16) ++ f.comp.map (fld 32)) })


/-! ### txn -/

/-- Open transactions in the device (R463). -/
def State.openTxns (s : State) : List Nat :=
  s.mbx.fns.flatMap fun p => p.2.queues.filterMap fun q => q.2.txn.map (·.id)

/-- The next 16-bit transaction identifier that is not zero and not in use (R463, R594). -/
def State.freshTxn (s : State) : Nat :=
  ((List.range 66).map fun i => (s.mbx.nextTxn - 1 + i) % 65535 + 1).find? (fun n => !(n ∈ s.openTxns)) |>.getD 1

/-- `txn.begin` (R463). -/
def cmdTxnBegin (h : CmdHdr) : CmdMeta × CmdBody :=
  ({ op := 0x0401, who := .any },
   { argOk := fun _ => true
     check := fun s => judge [(((s.fn h.fn).q h.queue).txn.isSome, .state), (decide (64 ≤ s.openTxns.length), .busy)]
     act := fun s =>
       let id := s.freshTxn
       { st := (s.onMbx fun m => { m with nextTxn := id % 65535 + 1 }).onQueue h.fn h.queue fun q => { q with txn := some { id := id } },
         result := [fld 16 id] } })

/-- The transaction named is open on the queue (R463). -/
def txnNamed (h : CmdHdr) (id : Nat) (s : State) : Bool :=
  match ((s.fn h.fn).q h.queue).txn with
  | none => false
  | some t => t.id = id

/-- `txn.abort` (R464). -/
def cmdTxnAbort (h : CmdHdr) (txnId : Nat) : CmdMeta × CmdBody :=
  ({ op := 0x0403, plen := 2, who := .any },
   { argOk := fun _ => true
     check := fun s => judge [(!txnNamed h txnId s, .state)]
     act := fun s => cmdOut (s.onQueue h.fn h.queue fun q => { q with txn := none }) })

/-- `txn.acquire_lock` (R24, R461). -/
def cmdTxnAcquireLock (h : CmdHdr) (sem : Nat) : CmdMeta × CmdBody :=
  ({ op := 0x0404, plen := 1, who := .any },
   { argOk := fun _ => decide (sem < 64)
     check := fun s =>
       let e := (s.fn h.fn).sems.look {} sem
       judge [(e.st = .held, .busy), (e.st = .abandoned, .abandoned)]
     act := fun s =>
       let g := (((s.fn h.fn).sems.look {} sem).gen + 1) % 65536
       { st := s.onFn h.fn fun x => { x with sems := x.sems.put sem { st := .held, owner := h.queue, gen := g } },
         result := [fld 16 g] } })

/-- `txn.release_lock` (R461). -/
def cmdTxnReleaseLock (h : CmdHdr) (sem gen : Nat) : CmdMeta × CmdBody :=
  ({ op := 0x0405, plen := 4, who := .any },
   { argOk := fun _ => decide (sem < 64)
     check := fun s =>
       let e := (s.fn h.fn).sems.look {} sem
       judge [(!(e.st = .held && e.owner = h.queue && e.gen = gen), .state)]
     act := fun s => cmdOut (s.onFn h.fn fun x => { x with sems := x.sems.upd {} sem fun e => { e with st := .free, owner := 0 } }) })


/-! ### fault, log, nv -/

/-- `fault.clear`: only bits whose source reads no error are removed (R20, R520). -/
def cmdFaultClear (_h : CmdHdr) (word : Nat) (mask : BitVec 32) : CmdMeta × CmdBody :=
  ({ op := 0x4101, plen := 8, action := true },
   { argOk := fun _ => decide (word < 16)
     act := fun s =>
       let live := s.fault.live.look 0 word
       cmdOut (s.onFault fun f => { f with
         sticky := f.sticky.upd 0 word fun w => w &&& ~~~(mask &&& ~~~live)
         logged := f.logged.upd 0 word fun w => w &&& ~~~(mask &&& ~~~live) }) })

/-- `fault.read`: the sticky words, then the live words (R520). -/
def cmdFaultRead (_h : CmdHdr) : CmdMeta × CmdBody :=
  ({ op := 0x4141, xbOut := true },
   { argOk := fun _ => true
     act := fun s => cmdOut s []
       (((List.range 16).map fun i => fld 32 (s.fault.sticky.look 0 i).toNat) ++
         ((List.range 16).map fun i => fld 32 (s.fault.live.look 0 i).toNat)) })

/-- A log entry of 64 bytes with its CRC (R504); one whose CRC fails has its LSEQ and CODE 0xFFFF alone (R505). -/
def logRecord (e : LogEntry) : Rec :=
  if e.torn then [fld 32 e.lseq, rsv 160, fld 16 0xFFFF, rsv 304] else
  let body : Rec := [fld 32 e.lseq, fld 32 e.epoch] ++ etwRec e.time ++
    [fld 16 e.code, fld 8 e.severity, rsv 8, fld 32 e.count, fld 32 e.subject] ++ padTo 24 e.detail
  body ++ [fld 32 (crc32 body.toBytes)]

/-- `log.read`: from LSEQ FIRST in ascending order; an older FIRST starts at the oldest (R505). -/
def cmdLogRead (_h : CmdHdr) (first max : Nat) : CmdMeta × CmdBody :=
  ({ op := 0x4241, plen := 8, xbOut := true },
   { argOk := fun _ => true
     act := fun s =>
       let es := (s.mgmt.log.filter fun e => decide (first ≤ e.lseq)).take max
       cmdOut s [fld 32 (match es.getLast? with | none => first | some e => (e.lseq + 1) % 2 ^ 32)]
         (es.flatMap logRecord) })

/-- `log.read_status` (R485, R505). -/
def cmdLogReadStatus (_h : CmdHdr) : CmdMeta × CmdBody :=
  ({ op := 0x4242 },
   { argOk := fun _ => true
     act := fun s => cmdOut s
       [fld 32 ((s.mgmt.log.head?.map (·.lseq)).getD s.mgmt.lseq), fld 32 ((s.mgmt.log.getLast?.map (·.lseq)).getD s.mgmt.lseq),
        fld 32 s.mgmt.coalesced] })

/-- `nv.reset_config`: takes effect at the next device reset (R485, R503). -/
def cmdNvResetConfig (_h : CmdHdr) (confirm : Nat) : CmdMeta × CmdBody :=
  ({ op := 0x4301, plen := 4, action := true },
   { argOk := fun s => confirm = s.mbx.epoch ^^^ 0x43464721
     act := fun s => cmdOut (s.onMgmt fun m => { m with nvReset := true }) })

/-- `nv.read_status`: bank states, wear and the two generations of the boot record and of each record (R502); the layout is the model's own. -/
def cmdNvReadStatus (_h : CmdHdr) : CmdMeta × CmdBody :=
  ({ op := 0x4341, xbOut := true },
   { argOk := fun _ => true
     act := fun s => cmdOut s []
       (((List.range 4).flatMap fun i =>
           let b := s.mgmt.banks.look {} i
           [fld 8 (b01 b.readOnly), rsv 24, fld 32 b.wear]) ++ [fld 32 s.mgmt.boot.c0.gen, fld 32 s.mgmt.boot.c1.gen] ++
         (s.mgmt.recs.flatMap fun p => [fld 64 p.1, fld 32 p.2.c0.gen, fld 32 p.2.c1.gen])) })


end Sys2Proof.Machine
end

