-- ==== Sys2Proof/Machine/Mgmt.lean ====
section
/-! DEFINITION. Processors, interrupt controller, sensors, event log and firmware states (chapter 17), heartbeat and the
MP's reading of the fault words (chapter 18). -/

namespace Sys2Proof.Machine

/-- The MP cores disagree: the MP restarts (R488). The instant of the first mismatch is kept for 24 h. -/
def onMpLockstepMismatch (s : State) : State :=
  if s.mgmt.mpStopped || s.mgmt.mpRestart then s
  else
    let second := match s.mgmt.mismatch with
      | none => false
      | some t => decide (s.upNs < t + 86400000000000)
    (((s.setPin 14 23 false).clearPin 14 23).onMgmt fun m => { m with
      mpRestart := true, mpSecond := second, mismatch := if second then m.mismatch else some s.upNs
      writing := m.writing.map fun w => if s.wordAt w < w.words then { w with stopped := some (s.wordAt w) } else w }).fireMp

/-- The commands that the MP was executing complete with E_BUSY, having changed nothing (R489): the head of each queue, unless its commit step is
done and it waits for the partner, or it waits for its FENCE. -/
def State.busyHeads (s : State) : State :=
  s.bezels.foldl (fun t b => (List.range 4).foldl (fun u q =>
    match ((u.fn b).q q).inflight with
    | x :: _ => if x.begun || !fenceOk x.entry.hdr x.order u then u else complete b q x.seq x.entry.hdr.tag .busy false [] [] u
    | [] => u) t) s

/-- The MP restart ends (R488, R607); a write of MRAM that it cut short is redone to the same copy (R515). In time it is a transient, or the declared fatal fault of a second mismatch; not in
time it is fatal through the heartbeat timeout. -/
def onMpRestartComplete (inTime : Bool) (s : State) : State :=
  if !s.mgmt.mpRestart then s
  else if inTime then
    let s1 := s.busyHeads.onMgmt fun m => { m with
      mpRestart := false, mpSecond := false, transients := m.transients + 1
      writing := m.writing.map fun w => if w.stopped.isSome then { w with stopped := none, at_ := s.upNs } else w }
    let s2 := if s.mgmt.mpSecond then s1.declareFatal else (s1.log 0x4380 2 0).addCause 0x0800
    s2.heartbeat.icuTake 0
  else
    ((s.stopMp.setPin 15 28 false).fireMp).latchFatal

/-- A TP core goes out of service until device reset; the loss of all four is fatal (R490). -/
def State.tpCoreOut (s : State) (core : Nat) : State :=
  if !decide (core < 4) || core ∈ s.mgmt.tpOut then s
  else
    let s1 := (s.onMgmt fun m => { m with tpOut := m.tpOut ++ [core] }).addCause (0x0900 + core)
    if s1.mgmt.tpOut.length = 4 then s1.declareFatal else s1

/-- A TP core misses its 10 ms heartbeat (R490). -/
def onTpHeartbeatTimeout (core : Nat) (s : State) : State := s.tpCoreOut core

/-- The MP writes its heartbeat: ALIVE starts at the first after a device reset (R527). -/
def onMpHeartbeat (s : State) : State :=
  if s.mgmt.mpStopped || s.mgmt.mpRestart then s
  else s.heartbeat

/-- 101 ms without a heartbeat: fatal (R523, R527). -/
def onHeartbeatTimeout (s : State) : State :=
  ((s.stopMp.setPin 15 28 false).fireMp).latchFatal

/-! ### Interrupt controller (R491, R492) -/

/-- An interrupt source fires (R492). -/
def onInterruptSourceFire (src : Nat) (s : State) : State :=
  if 1216 ≤ src then s
  else
    let s1 := s.onMgmt fun m => { m with icu := m.icu.upd {} src IcuSrc.fire }
    s1.icuTake (icuTarget src (s1.mgmt.icu.look {} src))

/-- A target's end-of-interrupt write (R492). -/
def onEndOfInterrupt (src : Nat) (s : State) : State :=
  let x := s.mgmt.icu.look {} src
  match x.st with
  | .active => (s.onMgmt fun m => { m with icu := m.icu.put src { x with st := .inactive } }).icuTake (icuTarget src x)
  | .activePending => (s.onMgmt fun m => { m with icu := m.icu.put src { x with st := .pending, again := true } }).icuTake (icuTarget src x)
  | .inactive => s
  | .pending => s

/-! ### Sensors (R493-R496) -/

/-- FSW15 bit of a rail monitor, in the order of R493 (R519). -/
def railBit (n : Nat) : Nat := [16, 17, 19, 20, 18, 21, 22, 23].getD n 23

/-- A temperature sensor fails: a reading outside its range of -55 C to 175 C, or diodes that disagree by more than 5 K (R493, R495). -/
def sensorFails (r : SensorReading) : Bool := decide (r.value < -880 ∨ 2800 < r.value ∨ 80 < (r.value - r.second).natAbs)

/-- The operating conditions of a rail monitor, in uV, in the order of R493 (R571). -/
def railRange (n : Nat) : Int × Int :=
  [(727500, 772500), (776000, 824000), (824500, 875500), (1140000, 1260000), (1746000, 1854000), (1710000, 1890000), (3135000, 3465000),
   (1800000, 3600000)].getD n (1800000, 3600000)

/-- A rail lies within its operating conditions (R494, R571). -/
def railIn (id : Nat) (v : Int) : Bool := decide ((railRange (id - 0x20)).1 ≤ v ∧ v ≤ (railRange (id - 0x20)).2)

/-- A clock is configured, in the order of R493: MOSC, the frequency inputs, the Pendants, the GNSS streams. -/
def State.clockOn (s : State) (n : Nat) : Bool :=
  if n = 0 then true
  else if n < 5 then (s.inp (refCki (n - 1))).st != .off
  else if n < 9 then (s.inp (refPend (n - 5))).st != .off
  else (s.gnss.streams.look {} (n - 9)).cfg.enable = 1

/-- STATUS of a clock monitor (R493, R494): absent, good within 100 parts per million of nominal, else out of range. -/
def State.clockStatus (s : State) (id : Nat) (r : SensorReading) : Nat :=
  if !s.clockOn (id - 0x40) then 4 else if r.edges && decide (r.value.natAbs ≤ 100000) then 0 else 2

/-- The next status of a temperature sensor: failed until device reset, warning above 150 C until below 145 C (R494, R495). -/
def tempStatus (old : Nat) (r : SensorReading) : Nat :=
  if old = 3 || sensorFails r then 3
  else if 2400 < r.value then 1
  else if old = 1 && decide (2320 ≤ r.value) then 1
  else 0

/-- The hottest working temperature sensor, 2^-4 C. -/
def State.hottest (s : State) : Int :=
  ((s.mgmt.sensors.filter fun p => decide (p.1 < 24) && p.2.status != 3).map (·.2.value)).foldl max (-880)

/-- A temperature reading (R494-R496); the totals count one 10 ms period at each reading of TS00. -/
def State.tempUpdate (s : State) (id : Nat) (r : SensorReading) : State :=
  let old := (s.mgmt.sensors.look {} id).status
  let st := tempStatus old r
  let s1 := s.onMgmt fun m => { m with sensors := m.sensors.put id { status := st, value := r.value } }
  let s2 := if st = 1 then s1.addCause (0x0A00 + id) false else s1.dropCause (0x0A00 + id)
  let s3 := if st = 3 && old != 3 then s2.addCause (0x0B00 + id) else s2
  if id != 0 then s3
  else
    let h := s3.hottest
    s3.onMgmt fun m => { m with hot :=
      (m.hot.1 + b01 (decide (1680 < h)), m.hot.2.1 + b01 (decide (2000 < h)), m.hot.2.2 + b01 (decide (2400 < h))) }

/-- A rail out of range raises its fault-collector source (R494); VBAT loses nothing while the main rails are up (R558). -/
def State.railUpdate (s : State) (id : Nat) (r : SensorReading) : State :=
  let b := railBit (id - 0x20)
  let s1 := s.onMgmt fun m => { m with sensors := m.sensors.put id { status := if railIn id r.value then 0 else 2, value := r.value } }
  let s2 := if id = 0x27 then s1.onPwr fun p => { p with vbatOk := railIn id r.value } else s1
  if railIn id r.value then (s2.clearPin 15 b).dropCause (0x0E00 + b)
  else
    let s3 := (s2.setPin 15 b false).fireMp
    match severityOf 15 b with
    | .fatal => s3.latchFatal
    | .contain => s3.addCause (0x0E00 + b)
    | .squelch => s3
    | .notice => if (s.mgmt.sensors.look {} id).status = 2 then s3 else s3.notice 15 b

/-- A sensor is read and judged (R493-R496). -/
def onSensorUpdate (id : Nat) (reading : SensorReading) (s : State) : State :=
  if !(id ∈ sensorIds) then s
  else
    match sensorKind id with
    | .temperature => s.tempUpdate id reading
    | .voltage => s.railUpdate id reading
    | .clock =>
      let x : Sensor := { status := s.clockStatus id reading, value := reading.value }
      s.onMgmt fun m => { m with sensors := m.sensors.put id x }

/-- The temperature-hour totals are written to MRAM (R496). -/
def onTemperatureHoursWrite (s : State) : State :=
  (s.onMgmt fun m => { m with hours := (m.hot.1 / 360000, m.hot.2.1 / 360000, m.hot.2.2 / 360000) }).store 0x43 1
    (some (.hours s.mgmt.hours))

/-! ### Event log (R504, R505) -/

/-- Staged entries are written to the ring, the coalesced entries of earlier seconds with them (R43, R504), and the log pointers to the boot record
(R500). A bank at one of whose pages the verification fails is reported by its error pin (R502, R518). -/
def onLogFlush (s : State) : State :=
  let old := s.mgmt.coal.filter fun e => e.time.sec != s.sec
  let s1 := old.foldl (fun t e => t.logPut e) (s.onMgmt fun m => { m with coal := m.coal.filter fun e => e.time.sec = s.sec })
  if s1.mgmt.staged.isEmpty then s1
  else
    s1.writeBoot.onMgmt fun m =>
      let l := m.log ++ m.staged
      { m with
        log := l.drop (l.length - s1.logSize), staged := []
        writing := some { words := 8 * m.staged.length, at_ := s1.upNs, old := .ring m.log m.staged } }

/-! ### Firmware -/

/-- The running image hashes are rechecked (R510, R515): a mismatch enters RESTRICTED without a reset. -/
def onImageHashCheck (good : Bool) (s : State) : State :=
  if good || !(s.pwr.st = .run || s.pwr.st = .degraded) then s
  else
    let s1 := s.bezels.foldl (fun t b => (List.range 4).foldl (fun u q => u.rollback b q) t) s
    let s2 := if s.tc.ts = .locked then s1.onTc fun c => { c with force := true } else s1
    (s2.setPower .restricted).raise0 0x0201 [fld 8 s.mgmt.running, fld 8 1]

/-- A TRIAL set that has run 600 s in RUN or DEGRADED without an MP restart becomes CONFIRMED (R507). -/
def onFirmwareConfirm (s : State) : State :=
  let f := s.mgmt.sets.look {} s.mgmt.running
  if f.st = .trial && (s.pwr.st = .run || s.pwr.st = .degraded) then
    ((s.onMgmt fun m => { m with sets := m.sets.put m.running { f with st := .confirmed }, highSvn := max m.highSvn f.svn }).touch 0x02 s.mgmt.running).writeBoot
      (some (.sets s.mgmt.sets s.mgmt.highSvn))
  else s

/-- The MP reads every fault status word and logs one entry per newly set bit (R521). -/
def onFswPoll (s : State) : State :=
  if s.mgmt.mpStopped || s.mgmt.mpRestart then s
  else
    (List.range 16).foldl (fun t w =>
      let new := t.fault.sticky.look 0 w &&& ~~~(t.fault.logged.look 0 w)
      let t1 := (List.range 32).foldl (fun u i => if nbit new.toNat i then u.log 0x4180 3 (w * 32 + i) else u) t
      t1.onFault fun f => { f with logged := f.logged.put w (f.sticky.look 0 w) }) s

/-- MP_LOCKSTEP_MISMATCH (R488). -/
def execMpLockstepMismatch (s : State) : Host.Outcome State Fault Refusal :=
  .next (if s.alive then onMpLockstepMismatch s else s)

/-- MP_RESTART_COMPLETE (R488). -/
def execMpRestartComplete (inTime : Bool) (s : State) : Host.Outcome State Fault Refusal :=
  .next (if s.alive then onMpRestartComplete inTime s else s)

/-- TP_HEARTBEAT_TIMEOUT (R490). -/
def execTpHeartbeatTimeout (core : Nat) (s : State) : Host.Outcome State Fault Refusal :=
  .next (if s.alive then onTpHeartbeatTimeout core s else s)

/-- MP_HEARTBEAT (R527). -/
def execMpHeartbeat (s : State) : Host.Outcome State Fault Refusal :=
  .next (if s.alive then onMpHeartbeat s else s)

/-- HEARTBEAT_TIMEOUT (R527). -/
def execHeartbeatTimeout (s : State) : Host.Outcome State Fault Refusal :=
  .next (if s.alive then onHeartbeatTimeout s else s)

/-- INTERRUPT_SOURCE_FIRE (R492). -/
def execInterruptSourceFire (src : Nat) (s : State) : Host.Outcome State Fault Refusal :=
  .next (if s.alive then onInterruptSourceFire src s else s)

/-- END_OF_INTERRUPT (R492). -/
def execEndOfInterrupt (src : Nat) (s : State) : Host.Outcome State Fault Refusal :=
  .next (if s.alive then onEndOfInterrupt src s else s)

/-- SENSOR_UPDATE (R494). -/
def execSensorUpdate (id : Nat) (reading : SensorReading) (s : State) : Host.Outcome State Fault Refusal :=
  .next (if s.alive then onSensorUpdate id reading s else s)

/-- TEMPERATURE_HOURS_WRITE (R496). -/
def execTemperatureHoursWrite (s : State) : Host.Outcome State Fault Refusal :=
  .next (if s.alive then onTemperatureHoursWrite s else s)

/-- LOG_FLUSH (R504). -/
def execLogFlush (s : State) : Host.Outcome State Fault Refusal :=
  .next (if s.alive then onLogFlush s else s)

/-- IMAGE_HASH_CHECK (R510). -/
def execImageHashCheck (good : Bool) (s : State) : Host.Outcome State Fault Refusal :=
  .next (if s.alive then onImageHashCheck good s else s)

/-- FIRMWARE_CONFIRM (R507). -/
def execFirmwareConfirm (s : State) : Host.Outcome State Fault Refusal :=
  .next (if s.alive then onFirmwareConfirm s else s)

/-- FSW_POLL (R521). -/
def execFswPoll (s : State) : Host.Outcome State Fault Refusal :=
  .next (if s.alive then onFswPoll s else s)


end Sys2Proof.Machine
end

