-- ==== Sys2Proof/Machine/Out.lean ====
section
/-! DEFINITION. The out commands and the events of output loops and outputs (chapter 07). -/

namespace Sys2Proof.Machine

/-! ### Loop commands -/

/-- The loop has an output assigned, enabled or not, that bears time or that the GBB owns (R217). -/
def State.loopCarries (s : State) (l : Nat) : Bool :=
  outKeys.any fun k => (s.pin k).cfg.loop = l && (timeBearing (s.pin k).cfg || s.gbbCko k)

/-- `out.set_loop` (R208, R209). -/
def cmdOutSetLoop (_h : CmdHdr) (loop enable fl bw : Nat) : CmdMeta × CmdBody :=
  ({ op := 0x1401, plen := 16, mirrored := true },
   { argOk := fun _ => decide (loop < 8) && decide (enable ≤ 1) && decide (9600000000 * 65536 ≤ fl) && decide (fl ≤ 11200000000 * 65536)
       && decide (10 ≤ bw) && decide (bw ≤ 2000)
     check := fun s => judge [(fl != (s.loop loop).fl && outKeys.any (fun k => (s.pin k).on && (s.pin k).cfg.loop = loop), .state)]
     act := fun s =>
       let s1 := s.onLoop loop fun x => { x with en := enable = 1, fl := fl, bw := bw }
       let s2 := if enable = 0 then s1.setLoop loop .freeRun else s1.startLoops
       cmdOut (s2.followPins.store 0x14 loop) })

/-- `out.reset_loop` (R209). -/
def cmdOutResetLoop (_h : CmdHdr) (loop : Nat) : CmdMeta × CmdBody :=
  ({ op := 0x1402, plen := 1, mirrored := true, action := true },
   { argOk := fun _ => decide (loop < 8)
     check := fun s => judge [((s.loop loop).st != .lost, .state)]
     act := fun s => cmdOut ((s.setLoop loop .acquiring).touch 0x14 loop) })

/-- `out.set_offset` (R215-R217). -/
def cmdOutSetOffset (_h : CmdHdr) (loop : Nat) (yo : Int) (slope : Nat) : CmdMeta × CmdBody :=
  ({ op := 0x1404, plen := 12, mirrored := true },
   { argOk := fun s => decide (loop < 8) && decide (yo.natAbs ≤ 1000000000) && decide (1 ≤ slope) && decide (slope ≤ 1000000)
       && decide (rabs ((yo : Rat) - s.loopOffset loop) ≤ 200000000)
       && dcoOk (s.loop loop).fl (yo : Rat) (s.loop loop).ssc (s.loop loop).depth
     check := fun s => judge [(yo != 0 && s.loopCarries loop, .conflict)]
     act := fun s => cmdOut ((s.onLoop loop fun x => { x with
       y0 := s.loopOffset loop, y1 := yo, slope := slope, rampAt := s.upNs, ramping := decide (s.loopOffset loop ≠ (yo : Rat)) }).store 0x14 loop) })

/-- `out.set_ssc` (R216, R217). -/
def cmdOutSetSsc (_h : CmdHdr) (loop mode depth rate : Nat) : CmdMeta × CmdBody :=
  ({ op := 0x1405, plen := 8, mirrored := true },
   { argOk := fun s => decide (loop < 8) && decide (mode ≤ 2) && (mode = 0 ||
       (decide (depth ≤ (if mode = 1 then 50 else 25)) && decide (30000 ≤ rate) && decide (rate ≤ 33000)
         && dcoOk (s.loop loop).fl (s.loopOffset loop) mode depth && dcoOk (s.loop loop).fl ((s.loop loop).y1 : Rat) mode depth))
     check := fun s => judge [(mode != 0 && s.loopCarries loop, .conflict)]
     act := fun s => cmdOut ((s.onLoop loop fun x => { x with ssc := mode, depth := depth, rate := rate }).store 0x14 loop) })

/-! ### Output commands -/

/-- The fields of an output lie in their ranges, and no excluded combination is asked for (R211). -/
def State.outputArgsOk (s : State) (a : OutputArgs) : Bool :=
  let fl := (s.loop a.loop).fl
  outputOk a.kind a.index && decide (a.enable ≤ 1) && decide (a.loop < 8) && decide (a.offset.natAbs ≤ 500000000000) && decide (a.align ≤ 1) &&
  decide (a.polarity ≤ 1) && decide (a.scale ≤ 3) && decide (a.irig ≤ 7) && decide (a.ieee1344 ≤ 1) &&
  (if a.kind = 0 then
    decide (a.mode ≤ 1) && decide (4 ≤ a.d) && decide (a.d ≤ 2 ^ 30)
      && decide (fl ≤ (if a.index < 8 then 2500000000 else 250000000) * 65536 * a.d) && (a.mode = 0 || fl % (65536 * a.d) = 0)
  else
    decide (a.mode ≤ (if a.kind = 1 then 2 else 4)) && decide (1 ≤ a.rate) && decide (a.rate ≤ 10000000) && 1000000000 % a.rate = 0
      && decide (10 ≤ a.width) && decide (a.width ≤ 900000000) && (a.mode != 1 || decide (a.width * a.rate < 1000000000)))

/-- A field that may not change on an enabled output differs (R211). -/
def frozenFieldsDiffer (o a : OutputArgs) : Bool :=
  o.loop != a.loop || o.mode != a.mode || (if a.kind = 0 then o.d != a.d else o.rate != a.rate)

/-- The effect of an OFFSET change on a running output is prepared (R220): its record is due with the widening, and it takes effect at
the first top of the second at least 2 ms after the record, which is published within 30 us; a later record puts it off. A change that waits is
replaced. -/
def State.planOffset (s : State) (key : Nat) (f : Int) : State :=
  let o := s.pin key
  let old : Rat := match o.next with | some (g, _) => s.offsetMove o g | none => 0
  let d := s.offsetMove o f
  let s1 := s.onPin key fun p =>
    let q := { p with moves := if p.trans then p.moves - rabs old else p.moves }
    { q.startTrans key d with next := some (f, s.topAfter 2030000), cover := none }
  s1.hallWiden [pointOfKey key]

/-- `out.set_output` (R206, R211, R217, R220, R221). -/
def cmdOutSetOutput (_h : CmdHdr) (a : OutputArgs) : CmdMeta × CmdBody :=
  let key := outKey a.kind a.index
  ({ op := 0x1403, plen := 30, mirrored := true },
   { argOk := fun s => s.outputArgsOk a
     check := fun s =>
       let o := s.pin key
       judge [(o.on && frozenFieldsDiffer o.cfg a, .state), ((timeBearing a || s.gbbCko key) && s.loopMoves a.loop, .conflict), ((a.enable = 1 && s.gbbCko key) || s.laePin key, .conflict)]
     act := fun s =>
       let o := s.pin key
       let late := o.gen && timeBearing o.cfg && a.enable = 1 && (o.cfg.offset != a.offset || o.next.isSome)
       let s1 := s.onPin key fun p => { p with cfg := { a with offset := if late then p.cfg.offset else a.offset } }
       let s2 := if late then s1.planOffset key a.offset else s1
       let s3 := s2.followPin key
       cmdOut (s3.store 0x14 (256 + key)) [fld 32 (if late then s.topAfter 2030000 else 0)] })

/-- `out.set_slew` (R219): the phase moved so far was moved at the old rate. -/
def cmdOutSetSlew (_h : CmdHdr) (kind index rate : Nat) : CmdMeta × CmdBody :=
  ({ op := 0x1406, plen := 8, mirrored := true },
   { argOk := fun _ => outputOk kind index && decide (1 ≤ rate) && decide (rate ≤ 10000)
     act := fun s => 
       let key := outKey kind index
       cmdOut (((s.onPin key fun p => { p with sOut := rate, rem := s.pinLeft p, remAt := s.upNs }).followPin key).store 0x14 (256 + key)) })

/-- `out.read_status` (R480, R539): loop states and counters, alignment states and last errors; the layout is the model's own. -/
def cmdOutReadStatus (_h : CmdHdr) : CmdMeta × CmdBody :=
  ({ op := 0x1441, xbOut := true },
   { argOk := fun _ => true
     act := fun s => cmdOut s []
       (((List.range 8).flatMap fun l => [fld 8 (s.loop l).st.code, bit (s.loop l).en, bit (s.loop l).ramping, rsv 22, (32, (s.loop l).y1),
           fld 48 ((s.loop l).cnt.look 0 0), rsv 16, fld 48 ((s.loop l).cnt.look 0 1), rsv 16]) ++
        (outKeys.flatMap fun k => [fld 8 (s.pin k).st.code, bit (s.pin k).on, bit (s.pin k).gen, bit (s.pin k).trans, rsv 21,
           (32, match (s.pin k).err with | some e => roundHalf e | none => 0)])) })


/-! ### Loop events (R209, R215) -/

/-- The phase error has stayed within 20 ps for 1 ms (R209). -/
def onLoopLockAchieved (l : Nat) (s : State) : State := if (s.loop l).st = .acquiring then s.setLoop l .locked else s

/-- The phase error has exceeded 500 ps for 16 cycles (R209). -/
def onLoopPhaseError (l : Nat) (s : State) : State := if (s.loop l).st = .locked then s.setLoop l .acquiring else s

/-- LOCKED not reached within 100 ms (R209). -/
def onLoopAcquireTimeout (l : Nat) (s : State) : State := if (s.loop l).st = .acquiring then s.loseLoop l 3 else s

/-- The time clock is lost or the TDC error pin is raised (R209). -/
def onLoopHoldoverCause (l : Nat) (s : State) : State :=
  if (s.loop l).st = .acquiring || (s.loop l).st = .locked then s.setLoop l .holdover else s

/-- The cause has been clear for 1 ms (R209). -/
def onLoopCauseCleared (l : Nat) (s : State) : State :=
  if (s.loop l).st = .holdover && s.timeClockGood && !(s.loop l).tdc then s.setLoop l .acquiring else s

/-- The tuning word has been at a range limit for 1 ms (R209). The words clamped in it are counted (R539): how many is free (assumption 167). -/
def onLoopTuningLimit (l : Nat) (s : State) : State :=
  if (s.loop l).st = .freeRun || (s.loop l).st = .lost then s
  else (s.onLoop l fun x => { x with cnt := x.cnt.upd 0 0 (· + Config.clampedWords (x.cnt.look 0 0)) }).loseLoop l 2

/-- A ramp reaches its new value (R215). -/
def onOffsetRampEnd (l : Nat) (s : State) : State := s.onLoop l fun x => { x with ramping := false }

/-- LOOP_LOCK_ACHIEVED (R209). -/
def execLoopLockAchieved (loop : Nat) (s : State) : Host.Outcome State Fault Refusal :=
  .next (if s.alive then onLoopLockAchieved loop s else s)

/-- LOOP_PHASE_ERROR (R209). -/
def execLoopPhaseError (loop : Nat) (s : State) : Host.Outcome State Fault Refusal :=
  .next (if s.alive then onLoopPhaseError loop s else s)

/-- LOOP_ACQUIRE_TIMEOUT (R209). -/
def execLoopAcquireTimeout (loop : Nat) (s : State) : Host.Outcome State Fault Refusal :=
  .next (if s.alive then onLoopAcquireTimeout loop s else s)

/-- LOOP_HOLDOVER_CAUSE (R209). -/
def execLoopHoldoverCause (loop : Nat) (s : State) : Host.Outcome State Fault Refusal :=
  .next (if s.alive then onLoopHoldoverCause loop s else s)

/-- LOOP_CAUSE_CLEARED (R209). -/
def execLoopCauseCleared (loop : Nat) (s : State) : Host.Outcome State Fault Refusal :=
  .next (if s.alive then onLoopCauseCleared loop s else s)

/-- LOOP_TUNING_LIMIT (R209). -/
def execLoopTuningLimit (loop : Nat) (s : State) : Host.Outcome State Fault Refusal :=
  .next (if s.alive then onLoopTuningLimit loop s else s)

/-- OFFSET_RAMP_END (R215). -/
def execOffsetRampEnd (loop : Nat) (s : State) : Host.Outcome State Fault Refusal :=
  .next (if s.alive then onOffsetRampEnd loop s else s)


/-! ### Output events (R214, R219-R222) -/

/-- At a top of the TAI second a time-bearing output whose disabling causes other than the claim have ended starts at its target
(R214, R221); a transient lasts until the first measurement taken then (R220). -/
def onOutputRelease (kind index : Nat) (s : State) : State :=
  let key := outKey kind index
  let o := s.pin key
  if !outputOk kind index || !timeBearing o.cfg || o.gen || s.pinHeld o then s
  else (s.onPin key fun p => { p with gen := true, rem := 0 }).followPin key

/-- An OFFSET change takes effect at its top of the second, not before the record with its widening allows it (R81, R220, R222). -/
def onOffsetChangeEffect (kind index : Nat) (s : State) : State :=
  if outputOk kind index then s.offsetEffect (outKey kind index) else s

/-- A SLEWING output reaches its target at a pulse (R218, R219). -/
def onOutputAligned (kind index : Nat) (s : State) : State :=
  let key := outKey kind index
  let o := s.pin key
  if !outputOk kind index || !o.gen || o.rem = 0 then s else (s.onPin key fun p => { p with rem := 0 }).followPin key

/-- OUTPUT_RELEASE (R214). -/
def execOutputRelease (kind index : Nat) (s : State) : Host.Outcome State Fault Refusal :=
  .next (if s.alive then onOutputRelease kind index s else s)

/-- OFFSET_CHANGE_EFFECT (R220). -/
def execOffsetChangeEffect (kind index : Nat) (s : State) : Host.Outcome State Fault Refusal :=
  .next (if s.alive then onOffsetChangeEffect kind index s else s)

/-- OUTPUT_ALIGNED (R219). -/
def execOutputAligned (kind index : Nat) (s : State) : Host.Outcome State Fault Refusal :=
  .next (if s.alive then onOutputAligned kind index s else s)


/-! ### Bead code and IRIG-B (R223-R226) -/

/-- The TAI second whose top plus OFFSET lies 1 ms ahead: the frame's on-time instant (R225). -/
def State.frameSecond (s : State) (o : OutPin) : Nat :=
  (((s.nowNs : Int) + 1000000 - o.cfg.offset / 1000 + 500000000) / 1000000000).toNat

/-- The record a frame built now carries (R225): unbounded where its validity window ends before the on-time instant. -/
def State.frameRecord (s : State) (o : OutPin) (key : Nat) : HallRec :=
  let r := s.carried (pointOfKey key)
  let onTime : Int := (s.frameSecond o : Int) * 1000000000 + o.cfg.offset / 1000
  let age := ((onTime - ((r.issueSec : Int) * 1000000000 + (r.issueSub : Int) * 3906250)) % (2 ^ 32 * 1000000000 : Int))
  if 1100000000 < age then { r with bound := 0xFFFFFFFF } else r

/-- The second is the inserted second 23:59:60 UTC (R59). -/
def insertedAt (t : List LeapEntry) (sec : Nat) : Bool := (leapSteps t).any fun p => p.2.tEff = sec && decide (p.1 < p.2.offset)

/-- A timescale by its TAG (R14). -/
def scaleOfTag (t : Nat) : Scale := if t = 0 then .tai else if t = 1 then .utc else if t = 2 then .gps else .loc

/-- Bits 0 to 95 of a bead frame (R223, R224). -/
def beadBits (sec tag : Nat) (r : HallRec) (insert valid : Bool) : List Bool :=
  let head := lsbBits 40 sec ++ lsbBits 2 tag ++ lsbBits 32 r.bound ++ lsbBits 3 r.state ++ [r.leap61, r.leap59, insert, valid] ++ lsbBits 6 0
  let body := head ++ lsbBits 8 (crcBits 8 7 0 head)
  body ++ [body.foldl xor false]

/-- The half cells of biphase-mark code after a level (R223): every cell begins with a transition, and a 1 has another at mid-cell. -/
def biphase (level : Bool) (bits : List Bool) : List Bool :=
  match bits with
  | [] => []
  | b :: r => (!level) :: (if b then level else !level) :: biphase (if b then level else !level) r

/-- The line of a bead frame in 5 ms half cells (R223): high for 15 ms, low for 15 ms, high and low for 5 ms each, then the data; POLARITY sets the level
that is high. -/
def beadLine (inverted : Bool) (bits : List Bool) : List Bool :=
  ([true, true, true, false, false, false, true, false] ++ biphase false bits).map fun h => h != inverted

/-- A bead-code frame is built (R223-R225). -/
def onBeadFrameBuild (tco : Nat) (s : State) : State :=
  let key := 40 + tco
  let o := s.pin key
  if 4 ≤ tco || o.cfg.mode != 3 || !o.gen then s
  else
    let t := s.frameSecond o
    let tag := o.cfg.scale
    let r := s.frameRecord o key
    let ins := (tag = 1 || tag = 3) && insertedAt s.tc.leap t
    let valid := r.bound != 0xFFFFFFFF && (tag = 0 || tag = 2 || !s.tc.leap.isEmpty)
    let bits := beadBits (s.scaleSec (scaleOfTag tag) t) tag r ins valid
    s.onPin key fun p => { p with bead := some { bits := bits, line := beadLine (o.cfg.polarity = 1) bits } }

/-- The time-quality code of a bound (R226): code k stands for 10^(k-1) ns. -/
def qualityOf (bound : Nat) : Nat :=
  if bound = 0xFFFFFFFF then 15
  else match (List.range 11).find? fun k => decide (bound ≤ 10 ^ k * 1000) with
    | some k => k + 1
    | none => 15

/-- The low n decimal digits of a number, each as its four bits, least significant first. -/
def bcdBits (n v : Nat) : List (List Bool) := (List.range n).map fun i => lsbBits 4 (v / 10 ^ i % 10)

/-- Places and values of bits from an element on. -/
def placed (start : Nat) (bits : List Bool) : List (Nat × Bool) := (zipIdx bits).map fun p => (start + p.1, p.2)

/-- The formats that code a year, control functions and straight binary seconds (R226). PRESUMED (assumption 151): IRIG Standard 200. -/
def irigYear (f : Nat) : Bool := decide (4 ≤ f)
def irigSbs (f : Nat) : Bool := f ∈ [0, 3, 4, 7]

/-- The elements that code a one (R226). PRESUMED (assumption 151): the places of IRIG Standard 200 and of the IEEE 1344 control functions, whose parity over
the elements before it is odd; the offset is coded in hours and half hours. -/
def IrigFrame.ones (f : IrigFrame) : List Nat :=
  let d := fun (start n v : Nat) (gap : Nat) => (zipIdx (bcdBits n v)).flatMap fun p => placed (start + gap * p.1) p.2
  let time := d 1 2 f.ss 5 ++ d 10 2 f.mm 5 ++ d 20 2 f.hh 5 ++ d 30 2 f.day 5 ++ d 40 1 (f.day / 100) 0
    ++ (if irigYear f.format || f.ext then d 50 2 f.year 5 else [])
    ++ (if irigSbs f.format then placed 80 (lsbBits 9 f.sbs) ++ placed 90 (lsbBits 8 (f.sbs / 512)) else [])
  let half := f.offset.natAbs / 1800
  let ctl := if !f.ext then [] else
    [(60, f.leap.1), (61, f.leap.2), (64, decide (f.offset < 0))] ++ placed 65 (lsbBits 4 (half / 2)) ++ [(70, nbit half 0)] ++ placed 71 (lsbBits 4 f.quality)
  let on := ((time ++ ctl).filter (·.2)).map (·.1)
  if f.ext && (on.filter fun k => decide (k < 75)).length % 2 = 0 then on ++ [75] else on

/-- The DC level shift code of a frame (R226): Pr and the marker that ends each group of ten are 8 ms, a one 5 ms, every other element 2 ms. -/
def IrigFrame.widths (f : IrigFrame) : List Nat :=
  (List.range 100).map fun k => if k = 0 || k % 10 = 9 then 8 else if f.ones.contains k then 5 else 2

/-- An IRIG-B frame is built with its time-quality code (R226, R599). DESIGN CHOICE (assumption 151): the extension's offset is that of the coded time
from UTC by the leap-second table, and its quality code. -/
def onIrigFrameBuild (tco : Nat) (s : State) : State :=
  let key := 40 + tco
  let o := s.pin key
  if 4 ≤ tco || o.cfg.mode != 4 || !o.gen then s
  else
    let t := s.frameSecond o
    let tag := o.cfg.scale
    let r := s.frameRecord o key
    let ins := (tag = 1 || tag = 3) && insertedAt s.tc.leap t
    let sec := s.scaleSec (scaleOfTag tag) t
    let day := sec % 86400
    let noTable := (tag = 1 || tag = 3) && s.tc.leap.isEmpty
    let f : IrigFrame := {
      format := o.cfg.irig, ss := if ins then 60 else day % 60, mm := day / 60 % 60, hh := day / 3600
      day := sec / 86400 - daysToYear (yearOf sec) + 1, year := yearOf sec, sbs := day
      ext := o.cfg.ieee1344 = 1 && decide (o.cfg.irig ∈ [0, 1, 4, 5])
      quality := if noTable then 15 else qualityOf r.bound
      leap := (leap61At s.tc.leap t || leap59At s.tc.leap t, leap59At s.tc.leap t)
      offset := (s.scaleSec (scaleOfTag tag) t : Int) - s.scaleSec .utc t }
    s.onPin key fun p => { p with irig := some { f with pulses := f.widths, low := o.cfg.polarity = 1 } }

/-- BEAD_FRAME_BUILD (R225). -/
def execBeadFrameBuild (tco : Nat) (s : State) : Host.Outcome State Fault Refusal :=
  .next (if s.alive then onBeadFrameBuild tco s else s)

/-- IRIG_FRAME_BUILD (R226). -/
def execIrigFrameBuild (tco : Nat) (s : State) : Host.Outcome State Fault Refusal :=
  .next (if s.alive then onIrigFrameBuild tco s else s)


/-! ### LOCKMON (R227) -/

/-- n of LOCKMON: the lowest that applies (R227); 10 where no row does. -/
def State.lockmonDuty (s : State) : Nat :=
  let ls := ((List.range 8).map s.loop).filter (·.en)
  if s.tc.ts = .lost || ls.any (fun (l : OutLoop) => l.st = .lost) || s.squelched then 2
  else if s.tc.ts = .freeRun then 4
  else if s.tc.ts = .acquiring || ls.any (fun (l : OutLoop) => l.st = .freeRun || l.st = .acquiring) then 6
  else if s.tc.ts = .holdover || ls.any (fun (l : OutLoop) => l.st = .holdover) then 8
  else if outKeys.all fun k =>
      let o := s.pin k
      !(o.on && timeBearing o.cfg) || o.st = .aligned || (o.st = .squelched && o.gen && s.pinLeft o = 0) then 14
  else 10

/-- The duty is reassessed at a period boundary (R227). -/
def onLockmonPeriod (s : State) : State := s.onOut fun x => { x with lockmon := s.lockmonDuty }

/-- LOCKMON_PERIOD (R227). -/
def execLockmonPeriod (s : State) : Host.Outcome State Fault Refusal :=
  .next (if s.alive then onLockmonPeriod s else s)


end Sys2Proof.Machine
end

