-- ==== Sys2Proof/Machine/ErrorPins.lean ====
section
/-! DEFINITION. Error pins at the fault collector and the containment of their blocks; loss and return of MOSC (R30, R65, R209, R261,
R341, R345, R488, R490, R502, R518-R526). -/

namespace Sys2Proof.Machine

/-! ### MOSC (R30, R65, R209, R494, R525) -/

/-- Every loop that is steered leaves its lock for HOLDOVER when the time clock is lost (R209). -/
def State.loopsHold (s : State) : State := (List.range 8).foldl (fun t l => onLoopHoldoverCause l t) s

/-- MOSC loss (R30, R65, R66): the collector moves to its backup oscillator, the Time Core enters LOST at once, and the SQUELCH-class source is
live. -/
def onMoscLoss (s : State) : State :=
  if !s.pwr.moscGood || s.pwr.moscLost then s
  else
    let s1 := ((((((s.setPin 0 4 false).setPin 0 9 false).fireMp).notice 0 9).onFault fun f => { f with backup := true }).onPwr fun p => { p with moscLost := true }).raiseMosc .valid
    let s2 := if s1.tc.ts = .lost then s1.squelchStart else (s1.onTc fun c => { c with lostByMosc := true }).setTiming .lost
    s2.loopsHold

/-- MOSC is declared good (R30, R494): in BOOT the clocks lock and the enabled loops start (R209, R556); after a loss the PLLs leave their hold, and
the Time Core leaves LOST as R65 states. -/
def onMoscGood (s : State) : State :=
  if s.timeClockGood then s
  else
    let s1 := ((((s.clearPin 0 4).clearPin 0 9).onFault fun f => { f with backup := false }).onPwr fun p => { p with moscGood := true, moscLost := false }).raiseMosc s.moscState
    ((s1.onTc fun c => { c with moscGoodAt := s.upNs }).startLoops).followPins

/-- MOSC_LOSS (R30). -/
def execMoscLoss (s : State) : Host.Outcome State Fault Refusal :=
  .next (if s.alive then onMoscLoss s else s)


/-- MOSC_GOOD (R30). -/
def execMoscGood (s : State) : Host.Outcome State Fault Refusal :=
  .next (if s.alive then onMoscGood s else s)


/-! ### Containment (R522) -/

/-- A quad's PLL loses lock: its four ports go DOWN (R261, R521). -/
def State.quadDown (s : State) (q : Nat) : State :=
  (List.range 4).foldl (fun (t : State) i =>
    let p := 4 * q + i
    if (t.port p).st = .up || (t.port p).st = .upUntimed then t.setPort p .down else t) s

/-- The containment of a block's chapter for its error pin (R522, R523); sources whose chapter states none are recorded and logged. -/
def State.contain (s : State) (word bitNo : Nat) : State :=
  if word = 1 && bitNo < 8 then onLoopHoldoverCause bitNo (s.onLoop bitNo fun x => { x with tdc := true })
  else if word = 1 && bitNo < 16 then (if (s.loop (bitNo - 8)).st = .freeRun then s else s.loseLoop (bitNo - 8) 1)
  else if 4 ≤ word && word ≤ 11 then s.failPort (32 * (word - 4) + bitNo)
  else if word = 12 || word = 13 then s.quadDown (32 * (word - 12) + bitNo)
  else if word = 14 && bitNo < 16 then s.engineOut bitNo
  else if word = 14 && bitNo < 18 then onPkOperationComplete (bitNo - 16) false s
  else if word = 14 && bitNo = 18 then (if s.keys.entropyOut then s else s.entropyDead)
  else if word = 14 && bitNo < 23 then s.tpCoreOut (bitNo - 19)
  else if word = 14 && bitNo = 23 then onMpLockstepMismatch s
  else if word = 14 && 25 ≤ bitNo && bitNo ≤ 28 then s.bankOut (bitNo - 25)
  else if word = 15 && 19 ≤ bitNo && bitNo ≤ 22 then s.addCause (0x0E00 + bitNo)
  else s

/-- While the PLLs hold, their lock leaves report no error (R30, R523). -/
def State.leafQuiet (s : State) (word bitNo : Nat) : Bool := s.pwr.moscLost && word = 0 && decide (bitNo ∈ [3, 5, 6])

/-- An error pin reads error or wiring fault (R518, R522). The leaves of its block that show a wiring fault are merged as
an error, and the block records them (R517). -/
def onErrorPinRaised (word bitNo : Nat) (r : PinReport) (s : State) : State :=
  if !sourceOk word bitNo || s.leafQuiet word bitNo then s
  else
    let s0 := if r.leaves.isEmpty then s
      else s.onFault fun f => { f with leaves := f.leaves.upd [] (32 * word + bitNo) fun l => (l ++ r.leaves).eraseDups }
    let s1 := (s0.setPin word bitNo r.wiring).fireMp
    match severityOf word bitNo with
    | .fatal => s1.latchFatal
    | .squelch => onMoscLoss s1
    | .notice =>
      let s2 := s1.notice word bitNo
      if word = 15 then s2.onPwr fun p => { p with vbatOk := false } else s2.onFault fun f => { f with backup := true }
    | .contain => s1.contain word bitNo

/-- An error pin reads no error again (R520, R526): the live bit clears; a sticky bit and an action taken stay. -/
def onErrorPinCleared (word bitNo : Nat) (s : State) : State :=
  if !sourceOk word bitNo then s
  else
    let s1 := s.clearPin word bitNo
    if word = 0 && bitNo = 4 then onMoscGood s1
    else if word = 0 && bitNo = 9 then s1.onFault fun f => { f with backup := false }
    else if word = 1 && bitNo < 8 then s1.onLoop bitNo fun x => { x with tdc := false }
    else if word = 15 && 19 ≤ bitNo && bitNo ≤ 22 then s1.dropCause (0x0E00 + bitNo)
    else if word = 15 && bitNo = 23 then s1.onPwr fun p => { p with vbatOk := true }
    else s1.followPins

/-- ERROR_PIN_RAISED (R518). -/
def execErrorPinRaised (word bit : Nat) (wiring : PinReport) (s : State) : Host.Outcome State Fault Refusal :=
  .next (if s.alive then onErrorPinRaised word bit wiring s else s)


/-- ERROR_PIN_CLEARED (R526). -/
def execErrorPinCleared (word bit : Nat) (s : State) : Host.Outcome State Fault Refusal :=
  .next (if s.alive then onErrorPinCleared word bit s else s)


end Sys2Proof.Machine
end

