-- ==== Sys2Proof/Machine/Fil.lean ====
section
/-! DEFINITION. The fil commands and the events of Filigree (chapter 06). -/

namespace Sys2Proof.Machine

/-! ### Channels (R179-R183) -/

/-- `fil.set_channel` (R180, R183). -/
def cmdFilSetChannel (_h : CmdHdr) (ch enable edge n : Nat) : CmdMeta × CmdBody :=
  ({ op := 0x1501, plen := 8, mirrored := true },
   { argOk := fun _ => decide (ch < 64) && decide (enable ≤ 1) && decide (edge ≤ 2) && decide (1 ≤ n) && decide (n ≤ 65536)
     check := fun _ => judge [(decide (24 ≤ ch), .conflict)]
     act := fun s => cmdOut ((s.onChan ch fun c =>
       let c1 := if !c.en && enable = 1 then { c with edges := 0, seq := 0, last := none } else c
       { c1 with en := enable = 1, edge := edge, n := n, presc := 0 }).store 0x15 ch) })

/-- Another loopback channel has the output, or waits to be moved to it (R182). -/
def State.loopTaken (s : State) (ch key : Nat) : Bool :=
  ((List.range 24).any fun i => 40 + i != ch && s.loopTarget (40 + i) = key) || s.fil.moves.any fun m => m.1 != ch && m.2.1 = key

/-- `fil.set_loopback` (R182, R183): a move waits for the record of the output that loses the channel (R81). -/
def cmdFilSetLoopback (_h : CmdHdr) (ch kind index divider : Nat) : CmdMeta × CmdBody :=
  let key := outKey kind index
  ({ op := 0x1502, plen := 8, mirrored := true },
   { argOk := fun _ => decide (40 ≤ ch) && decide (ch < 64) && outputOk kind index && (kind != 0 || (decide (1 ≤ divider) && decide (divider ≤ 16777216)))
     check := fun s => judge [(s.loopTaken ch key, .conflict)]
     act := fun s =>
       let s0 := s.onFil fun x => { x with moves := x.moves.filter fun m => m.1 != ch }
       let s1 := if s.loopTarget ch = key then s0.onFil fun x => { x with divider := x.divider.put ch divider }
         else (s0.onFil fun x => { x with moves := x.moves ++ [(ch, key, divider)] }).hallWiden [pointOfKey (s.loopTarget ch), pointOfKey key]
       cmdOut (s1.store 0x15 ch) })

/-- `fil.grant_channel` (R180, R181). -/
def cmdFilGrantChannel (_h : CmdHdr) (ch bezel grant : Nat) : CmdMeta × CmdBody :=
  ({ op := 0x1503, plen := 3, mirrored := true },
   { argOk := fun s => decide (ch < 64) && decide (grant ≤ 1) && decide (bezel < 64) && (s.bezel bezel).present
     check := fun s => judge [(grant = 1 && ((s.ring ch).reader (.bezel bezel)).isNone && decide (4 ≤ s.consumers ch), .conflict)]
     act := fun s =>
       let s1 := if grant = 1 then
           (s.onChan ch fun c => { c with grants := if bezel ∈ c.grants then c.grants else c.grants ++ [bezel] }).join ch (.bezel bezel)
         else ((s.onChan ch fun c => { c with grants := c.grants.filter (· != bezel) }).leave ch (.bezel bezel)).onFil fun x =>
           { x with streams := x.streams.filter fun t => !(t.bezel = bezel && t.cfg.ch = ch) }
       cmdOut (s1.store 0x15 ch) })

/-- A ring with a settable allotment (R196). -/
def ringSettable (r : Nat) : Bool := decide (r < 24) || (decide (64 ≤ r) && decide (r < 96))

/-- `fil.set_ring` (R196-R199). -/
def cmdFilSetRing (_h : CmdHdr) (ring mode allot : Nat) : CmdMeta × CmdBody :=
  ({ op := 0x1504, plen := 8, mirrored := true },
   { argOk := fun _ => ringSettable ring && decide (mode ≤ 1) && decide (64 ≤ allot) && allot % 64 = 0
     check := fun s =>
       let own := match (s.ring ring).next with | some (_, a) => max a (s.ring ring).allot | none => (s.ring ring).allot
       judge [(decide (131072 < s.allotted - own + max allot (s.ring ring).allot), .conflict)]
     act := fun s =>
       let s1 := if (s.ring ring).recs.isEmpty then s.onRing ring fun r => r.change (mode = 1) allot
         else s.onRing ring fun r => { r with next := some (mode = 1, allot) }
       cmdOut (s1.store 0x15 (256 + ring)) })

/-- The engine leaves its channels. -/
def State.unhook (s : State) (de : Nat) : State :=
  let c := (s.eng de).cfg
  if c.enable = 1 then (s.leave c.chA (.engine de)).leave c.chB (.engine de) else s

/-- `fil.set_diff` (R181, R202, R204). -/
def cmdFilSetDiff (_h : CmdHdr) (a : DiffArgs) : CmdMeta × CmdBody :=
  ({ op := 0x1505, plen := 24, mirrored := true },
   { argOk := fun _ => decide (a.de < 32) && decide (a.enable ≤ 1) && (a.enable = 0 ||
       (decide (a.chA < 64) && decide (a.chB < 64) && decide (a.edgeA ≤ 2) && decide (a.edgeB ≤ 2) && (a.chA != a.chB || a.edgeA != a.edgeB)
         && decide (1 ≤ a.w) && decide (a.w ≤ 1000000000) && decide (1 ≤ a.gate) && decide (a.gate ≤ 1000000)))
     check := fun s => judge [(a.enable = 1 && (decide (4 ≤ (s.unhook a.de).consumers a.chA) || decide (4 ≤ (s.unhook a.de).consumers a.chB)), .conflict)]
     act := fun s =>
       let s1 := s.unhook a.de
       let s2 := if a.enable = 1 then (s1.join a.chA (.engine a.de)).join a.chB (.engine a.de) else s1
       cmdOut ((s2.onEng a.de fun e => { cfg := a, cnt := e.cnt, gateEnd := s.nextTop, gateEndMs := s.nextTop * 1000 }).store 0x15 (512 + a.de)) })

/-! ### Streams and reads (R180, R181, R200) -/

/-- The issuer may read a channel: BZ00, or a bezel granted it (R180). -/
def State.filReach (s : State) (b ch : Nat) : Bool := b = 0 || b ∈ (s.chan ch).grants

/-- A consumer's place could not be found: a fifth one (R181). -/
def State.filFull (s : State) (b ch : Nat) : Bool := ((s.ring ch).reader (.bezel b)).isNone && decide (4 ≤ s.consumers ch)

/-- The host stream of a bezel on a channel. -/
def State.filStream (s : State) (b ch : Nat) : Option FilStream := s.fil.streams.find? fun t => t.bezel = b && t.cfg.ch = ch

/-- Update of it. -/
def State.onStream (s : State) (b ch : Nat) (f : FilStream → FilStream) : State :=
  s.onFil fun x => { x with streams := x.streams.map fun (t : FilStream) => if t.bezel = b && t.cfg.ch = ch then f t else t }

/-- `fil.set_stream` (R200, R403). -/
def cmdFilSetStream (h : CmdHdr) (a : FilStreamArgs) : CmdMeta × CmdBody :=
  ({ op := 0x1506, plen := 24, who := .granted },
   { argOk := fun s => decide (a.ch < 64) && (a.n = 0 || (decide (8 ≤ a.n) && decide (a.n ≤ 20) && decide (a.vector < 64)
       && s.dmaOk h.fn a.base (32 * 2 ^ a.n) && s.dmaOk h.fn a.writeback 4))
     check := fun s => judgeOwned (s.filReach h.fn a.ch) false 3 [(a.n != 0 && s.filFull h.fn a.ch, .conflict)]
     act := fun s =>
       let s1 := s.onFil fun x => { x with streams := x.streams.filter fun t => !(t.bezel = h.fn && t.cfg.ch = a.ch) }
       if a.n = 0 then cmdOut s1
       else
         let s2 := s1.join a.ch (.bezel h.fn)
         let pos := match (s2.ring a.ch).reader (.bezel h.fn) with | some r => r.pos | none => (s2.ring a.ch).put
         cmdOut (s2.onFil fun x => { x with streams := x.streams ++ [{ bezel := h.fn, cfg := a, next := pos }] }) })

/-- `fil.ack_stream` (R200): READ counts the records returned; the read position in the stamp ring follows. -/
def cmdFilAckStream (h : CmdHdr) (ch readIndex : Nat) : CmdMeta × CmdBody :=
  ({ op := 0x1507, plen := 8, who := .granted, action := true },
   { argOk := fun s => decide (ch < 64) && (match s.filStream h.fn ch with
       | none => true
       | some t => decide ((readIndex + 2 ^ 32 - t.ack) % 2 ^ 32 ≤ t.out.length))
     check := fun s => judgeOwned (s.filReach h.fn ch) false 3 [((s.filStream h.fn ch).isNone, .state)]
     act := fun s => match s.filStream h.fn ch with
       | none => cmdOut s
       | some t =>
         let out := t.out.drop ((readIndex + 2 ^ 32 - t.ack) % 2 ^ 32)
         let pos := match out with | [] => t.next | p :: _ => p.1
         cmdOut ((s.onStream h.fn ch fun x => { x with ack := readIndex, out := out }).moveReader ch (.bezel h.fn)
           (max pos (match (s.ring ch).reader (.bezel h.fn) with | some r => r.pos | none => 0))) })

/-- `fil.read_stamps` (R201): the records this consumer has not read, at most MAX; its read position moves past them. -/
def cmdFilReadStamps (h : CmdHdr) (ch max : Nat) : CmdMeta × CmdBody :=
  ({ op := 0x1541, plen := 4, who := .granted, xbOut := true },
   { argOk := fun _ => decide (ch < 64)
     check := fun s => judgeOwned (s.filReach h.fn ch) true 3 [(s.filFull h.fn ch, .conflict)]
     act := fun s =>
       let s1 := s.join ch (.bezel h.fn)
       let l := ((s1.ring ch).unread (.bezel h.fn)).take max
       match (s1.ring ch).reader (.bezel h.fn) with
       | none => cmdOut s
       | some r => cmdOut (s1.moveReader ch (.bezel h.fn) (r.pos + l.length)) [fld 32 l.length, fld 32 r.lost] (l.flatMap stampLayout) })

/-- A gate as `fil.read_diff` gives it; the layout is the model's own. -/
def gateLayout (g : DiffGate) : Rec := [fld 32 g.count, rsv 32, (128, g.sum), fld 128 g.sumSq, (64, g.lo.getD 0), (64, g.hi.getD 0)]

/-- `fil.read_diff` (R204, R539): the last gate, the running gate and the engine's counters; the layout is the model's own. -/
def cmdFilReadDiff (_h : CmdHdr) (de : Nat) : CmdMeta × CmdBody :=
  ({ op := 0x1542, plen := 1, xbOut := true },
   { argOk := fun _ => decide (de < 32)
     act := fun s => cmdOut s [] (gateLayout (s.eng de).last ++ gateLayout (s.eng de).run ++
       (List.range 4).flatMap fun k => [fld 48 ((s.eng de).cnt.look 0 k), rsv 16]) })

/-- `fil.read_status` (R189, R539): channel and interpolator states and the channel's counters; the layout is the model's own. -/
def cmdFilReadStatus (_h : CmdHdr) : CmdMeta × CmdBody :=
  ({ op := 0x1543, xbOut := true },
   { argOk := fun _ => true
     act := fun s => cmdOut s []
       ((List.range 64).flatMap fun c =>
         let x := s.chan c
         [fld 2 x.interp.st.code, bit x.interp.activeY, bit x.en, bit x.interp.surv, rsv 11, fld 16 x.queue.length, fld 32 x.seq] ++
           ((List.range 4).flatMap fun k => [fld 48 (x.cnt.look 0 k), rsv 16]) ++ [fld 48 x.interp.failed, rsv 16]) })


/-! ### Stamping (R183-R185, R194) -/

/-- The edge qualifies (R183): a TIC channel by its EDGE while enabled, a PPSI by its polarity, a loopback channel by the on-time edge of its output. DESIGN
CHOICE (assumption 150): of an output of normal polarity, and on FIL28-FIL39, that is the rising edge. -/
def State.edgeCounts (s : State) (ch : Nat) (falling : Bool) : Bool :=
  if ch < 24 then (s.chan ch).en && ((s.chan ch).edge = 2 || ((s.chan ch).edge = 1) = falling)
  else if ch < 28 then (s.pps (ch - 24)).falling = falling
  else if ch < 40 then !falling
  else decide (ch < 64) && ((s.pin (s.loopTarget ch)).cfg.polarity = 1) = falling

/-- Every N-th qualifying edge is stamped (R183): the prescaler, or the divider of a loopback channel on a CKO. -/
def State.everyNth (s : State) (ch : Nat) : Nat :=
  if 28 ≤ ch && decide (ch < 32) then (let c := s.ref.clk.look {} (ch - 28); c.fN / c.stampRate)
  else if 34 ≤ ch && decide (ch < 38) then (let c := (s.pend (ch - 34)).cfg; pendFreq c.freq / c.stampRate)
  else if ch < 40 then (s.chan ch).n
  else
    let key := s.loopTarget ch
    let d := s.fil.divider.look 0 ch
    if 32 ≤ key then 1 else if d != 0 then d
    else max 1 ((s.loop (s.pin key).cfg.loop).fl / 65536 / (s.pin key).cfg.d / 1000)

/-- A stamp enters the queue, or is discarded on an overflow (R193, R194). -/
def FilChan.push (c : FilChan) (r : RawStamp) : FilChan :=
  if 1024 ≤ c.queue.length then { c with seq := (c.seq + 1) % 2 ^ 32, gap := true, cnt := c.cnt.upd 0 2 (· + 1), spill := some { r with gap := c.gap } }
  else { c with seq := (c.seq + 1) % 2 ^ 32, gap := false, queue := c.queue ++ [{ r with gap := c.gap }] }

/-- The oldest stamp is popped (R193): in the cycle in which a push met the full queue both succeed, and no overflow is counted. -/
def FilChan.pop (c : FilChan) (cyc : Nat) : FilChan :=
  match c.spill with
  | some r =>
    if r.pushed = cyc then { c with queue := c.queue.drop 1 ++ [r], spill := none, gap := false, cnt := c.cnt.upd 0 2 (· - 1) }
    else { c with queue := c.queue.drop 1, spill := none }
  | none => { c with queue := c.queue.drop 1 }

/-- An edge at a channel in a time-clock cycle, with the fine code the ACTIVE interpolator gives it (R184, R185, R189, R194). -/
def onFiligreeEdge (ch cycle fine : Nat) (falling : Bool) (s : State) : State :=
  let c := s.chan ch
  let b := c.interp.table.getD {}
  if c.interp.table.isNone && !c.interp.surv then s
  else
    if 64 ≤ ch || !s.edgeCounts ch falling || c.interp.st = .out then s
    else if s.armNamed ch && !s.armOpen ch then
      (s.onChan ch fun x => { x with edges := (x.edges + 1) % 2 ^ 32 }).onLa fun x => { x with unarmed := x.unarmed.upd 0 ch (· + 1) }
    else
      let mid := c.interp.surv
      let i : Rat := if mid then 3 / 2 else b.at fine
      let pos : Rat := (cycle : Rat) + (2 - i)
      let n := s.everyNth ch
      let k := c.presc + 1
      let c1 := { c with edges := (c.edges + 1) % 2 ^ 32, presc := if n ≤ k then 0 else k }
      if c.dead pos then s.onChan ch fun _ => { c1 with cnt := c1.cnt.upd 0 0 (· + 1) }
      else if k < n then s.onChan ch fun _ => c1
      else
        let c2 := { c1 with last := some pos, cnt := if !mid && b.outside fine then c1.cnt.upd 0 1 (· + 1) else c1.cnt }
        s.onChan ch fun _ => c2.push {
          coarse := cycle % 16777216, fine := if mid then 0 else fine % 4096, interp := c.interp.activeY, falling := falling
          mid := mid, i := i, seq := c2.seq, edges := c2.edges, pushed := s.tc.mtc.cyc }

/-- FILIGREE_EDGE (R185). -/
def execFiligreeEdge (ch cycle fine : Nat) (falling : Bool) (s : State) : Host.Outcome State Fault Refusal :=
  .next (if s.alive then onFiligreeEdge ch cycle fine falling s else s)


/-! ### Drain (R190-R192, R195, R198) -/

/-- The alignment error of an edge of a running output, ps (R212): its distance from the nearest instant of its target, of a SLEWING output less what
is left of its move; of a coded output only the on-time edge is measured. DEDUCED (assumption 146): the phase a slew has still to move is no
error that the fine delay could take up. -/
def State.alignError (s : State) (key t : Nat) : Option Rat :=
  let o := s.pin key
  let e := ratNear (unitsPs (t : Int) - (o.cfg.offset : Rat) + (if o.st = .slewing then s.pinLeft o else 0)) (if o.cfg.kind != 0 && o.cfg.mode != 1 then 1000000000000 else s.pinPeriod o)
  if !o.gen || !timeBearing o.cfg || !(o.st = .aligned || o.st = .slewing) || (o.cfg.kind != 0 && o.cfg.mode = 2) then none
  else if o.cfg.kind = 2 && decide (3 ≤ o.cfg.mode) && decide (1000000 < rabs e) then none
  else some e

/-- A loopback measurement (R190, R212, R220): it trims the fine delay by at most 10 ps; the first one taken once the output is ALIGNED again ends
an alignment transient, and one taken while an OFFSET change waits is the last before the output leaves ALIGNED. -/
def State.loopMeasure (s : State) (ch t : Nat) : State :=
  let key := s.loopTarget ch
  match s.alignError key t with
  | none => s
  | some e =>
    let o := s.pin key
    let s1 := s.onPin key fun p => { p with
      err := some e, trim := p.trim - max (-10) (min 10 e), e0 := if o.trans && o.next.isSome && o.st = .aligned then e else p.e0 }
    if o.trans && o.next.isNone && o.st = .aligned then s1.narrow (pointOfKey key) 2 else s1

/-- A stamp of FIL28-FIL39 reaches its input (R84): a gate's stamp of a frequency input, the on-time edge of a time code, or the partner's PPS edge, from
which this unit's pair measurement is its own top of the second plus d_pps less the stamp (R425); a COARSE one measures no pair (R190). -/
def State.feedInput (s : State) (ch : Nat) (t : Int) (r : RawStamp) : State :=
  let gate := fun (ref : Nat) =>
    let g : GateStamp := { t := t, edges := r.edges, coarse := r.mid }
    s.onRef fun x => { x with gates := x.gates.upd {} ref fun y => { first := some (y.first.getD g), last := some g } }
  if 28 ≤ ch && decide (ch < 32) then gate (refCki (ch - 28))
  else if 32 ≤ ch && decide (ch < 34) then s.onTci (ch - 32) fun c => { c with pr := some (t, r.mid) }
  else if 34 ≤ ch && decide (ch < 38) then gate (refPend (ch - 34))
  else if ch = 38 then gate 0
  else if ch = 39 && !r.mid then s.onClasp fun c => { c with dOwn := (c.dPps : Int) - roundHalf (unitsPs (t - nearestSec (t - roundHalf ((c.dPps : Rat) * 1048576 / 1000)) * secUnits)) }
  else s

/-- What an engine takes of a stamp: as channel a, as channel b, or both; a GAP is counted (R203). -/
def State.feedEngine (s : State) (d ch : Nat) (x : StampRec) : State :=
  let c := (s.eng d).cfg
  let fits := fun (chan edge : Nat) => chan = ch && (edge = 2 || (edge = 1) = x.raw.falling)
  if c.enable != 1 || !(c.chA = ch || c.chB = ch) then s
  else
    let s1 := s.onEng d fun e => { e with
      as := if fits c.chA c.edgeA then e.as ++ [x] else e.as
      bs := if fits c.chB c.edgeB then e.bs ++ [(x, false)] else e.bs }
    let s2 := if x.raw.gap then s1.countEng d 3 1 else s1
    s2.moveReader ch (.engine d) (s2.ring ch).put

/-- A stamp is drained (R190-R193, R195, R198): it is given its time, and written to its ring and its consumers; channels are served in rotation, and one
with a full ring in HOLD is skipped. A drain out of its turn does not happen. -/
def onStampDrain (ch : Nat) (tslew : Bool) (s : State) : State :=
  match (s.chan ch).queue with
  | [] => s
  | r :: _ =>
    if s.drainNext != some ch then s
    else
      let t := s.stampTime r
      let ovf := (s.resolve r.coarse).2
      let x : StampRec := { time := t, ch := ch, raw := r, ovf := ovf, tslew := tslew }
      let s1 := ((s.onChan ch fun c => c.pop s.tc.mtc.cyc).onFil fun f => { f with turn := ch }).onRing ch fun g => g.write x
      let s2 := (List.range 32).foldl (fun u d => u.feedEngine d ch x) s1
      if ovf then (if 24 ≤ ch then s2.countChan ch 3 else s2)
      else if 24 ≤ ch && decide (ch < 28) then s2.ppsEdge (ch - 24) (t : Int) r.mid
      else if 40 ≤ ch then (if r.mid then s2 else s2.loopMeasure ch t)
      else s2.feedInput ch (t : Int) r

/-- A ring change takes effect (R199). -/
def onFilRingChangeEffect (ring : Nat) (s : State) : State :=
  match (s.ring ring).next with
  | none => s
  | some (h, a) => s.onRing ring fun r => r.change h a

/-- STAMP_DRAIN (R191). -/
def execStampDrain (ch : Nat) (tslew : Bool) (s : State) : Host.Outcome State Fault Refusal :=
  .next (if s.alive then onStampDrain ch tslew s else s)

/-- FIL_RING_CHANGE_EFFECT (R199). -/
def execFilRingChangeEffect (ring : Nat) (s : State) : Host.Outcome State Fault Refusal :=
  .next (if s.alive then onFilRingChangeEffect ring s else s)


/-! ### Difference engines (R203, R204) -/

/-- One more difference in a gate (R204). -/
def DiffGate.add (g : DiffGate) (d : Int) : DiffGate :=
  { count := g.count + 1, sum := g.sum + d, sumSq := g.sumSq + d.natAbs * d.natAbs
    lo := some (match g.lo with | some x => min x d | none => d), hi := some (match g.hi with | some x => max x d | none => d) }

/-- The nearer of two b stamps to an instant; of two equally near the earlier (R203). -/
def nearer (at_ : Int) (best : Option StampRec) (x : StampRec) : Option StampRec :=
  match best with
  | none => some x
  | some y =>
    let dx := ((x.time : Int) - at_).natAbs
    let dy := ((y.time : Int) - at_).natAbs
    if dx < dy || (dx = dy && decide (x.time < y.time)) then some x else best

/-- The engine is done with its oldest a stamp: b stamps that no later a stamp can match go, and are counted where none matched. -/
def State.dropA (s : State) (d : Nat) (low : Int) : State :=
  let old := (s.eng d).bs.filter fun p => decide ((p.1.time : Int) < low)
  (s.onEng d fun e => { e with as := e.as.drop 1, bs := e.bs.filter fun p => decide (low ≤ (p.1.time : Int)) }).countEng d 1
    (old.filter fun p => !p.2).length

/-- A difference is recorded in the engine's ring and in its gate (R203, R204). -/
def State.recordDiff (s : State) (d : Nat) (a b : StampRec) : State :=
  let v : Int := (b.time : Int) - (a.time : Int)
  let e := s.eng d
  let x : StampRec := { time := a.time, ch := d, isDiff := true, diff := v, raw := { seq := e.seq } }
  let s1 := s.onRing (64 + d) fun g => g.write x
  s1.onEng d fun y => { y with
    seq := (y.seq + 1) % 2 ^ 32, run := if y.gateEnd ≤ s.sec then y.run.add v else y.run }

/-- A b stamp later than the window of the oldest a stamp has arrived (R203). -/
def onDiffMatch (d : Nat) (s : State) : State :=
  let e := s.eng d
  match e.as with
  | [] => s
  | a :: _ =>
    let mid : Int := (a.time : Int) + e.cfg.o
    let w : Int := (e.cfg.w : Int) * 1048576
    if 32 ≤ d || e.cfg.enable != 1 || !(s.ring (64 + d)).takes || !(e.bs.any fun p => decide (mid + w < (p.1.time : Int))) then s
    else
      let inw := (e.bs.map (·.1)).filter fun (x : StampRec) => decide (mid - w ≤ (x.time : Int)) && decide ((x.time : Int) ≤ mid + w)
      match inw.foldl (nearer mid) none with
      | none => (s.countEng d 0 1).dropA d (mid - w)
      | some b =>
        let s1 := s.onEng d fun y => { y with bs := y.bs.map fun p => if p.1 = b then (p.1, true) else p }
        let s2 := if a.ovf || b.ovf || a.raw.mid || b.raw.mid then s1.countEng d 2 1 else s1.recordDiff d a b
        s2.dropA d (mid - w)

/-- The engine stops waiting 2 W after t_a + O (R203). -/
def onDiffWaitTimeout (d : Nat) (s : State) : State :=
  let e := s.eng d
  match e.as with
  | [] => s
  | a :: _ =>
    let mid : Int := (a.time : Int) + e.cfg.o
    let w : Int := (e.cfg.w : Int) * 1048576
    if 32 ≤ d || e.cfg.enable != 1 || decide ((s.tc.mtc.units : Int) < mid + 2 * w) then s
    else (s.countEng d 0 1).dropA d (mid - w)

/-- A gate boundary (R204): the first begins the first gate. -/
def onDiffGateEnd (d : Nat) (s : State) : State :=
  let e := s.eng d
  if 32 ≤ d || e.cfg.enable != 1 || s.nowNs < e.gateEndMs * 1000000 then s
  else s.onEng d fun y => { y with
    last := if y.gateEndMs = y.gateEnd * 1000 then y.last else y.run, run := {}, gateEndMs := y.gateEndMs + y.cfg.gate }

/-- DIFF_MATCH (R203). -/
def execDiffMatch (de : Nat) (s : State) : Host.Outcome State Fault Refusal :=
  .next (if s.alive then onDiffMatch de s else s)

/-- DIFF_WAIT_TIMEOUT (R203). -/
def execDiffWaitTimeout (de : Nat) (s : State) : Host.Outcome State Fault Refusal :=
  .next (if s.alive then onDiffWaitTimeout de s else s)

/-- DIFF_GATE_END (R204). -/
def execDiffGateEnd (de : Nat) (s : State) : Host.Outcome State Fault Refusal :=
  .next (if s.alive then onDiffGateEnd de s else s)


/-! ### Host streams (R200) -/

/-- A stamp is written to a host ring slot that the host has returned (R200, R408). -/
def onFilStreamWrite (bezel ch : Nat) (s : State) : State :=
  match s.filStream bezel ch with
  | none => s
  | some t =>
    let g := s.ring ch
    let place := max t.next (match g.reader (.bezel bezel) with | some r => r.pos | none => t.next)
    match (g.recs.drop (place - g.base)).head? with
    | none => s
    | some x =>
      if 2 ^ t.cfg.n ≤ t.out.length || s.masterFrozen bezel 2 ch || s.masterFrozen bezel 3 ch || place < g.base then s
      else if !s.filReach bezel ch then s.freezeMaster bezel 3 ch 6 ch
      else if !(s.dmaOk bezel t.cfg.base (32 * 2 ^ t.cfg.n) && s.dmaOk bezel t.cfg.writeback 4) then s.freezeMaster bezel 2 ch 2 t.cfg.base
      else (s.onStream bezel ch fun y => { y with put := y.put + 1, next := place + 1, out := y.out ++ [(place, x)] }).announce bezel t.cfg.vector

/-- FIL_STREAM_WRITE (R200). -/
def execFilStreamWrite (bezel ch : Nat) (s : State) : Host.Outcome State Fault Refusal :=
  .next (if s.alive then onFilStreamWrite bezel ch s else s)


/-! ### Calibration (R186-R189, R604) -/

/-- The reference input a channel stamps (R84). -/
def refOfChan (ch : Nat) : Option Nat :=
  if ch < 24 then none
  else if ch < 28 then some (refPpsi (ch - 24))
  else if ch < 32 then some (refCki (ch - 28))
  else if ch < 34 then some (refTci (ch - 32))
  else if ch < 38 then some (refPend (ch - 34))
  else if ch = 38 then some 0
  else none

/-- A run of a channel's interpolators ends (R187, R189, R604). -/
def State.filRunEnd (s : State) (ch first : Nat) (hits : List Nat) : State :=
  let r := (s.chan ch).interp.runEnd first hits
  let s1 := s.onChan ch fun c => { c with interp := r.1 }
  match r.2 with
  | .good => s1
  | .failed => s1
  | .single => (s1.addCause (0x0100 + ch)).raise0 0x1501 [fld 8 ch, fld 8 1]
  | .out =>
    let s2 := (s1.addCause (0x0100 + ch)).raise0 0x1501 [fld 8 ch, fld 8 2]
    match refOfChan ch with
    | some n => s2.loseIn n
    | none => if 40 ≤ ch then s2.hallWiden [pointOfKey (s.loopTarget ch)] else s2

end Sys2Proof.Machine
end

