-- ==== Sys2Proof/Machine/La.lean ====
section
/-! DEFINITION. The la commands and the events of the Line-Angle Engine (chapter 08), but for the firing of an event. -/

namespace Sys2Proof.Machine

/-! ### Commands -/

/-- The reporting rates of IEEE C37.118.1 at a nominal frequency, per second, with the order of the reference M-class filter at each, at 16 samples a cycle
(R240, R241). PRESUMED (assumption 152). -/
def reportRates (nominal : Nat) : List (Nat × Nat) :=
  if nominal = 0 then [(10, 806), (25, 338), (50, 142), (100, 66)] else [(10, 968), (12, 816), (15, 662), (20, 502), (30, 306), (60, 164), (120, 70)]

/-- The length of a tap's window, 2^-20 ns (R240): two nominal cycles in CLASS P, the filter's length in CLASS M. -/
def LaTap.span (t : LaTap) : Nat :=
  if t.cfg.cls = 0 then 8 * t.quarter
  else match (reportRates t.cfg.nominal).find? fun p => p.1 = t.cfg.reportRate with
    | some p => p.2 * unitsPerSec / (16 * t.nominal)
    | none => 8 * t.quarter

/-- An instant is a reporting instant (R241): a whole number of periods after a top of the TAI second, to the nearest 2^-20 ns. -/
def reportingAt (rate t : Nat) : Bool :=
  let f := t % unitsPerSec
  decide ((roundHalf ((((f * rate + unitsPerSec / 2) / unitsPerSec : Nat) : Rat) * (unitsPerSec : Rat) / (rate : Rat)) - (f : Int)).natAbs ≤ 1)

/-- The fields TAP and VTAP share lie in their ranges (R241, R242, R245). -/
def tapArgsOk (a : TapArgs) : Bool :=
  decide (a.nominal ≤ 1) && (reportRates a.nominal).any (fun p => p.1 = a.reportRate) && decide (a.cls ≤ 1) && decide (5 ≤ a.rTh) && decide (a.rTh ≤ 200) && decide (10 ≤ a.aMin) && decide (a.aMin ≤ 500)
    && decide (10 ≤ a.hold) && decide (a.hold ≤ 1000) && decide (1 ≤ a.rLim) && decide (a.rLim ≤ 1000)

/-- A tap is deconfigured (R242); its host streams go with it. -/
def State.tapOff (s : State) (n : Nat) : State :=
  let s1 := (s.setTap n .off).onTap n fun t => { cnt := t.cnt, grants := t.grants, eseq := t.eseq, await := t.await }
  if n < 8 then
    let ck := n / 4
    if (List.range 4).any fun i => (s1.tap (4 * ck + i)).st != .off then s1
    else s1.onLa fun x => { x with tapck := x.tapck.filter fun p => p.1 != ck }
  else s1

/-- A TAPCK runs while any of its taps is configured (R231, R232). -/
def State.startTapck (s : State) (ck : Nat) : State :=
  if s.la.tapck.any fun p => p.1 = ck then s else s.onLa fun x => { x with tapck := x.tapck.put ck s.tc.mtc.cyc }

/-- `la.set_tap` (R231-R233, R242, R245). -/
def cmdLaSetTap (_h : CmdHdr) (tap : Nat) (a : TapArgs) (dTap : Nat) : CmdMeta × CmdBody :=
  ({ op := 0x1601, plen := 25, mirrored := true },
   { argOk := fun _ => decide (tap < 8) && decide (a.enable ≤ 1) && (a.enable = 0 || (tapArgsOk a && decide (dTap ≤ 1000000)))
     act := fun s =>
       if a.enable = 0 then cmdOut ((s.tapOff tap).store 0x16 tap)
       else
         let s1 := (s.startTapck (tap / 4)).onTap tap fun t => { t with cfg := a, dTap := dTap }
         cmdOut ((if (s.tap tap).st = .off then s1.setTap tap .warmup else s1).store 0x16 tap) })

/-- `la.set_vtap` (R235, R273): the port is BZ00's. -/
def cmdLaSetVtap (_h : CmdHdr) (a : VtapArgs) : CmdMeta × CmdBody :=
  ({ op := 0x1602, mirrored := true, xbIn := true },
   { argOk := fun _ => decide (a.vtap < 8) && decide (a.tap.enable ≤ 1) && (a.tap.enable = 0 ||
       (decide (a.port < 256) && decide (1 ≤ a.noAsdu) && decide (a.noAsdu ≤ 8) && decide (a.smpSynch < 4) && decide (960 ≤ a.sps) && decide (a.sps ≤ 15360)
         && decide (a.valueOff + 4 ≤ a.dataLen) && decide (a.qualityOff + 4 ≤ a.dataLen) && decide (a.lPub ≤ 10000)
         && decide (1 ≤ a.svid.length) && decide (a.svid.length ≤ 129) && tapArgsOk a.tap))
     check := fun s => judge [(a.tap.enable = 1 && (s.portOwner a.port != 0 || s.portUsed .vtap a.port), .conflict)]
     act := fun s =>
       let n := 8 + a.vtap
       if a.tap.enable = 0 then cmdOut ((s.tapOff n).store 0x16 n)
       else
         let s1 := s.onTap n fun t => { t with cfg := a.tap, vcfg := some a, lastCnt := none, lastAt := none, accepted := [] }
         cmdOut ((if (s.tap n).st = .off then s1.setTap n .seek else s1).store 0x16 n) })

/-- `la.grant_tap` (R230). -/
def cmdLaGrantTap (_h : CmdHdr) (tap bezel grant : Nat) : CmdMeta × CmdBody :=
  ({ op := 0x1603, plen := 3, mirrored := true },
   { argOk := fun s => decide (tap < 16) && decide (grant ≤ 1) && decide (bezel < 64) && (s.bezel bezel).present
     act := fun s =>
       let s1 := s.onTap tap fun t => { t with
         grants := if grant = 0 then t.grants.filter (· != bezel) else if bezel ∈ t.grants then t.grants else t.grants ++ [bezel] }
       let s2 := if grant = 0 then s1.onLa fun x => { x with streams := x.streams.filter fun y => !(y.bezel = bezel && y.tap = tap) } else s1
       cmdOut (s2.store 0x16 tap) })

/-- The target of a slot exists (R249, R475). -/
def targetOk (a : EventArgs) : Bool :=
  if a.action = 0 then outputOk (a.target / 256) (a.target % 256) else if a.action = 1 then decide (a.target < 4096) else decide (a.target < 64)

/-- The target belongs to another bezel or use (R249). -/
def State.targetTaken (s : State) (a : EventArgs) : Bool :=
  if a.action = 0 then a.target / 256 = 0 || (s.pin (pulseKey a.target)).cfg.mode != 2
  else if a.action = 1 then !s.operatorTxRing a.target || (match s.pring a.target with | some r => s.portUsed .laTx r.port | none => false)
  else decide (24 ≤ a.target)

/-- `la.set_event` (R247-R249). -/
def cmdLaSetEvent (_h : CmdHdr) (a : EventArgs) : CmdMeta × CmdBody :=
  ({ op := 0x1604, plen := 32, mirrored := true },
   { argOk := fun _ => decide (a.slot < 32) && decide (a.tap < 16) && decide (a.action ≤ 2) && decide (a.policy ≤ 1) && targetOk a
       && (a.action != 2 || (decide (100 ≤ a.window) && decide (a.window ≤ 1000000000)))
     check := fun s => judge [((s.slot a.slot).st = .committed, .busy), (s.targetTaken a, .conflict)]
     act := fun s => cmdOut ((s.onSlot a.slot fun x => { x with
       st := .armed, cfg := a, after := s.tc.mtc.units, cancel := false, miss := false }).store 0x16 (256 + a.slot)) })

/-- `la.cancel_event` (R247): on a committed slot it takes effect after the event. -/
def cmdLaCancelEvent (_h : CmdHdr) (slot : Nat) : CmdMeta × CmdBody :=
  ({ op := 0x1605, plen := 1, mirrored := true, action := true },
   { argOk := fun _ => decide (slot < 32)
     act := fun s => cmdOut ((s.onSlot slot fun x => if x.st = .committed then { x with cancel := true } else { x with st := .free }).touch 0x16 (256 + slot)) })

/-- The issuer may read a tap: BZ00, or a bezel granted it (R230). -/
def State.laReach (s : State) (b tap : Nat) : Bool := b = 0 || b ∈ (s.tap tap).grants

/-- The host stream of a bezel on a tap. -/
def State.laStream (s : State) (b tap : Nat) : Option LaStream := s.la.streams.find? fun x => x.bezel = b && x.tap = tap

/-- Update of the streams of a tap, or of one of them. -/
def State.onLaStreams (s : State) (p : LaStream → Bool) (f : LaStream → LaStream) : State :=
  s.onLa fun x => { x with streams := x.streams.map fun (y : LaStream) => if p y then f y else y }

/-- `la.set_stream` (R254, R403). -/
def cmdLaSetStream (h : CmdHdr) (tap n vector base : Nat) : CmdMeta × CmdBody :=
  ({ op := 0x1606, plen := 16, who := .granted },
   { argOk := fun s => decide (tap < 16) && (n = 0 || (decide (4 ≤ n) && decide (n ≤ 16) && decide (vector < 64) && s.dmaOk h.fn base (256 * 2 ^ n)))
     check := fun s => judgeOwned (s.laReach h.fn tap) false 3 []
     act := fun s =>
       let s1 := s.onLa fun x => { x with streams := x.streams.filter fun y => !(y.bezel = h.fn && y.tap = tap) }
       cmdOut (if n = 0 then s1
         else s1.onLa fun x => { x with streams := x.streams ++ [{ bezel := h.fn, tap := tap, n := n, vector := vector, base := base }] }) })

/-- Blocks that an acknowledgement returns: those up to the BSEQ it names. -/
def LaStream.returned (x : LaStream) (bseq : Nat) : Nat :=
  match x.out with
  | [] => 0
  | b :: _ => (bseq + 2 ^ 32 + 1 - b.bseq) % 2 ^ 32

/-- `la.ack_stream` (R254). -/
def cmdLaAckStream (h : CmdHdr) (tap bseq : Nat) : CmdMeta × CmdBody :=
  ({ op := 0x1607, plen := 8, who := .granted, action := true },
   { argOk := fun s => decide (tap < 16) && (match s.laStream h.fn tap with | none => true | some x => decide (x.returned bseq ≤ x.out.length))
     check := fun s => judgeOwned (s.laReach h.fn tap) false 3 [((s.laStream h.fn tap).isNone, .state)]
     act := fun s => cmdOut (s.onLaStreams (fun y => y.bezel = h.fn && y.tap = tap) fun y => { y with out := y.out.drop (y.returned bseq) }) })

/-- A record to the host (R253). -/
def laRecordLayout (tap : Nat) (x : LaRecord) : Rec :=
  etwRec (etwOfUnits x.at_) ++ [fld 4 tap, bit x.phasor, rsv 3, fld 3 x.st, bit x.steady, bit x.pred, bit x.jumped, bit x.clsM, rsv 1, fld 16 x.hseq,
    fld 32 x.angle, fld 32 x.freq, (32, x.rocof), fld 32 x.ampl, fld 32 x.sigma, (32, x.jump), fld 32 x.eseq, rsv 128]

/-- `la.read_estimates` (R253): the newest records of a kind, at most MAX, oldest first. -/
def cmdLaReadEstimates (h : CmdHdr) (tap kind max : Nat) : CmdMeta × CmdBody :=
  ({ op := 0x1641, plen := 4, who := .granted, xbOut := true },
   { argOk := fun _ => decide (tap < 16) && decide (kind ≤ 1)
     check := fun s => judgeOwned (s.laReach h.fn tap) true 3 []
     act := fun s =>
       let l := (s.tap tap).recs.filter fun x => x.phasor = (kind = 1)
       let r := l.drop (l.length - max)
       cmdOut s [fld 32 r.length] (r.flatMap (laRecordLayout tap)) })

/-- `la.read_status` (R242): state, counters and slot status; the layout is the model's own. -/
def cmdLaReadStatus (h : CmdHdr) (tap : Nat) : CmdMeta × CmdBody :=
  ({ op := 0x1642, plen := 1, who := .granted, xbOut := true },
   { argOk := fun _ => decide (tap < 16)
     check := fun s => judgeOwned (s.laReach h.fn tap) true 3 []
     act := fun s =>
       let t := s.tap tap
       cmdOut s [fld 8 t.st.code]
         ([fld 8 t.st.code, rsv 56] ++ ((List.range 16).map fun i => fld 64 (t.cnt.look 0 i)) ++
          (laSlots.flatMap fun n =>
            let x := s.slot n
            [fld 2 (match x.st with | .free => 0 | .armed => 1 | .committed => 2), bit x.miss, bit x.cancel, rsv 28, (32, x.diff), fld 128 x.te] ++
              ((List.range 6).map fun i => fld 64 (x.cnt.look 0 i)))) })


/-! ### Samples (R232-R239, R254) -/

/-- A sample word of a block (R254). -/
def sampleWord (v : Int) (valid pred clip : Bool) : Nat := wrapU 20 v + 2 ^ 20 * b01 valid + 2 ^ 21 * b01 pred + 2 ^ 22 * b01 clip

/-- A block falls due (R254): with 16 already held its samples are lost. -/
def LaStream.close (x : LaStream) (hseq : Nat) : LaStream :=
  let b : LaBlock := { x.cur with hseq := hseq, bseq := x.bseq, words := if 16 ≤ x.wait.length then x.cur.words.map fun _ => 0 else x.cur.words }
  { x with wait := x.wait ++ [b], cur := {}, bseq := (x.bseq + 1) % 2 ^ 32 }

/-- A sample word enters every host stream of its tap (R254). -/
def State.pushWord (s : State) (tap at_ w : Nat) : State :=
  let hseq := (s.hall.recs.look { point := laPoint tap } (laPoint tap)).seq
  s.onLaStreams (fun y => y.tap = tap) fun y =>
    let c : LaBlock := { y.cur with at_ := if y.cur.words.isEmpty then at_ else y.cur.at_, words := y.cur.words ++ [w] }
    let z : LaStream := { y with cur := c }
    if 56 ≤ c.words.length then z.close hseq else z

/-- The first sample whose whole filter span begins at or after TAPCK cycle 4,096 (R232): 13,894 cycles after clock start. -/
def onTapFirstValidSample (tap : Nat) (s : State) : State :=
  if 8 ≤ tap || (s.tap tap).st != .warmup then s
  else match s.la.tapck.find? fun p => p.1 = tap / 4 with
    | none => s
    | some p => if 13894 * 125 ≤ (s.tc.mtc.cyc - p.2) * 4 then s.setTap tap .seek else s

/-- A decimated sample of a physical tap (R233, R234, R254). -/
def onTapSample (tap : Nat) (density : Rat) (stuck : Bool) (s : State) : State :=
  let t := s.tap tap
  if 8 ≤ tap || t.st = .off then s
  else
    let raw := roundHalf ((density - 1 / 2) * 1048576)
    let v := clampInt raw (-524288) 524287
    let clip := raw != v
    let at_ := ((s.tc.mtc.units : Int) - (244925 + t.dTap : Nat) * 1048576).toNat
    if t.st = .warmup then s.pushWord tap at_ 0
    else if stuck then ((s.countTap tap 0).onTap tap fun x => { x with lastBad := some at_ }).pushWord tap at_ (sampleWord v false false clip)
    else if clip then ((s.countTap tap 1).onTap tap fun x => { x with lastBad := some at_ }).pushWord tap at_ (sampleWord v false false true)
    else (s.onTap tap fun x => { x with lastValid := at_ }).pushWord tap at_ (sampleWord v true false false)

/-- A tap has met an invalid or missing sample at an instant. -/
def LaTap.spoil (x : LaTap) (at_ : Nat) : LaTap := { x with lastBad := some (max at_ (x.lastBad.getD 0)) }

/-- The n positions up to that of an instant receive the estimator's prediction, each at its own instant, marked PRED and invalid (R236, R237). -/
def State.fillMissing (s : State) (tap sps : Nat) (last : Int) (n : Nat) : State :=
  (List.range n).foldl (fun t i =>
    let at_ := (last - roundHalf (((n - 1 - i : Nat) : Rat) * (unitsPerSec : Rat) / (sps : Rat))).toNat
    ((t.onTap tap fun x => x.spoil at_).pushWord tap at_ (sampleWord (Config.svPredict t.free) false true false)).nextFree) s

/-- How many positions lie after one instant up to another (R238). -/
def positionsBetween (sps : Nat) (a b : Int) : Nat := (roundHalf ((b - a : Int) * (sps : Rat) / (unitsPerSec : Rat))).toNat

/-- The instant of a sample by its smpCnt (R236), 2^-20 ns: S is the whole second nearest to t_rx - L_pub - smpCnt / rate. -/
def svInstant (a : VtapArgs) (rx cnt : Nat) : Int :=
  let frac : Rat := (cnt : Rat) / (a.sps : Rat)
  let x : Rat := (rx : Rat) / (unitsPerSec : Rat) - (a.lPub : Rat) / 1000000 - frac
  roundHalf ((((x + 1 / 2).floor : Rat) + frac) * (unitsPerSec : Rat))

/-- A frame is LATE when t_rx - t_s lies outside 0 to 10 ms for a sample of it (R236). -/
def svLate (a : VtapArgs) (f : SvFrame) : Bool :=
  f.asdus.any fun x => let d := (f.rx : Int) - svInstant a f.rx x.cnt; decide (d < 0) || decide (10000000 * 1048576 < d)

/-- The smpCnt values of a frame continue from the last accepted one, and each from the one before (R238). -/
def svContinues (sps : Nat) (last : Option Nat) (l : List Nat) : Bool :=
  match last, l with
  | _, [] => true
  | none, c :: r => svContinues sps (some c) r
  | some p, c :: r => c = (p + 1) % sps && svContinues sps (some c) r

/-- One sample of an accepted frame (R236, R239). -/
def State.svSampleAt (s : State) (tap : Nat) (a : VtapArgs) (rx : Nat) (synchOk : Bool) (x : SvAsdu) : State :=
  let at_ := (svInstant a rx x.cnt).toNat
  if synchOk && x.good then (s.onTap tap fun t => { t with lastValid := at_ }).pushWord tap at_ (sampleWord (Config.svSample x.value) true false false)
  else (if x.good then s else s.countTap tap 7).fillMissing tap a.sps at_ 1

/-- A sampled-value frame (R42, R235-R239). The positions of a rejected, LATE or lost frame are missing, and are filled when the next frame that shows the
gap arrives (assumption 152). -/
def onSvFrame (vtap : Nat) (f : SvFrame) (s : State) : State :=
  let n := 8 + vtap
  let t := s.tap n
  match t.vcfg with
  | none => s
  | some a =>
    let counts := f.asdus.map (·.cnt)
    let ats := counts.map (svInstant a f.rx)
    let end_ := ats.getLast?.getD f.rx
    let bad := fun (k : Nat) (u : State) => (u.countTap n k).onTap n fun y => y.spoil end_.toNat
    if 8 ≤ vtap || t.st = .off || f.dest != a.dest || f.appid != a.appid || f.svid != a.svid then s
    else if f.asdus.length != a.noAsdu || f.asdus.any fun x => x.len != a.dataLen then
      bad (if (f.asdus.map (·.len)).sum < a.noAsdu * a.dataLen || ((f.asdus.map (·.len)).sum = a.noAsdu * a.dataLen && decide (f.asdus.length < a.noAsdu)) then 3 else 4)
        (s.logPartner 0x1681 n)
    else if svLate a f then bad 2 s
    else if ats.any fun x => x ∈ t.accepted then s.countTap n 6
    else if !svContinues a.sps t.lastCnt counts then
      let from_ : Int := t.lastAt.getD (ats.head?.getD end_ - roundHalf ((unitsPerSec : Rat) / (a.sps : Rat)))
      (((s.logPartner 0x1682 n).countTap n 5).fillMissing n a.sps end_ (positionsBetween a.sps from_ end_)).onTap n fun y => { y with
        lastCnt := counts.getLast?, lastAt := some end_ }
    else
      let ok := (f.synch = 1 && nbit a.smpSynch 0) || (f.synch = 2 && nbit a.smpSynch 1)
      let s1 := s.onTap n fun y => { y with
        lastCnt := counts.getLast?, lastAt := some end_
        accepted := (y.accepted.filter fun x => decide (end_ - 20 * (unitsPerMs : Int) ≤ x)) ++ ats }
      f.asdus.foldl (fun u x => u.svSampleAt n a f.rx ok x)
        (if ok then s1 else s1.onTap n fun y => { y with cnt := y.cnt.upd 0 8 (· + f.asdus.length) })

/-- The 256 bytes of a block (R254): ETW, TAP, the sample count, HSEQ, BSEQ, and the 56 sample words. -/
def laBlockLayout (tap : Nat) (b : LaBlock) : Rec :=
  etwRec (etwOfUnits b.at_) ++ [fld 8 tap, fld 8 56, fld 16 b.hseq, fld 32 b.bseq, rsv 64] ++ b.words.map (fld 32)

/-- The records of a tap that wait go to the host memory of each of its streams (R253). DESIGN CHOICE (assumption 152): in order of delivery, beside the ring
of blocks, which the spec does not relate to them. -/
def State.writeRecords (s : State) (tap : Nat) : State :=
  (s.la.streams.filter fun x => x.tap = tap && !x.recs.isEmpty).foldl (fun u x =>
    if u.masterFrozen x.bezel 2 (256 + tap) || u.masterFrozen x.bezel 3 (256 + tap) || !u.laReach x.bezel tap || !u.dmaOk x.bezel x.base (256 * 2 ^ x.n) then u
    else (u.onLaStreams (fun y => y.bezel = x.bezel && y.tap = tap) fun y => { y with
      recs := [], recImage := y.recImage ++ y.recs.flatMap fun r => (laRecordLayout tap r).toBytes }).announce x.bezel x.vector) s

/-- Blocks and records are written to the host when there is room (R253, R254, R408). -/
def onLaStreamWrite (tap : Nat) (s : State) : State :=
  (s.la.streams.filter fun x => x.tap = tap).foldl (fun u x =>
    match x.wait with
    | [] => u
    | b :: r =>
      if 2 ^ x.n ≤ x.out.length || u.masterFrozen x.bezel 2 (256 + tap) || u.masterFrozen x.bezel 3 (256 + tap) then u
      else if !u.laReach x.bezel tap then u.freezeMaster x.bezel 3 (256 + tap) 6 tap
      else if !u.dmaOk x.bezel x.base (256 * 2 ^ x.n) then u.freezeMaster x.bezel 2 (256 + tap) 2 x.base
      else (u.onLaStreams (fun y => y.bezel = x.bezel && y.tap = tap) fun y => { y with
        wait := r, out := y.out ++ [b], image := (laBlockLayout tap b).toBytes }).announce x.bezel x.vector) (s.writeRecords tap)

/-- TAP_FIRST_VALID_SAMPLE (R232). -/
def execTapFirstValidSample (tap : Nat) (s : State) : Host.Outcome State Fault Refusal :=
  .next (if s.alive then onTapFirstValidSample tap s else s)

/-- TAP_SAMPLE (R233). -/
def execTapSample (tap : Nat) (density : Rat) (stuck : Bool) (s : State) : Host.Outcome State Fault Refusal :=
  .next (if s.alive then onTapSample tap density stuck s else s)

/-- SV_FRAME (R236). -/
def execSvFrame (vtap : Nat) (f : SvFrame) (s : State) : Host.Outcome State Fault Refusal :=
  .next (if s.alive then onSvFrame vtap f s else s)

/-- LA_STREAM_WRITE (R254). -/
def execLaStreamWrite (tap : Nat) (s : State) : Host.Outcome State Fault Refusal :=
  .next (if s.alive then onLaStreamWrite tap s else s)


/-! ### Estimates (R240-R246, R248, R252) -/

/-- The state after an estimate (R242): a missing or weak signal comes before a transient. -/
def LaTap.after (t : LaTap) (full two amp fOk res jumpy : Bool) : TapState :=
  match t.st with
  | .off => .off
  | .warmup => .warmup
  | .seek => if two && amp && fOk && res then .track else .seek
  | .track => if !full || !amp then .predict else if !res || jumpy then .transient else .track
  | .transient => if !full || !amp then .predict else if res then .track else .transient
  | .predict => if full && amp && res then .track else .predict

/-- A fit as a held estimate. -/
def fitModel (x : LaFit) : LaModel :=
  { at_ := x.instant, angle := x.angle % 2 ^ 32, f := x.f, r := x.r, ampl := x.ampl, sigPhi := x.sigPhi, sigF := x.sigF }

/-- The phase innovation is above 0.005 turn, or the frequency innovation above 0.5 Hz (R242). -/
def LaModel.jumpy (m : LaModel) (x : LaFit) : Bool :=
  decide (5 / 1000 * (2 ^ 32 : Rat) < ((angleDiff ((x.angle : Rat) / (2 ^ 32 : Rat) - m.turns x.instant)).natAbs : Rat))
    || decide (1 / 2 < rabs (x.f - m.freqAt x.instant))

/-- A record from a model at an instant (R253): an estimate, or a phasor, whose angle is a quarter turn less (R241). -/
def State.laRecord (s : State) (n : Nat) (m : LaModel) (instant : Nat) (phasor pred : Bool) : LaRecord :=
  let t := s.tap n
  { at_ := instant, phasor := phasor, st := t.st.code, pred := pred
    steady := decide (n < 8) && t.st = .track && (match t.steadySince with | some x => decide (x + unitsPerSec ≤ instant) | none => false)
    jumped := !phasor && t.jump.isSome, clsM := t.cfg.cls = 1
    angle := angleOf (m.turns instant - (if phasor then 1 / 4 else 0)), freq := (roundHalf (m.freqAt instant * 16777216)).toNat
    rocof := roundHalf (m.r * 65536), ampl := if phasor then (m.ampl * m.ampl / 2).sqrt else m.ampl
    sigma := (roundHalf (m.sigPhi * (2 ^ 32 : Rat))).toNat, jump := if phasor then 0 else t.jump.getD 0 }

/-- A quarter-cycle fit of a tap (R240-R243, R246, R248, R252). -/
def onLaEstimate (n : Nat) (x : LaFit) (s : State) : State :=
  let t := s.tap n
  if 16 ≤ n || t.st = .off || t.st = .warmup then s
  else
    let clean := match t.lastBad with | some b => decide (b + t.span < x.instant) | none => true
    let jumpy := match t.model with | some m => m.jumpy x | none => false
    let st := t.after (x.full && clean) (x.two && (match t.lastBad with | some b => decide (b + 8 * t.quarter < x.instant) | none => true)) (decide ((t.cfg.aMin : Rat) ≤ x.level * 1000))
      (decide (rabs (x.f - (t.nominal : Rat)) ≤ 5)) (decide (x.residual * 1000 ≤ (t.cfg.rTh : Rat))) jumpy
    let again := st = .track && (t.st = .transient || t.st = .predict)
    let jump := match t.model with | some m => if again then some (angleDiff ((x.angle : Rat) / (2 ^ 32 : Rat) - m.turns x.instant)) else none | none => none
    let s1 := (s.setTap n st).onTap n fun y => { y with
      model := if st = .track then some (fitModel x) else if st = .seek then none else y.model, jump := jump
      transientAt := if st = .transient && t.st != .transient then x.instant else y.transientAt
      steadySince := if st = .track && decide (rabs x.r ≤ 1 / 10) then (if t.st = .track && t.steadySince.isSome then t.steadySince else some x.instant) else none }
    let s2 := if st = .predict then s1.hallDue [laPoint n] else s1
    match (s2.tap n).model with
    | none => s2
    | some m =>
      let s3 := s2.emitLa n (s2.laRecord n m x.instant false (st != .track))
      (if st = .track then laSlots.foldl (fun u k => u.checkFired n k m) s3 else s3).slotsAt n

/-- A synchrophasor at a reporting instant (R241). -/
def onPhasorReport (n : Nat) (x : LaFit) (s : State) : State :=
  let t := s.tap n
  if 16 ≤ n || !reportingAt t.cfg.reportRate x.instant then s
  else if t.st = .track then s.emitLa n (s.laRecord n (fitModel x) x.instant true false)
  else if t.st = .transient || t.st = .predict then
    match t.model with
    | none => s
    | some m => s.emitLa n (s.laRecord n m x.instant true true)
  else s

/-- A tap goes back to SEEK, its model gone. -/
def State.tapSeek (s : State) (n : Nat) : State := (s.setTap n .seek).onTap n fun t => { t with model := none, steadySince := none, jump := none }

/-- 1 s in TRANSIENT (R242). -/
def onTransientTimeout (n : Nat) (s : State) : State :=
  if (s.tap n).st = .transient && decide ((s.tap n).transientAt + unitsPerSec ≤ s.tc.mtc.units) then s.tapSeek n else s

/-- The hold limit since the last valid sample (R242). -/
def onPredictHoldLimit (n : Nat) (s : State) : State :=
  if (s.tap n).st = .predict && decide ((s.tap n).lastValid + (s.tap n).cfg.hold * unitsPerMs ≤ s.tc.mtc.units) then s.tapSeek n else s

/-- An ARM window closes (R249). -/
def onArmWindowClose (slot : Nat) (s : State) : State :=
  match (s.slot slot).window with
  | none => s
  | some e => if s.tc.mtc.units < e.1 then s else s.onSlot slot fun x => { x with window := none }

/-- LA_ESTIMATE (R240). -/
def execLaEstimate (tap : Nat) (fit : LaFit) (s : State) : Host.Outcome State Fault Refusal :=
  .next (if s.alive then onLaEstimate tap fit s else s)

/-- PHASOR_REPORT (R241). -/
def execPhasorReport (tap : Nat) (fit : LaFit) (s : State) : Host.Outcome State Fault Refusal :=
  .next (if s.alive then onPhasorReport tap fit s else s)

/-- TRANSIENT_TIMEOUT (R242). -/
def execTransientTimeout (tap : Nat) (s : State) : Host.Outcome State Fault Refusal :=
  .next (if s.alive then onTransientTimeout tap s else s)

/-- PREDICT_HOLD_LIMIT (R242). -/
def execPredictHoldLimit (tap : Nat) (s : State) : Host.Outcome State Fault Refusal :=
  .next (if s.alive then onPredictHoldLimit tap s else s)

/-- ARM_WINDOW_CLOSE (R249). -/
def execArmWindowClose (slot : Nat) (s : State) : Host.Outcome State Fault Refusal :=
  .next (if s.alive then onArmWindowClose slot s else s)


end Sys2Proof.Machine
end

