-- ==== Sys2Proof/Machine/Facet.lean ====
section
/-! DEFINITION. Events that act in two blocks: interpolator calibration of channels and facets (R186-R189, R279, R604), and the
firing of a scheduled event (R249, R250). -/

namespace Sys2Proof.Machine

/-- A calibration run ends (R187, R189, R279). -/
def onCalibrationRunEnd (unit : CalUnit) (firstCode : Nat) (hits : List Nat) (s : State) : State :=
  match unit with
  | .fil ch => if 64 ≤ ch then s else s.filRunEnd ch firstCode hits
  | .facet p tx => if !portOk p then s else s.facetRunEnd p tx firstCode hits

/-- The roles swap (R188). -/
def onInterpolatorSwap (unit : CalUnit) (s : State) : State :=
  match unit with
  | .fil ch => if 64 ≤ ch then s else s.onChan ch fun c => { c with interp := c.interp.swap (c.dead s.tc.mtc.cyc) }
  | .facet p tx => if !portOk p then s else s.facetChange p tx (Interp.swap false)

/-- The survivor's own run starts (R189, R279, R604). -/
def onSurvivorCalibrationStart (unit : CalUnit) (s : State) : State :=
  match unit with
  | .fil ch => if 64 ≤ ch then s else s.onChan ch fun c => { c with interp := c.interp.survStart }
  | .facet p tx => if !portOk p then s else s.facetChange p tx Interp.survStart

/-- CALIBRATION_RUN_END (R187). -/
def execCalibrationRunEnd (unit : CalUnit) (firstCode : Nat) (hits : List Nat) (s : State) : Host.Outcome State Fault Refusal :=
  .next (if s.alive then onCalibrationRunEnd unit firstCode hits s else s)

/-- INTERPOLATOR_SWAP (R188). -/
def execInterpolatorSwap (unit : CalUnit) (s : State) : Host.Outcome State Fault Refusal :=
  .next (if s.alive then onInterpolatorSwap unit s else s)

/-- SURVIVOR_CALIBRATION_START (R604). -/
def execSurvivorCalibrationStart (unit : CalUnit) (s : State) : Host.Outcome State Fault Refusal :=
  .next (if s.alive then onSurvivorCalibrationStart unit s else s)


/-- The action of a fired slot (R249, R250); two events less than half a time-clock cycle apart are due in the same cycle. -/
def State.fireAction (s : State) (n : Nat) : State :=
  let x := s.slot n
  if x.cfg.action = 0 then
    let key := pulseKey x.cfg.target
    let o := s.pin key
    match o.pulse with
    | none => s.onPin key fun y => { y with pulse := some x.te }
    | some t =>
      if ((x.te : Int) - (t : Int)).natAbs < 838861 then s.countSlot n 2
      else if x.te < t + o.cfg.width * 1048576 then s.countSlot n 3
      else s.onPin key fun y => { y with pulse := some x.te }
  else if x.cfg.action = 1 then
    let (s1, found) := s.releaseRing x.cfg.target
    if found then s1 else s1.countSlot n 4
  else s.onSlot n fun y => { y with window := some (x.te + x.cfg.window * 1048576, x.cfg.target) }

/-- A committed event fires at t_e; its check follows at the next estimate (R252), and the slot goes on or is free (R247, R248). -/
def onScheduledEventFire (slot : Nat) (s : State) : State :=
  let x := s.slot slot
  if 32 ≤ slot || x.st != .committed then s
  else
    let t := s.tap x.cfg.tap
    let f : Rat := match t.model with | some m => m.f | none => (t.nominal : Rat)
    (s.fireAction slot).onSlot slot fun y =>
      let z : LaSlot := { y with fired := y.fired ++ [{ te := y.te, bound := y.bound, tap := y.cfg.tap, angle := y.cfg.angle }] }
      if y.cancel then { z with st := .free, cancel := false } else z.advance y.te f

/-- SCHEDULED_EVENT_FIRE (R249). -/
def execScheduledEventFire (slot : Nat) (s : State) : Host.Outcome State Fault Refusal :=
  .next (if s.alive then onScheduledEventFire slot s else s)


end Sys2Proof.Machine
end

