-- ==== Sys2Proof/Machine/Hall.lean ====
section
/-! DEFINITION. Publication of Hallmark records, the terms of each point, the settle windows, and the hall commands (R31, R32, R71-R82). -/

namespace Sys2Proof.Machine

/-! ### Terms of a point (R80, R82) -/

/-- B_port, ps. -/
def bPort (m : PortMode) : Nat := if m = .g25 then 80 else if m = .g10 then 150 else 800

/-- c_T, ps/K (R82). -/
def cT (m : PortMode) : Nat := if m = .g25 then 2 else if m = .g10 then 3 else 10

/-- The facet's temperature term, ps, while the transient lasts (R82, R284). -/
def PortSt.bTemp (x : PortSt) : Rat :=
  match x.cal.hotFrom with
  | none => 0
  | some t => (cT x.mode : Rat) * max 0 (rabs (x.cal.temp - t) - 10)

/-- B_asym with the widening of a change (R80, R82). -/
def PortSt.bAsym (x : PortSt) : Nat := x.asymWiden.getD x.uAsym

/-- The pair term in force: while paired, and frozen through the settle window after (R80, R82). -/
def State.bPair (s : State) : Option Nat := if s.paired then some s.pairTerm else s.clasp.frozenPair

/-- The place of an output point. -/
def keyOfPoint (p : Nat) : Option Nat := if 0x100 ≤ p && decide (p < 0x12C) then some (p - 0x100) else none

/-- The terms a point adds to those of the ensemble; none where it is unbounded (R80, R82, R210, R245). -/
def State.pointTerms (s : State) (p : Nat) : Option Rat :=
  if p < 256 then
    let x := s.port p
    some ((bPort x.mode : Rat) + (x.bAsym : Rat) + x.bTemp + ((s.bPair.getD 0 : Nat) : Rat))
  else match keyOfPoint p with
    | some k => if timeBearing (s.pin k).cfg then some (s.bFil k + ((s.bPair.getD 0 : Nat) : Rat)) else none
    | none => if 0x180 ≤ p && decide (p ≤ 0x18F) then (s.bLa (p - 0x180)).map fun n => (n : Rat) else some 0

/-- PAIR applies to a point. -/
def pairPoint (p : Nat) : Bool := decide (p < 0x12C)

/-- TRANSIENT of a point (R82, R220). -/
def State.pointTransient (s : State) (p : Nat) : Bool :=
  (pairPoint p && !s.paired && s.clasp.frozenPair.isSome) ||
    (if p < 256 then (s.port p).cal.hotFrom.isSome || (s.port p).asymWiden.isSome
     else match keyOfPoint p with | some k => (s.pin k).trans | none => false)

/-- BOUND of a point now (R49, R78, R525). -/
def State.pointBound (s : State) (p : Nat) : Nat :=
  if s.squelched || s.pwr.st = .boot || !s.tc.ts.bounded then 0xFFFFFFFF
  else match s.pointTerms p with
    | none => 0xFFFFFFFF
    | some t => encodeBound (s.ensembleTerms + t)

/-! ### Publication (R71, R75, R76) -/

/-- Every point there is (R72). -/
def State.allPoints (s : State) : List Nat := List.range 0x12C ++ (s.bezels.map (0x140 + ·)) ++ (List.range 16).map (0x180 + ·) ++ [0xFFFF]

/-- The record published for a point now. -/
def State.freshRec (s : State) (p : Nat) : HallRec :=
  s.signed {
    bound := s.pointBound p, point := p, src := if 0x180 ≤ p && decide (p ≤ 0x18F) then 8 else s.hall.src, state := s.tc.ts.code,
    pair := pairPoint p && s.bPair.isSome, transient := s.pointTransient p, leap61 := s.tc.ann61, leap59 := s.tc.ann59, gen := s.tc.gen,
    seq := ((s.hallRec p).seq + 1) % 65536, issueSec := s.sec % 2 ^ 32, issueSub := s.tc.mtc.ns * 256 / 1000000000,
    holdAge := if s.tc.ts = .holdover then min 0xFFFFFF s.holdAge else 0, chain := s.hall.chain }

/-- The record of a port that waits for it is out: the port enters UP, and a new asymmetry may take effect (R81, R261). -/
def State.releasePort (s : State) (p : Nat) : State :=
  let s1 := if (s.port p).asymNext.isSome then s.onPort p fun y => { y with asymCover := true } else s
  if p < 256 && (s.port p).toUp then (if (s.port p).canTime then s1.setPort p .up else s1.setPort p .upUntimed) else s1

/-- The record of an output that loses its loopback channel is out: the channel moves (R81, R182). -/
def State.releaseMoves (s : State) (p : Nat) : State :=
  (s.fil.moves.filter fun m => pointOfKey (s.loopTarget m.1) = p).foldl (fun (t : State) m =>
    (t.onFil fun x => { x with
      loopOut := x.loopOut.put m.1 m.2.1, divider := x.divider.put m.1 m.2.2, moves := x.moves.filter fun y => y.1 != m.1 }).onPin m.2.1 fun o => { o with err := none }) s

/-- The record with the widening of an OFFSET change is out: the change may take effect from the first top of the second at least 2 ms after it
(R220). -/
def State.coverOffset (s : State) (p : Nat) : State :=
  match keyOfPoint p with
  | none => s
  | some k => if (s.pin k).next.isSome && (s.pin k).cover.isNone then s.onPin k fun o => { o with cover := some (s.topAfter 2000000) } else s

/-- What had to wait for a point's record goes on (R81). -/
def State.releaseAfter (s : State) (p : Nat) : State :=
  if p < 256 then s.releasePort p
  else if 0x180 ≤ p && decide (p ≤ 0x18F) then s.releaseLa (p - 0x180)
  else (s.releaseMoves p).coverOffset p

/-- The narrowings that waited for a point's record come into effect, and the next record carries them (R81). -/
def State.narrowAfter (s : State) (p : Nat) : State :=
  let mine := s.hall.narrow.filter fun q => q.1 = p
  let s1 := if p ∈ s.hall.widen || !mine.isEmpty then
    s.onHall fun h => { h with widen := h.widen.filter (· != p), narrow := h.narrow.filter fun q => q.1 != p } else s
  let s2 := mine.foldl (fun (t : State) q => t.narrowNow p q.2) s1
  if s2.hall.narrowPair && s2.hall.widen.isEmpty then
    ((s2.onClasp fun c => { c with frozenPair := none }).onHall fun h => { h with narrowPair := false }).hallDue portAndOutputPoints
  else s2

/-- One record: signed by a job of the Time Core of two beats (R387) on the owner's Hallmark key where that is usable, and put in force for its point. -/
def State.publish (s : State) (p : Nat) : State :=
  let r := s.freshRec p
  let k := 128 + s.pointOwner p
  let s1 := if s.keyUsable k then (s.useKey k).chargeBeats reqTime 2 else s
  ((s1.onHall fun h => { h with
    recs := h.recs.put p r, due := h.due.filter (· != p), expired := h.expired.filter (· != p)
    snapRewrites := if 0x140 ≤ p && decide (p ≤ 0x17F) then h.snapRewrites.upd 0 (p - 0x140) (· + 1) else h.snapRewrites }).releaseAfter p).narrowAfter p

/-- Fresh records for some points (R76): the others of a withdrawal stay withdrawn, and of a publication due for all, due. -/
def onHallmarkPublish (points : List Nat) (s : State) : State :=
  let all := s.allPoints
  let s1 := s.onHall fun h => { h with
    due := if h.dueAll then all else h.due, dueAll := false
    expired := if h.withdrawn then all else h.expired, withdrawn := false }
  (points.filter fun p => p ∈ all).foldl (fun (t : State) p => t.publish p) (if points.any (fun p => p ∈ all) then s1 else s)

/-- A validity window ends without a fresh record (R32). -/
def onHallmarkWindowExpiry (point : Nat) (s : State) : State :=
  if point ∈ s.hall.expired || decide (s.recAge (s.hallRec point) * 10 < 11 * unitsPerSec) then s
  else s.onHall fun h => { h with expired := h.expired ++ [point] }

/-- The asymmetry settle window ends after the change has taken effect (R82). -/
def onAsymSettleEnd (port : Nat) (s : State) : State :=
  let x := s.port port
  if 256 ≤ port || x.asymNext.isSome || x.asymWiden.isNone then s
  else s.narrow port 0

/-- The pair settle window ends (R82); while a widening is due its narrowing follows in the next records (R81). -/
def onPairSettleEnd (s : State) : State :=
  if s.clasp.frozenPair.isNone then s
  else if !s.hall.widen.isEmpty then s.onHall fun h => { h with narrowPair := true }
  else (s.onClasp fun c => { c with frozenPair := none }).hallDue portAndOutputPoints

/-- HALLMARK_PUBLISH (R76). -/
def execHallmarkPublish (points : List Nat) (s : State) : Host.Outcome State Fault Refusal :=
  .next (if s.alive then onHallmarkPublish points s else s)

/-- HALLMARK_WINDOW_EXPIRY (R32). -/
def execHallmarkWindowExpiry (point : Nat) (s : State) : Host.Outcome State Fault Refusal :=
  .next (if s.alive then onHallmarkWindowExpiry point s else s)

/-- ASYM_SETTLE_END (R82). -/
def execAsymSettleEnd (port : Nat) (s : State) : Host.Outcome State Fault Refusal :=
  .next (if s.alive then onAsymSettleEnd port s else s)

/-- PAIR_SETTLE_END (R82). -/
def execPairSettleEnd (s : State) : Host.Outcome State Fault Refusal :=
  .next (if s.alive then onPairSettleEnd s else s)


/-! ### Commands (R75, R77, R82, R479) -/

/-- `hall.set_windows`. -/
def cmdHallSetWindows (_h : CmdHdr) (asymWindow pairWindow : Nat) : CmdMeta × CmdBody :=
  ({ op := 0x1301, plen := 8, mirrored := true },
   { argOk := fun _ => decide (1 ≤ asymWindow) && decide (asymWindow ≤ 3600) && decide (1 ≤ pairWindow) && decide (pairWindow ≤ 3600)
     act := fun s => cmdOut ((s.onHall fun x => { x with asymWindow := asymWindow, pairWindow := pairWindow }).store 0x13 0) })

/-- `hall.read_current`: the record as an emission now carries it. -/
def cmdHallReadCurrent (h : CmdHdr) (point : Nat) : CmdMeta × CmdBody :=
  ({ op := 0x1341, plen := 2, who := .any },
   { argOk := fun _ => pointOk point
     check := fun s => judgeOwned (s.pointOwner point = h.fn) true 3 []
     act := fun s => cmdOut s (hallLayout (s.carried point)) })

/-- `hall.verify_record`: MAC and freshness under the issuer's Hallmark key. -/
def cmdHallVerifyRecord (h : CmdHdr) (r : HallRec) (deviceId : Nat) : CmdMeta × CmdBody :=
  ({ op := 0x1342, plen := 40, who := .any },
   { argOk := fun _ => true
     act := fun s =>
       let k := 128 + h.fn
       let dev := if deviceId = 0 then s.mgmt.deviceId else deviceId
       let ok : Bool := s.keyUsable k && decide (hallMac (s.key k).material dev r = r.mac)
       cmdOut (if s.keyUsable k then s.useKey k else s) [fld 8 (b01 ok), fld 8 (b01 (decide (s.recAge r * 10 ≤ 11 * unitsPerSec)))] })


end Sys2Proof.Machine
end

