-- ==== Sys2Proof/Machine/Boot.lean ====
section
/-! DEFINITION. What a device reset leaves: every block as its own reset makes it, the stored configuration applied to it (R446, R460, R503,
R550-R554), the choice of the firmware set (R508, R509) and the restoring of the vault and the key slots (R352, R353, R561). -/

namespace Sys2Proof.Machine

/-! ### Blocks after a device reset, with their stored configuration applied -/

/-- The Time Core (R54, R57, R62, R67, R68, R553): the counter holds zero until it is started. -/
def TcSt.dark (c : TcSt) : TcSt :=
  { leap := match c.leapNext with | some l => l.entries | none => c.leap
    gen := match c.leapNext with | some l => if l.genInc then (c.gen + 1) % 65536 else c.gen | none => c.gen
    localOff := c.localOff, localSched := c.localSched, acq := c.acq, slewRate := c.slewRate, moscCal := c.moscCal }

/-- A function after a device reset (R446, R458, R462): every queue disabled, every transaction gone; semaphores survive. -/
def FnSt.dark (f : FnSt) : FnSt :=
  { sems := f.sems.mapAll fun _ (e : Sem) => if e.st = .held then { e with st := .abandoned } else e
    rollbacks := (f.queues.filter fun q => q.2.txn.isSome).length }

/-- The mailboxes; the RWL fields keep their values on a sealed device (R18, R588). -/
def MbxSt.dark (m : MbxSt) (isSealed : Bool) : MbxSt :=
  { fns := m.fns.mapAll fun _ f => FnSt.dark f
    epoch := m.epoch
    testDis := isSealed && m.testDis
    boardTag := if isSealed then m.boardTag else 0 }

/-- Inputs: an enabled one begins in ABSENT (R87); labels and histories are gone (R90). -/
def RefSt.dark (x : RefSt) : RefSt :=
  { ins := x.ins.mapAll fun _ (y : RefIn) => { st := if y.st = .off then .off else .absent }
    pps := x.pps.mapAll fun _ (y : PpsIn) => { falling := y.falling, w := y.w, cable := y.cable, u := y.u }
    clk := x.clk
    tci := x.tci.mapAll fun _ (y : TcIn) => { kind := y.kind, format := y.format, scale := y.scale, ieee1344 := y.ieee1344, previous := y.previous }
    nref := x.nref.mapAll fun _ (y : NrefIn) => { cfg := y.cfg }
    pend := x.pend.mapAll fun _ (y : PendIn) => { cfg := y.cfg, health := if y.health = .none then .none else .stale } }

/-- The GNSS baseband: enabled streams align anew (R115); surveys, baselines and stored data stay (R121, R131, R139). -/
def GnssSt.dark (g : GnssSt) : GnssSt :=
  { streams := g.streams.mapAll fun _ (y : GnssStream) => {
      cfg := y.cfg, st := if y.cfg.enable = 1 then .align else .off, baseline := y.baseline
      d := match y.cableNext with | some n => n.1 | none => y.d
      u := match y.cableNext with | some n => n.2.1 | none => y.u }
    systems := g.systems, l1c := g.l1c, refSys := g.refSys, mask := g.mask
    rate := match g.rateNext with | some r => r.1 | none => g.rate
    root := g.root, almanac := g.almanac, ephem := g.ephem, powerTh := g.powerTh, vector := g.vector
    ants := g.ants.mapAll fun _ (a : Antenna) => { survey := { pos := a.survey.pos, seed := a.survey.seed } } }

/-- A model as last written to MRAM returns to a reference (R163). -/
def RefAssay.restore (a : RefAssay) (m : SavedModel) : RefAssay :=
  { a with model := m.model, row := m.row, history := m.history, restored := decide (m.row ≠ 0) }

/-- The ensemble: settings, and the models, drifts and histories as last written to MRAM, of the references whose configuration is unchanged
(R163); `same` says of which it is. -/
def EnsSt.dark (e : EnsSt) (same : Nat → SavedModel → Bool) : EnsSt :=
  { refs := (e.saved.filter fun q => same q.1 q.2).foldl (fun t q => t.upd {} q.1 fun a => RefAssay.restore a q.2)
      (e.refs.mapAll fun _ (a : RefAssay) => { ceiling := a.ceiling, exclude := a.exclude })
    steer := e.steer.mapAll fun _ (c : SteerCfg) => { track := c.track, tau := c.tau, interval := c.interval }
    driftEnable := e.driftEnable, final := e.final, horizon := e.horizon, horizonNow := e.horizon, ageLimit := e.ageLimit, saved := e.saved }

/-- Filigree (R181, R182, R189, R199, R202): both interpolators of every channel are calibrated anew; host streams are closed. -/
def FilSt.dark (x : FilSt) : FilSt :=
  { chans := x.chans.mapAll fun _ (c : FilChan) => { en := c.en, edge := c.edge, n := c.n, grants := c.grants }
    rings := x.rings.mapAll fun _ (r : FilRing) =>
      { allot := match r.next with | some n => n.2 | none => r.allot
        hold := match r.next with | some n => n.1 | none => r.hold
        readers := (r.readers.filter fun (u : FilReader) => match u.user with | .bezel _ => false | _ => true).map fun (u : FilReader) => { user := u.user } }
    loopOut := x.moves.foldl (fun t (m : Nat × Nat × Nat) => t.put m.1 m.2.1) x.loopOut
    divider := x.moves.foldl (fun t (m : Nat × Nat × Nat) => t.put m.1 m.2.2) x.divider
    engines := x.engines.mapAll fun _ (e : DiffEng) => { cfg := e.cfg, gateEnd := 1, gateEndMs := 1000 } }

/-- Output loops start in FREE_RUN (R209); enabled outputs are squelched until their causes end (R214); offsets in force or waiting are kept. -/
def OutSt.dark (x : OutSt) : OutSt :=
  { loops := x.loops.mapAll fun _ (l : OutLoop) =>
      { en := l.en, fl := l.fl, bw := l.bw, y0 := l.y1, y1 := l.y1, slope := l.slope, ssc := l.ssc, depth := l.depth, rate := l.rate }
    pins := x.pins.mapAll fun _ (p : OutPin) =>
      { cfg := match p.next with | some n => { p.cfg with offset := n.1 } | none => p.cfg
        st := if p.cfg.enable = 1 then .squelched else .off, sOut := p.sOut } }

/-- The LAE: enabled physical taps warm up and virtual taps seek (R242); slots stay armed (R247); host streams are closed. -/
def LaSt.dark (x : LaSt) : LaSt :=
  { taps := x.taps.mapAll fun n (t : LaTap) =>
      { st := if t.st = .off then .off else if n < 8 then .warmup else .seek, cfg := t.cfg, dTap := t.dTap, vcfg := t.vcfg, grants := t.grants }
    tapck := x.tapck.mapAll fun _ _ => 0
    slots := x.slots.mapAll fun _ (e : LaSlot) =>
      if e.st = .free then {} else { st := .armed, cfg := e.cfg } }

/-- A port with its configuration: an enabled one calibrates (R261, R282); FAILED and held end (R261, R279). -/
def PortSt.dark (p : PortSt) : PortSt :=
  { mode := p.mode, half := p.half, an := p.an
    st := if p.mode = .off then .disabled else .calibrating
    pauseRx := p.pauseRx, maxLen := p.maxLen, watchdog := p.watchdog, holdoff := p.holdoff, eee := p.eee, idle := p.idle, tw := p.tw
    cal := { due := p.mode != .off }, prod := p.prod
    asym := match p.asymNext with | some n => n.1 | none => p.asym
    uAsym := match p.asymNext with | some n => n.2.1 | none => p.uAsym
    margin := p.margin, mac := p.mac, addrs := p.addrs, filters := p.filters }

/-- Ports; every ring is closed (R446). -/
def PortsSt.dark (x : PortsSt) : PortsSt :=
  { ports := x.ports.mapAll fun _ p => PortSt.dark p
    prp := x.prp.map fun (q : PrpPair) => { a := q.a, b := q.b, forget := q.forget } }

/-- A meter starts full (R375). -/
def Meter.dark (m : Meter) : Meter :=
  { mode := m.mode, packets := m.packets, cir := m.cir, pir := m.pir, cbs := m.cbs, ebs := m.ebs
    tc := m.cbs * packetHz, te := m.ebs * packetHz, credited := (m.cbs + m.ebs) * packetHz }

/-- A shaper starts with no credit (R383). -/
def Shaper.dark (x : Shaper) : Shaper := { rate := x.rate, high := x.high, low := x.low, set := x.set }

/-- The traffic manager, every queue empty. -/
def TmSt.dark (x : TmSt) : TmSt :=
  { bezMeters := x.bezMeters.mapAll fun _ m => Meter.dark m
    subMeters := x.subMeters.mapAll fun _ m => Meter.dark m
    svcMeters := x.svcMeters.mapAll fun _ m => Meter.dark m
    bezels := x.bezels.mapAll fun _ (b : TmBezel) => { reserve := b.reserve, cap := b.cap }
    queues := x.queues.mapAll fun _ (q : SvcQueue) => { limit := q.limit, yellow := q.yellow }
    subShapers := x.subShapers.mapAll fun _ h => Shaper.dark h
    svcShapers := x.svcShapers.mapAll fun _ h => Shaper.dark h
    portShapers := x.portShapers.mapAll fun _ h => Shaper.dark h
    samples := x.samples, rules := x.rules }

/-- The TSE: services stay, grants and requests are gone. -/
def TseSt.dark (x : TseSt) : TseSt :=
  { services := x.services.mapAll fun _ (v : Option Service) => v.map fun (y : Service) => { bezel := y.bezel, cfg := y.cfg }
    seals := x.seals.mapAll fun _ (e : SealSt) => { lifetime := e.lifetime, gen := e.gen, next := e.lifetime } }

/-- The STA: tables and reservations stay; every engine is in service again (R341). -/
def StaSt.dark (x : StaSt) : StaSt :=
  { shadow := x.shadow, active := if x.commit then x.shadow else x.active, reserve := x.reserve }

/-- A restored slot: USE_CTR is the recorded reservation (R352). -/
def KeySlot.restored (k : KeySlot) : KeySlot :=
  if k.useLimit = 0 then { k with useCtr := 0, reserved := 0 }
  else
    let c := k.reserved
    { k with useCtr := c, st := if k.st = .valid && decide (k.useLimit ≤ c) then .exhausted else k.st }

/-- The Locket: persistent slots are restored, the others are freed (R352); random sources start anew. -/
def KeySt.dark (x : KeySt) : KeySt :=
  { slots := (x.slots.mapAll fun _ (k : KeySlot) => if k.expireAtReset && k.st != .free then { gen := k.gen } else KeySlot.restored k)
    tls := x.tls }

/-- Loupe: every counter is zero (R535); modes and grants stay. -/
def LoupeSt.dark (x : LoupeSt) : LoupeSt :=
  { banks := x.banks.mapAll fun _ (b : LoupeBank) => { mode := b.mode, window := b.window, grantee := b.grantee } }

/-- The Clasp: a unit with pairing enabled seeks its partner (R413, R415). -/
def ClaspSt.dark (c : ClaspSt) : ClaspSt :=
  { st := if c.st = .off then .off else .seeking
    dPps := c.dPps, pairWait := c.pairWait, ports := c.ports, swapPeriod := c.swapPeriod, swapSecond := c.swapSecond }

/-- Bezels stay; no master is frozen after a device reset (R46). -/
def BezSt.dark (x : BezSt) : BezSt :=
  { rows := x.rows.mapAll fun _ (b : BezelRow) => { b with frozen := [], deleting := false, isolated := false, failed := 1 }
    portOwner := x.portOwner }

/-- The records that `nv.reset_config` leaves (R503): those of keys and semaphores, and the temperature hours. -/
def keptRecord (key : Nat) : Bool := decide (key / 4294967296 ∈ [0x22, 0x04]) || key = objKey 0x43 1

/-- The management subsystem: firmware sets, log ring and hours stay; what waited to be written to the log is lost (R504); a read-only bank is
tried again (R502). -/
def MgmtSt.dark (m : MgmtSt) : MgmtSt :=
  { deviceId := m.deviceId, hwRev := m.hwRev, sets := m.sets, selected := m.selected, running := m.running, tested := m.tested, fallback := m.fallback
    highSvn := m.highSvn, setGen := m.setGen, boot := m.boot
    recs := if m.nvReset then m.recs.filter fun q => keptRecord q.1 else m.recs
    banks := m.banks.mapAll fun _ (b : NvBank) => { wear := b.wear }
    hours := m.hours, hot := (m.hours.1 * 360000, m.hours.2.1 * 360000, m.hours.2.2 * 360000)
    lseq := m.lseq, log := m.log }

/-- The vault and fuses, which a device reset leaves untouched (R550). -/
def PwrSt.dark (p : PwrSt) : PwrSt := { p with cfgApplied := false, cmdReset := none, tamperHold := false }

/-- The block with everything volatile at its reset value and the stored configuration in place; `nv.reset_config` has marked the configuration
records absent where it waited (R503). -/
def State.dark (s : State) : State :=
  let c : State := if s.mgmt.nvReset then { } else s
  { tc := { c.tc.dark with gen := (s.tc.dark).gen }
    hall := { asymWindow := c.hall.asymWindow, pairWindow := c.hall.pairWindow }
    mbx := s.mbx.dark s.isSealed
    bez := c.bez.dark, pwr := s.pwr.dark, mgmt := s.mgmt.dark, loupe := c.loupe.dark, clasp := c.clasp.dark, ref := c.ref.dark
    gnss := c.gnss.dark, ens := c.ens.dark c.sameCfg, fil := c.fil.dark, out := c.out.dark, la := c.la.dark, ports := c.ports.dark, tm := c.tm.dark
    tse := c.tse.dark, sta := c.sta.dark, keys := { s.keys.dark with tls := c.keys.dark.tls }
    free := s.free, pending := s.pending }

/-! ### The firmware set (R506-R509) -/

/-- A set is tested: its signature and hashes verify, PRODUCT is 0x9256 and its list names the hardware (R508). -/
def State.setTested (s : State) (n : Nat) : Bool :=
  let f := s.mgmt.sets.look {} n
  f.st != .empty && f.verified && f.product = 0x9256 && decide (s.mgmt.hwRev ∈ f.hw)

/-- The newest set whose signature and hashes verify, else the recovery monitor (R509). -/
def State.newestSet (s : State) : Nat :=
  let ok := fun n => let f := s.mgmt.sets.look {} n; f.st != .empty && f.verified
  let v := fun n => (s.mgmt.sets.look {} n).version
  if ok 0 && (!ok 1 || decide (v 1 ≤ v 0)) then 0 else if ok 1 then 1 else 2

/-- A set is run: VALID becomes TRIAL; whether its boot reaches RUN in time is yet to be seen. -/
def State.runSet (s : State) (n : Nat) : State :=
  s.onMgmt fun m => { m with
    running := n, selected := n, tested := true
    sets := m.sets.upd {} n fun f => { f with st := if f.st = .valid then .trial else f.st, slowBoot := true } }

/-- Why the selected set is not run (R508): 3 failed trial, 4 EMPTY or BAD, 1 signature or hash, 2 hardware revision. -/
def State.setReason (s : State) (failed : Bool) : Nat :=
  let f := s.mgmt.sets.look {} s.mgmt.selected
  if failed then 3 else if f.st = .empty || f.st = .bad then 4 else if !f.verified || f.product != 0x9256 then 1 else 2

/-- RESTRICTED for want of a tested set, or for a tamper. -/
def State.restrict (s : State) : State := s.setPower .restricted

/-- The boot ROM chooses the set to run (R508). -/
def State.selectSet (s : State) : State :=
  let n := s.mgmt.selected
  let f := s.mgmt.sets.look {} n
  let failed := f.st = .trial && f.slowBoot
  let s1 := if failed then s.onMgmt fun m => { m with sets := m.sets.put n { f with st := .bad } } else s
  let why := s1.setReason failed
  if s1.setTested n && (s1.mgmt.sets.look {} n).st != .bad then (s1.runSet n).onMgmt fun m => { m with fallback := 0 }
  else
    let o := 1 - n
    let g := s1.mgmt.sets.look {} o
    if s1.setTested o && (g.st = .confirmed || g.st = .trial) then
      ((s1.runSet o).onMgmt fun m => { m with fallback := why }).raise0 0x0201 [fld 8 o, fld 8 why]
    else
      let r := s1.newestSet
      ((s1.onMgmt fun m => { m with running := r, tested := false, fallback := why }).restrict).raise0 0x0201 [fld 8 r, fld 8 why]

/-! ### The vault at boot (R353, R557, R558, R561) -/

/-- Every persistent slot but the device unique key is restored as ORPHAN, its material absent (R353). -/
def State.orphanAll (s : State) : State :=
  s.onKeys fun x => { x with slots := x.slots.mapAll fun i (k : KeySlot) =>
    if i = 0 || k.st = .free || k.st = .invalid then k else { k with st := .orphan, material := 0 } }

/-- A new vault key is generated in KS0001 (R353, R557, R561). -/
def State.newVault (s : State) : State :=
  let kek : Nat → KeySlot := fun gen =>
    { usage := 0x30, alg := 2, len := 32, st := .valid, depth := 1, owner := 63, locket := true, gen := gen, material := Config.newKey s.free }
  let s1 := s.orphanAll.onKeys fun x => { x with slots := x.slots.put 1 (kek (((x.slots.look {} 1).gen + 1) % 65536)) }
  ((s1.nextFree.onPwr fun p => { p with kek := true, latch := 0, vgen := (p.vgen + 1) % 65536 }).touch 0x03 0).raiseAll 0x2203 []

/-- The vault key at boot: absent, it is generated unless an armed input reads tamper, which leaves the device RESTRICTED (R561). -/
def State.bootVault (s : State) : State :=
  if s.pwr.kek then s
  else if s.isSealed && s.pwr.present != 0 then (s.orphanAll.onPwr fun p => { p with tamperHold := true }).restrict
  else s.newVault

/-! ### Device reset (R550, R552) -/

/-- A device reset with its CAUSE: the record store is read (R499, R501), the epoch counted in the boot record (R458, R500); `requalify` where MOSC is qualified again. -/
def State.deviceReset (s : State) (cause : Nat) (requalify : Bool) (pins : BootPins) : State :=
  let good := !requalify && s.timeClockGood
  let opened := s.mbx.fns.flatMap fun f => (f.2.queues.filterMap fun q => q.2.txn.map fun (t : Txn) => (f.1, q.1, t.id))
  let absent := s.absentRecords
  let s1 := s.cutSeal.readStore.dark
  let s2 := ((s1.onMbx fun m => { m with epoch := (m.epoch + 1) % 2 ^ 32 }).writeBoot).onTc fun c => { c with gen := (c.gen + 1) % 65536, mtc := { freq := c.moscCal } }
  let s3 := (s2.onPwr fun p => { p with moscGood := good, moscLost := false, cause := cause, pairId := pins.pairId, present := pins.tamper, mosc100 := pins.mosc100 }).onFault
    fun f => { f with backup := !good }
  let s4 := if s.pwr.st = .boot then s3 else s3.setPower .boot
  let s5 := absent.foldl (fun (t : State) k => t.log 0x4381 2 k) (opened.foldl (fun (t : State) x => t.log 0x0480 1 x.1 [fld 16 x.2.2, fld 8 x.2.1]) s4)
  (s5.selectSet.bootVault.startLoops).weighReservations

end Sys2Proof.Machine
end

