-- ==== Sys2Proof/Machine/Power.lean ====
section
/-! DEFINITION. Resets, power states, start-up and tamper (chapter 20). -/

namespace Sys2Proof.Machine

/-! ### Device resets (R550, R564) -/

/-- The internal detector or PORST_N: CAUSE 0 or 1 (R550, R557). It is the one reset that takes the device out of OFF and VAULT. -/
def onPowerOnReset (pins : BootPins) (s : State) : State := s.deviceReset (if pins.porst then 1 else 0) true pins

/-- SYSRST_N: CAUSE 2, whatever command reset was pending (R550, R564). -/
def onSystemReset (pins : BootPins) (s : State) : State := s.deviceReset 2 false pins

/-- 1 ms after the completion of `sys.reset` or `fw.activate` with WHEN 1 (R550): CAUSE 3 or 4. -/
def onCommandReset (pins : BootPins) (s : State) : State :=
  match s.pwr.cmdReset with
  | none => s
  | some c => if c = 5 then s else s.deviceReset c false pins

/-- The reset that follows an armed tamper response with the main rails up (R560): CAUSE 5. -/
def onZeroisationReset (pins : BootPins) (s : State) : State :=
  if s.pwr.cmdReset = some 5 then s.deviceReset 5 false pins else s

/-- POWER_ON_RESET (R550). -/
def execPowerOnReset (pins : BootPins) (s : State) : Host.Outcome State Fault Refusal :=
  .next (onPowerOnReset pins s)


/-- SYSTEM_RESET (R550). -/
def execSystemReset (pins : BootPins) (s : State) : Host.Outcome State Fault Refusal :=
  .next (if s.alive then onSystemReset pins s else s)


/-- COMMAND_RESET (R550). -/
def execCommandReset (pins : BootPins) (s : State) : Host.Outcome State Fault Refusal :=
  .next (if s.alive then onCommandReset pins s else s)


/-- ZEROISATION_RESET (R560). -/
def execZeroisationReset (pins : BootPins) (s : State) : Host.Outcome State Fault Refusal :=
  .next (if s.alive then onZeroisationReset pins s else s)


/-! ### Rails (R549, R552, R558) -/

/-- VBAT applied to a device that is OFF: it is in VAULT, its contents having been lost (R552, R558). -/
def onVbatApplied (s : State) : State :=
  if s.pwr.st = .off then (s.onPwr fun p => { p with vbatOk := true }).setPower .vault else s.onPwr fun p => { p with vbatOk := true }

/-- The main rails fall while VBAT is good (R549, R552): everything but the vault and the stored records goes; no event is raised. A
write of MRAM is cut short (R498). -/
def onMainRailsLost (s : State) : State :=
  if s.pwr.st = .off || s.pwr.st = .vault || !s.pwr.vbatOk then s
  else (s.cutSeal.cutWrite.dark.onPwr fun p => { p with moscGood := false, moscLost := false }).setPower .vault

/-- Main rails and VBAT both lost (R552, R558): the vault loses its contents too; VGEN restarts from 1 at the next key. A write of
MRAM is cut short (R498). -/
def onPowerLost (s : State) : State :=
  ((if s.alive then s.cutSeal.cutWrite.dark else s).onPwr fun p => { p with
    moscGood := false, moscLost := false, kek := false, latch := 0, present := 0, vgen := 0, tcount := 0, vbatOk := false, unlogged := false }).setPower .off

/-- VBAT_APPLIED (R552). -/
def execVbatApplied (s : State) : Host.Outcome State Fault Refusal :=
  .next (onVbatApplied s)


/-- MAIN_RAILS_LOST (R549). -/
def execMainRailsLost (s : State) : Host.Outcome State Fault Refusal :=
  .next (onMainRailsLost s)


/-- POWER_LOST (R558). -/
def execPowerLost (s : State) : Host.Outcome State Fault Refusal :=
  .next (onPowerLost s)


/-! ### Start-up (R553-R556) -/

/-- Before RUN: BOOT, or RESTRICTED entered in it. -/
def State.starting (s : State) : Bool := s.pwr.st = .boot || s.pwr.st = .restricted

/-- The Time Core starts the MTC at TAI second 0 (R553): the FC self-test has passed (FSW00 bit 10 clear) and OL0 is LOCKED. -/
def onMtcStart (s : State) : State :=
  if s.tc.mtc.running || !s.starting || (s.loop 0).st != .locked || nbit (s.fault.sticky.look 0 0).toNat 10 then s
  else ((s.onTc fun c => { c with mtc := { c.mtc with running := true, freq := c.moscCal }, ts := .freeRun }).pushHist.hallDueAll).followPins

/-- The MP writes MBX_STATE READY once it has applied the stored configuration (R554); a tamper detection of the time before is logged (R560). -/
def onMbxReady (s : State) : State :=
  if s.mbx.ready || !s.starting || !s.pwr.moscGood || s.mgmt.mpStopped then s
  else
    let s1 := ((s.onPwr fun p => { p with cfgApplied := true }).onMbx fun m => { m with ready := true })
    if s.pwr.unlogged then (s1.log 0x0180 2 s.pwr.latch.toNat).onPwr fun p => { p with unlogged := false } else s1

/-- Every enabled Filigree channel has completed its first run on both interpolators, or has entered SINGLE or OUT (R555). -/
def State.channelsReady (s : State) : Bool :=
  s.fil.chans.all fun q => !q.2.en || q.2.interp.st != .normal || (q.2.interp.tabX.isSome && q.2.interp.tabY.isSome)

/-- RUN is entered; DEGRADED follows from the causes present (R530, R552); the boot of the set has reached RUN in time (R508). -/
def State.enterRun (s : State) : State :=
  let inTime := decide (s.upNs < 10000000000)
  ((s.onMgmt fun m => { m with sets := m.sets.upd {} m.running fun f => { f with slowBoot := f.slowBoot && !inTime } }).setPower .run).followHealth

/-- The conditions of RUN hold (R555). -/
def State.runReady (s : State) : Bool :=
  s.mgmt.tested && s.pwr.cfgApplied && s.keys.entropyUp && !(s.keys.drbgs.look {} 0).error && s.channelsReady

/-- RUN_ENTRY (R555). -/
def onRunEntry (s : State) : State := if s.pwr.st = .boot && s.runReady then s.enterRun else s

/-- 2 s after the release of PORST_N (R555): RUN, with the causes concerned in `sys.health`: the entropy source, and channels without both tables. -/
def onBootTimeout (s : State) : State :=
  if s.pwr.st != .boot || !s.pwr.moscGood || s.runReady then s
  else
    let s1 := if s.keys.entropyUp then s else s.addCause 0x0700
    let late := s.fil.chans.filter fun q => q.2.en && q.2.interp.st = .normal && !(q.2.interp.tabX.isSome && q.2.interp.tabY.isSome)
    (late.foldl (fun (t : State) q => t.addCause (0x0100 + q.1)) s1).enterRun

/-- MTC_START (R553). -/
def execMtcStart (s : State) : Host.Outcome State Fault Refusal :=
  .next (if s.alive then onMtcStart s else s)


/-- MBX_READY (R554). -/
def execMbxReady (s : State) : Host.Outcome State Fault Refusal :=
  .next (if s.alive then onMbxReady s else s)


/-- RUN_ENTRY (R555). -/
def execRunEntry (s : State) : Host.Outcome State Fault Refusal :=
  .next (if s.alive then onRunEntry s else s)


/-- BOOT_TIMEOUT (R555). -/
def execBootTimeout (s : State) : Host.Outcome State Fault Refusal :=
  .next (if s.alive then onBootTimeout s else s)


/-! ### Tamper inputs (R557-R561, R564) -/

/-- Everything the Locket holds is zeroised (R560): slots, the keys loaded in the Signet engines, and the random generators. -/
def State.zeroise (s : State) : State :=
  let s1 := s.orphanAll.onKeys fun x => { x with
    drbgs := (List.range 6).foldl (fun t i => t.upd {} i fun (d : Drbg) => { d with error := true }) x.drbgs, entropyUp := false }
  s1.onSta fun x => { x with jobs := [], reissue := [], engines := x.engines.mapAll fun _ (e : SigEngine) => { e with job := none } }

/-- The strobe samples the inputs (R559): an input that samples high is a tamper. A detection sets the latch and the count; on a sealed device it
zeroises the vault key, in VAULT as well, and with the main rails up everything else, a zeroisation reset following (R560). -/
def onTamperStrobe (sample : BitVec 4) (s : State) : State :=
  let s1 := s.onPwr fun p => { p with present := sample }
  if s.pwr.st = .off then s
  else if sample = 0 then s1
  else
    let s2 := (s1.onPwr fun p => { p with latch := p.latch ||| sample, tcount := min (p.tcount + 1) 0xFFFFFFFF }).touch 0x03 0
    let s3 := if s2.alive && s2.mbx.ready && !s2.mgmt.mpStopped then s2.log 0x0180 2 sample.toNat else s2.onPwr fun p => { p with unlogged := true }
    if !s3.isSealed || !s3.pwr.kek then s3
    else
      let s4 := s3.onPwr fun p => { p with kek := false }
      if s4.alive then s4.zeroise.onPwr fun p => { p with cmdReset := some 5 } else s4

/-- TAMPER_STROBE (R559). -/
def execTamperStrobe (sample : BitVec 4) (s : State) : Host.Outcome State Fault Refusal :=
  .next (onTamperStrobe sample s)


end Sys2Proof.Machine
end

