-- ==== Sys2Proof/Machine/Ref.lean ====
section
/-! DEFINITION. The ref commands and the events of the reference inputs and Pendant ports (chapter 03). -/

namespace Sys2Proof.Machine

/-! ### Commands -/

/-- `ref.set_pps` (R83, R87-R90, R477, R606). -/
def cmdRefSetPps (_h : CmdHdr) (a : PpsArgs) : CmdMeta × CmdBody :=
  ({ op := 0x1001, plen := 24, mirrored := true },
   { argOk := fun _ => decide (a.input < 4) && (!a.enable ||
       (decide (10 ≤ a.w) && decide (a.w ≤ 100000000) && decide (a.cable.natAbs ≤ 1000000000) && decide (a.todSec < 2 ^ 48)))
     act := fun s =>
       let r := refPpsi a.input
       if !a.enable then cmdOut (((s.deconfigureIn r).onPps a.input fun _ => {}).store 0x10 r)
       else cmdOut (((s.configureIn r).onPps a.input fun p => { p with
         falling := a.falling, w := a.w, cable := a.cable, u := a.u,
         next := if a.todSec = 0 then none else some a.todSec, label := if a.todSec = 0 then none else p.label }).store 0x10 r) })

/-- `ref.set_clock` (R91, R92, R477, R606). -/
def cmdRefSetClock (_h : CmdHdr) (a : ClockArgs) : CmdMeta × CmdBody :=
  ({ op := 0x1002, plen := 16, mirrored := true },
   { argOk := fun _ => decide (a.input < 4) && decide (a.enable ≤ 1) && (a.enable = 0 ||
       (decide (1000 ≤ a.fN) && decide (a.fN ≤ 250000000) && decide (1 ≤ a.stampRate) && decide (a.stampRate ≤ 1000000)
         && a.fN % a.stampRate = 0 && decide (10 ≤ a.wF) && decide (a.wF ≤ 100000)))
     act := fun s =>
       let r := refCki a.input
       if a.enable = 0 then cmdOut ((s.deconfigureIn r).store 0x10 r)
       else
         let c : ClkIn := { fN := a.fN, stampRate := a.stampRate, wF := a.wF }
         cmdOut (((s.configureIn r).onRef fun x => { x with clk := x.clk.put a.input c, gates := x.gates.put r {} }).store 0x10 r) })

/-- `ref.set_timecode` (R83, R93-R96, R477, R606): a TCI in use as one kind conflicts with the other. -/
def cmdRefSetTimecode (_h : CmdHdr) (a : TimecodeArgs) : CmdMeta × CmdBody :=
  ({ op := 0x1003, plen := 5, mirrored := true },
   { argOk := fun _ => decide (a.input < 2) && decide (a.kind ≤ 2) && (a.kind = 0 ||
       (a.kind = 1 && decide (a.format ≤ 7) && (a.scale = 0 || a.scale = 1 || a.scale = 3)) ||
       (a.kind = 2 && decide (a.format ≤ 5) && decide (a.scale ≤ 1)))
     check := fun s => judge [(a.kind != 0 && (s.tci a.input).kind != 0 && (s.tci a.input).kind != a.kind, .conflict)]
     act := fun s =>
       let r := refTci a.input
       if a.kind = 0 then cmdOut (((s.deconfigureIn r).onTci a.input fun _ => {}).store 0x10 r)
       else
         let c : TcIn := { kind := a.kind, format := a.format, scale := a.scale, ieee1344 := a.ieee1344, previous := a.previous }
         cmdOut (((s.configureIn r).onTci a.input fun _ => c).store 0x10 r) })

/-- `ref.set_pendant` (R83, R91, R107, R109, R110, R606). DESIGN CHOICE (assumption 148): a channel that stays enabled keeps its health; STALE comes with
the enabling of the channel. -/
def cmdRefSetPendant (_h : CmdHdr) (a : PendantArgs) : CmdMeta × CmdBody :=
  ({ op := 0x1004, plen := 36, mirrored := true },
   { argOk := fun _ => decide (a.pend < 4) && (a.freq = 0xFF || (decide (a.freq ≤ 2) && (decide (a.baud ≤ 3) || a.baud = 0xFF)
       && decide (a.steer ≤ 2) && a.g != 0 && decide (a.g.natAbs ≤ 2 ^ 31) && decide (a.m < 2 ^ 24) && decide (a.cmin ≤ a.cmax)
       && decide (a.cmax < 2 ^ 24) && decide (a.pfxBits ≤ 8) && decide (a.spiMode ≤ 1) && decide (1 ≤ a.sck) && decide (a.sck ≤ 25)
       && decide (1 ≤ a.healthTimeout) && decide (a.healthTimeout ≤ 60) && decide (1 ≤ a.stampRate) && decide (a.stampRate ≤ 1000000)
       && pendFreq a.freq % a.stampRate = 0))
     act := fun s =>
       let r := refPend a.pend
       if a.freq = 0xFF then cmdOut ((((s.deconfigureIn r).onPend a.pend fun _ => {}).steerOff a.pend).store 0x10 r)
       else cmdOut ((((s.configureIn r).onPend a.pend fun p => { p with
         cfg := a, failed := false, waiting := none, sends := 0
         health := if a.baud = 0xFF then .none else if p.health = .none then .stale else p.health
         seq := if a.baud = 0xFF then none else p.seq }).onRef fun x => { x with gates := x.gates.put r {} }).store 0x10 r) })

/-- PROFILE codes (R481). -/
def profileOk (p : Nat) : Bool := decide (p ≤ 6) || p = 8

/-- `ref.set_nref` (R83, R97, R99, R100, R340, R477, R606). -/
def cmdRefSetNref (h : CmdHdr) (a : NrefArgs) : CmdMeta × CmdBody :=
  ({ op := 0x1005, plen := 37, mirrored := true, xbIn := a.enable = 1 && a.auth = 2 },
   { argOk := fun s => decide (a.nref < 16) && decide (a.enable ≤ 1) && (a.enable = 0 ||
       (decide (a.port < 256) && profileOk a.profile && decide (a.delay ≤ 2) && ((a.profile = 8) = (a.delay = 2)) && decide (a.auth ≤ 2)
         && decide (a.addrKind ∈ [0, 4, 6, 7]) && decide (10 ≤ a.accept) && decide (a.accept ≤ 10000000)
         && decide (1 ≤ a.loss) && decide (a.loss ≤ 60)
         && (a.profile = 8 || (decide (-7 ≤ a.syncLog) && decide (a.syncLog ≤ 4) && decide (-7 ≤ a.delayLog) && decide (a.delayLog ≤ 4)
              && decide (-7 ≤ a.annLog) && decide (a.annLog ≤ 4)))
         && (a.auth != 2 || (a.profile = 8 && decide (1 ≤ a.server.length) && decide (a.server.length ≤ 255)))
         && (a.auth != 1 || (a.profile != 8 && s.macKeyOk a.key))))
     check := fun s => judgeOwned (!(a.enable = 1 && a.auth = 1) || s.keyOwned h.fn a.key) false 3 [(a.enable = 1 && (s.portOwner a.port != 0 || s.portUsed .nref a.port), .conflict)]
     act := fun s =>
       let r := refNref a.nref
       if a.enable = 0 then cmdOut (((s.deconfigureIn r).onNref a.nref fun _ => {}).store 0x10 r)
       else cmdOut (((s.configureIn r).onNref a.nref fun _ => { cfg := a }).store 0x10 r) })

/-- `ref.clear_fault` (R87, R477, R605). -/
def cmdRefClearFault (_h : CmdHdr) (r : Nat) : CmdMeta × CmdBody :=
  ({ op := 0x1006, plen := 1, mirrored := true, action := true },
   { argOk := fun _ => refOk r
     check := fun s => judge [(!((s.inp r).st = .fault), .state)]
     act := fun s => cmdOut (((s.setIn r .qualifying).onIn r fun x => { x with run := 0, fails := 0, missRun := 0 }).touch 0x10 r) })

/-- `ref.read_status` (R86, R477, R539): state, counters, and Pendant health and steering. -/
def cmdRefReadStatus (_h : CmdHdr) (r : Nat) : CmdMeta × CmdBody :=
  ({ op := 0x1041, plen := 1, xbOut := true },
   { argOk := fun _ => refOk r
     act := fun s =>
       let x := s.inp r
       let p := s.pend (r - 1)
       cmdOut s [fld 8 (s.refState r).code]
         ([fld 8 (s.refState r).code, fld 8 x.run, fld 8 x.fails, fld 8 x.missRun] ++
           ((List.range 32).flatMap fun i => [fld 48 (x.cnt.look 0 i), rsv 16]) ++
           (if 1 ≤ r && decide (r ≤ 4) then [fld 8 p.health.code, fld 8 p.cfg.steer, bit p.failed, rsv 15, (64, p.applied)] else [])) })


/-! ### PPS and frequency events -/

/-- A second ends on a PPS input (R88): without an in-window edge it is a missing pulse. -/
def onPpsiWindowEnd (input : Nat) (s : State) : State :=
  let r := refPpsi input
  if 4 ≤ input || (s.inp r).st = .off || (s.inp r).st = .absent || (s.inp r).st = .fault then s
  else if (s.pps input).seen then s.onPps input fun p => { p with seen := false }
  else
    let s1 := s.missIn r
    if (s1.inp r).st = .absent then s1.onPps input fun p => { p with last := none } else s1

/-- W_F of a frequency input as a fraction (R92): 0.01 ppm units for CKI, the default for a Pendant. -/
def State.gateWindow (s : State) (r : Nat) : Rat :=
  if 5 ≤ r && decide (r ≤ 8) then ((s.ref.clk.look {} (r - 5)).wF : Rat) / 100000000 else 1 / 100000

/-- Nominal frequency of a frequency input, Hz (R91). DESIGN CHOICE (assumption 148): MOSC reaches its channel divided to 1 kHz, the default stamp
rate. -/
def State.nominal (s : State) (r : Nat) : Nat :=
  if r = 0 then 1000
  else if r ≤ 4 then pendFreq (s.pend (r - 1)).cfg.freq
  else (s.ref.clk.look {} (r - 5)).fN

/-- The measured fractional frequency between two stamps (R92): the input cycles between them over the MTC time, against nominal. -/
def gateFrac (nominal : Nat) (a b : GateStamp) : Rat :=
  (((b.edges + 2 ^ 32 - a.edges) % 2 ^ 32 : Nat) : Rat) * (unitsPerSec : Rat) / ((nominal : Rat) * ((b.t - a.t : Int) : Rat)) - 1

/-- What a gate shows: the measured fractional frequency, and whether it begins or ends on a COARSE stamp. -/
def State.gateValue (s : State) (r : Nat) : Option (Rat × Bool) :=
  match (s.ref.gates.look {} r).first, (s.ref.gates.look {} r).last with
  | some a, some b => if a.t < b.t then some (gateFrac (s.nominal r) a b, a.coarse || b.coarse) else none
  | some _, none => none
  | none, some _ => none
  | none, none => none

/-- The next gate begins with the last stamp of this one. -/
def State.nextGate (s : State) (r : Nat) : State :=
  s.onRef fun x => { x with gates := x.gates.upd {} r fun g => { first := g.last, last := g.last } }

/-- A 1 s gate ends, at an instant the counter has reached (assumption 168), and is judged (R92): a gate on a COARSE stamp is judged and delivers nothing; MOSC is measured and not judged. -/
def onFrequencyGateEnd (r sec ns : Nat) (s : State) : State :=
  if 8 < r || s.sec != sec || decide (s.tc.mtc.ns < ns) then s
  else match s.gateValue r with
  | none => s
  | some (frac, coarse) =>
    let s1 := s.nextGate r
    if r = 0 then s1.onIn 0 fun x => { x with st := .valid, meas := if coarse then none else some frac, var := gateVar }
    else if rabs frac ≤ s.gateWindow r then
      (s1.goodIn r 10).onIn r fun x => { x with meas := if coarse || x.st != .valid then none else some frac, var := gateVar }
    else (s1.rejectIn r).onIn r fun x => { x with meas := none }

/-- REF of a monitored clock. -/
def clockRef : ClockInput → Option Nat
  | .cki n => if n < 4 then some (refCki n) else none
  | .pend n => if n < 4 then some (refPend n) else none
  | .gnss _ => none

/-- Sensor ID of a clock monitor (R493). -/
def clockSensor : ClockInput → Nat
  | .cki n => 0x41 + n
  | .pend n => 0x45 + n
  | .gnss n => 0x49 + n

/-- A clock monitor declares loss (R92, R494): for CKI and Pendant inputs it is the loss condition. -/
def onClockMonitorLoss (clk : ClockInput) (s : State) : State :=
  let s1 := s.onMgmt fun m => { m with sensors := m.sensors.upd {} (clockSensor clk) fun x => { x with status := 2 } }
  match clockRef clk with
  | none => s1
  | some r => s1.loseIn r

/-- A clock monitor declares good (R494). -/
def onClockMonitorGood (clk : ClockInput) (s : State) : State :=
  s.onMgmt fun m => { m with sensors := m.sensors.upd {} (clockSensor clk) fun x => { x with status := 0 } }

/-! ### Time codes (R93-R96) -/

/-- TAI second of a UTC or local count, by the offset in force (R55). -/
def State.taiOf (s : State) (scale : Nat) (sec : Nat) : Nat :=
  if scale = 0 then sec
  else if scale = 1 then ((sec : Int) + s.taiUtc).toNat
  else ((sec : Int) + s.taiUtc - s.tc.localOff).toNat

/-- The BCD digits and the BINARY seconds of a frame are consistent (R95). -/
def irigFieldsOk (format : Nat) (f : IrigObs) : Bool :=
  decide (f.ss ≤ 60) && decide (f.mm < 60) && decide (f.hh < 24) && decide (1 ≤ f.day) && decide (f.day ≤ 366)
    && (!(format ∈ [0, 3, 4, 7]) || f.sbs = f.hh * 3600 + f.mm * 60 + f.ss)

/-- The TAI second a frame decodes to (R94): without the extension the year comes from the MTC. -/
def State.irigSecond (s : State) (c : TcIn) (f : IrigObs) : Nat :=
  let mtcYear := yearOf (s.scaleSec (if c.scale = 0 then .tai else if c.scale = 1 then .utc else .loc) s.sec)
  let year := match f.ext with | some e => if c.ieee1344 then e.year else mtcYear | none => mtcYear
  s.taiOf c.scale ((daysToYear year + f.day - 1) * 86400 + f.hh * 3600 + f.mm * 60 + f.ss)

/-- What a frame's extension indicates of UTC (R94, R95): a leap second pending, and with a code in TAI its offset from UTC. -/
def TcIn.indicated (c : TcIn) (f : IrigObs) : LeapInd :=
  match f.ext with
  | some e => if c.ieee1344 then
      { offset := if c.scale = 0 then some e.offset else none, leap61 := e.pending && !e.negative, leap59 := e.pending && e.negative } else {}
  | none => {}

/-- A labelled second on a time-code input: a second that is not the previous one plus 1 is a discontinuity (R95); the first one after ABSENT has none
before it (R87). -/
def State.tciSecond (s : State) (n sec : Nat) : State :=
  let r := refTci n
  let c := s.tci n
  let s1 := s.onTci n fun x => { x with last := some sec }
  match (if (s.inp r).st = .absent then none else c.last) with
  | none => s1.goodIn r 3
  | some l => if sec = l + 1 then s1.goodIn r 3
    else ((s1.countRef r 3 1).rejectIn r).onIn r fun x => { x with missRun := 0 }

/-- A missing or discarded frame of a time-code input (R95). -/
def State.tciMiss (s : State) (n : Nat) : State :=
  let r := refTci n
  if (s.inp r).st = .off || (s.inp r).st = .fault || (s.inp r).st = .absent then s.countRef r 0 1
  else
    let s1 := s.missIn r
    if (s1.inp r).st = .absent then s1.onTci n fun c => { c with last := none } else s1

/-- An IRIG-B frame (R94, R95): its time applies to the stamp of the Pr it began with, of which a COARSE one brings no measurement (R190). -/
def onIrigFrame (tci : Nat) (f : IrigObs) (s : State) : State :=
  let c := s.tci tci
  let r := refTci tci
  if 2 ≤ tci || c.kind != 1 || (s.inp r).st = .fault then s
  else if !(f.widthOk && f.markersOk && f.parityOk && irigFieldsOk c.format f) then (s.countRef r 2 1).tciMiss tci
  else
    let sec := s.irigSecond c f
    let s1 := (s.checkIndicated r (c.indicated f)).tciSecond tci sec
    let s2 := s1.onTci tci fun x => { x with pr := none, ext := if c.ieee1344 && f.ext.isSome then f.ext else x.ext }
    s2.onIn r fun x => { x with var := stampVar, meas := match c.pr with
      | some (t, coarse) => if x.st = .valid && !coarse then some (unitsPs (t - (sec : Int) * secUnits)) else none
      | none => none }

/-- A serial time-of-day message (R96): it labels the next edge, which then measures the TCI, or the previous one, which does so now. A good frame of
another known TYPE is unexpected (R106). -/
def onSerialTodMessage (tci : Nat) (m : TodMsg) (s : State) : State :=
  let c := s.tci tci
  let r := refTci tci
  let p := s.pps tci
  if 2 ≤ tci || c.kind != 2 || (s.inp r).st = .fault then s
  else if m.good && !m.expected then s.countRef r 20 1
  else if !m.good || m.kind != c.scale || !m.valid || m.afterMs < 10 || 990 < m.afterMs || c.seen || p.last.isNone then s.countRef r 2 1
  else
    let sec := if m.kind = 0 then s.taiOf 1 m.sec else m.sec
    let s1 := s.onPps tci fun q =>
      if c.previous then { q with serial := q.last.map fun e => (e, sec) } else { q with serialNext := some sec }
    let s2 := (s1.onTci tci fun x => { x with seen := true }).tciSecond tci sec
    let s3 := if m.kind = 1 then s2.checkIndicated r { offset := some m.taiUtc, leap61 := m.leap61, leap59 := m.leap59 } else s2
    if c.previous && !p.coarse then s3.onIn r fun x => { x with
      var := stampVar, meas := if x.st = .valid then p.last.map fun e => unitsPs (e - (sec : Int) * secUnits) - (p.cable : Rat) else none }
    else s3

/-- An expected frame or message fails to arrive; the third in a row is the loss condition (R95, R96). -/
def onMissingFrame (tci : Nat) (s : State) : State :=
  if 2 ≤ tci || (s.tci tci).kind = 0 then s else s.tciMiss tci

/-- PPSI_WINDOW_END (R88). -/
def execPpsiWindowEnd (input : Nat) (s : State) : Host.Outcome State Fault Refusal :=
  .next (if s.alive then onPpsiWindowEnd input s else s)

/-- FREQUENCY_GATE_END (R92). -/
def execFrequencyGateEnd (ref sec ns : Nat) (s : State) : Host.Outcome State Fault Refusal :=
  .next (if s.alive then onFrequencyGateEnd ref sec ns s else s)

/-- CLOCK_MONITOR_LOSS (R494). -/
def execClockMonitorLoss (clk : ClockInput) (s : State) : Host.Outcome State Fault Refusal :=
  .next (if s.alive then onClockMonitorLoss clk s else s)

/-- CLOCK_MONITOR_GOOD (R494). -/
def execClockMonitorGood (clk : ClockInput) (s : State) : Host.Outcome State Fault Refusal :=
  .next (if s.alive then onClockMonitorGood clk s else s)

/-- IRIG_FRAME (R95). -/
def execIrigFrame (tci : Nat) (f : IrigObs) (s : State) : Host.Outcome State Fault Refusal :=
  .next (if s.alive then onIrigFrame tci f s else s)

/-- SERIAL_TOD_MESSAGE (R96). -/
def execSerialTodMessage (tci : Nat) (m : TodMsg) (s : State) : Host.Outcome State Fault Refusal :=
  .next (if s.alive then onSerialTodMessage tci m s else s)

/-- MISSING_FRAME (R95). -/
def execMissingFrame (tci : Nat) (s : State) : Host.Outcome State Fault Refusal :=
  .next (if s.alive then onMissingFrame tci s else s)


/-! ### Network references (R97-R103) -/

/-- The servo's prediction at an instant of counted time, ns (R101). -/
def NrefIn.predict (x : NrefIn) (now : Nat) : Rat := x.offset + x.rate * (((now : Int) - (x.at_ : Int) : Int) : Rat) * 1000

/-- The servo enters HOLD (R100, R101). -/
def State.nrefHold (s : State) (n : Nat) : State :=
  (s.setIn (refNref n) .held).onNref n fun x => { x with samples := [], outliers := 0, outRun := 0, heldNow := true }

/-- The master has changed (R100): HOLD in TRACK, a restarted run in ACQUIRE. -/
def State.nrefChanged (s : State) (n : Nat) : State :=
  let r := refNref n
  let s1 := s.countRef r 6 1
  match (s.inp r).st with
  | .valid => s1.nrefHold n
  | .qualifying => s1.onIn r fun y => { y with run := 0 }
  | .off => s1
  | .absent => s1
  | .held => s1
  | .fault => s1

/-- An accepted sample reaches the servo (R98-R101). -/
def State.nrefSample (s : State) (n : Nat) (m : Rat × Rat) : State :=
  let r := refNref n
  let x := s.nrefIn n
  let outlier := (s.inp r).st = .valid && decide ((x.cfg.accept : Rat) * 1000 < rabs (m.1 - x.predict s.upNs))
  if outlier then (s.countRef r 4 1).onNref n fun y => { y with outliers := y.outliers + 1 }
  else
    match (s.inp r).st with
    | .off => s
    | .fault => s
    | .held =>
      ((s.setIn r .qualifying).onIn r fun y => { y with run := 0 }).onNref n fun y => { y with samples := [m], hist := [], returning := true }
    | .absent =>
      ((s.setIn r .qualifying).onIn r fun y => { y with run := 0 }).onNref n fun y => { y with samples := [m], hist := [] }
    | .qualifying => s.onNref n fun y => { y with samples := y.samples ++ [m] }
    | .valid => s.onNref n fun y => { y with samples := y.samples ++ [m] }

/-- The cause a message is dropped for (R97, R102): a fault of its form, a sequenceId received last in its kind, a Follow_Up without the Sync of its
sequenceId in the previous 1 s, or a response without an outstanding request. -/
def State.nrefFault (s : State) (n : Nat) (m : NrefMsg) : Option Nat :=
  let x := s.nrefIn n
  match m.fault with
  | some c => some c
  | none =>
    if m.seqId.isSome && (x.lastSeq.find? fun q => q.1 = m.kind).map (·.2) = m.seqId then some 4
    else if m.kind = 2 && !(match x.lastSync, m.seqId with
        | some y, some q => y.1 = q && decide (s.upNs ≤ y.2 + 1000000000)
        | some _, none => false
        | none, some _ => false
        | none, none => false) then some 5
    else if m.response && x.outstanding = 0 then some 6
    else none

/-- A message from an upstream master (R99-R103). A Hallmark that does not verify is counted and treated as absent; the last one that did stands until
it is 1.1 s old. -/
def onNrefMessage (n : Nat) (m : NrefMsg) (s : State) : State :=
  let r := refNref n
  if 16 ≤ n || (s.inp r).st = .off then s
  else
    match s.nrefFault n m with
    | some c => (s.countRef r (8 + c) 1).logPartner 0x1080 r
    | none =>
        let x := s.nrefIn n
        let hall := if m.hallVerifies then m.hallmark else none
        let changed := (x.ident.isSome && x.ident != some m.ident)
          || (match hall, x.hall with | some a, some b => a.chain != b.chain | some _, none => false | none, some _ => false | none, none => false)
        let s1 := s.onNref n fun y => { y with
          ident := some m.ident, hall := if hall.isSome then hall else y.hall
          lastSeq := match m.seqId with | some q => y.lastSeq.put m.kind q | none => y.lastSeq
          lastSync := match m.seqId with | some q => if m.kind = 1 then some (q, s.upNs) else y.lastSync | none => y.lastSync
          outstanding := if m.response then y.outstanding - 1 else y.outstanding
          cookies := if m.response && y.cfg.auth = 2 then y.cookies + 1 else y.cookies }
        let s2 := if m.hallmark.isSome && !m.hallVerifies then s1.countRef r 24 1 else s1
        let s3 := if changed then s2.nrefChanged n else s2
        match m.sample with
        | none => s3
        | some v => s3.nrefSample n v

/-- A client request is sent at its configured interval (R97); with NTS only while at least 2 unused cookies remain (R368). -/
def onNrefRequestSend (n : Nat) (s : State) : State :=
  if 16 ≤ n || (s.inp (refNref n)).st = .off || ((s.nrefIn n).cfg.auth = 2 && decide ((s.nrefIn n).cookies < 2)) then s
  else s.onNref n fun x => { x with outstanding := x.outstanding + 1, reqSeq := (x.reqSeq + 1) % 65536,
                                    cookies := if x.cfg.auth = 2 then x.cookies - 1 else x.cookies }

/-- No accepted sample for the loss timeout: the master has vanished (R100); in HOLD a vanish is counted where a change took the servo there in the same
window. -/
def onNrefLossTimeout (n : Nat) (s : State) : State :=
  let r := refNref n
  if 16 ≤ n then s
  else
    match (s.inp r).st with
    | .valid => (s.countRef r 5 1).nrefHold n
    | .qualifying => (s.countRef r 5 1).loseIn r
    | .off => s
    | .absent => s
    | .held => if (s.nrefIn n).heldNow then s.countRef r 5 1 else s
    | .fault => s

/-- NREF_MESSAGE (R102). -/
def execNrefMessage (nref : Nat) (m : NrefMsg) (s : State) : Host.Outcome State Fault Refusal :=
  .next (if s.alive then onNrefMessage nref m s else s)

/-- NREF_REQUEST_SEND (R97). -/
def execNrefRequestSend (nref : Nat) (s : State) : Host.Outcome State Fault Refusal :=
  .next (if s.alive then onNrefRequestSend nref s else s)

/-- NREF_LOSS_TIMEOUT (R100). -/
def execNrefLossTimeout (nref : Nat) (s : State) : Host.Outcome State Fault Refusal :=
  .next (if s.alive then onNrefLossTimeout nref s else s)


/-! ### Pendant events (R104-R110) -/

/-- A Pendant serial frame, with the noise bytes before its sync pair (R104-R107, R110). -/
def onPendantFrame (n noise : Nat) (frame : List (BitVec 8)) (s : State) : State :=
  if 4 ≤ n || (s.pend n).health = .none then s
  else
    let r := refPend n
    let s1 := s.countRef r 16 noise
    match parseFrame frame with
    | none => s1.pendMalformed n
    | some (ty, b) =>
      if ty = 1 then
        let s2 : State := s1.pendHealth n b
        if (s2.pend n).seq = (s1.pend n).seq then s2 else (s2.followRow r).checkSteer n
      else if ty = 2 && (s.pend n).cfg.steer = 2 then s1.pendAck n b
      else if ty = 2 || ty = 0x10 || ty = 0x81 then s1.countRef r 20 1
      else s1.countRef r 19 1

/-- A gap of more than 2 ms between bytes makes the frame malformed (R104, R106). -/
def onPendantByteGap (n : Nat) (s : State) : State :=
  if 4 ≤ n || (s.pend n).health = .none then s else s.pendMalformed n

/-- No well-formed health frame for the health timeout (R107). -/
def onPendantHealthTimeout (n : Nat) (s : State) : State :=
  if 4 ≤ n || (s.pend n).health = .none then s else s.onPend n fun p => { p with health := .stale }

/-- No valid reply to a steer command: it is resent once per second; after three sends steering is FAILED (R110). -/
def onPendantSteerResend (n : Nat) (s : State) : State :=
  let p := s.pend n
  if 4 ≤ n || p.waiting.isNone || p.failed then s
  else if p.sends < 3 then (s.countRef (refPend n) 23 1).onPend n fun q => { q with sends := q.sends + 1, txd := steerFrame (p.waiting.getD 0) q.steerSeq }
  else (s.onPend n fun q => { q with failed := true, waiting := none }).raise0 0x1002 [fld 8 n]

/-- PENDANT_FRAME (R106). -/
def execPendantFrame (pend : Nat) (noise : Nat) (frame : List (BitVec 8)) (s : State) : Host.Outcome State Fault Refusal :=
  .next (if s.alive then onPendantFrame pend noise frame s else s)

/-- PENDANT_BYTE_GAP (R104). -/
def execPendantByteGap (pend : Nat) (s : State) : Host.Outcome State Fault Refusal :=
  .next (if s.alive then onPendantByteGap pend s else s)

/-- PENDANT_HEALTH_TIMEOUT (R107). -/
def execPendantHealthTimeout (pend : Nat) (s : State) : Host.Outcome State Fault Refusal :=
  .next (if s.alive then onPendantHealthTimeout pend s else s)

/-- PENDANT_STEER_RESEND (R110). -/
def execPendantSteerResend (pend : Nat) (s : State) : Host.Outcome State Fault Refusal :=
  .next (if s.alive then onPendantSteerResend pend s else s)


end Sys2Proof.Machine
end

