-- ==== Sys2Proof/Machine/RegWrite.lean ====
section
/-! DEFINITION. The host's writes to the registers of BAR0 (chapter 22). -/

namespace Sys2Proof.Machine

/-- A 4- or 8-byte write into a 64-bit register. -/
def write64 (old : Nat) (offset size value : Nat) : Nat :=
  if size = 8 then value % 2 ^ 64
  else if offset % 8 = 0 then old / 2 ^ 32 * 2 ^ 32 + value % 2 ^ 32
  else old % 2 ^ 32 + value % 2 ^ 32 * 2 ^ 32

/-- The fields of MBX_QCTRL other than enables; a field of an enabled queue is ignored and counted (R586, R587). -/
def writeQctrlFields (fn value : Nat) (s : State) : State :=
  let f := s.fn fn
  let size := value / 256 % 16
  let cv := value / 65536 % 64
  let ev := value / 16777216 % 64
  let s1 := s.onFn fn fun x => { x with
    evtSize := if x.evtEn then x.evtSize else size, evtVec := if x.evtEn then x.evtVec else ev,
    cplVec := if x.cplEn then x.cplVec else cv }
  let s2 := if f.evtEn && (f.evtSize != size || f.evtVec != ev) then s1.ignore fn else s1
  if f.cplEn && f.cplVec != cv then s2.ignore fn else s2

/-- A write of MBX_QCTRL: its fields, then the enable bits it clears and sets (R587). -/
def writeQctrl (fn value : Nat) (s : State) : State :=
  let s1 := writeQctrlFields fn value s
  let s2 := (List.range 4).foldl (fun t n => if nbit value n then t else onCmdQueueDisable fn n t) s1
  let s3 := if nbit value 4 then onCplQueueEnable fn s2 else onCplQueueDisable fn s2
  let s4 := if nbit value 5 then onEvtQueueEnable fn s3 else onEvtQueueDisable fn s3
  (List.range 4).foldl (fun t n => if nbit value n then onCmdQueueEnable fn n t else t) s4

/-- A write into an entry of the MSI-X table (R589). -/
def writeMsix (fn offset size value : Nat) (s : State) : State :=
  let n := (offset - 0x2000) / 16
  let o := offset % 16
  if o < 8 then
    s.onFn fn fun x => { x with vecs := x.vecs.upd {} n fun v => { v with addr := write64 v.addr offset size value / 4 * 4 } }
  else
    let s1 := if o = 8 then s.onFn fn fun x => { x with vecs := x.vecs.upd {} n fun v => { v with data := value % 2 ^ 32 } } else s
    let ctrl := if o = 12 then some value else if size = 8 then some (value / 2 ^ 32) else none
    match ctrl with
    | none => s1
    | some c => if nbit c 0 then onMsixVectorMask fn n false s1 else onMsixVectorUnmask fn n s1

/-- A write to a register of BAR0 or BAR2 (R449, R583-R590); a port-ring doorbell makes available the descriptors
that stand in host memory. -/
def onRegisterWrite (fn bar offset size : Nat) (w : RegData) (s : State) : State :=
  let value := w.value
  if !s.fnEnabled fn then s
  else if bar != 0 || !((size = 4 && offset % 4 = 0) || (size = 8 && offset % 8 = 0)) then s.ignore fn
  else if offset < 0x20 && offset % 8 = 0 then onMbxCmdDb fn (offset / 8) (value % 65536) s
  else if offset = 0x20 then onMbxCplDb fn (value % 65536) s
  else if offset = 0x28 then onMbxEvtDb fn (value % 65536) s
  else if 0x1000 ≤ offset && decide (offset < 0x1020) then
    let n := (offset - 0x1000) / 8
    if ((s.fn fn).q n).en then s.ignore fn
    else s.onQueue fn n fun k => { k with base := write64 k.base offset size value / 4096 * 4096 }
  else if 0x1020 ≤ offset && decide (offset < 0x1028) then
    if (s.fn fn).cplEn then s.ignore fn
    else s.onFn fn fun x => { x with cplBase := write64 x.cplBase offset size value / 4096 * 4096 }
  else if 0x1028 ≤ offset && decide (offset < 0x1030) then
    if (s.fn fn).evtEn then s.ignore fn
    else s.onFn fn fun x => { x with evtBase := write64 x.evtBase offset size value / 4096 * 4096 }
  else if offset = 0x1030 then writeQctrl fn value s
  else if offset = 0x10F0 then
    if fn != 0 then s.ignore fn
    else if s.isSealed then s
    else s.onMbx fun m => { m with testDis := nbit value 0, boardTag := value / 256 % 256 }
  else if 0x2000 ≤ offset && decide (offset < 0x2400) then writeMsix fn offset size value s
  else if 0x3000 ≤ offset && decide (offset < 0x3008) then s
  else if 0x4000 ≤ offset && decide (offset < 0x4100) then
    let n := (offset - 0x4000) / 4
    let set := fun (k v : Nat) (t : State) =>
      if 1000 < v % 1024 then t.ignore fn
      else t.onFn fn fun x => { x with vecs := x.vecs.upd {} k fun e => { e with hold := v % 1024 } }
    if size = 8 then set (n + 1) (value / 2 ^ 32) (set n value s) else set n value s
  else if 0x8000 ≤ offset && decide (offset < 0x10000) && offset % 8 = 0 then onPringDb fn ((offset - 0x8000) / 8) (value % 65536) w.descs s
  else s.ignore fn

/-- REGISTER_WRITE (R583). -/
def execRegisterWrite (fn bar offset size : Nat) (value : RegData) (s : State) : Host.Outcome State Fault Refusal :=
  .next (if s.alive then onRegisterWrite fn bar offset size value s else s)


end Sys2Proof.Machine
end

