-- ==== Sys2Proof/Machine/Cmds.lean ====
section
/-! DEFINITION. The commands that can be staged or mirrored, each with its header, attributes and body (R463, R464, R433). -/

namespace Sys2Proof.Machine

/-- The header, attributes and body of a mailbox command; none for what is no such command. -/
def cmdOf (i : Instr) (s : State) : Option (CmdHdr × CmdMeta × CmdBody) :=
  match i with
  | .sysReset h confirm => some (h, (cmdSysReset h confirm).1, (cmdSysReset h confirm).2)
  | .sysSeal h confirm code => some (h, (cmdSysSeal h confirm code).1, (cmdSysSeal h confirm code).2)
  | .sysReadInfo h => some (h, (cmdSysReadInfo h).1, (cmdSysReadInfo h).2)
  | .sysReadHealth h => some (h, (cmdSysReadHealth h).1, (cmdSysReadHealth h).2)
  | .sysReadSensors h => some (h, (cmdSysReadSensors h).1, (cmdSysReadSensors h).2)
  | .fwLoadImage h set blob => some (h, (cmdFwLoadImage h set blob).1, (cmdFwLoadImage h set blob).2)
  | .fwActivate h set whenCode => some (h, (cmdFwActivate h set whenCode).1, (cmdFwActivate h set whenCode).2)
  | .fwReadSets h => some (h, (cmdFwReadSets h).1, (cmdFwReadSets h).2)
  | .txnBegin h => some (h, (cmdTxnBegin h).1, (cmdTxnBegin h).2)
  | .txnAbort h txnId => some (h, (cmdTxnAbort h txnId).1, (cmdTxnAbort h txnId).2)
  | .txnAcquireLock h sem => some (h, (cmdTxnAcquireLock h sem).1, (cmdTxnAcquireLock h sem).2)
  | .txnReleaseLock h sem gen => some (h, (cmdTxnReleaseLock h sem gen).1, (cmdTxnReleaseLock h sem gen).2)
  | .refSetPps h a => some (h, (cmdRefSetPps h a).1, (cmdRefSetPps h a).2)
  | .refSetClock h a => some (h, (cmdRefSetClock h a).1, (cmdRefSetClock h a).2)
  | .refSetTimecode h a => some (h, (cmdRefSetTimecode h a).1, (cmdRefSetTimecode h a).2)
  | .refSetPendant h a => some (h, (cmdRefSetPendant h a).1, (cmdRefSetPendant h a).2)
  | .refSetNref h a => some (h, (cmdRefSetNref h a).1, (cmdRefSetNref h a).2)
  | .refClearFault h ref => some (h, (cmdRefClearFault h ref).1, (cmdRefClearFault h ref).2)
  | .refReadStatus h ref => some (h, (cmdRefReadStatus h ref).1, (cmdRefReadStatus h ref).2)
  | .gnssSetStream h a => some (h, (cmdGnssSetStream h a).1, (cmdGnssSetStream h a).2)
  | .gnssSetSignals h systems l1c refSys mask => some (h, (cmdGnssSetSignals h systems l1c refSys mask).1, (cmdGnssSetSignals h systems l1c refSys mask).2)
  | .gnssStart h kind => some (h, (cmdGnssStart h kind).1, (cmdGnssStart h kind).2)
  | .gnssSetEpoch h rate => some (h, (cmdGnssSetEpoch h rate).1, (cmdGnssSetEpoch h rate).2)
  | .gnssSetCable h stream d u => some (h, (cmdGnssSetCable h stream d u).1, (cmdGnssSetCable h stream d u).2)
  | .gnssSetSurvey h a => some (h, (cmdGnssSetSurvey h a).1, (cmdGnssSetSurvey h a).2)
  | .gnssLoadSurvey h ant rec => some (h, (cmdGnssLoadSurvey h ant rec).1, (cmdGnssLoadSurvey h ant rec).2)
  | .gnssSetOsnma h root => some (h, (cmdGnssSetOsnma h root).1, (cmdGnssSetOsnma h root).2)
  | .gnssAssertTime h time u => some (h, (cmdGnssAssertTime h time u).1, (cmdGnssAssertTime h time u).2)
  | .gnssSetSpoof h a => some (h, (cmdGnssSetSpoof h a).1, (cmdGnssSetSpoof h a).2)
  | .gnssReadEpoch h epoch => some (h, (cmdGnssReadEpoch h epoch).1, (cmdGnssReadEpoch h epoch).2)
  | .gnssReadStatus h => some (h, (cmdGnssReadStatus h).1, (cmdGnssReadStatus h).2)
  | .ensSetLeapTable h force count entries => some (h, (cmdEnsSetLeapTable h force count entries).1, (cmdEnsSetLeapTable h force count entries).2)
  | .ensSetLocalOffset h count offset entries => some (h, (cmdEnsSetLocalOffset h count offset entries).1, (cmdEnsSetLocalOffset h count offset entries).2)
  | .ensSetAcquire h a => some (h, (cmdEnsSetAcquire h a).1, (cmdEnsSetAcquire h a).2)
  | .ensForceState h force => some (h, (cmdEnsForceState h force).1, (cmdEnsForceState h force).2)
  | .ensReleaseLost h => some (h, (cmdEnsReleaseLost h).1, (cmdEnsReleaseLost h).2)
  | .ensStepTime h sec ns frac => some (h, (cmdEnsStepTime h sec ns frac).1, (cmdEnsStepTime h sec ns frac).2)
  | .ensSetSlew h rate => some (h, (cmdEnsSetSlew h rate).1, (cmdEnsSetSlew h rate).2)
  | .ensSetMember h ref ceiling mode => some (h, (cmdEnsSetMember h ref ceiling mode).1, (cmdEnsSetMember h ref ceiling mode).2)
  | .ensSetBandwidth h final => some (h, (cmdEnsSetBandwidth h final).1, (cmdEnsSetBandwidth h final).2)
  | .ensSetHoldover h horizon ageLimit => some (h, (cmdEnsSetHoldover h horizon ageLimit).1, (cmdEnsSetHoldover h horizon ageLimit).2)
  | .ensSetDrift h enable => some (h, (cmdEnsSetDrift h enable).1, (cmdEnsSetDrift h enable).2)
  | .ensSetSteer h pend policy tau interval => some (h, (cmdEnsSetSteer h pend policy tau interval).1, (cmdEnsSetSteer h pend policy tau interval).2)
  | .ensResetModel h ref => some (h, (cmdEnsResetModel h ref).1, (cmdEnsResetModel h ref).2)
  | .ensReadStatus h => some (h, (cmdEnsReadStatus h).1, (cmdEnsReadStatus h).2)
  | .ensReadModel h ref => some (h, (cmdEnsReadModel h ref).1, (cmdEnsReadModel h ref).2)
  | .hallSetWindows h asymWindow pairWindow => some (h, (cmdHallSetWindows h asymWindow pairWindow).1, (cmdHallSetWindows h asymWindow pairWindow).2)
  | .hallReadCurrent h point => some (h, (cmdHallReadCurrent h point).1, (cmdHallReadCurrent h point).2)
  | .hallVerifyRecord h rec deviceId => some (h, (cmdHallVerifyRecord h rec deviceId).1, (cmdHallVerifyRecord h rec deviceId).2)
  | .outSetLoop h loop enable fl bw => some (h, (cmdOutSetLoop h loop enable fl bw).1, (cmdOutSetLoop h loop enable fl bw).2)
  | .outResetLoop h loop => some (h, (cmdOutResetLoop h loop).1, (cmdOutResetLoop h loop).2)
  | .outSetOutput h a => some (h, (cmdOutSetOutput h a).1, (cmdOutSetOutput h a).2)
  | .outSetOffset h loop yo slope => some (h, (cmdOutSetOffset h loop yo slope).1, (cmdOutSetOffset h loop yo slope).2)
  | .outSetSsc h loop mode depth rate => some (h, (cmdOutSetSsc h loop mode depth rate).1, (cmdOutSetSsc h loop mode depth rate).2)
  | .outSetSlew h kind index rate => some (h, (cmdOutSetSlew h kind index rate).1, (cmdOutSetSlew h kind index rate).2)
  | .outReadStatus h => some (h, (cmdOutReadStatus h).1, (cmdOutReadStatus h).2)
  | .filSetChannel h ch enable edge n => some (h, (cmdFilSetChannel h ch enable edge n).1, (cmdFilSetChannel h ch enable edge n).2)
  | .filSetLoopback h ch kind index divider => some (h, (cmdFilSetLoopback h ch kind index divider).1, (cmdFilSetLoopback h ch kind index divider).2)
  | .filGrantChannel h ch bezel grant => some (h, (cmdFilGrantChannel h ch bezel grant).1, (cmdFilGrantChannel h ch bezel grant).2)
  | .filSetRing h ring mode allot => some (h, (cmdFilSetRing h ring mode allot).1, (cmdFilSetRing h ring mode allot).2)
  | .filSetDiff h a => some (h, (cmdFilSetDiff h a).1, (cmdFilSetDiff h a).2)
  | .filSetStream h a => some (h, (cmdFilSetStream h a).1, (cmdFilSetStream h a).2)
  | .filAckStream h ch readIndex => some (h, (cmdFilAckStream h ch readIndex).1, (cmdFilAckStream h ch readIndex).2)
  | .filReadStamps h ch max => some (h, (cmdFilReadStamps h ch max).1, (cmdFilReadStamps h ch max).2)
  | .filReadDiff h de => some (h, (cmdFilReadDiff h de).1, (cmdFilReadDiff h de).2)
  | .filReadStatus h => some (h, (cmdFilReadStatus h).1, (cmdFilReadStatus h).2)
  | .laSetTap h tap a dTap => some (h, (cmdLaSetTap h tap a dTap).1, (cmdLaSetTap h tap a dTap).2)
  | .laSetVtap h a => some (h, (cmdLaSetVtap h a).1, (cmdLaSetVtap h a).2)
  | .laGrantTap h tap bezel grant => some (h, (cmdLaGrantTap h tap bezel grant).1, (cmdLaGrantTap h tap bezel grant).2)
  | .laSetEvent h a => some (h, (cmdLaSetEvent h a).1, (cmdLaSetEvent h a).2)
  | .laCancelEvent h slot => some (h, (cmdLaCancelEvent h slot).1, (cmdLaCancelEvent h slot).2)
  | .laSetStream h tap n vector base => some (h, (cmdLaSetStream h tap n vector base).1, (cmdLaSetStream h tap n vector base).2)
  | .laAckStream h tap bseq => some (h, (cmdLaAckStream h tap bseq).1, (cmdLaAckStream h tap bseq).2)
  | .laReadEstimates h tap kind max => some (h, (cmdLaReadEstimates h tap kind max).1, (cmdLaReadEstimates h tap kind max).2)
  | .laReadStatus h tap => some (h, (cmdLaReadStatus h tap).1, (cmdLaReadStatus h tap).2)
  | .portSetMode h port mode half an => some (h, (cmdPortSetMode h port mode half an).1, (cmdPortSetMode h port mode half an).2)
  | .portSetMac h port pauseRx maxLen watchdog holdoff => some (h, (cmdPortSetMac h port pauseRx maxLen watchdog holdoff).1, (cmdPortSetMac h port pauseRx maxLen watchdog holdoff).2)
  | .portSetEee h port enable idle tw => some (h, (cmdPortSetEee h port enable idle tw).1, (cmdPortSetEee h port enable idle tw).2)
  | .portCalibrate h port => some (h, (cmdPortCalibrate h port).1, (cmdPortCalibrate h port).2)
  | .portSetAsym h port asym unc => some (h, (cmdPortSetAsym h port asym unc).1, (cmdPortSetAsym h port asym unc).2)
  | .portOpenRing h port dir n vector base => some (h, (cmdPortOpenRing h port dir n vector base).1, (cmdPortOpenRing h port dir n vector base).2)
  | .portCloseRing h handle => some (h, (cmdPortCloseRing h handle).1, (cmdPortCloseRing h handle).2)
  | .portSetFilter h port index kind value handle => some (h, (cmdPortSetFilter h port index kind value handle).1, (cmdPortSetFilter h port index kind value handle).2)
  | .portReadStatus h port => some (h, (cmdPortReadStatus h port).1, (cmdPortReadStatus h port).2)
  | .svcSetService h a => some (h, (cmdSvcSetService h a).1, (cmdSvcSetService h a).2)
  | .svcSetAddress h port index family vlan pcp address => some (h, (cmdSvcSetAddress h port index family vlan pcp address).1, (cmdSvcSetAddress h port index family vlan pcp address).2)
  | .svcSetLaunch h port margin => some (h, (cmdSvcSetLaunch h port margin).1, (cmdSvcSetLaunch h port margin).2)
  | .svcCancelGrant h entry => some (h, (cmdSvcCancelGrant h entry).1, (cmdSvcCancelGrant h entry).2)
  | .svcSetSeal h lifetime => some (h, (cmdSvcSetSeal h lifetime).1, (cmdSvcSetSeal h lifetime).2)
  | .svcSetPrp h portA portB join forget => some (h, (cmdSvcSetPrp h portA portB join forget).1, (cmdSvcSetPrp h portA portB join forget).2)
  | .svcReadStatus h service => some (h, (cmdSvcReadStatus h service).1, (cmdSvcReadStatus h service).2)
  | .svcReadGrant h entry => some (h, (cmdSvcReadGrant h entry).1, (cmdSvcReadGrant h entry).2)
  | .keyGenerate h a => some (h, (cmdKeyGenerate h a).1, (cmdKeyGenerate h a).2)
  | .keyImport h parent target blob => some (h, (cmdKeyImport h parent target blob).1, (cmdKeyImport h parent target blob).2)
  | .keyProvisionOwner h blob => some (h, (cmdKeyProvisionOwner h blob).1, (cmdKeyProvisionOwner h blob).2)
  | .keyDestroy h slot confirm => some (h, { (cmdKeyDestroy h slot confirm).1 with mirrored := (s.keyMirrors slot) }, (cmdKeyDestroy h slot confirm).2)
  | .keyFree h slot => some (h, { (cmdKeyFree h slot).1 with mirrored := (s.keyMirrors slot) }, (cmdKeyFree h slot).2)
  | .keySetTls h signSlot clientAuth anchors chainLen => some (h, (cmdKeySetTls h signSlot clientAuth anchors chainLen).1, (cmdKeySetTls h signSlot clientAuth anchors chainLen).2)
  | .keyReadSlot h slot => some (h, (cmdKeyReadSlot h slot).1, (cmdKeyReadSlot h slot).2)
  | .keyReadIdentity h => some (h, (cmdKeyReadIdentity h).1, (cmdKeyReadIdentity h).2)
  | .keyRandom h len => some (h, (cmdKeyRandom h len).1, (cmdKeyRandom h len).2)
  | .keyReadStatus h => some (h, (cmdKeyReadStatus h).1, (cmdKeyReadStatus h).2)
  | .bezelCreate h bezel subBase subCount => some (h, (cmdBezelCreate h bezel subBase subCount).1, (cmdBezelCreate h bezel subBase subCount).2)
  | .bezelDelete h bezel => some (h, (cmdBezelDelete h bezel).1, (cmdBezelDelete h bezel).2)
  | .bezelAssignPort h port bezel => some (h, (cmdBezelAssignPort h port bezel).1, (cmdBezelAssignPort h port bezel).2)
  | .bezelSetQuota h bezel grants poolSlots rules subBase subCount => some (h, (cmdBezelSetQuota h bezel grants poolSlots rules subBase subCount).1, (cmdBezelSetQuota h bezel grants poolSlots rules subBase subCount).2)
  | .bezelSetDmaWindow h bezel index base size => some (h, (cmdBezelSetDmaWindow h bezel index base size).1, (cmdBezelSetDmaWindow h bezel index base size).2)
  | .bezelSetFlags h bezel flags => some (h, (cmdBezelSetFlags h bezel flags).1, (cmdBezelSetFlags h bezel flags).2)
  | .bezelRelease h bezel kind index => some (h, (cmdBezelRelease h bezel kind index).1, (cmdBezelRelease h bezel kind index).2)
  | .bezelReadStatus h bezel => some (h, (cmdBezelReadStatus h bezel).1, (cmdBezelReadStatus h bezel).2)
  | .tmSetSubscriberRule h index kind pfxLen subscriber address => some (h, (cmdTmSetSubscriberRule h index kind pfxLen subscriber address).1, (cmdTmSetSubscriberRule h index kind pfxLen subscriber address).2)
  | .tmSetMeter h a => some (h, (cmdTmSetMeter h a).1, (cmdTmSetMeter h a).2)
  | .tmSetBuffer h bezel reserve cap => some (h, (cmdTmSetBuffer h bezel reserve cap).1, (cmdTmSetBuffer h bezel reserve cap).2)
  | .tmSetQueue h port cls limit yellow => some (h, (cmdTmSetQueue h port cls limit yellow).1, (cmdTmSetQueue h port cls limit yellow).2)
  | .tmSetShaper h kind index rate high low => some (h, (cmdTmSetShaper h kind index rate high low).1, (cmdTmSetShaper h kind index rate high low).2)
  | .tmSetSample h port period window => some (h, (cmdTmSetSample h port period window).1, (cmdTmSetSample h port period window).2)
  | .tmReadQueue h kind index => some (h, (cmdTmReadQueue h kind index).1, (cmdTmReadQueue h kind index).2)
  | .tmAudit h => some (h, (cmdTmAudit h).1, (cmdTmAudit h).2)
  | .staSetReserve h bezel beats => some (h, (cmdStaSetReserve h bezel beats).1, (cmdStaSetReserve h bezel beats).2)
  | .staSetWeight h bezel weight => some (h, (cmdStaSetWeight h bezel weight).1, (cmdStaSetWeight h bezel weight).2)
  | .staCommit h => some (h, (cmdStaCommit h).1, (cmdStaCommit h).2)
  | .staReadTable h => some (h, (cmdStaReadTable h).1, (cmdStaReadTable h).2)
  | .claspSetPair h enable dPps pairWait ports => some (h, (cmdClaspSetPair h enable dPps pairWait ports).1, (cmdClaspSetPair h enable dPps pairWait ports).2)
  | .claspSetSwap h period second => some (h, (cmdClaspSetSwap h period second).1, (cmdClaspSetSwap h period second).2)
  | .claspSwapNow h => some (h, (cmdClaspSwapNow h).1, (cmdClaspSwapNow h).2)
  | .claspResync h => some (h, (cmdClaspResync h).1, (cmdClaspResync h).2)
  | .claspReadStatus h => some (h, (cmdClaspReadStatus h).1, (cmdClaspReadStatus h).2)
  | .loupeGrantBank h bank bezel grant => some (h, (cmdLoupeGrantBank h bank bezel grant).1, (cmdLoupeGrantBank h bank bezel grant).2)
  | .loupeSetBank h bank mode window => some (h, (cmdLoupeSetBank h bank mode window).1, (cmdLoupeSetBank h bank mode window).2)
  | .loupePreset h counter irq vector value => some (h, (cmdLoupePreset h counter irq vector value).1, (cmdLoupePreset h counter irq vector value).2)
  | .loupeRead h first count => some (h, (cmdLoupeRead h first count).1, (cmdLoupeRead h first count).2)
  | .faultClear h word mask => some (h, (cmdFaultClear h word mask).1, (cmdFaultClear h word mask).2)
  | .faultRead h => some (h, (cmdFaultRead h).1, (cmdFaultRead h).2)
  | .logRead h first max => some (h, (cmdLogRead h first max).1, (cmdLogRead h first max).2)
  | .logReadStatus h => some (h, (cmdLogReadStatus h).1, (cmdLogReadStatus h).2)
  | .nvResetConfig h confirm => some (h, (cmdNvResetConfig h confirm).1, (cmdNvResetConfig h confirm).2)
  | .nvReadStatus h => some (h, (cmdNvReadStatus h).1, (cmdNvReadStatus h).2)
  | _ => none

/-- Commands take effect one after the other, as one change. -/
def State.applyAll (s : State) (l : List Instr) : State :=
  l.foldl (fun (t : State) i => match cmdOf i t with | some (_, _, b) => (b.act t).st | none => t) s

/-- A set of changes written as one record set (R464, R501). -/
def State.applySet (s : State) (l : List Instr) : State :=
  let n := (s.mgmt.setGen + 1) % 2 ^ 32
  (((s.onMgmt fun m => { m with setGen := n }).applyAll l).writeBoot)

/-- A member of the set changes mirrored state (R433). -/
def State.anyMirrored (s : State) (l : List Instr) : Bool :=
  l.any fun i => match cmdOf i s with | some (_, m, _) => m.mirrored | none => false

/-- A command whose own rule defers its change, which counts from acceptance also where the change waits for the partner (R58, R69, R114, R125, R220,
R438, R464). -/
def defers : Instr → Bool
  | .claspSwapNow _ => true
  | .ensStepTime _ _ _ _ => true
  | .ensSetLeapTable _ _ _ _ => true
  | .gnssSetEpoch _ _ => true
  | .gnssSetCable _ _ _ _ => true
  | .outSetOutput _ _ => true
  | _ => false

/-- One accepted change takes effect, with the free values it was accepted with; its own deferral counts from its acceptance (R433). -/
def State.applyMirrored (s : State) (x : MirrorItem) : State :=
  let late := x.cmds.any defers
  let s1 := (if late then s.onTc fun c => { c with mtc := x.stood } else s).onFree fun _ => x.free
  let s2 := if x.asSet then s1.applySet x.cmds else s1.applyAll x.cmds
  (if late then s2.onTc fun c => { c with mtc := s.tc.mtc } else s2).onFree fun _ => s.free

/-- The state with every change that waits for the partner in effect: what the next mirrored command is judged against (R207, R433). -/
def State.accepted (s : State) : State := s.clasp.mirror.foldl State.applyMirrored s

end Sys2Proof.Machine
end

