-- ==== Sys2Proof/Machine/StateObj.lean ====
section
/-! DEFINITION. The state classes that `state.read_object` returns: POWER, OWNERSHIP, and a class of each block, whose layouts the spec does not give (R47,
R476, R511-R514, R557). -/

namespace Sys2Proof.Machine

/-! ### POWER (R557) -/

/-- The record of class POWER. -/
def State.powerRecord (s : State) : Rec :=
  [bit s.pwr.kek, bit s.isSealed, bit (s.pwr.present != 0), bit s.pwr.vbatOk, bit s.alive, rsv 3,
   fld 4 s.pwr.latch.toNat, rsv 4, fld 16 s.pwr.vgen, fld 32 s.pwr.tcount, fld 8 s.pwr.cause, rsv 56]

/-! ### OWNERSHIP (R511-R514) -/

/-- The number of resources of each kind, in the order of the table (R511); pins in the order in which it lists them: CKO, PPSO, TCO, TIC, PPSI, CKI,
TCI, Pendants, PSPI, GNSS streams, TAPCK, TAP_D. -/
def resourceCounts : List Nat := [97, 256, 64, 32, 32, 96, 64, 4096, 320, 1024]

/-- The resource at a place of the table: its kind and number. -/
def resourceIn (counts : List Nat) (kind index : Nat) : Option (Nat × Nat) :=
  match counts with
  | [] => none
  | n :: r => if index < n then some (kind, index) else resourceIn r (kind + 1) (index - n)

/-- The resource an INDEX names. -/
def resourceOf (index : Nat) : Option (Nat × Nat) := resourceIn resourceCounts 0 index

/-- Who holds a resource. -/
inductive Holder where
  | nobody
  | bezel (n : Nat)
  | block (n : Nat)
  deriving DecidableEq, Repr

/-- OWNER_KIND and OWNER (R514). -/
def Holder.code : Holder → Nat × Nat
  | .nobody => (0, 0)
  | .bezel n => (1, n)
  | .block n => (2, n)

/-- A holder where something is configured, with the command that made the claim and the object whose changes count. -/
def heldIf (c : Bool) (w : Holder) (op key : Nat) : Holder × Nat × Nat := if c then (w, op, key) else (.nobody, 0, key)

/-- The holder of a pin, in the order of `resourceCounts`; blocks are coded as R514: 0 Time Core, 1 GBB, 2 output loops, 3 LAE. -/
def State.pinHolder (s : State) (n : Nat) : Holder × Nat × Nat :=
  if n < 44 then
    if s.gbbCko n then (.block 1, 0x1101, objKey 0x14 (256 + n))
    else heldIf (s.pin n).on (if kindOf n != 0 && (s.pin n).cfg.mode = 2 then .block 3 else .block 2) 0x1403 (objKey 0x14 (256 + n))
  else if n < 68 then heldIf (s.chan (n - 44)).en (.bezel 0) 0x1501 (objKey 0x15 (n - 44))
  else if n < 72 then heldIf ((s.inp (refPpsi (n - 68))).st != .off) (.block 0) 0x1001 (objKey 0x10 (refPpsi (n - 68)))
  else if n < 76 then heldIf ((s.inp (refCki (n - 72))).st != .off) (.block 0) 0x1002 (objKey 0x10 (refCki (n - 72)))
  else if n < 78 then heldIf ((s.tci (n - 76)).kind != 0) (.block 0) 0x1003 (objKey 0x10 (refTci (n - 76)))
  else if n < 82 then
    heldIf ((s.inp (refPend (n - 78))).st != .off || (s.pend (n - 78)).health != .none) (.block 0) 0x1004 (objKey 0x10 (refPend (n - 78)))
  else if n = 82 then heldIf ((List.range 4).any fun i => (s.pend i).cfg.steer = 1) (.block 0) 0x1004 (objKey 0x10 (refPend 0))
  else if n < 87 then heldIf ((s.gnss.streams.look {} (n - 83)).cfg.enable = 1) (.block 1) 0x1101 (objKey 0x11 (n - 83))
  else if n < 89 then heldIf (s.la.tapck.any fun q => q.1 = n - 87) (.block 3) 0x1601 (objKey 0x16 (4 * (n - 87)))
  else heldIf ((s.tap (n - 89)).st != .off) (.block 3) 0x1601 (objKey 0x16 (n - 89))

/-- The holder of a port (R400, R511): a bezel; within BZ00 the Time Core for an NREF, the LAE for a VTAP or an LA TX target, the Clasp, and the
TSE for a PRP pair. -/
def State.portHolder (s : State) (p : Nat) : Holder × Nat × Nat :=
  let k := objKey 0x20 p
  if s.nrefUses p then (.block 0, 0x1005, k)
  else if s.vtapUses p then (.block 3, 0x1602, k)
  else if s.laTxUses p then (.block 3, 0x1604, k)
  else if s.claspUses p then (.block 4, 0x3001, k)
  else if s.portInPrp p then (.block 5, 0x2106, k)
  else (.bezel (s.portOwner p), 0x2303, k)

/-- The holder of a Filigree channel (R179). -/
def State.chanHolder (s : State) (c : Nat) : Holder × Nat × Nat :=
  if c < 24 then (.bezel 0, 0x1501, objKey 0x15 c)
  else if c < 40 then (.block 0, 0, objKey 0x15 c)
  else (.block 2, 0x1502, objKey 0x15 c)

/-- The holder of a resource, the command that made the claim, and the object whose change count the entry carries. -/
def State.holder (s : State) (kind n : Nat) : Holder × Nat × Nat :=
  if kind = 0 then s.pinHolder n
  else if kind = 1 then s.portHolder n
  else if kind = 2 then s.chanHolder n
  else if kind = 3 then heldIf ((s.eng n).cfg.enable = 1) (.bezel 0) 0x1505 (objKey 0x15 (512 + n))
  else if kind = 4 then heldIf ((s.slot n).st != .free) (.block 3) 0x1604 (objKey 0x16 (256 + n))
  else if kind = 5 then
    let h := if n < 64 then (s.chanHolder n).1 else if (s.eng (n - 64)).cfg.enable = 1 then .bezel 0 else .nobody
    (h, if h = .nobody then 0 else 0x1504, objKey 0x15 (256 + n))
  else if kind = 6 then heldIf ((s.tm.bezels.look {} n).reserve != 0) (.bezel n) 0x2403 (objKey 0x23 n)
  else if kind = 7 then (match s.pring n with | some r => (.bezel r.owner, 0x2006, objKey 0x20 (4096 + n)) | none => (.nobody, 0, objKey 0x20 (4096 + n)))
  else if kind = 8 then (match (s.loupeBank n).grantee with | some b => (.bezel b, 0x4001, objKey 0x40 n) | none => (.bezel 0, 0, objKey 0x40 n))
  else (.block 6, 0, objKey 0x04 n)

/-- A resource is named by a command staged in an open transaction (R463, R512). -/
def State.resourceReserved (s : State) (key : Nat) : Bool :=
  s.mbx.fns.any fun f => f.2.queues.any fun q => match q.2.txn with | some t => t.staged.any fun i => decide (key ∈ objsOf i) | none => false

/-- The code of a consumer (R514). -/
def FilUser.code : FilUser → Nat
  | .timeCore => 0x80
  | .engine n => 0x81 + n
  | .bezel b => b

/-- The consumers of a Filigree channel (R513). -/
def State.consumerCodes (s : State) (c : Nat) : List Nat :=
  (if 24 ≤ c then [0x80] else []) ++ ((s.ring c).readers.filter fun (x : FilReader) => x.user != .timeCore).map fun (x : FilReader) => x.user.code

/-- A bezel reads the records of resources it owns or has been granted (R471, R514). -/
def State.mayReadResource (s : State) (b kind n : Nat) : Bool :=
  b = 0 || (s.holder kind n).1 = .bezel b || (kind = 2 && decide (b ∈ (s.chan n).grants)) || (kind = 1 && s.portOwner n = b)

/-- One record of class OWNERSHIP (R514). -/
def State.ownershipRecord (s : State) (kind n : Nat) : Rec :=
  let h := s.holder kind n
  let cons := if kind = 2 then s.consumerCodes n else []
  let four := ((cons ++ [0xFF, 0xFF, 0xFF, 0xFF]).take 4).map fun c => fld 8 (if kind = 2 then c else 0xFF)
  [fld 8 kind, bit (s.resourceReserved h.2.2), bit (!cons.isEmpty), rsv 6, fld 16 n, fld 8 h.1.code.1, fld 8 h.1.code.2, fld 16 h.2.1,
   fld 32 (s.mbx.objGen.look 0 h.2.2)] ++ four

/-! ### The commands (R476) -/

/-- The blocks whose state is read back, in the order of their numbers (R47). -/
def State.blocks (s : State) : List Block :=
  [.timeCore s.tc, .hallmark s.hall, .mailboxes s.mbx, .bezels s.bez, .power s.pwr, .management s.mgmt, .faults s.fault, .loupe s.loupe, .clasp s.clasp,
   .references s.ref, .gnss s.gnss, .ensemble s.ens, .filigree s.fil, .outputs s.out, .lineAngle s.la, .ports s.ports, .traffic s.tm,
   .timeService s.tse, .schedule s.sta,
   .keys { s.keys with slots := s.keys.slots.mapAll fun _ (k : KeySlot) => { k with material := 0 } }]

/-- The state classes: code, record length in bytes, number of objects. -/
def stateClasses : List (Nat × Nat × Nat) :=
  [(Config.powerClass, 16, 1), (Config.ownershipClass, 16, resourceCounts.sum)]
  ++ (List.range 20).map fun i => (Config.blockClass i, Config.blockShape i)

/-- What an object reads as: who may read it, its change count, and its record; none where the class has no such object. -/
def State.stateObject (s : State) (b cls index : Nat) : Option (Bool × Nat × Rec) :=
  if cls = Config.powerClass then
    (if index = 0 then some (b = 0, s.mbx.objGen.look 0 (objKey 0x03 0), s.powerRecord) else none)
  else if cls = Config.ownershipClass then
    (resourceOf index).map fun r => (s.mayReadResource b r.1 r.2, s.mbx.objGen.look 0 (s.holder r.1 r.2).2.2, s.ownershipRecord r.1 r.2)
  else match (List.range 20).find? fun i => Config.blockClass i = cls with
    | none => none
    | some i => if index < (Config.blockShape i).2 then
        (s.blocks[i]?).map fun x =>
          (b = 0 || Config.blockReadable b i index, s.mbx.objGen.look 0 (objKey cls index), [fld (8 * (Config.blockShape i).1) (Config.blockRecord index x)])
      else none

/-- `state.read_object` (R476, R514, R557). -/
def cmdStateReadObject (h : CmdHdr) (cls index : Nat) : CmdMeta × CmdBody :=
  ({ op := 0x0341, plen := 8, who := .any, xbOut := true },
   { argOk := fun s => (s.stateObject h.fn cls index).isSome
     check := fun s => judge [(match s.stateObject h.fn cls index with | some o => !o.1 | none => false, .perm)]
     act := fun s => match s.stateObject h.fn cls index with
       | some o => cmdOut s [fld 32 o.2.1] o.2.2
       | none => cmdOut s })

/-- `state.list_classes` (R476): code, record length and number of objects of each class. -/
def cmdStateListClasses (_h : CmdHdr) : CmdMeta × CmdBody :=
  ({ op := 0x0342, who := .any, xbOut := true },
   { argOk := fun _ => true
     act := fun s => cmdOut s [fld 16 stateClasses.length] (stateClasses.flatMap fun c => [fld 16 c.1, fld 16 c.2.1, fld 32 c.2.2]) })



end Sys2Proof.Machine
end

