-- ==== Sys2Proof/Machine/Run.lean ====
section
/-! DEFINITION. The meaning of every mailbox command: its own part, run through the life of a command (R451-R474). -/

namespace Sys2Proof.Machine

/-! ### Bezel -/

/-- BEZEL_CREATE (R397). -/
def execBezelCreate (h : CmdHdr) (bezel subBase subCount : Nat) (s : State) : Host.Outcome State Fault Refusal :=
  .next (runCommand State.accepted (cmdBezelCreate h bezel subBase subCount).1 h (.bezelCreate h bezel subBase subCount) (cmdBezelCreate h bezel subBase subCount).2 s)

/-- BEZEL_DELETE (R399). -/
def execBezelDelete (h : CmdHdr) (bezel : Nat) (s : State) : Host.Outcome State Fault Refusal :=
  .next (runCommand State.accepted (cmdBezelDelete h bezel).1 h (.bezelDelete h bezel) (cmdBezelDelete h bezel).2 s)

/-- BEZEL_ASSIGN_PORT (R402). -/
def execBezelAssignPort (h : CmdHdr) (port bezel : Nat) (s : State) : Host.Outcome State Fault Refusal :=
  .next (runCommand State.accepted (cmdBezelAssignPort h port bezel).1 h (.bezelAssignPort h port bezel) (cmdBezelAssignPort h port bezel).2 s)

/-- BEZEL_SET_QUOTA (R401). -/
def execBezelSetQuota (h : CmdHdr) (bezel grants poolSlots rules subBase subCount : Nat) (s : State) : Host.Outcome State Fault Refusal :=
  .next (runCommand State.accepted (cmdBezelSetQuota h bezel grants poolSlots rules subBase subCount).1 h (.bezelSetQuota h bezel grants poolSlots rules subBase subCount) (cmdBezelSetQuota h bezel grants poolSlots rules subBase subCount).2 s)

/-- BEZEL_SET_DMA_WINDOW (R403). -/
def execBezelSetDmaWindow (h : CmdHdr) (bezel index base size : Nat) (s : State) : Host.Outcome State Fault Refusal :=
  .next (runCommand State.accepted (cmdBezelSetDmaWindow h bezel index base size).1 h (.bezelSetDmaWindow h bezel index base size) (cmdBezelSetDmaWindow h bezel index base size).2 s)

/-- BEZEL_SET_FLAGS (R273). -/
def execBezelSetFlags (h : CmdHdr) (bezel flags : Nat) (s : State) : Host.Outcome State Fault Refusal :=
  .next (runCommand State.accepted (cmdBezelSetFlags h bezel flags).1 h (.bezelSetFlags h bezel flags) (cmdBezelSetFlags h bezel flags).2 s)

/-- BEZEL_RELEASE (R409). -/
def execBezelRelease (h : CmdHdr) (bezel kind index : Nat) (s : State) : Host.Outcome State Fault Refusal :=
  .next (runCommand State.accepted (cmdBezelRelease h bezel kind index).1 h (.bezelRelease h bezel kind index) (cmdBezelRelease h bezel kind index).2 s)

/-- BEZEL_READ_STATUS (R406). -/
def execBezelReadStatus (h : CmdHdr) (bezel : Nat) (s : State) : Host.Outcome State Fault Refusal :=
  .next (runCommand State.accepted (cmdBezelReadStatus h bezel).1 h (.bezelReadStatus h bezel) (cmdBezelReadStatus h bezel).2 s)

/-! ### Clasp -/

/-- CLASP_SET_PAIR (R415). -/
def execClaspSetPair (h : CmdHdr) (enable dPps pairWait : Nat) (ports : List Nat) (s : State) : Host.Outcome State Fault Refusal :=
  .next (runCommand State.accepted (cmdClaspSetPair h enable dPps pairWait ports).1 h (.claspSetPair h enable dPps pairWait ports) (cmdClaspSetPair h enable dPps pairWait ports).2 s)

/-- CLASP_SET_SWAP (R438). -/
def execClaspSetSwap (h : CmdHdr) (period second : Nat) (s : State) : Host.Outcome State Fault Refusal :=
  .next (runCommand State.accepted (cmdClaspSetSwap h period second).1 h (.claspSetSwap h period second) (cmdClaspSetSwap h period second).2 s)

/-- CLASP_SWAP_NOW (R438). -/
def execClaspSwapNow (h : CmdHdr) (s : State) : Host.Outcome State Fault Refusal :=
  .next (runCommand State.accepted (cmdClaspSwapNow h).1 h (.claspSwapNow h) (cmdClaspSwapNow h).2 s)

/-- CLASP_RESYNC (R415). -/
def execClaspResync (h : CmdHdr) (s : State) : Host.Outcome State Fault Refusal :=
  .next (runCommand State.accepted (cmdClaspResync h).1 h (.claspResync h) (cmdClaspResync h).2 s)

/-- CLASP_READ_STATUS (R414). -/
def execClaspReadStatus (h : CmdHdr) (s : State) : Host.Outcome State Fault Refusal :=
  .next (runCommand State.accepted (cmdClaspReadStatus h).1 h (.claspReadStatus h) (cmdClaspReadStatus h).2 s)

/-! ### Clock -/

/-- ENS_SET_LEAP_TABLE (R58). -/
def execEnsSetLeapTable (h : CmdHdr) (force count : Nat) (entries : List LeapEntry) (s : State) : Host.Outcome State Fault Refusal :=
  .next (runCommand State.accepted (cmdEnsSetLeapTable h force count entries).1 h (.ensSetLeapTable h force count entries) (cmdEnsSetLeapTable h force count entries).2 s)

/-- ENS_SET_LOCAL_OFFSET (R62). -/
def execEnsSetLocalOffset (h : CmdHdr) (count : Nat) (offset : Int) (entries : List LocalChange) (s : State) : Host.Outcome State Fault Refusal :=
  .next (runCommand State.accepted (cmdEnsSetLocalOffset h count offset entries).1 h (.ensSetLocalOffset h count offset entries) (cmdEnsSetLocalOffset h count offset entries).2 s)

/-- ENS_SET_ACQUIRE (R65). -/
def execEnsSetAcquire (h : CmdHdr) (a : AcquireArgs) (s : State) : Host.Outcome State Fault Refusal :=
  .next (runCommand State.accepted (cmdEnsSetAcquire h a).1 h (.ensSetAcquire h a) (cmdEnsSetAcquire h a).2 s)

/-- ENS_FORCE_STATE (R66). -/
def execEnsForceState (h : CmdHdr) (force : Nat) (s : State) : Host.Outcome State Fault Refusal :=
  .next (runCommand State.accepted (cmdEnsForceState h force).1 h (.ensForceState h force) (cmdEnsForceState h force).2 s)

/-- ENS_RELEASE_LOST (R66). -/
def execEnsReleaseLost (h : CmdHdr) (s : State) : Host.Outcome State Fault Refusal :=
  .next (runCommand State.accepted (cmdEnsReleaseLost h).1 h (.ensReleaseLost h) (cmdEnsReleaseLost h).2 s)

/-- ENS_STEP_TIME (R69). -/
def execEnsStepTime (h : CmdHdr) (sec ns frac : Int) (s : State) : Host.Outcome State Fault Refusal :=
  .next (runCommand State.accepted (cmdEnsStepTime h sec ns frac).1 h (.ensStepTime h sec ns frac) (cmdEnsStepTime h sec ns frac).2 s)

/-- ENS_SET_SLEW (R68). -/
def execEnsSetSlew (h : CmdHdr) (rate : Nat) (s : State) : Host.Outcome State Fault Refusal :=
  .next (runCommand State.accepted (cmdEnsSetSlew h rate).1 h (.ensSetSlew h rate) (cmdEnsSetSlew h rate).2 s)

/-! ### Ens -/

/-- ENS_SET_MEMBER (R147). -/
def execEnsSetMember (h : CmdHdr) (ref ceiling mode : Nat) (s : State) : Host.Outcome State Fault Refusal :=
  .next (runCommand State.accepted (cmdEnsSetMember h ref ceiling mode).1 h (.ensSetMember h ref ceiling mode) (cmdEnsSetMember h ref ceiling mode).2 s)

/-- ENS_SET_BANDWIDTH (R166). -/
def execEnsSetBandwidth (h : CmdHdr) (final : Nat) (s : State) : Host.Outcome State Fault Refusal :=
  .next (runCommand State.accepted (cmdEnsSetBandwidth h final).1 h (.ensSetBandwidth h final) (cmdEnsSetBandwidth h final).2 s)

/-- ENS_SET_HOLDOVER (R178). -/
def execEnsSetHoldover (h : CmdHdr) (horizon ageLimit : Nat) (s : State) : Host.Outcome State Fault Refusal :=
  .next (runCommand State.accepted (cmdEnsSetHoldover h horizon ageLimit).1 h (.ensSetHoldover h horizon ageLimit) (cmdEnsSetHoldover h horizon ageLimit).2 s)

/-- ENS_SET_DRIFT (R175). -/
def execEnsSetDrift (h : CmdHdr) (enable : Nat) (s : State) : Host.Outcome State Fault Refusal :=
  .next (runCommand State.accepted (cmdEnsSetDrift h enable).1 h (.ensSetDrift h enable) (cmdEnsSetDrift h enable).2 s)

/-- ENS_SET_STEER (R169). -/
def execEnsSetSteer (h : CmdHdr) (pend policy tau interval : Nat) (s : State) : Host.Outcome State Fault Refusal :=
  .next (runCommand State.accepted (cmdEnsSetSteer h pend policy tau interval).1 h (.ensSetSteer h pend policy tau interval) (cmdEnsSetSteer h pend policy tau interval).2 s)

/-- ENS_RESET_MODEL (R163). -/
def execEnsResetModel (h : CmdHdr) (ref : Nat) (s : State) : Host.Outcome State Fault Refusal :=
  .next (runCommand State.accepted (cmdEnsResetModel h ref).1 h (.ensResetModel h ref) (cmdEnsResetModel h ref).2 s)

/-- ENS_READ_STATUS (R178). -/
def execEnsReadStatus (h : CmdHdr) (s : State) : Host.Outcome State Fault Refusal :=
  .next (runCommand State.accepted (cmdEnsReadStatus h).1 h (.ensReadStatus h) (cmdEnsReadStatus h).2 s)

/-- ENS_READ_MODEL (R178). -/
def execEnsReadModel (h : CmdHdr) (ref : Nat) (s : State) : Host.Outcome State Fault Refusal :=
  .next (runCommand State.accepted (cmdEnsReadModel h ref).1 h (.ensReadModel h ref) (cmdEnsReadModel h ref).2 s)

/-! ### Fil -/

/-- FIL_SET_CHANNEL (R183). -/
def execFilSetChannel (h : CmdHdr) (ch enable edge n : Nat) (s : State) : Host.Outcome State Fault Refusal :=
  .next (runCommand State.accepted (cmdFilSetChannel h ch enable edge n).1 h (.filSetChannel h ch enable edge n) (cmdFilSetChannel h ch enable edge n).2 s)

/-- FIL_SET_LOOPBACK (R182). -/
def execFilSetLoopback (h : CmdHdr) (ch kind index divider : Nat) (s : State) : Host.Outcome State Fault Refusal :=
  .next (runCommand State.accepted (cmdFilSetLoopback h ch kind index divider).1 h (.filSetLoopback h ch kind index divider) (cmdFilSetLoopback h ch kind index divider).2 s)

/-- FIL_GRANT_CHANNEL (R180). -/
def execFilGrantChannel (h : CmdHdr) (ch bezel grant : Nat) (s : State) : Host.Outcome State Fault Refusal :=
  .next (runCommand State.accepted (cmdFilGrantChannel h ch bezel grant).1 h (.filGrantChannel h ch bezel grant) (cmdFilGrantChannel h ch bezel grant).2 s)

/-- FIL_SET_RING (R199). -/
def execFilSetRing (h : CmdHdr) (ring mode allot : Nat) (s : State) : Host.Outcome State Fault Refusal :=
  .next (runCommand State.accepted (cmdFilSetRing h ring mode allot).1 h (.filSetRing h ring mode allot) (cmdFilSetRing h ring mode allot).2 s)

/-- FIL_SET_DIFF (R202). -/
def execFilSetDiff (h : CmdHdr) (a : DiffArgs) (s : State) : Host.Outcome State Fault Refusal :=
  .next (runCommand State.accepted (cmdFilSetDiff h a).1 h (.filSetDiff h a) (cmdFilSetDiff h a).2 s)

/-- FIL_SET_STREAM (R200). -/
def execFilSetStream (h : CmdHdr) (a : FilStreamArgs) (s : State) : Host.Outcome State Fault Refusal :=
  .next (runCommand State.accepted (cmdFilSetStream h a).1 h (.filSetStream h a) (cmdFilSetStream h a).2 s)

/-- FIL_ACK_STREAM (R200). -/
def execFilAckStream (h : CmdHdr) (ch readIndex : Nat) (s : State) : Host.Outcome State Fault Refusal :=
  .next (runCommand State.accepted (cmdFilAckStream h ch readIndex).1 h (.filAckStream h ch readIndex) (cmdFilAckStream h ch readIndex).2 s)

/-- FIL_READ_STAMPS (R201). -/
def execFilReadStamps (h : CmdHdr) (ch max : Nat) (s : State) : Host.Outcome State Fault Refusal :=
  .next (runCommand State.accepted (cmdFilReadStamps h ch max).1 h (.filReadStamps h ch max) (cmdFilReadStamps h ch max).2 s)

/-- FIL_READ_DIFF (R204). -/
def execFilReadDiff (h : CmdHdr) (de : Nat) (s : State) : Host.Outcome State Fault Refusal :=
  .next (runCommand State.accepted (cmdFilReadDiff h de).1 h (.filReadDiff h de) (cmdFilReadDiff h de).2 s)

/-- FIL_READ_STATUS (R189). -/
def execFilReadStatus (h : CmdHdr) (s : State) : Host.Outcome State Fault Refusal :=
  .next (runCommand State.accepted (cmdFilReadStatus h).1 h (.filReadStatus h) (cmdFilReadStatus h).2 s)

/-! ### Gnss -/

/-- GNSS_SET_STREAM (R113). -/
def execGnssSetStream (h : CmdHdr) (a : StreamArgs) (s : State) : Host.Outcome State Fault Refusal :=
  .next (runCommand State.accepted (cmdGnssSetStream h a).1 h (.gnssSetStream h a) (cmdGnssSetStream h a).2 s)

/-- GNSS_SET_SIGNALS (R117). -/
def execGnssSetSignals (h : CmdHdr) (systems l1c refSys mask : Nat) (s : State) : Host.Outcome State Fault Refusal :=
  .next (runCommand State.accepted (cmdGnssSetSignals h systems l1c refSys mask).1 h (.gnssSetSignals h systems l1c refSys mask) (cmdGnssSetSignals h systems l1c refSys mask).2 s)

/-- GNSS_START (R121). -/
def execGnssStart (h : CmdHdr) (kind : Nat) (s : State) : Host.Outcome State Fault Refusal :=
  .next (runCommand State.accepted (cmdGnssStart h kind).1 h (.gnssStart h kind) (cmdGnssStart h kind).2 s)

/-- GNSS_SET_EPOCH (R123). -/
def execGnssSetEpoch (h : CmdHdr) (rate : Nat) (s : State) : Host.Outcome State Fault Refusal :=
  .next (runCommand State.accepted (cmdGnssSetEpoch h rate).1 h (.gnssSetEpoch h rate) (cmdGnssSetEpoch h rate).2 s)

/-- GNSS_SET_CABLE (R127). -/
def execGnssSetCable (h : CmdHdr) (stream d u : Nat) (s : State) : Host.Outcome State Fault Refusal :=
  .next (runCommand State.accepted (cmdGnssSetCable h stream d u).1 h (.gnssSetCable h stream d u) (cmdGnssSetCable h stream d u).2 s)

/-- GNSS_SET_SURVEY (R131). -/
def execGnssSetSurvey (h : CmdHdr) (a : SurveyArgs) (s : State) : Host.Outcome State Fault Refusal :=
  .next (runCommand State.accepted (cmdGnssSetSurvey h a).1 h (.gnssSetSurvey h a) (cmdGnssSetSurvey h a).2 s)

/-- GNSS_LOAD_SURVEY (R131). -/
def execGnssLoadSurvey (h : CmdHdr) (ant : Nat) (rec : SurveyRec) (s : State) : Host.Outcome State Fault Refusal :=
  .next (runCommand State.accepted (cmdGnssLoadSurvey h ant rec).1 h (.gnssLoadSurvey h ant rec) (cmdGnssLoadSurvey h ant rec).2 s)

/-- GNSS_SET_OSNMA (R136). -/
def execGnssSetOsnma (h : CmdHdr) (root : List Nat) (s : State) : Host.Outcome State Fault Refusal :=
  .next (runCommand State.accepted (cmdGnssSetOsnma h root).1 h (.gnssSetOsnma h root) (cmdGnssSetOsnma h root).2 s)

/-- GNSS_ASSERT_TIME (R137). -/
def execGnssAssertTime (h : CmdHdr) (time : EtwArg) (u : Nat) (s : State) : Host.Outcome State Fault Refusal :=
  .next (runCommand State.accepted (cmdGnssAssertTime h time u).1 h (.gnssAssertTime h time u) (cmdGnssAssertTime h time u).2 s)

/-- GNSS_SET_SPOOF (R139). -/
def execGnssSetSpoof (h : CmdHdr) (a : SpoofArgs) (s : State) : Host.Outcome State Fault Refusal :=
  .next (runCommand State.accepted (cmdGnssSetSpoof h a).1 h (.gnssSetSpoof h a) (cmdGnssSetSpoof h a).2 s)

/-- GNSS_READ_EPOCH (R125). -/
def execGnssReadEpoch (h : CmdHdr) (epoch : Nat) (s : State) : Host.Outcome State Fault Refusal :=
  .next (runCommand State.accepted (cmdGnssReadEpoch h epoch).1 h (.gnssReadEpoch h epoch) (cmdGnssReadEpoch h epoch).2 s)

/-- GNSS_READ_STATUS (R135). -/
def execGnssReadStatus (h : CmdHdr) (s : State) : Host.Outcome State Fault Refusal :=
  .next (runCommand State.accepted (cmdGnssReadStatus h).1 h (.gnssReadStatus h) (cmdGnssReadStatus h).2 s)

/-! ### Hall -/

/-- HALL_SET_WINDOWS (R82). -/
def execHallSetWindows (h : CmdHdr) (asymWindow pairWindow : Nat) (s : State) : Host.Outcome State Fault Refusal :=
  .next (runCommand State.accepted (cmdHallSetWindows h asymWindow pairWindow).1 h (.hallSetWindows h asymWindow pairWindow) (cmdHallSetWindows h asymWindow pairWindow).2 s)

/-- HALL_READ_CURRENT (R77). -/
def execHallReadCurrent (h : CmdHdr) (point : Nat) (s : State) : Host.Outcome State Fault Refusal :=
  .next (runCommand State.accepted (cmdHallReadCurrent h point).1 h (.hallReadCurrent h point) (cmdHallReadCurrent h point).2 s)

/-- HALL_VERIFY_RECORD (R75). -/
def execHallVerifyRecord (h : CmdHdr) (rec : HallRec) (deviceId : Nat) (s : State) : Host.Outcome State Fault Refusal :=
  .next (runCommand State.accepted (cmdHallVerifyRecord h rec deviceId).1 h (.hallVerifyRecord h rec deviceId) (cmdHallVerifyRecord h rec deviceId).2 s)

/-! ### Key -/

/-- KEY_GENERATE (R357). -/
def execKeyGenerate (h : CmdHdr) (a : GenKeyArgs) (s : State) : Host.Outcome State Fault Refusal :=
  .next (runCommand State.accepted (cmdKeyGenerate h a).1 h (.keyGenerate h a) (cmdKeyGenerate h a).2 s)

/-- KEY_IMPORT (R358). -/
def execKeyImport (h : CmdHdr) (parent target : Nat) (blob : KeyBlob) (s : State) : Host.Outcome State Fault Refusal :=
  .next (runCommand State.accepted (cmdKeyImport h parent target blob).1 h (.keyImport h parent target blob) (cmdKeyImport h parent target blob).2 s)

/-- KEY_PROVISION_OWNER (R358). -/
def execKeyProvisionOwner (h : CmdHdr) (blob : KeyBlob) (s : State) : Host.Outcome State Fault Refusal :=
  .next (runCommand State.accepted (cmdKeyProvisionOwner h blob).1 h (.keyProvisionOwner h blob) (cmdKeyProvisionOwner h blob).2 s)

/-- KEY_DESTROY (R355). -/
def execKeyDestroy (h : CmdHdr) (slot confirm : Nat) (s : State) : Host.Outcome State Fault Refusal :=
  .next (runCommand State.accepted { (cmdKeyDestroy h slot confirm).1 with mirrored := (s.keyMirrors slot) } h (.keyDestroy h slot confirm) (cmdKeyDestroy h slot confirm).2 s)

/-- KEY_FREE (R350). -/
def execKeyFree (h : CmdHdr) (slot : Nat) (s : State) : Host.Outcome State Fault Refusal :=
  .next (runCommand State.accepted { (cmdKeyFree h slot).1 with mirrored := (s.keyMirrors slot) } h (.keyFree h slot) (cmdKeyFree h slot).2 s)

/-- KEY_SET_TLS (R361). -/
def execKeySetTls (h : CmdHdr) (signSlot clientAuth anchors chainLen : Nat) (s : State) : Host.Outcome State Fault Refusal :=
  .next (runCommand State.accepted (cmdKeySetTls h signSlot clientAuth anchors chainLen).1 h (.keySetTls h signSlot clientAuth anchors chainLen) (cmdKeySetTls h signSlot clientAuth anchors chainLen).2 s)

/-- KEY_READ_SLOT (R348). -/
def execKeyReadSlot (h : CmdHdr) (slot : Nat) (s : State) : Host.Outcome State Fault Refusal :=
  .next (runCommand State.accepted (cmdKeyReadSlot h slot).1 h (.keyReadSlot h slot) (cmdKeyReadSlot h slot).2 s)

/-- KEY_READ_IDENTITY (R358). -/
def execKeyReadIdentity (h : CmdHdr) (s : State) : Host.Outcome State Fault Refusal :=
  .next (runCommand State.accepted (cmdKeyReadIdentity h).1 h (.keyReadIdentity h) (cmdKeyReadIdentity h).2 s)

/-- KEY_RANDOM (R346). -/
def execKeyRandom (h : CmdHdr) (len : Nat) (s : State) : Host.Outcome State Fault Refusal :=
  .next (runCommand State.accepted (cmdKeyRandom h len).1 h (.keyRandom h len) (cmdKeyRandom h len).2 s)

/-- KEY_READ_STATUS (R370). -/
def execKeyReadStatus (h : CmdHdr) (s : State) : Host.Outcome State Fault Refusal :=
  .next (runCommand State.accepted (cmdKeyReadStatus h).1 h (.keyReadStatus h) (cmdKeyReadStatus h).2 s)

/-! ### La -/

/-- LA_SET_TAP (R242). -/
def execLaSetTap (h : CmdHdr) (tap : Nat) (a : TapArgs) (dTap : Nat) (s : State) : Host.Outcome State Fault Refusal :=
  .next (runCommand State.accepted (cmdLaSetTap h tap a dTap).1 h (.laSetTap h tap a dTap) (cmdLaSetTap h tap a dTap).2 s)

/-- LA_SET_VTAP (R235). -/
def execLaSetVtap (h : CmdHdr) (a : VtapArgs) (s : State) : Host.Outcome State Fault Refusal :=
  .next (runCommand State.accepted (cmdLaSetVtap h a).1 h (.laSetVtap h a) (cmdLaSetVtap h a).2 s)

/-- LA_GRANT_TAP (R230). -/
def execLaGrantTap (h : CmdHdr) (tap bezel grant : Nat) (s : State) : Host.Outcome State Fault Refusal :=
  .next (runCommand State.accepted (cmdLaGrantTap h tap bezel grant).1 h (.laGrantTap h tap bezel grant) (cmdLaGrantTap h tap bezel grant).2 s)

/-- LA_SET_EVENT (R247). -/
def execLaSetEvent (h : CmdHdr) (a : EventArgs) (s : State) : Host.Outcome State Fault Refusal :=
  .next (runCommand State.accepted (cmdLaSetEvent h a).1 h (.laSetEvent h a) (cmdLaSetEvent h a).2 s)

/-- LA_CANCEL_EVENT (R247). -/
def execLaCancelEvent (h : CmdHdr) (slot : Nat) (s : State) : Host.Outcome State Fault Refusal :=
  .next (runCommand State.accepted (cmdLaCancelEvent h slot).1 h (.laCancelEvent h slot) (cmdLaCancelEvent h slot).2 s)

/-- LA_SET_STREAM (R254). -/
def execLaSetStream (h : CmdHdr) (tap n vector base : Nat) (s : State) : Host.Outcome State Fault Refusal :=
  .next (runCommand State.accepted (cmdLaSetStream h tap n vector base).1 h (.laSetStream h tap n vector base) (cmdLaSetStream h tap n vector base).2 s)

/-- LA_ACK_STREAM (R254). -/
def execLaAckStream (h : CmdHdr) (tap bseq : Nat) (s : State) : Host.Outcome State Fault Refusal :=
  .next (runCommand State.accepted (cmdLaAckStream h tap bseq).1 h (.laAckStream h tap bseq) (cmdLaAckStream h tap bseq).2 s)

/-- LA_READ_ESTIMATES (R253). -/
def execLaReadEstimates (h : CmdHdr) (tap kind max : Nat) (s : State) : Host.Outcome State Fault Refusal :=
  .next (runCommand State.accepted (cmdLaReadEstimates h tap kind max).1 h (.laReadEstimates h tap kind max) (cmdLaReadEstimates h tap kind max).2 s)

/-- LA_READ_STATUS (R242). -/
def execLaReadStatus (h : CmdHdr) (tap : Nat) (s : State) : Host.Outcome State Fault Refusal :=
  .next (runCommand State.accepted (cmdLaReadStatus h tap).1 h (.laReadStatus h tap) (cmdLaReadStatus h tap).2 s)

/-! ### Loupe -/

/-- LOUPE_GRANT_BANK (R540). -/
def execLoupeGrantBank (h : CmdHdr) (bank bezel grant : Nat) (s : State) : Host.Outcome State Fault Refusal :=
  .next (runCommand State.accepted (cmdLoupeGrantBank h bank bezel grant).1 h (.loupeGrantBank h bank bezel grant) (cmdLoupeGrantBank h bank bezel grant).2 s)

/-- LOUPE_SET_BANK (R543). -/
def execLoupeSetBank (h : CmdHdr) (bank mode window : Nat) (s : State) : Host.Outcome State Fault Refusal :=
  .next (runCommand State.accepted (cmdLoupeSetBank h bank mode window).1 h (.loupeSetBank h bank mode window) (cmdLoupeSetBank h bank mode window).2 s)

/-- LOUPE_PRESET (R542). -/
def execLoupePreset (h : CmdHdr) (counter irq vector value : Nat) (s : State) : Host.Outcome State Fault Refusal :=
  .next (runCommand State.accepted (cmdLoupePreset h counter irq vector value).1 h (.loupePreset h counter irq vector value) (cmdLoupePreset h counter irq vector value).2 s)

/-- LOUPE_READ (R536). -/
def execLoupeRead (h : CmdHdr) (first count : Nat) (s : State) : Host.Outcome State Fault Refusal :=
  .next (runCommand State.accepted (cmdLoupeRead h first count).1 h (.loupeRead h first count) (cmdLoupeRead h first count).2 s)

/-! ### Out -/

/-- OUT_SET_LOOP (R208). -/
def execOutSetLoop (h : CmdHdr) (loop enable fl bw : Nat) (s : State) : Host.Outcome State Fault Refusal :=
  .next (runCommand State.accepted (cmdOutSetLoop h loop enable fl bw).1 h (.outSetLoop h loop enable fl bw) (cmdOutSetLoop h loop enable fl bw).2 s)

/-- OUT_RESET_LOOP (R209). -/
def execOutResetLoop (h : CmdHdr) (loop : Nat) (s : State) : Host.Outcome State Fault Refusal :=
  .next (runCommand State.accepted (cmdOutResetLoop h loop).1 h (.outResetLoop h loop) (cmdOutResetLoop h loop).2 s)

/-- OUT_SET_OUTPUT (R211). -/
def execOutSetOutput (h : CmdHdr) (a : OutputArgs) (s : State) : Host.Outcome State Fault Refusal :=
  .next (runCommand State.accepted (cmdOutSetOutput h a).1 h (.outSetOutput h a) (cmdOutSetOutput h a).2 s)

/-- OUT_SET_OFFSET (R215). -/
def execOutSetOffset (h : CmdHdr) (loop : Nat) (yo : Int) (slope : Nat) (s : State) : Host.Outcome State Fault Refusal :=
  .next (runCommand State.accepted (cmdOutSetOffset h loop yo slope).1 h (.outSetOffset h loop yo slope) (cmdOutSetOffset h loop yo slope).2 s)

/-- OUT_SET_SSC (R216). -/
def execOutSetSsc (h : CmdHdr) (loop mode depth rate : Nat) (s : State) : Host.Outcome State Fault Refusal :=
  .next (runCommand State.accepted (cmdOutSetSsc h loop mode depth rate).1 h (.outSetSsc h loop mode depth rate) (cmdOutSetSsc h loop mode depth rate).2 s)

/-- OUT_SET_SLEW (R219). -/
def execOutSetSlew (h : CmdHdr) (kind index rate : Nat) (s : State) : Host.Outcome State Fault Refusal :=
  .next (runCommand State.accepted (cmdOutSetSlew h kind index rate).1 h (.outSetSlew h kind index rate) (cmdOutSetSlew h kind index rate).2 s)

/-- OUT_READ_STATUS (R480). -/
def execOutReadStatus (h : CmdHdr) (s : State) : Host.Outcome State Fault Refusal :=
  .next (runCommand State.accepted (cmdOutReadStatus h).1 h (.outReadStatus h) (cmdOutReadStatus h).2 s)

/-! ### Port -/

/-- PORT_SET_MODE (R258). -/
def execPortSetMode (h : CmdHdr) (port mode half an : Nat) (s : State) : Host.Outcome State Fault Refusal :=
  .next (runCommand State.accepted (cmdPortSetMode h port mode half an).1 h (.portSetMode h port mode half an) (cmdPortSetMode h port mode half an).2 s)

/-- PORT_SET_MAC (R263). -/
def execPortSetMac (h : CmdHdr) (port pauseRx maxLen watchdog holdoff : Nat) (s : State) : Host.Outcome State Fault Refusal :=
  .next (runCommand State.accepted (cmdPortSetMac h port pauseRx maxLen watchdog holdoff).1 h (.portSetMac h port pauseRx maxLen watchdog holdoff) (cmdPortSetMac h port pauseRx maxLen watchdog holdoff).2 s)

/-- PORT_SET_EEE (R273). -/
def execPortSetEee (h : CmdHdr) (port enable idle tw : Nat) (s : State) : Host.Outcome State Fault Refusal :=
  .next (runCommand State.accepted (cmdPortSetEee h port enable idle tw).1 h (.portSetEee h port enable idle tw) (cmdPortSetEee h port enable idle tw).2 s)

/-- PORT_CALIBRATE (R282). -/
def execPortCalibrate (h : CmdHdr) (port : Nat) (s : State) : Host.Outcome State Fault Refusal :=
  .next (runCommand State.accepted (cmdPortCalibrate h port).1 h (.portCalibrate h port) (cmdPortCalibrate h port).2 s)

/-- PORT_SET_ASYM (R287). -/
def execPortSetAsym (h : CmdHdr) (port : Nat) (asym : Int) (unc : Nat) (s : State) : Host.Outcome State Fault Refusal :=
  .next (runCommand State.accepted (cmdPortSetAsym h port asym unc).1 h (.portSetAsym h port asym unc) (cmdPortSetAsym h port asym unc).2 s)

/-- PORT_OPEN_RING (R288). -/
def execPortOpenRing (h : CmdHdr) (port dir n vector base : Nat) (s : State) : Host.Outcome State Fault Refusal :=
  .next (runCommand State.accepted (cmdPortOpenRing h port dir n vector base).1 h (.portOpenRing h port dir n vector base) (cmdPortOpenRing h port dir n vector base).2 s)

/-- PORT_CLOSE_RING (R288). -/
def execPortCloseRing (h : CmdHdr) (handle : Nat) (s : State) : Host.Outcome State Fault Refusal :=
  .next (runCommand State.accepted (cmdPortCloseRing h handle).1 h (.portCloseRing h handle) (cmdPortCloseRing h handle).2 s)

/-- PORT_SET_FILTER (R289). -/
def execPortSetFilter (h : CmdHdr) (port index kind value handle : Nat) (s : State) : Host.Outcome State Fault Refusal :=
  .next (runCommand State.accepted (cmdPortSetFilter h port index kind value handle).1 h (.portSetFilter h port index kind value handle) (cmdPortSetFilter h port index kind value handle).2 s)

/-- PORT_READ_STATUS (R260). -/
def execPortReadStatus (h : CmdHdr) (port : Nat) (s : State) : Host.Outcome State Fault Refusal :=
  .next (runCommand State.accepted (cmdPortReadStatus h port).1 h (.portReadStatus h port) (cmdPortReadStatus h port).2 s)

/-! ### Ref -/

/-- REF_SET_PPS (R88). -/
def execRefSetPps (h : CmdHdr) (a : PpsArgs) (s : State) : Host.Outcome State Fault Refusal :=
  .next (runCommand State.accepted (cmdRefSetPps h a).1 h (.refSetPps h a) (cmdRefSetPps h a).2 s)

/-- REF_SET_CLOCK (R91). -/
def execRefSetClock (h : CmdHdr) (a : ClockArgs) (s : State) : Host.Outcome State Fault Refusal :=
  .next (runCommand State.accepted (cmdRefSetClock h a).1 h (.refSetClock h a) (cmdRefSetClock h a).2 s)

/-- REF_SET_TIMECODE (R93). -/
def execRefSetTimecode (h : CmdHdr) (a : TimecodeArgs) (s : State) : Host.Outcome State Fault Refusal :=
  .next (runCommand State.accepted (cmdRefSetTimecode h a).1 h (.refSetTimecode h a) (cmdRefSetTimecode h a).2 s)

/-- REF_SET_PENDANT (R606). -/
def execRefSetPendant (h : CmdHdr) (a : PendantArgs) (s : State) : Host.Outcome State Fault Refusal :=
  .next (runCommand State.accepted (cmdRefSetPendant h a).1 h (.refSetPendant h a) (cmdRefSetPendant h a).2 s)

/-- REF_SET_NREF (R97). -/
def execRefSetNref (h : CmdHdr) (a : NrefArgs) (s : State) : Host.Outcome State Fault Refusal :=
  .next (runCommand State.accepted (cmdRefSetNref h a).1 h (.refSetNref h a) (cmdRefSetNref h a).2 s)

/-- REF_CLEAR_FAULT (R605). -/
def execRefClearFault (h : CmdHdr) (ref : Nat) (s : State) : Host.Outcome State Fault Refusal :=
  .next (runCommand State.accepted (cmdRefClearFault h ref).1 h (.refClearFault h ref) (cmdRefClearFault h ref).2 s)

/-- REF_READ_STATUS (R86). -/
def execRefReadStatus (h : CmdHdr) (ref : Nat) (s : State) : Host.Outcome State Fault Refusal :=
  .next (runCommand State.accepted (cmdRefReadStatus h ref).1 h (.refReadStatus h ref) (cmdRefReadStatus h ref).2 s)

/-! ### Sta -/

/-- STA_SET_RESERVE (R391). -/
def execStaSetReserve (h : CmdHdr) (bezel beats : Nat) (s : State) : Host.Outcome State Fault Refusal :=
  .next (runCommand State.accepted (cmdStaSetReserve h bezel beats).1 h (.staSetReserve h bezel beats) (cmdStaSetReserve h bezel beats).2 s)

/-- STA_SET_WEIGHT (R391). -/
def execStaSetWeight (h : CmdHdr) (bezel weight : Nat) (s : State) : Host.Outcome State Fault Refusal :=
  .next (runCommand State.accepted (cmdStaSetWeight h bezel weight).1 h (.staSetWeight h bezel weight) (cmdStaSetWeight h bezel weight).2 s)

/-- STA_COMMIT (R392). -/
def execStaCommit (h : CmdHdr) (s : State) : Host.Outcome State Fault Refusal :=
  .next (runCommand State.accepted (cmdStaCommit h).1 h (.staCommit h) (cmdStaCommit h).2 s)

/-- STA_READ_TABLE (R387). -/
def execStaReadTable (h : CmdHdr) (s : State) : Host.Outcome State Fault Refusal :=
  .next (runCommand State.accepted (cmdStaReadTable h).1 h (.staReadTable h) (cmdStaReadTable h).2 s)

/-! ### StateObj -/

/-- STATE_READ_OBJECT (R47). -/
def execStateReadObject (h : CmdHdr) (cls index : Nat) (s : State) : Host.Outcome State Fault Refusal :=
  .next (runCommand State.accepted (cmdStateReadObject h cls index).1 h (.stateReadObject h cls index) (cmdStateReadObject h cls index).2 s)

/-- STATE_LIST_CLASSES (R476). -/
def execStateListClasses (h : CmdHdr) (s : State) : Host.Outcome State Fault Refusal :=
  .next (runCommand State.accepted (cmdStateListClasses h).1 h (.stateListClasses h) (cmdStateListClasses h).2 s)

/-! ### Svc -/

/-- SVC_SET_SERVICE (R296). -/
def execSvcSetService (h : CmdHdr) (a : ServiceArgs) (s : State) : Host.Outcome State Fault Refusal :=
  .next (runCommand State.accepted (cmdSvcSetService h a).1 h (.svcSetService h a) (cmdSvcSetService h a).2 s)

/-- SVC_SET_ADDRESS (R299). -/
def execSvcSetAddress (h : CmdHdr) (port index family vlan pcp address : Nat) (s : State) : Host.Outcome State Fault Refusal :=
  .next (runCommand State.accepted (cmdSvcSetAddress h port index family vlan pcp address).1 h (.svcSetAddress h port index family vlan pcp address) (cmdSvcSetAddress h port index family vlan pcp address).2 s)

/-- SVC_SET_LAUNCH (R313). -/
def execSvcSetLaunch (h : CmdHdr) (port margin : Nat) (s : State) : Host.Outcome State Fault Refusal :=
  .next (runCommand State.accepted (cmdSvcSetLaunch h port margin).1 h (.svcSetLaunch h port margin) (cmdSvcSetLaunch h port margin).2 s)

/-- SVC_CANCEL_GRANT (R320). -/
def execSvcCancelGrant (h : CmdHdr) (entry : Nat) (s : State) : Host.Outcome State Fault Refusal :=
  .next (runCommand State.accepted (cmdSvcCancelGrant h entry).1 h (.svcCancelGrant h entry) (cmdSvcCancelGrant h entry).2 s)

/-- SVC_SET_SEAL (R322). -/
def execSvcSetSeal (h : CmdHdr) (lifetime : Nat) (s : State) : Host.Outcome State Fault Refusal :=
  .next (runCommand State.accepted (cmdSvcSetSeal h lifetime).1 h (.svcSetSeal h lifetime) (cmdSvcSetSeal h lifetime).2 s)

/-- SVC_SET_PRP (R325). -/
def execSvcSetPrp (h : CmdHdr) (portA portB join forget : Nat) (s : State) : Host.Outcome State Fault Refusal :=
  .next (runCommand State.accepted (cmdSvcSetPrp h portA portB join forget).1 h (.svcSetPrp h portA portB join forget) (cmdSvcSetPrp h portA portB join forget).2 s)

/-- SVC_READ_STATUS (R296). -/
def execSvcReadStatus (h : CmdHdr) (service : Nat) (s : State) : Host.Outcome State Fault Refusal :=
  .next (runCommand State.accepted (cmdSvcReadStatus h service).1 h (.svcReadStatus h service) (cmdSvcReadStatus h service).2 s)

/-- SVC_READ_GRANT (R318). -/
def execSvcReadGrant (h : CmdHdr) (entry : Nat) (s : State) : Host.Outcome State Fault Refusal :=
  .next (runCommand State.accepted (cmdSvcReadGrant h entry).1 h (.svcReadGrant h entry) (cmdSvcReadGrant h entry).2 s)

/-! ### Sys -/

/-- SYS_RESET (R476). -/
def execSysReset (h : CmdHdr) (confirm : Nat) (s : State) : Host.Outcome State Fault Refusal :=
  .next (runCommand State.accepted (cmdSysReset h confirm).1 h (.sysReset h confirm) (cmdSysReset h confirm).2 s)

/-- SYS_SEAL (R562). -/
def execSysSeal (h : CmdHdr) (confirm code : Nat) (s : State) : Host.Outcome State Fault Refusal :=
  .next (runCommand State.accepted (cmdSysSeal h confirm code).1 h (.sysSeal h confirm code) (cmdSysSeal h confirm code).2 s)

/-- SYS_READ_INFO (R476). -/
def execSysReadInfo (h : CmdHdr) (s : State) : Host.Outcome State Fault Refusal :=
  .next (runCommand State.accepted (cmdSysReadInfo h).1 h (.sysReadInfo h) (cmdSysReadInfo h).2 s)

/-- SYS_READ_HEALTH (R530). -/
def execSysReadHealth (h : CmdHdr) (s : State) : Host.Outcome State Fault Refusal :=
  .next (runCommand State.accepted (cmdSysReadHealth h).1 h (.sysReadHealth h) (cmdSysReadHealth h).2 s)

/-- SYS_READ_SENSORS (R493). -/
def execSysReadSensors (h : CmdHdr) (s : State) : Host.Outcome State Fault Refusal :=
  .next (runCommand State.accepted (cmdSysReadSensors h).1 h (.sysReadSensors h) (cmdSysReadSensors h).2 s)

/-- FW_LOAD_IMAGE (R507). -/
def execFwLoadImage (h : CmdHdr) (set : Nat) (blob : FwBlob) (s : State) : Host.Outcome State Fault Refusal :=
  .next (runCommand State.accepted (cmdFwLoadImage h set blob).1 h (.fwLoadImage h set blob) (cmdFwLoadImage h set blob).2 s)

/-- FW_ACTIVATE (R507). -/
def execFwActivate (h : CmdHdr) (set whenCode : Nat) (s : State) : Host.Outcome State Fault Refusal :=
  .next (runCommand State.accepted (cmdFwActivate h set whenCode).1 h (.fwActivate h set whenCode) (cmdFwActivate h set whenCode).2 s)

/-- FW_READ_SETS (R507). -/
def execFwReadSets (h : CmdHdr) (s : State) : Host.Outcome State Fault Refusal :=
  .next (runCommand State.accepted (cmdFwReadSets h).1 h (.fwReadSets h) (cmdFwReadSets h).2 s)

/-- TXN_BEGIN (R463). -/
def execTxnBegin (h : CmdHdr) (s : State) : Host.Outcome State Fault Refusal :=
  .next (runCommand State.accepted (cmdTxnBegin h).1 h (.txnBegin h) (cmdTxnBegin h).2 s)

/-- TXN_ABORT (R464). -/
def execTxnAbort (h : CmdHdr) (txnId : Nat) (s : State) : Host.Outcome State Fault Refusal :=
  .next (runCommand State.accepted (cmdTxnAbort h txnId).1 h (.txnAbort h txnId) (cmdTxnAbort h txnId).2 s)

/-- TXN_ACQUIRE_LOCK (R461). -/
def execTxnAcquireLock (h : CmdHdr) (sem : Nat) (s : State) : Host.Outcome State Fault Refusal :=
  .next (runCommand State.accepted (cmdTxnAcquireLock h sem).1 h (.txnAcquireLock h sem) (cmdTxnAcquireLock h sem).2 s)

/-- TXN_RELEASE_LOCK (R461). -/
def execTxnReleaseLock (h : CmdHdr) (sem gen : Nat) (s : State) : Host.Outcome State Fault Refusal :=
  .next (runCommand State.accepted (cmdTxnReleaseLock h sem gen).1 h (.txnReleaseLock h sem gen) (cmdTxnReleaseLock h sem gen).2 s)

/-- FAULT_CLEAR (R520). -/
def execFaultClear (h : CmdHdr) (word : Nat) (mask : BitVec 32) (s : State) : Host.Outcome State Fault Refusal :=
  .next (runCommand State.accepted (cmdFaultClear h word mask).1 h (.faultClear h word mask) (cmdFaultClear h word mask).2 s)

/-- FAULT_READ (R520). -/
def execFaultRead (h : CmdHdr) (s : State) : Host.Outcome State Fault Refusal :=
  .next (runCommand State.accepted (cmdFaultRead h).1 h (.faultRead h) (cmdFaultRead h).2 s)

/-- LOG_READ (R505). -/
def execLogRead (h : CmdHdr) (first max : Nat) (s : State) : Host.Outcome State Fault Refusal :=
  .next (runCommand State.accepted (cmdLogRead h first max).1 h (.logRead h first max) (cmdLogRead h first max).2 s)

/-- LOG_READ_STATUS (R505). -/
def execLogReadStatus (h : CmdHdr) (s : State) : Host.Outcome State Fault Refusal :=
  .next (runCommand State.accepted (cmdLogReadStatus h).1 h (.logReadStatus h) (cmdLogReadStatus h).2 s)

/-- NV_RESET_CONFIG (R503). -/
def execNvResetConfig (h : CmdHdr) (confirm : Nat) (s : State) : Host.Outcome State Fault Refusal :=
  .next (runCommand State.accepted (cmdNvResetConfig h confirm).1 h (.nvResetConfig h confirm) (cmdNvResetConfig h confirm).2 s)

/-- NV_READ_STATUS (R502). -/
def execNvReadStatus (h : CmdHdr) (s : State) : Host.Outcome State Fault Refusal :=
  .next (runCommand State.accepted (cmdNvReadStatus h).1 h (.nvReadStatus h) (cmdNvReadStatus h).2 s)

/-! ### Tm -/

/-- TM_SET_SUBSCRIBER_RULE (R373). -/
def execTmSetSubscriberRule (h : CmdHdr) (index kind pfxLen subscriber address : Nat) (s : State) : Host.Outcome State Fault Refusal :=
  .next (runCommand State.accepted (cmdTmSetSubscriberRule h index kind pfxLen subscriber address).1 h (.tmSetSubscriberRule h index kind pfxLen subscriber address) (cmdTmSetSubscriberRule h index kind pfxLen subscriber address).2 s)

/-- TM_SET_METER (R375). -/
def execTmSetMeter (h : CmdHdr) (a : MeterArgs) (s : State) : Host.Outcome State Fault Refusal :=
  .next (runCommand State.accepted (cmdTmSetMeter h a).1 h (.tmSetMeter h a) (cmdTmSetMeter h a).2 s)

/-- TM_SET_BUFFER (R379). -/
def execTmSetBuffer (h : CmdHdr) (bezel reserve cap : Nat) (s : State) : Host.Outcome State Fault Refusal :=
  .next (runCommand State.accepted (cmdTmSetBuffer h bezel reserve cap).1 h (.tmSetBuffer h bezel reserve cap) (cmdTmSetBuffer h bezel reserve cap).2 s)

/-- TM_SET_QUEUE (R382). -/
def execTmSetQueue (h : CmdHdr) (port cls limit yellow : Nat) (s : State) : Host.Outcome State Fault Refusal :=
  .next (runCommand State.accepted (cmdTmSetQueue h port cls limit yellow).1 h (.tmSetQueue h port cls limit yellow) (cmdTmSetQueue h port cls limit yellow).2 s)

/-- TM_SET_SHAPER (R383). -/
def execTmSetShaper (h : CmdHdr) (kind index rate high : Nat) (low : Int) (s : State) : Host.Outcome State Fault Refusal :=
  .next (runCommand State.accepted (cmdTmSetShaper h kind index rate high low).1 h (.tmSetShaper h kind index rate high low) (cmdTmSetShaper h kind index rate high low).2 s)

/-- TM_SET_SAMPLE (R386). -/
def execTmSetSample (h : CmdHdr) (port period window : Nat) (s : State) : Host.Outcome State Fault Refusal :=
  .next (runCommand State.accepted (cmdTmSetSample h port period window).1 h (.tmSetSample h port period window) (cmdTmSetSample h port period window).2 s)

/-- TM_READ_QUEUE (R386). -/
def execTmReadQueue (h : CmdHdr) (kind index : Nat) (s : State) : Host.Outcome State Fault Refusal :=
  .next (runCommand State.accepted (cmdTmReadQueue h kind index).1 h (.tmReadQueue h kind index) (cmdTmReadQueue h kind index).2 s)

/-- TM_AUDIT (R395). -/
def execTmAudit (h : CmdHdr) (s : State) : Host.Outcome State Fault Refusal :=
  .next (runCommand State.accepted (cmdTmAudit h).1 h (.tmAudit h) (cmdTmAudit h).2 s)

end Sys2Proof.Machine
end

