-- ==== Sys2Proof/Machine/Steps.lean ====
section
/-! DEFINITION. The step cycle (R33, R69, R88, R90, R124, R222, R251, R331). -/

namespace Sys2Proof.Machine

/-- A time-bearing frame built and not yet transmitted is discarded and counted (R69, R331). -/
def State.stepDrop (p : Nat) (s : State) (f : TxFrame) : State :=
  (((s.countBezel f.bezel 25).dropFrame f).followShapers p f).backFrame f 5

/-- A port's frames that bear time and are not yet transmitted go, and so do the messages that were still to be built from a stamp
before the step (R69, R331). -/
def State.stepPort (s : State) (p : Nat) : State :=
  let s1 := s.purge p (fun f => f.kind.timed) fun f t => (t.countBezel f.bezel 25).backFrame f 5
  let x := s1.port p
  let back := match x.backoff with | some e => if e.1.kind.timed then [e.1] else [] | none => []
  let s2 := s1.onPort p fun (y : PortSt) => { y with
    launches := y.launches.filter fun f => !f.kind.timed
    backoff := match y.backoff with | some e => if e.1.kind.timed then none else some e | none => none
    follow := [] }
  let s3 := (x.launches.filter (fun f => f.kind.timed) ++ back).foldl (State.stepDrop p) s2
  x.follow.foldl (fun (t : State) e => t.countBezel e.1.bezel 25) s3

/-- Responses of the TSE that wait for a position, exchanges whose response is not built or bears time, and time requests not yet taken
up go (R331). -/
def State.stepTse (s : State) : State :=
  let s1 := s.tse.waits.foldl (fun (t : State) q => q.2.foldl (fun (u : State) e => u.stepDrop e.1 e.2) t) s
  let late := s1.tse.works.filter fun (w : Work) => match w.resp with
    | none => decide (w.req ≠ .originate)
    | some f => f.kind.timed
  -- an NTP response that waits for its authenticator is counted where it waits or has its position
  let placed : Work → Bool := fun w => match w.resp with | some f => decide (f.kind = .ntp) | none => false
  let s2 := late.foldl (fun (t : State) w => (if placed w = true then t else t.countBezel w.bezel 25).dropWork w) s1
  let asks := fun (e : TseIn) => isPtp e.f || isNtp e.f
  let s3 := s2.tse.inputs.foldl (fun (t : State) q => (q.2.filter asks).foldl (fun (u : State) e =>
    ((u.countBezel e.bezel 25).freeRx e).slotWasted e.bezel) t) s2
  s3.onTse fun x => { x with
    inputs := x.inputs.mapAll fun _ l => l.filter fun (e : TseIn) => !asks e
    waits := [] }

/-- The step is due: the counter has reached the top of its second (R69). -/
def State.stepDue (s : State) : Option PendStep :=
  match s.tc.step with
  | none => none
  | some p => if s.tc.mtc.running && decide (p.due * unitsPerSec ≤ s.tc.mtc.units) then some p else none

/-- The offset of a step, 2^-20 ns. -/
def PendStep.units (p : PendStep) : Int := (p.sec * 1000000000 + p.ns) * 1048576 + p.frac

/-- The counter at the start of the step cycle (R69): the offset is added, the slew cancelled, the pending step and the wait for an initial set
end (R67), and GEN counts; a step passes no millisecond instant (R601). -/
def TcSt.stepped (p : PendStep) (c : TcSt) : TcSt :=
  { c with
    mtc := c.mtc.jump (c.mtc.add p.sec p.ns p.frac)
    gen := (c.gen + 1) % 65536, step := none
    initPending := false, initDone := c.initDone || c.initPending, initOffset := 0 }

/-- STEP_CYCLE (R69): the offset is added at its start, so that a stamp latched in it has post-step time (R70), and then the cycle runs from the
post-step value, with the millisecond instants it passes (R601). -/
def onStepCycle (s : State) : State :=
  match s.stepDue with
  | none => s
  | some p =>
    let d := p.units
    let ps : Rat := (d : Rat) * 1000 / 1048576
    let s0 := outKeys.foldl State.offsetEffect s
    let s1 := ((s0.onTc fun c => c.stepped p).pushHist).idleCycle
    let s2 := ((s1.onHall fun h => { h with withdrawn := true }).hallDueAll).stepFrame d
    let s4 := s2.onGnss fun g => { g with stepAt := some p.due }
    let s5 := (s4.ports.ports.map (·.1)).foldl State.stepPort s4.stepTse
    (outKeys.foldl (fun (t : State) k => if (t.pin k).next.isSome then t.onPin k fun o => o.putOff (t.topAfter 2000000) else t) s5).stepPins ps

/-- STEP_CYCLE (R69). -/
def execStepCycle (s : State) : Host.Outcome State Fault Refusal :=
  .next (if s.alive then onStepCycle s else s)


end Sys2Proof.Machine
end

