-- ==== Sys2Proof/Machine/Txn.lean ====
section
/-! DEFINITION. Committing a transaction (R464) and mirrored changes taking effect (R433). -/

namespace Sys2Proof.Machine

/-- The staged commands are checked again in order, each against the state that those before it leave (R207, R464); the first that fails is given
with its index. -/
def State.firstBad (s : State) (l : List (Nat × Instr)) : Option (Nat × Judged) :=
  match l with
  | [] => none
  | x :: r => match cmdOf x.2 s with
    | none => s.firstBad r
    | some (h, m, b) =>
      let j := verdict m h b false s
      if j.status = .ok then (b.act s).st.firstBad r else some (x.1, j)

/-- The attributes and checks of `txn.commit` (R464). -/
def cmdTxnCommit (h : CmdHdr) (txnId : Nat) : CmdMeta × CmdBody :=
  ({ op := 0x0402, plen := 2, who := .any },
   { argOk := fun _ => true
     check := fun s => judge [(!txnNamed h txnId s, .state)]
     act := fun s => cmdOut s })

/-- `txn.commit` once its own checks pass: the transaction closes; either every staged command still passes and all take effect, or none does
and the index of the first that fails is returned (R464). In a formed pair the whole set waits as one change (R433). -/
def State.commit (s : State) (h : CmdHdr) (seq : Nat) (t : Txn) : State :=
  let s1 := s.onQueue h.fn h.queue fun q => { q with txn := none }
  match (if s1.clasp.st = .active then s1.accepted else s1).firstBad (zipIdx t.staged) with
  | some (n, j) =>
    let s2 := complete h.fn h.queue seq h.tag j.status false [fld 8 n] [] s1
    (match j.freeze with | none => s2 | some row => s2.freezeFn h.fn row ((t.staged[n]?.map fun i => (objsOf i).headD 0).getD 0))
  | none =>
    if s1.anyMirrored t.staged && s1.clasp.st = .active then
      mirrorItem h true t.staged seq { st := s1.accepted.applySet t.staged } s1
    else complete h.fn h.queue seq h.tag .ok false [] [] (s1.applySet t.staged)

/-- TXN_COMMIT (R464). -/
def execTxnCommit (h : CmdHdr) (txnId : Nat) (s : State) : Host.Outcome State Fault Refusal :=
  .next (match (if h.lane.isSome then none else takeUp (cmdTxnCommit h txnId).1 h s) with
    | none => s
    | some (s1, seq) =>
      match ((s1.fn h.fn).q h.queue).txn with
      | some t =>
        if (verdict (cmdTxnCommit h txnId).1 h (cmdTxnCommit h txnId).2 false s1).status = .ok then s1.commit h seq t
        else runChecked State.accepted (cmdTxnCommit h txnId).1 h (.txnCommit h txnId) (cmdTxnCommit h txnId).2 false seq s1
      | none => runChecked State.accepted (cmdTxnCommit h txnId).1 h (.txnCommit h txnId) (cmdTxnCommit h txnId).2 false seq s1)

/-- An acknowledged change is at least 2 ms old (R433). -/
def State.mirrorDue (s : State) (x : MirrorItem) : Bool := x.acked && decide (x.ackAt + 2000000 ≤ s.upNs)

/-- Acknowledged changes take effect at the update, in the order of acceptance (R433). -/
def onMirroredChangeEffect (s : State) : State :=
  (s.clasp.mirror.filter s.mirrorDue).foldl State.applyMirrored
    (s.onClasp fun c => { c with mirror := c.mirror.filter fun x => !s.mirrorDue x })

/-- MIRRORED_CHANGE_EFFECT (R433). -/
def execMirroredChangeEffect (s : State) : Host.Outcome State Fault Refusal :=
  .next (if s.alive then onMirroredChangeEffect s else s)


end Sys2Proof.Machine
end

