-- ==== Sys2Proof/Machine/Dispatch.lean ====
section
/-! DEFINITION. The arms of exec: one per command, each one direct call of that command's meaning. -/

namespace Sys2Proof.Machine

def exec (i : Instr) (s : State) : Host.Outcome State Fault Refusal :=
  match i with
  | .sysReset h confirm => Sys2Proof.Machine.execSysReset h confirm s
  | .sysSeal h confirm code => Sys2Proof.Machine.execSysSeal h confirm code s
  | .sysReadInfo h => Sys2Proof.Machine.execSysReadInfo h s
  | .sysReadHealth h => Sys2Proof.Machine.execSysReadHealth h s
  | .sysReadSensors h => Sys2Proof.Machine.execSysReadSensors h s
  | .fwLoadImage h set blob => Sys2Proof.Machine.execFwLoadImage h set blob s
  | .fwActivate h set whenCode => Sys2Proof.Machine.execFwActivate h set whenCode s
  | .fwReadSets h => Sys2Proof.Machine.execFwReadSets h s
  | .stateReadObject h cls index => Sys2Proof.Machine.execStateReadObject h cls index s
  | .stateListClasses h => Sys2Proof.Machine.execStateListClasses h s
  | .txnBegin h => Sys2Proof.Machine.execTxnBegin h s
  | .txnCommit h txnId => Sys2Proof.Machine.execTxnCommit h txnId s
  | .txnAbort h txnId => Sys2Proof.Machine.execTxnAbort h txnId s
  | .txnAcquireLock h sem => Sys2Proof.Machine.execTxnAcquireLock h sem s
  | .txnReleaseLock h sem gen => Sys2Proof.Machine.execTxnReleaseLock h sem gen s
  | .refSetPps h a => Sys2Proof.Machine.execRefSetPps h a s
  | .refSetClock h a => Sys2Proof.Machine.execRefSetClock h a s
  | .refSetTimecode h a => Sys2Proof.Machine.execRefSetTimecode h a s
  | .refSetPendant h a => Sys2Proof.Machine.execRefSetPendant h a s
  | .refSetNref h a => Sys2Proof.Machine.execRefSetNref h a s
  | .refClearFault h ref => Sys2Proof.Machine.execRefClearFault h ref s
  | .refReadStatus h ref => Sys2Proof.Machine.execRefReadStatus h ref s
  | .gnssSetStream h a => Sys2Proof.Machine.execGnssSetStream h a s
  | .gnssSetSignals h systems l1c refSys mask => Sys2Proof.Machine.execGnssSetSignals h systems l1c refSys mask s
  | .gnssStart h kind => Sys2Proof.Machine.execGnssStart h kind s
  | .gnssSetEpoch h rate => Sys2Proof.Machine.execGnssSetEpoch h rate s
  | .gnssSetCable h stream d u => Sys2Proof.Machine.execGnssSetCable h stream d u s
  | .gnssSetSurvey h a => Sys2Proof.Machine.execGnssSetSurvey h a s
  | .gnssLoadSurvey h ant rec => Sys2Proof.Machine.execGnssLoadSurvey h ant rec s
  | .gnssSetOsnma h root => Sys2Proof.Machine.execGnssSetOsnma h root s
  | .gnssAssertTime h time u => Sys2Proof.Machine.execGnssAssertTime h time u s
  | .gnssSetSpoof h a => Sys2Proof.Machine.execGnssSetSpoof h a s
  | .gnssReadEpoch h epoch => Sys2Proof.Machine.execGnssReadEpoch h epoch s
  | .gnssReadStatus h => Sys2Proof.Machine.execGnssReadStatus h s
  | .ensSetLeapTable h force count entries => Sys2Proof.Machine.execEnsSetLeapTable h force count entries s
  | .ensSetLocalOffset h count offset entries => Sys2Proof.Machine.execEnsSetLocalOffset h count offset entries s
  | .ensSetAcquire h a => Sys2Proof.Machine.execEnsSetAcquire h a s
  | .ensForceState h force => Sys2Proof.Machine.execEnsForceState h force s
  | .ensReleaseLost h => Sys2Proof.Machine.execEnsReleaseLost h s
  | .ensStepTime h sec ns frac => Sys2Proof.Machine.execEnsStepTime h sec ns frac s
  | .ensSetSlew h rate => Sys2Proof.Machine.execEnsSetSlew h rate s
  | .ensSetMember h ref ceiling mode => Sys2Proof.Machine.execEnsSetMember h ref ceiling mode s
  | .ensSetBandwidth h final => Sys2Proof.Machine.execEnsSetBandwidth h final s
  | .ensSetHoldover h horizon ageLimit => Sys2Proof.Machine.execEnsSetHoldover h horizon ageLimit s
  | .ensSetDrift h enable => Sys2Proof.Machine.execEnsSetDrift h enable s
  | .ensSetSteer h pend policy tau interval => Sys2Proof.Machine.execEnsSetSteer h pend policy tau interval s
  | .ensResetModel h ref => Sys2Proof.Machine.execEnsResetModel h ref s
  | .ensReadStatus h => Sys2Proof.Machine.execEnsReadStatus h s
  | .ensReadModel h ref => Sys2Proof.Machine.execEnsReadModel h ref s
  | .hallSetWindows h asymWindow pairWindow => Sys2Proof.Machine.execHallSetWindows h asymWindow pairWindow s
  | .hallReadCurrent h point => Sys2Proof.Machine.execHallReadCurrent h point s
  | .hallVerifyRecord h rec deviceId => Sys2Proof.Machine.execHallVerifyRecord h rec deviceId s
  | .outSetLoop h loop enable fl bw => Sys2Proof.Machine.execOutSetLoop h loop enable fl bw s
  | .outResetLoop h loop => Sys2Proof.Machine.execOutResetLoop h loop s
  | .outSetOutput h a => Sys2Proof.Machine.execOutSetOutput h a s
  | .outSetOffset h loop yo slope => Sys2Proof.Machine.execOutSetOffset h loop yo slope s
  | .outSetSsc h loop mode depth rate => Sys2Proof.Machine.execOutSetSsc h loop mode depth rate s
  | .outSetSlew h kind index rate => Sys2Proof.Machine.execOutSetSlew h kind index rate s
  | .outReadStatus h => Sys2Proof.Machine.execOutReadStatus h s
  | .filSetChannel h ch enable edge n => Sys2Proof.Machine.execFilSetChannel h ch enable edge n s
  | .filSetLoopback h ch kind index divider => Sys2Proof.Machine.execFilSetLoopback h ch kind index divider s
  | .filGrantChannel h ch bezel grant => Sys2Proof.Machine.execFilGrantChannel h ch bezel grant s
  | .filSetRing h ring mode allot => Sys2Proof.Machine.execFilSetRing h ring mode allot s
  | .filSetDiff h a => Sys2Proof.Machine.execFilSetDiff h a s
  | .filSetStream h a => Sys2Proof.Machine.execFilSetStream h a s
  | .filAckStream h ch readIndex => Sys2Proof.Machine.execFilAckStream h ch readIndex s
  | .filReadStamps h ch max => Sys2Proof.Machine.execFilReadStamps h ch max s
  | .filReadDiff h de => Sys2Proof.Machine.execFilReadDiff h de s
  | .filReadStatus h => Sys2Proof.Machine.execFilReadStatus h s
  | .laSetTap h tap a dTap => Sys2Proof.Machine.execLaSetTap h tap a dTap s
  | .laSetVtap h a => Sys2Proof.Machine.execLaSetVtap h a s
  | .laGrantTap h tap bezel grant => Sys2Proof.Machine.execLaGrantTap h tap bezel grant s
  | .laSetEvent h a => Sys2Proof.Machine.execLaSetEvent h a s
  | .laCancelEvent h slot => Sys2Proof.Machine.execLaCancelEvent h slot s
  | .laSetStream h tap n vector base => Sys2Proof.Machine.execLaSetStream h tap n vector base s
  | .laAckStream h tap bseq => Sys2Proof.Machine.execLaAckStream h tap bseq s
  | .laReadEstimates h tap kind max => Sys2Proof.Machine.execLaReadEstimates h tap kind max s
  | .laReadStatus h tap => Sys2Proof.Machine.execLaReadStatus h tap s
  | .portSetMode h port mode half an => Sys2Proof.Machine.execPortSetMode h port mode half an s
  | .portSetMac h port pauseRx maxLen watchdog holdoff => Sys2Proof.Machine.execPortSetMac h port pauseRx maxLen watchdog holdoff s
  | .portSetEee h port enable idle tw => Sys2Proof.Machine.execPortSetEee h port enable idle tw s
  | .portCalibrate h port => Sys2Proof.Machine.execPortCalibrate h port s
  | .portSetAsym h port asym unc => Sys2Proof.Machine.execPortSetAsym h port asym unc s
  | .portOpenRing h port dir n vector base => Sys2Proof.Machine.execPortOpenRing h port dir n vector base s
  | .portCloseRing h handle => Sys2Proof.Machine.execPortCloseRing h handle s
  | .portSetFilter h port index kind value handle => Sys2Proof.Machine.execPortSetFilter h port index kind value handle s
  | .portReadStatus h port => Sys2Proof.Machine.execPortReadStatus h port s
  | .svcSetService h a => Sys2Proof.Machine.execSvcSetService h a s
  | .svcSetAddress h port index family vlan pcp address => Sys2Proof.Machine.execSvcSetAddress h port index family vlan pcp address s
  | .svcSetLaunch h port margin => Sys2Proof.Machine.execSvcSetLaunch h port margin s
  | .svcCancelGrant h entry => Sys2Proof.Machine.execSvcCancelGrant h entry s
  | .svcSetSeal h lifetime => Sys2Proof.Machine.execSvcSetSeal h lifetime s
  | .svcSetPrp h portA portB join forget => Sys2Proof.Machine.execSvcSetPrp h portA portB join forget s
  | .svcReadStatus h service => Sys2Proof.Machine.execSvcReadStatus h service s
  | .svcReadGrant h entry => Sys2Proof.Machine.execSvcReadGrant h entry s
  | .keyGenerate h a => Sys2Proof.Machine.execKeyGenerate h a s
  | .keyImport h parent target blob => Sys2Proof.Machine.execKeyImport h parent target blob s
  | .keyProvisionOwner h blob => Sys2Proof.Machine.execKeyProvisionOwner h blob s
  | .keyDestroy h slot confirm => Sys2Proof.Machine.execKeyDestroy h slot confirm s
  | .keyFree h slot => Sys2Proof.Machine.execKeyFree h slot s
  | .keySetTls h signSlot clientAuth anchors chainLen => Sys2Proof.Machine.execKeySetTls h signSlot clientAuth anchors chainLen s
  | .keyReadSlot h slot => Sys2Proof.Machine.execKeyReadSlot h slot s
  | .keyReadIdentity h => Sys2Proof.Machine.execKeyReadIdentity h s
  | .keyRandom h len => Sys2Proof.Machine.execKeyRandom h len s
  | .keyReadStatus h => Sys2Proof.Machine.execKeyReadStatus h s
  | .bezelCreate h bezel subBase subCount => Sys2Proof.Machine.execBezelCreate h bezel subBase subCount s
  | .bezelDelete h bezel => Sys2Proof.Machine.execBezelDelete h bezel s
  | .bezelAssignPort h port bezel => Sys2Proof.Machine.execBezelAssignPort h port bezel s
  | .bezelSetQuota h bezel grants poolSlots rules subBase subCount => Sys2Proof.Machine.execBezelSetQuota h bezel grants poolSlots rules subBase subCount s
  | .bezelSetDmaWindow h bezel index base size => Sys2Proof.Machine.execBezelSetDmaWindow h bezel index base size s
  | .bezelSetFlags h bezel flags => Sys2Proof.Machine.execBezelSetFlags h bezel flags s
  | .bezelRelease h bezel kind index => Sys2Proof.Machine.execBezelRelease h bezel kind index s
  | .bezelReadStatus h bezel => Sys2Proof.Machine.execBezelReadStatus h bezel s
  | .tmSetSubscriberRule h index kind pfxLen subscriber address => Sys2Proof.Machine.execTmSetSubscriberRule h index kind pfxLen subscriber address s
  | .tmSetMeter h a => Sys2Proof.Machine.execTmSetMeter h a s
  | .tmSetBuffer h bezel reserve cap => Sys2Proof.Machine.execTmSetBuffer h bezel reserve cap s
  | .tmSetQueue h port cls limit yellow => Sys2Proof.Machine.execTmSetQueue h port cls limit yellow s
  | .tmSetShaper h kind index rate high low => Sys2Proof.Machine.execTmSetShaper h kind index rate high low s
  | .tmSetSample h port period window => Sys2Proof.Machine.execTmSetSample h port period window s
  | .tmReadQueue h kind index => Sys2Proof.Machine.execTmReadQueue h kind index s
  | .tmAudit h => Sys2Proof.Machine.execTmAudit h s
  | .staSetReserve h bezel beats => Sys2Proof.Machine.execStaSetReserve h bezel beats s
  | .staSetWeight h bezel weight => Sys2Proof.Machine.execStaSetWeight h bezel weight s
  | .staCommit h => Sys2Proof.Machine.execStaCommit h s
  | .staReadTable h => Sys2Proof.Machine.execStaReadTable h s
  | .claspSetPair h enable dPps pairWait ports => Sys2Proof.Machine.execClaspSetPair h enable dPps pairWait ports s
  | .claspSetSwap h period second => Sys2Proof.Machine.execClaspSetSwap h period second s
  | .claspSwapNow h => Sys2Proof.Machine.execClaspSwapNow h s
  | .claspResync h => Sys2Proof.Machine.execClaspResync h s
  | .claspReadStatus h => Sys2Proof.Machine.execClaspReadStatus h s
  | .loupeGrantBank h bank bezel grant => Sys2Proof.Machine.execLoupeGrantBank h bank bezel grant s
  | .loupeSetBank h bank mode window => Sys2Proof.Machine.execLoupeSetBank h bank mode window s
  | .loupePreset h counter irq vector value => Sys2Proof.Machine.execLoupePreset h counter irq vector value s
  | .loupeRead h first count => Sys2Proof.Machine.execLoupeRead h first count s
  | .faultClear h word mask => Sys2Proof.Machine.execFaultClear h word mask s
  | .faultRead h => Sys2Proof.Machine.execFaultRead h s
  | .logRead h first max => Sys2Proof.Machine.execLogRead h first max s
  | .logReadStatus h => Sys2Proof.Machine.execLogReadStatus h s
  | .nvResetConfig h confirm => Sys2Proof.Machine.execNvResetConfig h confirm s
  | .nvReadStatus h => Sys2Proof.Machine.execNvReadStatus h s
  | .mbxCmdDb fn queue tail => Sys2Proof.Machine.execMbxCmdDb fn queue tail s
  | .mbxCplDb fn head => Sys2Proof.Machine.execMbxCplDb fn head s
  | .mbxEvtDb fn head => Sys2Proof.Machine.execMbxEvtDb fn head s
  | .cmdQueueEnable fn queue => Sys2Proof.Machine.execCmdQueueEnable fn queue s
  | .cmdQueueDisable fn queue => Sys2Proof.Machine.execCmdQueueDisable fn queue s
  | .cplQueueEnable fn => Sys2Proof.Machine.execCplQueueEnable fn s
  | .cplQueueDisable fn => Sys2Proof.Machine.execCplQueueDisable fn s
  | .evtQueueEnable fn => Sys2Proof.Machine.execEvtQueueEnable fn s
  | .evtQueueDisable fn => Sys2Proof.Machine.execEvtQueueDisable fn s
  | .msixVectorMask fn vector inWindow => Sys2Proof.Machine.execMsixVectorMask fn vector inWindow s
  | .msixVectorUnmask fn vector => Sys2Proof.Machine.execMsixVectorUnmask fn vector s
  | .pringDb fn handle tail descs => Sys2Proof.Machine.execPringDb fn handle tail descs s
  | .registerWrite fn bar offset size value => Sys2Proof.Machine.execRegisterWrite fn bar offset size value s
  | .mmioViolation fn address => Sys2Proof.Machine.execMmioViolation fn address s
  | .commandFetch fn queue entry => Sys2Proof.Machine.execCommandFetch fn queue entry s
  | .eventWrite fn => Sys2Proof.Machine.execEventWrite fn s
  | .holdOffEnd fn vector => Sys2Proof.Machine.execHoldOffEnd fn vector s
  | .txnIdleTimeout fn queue => Sys2Proof.Machine.execTxnIdleTimeout fn queue s
  | .flr fn => Sys2Proof.Machine.execFlr fn s
  | .hotReset => Sys2Proof.Machine.execHotReset s
  | .powerOnReset pins => Sys2Proof.Machine.execPowerOnReset pins s
  | .systemReset pins => Sys2Proof.Machine.execSystemReset pins s
  | .commandReset pins => Sys2Proof.Machine.execCommandReset pins s
  | .zeroisationReset pins => Sys2Proof.Machine.execZeroisationReset pins s
  | .vbatApplied => Sys2Proof.Machine.execVbatApplied s
  | .mainRailsLost => Sys2Proof.Machine.execMainRailsLost s
  | .powerLost => Sys2Proof.Machine.execPowerLost s
  | .mtcStart => Sys2Proof.Machine.execMtcStart s
  | .mbxReady => Sys2Proof.Machine.execMbxReady s
  | .runEntry => Sys2Proof.Machine.execRunEntry s
  | .bootTimeout => Sys2Proof.Machine.execBootTimeout s
  | .tamperStrobe sample => Sys2Proof.Machine.execTamperStrobe sample s
  | .moscLoss => Sys2Proof.Machine.execMoscLoss s
  | .moscGood => Sys2Proof.Machine.execMoscGood s
  | .clockMonitorLoss clk => Sys2Proof.Machine.execClockMonitorLoss clk s
  | .clockMonitorGood clk => Sys2Proof.Machine.execClockMonitorGood clk s
  | .snapshotUpdate cycles => Sys2Proof.Machine.execSnapshotUpdate cycles s
  | .ensembleLatch sec => Sys2Proof.Machine.execEnsembleLatch sec s
  | .ensembleUpdate => Sys2Proof.Machine.execEnsembleUpdate s
  | .hallmarkPublish points => Sys2Proof.Machine.execHallmarkPublish points s
  | .hallmarkWindowExpiry point => Sys2Proof.Machine.execHallmarkWindowExpiry point s
  | .stepCycle => Sys2Proof.Machine.execStepCycle s
  | .slewComplete => Sys2Proof.Machine.execSlewComplete s
  | .leapTableEffect => Sys2Proof.Machine.execLeapTableEffect s
  | .leapAnnouncement => Sys2Proof.Machine.execLeapAnnouncement s
  | .localOffsetChange => Sys2Proof.Machine.execLocalOffsetChange s
  | .mirroredChangeEffect => Sys2Proof.Machine.execMirroredChangeEffect s
  | .ppsiWindowEnd input => Sys2Proof.Machine.execPpsiWindowEnd input s
  | .frequencyGateEnd ref sec ns => Sys2Proof.Machine.execFrequencyGateEnd ref sec ns s
  | .irigFrame tci f => Sys2Proof.Machine.execIrigFrame tci f s
  | .serialTodMessage tci m => Sys2Proof.Machine.execSerialTodMessage tci m s
  | .nrefMessage nref m => Sys2Proof.Machine.execNrefMessage nref m s
  | .nrefRequestSend nref => Sys2Proof.Machine.execNrefRequestSend nref s
  | .nrefLossTimeout nref => Sys2Proof.Machine.execNrefLossTimeout nref s
  | .pendantFrame pend noise frame => Sys2Proof.Machine.execPendantFrame pend noise frame s
  | .pendantByteGap pend => Sys2Proof.Machine.execPendantByteGap pend s
  | .pendantHealthTimeout pend => Sys2Proof.Machine.execPendantHealthTimeout pend s
  | .pendantSteerResend pend => Sys2Proof.Machine.execPendantSteerResend pend s
  | .gnssStreamLost stream => Sys2Proof.Machine.execGnssStreamLost stream s
  | .gnssStreamClockReturn stream => Sys2Proof.Machine.execGnssStreamClockReturn stream s
  | .gnssStreamAligned stream => Sys2Proof.Machine.execGnssStreamAligned stream s
  | .gnssEpochLatch obs => Sys2Proof.Machine.execGnssEpochLatch obs s
  | .channelAllocation sats => Sys2Proof.Machine.execChannelAllocation sats s
  | .channelDetection ch found => Sys2Proof.Machine.execChannelDetection ch found s
  | .channelLock ch => Sys2Proof.Machine.execChannelLock ch s
  | .pullInTimeout ch => Sys2Proof.Machine.execPullInTimeout ch s
  | .channelLockLoss ch => Sys2Proof.Machine.execChannelLockLoss ch s
  | .reacquireTimeout ch => Sys2Proof.Machine.execReacquireTimeout ch s
  | .notVisibleExpiry sys sv ant => Sys2Proof.Machine.execNotVisibleExpiry sys sv ant s
  | .gnssSolution ant obs => Sys2Proof.Machine.execGnssSolution ant obs s
  | .osnmaMessage sv page => Sys2Proof.Machine.execOsnmaMessage sv page s
  | .powerBaselineLearned stream level => Sys2Proof.Machine.execPowerBaselineLearned stream level s
  | .surveyComplete ant x y z cov => Sys2Proof.Machine.execSurveyComplete ant x y z cov s
  | .gnssAlmanacWrite => Sys2Proof.Machine.execGnssAlmanacWrite s
  | .modelLearning sec => Sys2Proof.Machine.execModelLearning sec s
  | .modelSave => Sys2Proof.Machine.execModelSave s
  | .filigreeEdge ch cycle fine falling => Sys2Proof.Machine.execFiligreeEdge ch cycle fine falling s
  | .calibrationRunEnd unit firstCode hits => Sys2Proof.Machine.execCalibrationRunEnd unit firstCode hits s
  | .interpolatorSwap unit => Sys2Proof.Machine.execInterpolatorSwap unit s
  | .survivorCalibrationStart unit => Sys2Proof.Machine.execSurvivorCalibrationStart unit s
  | .stampDrain ch tslew => Sys2Proof.Machine.execStampDrain ch tslew s
  | .filRingChangeEffect ring => Sys2Proof.Machine.execFilRingChangeEffect ring s
  | .diffMatch de => Sys2Proof.Machine.execDiffMatch de s
  | .diffWaitTimeout de => Sys2Proof.Machine.execDiffWaitTimeout de s
  | .diffGateEnd de => Sys2Proof.Machine.execDiffGateEnd de s
  | .filStreamWrite bezel ch => Sys2Proof.Machine.execFilStreamWrite bezel ch s
  | .loopLockAchieved loop => Sys2Proof.Machine.execLoopLockAchieved loop s
  | .loopPhaseError loop => Sys2Proof.Machine.execLoopPhaseError loop s
  | .loopAcquireTimeout loop => Sys2Proof.Machine.execLoopAcquireTimeout loop s
  | .loopHoldoverCause loop => Sys2Proof.Machine.execLoopHoldoverCause loop s
  | .loopCauseCleared loop => Sys2Proof.Machine.execLoopCauseCleared loop s
  | .loopTuningLimit loop => Sys2Proof.Machine.execLoopTuningLimit loop s
  | .outputRelease kind index => Sys2Proof.Machine.execOutputRelease kind index s
  | .offsetChangeEffect kind index => Sys2Proof.Machine.execOffsetChangeEffect kind index s
  | .offsetRampEnd loop => Sys2Proof.Machine.execOffsetRampEnd loop s
  | .beadFrameBuild tco => Sys2Proof.Machine.execBeadFrameBuild tco s
  | .irigFrameBuild tco => Sys2Proof.Machine.execIrigFrameBuild tco s
  | .lockmonPeriod => Sys2Proof.Machine.execLockmonPeriod s
  | .tapFirstValidSample tap => Sys2Proof.Machine.execTapFirstValidSample tap s
  | .tapSample tap density stuck => Sys2Proof.Machine.execTapSample tap density stuck s
  | .svFrame vtap f => Sys2Proof.Machine.execSvFrame vtap f s
  | .laEstimate tap fit => Sys2Proof.Machine.execLaEstimate tap fit s
  | .phasorReport tap fit => Sys2Proof.Machine.execPhasorReport tap fit s
  | .transientTimeout tap => Sys2Proof.Machine.execTransientTimeout tap s
  | .predictHoldLimit tap => Sys2Proof.Machine.execPredictHoldLimit tap s
  | .scheduledEventFire slot => Sys2Proof.Machine.execScheduledEventFire slot s
  | .armWindowClose slot => Sys2Proof.Machine.execArmWindowClose slot s
  | .laStreamWrite tap => Sys2Proof.Machine.execLaStreamWrite tap s
  | .linkUp port sgmiiMatch => Sys2Proof.Machine.execLinkUp port sgmiiMatch s
  | .linkDown port => Sys2Proof.Machine.execLinkDown port s
  | .linkFailedTimeout port => Sys2Proof.Machine.execLinkFailedTimeout port s
  | .calibrationDue port => Sys2Proof.Machine.execCalibrationDue port s
  | .loopbackRunStart port => Sys2Proof.Machine.execLoopbackRunStart port s
  | .loopbackRunEnd port obs => Sys2Proof.Machine.execLoopbackRunEnd port obs s
  | .portTemperatureRead port temp => Sys2Proof.Machine.execPortTemperatureRead port temp s
  | .asymmetryEffect port => Sys2Proof.Machine.execAsymmetryEffect port s
  | .asymSettleEnd port => Sys2Proof.Machine.execAsymSettleEnd port s
  | .pairSettleEnd => Sys2Proof.Machine.execPairSettleEnd s
  | .frameReceived port f => Sys2Proof.Machine.execFrameReceived port f s
  | .pauseFrame port quanta forUs fcsOk => Sys2Proof.Machine.execPauseFrame port quanta forUs fcsOk s
  | .pauseEnd port => Sys2Proof.Machine.execPauseEnd port s
  | .pauseWatchdog port => Sys2Proof.Machine.execPauseWatchdog port s
  | .pauseHoldoffEnd port => Sys2Proof.Machine.execPauseHoldoffEnd port s
  | .collision port late => Sys2Proof.Machine.execCollision port late s
  | .backoffExpiry port => Sys2Proof.Machine.execBackoffExpiry port s
  | .lpiEntry port => Sys2Proof.Machine.execLpiEntry port s
  | .lpiWake port => Sys2Proof.Machine.execLpiWake port s
  | .lpiWakeComplete port => Sys2Proof.Machine.execLpiWakeComplete port s
  | .transmitStart port => Sys2Proof.Machine.execTransmitStart port s
  | .transmitComplete port tb => Sys2Proof.Machine.execTransmitComplete port tb s
  | .queueSample port => Sys2Proof.Machine.execQueueSample port s
  | .arpRequest port address => Sys2Proof.Machine.execArpRequest port address s
  | .neighbourSolicitation port address => Sys2Proof.Machine.execNeighbourSolicitation port address s
  | .echoRequest port address => Sys2Proof.Machine.execEchoRequest port address s
  | .membershipQuery port group => Sys2Proof.Machine.execMembershipQuery port group s
  | .delayReq port m => Sys2Proof.Machine.execDelayReq port m s
  | .pdelayReq port m => Sys2Proof.Machine.execPdelayReq port m s
  | .requestUnicastTransmission port m => Sys2Proof.Machine.execRequestUnicastTransmission port m s
  | .cancelUnicastTransmission port client msgTypes => Sys2Proof.Machine.execCancelUnicastTransmission port client msgTypes s
  | .acknowledgeCancel port client => Sys2Proof.Machine.execAcknowledgeCancel port client s
  | .foreignAnnounce port => Sys2Proof.Machine.execForeignAnnounce port s
  | .ntpRequest port m => Sys2Proof.Machine.execNtpRequest port m s
  | .ntpLaunch port usable stampError => Sys2Proof.Machine.execNtpLaunch port usable stampError s
  | .launchWaitEligible pipeline bezel => Sys2Proof.Machine.execLaunchWaitEligible pipeline bezel s
  | .syncOriginate service port => Sys2Proof.Machine.execSyncOriginate service port s
  | .announceOriginate service port => Sys2Proof.Machine.execAnnounceOriginate service port s
  | .followUpSend port seq => Sys2Proof.Machine.execFollowUpSend port seq s
  | .pdelayRespFollowUpSend port seq => Sys2Proof.Machine.execPdelayRespFollowUpSend port seq s
  | .grantExpiry entry => Sys2Proof.Machine.execGrantExpiry entry s
  | .cancelTimeout entry => Sys2Proof.Machine.execCancelTimeout entry s
  | .sealKeyRotation bezel => Sys2Proof.Machine.execSealKeyRotation bezel s
  | .signetDispatch engine => Sys2Proof.Machine.execSignetDispatch engine s
  | .signetJobComplete engine result => Sys2Proof.Machine.execSignetJobComplete engine result s
  | .staPointerAdvance entries => Sys2Proof.Machine.execStaPointerAdvance entries s
  | .staCommitEffect => Sys2Proof.Machine.execStaCommitEffect s
  | .knownAnswerTest engine pass => Sys2Proof.Machine.execKnownAnswerTest engine pass s
  | .pkOperationComplete pk ok => Sys2Proof.Machine.execPkOperationComplete pk ok s
  | .entropyHealthFailure => Sys2Proof.Machine.execEntropyHealthFailure s
  | .entropyStartupEnd pass => Sys2Proof.Machine.execEntropyStartupEnd pass s
  | .drbgReseed inst => Sys2Proof.Machine.execDrbgReseed inst s
  | .drbgErrorTimeout inst => Sys2Proof.Machine.execDrbgErrorTimeout inst s
  | .slotExpiry slot => Sys2Proof.Machine.execSlotExpiry slot s
  | .slotScrub slot tagGood => Sys2Proof.Machine.execSlotScrub slot tagGood s
  | .tcpSegment port seg => Sys2Proof.Machine.execTcpSegment port seg s
  | .tlsRecord conn r => Sys2Proof.Machine.execTlsRecord conn r s
  | .handshakeTimeout conn => Sys2Proof.Machine.execHandshakeTimeout conn s
  | .connectionIdleTimeout conn => Sys2Proof.Machine.execConnectionIdleTimeout conn s
  | .ntsKeClientExchange nref success => Sys2Proof.Machine.execNtsKeClientExchange nref success s
  | .laneFrame f => Sys2Proof.Machine.execLaneFrame f s
  | .laneLoss lane lost => Sys2Proof.Machine.execLaneLoss lane lost s
  | .partnerLost => Sys2Proof.Machine.execPartnerLost s
  | .partnerAuthenticated p => Sys2Proof.Machine.execPartnerAuthenticated p s
  | .pairWaitTimeout => Sys2Proof.Machine.execPairWaitTimeout s
  | .transferTimeout => Sys2Proof.Machine.execTransferTimeout s
  | .claimFrame codeOk claim flags check => Sys2Proof.Machine.execClaimFrame codeOk claim flags check s
  | .claimSilence => Sys2Proof.Machine.execClaimSilence s
  | .claimChange => Sys2Proof.Machine.execClaimChange s
  | .claimDeafRecovery => Sys2Proof.Machine.execClaimDeafRecovery s
  | .pairMeasurementsReceived m => Sys2Proof.Machine.execPairMeasurementsReceived m s
  | .pairMeasurementTimeout => Sys2Proof.Machine.execPairMeasurementTimeout s
  | .digestReceived setDigest stateDigest => Sys2Proof.Machine.execDigestReceived setDigest stateDigest s
  | .digestTimeout => Sys2Proof.Machine.execDigestTimeout s
  | .recomputeComplete differs partnerFaulty => Sys2Proof.Machine.execRecomputeComplete differs partnerFaulty s
  | .swapDue => Sys2Proof.Machine.execSwapDue s
  | .swapHandover => Sys2Proof.Machine.execSwapHandover s
  | .mpLockstepMismatch => Sys2Proof.Machine.execMpLockstepMismatch s
  | .mpRestartComplete inTime => Sys2Proof.Machine.execMpRestartComplete inTime s
  | .tpHeartbeatTimeout core => Sys2Proof.Machine.execTpHeartbeatTimeout core s
  | .mpHeartbeat => Sys2Proof.Machine.execMpHeartbeat s
  | .heartbeatTimeout => Sys2Proof.Machine.execHeartbeatTimeout s
  | .interruptSourceFire src => Sys2Proof.Machine.execInterruptSourceFire src s
  | .endOfInterrupt src => Sys2Proof.Machine.execEndOfInterrupt src s
  | .sensorUpdate id reading => Sys2Proof.Machine.execSensorUpdate id reading s
  | .temperatureHoursWrite => Sys2Proof.Machine.execTemperatureHoursWrite s
  | .logFlush => Sys2Proof.Machine.execLogFlush s
  | .imageHashCheck good => Sys2Proof.Machine.execImageHashCheck good s
  | .firmwareConfirm => Sys2Proof.Machine.execFirmwareConfirm s
  | .errorPinRaised word bit wiring => Sys2Proof.Machine.execErrorPinRaised word bit wiring s
  | .errorPinCleared word bit => Sys2Proof.Machine.execErrorPinCleared word bit s
  | .fswPoll => Sys2Proof.Machine.execFswPoll s
  | .loupeWindowEnd bank => Sys2Proof.Machine.execLoupeWindowEnd bank s
  | .missingFrame tci => Sys2Proof.Machine.execMissingFrame tci s
  | .outputAligned kind index => Sys2Proof.Machine.execOutputAligned kind index s
  | .vfEnable enable numVfs => Sys2Proof.Machine.execVfEnable enable numVfs s

end Sys2Proof.Machine
end

