-- ==== Sys2Proof/WellFormed.lean ====
section
/-! DEFINITION. Well-formed commands: every field fits the width the spec gives it, and every numbered thing exists. -/

namespace Sys2Proof

/-- The header of a mailbox command fits its entry (R444, R450, R455). -/
def CmdHdr.wf (h : CmdHdr) : Bool :=
  decide (h.fn < 64) && decide (h.queue < 4) && decide (h.tag < 2 ^ 32) && decide (h.xaddr < 2 ^ 64) && decide (h.xlen < 2 ^ 32) && decide (h.plen < 256)

/-- A command is well formed: a mailbox command by its header; of anything else, the numbers of functions, queues, ports, channels and the like
name things that exist (R8, R444). -/
def Instr.wf (i : Instr) : Bool :=
  match i with
  | .sysReset h _ => h.wf
  | .sysSeal h _ _ => h.wf
  | .sysReadInfo h => h.wf
  | .sysReadHealth h => h.wf
  | .sysReadSensors h => h.wf
  | .fwLoadImage h _ _ => h.wf
  | .fwActivate h _ _ => h.wf
  | .fwReadSets h => h.wf
  | .stateReadObject h _ _ => h.wf
  | .stateListClasses h => h.wf
  | .txnBegin h => h.wf
  | .txnCommit h _ => h.wf
  | .txnAbort h _ => h.wf
  | .txnAcquireLock h _ => h.wf
  | .txnReleaseLock h _ _ => h.wf
  | .refSetPps h _ => h.wf
  | .refSetClock h _ => h.wf
  | .refSetTimecode h _ => h.wf
  | .refSetPendant h _ => h.wf
  | .refSetNref h _ => h.wf
  | .refClearFault h _ => h.wf
  | .refReadStatus h _ => h.wf
  | .gnssSetStream h _ => h.wf
  | .gnssSetSignals h _ _ _ _ => h.wf
  | .gnssStart h _ => h.wf
  | .gnssSetEpoch h _ => h.wf
  | .gnssSetCable h _ _ _ => h.wf
  | .gnssSetSurvey h _ => h.wf
  | .gnssLoadSurvey h _ _ => h.wf
  | .gnssSetOsnma h _ => h.wf
  | .gnssAssertTime h _ _ => h.wf
  | .gnssSetSpoof h _ => h.wf
  | .gnssReadEpoch h _ => h.wf
  | .gnssReadStatus h => h.wf
  | .ensSetLeapTable h _ _ _ => h.wf
  | .ensSetLocalOffset h _ _ _ => h.wf
  | .ensSetAcquire h _ => h.wf
  | .ensForceState h _ => h.wf
  | .ensReleaseLost h => h.wf
  | .ensStepTime h _ _ _ => h.wf
  | .ensSetSlew h _ => h.wf
  | .ensSetMember h _ _ _ => h.wf
  | .ensSetBandwidth h _ => h.wf
  | .ensSetHoldover h _ _ => h.wf
  | .ensSetDrift h _ => h.wf
  | .ensSetSteer h _ _ _ _ => h.wf
  | .ensResetModel h _ => h.wf
  | .ensReadStatus h => h.wf
  | .ensReadModel h _ => h.wf
  | .hallSetWindows h _ _ => h.wf
  | .hallReadCurrent h _ => h.wf
  | .hallVerifyRecord h _ _ => h.wf
  | .outSetLoop h _ _ _ _ => h.wf
  | .outResetLoop h _ => h.wf
  | .outSetOutput h _ => h.wf
  | .outSetOffset h _ _ _ => h.wf
  | .outSetSsc h _ _ _ _ => h.wf
  | .outSetSlew h _ _ _ => h.wf
  | .outReadStatus h => h.wf
  | .filSetChannel h _ _ _ _ => h.wf
  | .filSetLoopback h _ _ _ _ => h.wf
  | .filGrantChannel h _ _ _ => h.wf
  | .filSetRing h _ _ _ => h.wf
  | .filSetDiff h _ => h.wf
  | .filSetStream h _ => h.wf
  | .filAckStream h _ _ => h.wf
  | .filReadStamps h _ _ => h.wf
  | .filReadDiff h _ => h.wf
  | .filReadStatus h => h.wf
  | .laSetTap h _ _ _ => h.wf
  | .laSetVtap h _ => h.wf
  | .laGrantTap h _ _ _ => h.wf
  | .laSetEvent h _ => h.wf
  | .laCancelEvent h _ => h.wf
  | .laSetStream h _ _ _ _ => h.wf
  | .laAckStream h _ _ => h.wf
  | .laReadEstimates h _ _ _ => h.wf
  | .laReadStatus h _ => h.wf
  | .portSetMode h _ _ _ _ => h.wf
  | .portSetMac h _ _ _ _ _ => h.wf
  | .portSetEee h _ _ _ _ => h.wf
  | .portCalibrate h _ => h.wf
  | .portSetAsym h _ _ _ => h.wf
  | .portOpenRing h _ _ _ _ _ => h.wf
  | .portCloseRing h _ => h.wf
  | .portSetFilter h _ _ _ _ _ => h.wf
  | .portReadStatus h _ => h.wf
  | .svcSetService h _ => h.wf
  | .svcSetAddress h _ _ _ _ _ _ => h.wf
  | .svcSetLaunch h _ _ => h.wf
  | .svcCancelGrant h _ => h.wf
  | .svcSetSeal h _ => h.wf
  | .svcSetPrp h _ _ _ _ => h.wf
  | .svcReadStatus h _ => h.wf
  | .svcReadGrant h _ => h.wf
  | .keyGenerate h _ => h.wf
  | .keyImport h _ _ _ => h.wf
  | .keyProvisionOwner h _ => h.wf
  | .keyDestroy h _ _ => h.wf
  | .keyFree h _ => h.wf
  | .keySetTls h _ _ _ _ => h.wf
  | .keyReadSlot h _ => h.wf
  | .keyReadIdentity h => h.wf
  | .keyRandom h _ => h.wf
  | .keyReadStatus h => h.wf
  | .bezelCreate h _ _ _ => h.wf
  | .bezelDelete h _ => h.wf
  | .bezelAssignPort h _ _ => h.wf
  | .bezelSetQuota h _ _ _ _ _ _ => h.wf
  | .bezelSetDmaWindow h _ _ _ _ => h.wf
  | .bezelSetFlags h _ _ => h.wf
  | .bezelRelease h _ _ _ => h.wf
  | .bezelReadStatus h _ => h.wf
  | .tmSetSubscriberRule h _ _ _ _ _ => h.wf
  | .tmSetMeter h _ => h.wf
  | .tmSetBuffer h _ _ _ => h.wf
  | .tmSetQueue h _ _ _ _ => h.wf
  | .tmSetShaper h _ _ _ _ _ => h.wf
  | .tmSetSample h _ _ _ => h.wf
  | .tmReadQueue h _ _ => h.wf
  | .tmAudit h => h.wf
  | .staSetReserve h _ _ => h.wf
  | .staSetWeight h _ _ => h.wf
  | .staCommit h => h.wf
  | .staReadTable h => h.wf
  | .claspSetPair h _ _ _ _ => h.wf
  | .claspSetSwap h _ _ => h.wf
  | .claspSwapNow h => h.wf
  | .claspResync h => h.wf
  | .claspReadStatus h => h.wf
  | .loupeGrantBank h _ _ _ => h.wf
  | .loupeSetBank h _ _ _ => h.wf
  | .loupePreset h _ _ _ _ => h.wf
  | .loupeRead h _ _ => h.wf
  | .faultClear h _ _ => h.wf
  | .faultRead h => h.wf
  | .logRead h _ _ => h.wf
  | .logReadStatus h => h.wf
  | .nvResetConfig h _ => h.wf
  | .nvReadStatus h => h.wf
  | .mbxCmdDb fn queue _ => decide (fn < 64) && decide (queue < 4)
  | .mbxCplDb fn _ => decide (fn < 64)
  | .mbxEvtDb fn _ => decide (fn < 64)
  | .cmdQueueEnable fn queue => decide (fn < 64) && decide (queue < 4)
  | .cmdQueueDisable fn queue => decide (fn < 64) && decide (queue < 4)
  | .cplQueueEnable fn => decide (fn < 64)
  | .cplQueueDisable fn => decide (fn < 64)
  | .evtQueueEnable fn => decide (fn < 64)
  | .evtQueueDisable fn => decide (fn < 64)
  | .msixVectorMask fn vector _ => decide (fn < 64) && decide (vector < 64)
  | .msixVectorUnmask fn vector => decide (fn < 64) && decide (vector < 64)
  | .pringDb fn handle _ _ => decide (fn < 64) && decide (handle < 4096)
  | .registerWrite fn bar _ _ _ => decide (fn < 64) && decide (bar < 8)
  | .mmioViolation fn _ => decide (fn < 64)
  | .commandFetch fn queue entry => decide (fn < 64) && decide (queue < 4) && entry.hdr.wf
  | .eventWrite fn => decide (fn < 64)
  | .holdOffEnd fn vector => decide (fn < 64) && decide (vector < 64)
  | .txnIdleTimeout fn queue => decide (fn < 64) && decide (queue < 4)
  | .flr fn => decide (fn < 64)
  | .hotReset => true
  | .powerOnReset _ => true
  | .systemReset _ => true
  | .commandReset _ => true
  | .zeroisationReset _ => true
  | .vbatApplied => true
  | .mainRailsLost => true
  | .powerLost => true
  | .mtcStart => true
  | .mbxReady => true
  | .runEntry => true
  | .bootTimeout => true
  | .tamperStrobe _ => true
  | .moscLoss => true
  | .moscGood => true
  | .clockMonitorLoss _ => true
  | .clockMonitorGood _ => true
  | .snapshotUpdate _ => true
  | .ensembleLatch _ => true
  | .ensembleUpdate => true
  | .hallmarkPublish _ => true
  | .hallmarkWindowExpiry _ => true
  | .stepCycle => true
  | .slewComplete => true
  | .leapTableEffect => true
  | .leapAnnouncement => true
  | .localOffsetChange => true
  | .mirroredChangeEffect => true
  | .ppsiWindowEnd input => decide (input < 4)
  | .frequencyGateEnd _ _ _ => true
  | .irigFrame tci _ => decide (tci < 2)
  | .serialTodMessage tci _ => decide (tci < 2)
  | .nrefMessage nref _ => decide (nref < 16)
  | .nrefRequestSend nref => decide (nref < 16)
  | .nrefLossTimeout nref => decide (nref < 16)
  | .pendantFrame pend _ _ => decide (pend < 4)
  | .pendantByteGap pend => decide (pend < 4)
  | .pendantHealthTimeout pend => decide (pend < 4)
  | .pendantSteerResend pend => decide (pend < 4)
  | .gnssStreamLost stream => decide (stream < 4)
  | .gnssStreamClockReturn stream => decide (stream < 4)
  | .gnssStreamAligned stream => decide (stream < 4)
  | .gnssEpochLatch _ => true
  | .channelAllocation _ => true
  | .channelDetection ch _ => decide (ch < 192)
  | .channelLock ch => decide (ch < 192)
  | .pullInTimeout ch => decide (ch < 192)
  | .channelLockLoss ch => decide (ch < 192)
  | .reacquireTimeout ch => decide (ch < 192)
  | .notVisibleExpiry _ _ ant => decide (ant < 2)
  | .gnssSolution ant _ => decide (ant < 2)
  | .osnmaMessage _ page => decide (page.ant < 2)
  | .powerBaselineLearned stream _ => decide (stream < 4)
  | .surveyComplete ant _ _ _ _ => decide (ant < 2)
  | .gnssAlmanacWrite => true
  | .modelLearning _ => true
  | .modelSave => true
  | .filigreeEdge ch _ _ _ => decide (ch < 64)
  | .calibrationRunEnd _ _ _ => true
  | .interpolatorSwap _ => true
  | .survivorCalibrationStart _ => true
  | .stampDrain ch _ => decide (ch < 64)
  | .filRingChangeEffect ring => decide (ring < 96)
  | .diffMatch de => decide (de < 32)
  | .diffWaitTimeout de => decide (de < 32)
  | .diffGateEnd de => decide (de < 32)
  | .filStreamWrite bezel ch => decide (bezel < 64) && decide (ch < 64)
  | .loopLockAchieved loop => decide (loop < 8)
  | .loopPhaseError loop => decide (loop < 8)
  | .loopAcquireTimeout loop => decide (loop < 8)
  | .loopHoldoverCause loop => decide (loop < 8)
  | .loopCauseCleared loop => decide (loop < 8)
  | .loopTuningLimit loop => decide (loop < 8)
  | .outputRelease _ _ => true
  | .offsetChangeEffect _ _ => true
  | .offsetRampEnd loop => decide (loop < 8)
  | .beadFrameBuild tco => decide (tco < 4)
  | .irigFrameBuild tco => decide (tco < 4)
  | .lockmonPeriod => true
  | .tapFirstValidSample tap => decide (tap < 16)
  | .tapSample tap _ _ => decide (tap < 16)
  | .svFrame vtap _ => decide (vtap < 16)
  | .laEstimate tap _ => decide (tap < 16)
  | .phasorReport tap _ => decide (tap < 16)
  | .transientTimeout tap => decide (tap < 16)
  | .predictHoldLimit tap => decide (tap < 16)
  | .scheduledEventFire slot => decide (slot < 32)
  | .armWindowClose slot => decide (slot < 32)
  | .laStreamWrite tap => decide (tap < 16)
  | .linkUp port _ => decide (port < 256)
  | .linkDown port => decide (port < 256)
  | .linkFailedTimeout port => decide (port < 256)
  | .calibrationDue port => decide (port < 256)
  | .loopbackRunStart port => decide (port < 256)
  | .loopbackRunEnd port _ => decide (port < 256)
  | .portTemperatureRead port _ => decide (port < 256)
  | .asymmetryEffect port => decide (port < 256)
  | .asymSettleEnd port => decide (port < 256)
  | .pairSettleEnd => true
  | .frameReceived port _ => decide (port < 256)
  | .pauseFrame port _ _ _ => decide (port < 256)
  | .pauseEnd port => decide (port < 256)
  | .pauseWatchdog port => decide (port < 256)
  | .pauseHoldoffEnd port => decide (port < 256)
  | .collision port _ => decide (port < 256)
  | .backoffExpiry port => decide (port < 256)
  | .lpiEntry port => decide (port < 256)
  | .lpiWake port => decide (port < 256)
  | .lpiWakeComplete port => decide (port < 256)
  | .transmitStart port => decide (port < 256)
  | .transmitComplete port _ => decide (port < 256)
  | .queueSample port => decide (port < 256)
  | .arpRequest port _ => decide (port < 256)
  | .neighbourSolicitation port _ => decide (port < 256)
  | .echoRequest port _ => decide (port < 256)
  | .membershipQuery port _ => decide (port < 256)
  | .delayReq port _ => decide (port < 256)
  | .pdelayReq port _ => decide (port < 256)
  | .requestUnicastTransmission port _ => decide (port < 256)
  | .cancelUnicastTransmission port _ _ => decide (port < 256)
  | .acknowledgeCancel port _ => decide (port < 256)
  | .foreignAnnounce port => decide (port < 256)
  | .ntpRequest port _ => decide (port < 256)
  | .ntpLaunch port _ _ => decide (port < 256)
  | .launchWaitEligible pipeline bezel => decide (pipeline < 4) && decide (bezel < 64)
  | .syncOriginate service port => decide (service < 1024) && decide (port < 256)
  | .announceOriginate service port => decide (service < 1024) && decide (port < 256)
  | .followUpSend port _ => decide (port < 256)
  | .pdelayRespFollowUpSend port _ => decide (port < 256)
  | .grantExpiry entry => decide (entry < 1048576)
  | .cancelTimeout entry => decide (entry < 1048576)
  | .sealKeyRotation bezel => decide (bezel < 64)
  | .signetDispatch engine => decide (engine < 16)
  | .signetJobComplete engine _ => decide (engine < 16)
  | .staPointerAdvance _ => true
  | .staCommitEffect => true
  | .knownAnswerTest engine _ => decide (engine < 16)
  | .pkOperationComplete pk _ => decide (pk < 2)
  | .entropyHealthFailure => true
  | .entropyStartupEnd _ => true
  | .drbgReseed inst => decide (inst < 6)
  | .drbgErrorTimeout inst => decide (inst < 6)
  | .slotExpiry slot => decide (slot < 4096)
  | .slotScrub slot _ => decide (slot < 4096)
  | .tcpSegment port _ => decide (port < 256)
  | .tlsRecord conn _ => decide (conn < 4096)
  | .handshakeTimeout conn => decide (conn < 4096)
  | .connectionIdleTimeout conn => decide (conn < 4096)
  | .ntsKeClientExchange nref _ => decide (nref < 16)
  | .laneFrame _ => true
  | .laneLoss _ _ => true
  | .partnerLost => true
  | .partnerAuthenticated _ => true
  | .pairWaitTimeout => true
  | .transferTimeout => true
  | .claimFrame _ _ _ _ => true
  | .claimSilence => true
  | .claimChange => true
  | .claimDeafRecovery => true
  | .pairMeasurementsReceived _ => true
  | .pairMeasurementTimeout => true
  | .digestReceived _ _ => true
  | .digestTimeout => true
  | .recomputeComplete _ _ => true
  | .swapDue => true
  | .swapHandover => true
  | .mpLockstepMismatch => true
  | .mpRestartComplete _ => true
  | .tpHeartbeatTimeout core => decide (core < 4)
  | .mpHeartbeat => true
  | .heartbeatTimeout => true
  | .interruptSourceFire _ => true
  | .endOfInterrupt _ => true
  | .sensorUpdate _ _ => true
  | .temperatureHoursWrite => true
  | .logFlush => true
  | .imageHashCheck _ => true
  | .firmwareConfirm => true
  | .errorPinRaised word bit _ => decide (word < 16) && decide (bit < 32)
  | .errorPinCleared word bit => decide (word < 16) && decide (bit < 32)
  | .fswPoll => true
  | .loupeWindowEnd _ => true
  | .missingFrame tci => decide (tci < 2)
  | .outputAligned _ _ => true
  | .vfEnable _ _ => true

end Sys2Proof
end

