-- ==== Sys2Proof/Safety.lean ====
section
/-! DEFINITION. The terms the statements are made in: when a command entry is served at once, what a completion writes, what a
command leaves unchanged, and the invariant of the machine. -/

namespace Sys2Proof.Machine

/-- The entry of a mailbox command is fetched, passes every check that is not the command's own, and is executed at once: the device runs with its
mailbox ready (R451, R488, R530, R531), the function serves its bezel (R398, R445), the queue is enabled and holds the entry alone with a completion
entry free (R451, R452), FENCE finds nothing earlier in flight (R453), no transaction is open (R463), the pair is not formed for a command with M (R433,
R472), the entry's own form is right (R455, R469, R470, R474),
and the host wrote it: it did not come over a pair lane (R433). -/
def ready (m : CmdMeta) (h : CmdHdr) (s : State) : Bool :=
  let f := s.fn h.fn
  let k := f.q h.queue
  (s.pwr.st = .run || s.pwr.st = .degraded) && !s.fault.fatal && s.mbx.ready && !s.mgmt.mpRestart && !s.mgmt.mpStopped
  && s.fnEnabled h.fn && s.bezelServes h.fn && !f.frozen
  && decide (h.queue < 4) && k.en && f.cplEn && k.fetched != k.tail && k.inflight.isEmpty
  && decide ((f.cplPut + 65536 - f.cplHead) % 65536 + f.cplRes < 1024)
  && (!h.fence || f.queues.all fun p => p.2.inflight.isEmpty)
  && (s.mbx.fns.all fun p => p.2.queues.all fun q => q.2.txn.isNone)
  && k.txn.isNone
  && (!m.mirrored || !s.paired)
  && (!(m.who = .operator) || h.fn = 0)
  && h.zeros && h.plen = m.plen && decide (h.xlen ≤ 65536) && h.xaddr % 64 = 0
  && (!(m.xbIn || m.xbOut) || h.xaddr != 0) && (h.xaddr = 0 || s.dmaOk h.fn h.xaddr h.xlen)
  && h.lane.isNone

/-- The header of another command of the same queue, with this payload length and no extended buffer. -/
abbrev hdr0 (h : CmdHdr) (plen : Nat) : CmdHdr := { fn := h.fn, queue := h.queue, plen := plen }

/-- As `ready`, but with this transaction open on the command's own queue (R463). -/
abbrev readyInTxn (m : CmdMeta) (h : CmdHdr) (s : State) (x : Txn) : Prop :=
  ((s.fn h.fn).q h.queue).txn = some x ∧ ready m h (s.onQueue h.fn h.queue fun q => { q with txn := none }) = true

/-- The completion entry a command in this state would get (R456, R458). -/
def completionOf (h : CmdHdr) (s : State) (status : Status) (result xb : Rec) : Completion :=
  { epoch := s.mbx.epoch, seq := ((s.fn h.fn).q h.queue).fetchSeq, tag := h.tag, status := status, queue := h.queue, staged := false,
    result := result, xb := xb, phase := ((s.fn h.fn).cplPut / 1024 + 1) % 2 }

/-- The command has completed: its entry is the last of its function's completion queue (R456), and its queue has fetched and completed one entry more
(R452, R458). -/
def Answers (h : CmdHdr) (s t : State) (status : Status) (result xb : Rec) : Prop :=
  t.pending = s.pending ∧
  (t.fn h.fn).cplQ = (s.fn h.fn).cplQ ++ [completionOf h s status result xb] ∧
  (t.fn h.fn).cplPut = ((s.fn h.fn).cplPut + 1) % 65536 ∧
  ((t.fn h.fn).q h.queue).inflight = [] ∧
  ((t.fn h.fn).q h.queue).fetched = (((s.fn h.fn).q h.queue).fetched + 1) % 65536 ∧
  ((t.fn h.fn).q h.queue).done = (((s.fn h.fn).q h.queue).done + 1) % 65536

/-- The mailboxes change only by that completion: other functions keep their queues and completions, the function its other queues, and of the rest
only interrupts, events and the change counts of objects may change (R456, R466, R476). -/
def MailboxFrame (h : CmdHdr) (s t : State) : Prop :=
  { t.mbx with fns := s.mbx.fns, objGen := s.mbx.objGen } = s.mbx ∧
  (∀ b, b ≠ h.fn → (t.fn b).queues = (s.fn b).queues ∧ (t.fn b).cplQ = (s.fn b).cplQ ∧ (t.fn b).frozen = (s.fn b).frozen) ∧
  (∀ q, q ≠ h.queue → (t.fn h.fn).q q = (s.fn h.fn).q q) ∧
  (t.fn h.fn).frozen = (s.fn h.fn).frozen ∧ (t.fn h.fn).sems = (s.fn h.fn).sems

/-- The management subsystem keeps everything but its stored records and its log staging. -/
def MgmtFrame (s t : State) : Prop :=
  { t.mgmt with recs := s.mgmt.recs, boot := s.mgmt.boot, writing := s.mgmt.writing, banks := s.mgmt.banks, staged := s.mgmt.staged, lseq := s.mgmt.lseq, logSec := s.mgmt.logSec, logRate := s.mgmt.logRate,
                dropped := s.mgmt.dropped } = s.mgmt

/-- Of the Loupe, only the count of completed commands of the bezel changes, and that counter's armed interrupt when it wraps (R538, R542). -/
def LoupeFrame (h : CmdHdr) (s t : State) : Prop :=
  t.loupe.banks = s.loupe.banks ∧ ∀ i, i ≠ (256 + h.fn) * 32 + 28 → t.loupe.ctr.look 0 i = s.loupe.ctr.look 0 i

/-- A command has completed with OK and this RESULT and extended buffer, and outside the mailboxes, the log and the counters the state is that of `u`. -/
def Completes (h : CmdHdr) (s u t : State) (result xb : Rec) : Prop :=
  Answers h s t .ok result xb ∧ MailboxFrame h s t ∧ MgmtFrame s t ∧ LoupeFrame h s t ∧
  t = { u with mbx := t.mbx, mgmt := t.mgmt, loupe := t.loupe }

/-- What the last completion of the issuing function wrote to the extended buffer (R474). -/
def lastXb (h : CmdHdr) (t : State) : Rec := ((t.fn h.fn).cplQ.getLast?.map (·.xb)).getD []

/-- The mailbox command `i` completes with OK, this RESULT and extended buffer, and the effect that leaves `u`. -/
def Executes (i : Instr) (h : CmdHdr) (s u : State) (result xb : Rec) : Prop := ∃ t, exec i s = .next t ∧ Completes h s u t result xb

/-- The command answers a next state of which `P` holds. -/
def Does (i : Instr) (s : State) (P : State → Prop) : Prop := ∃ t, exec i s = .next t ∧ P t

/-- The counter at a position of a bank (0-255 ports, 256 and up bezels) has counted n (R534, R537, R538). -/
abbrev Counted (bank pos n : Nat) (s t : State) : Prop := t.loupe.ctr.look 0 (bank * 32 + pos) = (s.loupe.ctr.look 0 (bank * 32 + pos) + n) % 2 ^ 48

/-- The way of a frame through the traffic manager is free: nothing is queued or held, no meter or shaper is set, no port is one of a redundant pair,
and the device runs its network services. -/
abbrev PathFree (s : State) : Prop :=
  s.tm.queues = [] ∧ s.tm.bezels = [] ∧ s.tm.bezMeters = [] ∧ s.tm.subMeters = [] ∧ s.tm.svcMeters = [] ∧ s.tm.subShapers = [] ∧ s.tm.svcShapers = [] ∧
  s.tm.portShapers = [] ∧ s.ports.prp = [] ∧ s.network = true

/-- What the frames queued on a port in a class say: kind, bezel, client, sequence number, receive stamp and body. -/
abbrev queued (s : State) (p c : Nat) : List (TxKind × Nat × Nat × Nat × Option Nat × Rec) := (s.svcQ p c).frames.map fun f => (f.kind, f.bezel, f.client, f.seq, f.t, f.body)

/-- The mailboxes change only by events that fall due, interrupts sent and change counts: queues, completions, freezes and semaphores stay (R457, R466). -/
abbrev QueuesKept (s t : State) : Prop :=
  { t.mbx with fns := s.mbx.fns, objGen := s.mbx.objGen } = s.mbx ∧
  (∀ b, (t.fn b).queues = (s.fn b).queues ∧ (t.fn b).cplQ = (s.fn b).cplQ ∧ (t.fn b).frozen = (s.fn b).frozen ∧ (t.fn b).sems = (s.fn b).sems)

/-- What a change of the pair leaves alone: everything but the pair's own state, the output pins, the records due, the connections of the
key-establishment server, and events and their log. -/
abbrev PairFrame (s t : State) : Prop :=
  t = { s with clasp := t.clasp, out := { s.out with pins := t.out.pins }, hall := t.hall, keys := { s.keys with conns := t.keys.conns }, mbx := t.mbx, mgmt := t.mgmt }

/-- A fatal fault has latched: REPLACE_N is asserted, the cause is in `sys.health`, records are withdrawn and no time-bearing output drives; time goes on (R522, R525, R528). -/
abbrev FatalFrom (s t : State) : Prop :=
  t.fault.fatal = true ∧ t.fault.replace = true ∧ 0x0F00 ∈ t.fault.causes ∧ t.hall.withdrawn = true ∧ t.tc = s.tc ∧
  (∀ k, k < 44 → timeBearing (t.pin k).cfg = true → t.driverOn k = false)

/-- What every device reset leaves, whatever its cause (R446, R458, R535, R550, R553, R554): the epoch has counted, CAUSE, PAIR_ID and MOSC_SEL are read, the
counter holds zero, the mailbox is not ready and every queue is disabled; the fuses stay, but for a `sys.seal` that is cut short (R563), and so does the written log. -/
abbrev ResetBy (cause : Nat) (p : BootPins) (s t : State) : Prop :=
  t.pending = s.pending ∧ t.mbx.epoch = (s.mbx.epoch + 1) % 2 ^ 32 ∧ t.pwr.cause = cause ∧ t.pwr.pairId = p.pairId ∧ t.pwr.present = p.tamper ∧ t.pwr.cmdReset = none ∧
  t.pwr.fuses = s.cutSeal.pwr.fuses ∧ t.pwr.mosc100 = p.mosc100 ∧ (t.pwr.st = .boot ∨ t.pwr.st = .restricted) ∧ (t.tc.mtc.sec = 0 ∧ t.tc.mtc.ns = 0 ∧ t.tc.mtc.frac = 0 ∧ t.tc.mtc.running = false) ∧
  t.mbx.ready = false ∧ (∀ b, (t.fn b).queues = [] ∧ (t.fn b).cplEn = false ∧ (t.fn b).evtEn = false ∧ (t.fn b).frozen = false) ∧
  t.loupe.ctr = [] ∧ t.mgmt.log = s.mgmt.log ∧ t.mgmt.nvReset = false

/-- What the checks say of a mailbox command that begins now: its header, its attributes and the outcome (R23); none where no entry is taken up. -/
def judged (i : Instr) (s : State) : Option (CmdHdr × CmdMeta × Judged) :=
  match cmdOf i s with
  | none => none
  | some (h, m, b) => (takeUp m h s).map fun u => (h, m, verdict m h b (!m.reads && reservedElsewhere h (objsOf i) u.1) u.1)

/-- The rows whose effect is on the counter itself: clock cycles, the step cycle, the join step of a lane frame, and the resets and losses of power. -/
def movesTime : Instr → Bool
  | .snapshotUpdate _ => true
  | .stepCycle => true
  | .laneFrame _ => true
  | .powerOnReset _ => true
  | .systemReset _ => true
  | .commandReset _ => true
  | .zeroisationReset _ => true
  | .mainRailsLost => true
  | .powerLost => true
  | _ => false

/-- The master time counter holds a time word: NS below a thousand million, FRAC of 20 bits, SEC of 48 bits (R14, R52). -/
def Mtc.Normal (m : Mtc) : Prop := m.ns < 1000000000 ∧ m.frac < 2 ^ 20 ∧ m.sec < 2 ^ 48

/-- The invariant of the machine that every step keeps. -/
def Inv (s : State) : Prop := s.tc.mtc.Normal

end Sys2Proof.Machine
end

