-- ==== Sys2Proof/Certificates/Slice0/Obligations.lean ====
section
/-! DEFINITION. The statements for the provers. -/

open Sys2Proof Sys2Proof.Machine

/-- A ready ens.set_slew, ens.set_acquire, ens.set_local_offset, ens.set_leap_table, ens.force_state, ens.release_lost or ens.step_time with operands in range completes with OK; the setting, the awaited table, the request or the pending step is as given, DUE being the first top of a TAI second at least 2 ms on, and nothing else changes. Each of these answers a next state with its effect, under conditions on the state and the operands alone: ensSetSlew, ensSetAcquire, ensSetLocalOffset, ensSetLeapTable, ensForceState, ensReleaseLost, ensStepTime. (R58, R62, R65, R66, R67, R68, R69, R479) -/
def Obligations.TimeCoreCommands : Prop :=
  (∀ (h : CmdHdr) (s : State) (rate : Nat), ready { op := 0x1207, plen := 4, mirrored := true } h s → 1 ≤ rate → rate ≤ 10000 →
    Executes (.ensSetSlew h rate) h s { s with tc := { s.tc with slewRate := rate } } [] []) ∧
  (∀ (h : CmdHdr) (s : State) (a : AcquireArgs), ready { op := 0x1203, plen := 16, mirrored := true } h s →
    1 ≤ a.holdGrade → a.holdGrade ≤ a.acqGrade → a.acqGrade ≤ 24 → a.autoSet ≤ 1 → 1 ≤ a.lockOffset → a.lockOffset ≤ 1000000 →
    1000 ≤ a.holdLimit → a.holdLimit ≤ 0xFFFFFFFE → 100 ≤ a.stepThreshold → a.stepThreshold ≤ 1000000000 →
    Executes (.ensSetAcquire h a) h s { s with tc := { s.tc with acq := { acqGrade := a.acqGrade, holdGrade := a.holdGrade, lockOffset := a.lockOffset, holdLimit := a.holdLimit, stepThreshold := a.stepThreshold, autoSet := decide (a.autoSet = 1) } } } [] []) ∧
  (∀ (h : CmdHdr) (s : State) (offset : Int) (l : List LocalChange), ready { op := 0x1202, plen := 8, mirrored := true, xbIn := true } h s → l.length ≤ 16 → offset.natAbs ≤ 50400 →
    (∀ c ∈ l, c.offset.natAbs ≤ 50400 ∧ c.sec < 2 ^ 48) → l.Pairwise (fun a b => a.sec < b.sec) →
    Executes (.ensSetLocalOffset h l.length offset l) h s { s with tc := { s.tc with localOff := offset, localSched := l } } [] []) ∧
  (∀ (h : CmdHdr) (s : State) (force : Nat) (l : List LeapEntry), ready { op := 0x1201, plen := 2, mirrored := true, xbIn := true } h s → force ≤ 1 → 1 ≤ l.length → l.length ≤ 64 → leapTableOk l = true →
    (force = 0 → leapNeedsForce s.tc.leap l s.tc.mtc.sec = false) →
    Executes (.ensSetLeapTable h force l.length l) h s { s with tc := { s.tc with leapNext := some { entries := l, genInc := leapNeedsForce s.tc.leap l s.tc.mtc.sec || (s.tc.leap.isEmpty && leapOffset l s.tc.mtc.sec != 0), due := s.tc.mtc.sec + 1 } } } [] []) ∧
  (∀ (h : CmdHdr) (s : State) (force : Nat), ready { op := 0x1204, plen := 1, mirrored := true, action := true } h s → force = 0 ∨ force = 3 →
    Executes (.ensForceState h force) h s { s with tc := { s.tc with force := decide (force = 3) } } [] []) ∧
  (∀ (h : CmdHdr) (s : State), ready { op := 0x1205, mirrored := true, action := true } h s → s.tc.ts = .lost →
    Executes (.ensReleaseLost h) h s { s with tc := { s.tc with releaseReq := true } } [] []) ∧
  (∀ (h : CmdHdr) (s : State) (sec ns frac : Int), ready { op := 0x1206, plen := 16, mirrored := true, action := true } h s → stepArgsOk sec ns frac = true → s.tc.ts ≠ .lost → s.tc.step = none →
    Executes (.ensStepTime h sec ns frac) h s { s with tc := { s.tc with step := some { sec := sec, ns := ns, frac := frac, due := s.topAfter 2000000 } } } [fld 64 (s.topAfter 2000000)] [])

/-- With the block powered: SNAPSHOT_UPDATE and SLEW_COMPLETE run the counter of the Time Core by their cycles where no step is pending, the first rewriting the snapshot for each millisecond instant passed and leaving it otherwise, the second leaving no slew; an accepted leap-second table takes effect at its second, with GEN one more where it changes the offset; the announcement flags follow the table; a local-offset change takes effect at its second, and an earlier row changes nothing. Each of these answers a next state with its effect, under conditions on the state and the operands alone: snapshotUpdate, slewComplete, leapTableEffect, leapAnnouncement, localOffsetChange. (R52, R56, R58, R60, R62, R68, R601) -/
def Obligations.TimeCoreEvents : Prop :=
  (∀ (s : State) (n : Nat), s.alive = true → s.tc.mtc.running = true → s.tc.step = none → s.tc.mtc.units ≤ (s.tc.mtc.run n).units →
    Does (.snapshotUpdate n) s fun t => t = { s with tc := t.tc } ∧ t.tc = { s.tc with mtc := s.tc.mtc.run n, snap := t.tc.snap } ∧
      let a := s.tc.mtc.units / unitsPerMs
      let b := (s.tc.mtc.run n).units / unitsPerMs
      (a = b → t.tc.snap = s.tc.snap) ∧
      (a < b → t.tc.snap = { seq := (s.tc.snap.seq + 2 * (b - a)) % 2 ^ 32, sec := b / 1000 % 2 ^ 48, ns := b % 1000 * 1000000, taiUtc := leapOffset s.tc.leap (b / 1000 % 2 ^ 48), leap61 := leap61At s.tc.leap (b / 1000 % 2 ^ 48), leap59 := leap59At s.tc.leap (b / 1000 % 2 ^ 48), table := !s.tc.leap.isEmpty, state := s.tc.ts.code, loc := s.tc.localOff })) ∧
  (∀ (s : State) (sl : Slew), s.alive = true → s.tc.mtc.running = true → s.tc.step = none → s.tc.mtc.slew = some sl →
    Does .slewComplete s fun t => t = { s with tc := t.tc } ∧ t.tc.mtc = s.tc.mtc.run (max 1 sl.left) ∧ t.tc.mtc.slew = none) ∧
  (∀ (s : State) (p : PendLeap), s.alive = true → s.tc.leapNext = some p → p.due ≤ s.tc.mtc.sec →
    Does .leapTableEffect s fun t => t = { s with tc := t.tc, hall := t.hall } ∧
      t.tc = { s.tc with leap := p.entries, leapNext := none, gen := if p.genInc then (s.tc.gen + 1) % 65536 else s.tc.gen, ann61 := leap61At p.entries s.tc.mtc.sec, ann59 := leap59At p.entries s.tc.mtc.sec } ∧
      (p.genInc = true → t.hall.dueAll = true) ∧ t.hall = { s.hall with dueAll := t.hall.dueAll }) ∧
  (∀ (s : State), s.alive = true →
    Does .leapAnnouncement s fun t => t = { s with tc := t.tc, hall := t.hall } ∧
      t.tc = { s.tc with ann61 := leap61At s.tc.leap s.tc.mtc.sec, ann59 := leap59At s.tc.leap s.tc.mtc.sec } ∧ t.hall = { s.hall with dueAll := t.hall.dueAll } ∧
      (t.tc ≠ s.tc → t.hall.dueAll = true)) ∧
  (∀ (s : State) (c : LocalChange) (r : List LocalChange), s.alive = true → s.tc.localSched = c :: r →
    Does .localOffsetChange s fun t => t = if c.sec ≤ s.tc.mtc.sec then { s with tc := { s.tc with localOff := c.offset, localSched := r } } else s)

/-- A ready hall.set_windows sets both settle windows; hall.read_current, for a point its bezel owns, returns the record an emission now carries; hall.verify_record returns whether the MAC is right under the bezel's Hallmark key (0 where that key is not usable; a use of a key without a use limit is counted) and whether the record's age is at most 1.1 s. Each of these answers a next state with its effect, under conditions on the state and the operands alone: hallSetWindows, hallReadCurrent, hallVerifyRecord. (R32, R75, R77, R82, R351, R479) -/
def Obligations.HallmarkCommands : Prop :=
  (∀ (h : CmdHdr) (s : State) (a p : Nat), ready { op := 0x1301, plen := 8, mirrored := true } h s → 1 ≤ a → a ≤ 3600 → 1 ≤ p → p ≤ 3600 →
    Executes (.hallSetWindows h a p) h s { s with hall := { s.hall with asymWindow := a, pairWindow := p } } [] []) ∧
  (∀ (h : CmdHdr) (s : State) (p : Nat), ready { op := 0x1341, plen := 2, who := .any } h s → pointOk p = true → s.pointOwner p = h.fn →
    Executes (.hallReadCurrent h p) h s s (hallLayout (s.carried p)) []) ∧
  (∀ (h : CmdHdr) (s : State) (r : HallRec) (d : Nat), ready { op := 0x1342, plen := 40, who := .any } h s → s.keyUsable (128 + h.fn) = false →
    Executes (.hallVerifyRecord h r d) h s s [fld 8 0, fld 8 (if s.recAge r * 10 ≤ 11 * unitsPerSec then 1 else 0)] []) ∧
  (∀ (h : CmdHdr) (s : State) (r : HallRec) (d : Nat), ready { op := 0x1342, plen := 40, who := .any } h s → s.keyUsable (128 + h.fn) = true → (s.key (128 + h.fn)).useLimit = 0 → h.fn < 64 →
    Executes (.hallVerifyRecord h r d) h s
      { s with keys := { s.keys with slots := s.keys.slots.put (128 + h.fn) { s.key (128 + h.fn) with useCtr := min 0xFFFFFFFF ((s.key (128 + h.fn)).useCtr + 1) } } }
      [fld 8 (if hallMac (s.key (128 + h.fn)).material (if d = 0 then s.mgmt.deviceId else d) r = r.mac then 1 else 0),
       fld 8 (if s.recAge r * 10 ≤ 11 * unitsPerSec then 1 else 0)] [])

/-- A row that publishes a point's record (nothing waiting for it) leaves a record of that point with the present bound, timing state, GEN, announcement flags and issue second, its SEQ one more and its MAC made with the owner's Hallmark key; the point is no longer due or expired. A window ends for a point whose record is 1.1 s old, and for no younger one. The end of an asymmetry or pair settle window takes the widening away and makes fresh records due. Each of these answers a next state with its effect, under conditions on the state and the operands alone: hallmarkPublish, hallmarkWindowExpiry, asymSettleEnd, pairSettleEnd. (R32, R71, R75, R76, R77, R82) -/
def Obligations.HallmarkEvents : Prop :=
  (∀ (s : State) (p : Nat), s.alive = true → p ∈ s.allPoints → (s.port p).toUp = false → (s.port p).asymNext = none → s.fil.moves = [] → s.hall.widen = [] → s.hall.narrow = [] → s.hall.narrowPair = false → ¬ (0x180 ≤ p ∧ p ≤ 0x18F) →
    Does (.hallmarkPublish [p]) s fun t => p ∉ t.hall.due ∧ p ∉ t.hall.expired ∧ t.hall.withdrawn = false ∧
      (t.hallRec p).mac = hallMac (s.keys.slots.look {} (128 + s.pointOwner p)).material s.mgmt.deviceId (t.hallRec p) ∧
      (t.hallRec p).point = p ∧ (t.hallRec p).bound = s.pointBound p ∧ (t.hallRec p).state = s.tc.ts.code ∧ (t.hallRec p).gen = s.tc.gen ∧
      (t.hallRec p).leap61 = s.tc.ann61 ∧ (t.hallRec p).leap59 = s.tc.ann59 ∧
      (t.hallRec p).seq = ((s.hallRec p).seq + 1) % 65536 ∧ (t.hallRec p).issueSec = s.tc.mtc.sec % 2 ^ 32) ∧
  (∀ (s : State) (p : Nat), s.alive = true → p ∉ s.hall.expired →
    Does (.hallmarkWindowExpiry p) s fun t => t = if s.recAge (s.hallRec p) * 10 < 11 * unitsPerSec then s else { s with hall := { s.hall with expired := s.hall.expired ++ [p] } }) ∧
  (∀ (s : State) (p : Nat), s.alive = true → p < 256 → (s.port p).asymNext = none → (s.port p).asymWiden ≠ none → p ∉ s.hall.widen →
    Does (.asymSettleEnd p) s fun t => t = { s with ports := t.ports, hall := { s.hall with due := (s.hall.due ++ [p]).eraseDups } } ∧
      t.port p = { s.port p with asymWiden := none } ∧ (∀ q, q ≠ p → t.port q = s.port q)) ∧
  (∀ (s : State), s.alive = true → s.clasp.frozenPair ≠ none → s.hall.widen = [] →
    Does .pairSettleEnd s fun t => t = { s with clasp := { s.clasp with frozenPair := none }, hall := { s.hall with due := (s.hall.due ++ portAndOutputPoints).eraseDups } })

/-- A ready ref command with operands in range completes with OK: an input that was OFF becomes ABSENT and any other QUALIFYING with its run cleared, a deconfigured input becomes OFF, the configuration is as given, ref.clear_fault takes FAULT to QUALIFYING; no other input's state and no other block changes. ref.read_status answers the state code and the record of the input. Each of these answers a next state with its effect, under conditions on the state and the operands alone: refSetPps, refSetClock, refSetTimecode, refSetPendant, refSetNref, refClearFault, refReadStatus. (R83, R86, R87, R88, R90, R91, R477, R605, R606) -/
def Obligations.RefCommands : Prop :=
  (∀ (h : CmdHdr) (s : State) (a : PpsArgs), ready { op := 0x1001, plen := 24, mirrored := true } h s → a.input < 4 → 10 ≤ a.w → a.w ≤ 100000000 → a.cable.natAbs ≤ 1000000000 → a.todSec < 2 ^ 48 →
    Does (.refSetPps h a) s fun t => Completes h s { s with ref := t.ref } t [] [] ∧ (∀ q, q ≠ refPpsi a.input → t.inp q = s.inp q) ∧
      (a.enable = true → (t.inp (refPpsi a.input)).st = (if (s.inp (refPpsi a.input)).st = .off then .absent else .qualifying) ∧ (t.inp (refPpsi a.input)).run = 0 ∧
        t.pps a.input = { s.pps a.input with falling := a.falling, w := a.w, cable := a.cable, u := a.u, next := if a.todSec = 0 then none else some a.todSec, label := if a.todSec = 0 then none else (s.pps a.input).label }) ∧
      (a.enable = false → (t.inp (refPpsi a.input)).st = .off ∧ (t.inp (refPpsi a.input)).meas = none ∧ t.pps a.input = {})) ∧
  (∀ (h : CmdHdr) (s : State) (a : ClockArgs), ready { op := 0x1002, plen := 16, mirrored := true } h s → a.input < 4 → a.enable ≤ 1 → 1000 ≤ a.fN → a.fN ≤ 250000000 → 1 ≤ a.stampRate → a.stampRate ≤ 1000000 →
      a.fN % a.stampRate = 0 → 10 ≤ a.wF → a.wF ≤ 100000 →
    Does (.refSetClock h a) s fun t => Completes h s { s with ref := t.ref } t [] [] ∧ (∀ q, q ≠ refCki a.input → t.inp q = s.inp q) ∧
      (a.enable = 1 → (t.inp (refCki a.input)).st = (if (s.inp (refCki a.input)).st = .off then .absent else .qualifying) ∧
        t.ref.clk.look {} a.input = { fN := a.fN, stampRate := a.stampRate, wF := a.wF }) ∧
      (a.enable = 0 → (t.inp (refCki a.input)).st = .off)) ∧
  (∀ (h : CmdHdr) (s : State) (a : TimecodeArgs), ready { op := 0x1003, plen := 5, mirrored := true } h s → a.input < 2 →
      a.kind = 0 ∨ (a.kind = 1 ∧ a.format ≤ 7 ∧ (a.scale = 0 ∨ a.scale = 1 ∨ a.scale = 3)) ∨ (a.kind = 2 ∧ a.format ≤ 5 ∧ a.scale ≤ 1) →
      ((s.tci a.input).kind = 0 ∨ (s.tci a.input).kind = a.kind) →
    Does (.refSetTimecode h a) s fun t => Completes h s { s with ref := t.ref } t [] [] ∧ (∀ q, q ≠ refTci a.input → t.inp q = s.inp q) ∧
      (a.kind ≠ 0 → (t.inp (refTci a.input)).st = (if (s.inp (refTci a.input)).st = .off then .absent else .qualifying) ∧
        t.tci a.input = { kind := a.kind, format := a.format, scale := a.scale, ieee1344 := a.ieee1344, previous := a.previous }) ∧
      (a.kind = 0 → (t.inp (refTci a.input)).st = .off ∧ t.tci a.input = {})) ∧
  (∀ (h : CmdHdr) (s : State) (a : PendantArgs), ready { op := 0x1004, plen := 36, mirrored := true } h s → a.pend < 4 → a.freq ≤ 2 → (a.baud ≤ 3 ∨ a.baud = 0xFF) → a.steer ≤ 2 → a.g ≠ 0 → a.g.natAbs ≤ 2 ^ 31 →
      a.m < 2 ^ 24 → a.cmin ≤ a.cmax → a.cmax < 2 ^ 24 → a.pfxBits ≤ 8 → a.spiMode ≤ 1 → 1 ≤ a.sck → a.sck ≤ 25 → 1 ≤ a.healthTimeout → a.healthTimeout ≤ 60 →
      1 ≤ a.stampRate → a.stampRate ≤ 1000000 → pendFreq a.freq % a.stampRate = 0 →
    Does (.refSetPendant h a) s fun t => Completes h s { s with ref := t.ref } t [] [] ∧ (∀ q, q ≠ refPend a.pend → t.inp q = s.inp q) ∧
      (t.inp (refPend a.pend)).st = (if (s.inp (refPend a.pend)).st = .off then .absent else .qualifying) ∧
      (t.pend a.pend).cfg = a ∧ (t.pend a.pend).failed = false ∧ (t.pend a.pend).waiting = none) ∧
  (∀ (h : CmdHdr) (s : State) (a : NrefArgs), (ready { op := 0x1005, plen := 37, mirrored := true, xbIn := decide (a.enable = 1) && decide (a.auth = 2) } h s) → a.nref < 16 → a.enable = 1 → a.auth = 0 → a.port < 256 →
      (a.profile = 8 ∧ a.delay = 2 ∨ a.profile ≤ 6 ∧ a.delay ≤ 1) → (a.addrKind = 0 ∨ a.addrKind = 4 ∨ a.addrKind = 6 ∨ a.addrKind = 7) →
      10 ≤ a.accept → a.accept ≤ 10000000 → 1 ≤ a.loss → a.loss ≤ 60 → -7 ≤ a.syncLog → a.syncLog ≤ 4 → -7 ≤ a.delayLog → a.delayLog ≤ 4 → -7 ≤ a.annLog → a.annLog ≤ 4 →
      s.portOwner a.port = 0 → s.portUsed .nref a.port = false →
    Does (.refSetNref h a) s fun t => Completes h s { s with ref := t.ref } t [] [] ∧ (∀ q, q ≠ refNref a.nref → t.inp q = s.inp q) ∧
      (t.inp (refNref a.nref)).st = (if (s.inp (refNref a.nref)).st = .off then .absent else .qualifying) ∧ t.nrefIn a.nref = { cfg := a }) ∧
  (∀ (h : CmdHdr) (s : State) (r : Nat), ready { op := 0x1006, plen := 1, mirrored := true, action := true } h s → refOk r = true → (s.inp r).st = .fault →
    Does (.refClearFault h r) s fun t => Completes h s { s with ref := t.ref } t [] [] ∧ (∀ q, q ≠ r → t.inp q = s.inp q) ∧
      (t.inp r).st = .qualifying ∧ (t.inp r).run = 0 ∧ (t.inp r).fails = 0) ∧
  (∀ (h : CmdHdr) (s : State) (r : Nat), ready { op := 0x1041, plen := 1, xbOut := true } h s → refOk r = true → 304 ≤ h.xlen →
    Does (.refReadStatus h r) s fun t => Completes h s s t [fld 8 (s.refState r).code] (lastXb h t) ∧
      (lastXb h t).take 4 = [fld 8 (s.refState r).code, fld 8 (s.inp r).run, fld 8 (s.inp r).fails, fld 8 (s.inp r).missRun])

/-- A second without an in-window edge on a PPS input counts a missing pulse and, the third in a row in VALID, loses the reference; a second with one clears the mark. A gate within W_F delivers its frequency, one outside takes VALID to QUALIFYING. Clock monitor loss takes a VALID CKI or Pendant to ABSENT and sets its sensor's status; good clears the status. A good IRIG-B frame or serial message one second after the last delivers its measurement, a bad one is counted and discarded, and a missing one counts. Each of these answers a next state with its effect, under conditions on the state and the operands alone: ppsiWindowEnd, frequencyGateEnd, clockMonitorLoss, clockMonitorGood, irigFrame, serialTodMessage, missingFrame. (R87, R88, R92, R94, R95, R96, R494, R539, R605) -/
def Obligations.RefInputEvents : Prop :=
  (∀ (s : State) (n : Nat), s.alive = true → n < 4 → (s.inp (refPpsi n)).st = .valid → (s.pps n).seen = false → (s.inp (refPpsi n)).missRun ≠ 2 →
    Does (.ppsiWindowEnd n) s fun t => t = { s with ref := t.ref } ∧ t.inp (refPpsi n) = { s.inp (refPpsi n) with missRun := (s.inp (refPpsi n)).missRun + 1, meas := none, cnt := (s.inp (refPpsi n)).cnt.upd 0 0 (· + 1) } ∧
      (∀ q, q ≠ refPpsi n → t.inp q = s.inp q)) ∧
  (∀ (s : State) (n : Nat), s.alive = true → n < 4 → (s.inp (refPpsi n)).st = .valid → (s.pps n).seen = false → (s.inp (refPpsi n)).missRun = 2 →
    Does (.ppsiWindowEnd n) s fun t => (t.inp (refPpsi n)).st = .absent ∧ (t.inp (refPpsi n)).missRun = 3 ∧ (t.inp (refPpsi n)).meas = none ∧ (∀ q, q ≠ refPpsi n → t.inp q = s.inp q)) ∧
  (∀ (s : State) (n : Nat), s.alive = true → n < 4 → (s.inp (refPpsi n)).st = .valid → (s.pps n).seen = true →
    Does (.ppsiWindowEnd n) s fun t => t = { s with ref := t.ref } ∧ t.pps n = { s.pps n with seen := false } ∧ (∀ q, t.inp q = s.inp q)) ∧
  (∀ (s : State) (r : Nat) (f : Rat) (c : Bool) (n : Nat), s.alive = true → n ≤ s.tc.mtc.ns → 1 ≤ r → r ≤ 8 → (s.inp r).st = .valid → s.gateValue r = some (f, c) → f ≤ s.gateWindow r → -(s.gateWindow r) ≤ f →
    Does (.frequencyGateEnd r s.tc.mtc.sec n) s fun t => t = { s with ref := t.ref } ∧ t.inp r = { s.inp r with missRun := 0, meas := if c = true then none else some f, var := gateVar } ∧ (∀ q, q ≠ r → t.inp q = s.inp q)) ∧
  (∀ (s : State) (r : Nat) (f : Rat) (c : Bool) (n : Nat), s.alive = true → n ≤ s.tc.mtc.ns → 1 ≤ r → r ≤ 8 → (s.inp r).st = .valid → s.gateValue r = some (f, c) → s.gateWindow r < f →
    Does (.frequencyGateEnd r s.tc.mtc.sec n) s fun t => (t.inp r).st = .qualifying ∧ (t.inp r).run = 0 ∧ (t.inp r).meas = none ∧ (∀ q, q ≠ r → t.inp q = s.inp q)) ∧
  (∀ (s : State) (n : Nat), s.alive = true → n < 4 → (s.inp (refCki n)).st = .valid →
    Does (.clockMonitorLoss (.cki n)) s fun t => (t.inp (refCki n)).st = .absent ∧ (t.mgmt.sensors.look {} (0x41 + n)).status = 2 ∧ (∀ q, q ≠ refCki n → t.inp q = s.inp q)) ∧
  (∀ (s : State) (c : ClockInput), s.alive = true →
    Does (.clockMonitorGood c) s fun t => t = { s with mgmt := t.mgmt } ∧ (t.mgmt.sensors.look {} (clockSensor c)).status = 0) ∧
  (∀ (s : State) (n : Nat) (f : IrigObs) (p : Int) (c : Bool), s.alive = true → n < 2 → (s.tci n).kind = 1 → (s.inp (refTci n)).st = .valid → f.widthOk = true → f.markersOk = true → f.parityOk = true →
      irigFieldsOk (s.tci n).format f = true → s.leapDisagrees ((s.tci n).indicated f) = false → (s.tci n).pr = some (p, c) → 1 ≤ s.irigSecond (s.tci n) f → (s.tci n).last = some (s.irigSecond (s.tci n) f - 1) →
    Does (.irigFrame n f) s fun t => t = { s with ref := t.ref } ∧ (t.tci n).last = some (s.irigSecond (s.tci n) f) ∧ (t.inp (refTci n)).st = .valid ∧
      (t.inp (refTci n)).meas = if c = true then none else some (unitsPs (p - (s.irigSecond (s.tci n) f : Int) * secUnits))) ∧
  (∀ (s : State) (n : Nat) (f : IrigObs), s.alive = true → n < 2 → (s.tci n).kind = 1 → (s.inp (refTci n)).st = .absent → f.parityOk = false →
    Does (.irigFrame n f) s fun t => t = { s with ref := t.ref } ∧ (t.inp (refTci n)).cnt.look 0 2 = (s.inp (refTci n)).cnt.look 0 2 + 1 ∧ (t.inp (refTci n)).st = .absent ∧ t.ref.tci = s.ref.tci) ∧
  (∀ (s : State) (n : Nat) (m : TodMsg), s.alive = true → n < 2 → (s.tci n).kind = 2 → (s.inp (refTci n)).st ≠ .fault → m.good = false →
    Does (.serialTodMessage n m) s fun t => t = { s with ref := t.ref } ∧ t.inp (refTci n) = { s.inp (refTci n) with cnt := (s.inp (refTci n)).cnt.upd 0 2 (· + 1) }) ∧
  (∀ (s : State) (n : Nat) (m : TodMsg) (e : Int), s.alive = true → n < 2 → (s.tci n).kind = 2 → (s.tci n).scale = 1 → (s.tci n).previous = true → (s.inp (refTci n)).st = .valid →
      m.kind = 1 → m.good = true → m.expected = true → m.valid = true → 10 ≤ m.afterMs → m.afterMs ≤ 990 → (s.tci n).seen = false → (s.pps n).last = some e → (s.pps n).coarse = false →
      s.tc.leap = [] → 1 ≤ m.sec → (s.tci n).last = some (m.sec - 1) →
    Does (.serialTodMessage n m) s fun t => t = { s with ref := t.ref } ∧ (t.pps n).serial = some (e, m.sec) ∧ (t.tci n).last = some m.sec ∧ (t.tci n).seen = true ∧
      (t.inp (refTci n)).meas = some (unitsPs (e - (m.sec : Int) * secUnits) - ((s.pps n).cable : Rat))) ∧
  (∀ (s : State) (n : Nat), s.alive = true → n < 2 → (s.tci n).kind ≠ 0 → (s.inp (refTci n)).st = .absent →
    Does (.missingFrame n) s fun t => t = { s with ref := t.ref } ∧ t.inp (refTci n) = { s.inp (refTci n) with cnt := (s.inp (refTci n)).cnt.upd 0 0 (· + 1) })

/-- A faulty upstream message is counted by its cause and changes nothing of the servo; an accepted sample joins the servo's samples in VALID and an outlier is counted instead; a request is counted as outstanding; a silent master puts a VALID reference in HELD. A malformed Pendant frame or a gap makes the health STALE and counts, silence makes it STALE, an unanswered steer command is sent three times and then steering is FAILED. Each of these answers a next state with its effect, under conditions on the state and the operands alone: nrefMessage, nrefRequestSend, nrefLossTimeout, pendantFrame, pendantByteGap, pendantHealthTimeout, pendantSteerResend. (R97, R98, R100, R101, R102, R104, R106, R107, R110, R539) -/
def Obligations.NetworkAndPendantEvents : Prop :=
  (∀ (s : State) (n c : Nat) (m : NrefMsg), s.alive = true → n < 16 → (s.inp (refNref n)).st ≠ .off → s.nrefFault n m = some c →
    Does (.nrefMessage n m) s fun t => t = { s with ref := t.ref, mgmt := t.mgmt } ∧ t.inp (refNref n) = { s.inp (refNref n) with cnt := (s.inp (refNref n)).cnt.upd 0 (8 + c) (· + 1) } ∧
      t.ref.nref = s.ref.nref) ∧
  (∀ (s : State) (n : Nat) (m : NrefMsg) (v : Rat × Rat), s.alive = true → n < 16 → (s.inp (refNref n)).st = .valid → s.nrefFault n m = none → m.seqId = none → m.response = false → m.hallmark = none →
      m.sample = some v → (s.nrefIn n).ident = some m.ident → v.1 - (s.nrefIn n).predict s.upNs ≤ ((s.nrefIn n).cfg.accept : Rat) * 1000 → -(((s.nrefIn n).cfg.accept : Rat) * 1000) ≤ v.1 - (s.nrefIn n).predict s.upNs →
    Does (.nrefMessage n m) s fun t => t = { s with ref := t.ref } ∧ t.nrefIn n = { s.nrefIn n with samples := (s.nrefIn n).samples ++ [v] } ∧ (∀ q, t.inp q = s.inp q)) ∧
  (∀ (s : State) (n : Nat) (m : NrefMsg) (v : Rat × Rat), s.alive = true → n < 16 → (s.inp (refNref n)).st = .valid → s.nrefFault n m = none → m.seqId = none → m.response = false → m.hallmark = none →
      m.sample = some v → (s.nrefIn n).ident = some m.ident → ((s.nrefIn n).cfg.accept : Rat) * 1000 < v.1 - (s.nrefIn n).predict s.upNs →
    Does (.nrefMessage n m) s fun t => t = { s with ref := t.ref } ∧ (t.nrefIn n).samples = (s.nrefIn n).samples ∧ (t.nrefIn n).outliers = (s.nrefIn n).outliers + 1 ∧
      (t.inp (refNref n)).cnt.look 0 4 = (s.inp (refNref n)).cnt.look 0 4 + 1 ∧ (t.inp (refNref n)).st = .valid) ∧
  (∀ (s : State) (n : Nat), s.alive = true → n < 16 → (s.inp (refNref n)).st ≠ .off → (s.nrefIn n).cfg.auth ≠ 2 →
    Does (.nrefRequestSend n) s fun t => t = { s with ref := t.ref } ∧ t.nrefIn n = { s.nrefIn n with outstanding := (s.nrefIn n).outstanding + 1, reqSeq := ((s.nrefIn n).reqSeq + 1) % 65536 } ∧ (∀ q, q ≠ n → t.nrefIn q = s.nrefIn q)) ∧
  (∀ (s : State) (n : Nat), s.alive = true → n < 16 → (s.inp (refNref n)).st = .valid →
    Does (.nrefLossTimeout n) s fun t => (t.inp (refNref n)).st = .held ∧ (t.nrefIn n).samples = [] ∧ (t.inp (refNref n)).cnt.look 0 5 = (s.inp (refNref n)).cnt.look 0 5 + 1) ∧
  (∀ (s : State) (n k : Nat) (f : List (BitVec 8)), s.alive = true → n < 4 → (s.pend n).health ≠ .none → parseFrame f = none →
    Does (.pendantFrame n k f) s fun t => t = { s with ref := t.ref, mgmt := t.mgmt } ∧ t.pend n = { s.pend n with health := .stale } ∧
      (t.inp (refPend n)).cnt.look 0 17 = (s.inp (refPend n)).cnt.look 0 17 + 1 ∧ (t.inp (refPend n)).cnt.look 0 16 = (s.inp (refPend n)).cnt.look 0 16 + k) ∧
  (∀ (s : State) (n : Nat), s.alive = true → n < 4 → (s.pend n).health ≠ .none →
    Does (.pendantByteGap n) s fun t => t = { s with ref := t.ref, mgmt := t.mgmt } ∧ t.pend n = { s.pend n with health := .stale } ∧ (t.inp (refPend n)).cnt.look 0 17 = (s.inp (refPend n)).cnt.look 0 17 + 1) ∧
  (∀ (s : State) (n : Nat), s.alive = true → n < 4 → (s.pend n).health ≠ .none →
    Does (.pendantHealthTimeout n) s fun t => t = { s with ref := t.ref } ∧ t.pend n = { s.pend n with health := .stale } ∧ (∀ q, t.inp q = s.inp q)) ∧
  (∀ (s : State) (n : Nat), s.alive = true → n < 4 → (s.pend n).waiting ≠ none → (s.pend n).failed = false →
    Does (.pendantSteerResend n) s fun t =>
      ((s.pend n).sends < 3 → t = { s with ref := t.ref } ∧ t.pend n = { s.pend n with sends := (s.pend n).sends + 1, txd := steerFrame ((s.pend n).waiting.getD 0) (s.pend n).steerSeq } ∧ (t.inp (refPend n)).cnt.look 0 23 = (s.inp (refPend n)).cnt.look 0 23 + 1) ∧
      (3 ≤ (s.pend n).sends → t.pend n = { s.pend n with failed := true, waiting := none } ∧ t = { s with ref := t.ref, mbx := t.mbx, mgmt := t.mgmt }))

/-- A ready gnss command with operands in range completes with OK and the setting it names is as given (a rate or cable change waits for the next top of the TAI second, a survey starts at the present second, an enabled stream goes to ALIGN and a disabled one to OFF with every channel of it IDLE); nothing outside the baseband changes, but for the reference of the stream's antenna. gnss.read_epoch answers the number of channel records and the stored epoch. Each of these answers a next state with its effect, under conditions on the state and the operands alone: gnssSetStream, gnssSetSignals, gnssStart, gnssSetEpoch, gnssSetCable, gnssSetSurvey, gnssLoadSurvey, gnssSetOsnma, gnssAssertTime, gnssSetSpoof, gnssReadEpoch, gnssReadStatus. (R113, R115, R116, R117, R121, R122, R125, R127, R131, R136, R140, R478) -/
def Obligations.GnssCommands : Prop :=
  (∀ (h : CmdHdr) (s : State) (a : StreamArgs), ready { op := 0x1101, plen := 12, mirrored := true } h s → a.stream < 4 → a.enable = 1 → a.sense ≤ 1 → a.cko < 32 → 20000 ≤ a.fs → a.fs ≤ 100000 →
      a.ifHz.natAbs + (if a.stream % 2 = 0 then 2046000 else 10230000) ≤ 400 * a.fs → (s.pin a.cko).on = false → s.loopMoves (s.pin a.cko).cfg.loop = false →
    Does (.gnssSetStream h a) s fun t => Completes h s { s with gnss := t.gnss, ref := t.ref } t [] [] ∧ (t.strm a.stream).cfg = a ∧ (t.strm a.stream).st = .align ∧
      (∀ n, n ≠ a.stream → t.strm n = s.strm n) ∧ (∀ c, (t.gch c).stream = a.stream → (t.gch c).st = .idle) ∧
      (t.inp (refGnss (a.stream / 2))).st = (if (s.inp (refGnss (a.stream / 2))).st = .off then .absent else .qualifying)) ∧
  (∀ (h : CmdHdr) (s : State) (a : StreamArgs), ready { op := 0x1101, plen := 12, mirrored := true } h s → a.stream < 4 → a.enable = 0 → a.sense ≤ 1 → a.cko < 32 → 20000 ≤ a.fs → a.fs ≤ 100000 →
      a.ifHz.natAbs + (if a.stream % 2 = 0 then 2046000 else 10230000) ≤ 400 * a.fs →
    Does (.gnssSetStream h a) s fun t => Completes h s { s with gnss := t.gnss, ref := t.ref } t [] [] ∧ (t.strm a.stream).cfg = a ∧ (t.strm a.stream).st = .off ∧
      (∀ n, n ≠ a.stream → t.strm n = s.strm n) ∧ (∀ q, q ≠ refGnss (a.stream / 2) → t.inp q = s.inp q)) ∧
  (∀ (h : CmdHdr) (s : State) (sys l1c rs mask : Nat), ready { op := 0x1102, plen := 4, mirrored := true } h s → sys < 16 → l1c < 4 → rs ≤ 2 → nbit sys rs = true → mask ≤ 30 →
    Executes (.gnssSetSignals h sys l1c rs mask) h s { s with gnss := { s.gnss with systems := sys, l1c := l1c, refSys := rs, mask := mask } } [] []) ∧
  (∀ (h : CmdHdr) (s : State) (k : Nat), ready { op := 0x1103, plen := 1, mirrored := true, action := true } h s → k ≤ 2 →
    Does (.gnssStart h k) s fun t => Completes h s { s with gnss := t.gnss } t [] [] ∧ t.gnss.start = k ∧
      t.gnss.almanac = (if k = 0 then none else s.gnss.almanac) ∧ t.gnss.ephem = (if k = 2 then s.gnss.ephem else none) ∧ t.gnss.streams = s.gnss.streams ∧ t.gnss.chans = s.gnss.chans) ∧
  (∀ (h : CmdHdr) (s : State) (r : Nat), ready { op := 0x1104, plen := 1, mirrored := true } h s → r ≤ 4 →
    Executes (.gnssSetEpoch h r) h s { s with gnss := { s.gnss with rateNext := some (r, s.tc.mtc.sec + 1) } } [] []) ∧
  (∀ (h : CmdHdr) (s : State) (n d u : Nat), ready { op := 0x1105, plen := 12, mirrored := true } h s → n < 4 → d ≤ 20000000 →
    Does (.gnssSetCable h n d u) s fun t => Completes h s { s with gnss := t.gnss } t [fld 32 (s.tc.mtc.sec + 1)] [] ∧
      t.strm n = { s.strm n with cableNext := some (d, u, s.tc.mtc.sec + 1) } ∧ (∀ k, k ≠ n → t.strm k = s.strm k)) ∧
  (∀ (h : CmdHdr) (s : State) (a : SurveyArgs), ready { op := 0x1106, plen := 32, mirrored := true } h s → a.ant ≤ 3 → a.seed ≤ 1 → 600 ≤ a.duration → a.duration ≤ 604800 →
    Does (.gnssSetSurvey h a) s fun t => Completes h s { s with gnss := t.gnss } t [] [] ∧
      (∀ n, n < 2 → t.ant n = if nbit a.ant n = true then { s.ant n with survey := { (s.ant n).survey with running := true, duration := a.duration, start := s.tc.mtc.sec, seed := if a.seed = 1 then some (a.x, a.y, a.z) else none } } else s.ant n)) ∧
  (∀ (h : CmdHdr) (s : State) (n : Nat) (r : SurveyRec), ready { op := 0x1107, plen := 1, mirrored := true, xbIn := true } h s → n < 2 → r.sameHw = true →
    Does (.gnssLoadSurvey h n r) s fun t => Completes h s { s with gnss := t.gnss } t [] [] ∧
      t.ant n = { s.ant n with survey := { (s.ant n).survey with pos := some r, running := false } } ∧ (∀ k, k ≠ n → t.ant k = s.ant k)) ∧
  (∀ (h : CmdHdr) (s : State) (root : List Nat), ready { op := 0x1108, mirrored := true, xbIn := true } h s →
    Executes (.gnssSetOsnma h root) h s { s with gnss := { s.gnss with root := root } } [] []) ∧
  (∀ (h : CmdHdr) (s : State) (e : EtwArg) (u : Nat), ready { op := 0x1109, plen := 20, mirrored := true, action := true } h s → etwOk e = true → u < 10000 →
    Executes (.gnssAssertTime h e u) h s { s with gnss := { s.gnss with asserted := some (e, u) } } [] []) ∧
  (∀ (h : CmdHdr) (s : State) (a : SpoofArgs), ready { op := 0x110A, plen := 16, mirrored := true } h s → a.action = 0 → 1 ≤ a.powerTh → a.powerTh ≤ 20 → a.baselineValid = 1 →
      1000000 ≤ a.east * a.east + a.north * a.north + a.up * a.up → a.east * a.east + a.north * a.north + a.up * a.up ≤ 2500000000 →
    Executes (.gnssSetSpoof h a) h s { s with gnss := { s.gnss with powerTh := a.powerTh, vector := some (a.east, a.north, a.up) } } [] []) ∧
  (∀ (h : CmdHdr) (s : State) (a : SpoofArgs), ready { op := 0x110A, plen := 16, mirrored := true } h s → a.action = 1 →
    Executes (.gnssSetSpoof h a) h s { s with gnss := { s.gnss with learning := [0, 1, 2, 3] } } [] []) ∧
  (∀ (h : CmdHdr) (s : State) (n : Nat) (e : Epoch), ready { op := 0x1141, plen := 4, xbOut := true } h s → s.gnss.store.find? (fun x => decide (x.num = n)) = some e → (epochLayout e).bytes ≤ h.xlen →
    Executes (.gnssReadEpoch h n) h s s [fld 8 e.recs.length] (epochLayout e)) ∧
  (∀ (h : CmdHdr) (s : State), ready { op := 0x1142, xbOut := true } h s → 244 + s.gnss.root.length ≤ h.xlen →
    Does (.gnssReadStatus h) s fun t => Completes h s s t [] (lastXb h t) ∧ (lastXb h t).take 2 = [fld 8 (s.inp (refGnss 0)).st.code, bit (s.ant 0).valid])

/-- A stream that loses its clock goes to LOST, with every channel of it IDLE and its antenna's VALID reference ABSENT when both streams are out; clock edges lead to ALIGN and alignment to UP. A channel goes ACQUIRE, PULL_IN, TRACK, REACQUIRE and back by its events, the third exhausted search leaving it IDLE with its satellite marked not visible until the mark expires; regained lock sets SLIP. An allocation gives every channel a satellite of the demand or none. Each of these answers a next state with its effect, under conditions on the state and the operands alone: gnssStreamLost, gnssStreamClockReturn, gnssStreamAligned, channelAllocation, channelDetection, channelLock, pullInTimeout, channelLockLoss, reacquireTimeout, notVisibleExpiry. (R115, R116, R118, R119, R134) -/
def Obligations.GnssStreamAndChannelEvents : Prop :=
  (∀ (s : State) (n : Nat), s.alive = true → n < 4 → ((s.strm n).st = .align ∨ (s.strm n).st = .up) →
    Does (.gnssStreamLost n) s fun t => (t.strm n) = { s.strm n with st := .lost } ∧ (∀ k, k ≠ n → t.strm k = s.strm k) ∧ (∀ c, (t.gch c).stream = n → (t.gch c).st = .idle) ∧
      ((s.inp (refGnss (n / 2))).st = .valid → (s.strm (2 * (n / 2) + (1 - n % 2))).st ≠ .up → (t.inp (refGnss (n / 2))).st = .absent) ∧
      ((s.strm (2 * (n / 2) + (1 - n % 2))).st = .up → t.inp (refGnss (n / 2)) = s.inp (refGnss (n / 2)))) ∧
  (∀ (s : State) (n : Nat), s.alive = true → n < 4 → (s.strm n).st = .lost →
    Does (.gnssStreamClockReturn n) s fun t => t = { s with gnss := t.gnss } ∧ (t.strm n) = { s.strm n with st := .align } ∧ (∀ k, k ≠ n → t.strm k = s.strm k)) ∧
  (∀ (s : State) (n : Nat), s.alive = true → n < 4 → (s.strm n).st = .align →
    Does (.gnssStreamAligned n) s fun t => t = { s with gnss := t.gnss } ∧ (t.strm n) = { s.strm n with st := .up } ∧ (∀ k, k ≠ n → t.strm k = s.strm k) ∧ (∀ c, t.gch c = s.gch c)) ∧
  (∀ (s : State), s.alive = true →
    Does (.channelAllocation []) s fun t => t = { s with gnss := t.gnss } ∧ (∀ c, (t.gch c).st = .idle) ∧ t.gnss.streams = s.gnss.streams) ∧
  (∀ (s : State) (d : SatDemand), s.alive = true → d.ant < 2 → d.sys < 4 → nbit s.gnss.systems d.sys = true → (d.sys, d.sv, d.ant) ∉ s.gnss.hidden → d.l5 = false → (s.strm (2 * d.ant)).st = .up →
      s.gnss.chans = [] →
    Does (.channelAllocation [d]) s fun t => t = { s with gnss := t.gnss } ∧ t.gch 0 = { st := .acquire, sys := d.sys, sig := sigOf d.sys s.gnss.l1c false, sv := d.sv, ant := d.ant, given := some s.tc.mtc.cyc, range := s.searchRange } ∧
      (∀ c, c ≠ 0 → (t.gch c).st = .idle)) ∧
  (∀ (s : State) (c : Nat) (f : Bool) (w : Int), s.alive = true → (s.gch c).st = .acquire →
    Does (.channelDetection c { found := f, away := w }) s fun t => t = { s with gnss := t.gnss } ∧ (∀ k, k ≠ c → t.gch k = s.gch k) ∧
      (f = true → w.natAbs ≤ (s.gch c).range → t.gch c = { s.gch c with st := .pullIn, exhausted := 0 }) ∧ (f = true → (s.gch c).range < w.natAbs → t = s) ∧
      (f = false → (s.gch c).exhausted < 2 → t.gch c = { s.gch c with exhausted := (s.gch c).exhausted + 1 }) ∧
      (f = false → 2 ≤ (s.gch c).exhausted → (t.gch c).st = .idle ∧ ((s.gch c).sys, (s.gch c).sv, (s.gch c).ant) ∈ t.gnss.hidden)) ∧
  (∀ (s : State) (c : Nat), s.alive = true → (s.gch c).st = .pullIn →
    Does (.channelLock c) s fun t => t = { s with gnss := t.gnss } ∧ t.gch c = { s.gch c with st := .track } ∧ (∀ k, k ≠ c → t.gch k = s.gch k)) ∧
  (∀ (s : State) (c : Nat), s.alive = true → (s.gch c).st = .reacquire →
    Does (.channelLock c) s fun t => t = { s with gnss := t.gnss } ∧ t.gch c = { s.gch c with st := .track, slip := true } ∧ (∀ k, k ≠ c → t.gch k = s.gch k)) ∧
  (∀ (s : State) (c : Nat), s.alive = true → (s.gch c).st = .pullIn →
    Does (.pullInTimeout c) s fun t => t = { s with gnss := t.gnss } ∧ t.gch c = { s.gch c with st := .acquire } ∧ (∀ k, k ≠ c → t.gch k = s.gch k)) ∧
  (∀ (s : State) (c : Nat), s.alive = true → (s.gch c).st = .track →
    Does (.channelLockLoss c) s fun t => t = { s with gnss := t.gnss } ∧ t.gch c = { s.gch c with st := .reacquire } ∧ (∀ k, k ≠ c → t.gch k = s.gch k)) ∧
  (∀ (s : State) (c : Nat), s.alive = true → (s.gch c).st = .reacquire →
    Does (.reacquireTimeout c) s fun t => t = { s with gnss := t.gnss } ∧ t.gch c = { s.gch c with st := .acquire } ∧ (∀ k, k ≠ c → t.gch k = s.gch k)) ∧
  (∀ (s : State) (sys sv ant : Nat), s.alive = true →
    Does (.notVisibleExpiry sys sv ant) s fun t => t = { s with gnss := { s.gnss with hidden := t.gnss.hidden } } ∧ (sys, sv, ant) ∉ t.gnss.hidden ∧
      (∀ q, (sys, q, ant) ∈ s.gnss.hidden → q ≠ sv → (sys, q, ant) ∈ t.gnss.hidden))

/-- An epoch latch between tops of seconds stores an epoch of the next number, latched at the epoch grid, with a record for each channel in use, keeping at most the last 64; an invalid solution of a top-of-second epoch takes the measurement away and counts, a valid one in VALID delivers its offset. A navigation message without independent time is PENDING and a failed one counted; learned baselines, completed surveys and the almanac are stored, the almanac unless both antennas are SPOOFED. Each of these answers a next state with its effect, under conditions on the state and the operands alone: gnssEpochLatch, gnssSolution, osnmaMessage, powerBaselineLearned, surveyComplete, gnssAlmanacWrite. (R121, R122, R123, R125, R131, R134, R136, R137, R139) -/
def Obligations.GnssEpochsAndSolutions : Prop :=
  (∀ (s : State) (o : EpochObs), s.alive = true → s.gnss.stepAt = none → s.gnss.rateNext = none → s.gnss.rate = 1 → 500000000 ≤ s.tc.mtc.ns → s.tc.mtc.ns < 1000000000 → s.gnss.store.length ≤ 64 →
    Does (.gnssEpochLatch o) s fun t => t = { s with gnss := t.gnss } ∧ t.gnss.epoch = (s.gnss.epoch + 1) % 2 ^ 32 ∧ t.gnss.store.length = min 64 (s.gnss.store.length + 1) ∧
      (t.gnss.store.getLast?.map fun e => (e.num, e.latch, e.rate, e.step, e.rateChange, e.calChange, e.recs.length)) =
        some (s.gnss.epoch, { sec := s.tc.mtc.sec, ns := 500000000, frac := 0, scale := .tai }, 1, false, false, false, ((List.range 192).filter fun c => (s.gch c).reports s.tc.mtc.cyc).length) ∧
      t.gnss.rate = 1 ∧ t.gnss.calSeq = s.gnss.calSeq) ∧
  (∀ (s : State) (a : Nat) (o : SolutionObs) (e : Epoch), s.alive = true → a < 2 → s.gnss.store.getLast? = some e → e.latch.ns = 0 → o.weeks = [] → s.solves a (s.solution a e o) = false → (s.solution a e o).fault = false → (s.inp (refGnss a)).st = .valid →
      (s.ant a).missing = 0 → s.gnss.vector = none → o.broadcast = [] →
    Does (.gnssSolution a o) s fun t => (t.ant a).missing = 1 ∧ (t.inp (refGnss a)).meas = none ∧ (t.inp (refGnss a)).st = .valid ∧ (t.ant a).valid = false) ∧
  (∀ (s : State) (a : Nat) (o : SolutionObs) (e : Epoch), s.alive = true → a < 2 → s.gnss.store.getLast? = some e → e.latch.ns = 0 → o.weeks = [] → s.solves a (s.solution a e o) = true → (s.inp (refGnss a)).st = .valid →
      (s.ant a).restart = true → s.gnss.vector = none → o.broadcast = [] →
    Does (.gnssSolution a o) s fun t => (t.ant a).missing = 0 ∧ (t.ant a).valid = true ∧ (t.inp (refGnss a)).meas = some (s.solution a e o).offset ∧ (t.inp (refGnss a)).var = o.var ∧ (t.ant a).prev = some (s.solution a e o).offset) ∧
  (∀ (s : State) (a sv : Nat) (v : OsnmaMsg), s.alive = true → a < 2 → s.gstKnown = false →
    Does (.osnmaMessage sv { ant := a, msg := v }) s fun t => t = { s with gnss := t.gnss } ∧ t.gnss.nav.look .none sv = .pending) ∧
  (∀ (s : State) (a sv adkd : Nat) (data tag key : List Nat) (steps : List (List Nat)) (c : OsnmaChain), s.alive = true → a < 2 → s.gstKnown = true → s.keys.pkOut.length < 2 →
      s.gnss.chain = some c → c.unsupported = false → c.tagOk data tag key steps = false →
    Does (.osnmaMessage sv { ant := a, msg := .tag adkd data tag key steps }) s fun t => t = { s with gnss := t.gnss, mgmt := t.mgmt } ∧ t.gnss.nav.look .none sv = .failed ∧ (t.ant a).navFails = (s.ant a).navFails + 1) ∧
  (∀ (s : State) (n : Nat) (l : Int), s.alive = true → n ∈ s.gnss.learning →
    Does (.powerBaselineLearned n l) s fun t => t = { s with gnss := t.gnss, mbx := t.mbx, mgmt := t.mgmt } ∧ t.strm n = { s.strm n with baseline := some l } ∧ n ∉ t.gnss.learning) ∧
  (∀ (s : State) (a : Nat) (x y z : Int) (c : Cov3), s.alive = true → (s.ant a).survey.running = true →
    Does (.surveyComplete a x y z c) s fun t => t = { s with gnss := t.gnss, mbx := t.mbx, mgmt := t.mgmt } ∧ (t.ant a).survey.running = false ∧
      (t.ant a).survey.pos = some { x := x, y := y, z := z, cov := c, date := s.tc.mtc.sec }) ∧
  (∀ (s : State), s.alive = true →
    Does .gnssAlmanacWrite s fun t => ((s.ant 0).spoof = .spoofed → (s.ant 1).spoof = .spoofed → t = s) ∧
      ((s.ant 0).spoof ≠ .spoofed → t.gnss = { s.gnss with almanac := some s.tc.mtc.sec, ephem := some s.tc.mtc.sec } ∧ t = { s with gnss := t.gnss, mbx := t.mbx, mgmt := t.mgmt })) ∧
  (∀ (s : State) (a sv adkd : Nat) (data tag key : List Nat) (steps : List (List Nat)) (c : OsnmaChain), s.alive = true → a < 2 → s.gstKnown = true → s.keys.pkOut.length < 2 →
      s.gnss.chain = some c → c.unsupported = false → c.tagOk data tag key steps = true → s.gnss.verified.look (false, false) sv = (true, false) →
    Does (.osnmaMessage sv { ant := a, msg := .tag 4 data tag key steps }) s fun t => t = { s with gnss := t.gnss } ∧ t.gnss.nav.look .none sv = .authenticated ∧ t.gnss.chain = some { c with last := key })

/-- A ready command on the ensemble with operands in range completes with OK and sets what it names alone; ens.reset_model gives the reference its default model with no history; ens.read_status and ens.read_model answer and change nothing. Each of these answers a next state with its effect, under conditions on the state and the operands alone: ensSetMember, ensSetBandwidth, ensSetHoldover, ensSetDrift, ensSetSteer, ensResetModel, ensReadStatus, ensReadModel. (R147, R149, R163, R165, R169, R174, R175, R178, R479) -/
def Obligations.EnsembleCommands : Prop :=
  (∀ (h : CmdHdr) (s : State) (r c m : Nat), ready { op := 0x1208, plen := 3, mirrored := true } h s → refOk r = true → m ≤ 1 → c ≤ topCeiling r → (r = 0 → m = 0) →
    Does (.ensSetMember h r c m) s fun t => Completes h s { s with ens := t.ens } t [] [] ∧ t.ra r = { s.ra r with ceiling := some c, exclude := decide (m = 1) } ∧ (∀ q, q ≠ r → t.ra q = s.ra q)) ∧
  (∀ (h : CmdHdr) (s : State) (f : Nat), ready { op := 0x1209, plen := 4, mirrored := true } h s → 1 ≤ f → f ≤ 1000 →
    Does (.ensSetBandwidth h f) s fun t => Completes h s { s with ens := t.ens } t [] [] ∧ t.ens.final = f ∧ t.ens.refs = s.ens.refs) ∧
  (∀ (h : CmdHdr) (s : State) (z a : Nat), ready { op := 0x120A, plen := 8, mirrored := true } h s → 1000 ≤ z → z ≤ 2592000 → (a = 0 ∨ (3600 ≤ a ∧ a ≤ 31536000)) →
    Executes (.ensSetHoldover h z a) h s { s with ens := { s.ens with horizon := z, ageLimit := a } } [] []) ∧
  (∀ (h : CmdHdr) (s : State) (e : Nat), ready { op := 0x120B, plen := 1, mirrored := true } h s → e ≤ 1 →
    Executes (.ensSetDrift h e) h s { s with ens := { s.ens with driftEnable := decide (e = 1) } } [] []) ∧
  (∀ (h : CmdHdr) (s : State) (p c tau v : Nat), ready { op := 0x120C, plen := 12, mirrored := true } h s → p < 4 → c ≤ 1 → 3600 ≤ tau → tau ≤ 2592000 → 1 ≤ v → v ≤ 86400 → (c = 1 → (s.pend p).cfg.steer ≠ 0) →
    Does (.ensSetSteer h p c tau v) s fun t => Completes h s { s with ens := t.ens } t [] [] ∧
      t.ens.steer.look {} p = { s.ens.steer.look {} p with track := decide (c = 1), tau := tau, interval := v, count := 0 } ∧ (∀ q, q ≠ p → t.ens.steer.look {} q = s.ens.steer.look {} q)) ∧
  (∀ (h : CmdHdr) (s : State) (r : Nat), ready { op := 0x120D, plen := 1, mirrored := true, action := true } h s → refOk r = true → s.tc.ts ≠ .holdover →
    Does (.ensResetModel h r) s fun t => Completes h s { s with ens := t.ens } t [] [] ∧ (t.ra r).model = defaultModel (s.modelRow r) ∧ (t.ra r).history = 0 ∧ (∀ q, q ≠ r → t.ra q = s.ra q)) ∧
  (∀ (h : CmdHdr) (s : State), ready { op := 0x1241, xbOut := true } h s → 1024 ≤ h.xlen →
    Does (.ensReadStatus h) s fun t => Completes h s s t [fld 8 s.tc.ts.code] (lastXb h t) ∧ (lastXb h t).take 3 = [fld 8 0, fld 8 (s.ra 0).grade, fld 8 (s.ra 0).shadow]) ∧
  (∀ (h : CmdHdr) (s : State) (r : Nat), ready { op := 0x1242, plen := 1, xbOut := true } h s → refOk r = true → 64 ≤ h.xlen →
    Executes (.ensReadModel h r) h s s [] (modelRec (s.ra r).model ++ [fld 64 (s.ra r).history]))

/-- A latch holds every reference's state and measurement for the update and marks it latched. An update without a latch does nothing; in LOST with a release it enters FREE_RUN with MOSC's calibration word as steady word; in LOCKED with the forced state it enters HOLDOVER, counted from the update's latch, and saves the models; each update is counted. Model learning happens in LOCKED alone, once in 3,600 s, and re-estimates the model of each frequency member from its series; a save, once in 3,600 s, copies every model to the stored set. Each of these answers a next state with its effect, under conditions on the state and the operands alone: ensembleLatch, ensembleUpdate, modelLearning, modelSave. (R65, R66, R85, R145, R162, R163, R172) -/
def Obligations.EnsembleEvents : Prop :=
  (∀ (s : State), s.alive = true →
    Does (.ensembleLatch s.tc.mtc.sec) s fun t => t.ens.latched = true ∧ t.ens.moscMeas = (s.inp 0).meas ∧ t.tc = { s.tc with lastLatch := s.topNs, adv := t.tc.adv, advCyc := s.tc.mtc.cyc, ctrl := t.tc.ctrl } ∧
      (∀ r, r ≤ 16 → (t.inp r).latched = (s.inp r).st ∧ (t.inp r).latchedMeas = (s.inp r).meas ∧ (t.inp r).meas = none) ∧ t.clasp.gotMeas = false) ∧
  (∀ (s : State), s.alive = true → s.ens.latched = false → Does .ensembleUpdate s fun t => t = s) ∧
  (∀ (s : State), s.alive = true → s.ens.latched = true → s.tc.mtc.running = true → s.tc.ts = .lost → s.tc.releaseReq = true → s.moscGood1s = false →
    Does .ensembleUpdate s fun t => t.tc.ts = .freeRun ∧ t.tc.mtc.freq = s.tc.moscCal ∧ t.tc.releaseReq = false ∧ t.hall.src = 7 ∧ t.hall.chain = 0 ∧ t.ens.latched = false ∧ t.ens.updates = s.ens.updates + 1) ∧
  (∀ (s : State), s.alive = true → s.ens.latched = true → s.tc.mtc.running = true → s.tc.ts = .locked → s.tc.force = true →
    Does .ensembleUpdate s fun t => t.tc.ts = .holdover ∧ t.ens.holdEntry = s.tc.lastLatch ∧ t.ens.ysHold = s.ens.ys ∧ t.ens.latched = false ∧ t.ens.updates = s.ens.updates + 1) ∧
  (∀ (s : State) (n : Nat), s.alive = true → s.tc.mtc.sec ≠ n ∨ s.tc.ts ≠ .locked ∨ s.ens.learnAge < 3600 → Does (.modelLearning n) s fun t => t = s) ∧
  (∀ (s : State), s.alive = true → s.tc.ts = .locked → 3600 ≤ s.ens.learnAge → s.freqMembers.Nodup →
    Does (.modelLearning s.tc.mtc.sec) s fun t => t = { s with ens := t.ens } ∧ t.ens.learnAge = 0 ∧ (∀ r, r ∈ s.freqMembers → t.ra r = (s.ra r).learn) ∧ (∀ r, r ∉ s.freqMembers → t.ra r = s.ra r)) ∧
  (∀ (s : State), s.alive = true → s.ens.saveAge < 3600 → Does .modelSave s fun t => t = s) ∧
  (∀ (s : State), s.alive = true → 3600 ≤ s.ens.saveAge →
    Does .modelSave s fun t => t = { s with ens := { s.ens with saved := t.ens.saved, saveAge := 0 }, mbx := t.mbx, mgmt := t.mgmt } ∧
      (∀ r, refOk r = true → (t.ens.saved.look {} r).model = (s.ra r).model ∧ (t.ens.saved.look {} r).history = (s.ra r).history ∧ (t.ens.saved.look {} r).row = (s.ra r).row)) ∧
  (∀ (s : State) (n : Nat), s.alive = true → s.tc.mtc.sec ≠ n → Does (.ensembleLatch n) s fun t => t = s)

/-- A ready fil command with operands in range and no conflict completes with OK and changes Filigree alone as it says: a channel's enable, edge and divider; a divider kept or a move that waits for its record; a grant; a ring's mode and allotment (at once where the ring is empty); an engine's configuration, its gate beginning at the next top of the second; a bezel's host stream. Reads answer the records of their object. Each of these answers a next state with its effect, under conditions on the state and the operands alone: filSetChannel, filSetLoopback, filGrantChannel, filSetRing, filSetDiff, filSetStream, filAckStream, filReadStamps, filReadDiff, filReadStatus. (R180, R181, R182, R183, R196, R199, R200, R201, R202, R204, R480) -/
def Obligations.FiligreeCommands : Prop :=
  (∀ (h : CmdHdr) (s : State) (c e g n : Nat), ready { op := 0x1501, plen := 8, mirrored := true } h s → c < 24 → e ≤ 1 → g ≤ 2 → 1 ≤ n → n ≤ 65536 →
    Does (.filSetChannel h c e g n) s fun t => Completes h s { s with fil := t.fil } t [] [] ∧ (t.chan c).en = decide (e = 1) ∧ (t.chan c).edge = g ∧ (t.chan c).n = n ∧ (t.chan c).presc = 0 ∧
      ((s.chan c).en = false → e = 1 → (t.chan c).seq = 0 ∧ (t.chan c).edges = 0) ∧ (∀ k, k ≠ c → t.chan k = s.chan k)) ∧
  (∀ (h : CmdHdr) (s : State) (c k i d : Nat), ready { op := 0x1502, plen := 8, mirrored := true } h s → 40 ≤ c → c < 64 → outputOk k i = true → (k ≠ 0 ∨ (1 ≤ d ∧ d ≤ 16777216)) → s.loopTaken c (outKey k i) = false →
    Does (.filSetLoopback h c k i d) s fun t => Completes h s { s with fil := t.fil, hall := t.hall } t [] [] ∧ t.fil.chans = s.fil.chans ∧ t.fil.loopOut = s.fil.loopOut ∧
      (s.loopTarget c = outKey k i → t.fil.divider.look 0 c = d ∧ t.hall = s.hall) ∧
      (s.loopTarget c ≠ outKey k i → (c, outKey k i, d) ∈ t.fil.moves ∧ pointOfKey (s.loopTarget c) ∈ t.hall.due ∧ pointOfKey (outKey k i) ∈ t.hall.due)) ∧
  (∀ (h : CmdHdr) (s : State) (c b : Nat), ready { op := 0x1503, plen := 3, mirrored := true } h s → c < 64 → b < 64 → (s.bezel b).present = true → (((s.ring c).reader (.bezel b)).isSome = true ∨ s.consumers c < 4) →
    Does (.filGrantChannel h c b 1) s fun t => Completes h s { s with fil := t.fil } t [] [] ∧ b ∈ (t.chan c).grants ∧ ((t.ring c).reader (.bezel b)).isSome = true ∧ (∀ k, k ≠ c → t.chan k = s.chan k)) ∧
  (∀ (h : CmdHdr) (s : State) (c b : Nat), ready { op := 0x1503, plen := 3, mirrored := true } h s → c < 64 → b < 64 → (s.bezel b).present = true →
    Does (.filGrantChannel h c b 0) s fun t => Completes h s { s with fil := t.fil } t [] [] ∧ b ∉ (t.chan c).grants ∧ t.filStream b c = none ∧ (∀ k, k ≠ c → t.chan k = s.chan k)) ∧
  (∀ (h : CmdHdr) (s : State) (r m a : Nat), ready { op := 0x1504, plen := 8, mirrored := true } h s → r < 96 → (r < 24 ∨ 64 ≤ r) → m ≤ 1 → 64 ≤ a → a % 64 = 0 →
      s.allotted - (match (s.ring r).next with | some (_, x) => max x (s.ring r).allot | none => (s.ring r).allot) + max a (s.ring r).allot ≤ 131072 →
    Does (.filSetRing h r m a) s fun t => Completes h s { s with fil := t.fil } t [] [] ∧ (∀ k, k ≠ r → t.ring k = s.ring k) ∧
      ((s.ring r).recs = [] → (t.ring r).hold = decide (m = 1) ∧ (t.ring r).allot = a) ∧
      ((s.ring r).recs ≠ [] → t.ring r = { s.ring r with next := some (decide (m = 1), a) })) ∧
  (∀ (h : CmdHdr) (s : State) (a : DiffArgs), ready { op := 0x1505, plen := 24, mirrored := true } h s → a.de < 32 → a.enable = 1 → a.chA < 64 → a.chB < 64 → a.edgeA ≤ 2 → a.edgeB ≤ 2 → (a.chA ≠ a.chB ∨ a.edgeA ≠ a.edgeB) →
      1 ≤ a.w → a.w ≤ 1000000000 → 1 ≤ a.gate → a.gate ≤ 1000000 → (s.unhook a.de).consumers a.chA < 4 → (s.unhook a.de).consumers a.chB < 4 →
    Does (.filSetDiff h a) s fun t => Completes h s { s with fil := t.fil } t [] [] ∧ t.eng a.de = { cfg := a, cnt := (s.eng a.de).cnt, gateEnd := s.tc.mtc.sec + 1, gateEndMs := (s.tc.mtc.sec + 1) * 1000 } ∧
      ((t.ring a.chA).reader (.engine a.de)).isSome = true ∧ ((t.ring a.chB).reader (.engine a.de)).isSome = true ∧ (∀ k, k ≠ a.de → t.eng k = s.eng k)) ∧
  (∀ (h : CmdHdr) (s : State) (a : FilStreamArgs), ready { op := 0x1506, plen := 24, who := .granted } h s → a.ch < 64 → 8 ≤ a.n → a.n ≤ 20 → a.vector < 64 → s.dmaOk h.fn a.base (32 * 2 ^ a.n) = true → s.dmaOk h.fn a.writeback 4 = true →
      s.filReach h.fn a.ch = true → s.filFull h.fn a.ch = false →
    Does (.filSetStream h a) s fun t => Completes h s { s with fil := t.fil } t [] [] ∧ (t.filStream h.fn a.ch).map (·.cfg) = some a ∧ ((t.ring a.ch).reader (.bezel h.fn)).isSome = true) ∧
  (∀ (h : CmdHdr) (s : State) (c r : Nat) (x : FilStream), ready { op := 0x1507, plen := 8, who := .granted, action := true } h s → c < 64 → s.filReach h.fn c = true → s.filStream h.fn c = some x → (r + 2 ^ 32 - x.ack) % 2 ^ 32 ≤ x.out.length →
    Does (.filAckStream h c r) s fun t => Completes h s { s with fil := t.fil } t [] [] ∧ (t.filStream h.fn c).map (fun y => (y.ack, y.out)) = some (r, x.out.drop ((r + 2 ^ 32 - x.ack) % 2 ^ 32)) ∧ t.fil.chans = s.fil.chans) ∧
  (∀ (h : CmdHdr) (s : State) (c m : Nat) (x : FilReader), ready { op := 0x1541, plen := 4, who := .granted, xbOut := true } h s → c < 64 → s.filReach h.fn c = true → (s.ring c).reader (.bezel h.fn) = some x →
      Rec.bytes ((((s.ring c).recs.drop (x.pos - (s.ring c).base)).take m).flatMap stampLayout) ≤ h.xlen →
    Does (.filReadStamps h c m) s fun t => t.fil.chans = s.fil.chans ∧
      Completes h s { s with fil := t.fil } t [fld 32 (((s.ring c).recs.drop (x.pos - (s.ring c).base)).take m).length, fld 32 x.lost] ((((s.ring c).recs.drop (x.pos - (s.ring c).base)).take m).flatMap stampLayout)) ∧
  (∀ (h : CmdHdr) (s : State) (d : Nat), ready { op := 0x1542, plen := 1, xbOut := true } h s → d < 32 → 144 ≤ h.xlen →
    Executes (.filReadDiff h d) h s s [] (gateLayout (s.eng d).last ++ gateLayout (s.eng d).run ++ (List.range 4).flatMap fun k => [fld 48 ((s.eng d).cnt.look 0 k), rsv 16])) ∧
  (∀ (h : CmdHdr) (s : State), ready { op := 0x1543, xbOut := true } h s → 3072 ≤ h.xlen →
    Does (.filReadStatus h) s fun t => Completes h s s t [] (lastXb h t) ∧ (lastXb h t).take 3 = [fld 2 (s.chan 0).interp.st.code, bit (s.chan 0).interp.activeY, bit (s.chan 0).en]) ∧
  (∀ (h : CmdHdr) (s : State) (a : DiffArgs), ready { op := 0x1505, plen := 24, mirrored := true } h s → a.de < 32 → a.enable = 0 → (s.eng a.de).cfg.enable = 1 →
    Does (.filSetDiff h a) s fun t => Completes h s { s with fil := t.fil } t [] [] ∧ (t.eng a.de).cfg = a ∧ (t.eng a.de).as = [] ∧ (t.eng a.de).bs = [] ∧
      (t.ring (s.eng a.de).cfg.chA).reader (.engine a.de) = none ∧ (t.ring (s.eng a.de).cfg.chB).reader (.engine a.de) = none ∧ (∀ k, k ≠ a.de → t.eng k = s.eng k)) ∧
  (∀ (h : CmdHdr) (s : State) (a : FilStreamArgs), ready { op := 0x1506, plen := 24, who := .granted } h s → a.ch < 64 → a.n = 0 → s.filReach h.fn a.ch = true →
    Does (.filSetStream h a) s fun t => Completes h s { s with fil := t.fil } t [] [] ∧ t.filStream h.fn a.ch = none ∧ t.fil.rings = s.fil.rings)

/-- A qualifying edge of an undivided TIC channel with a calibrated interpolator queues a stamp of its cycle, code and polarity, its SEQ and edge count one more; draining takes the oldest stamp off the queue and gives the ring a record with its time; a waiting ring change takes effect; an engine with no second stamp in its window drops its oldest first stamp and counts it; a gate end moves the running gate to the last one; a stream write hands the next record to the host and announces it. Each of these answers a next state with its effect, under conditions on the state and the operands alone: filigreeEdge, stampDrain, filRingChangeEffect, diffMatch, diffWaitTimeout, diffGateEnd, filStreamWrite. (R183, R184, R191, R194, R197, R198, R199, R200, R203, R204) -/
def Obligations.FiligreeEvents : Prop :=
  (∀ (s : State) (c cyc code : Nat) (f : Bool) (b : BinTable), s.alive = true → c < 24 → (s.chan c).interp.table = some b → (s.chan c).interp.st ≠ .out → (s.chan c).interp.surv = false →
      (s.chan c).en = true → (s.chan c).edge = 2 → (s.chan c).n = 1 → (s.chan c).last = none → (s.chan c).queue = [] → s.armNamed c = false →
    Does (.filigreeEdge c cyc code f) s fun t => t = { s with fil := t.fil } ∧ (∀ k, k ≠ c → t.chan k = s.chan k) ∧ (t.chan c).seq = ((s.chan c).seq + 1) % 2 ^ 32 ∧ (t.chan c).edges = ((s.chan c).edges + 1) % 2 ^ 32 ∧
      ((t.chan c).queue.map fun r => (r.coarse, r.fine, r.falling, r.i, r.seq)) = [(cyc % 16777216, code % 4096, f, b.at code, (s.chan c).seq)] ∧ t.fil.rings = s.fil.rings) ∧
  (∀ (s : State) (c : Nat) (ts : Bool) (r : RawStamp) (q : List RawStamp), s.alive = true → c < 24 → (s.chan c).queue = r :: q → s.drainNext = some c → (s.resolve r.coarse).2 = false →
      (∀ d, d < 32 → (s.eng d).cfg.enable = 1 → (s.eng d).cfg.chA ≠ c ∧ (s.eng d).cfg.chB ≠ c) →
    Does (.stampDrain c ts) s fun t => t = { s with fil := t.fil } ∧ t.fil.turn = c ∧ ((s.chan c).spill = none → t.chan c = { s.chan c with queue := q }) ∧
      (∀ x, (s.chan c).spill = some x → x.pushed = s.tc.mtc.cyc → (t.chan c).queue = q ++ [x] ∧ (t.chan c).spill = none ∧ (t.chan c).cnt.look 0 2 = (s.chan c).cnt.look 0 2 - 1) ∧ t.ring c = (s.ring c).write { time := s.stampTime r, ch := c, raw := r, ovf := false, tslew := ts } ∧
      (∀ k, k ≠ c → t.chan k = s.chan k ∧ t.ring k = s.ring k)) ∧
  (∀ (s : State) (r : Nat) (m : Bool) (a : Nat), s.alive = true → (s.ring r).next = some (m, a) →
    Does (.filRingChangeEffect r) s fun t => t = { s with fil := t.fil } ∧ (t.ring r).hold = m ∧ (t.ring r).allot = a ∧ (t.ring r).next = none ∧ (t.ring r).recs = (s.ring r).recs.drop ((s.ring r).recs.length - a) ∧ (∀ k, k ≠ r → t.ring k = s.ring k)) ∧
  (∀ (s : State) (d : Nat) (a b : StampRec), s.alive = true → d < 32 → (s.eng d).cfg.enable = 1 → (s.ring (64 + d)).takes = true → (s.eng d).as = [a] → (s.eng d).bs = [(b, false)] →
      (a.time : Int) + (s.eng d).cfg.o + ((s.eng d).cfg.w : Int) * 1048576 < (b.time : Int) →
    Does (.diffMatch d) s fun t => t = { s with fil := t.fil } ∧ (t.eng d).as = [] ∧ (t.eng d).bs = [(b, false)] ∧ (t.eng d).cnt.look 0 0 = (s.eng d).cnt.look 0 0 + 1 ∧ (∀ k, k ≠ d → t.eng k = s.eng k)) ∧
  (∀ (s : State) (d : Nat) (a b c : StampRec), s.alive = true → d < 32 → (s.eng d).cfg.enable = 1 → (s.ring (64 + d)).takes = true → (s.eng d).as = [a] → (s.eng d).bs = [(b, false), (c, false)] → (s.eng d).cfg.o = 0 →
      b.time = a.time + 1 → 1 ≤ (s.eng d).cfg.w → (a.time : Int) + ((s.eng d).cfg.w : Int) * 1048576 < (c.time : Int) → a.ovf = false → b.ovf = false → a.raw.mid = false → b.raw.mid = false →
    Does (.diffMatch d) s fun t => t = { s with fil := t.fil } ∧ (t.eng d).as = [] ∧ (t.eng d).seq = ((s.eng d).seq + 1) % 2 ^ 32 ∧ (t.ring (64 + d)).put = (s.ring (64 + d)).put + 1 ∧
      ((s.eng d).gateEnd ≤ s.tc.mtc.sec → (t.eng d).run.sum = (s.eng d).run.sum + 1 ∧ (t.eng d).run.count = (s.eng d).run.count + 1)) ∧
  (∀ (s : State) (d : Nat) (a : StampRec), s.alive = true → d < 32 → (s.eng d).cfg.enable = 1 → (s.eng d).as = [a] → (s.eng d).bs = [] →
      (a.time : Int) + (s.eng d).cfg.o + 2 * (((s.eng d).cfg.w : Int) * 1048576) ≤ (s.tc.mtc.units : Int) →
    Does (.diffWaitTimeout d) s fun t => t = { s with fil := t.fil } ∧ (t.eng d).as = [] ∧ (t.eng d).cnt.look 0 0 = (s.eng d).cnt.look 0 0 + 1) ∧
  (∀ (s : State) (d : Nat), s.alive = true → d < 32 → (s.eng d).cfg.enable = 1 → (s.eng d).gateEndMs * 1000000 ≤ s.nowNs →
    Does (.diffGateEnd d) s fun t => t = { s with fil := t.fil } ∧ (t.eng d).run = {} ∧ (t.eng d).gateEndMs = (s.eng d).gateEndMs + (s.eng d).cfg.gate ∧
      (t.eng d).last = (if (s.eng d).gateEndMs = (s.eng d).gateEnd * 1000 then (s.eng d).last else (s.eng d).run)) ∧
  (∀ (s : State) (b c : Nat) (x : FilStream) (r : StampRec), s.alive = true → s.filStream b c = some x → x.next = 0 → (s.ring c).put = 1 → (s.ring c).recs = [r] → (s.ring c).readers = [{ user := .bezel b, pos := 0 }] →
      x.out.length < 2 ^ x.cfg.n → s.masterFrozen b 2 c = false → s.masterFrozen b 3 c = false → s.filReach b c = true → s.dmaOk b x.cfg.base (32 * 2 ^ x.cfg.n) = true → s.dmaOk b x.cfg.writeback 4 = true →
    Does (.filStreamWrite b c) s fun t => t = { s with fil := t.fil, mbx := t.mbx } ∧ (t.filStream b c).map (fun y => (y.put, y.next, y.out)) = some (x.put + 1, 1, x.out ++ [(0, r)]) ∧ t.fil.rings = s.fil.rings) ∧
  (∀ (s : State) (c d : Nat) (ts : Bool) (r : RawStamp) (q : List RawStamp), s.alive = true → c < 24 → d < 32 → (s.chan c).queue = r :: q → s.drainNext = some c → (s.resolve r.coarse).2 = false →
      (s.eng d).cfg.enable = 1 → (s.eng d).cfg.chA = c → (s.eng d).cfg.edgeA = 2 → (s.eng d).cfg.chB ≠ c → r.gap = true →
    Does (.stampDrain c ts) s fun t => (t.eng d).as = (s.eng d).as ++ [{ time := s.stampTime r, ch := c, raw := r, ovf := false, tslew := ts }] ∧ (t.eng d).bs = (s.eng d).bs ∧
      (t.eng d).cnt.look 0 3 = (s.eng d).cnt.look 0 3 + 1)

/-- A ready out command with operands in range and no conflict completes with OK. A loop takes its enable, rate and bandwidth, a disabled one going to FREE_RUN and an enabled one in FREE_RUN with a good time clock to ACQUIRING; a reset LOST loop goes to ACQUIRING; a frequency offset starts its ramp from the present value; spread spectrum is set; an output that is not running takes its whole configuration at once; on a running one a new OFFSET waits for the announced top of the second; the slew rate is set, and of a slew in progress that is left which the old rate has not moved (log entry 49). Status reads change nothing. Each of these answers a next state with its effect, under conditions on the state and the operands alone: outSetLoop, outResetLoop, outSetOffset, outSetSsc, outSetOutput, outSetSlew, outReadStatus. (R207, R208, R209, R211, R215, R216, R217, R219, R220, R221) -/
def Obligations.OutputCommands : Prop :=
  (∀ (h : CmdHdr) (s : State) (l e fl bw : Nat), ready { op := 0x1401, plen := 16, mirrored := true } h s → l < 8 → e ≤ 1 → fl = (s.loop l).fl → 9600000000 * 65536 ≤ fl → fl ≤ 11200000000 * 65536 → 10 ≤ bw → bw ≤ 2000 →
    Does (.outSetLoop h l e fl bw) s fun t => Completes h s { s with out := t.out, hall := t.hall } t [] [] ∧ (t.loop l).en = decide (e = 1) ∧ (t.loop l).fl = fl ∧ (t.loop l).bw = bw ∧
      (e = 0 → (t.loop l).st = .freeRun) ∧ (e = 1 → (s.loop l).st = .freeRun → s.timeClockGood = true → (t.loop l).st = .acquiring) ∧
      (e = 1 → (s.loop l).st ≠ .freeRun → (t.loop l).st = (s.loop l).st) ∧ (∀ k, k ≠ l → (t.loop k).en = (s.loop k).en ∧ (t.loop k).fl = (s.loop k).fl ∧ (t.loop k).bw = (s.loop k).bw)) ∧
  (∀ (h : CmdHdr) (s : State) (l : Nat), ready { op := 0x1402, plen := 1, mirrored := true, action := true } h s → l < 8 → (s.loop l).st = .lost →
    Does (.outResetLoop h l) s fun t => Completes h s { s with out := t.out, hall := t.hall } t [] [] ∧ t.loop l = { s.loop l with st := .acquiring } ∧ (∀ k, k ≠ l → t.loop k = s.loop k)) ∧
  (∀ (h : CmdHdr) (s : State) (l : Nat) (yo : Int) (slope : Nat), ready { op := 0x1404, plen := 12, mirrored := true } h s → l < 8 → yo.natAbs ≤ 1000000000 → 1 ≤ slope → slope ≤ 1000000 → rabs ((yo : Rat) - s.loopOffset l) ≤ 200000000 →
      dcoOk (s.loop l).fl (yo : Rat) (s.loop l).ssc (s.loop l).depth = true → (yo = 0 ∨ s.loopCarries l = false) →
    Does (.outSetOffset h l yo slope) s fun t => Completes h s { s with out := t.out } t [] [] ∧ t.out.pins = s.out.pins ∧ (∀ k, k ≠ l → t.loop k = s.loop k) ∧
      t.loop l = { s.loop l with y0 := s.loopOffset l, y1 := yo, slope := slope, rampAt := s.upNs, ramping := decide (s.loopOffset l ≠ (yo : Rat)) }) ∧
  (∀ (h : CmdHdr) (s : State) (l m d r : Nat), ready { op := 0x1405, plen := 8, mirrored := true } h s → l < 8 → 1 ≤ m → m ≤ 2 → d ≤ (if m = 1 then 50 else 25) → 30000 ≤ r → r ≤ 33000 → dcoOk (s.loop l).fl (s.loopOffset l) m d = true →
      dcoOk (s.loop l).fl ((s.loop l).y1 : Rat) m d = true → s.loopCarries l = false →
    Does (.outSetSsc h l m d r) s fun t => Completes h s { s with out := t.out } t [] [] ∧ t.out.pins = s.out.pins ∧ t.loop l = { s.loop l with ssc := m, depth := d, rate := r } ∧ (∀ k, k ≠ l → t.loop k = s.loop k)) ∧
  (∀ (h : CmdHdr) (s : State) (l d r : Nat), ready { op := 0x1405, plen := 8, mirrored := true } h s → l < 8 →
    Does (.outSetSsc h l 0 d r) s fun t => Completes h s { s with out := t.out } t [] [] ∧ t.out.pins = s.out.pins ∧ (t.loop l).ssc = 0 ∧ (∀ k, k ≠ l → t.loop k = s.loop k)) ∧
  (∀ (h : CmdHdr) (s : State) (a : OutputArgs), ready { op := 0x1403, plen := 30, mirrored := true } h s → s.outputArgsOk a = true → (s.pin (outKey a.kind a.index)).on = false → (s.pin (outKey a.kind a.index)).gen = false → (s.pin (outKey a.kind a.index)).next = none →
      (timeBearing a = false ∨ ((s.loop a.loop).ssc = 0 ∧ (s.loop a.loop).y1 = 0 ∧ s.loopOffset a.loop = 0)) → s.gbbCko (outKey a.kind a.index) = false → s.laePin (outKey a.kind a.index) = false →
    Does (.outSetOutput h a) s fun t => Completes h s { s with out := t.out, hall := t.hall } t [fld 32 0] [] ∧ t.out.loops = s.out.loops ∧ (t.pin (outKey a.kind a.index)).cfg = a ∧
      (timeBearing a = true → (t.pin (outKey a.kind a.index)).gen = false) ∧ (timeBearing a = false → (t.pin (outKey a.kind a.index)).gen = (decide (a.enable = 1) && loopAllows (s.loop a.loop).st false)) ∧
      (∀ k, k ≠ outKey a.kind a.index → t.pin k = s.pin k)) ∧
  (∀ (h : CmdHdr) (s : State) (a : OutputArgs) (f : Int), ready { op := 0x1403, plen := 30, mirrored := true } h s → s.outputArgsOk a = true → (s.pin (outKey a.kind a.index)).cfg = { a with offset := f } → f ≠ a.offset → a.enable = 1 → timeBearing a = true →
      (s.pin (outKey a.kind a.index)).gen = true → s.pinHeld (s.pin (outKey a.kind a.index)) = false → (s.loop a.loop).ssc = 0 → (s.loop a.loop).y1 = 0 → s.loopOffset a.loop = 0 →
      s.gbbCko (outKey a.kind a.index) = false → s.laePin (outKey a.kind a.index) = false →
    Does (.outSetOutput h a) s fun t => Completes h s { s with out := t.out, hall := t.hall } t [fld 32 (s.topAfter 2030000)] [] ∧ t.out.loops = s.out.loops ∧
      (t.pin (outKey a.kind a.index)).next = some (a.offset, s.topAfter 2030000) ∧ (t.pin (outKey a.kind a.index)).cfg.offset = f ∧ (t.pin (outKey a.kind a.index)).gen = true ∧ (t.pin (outKey a.kind a.index)).trans = true ∧
      (∀ k, k ≠ outKey a.kind a.index → t.pin k = s.pin k)) ∧
  (∀ (h : CmdHdr) (s : State) (k i r : Nat), ready { op := 0x1406, plen := 8, mirrored := true } h s → outputOk k i = true → 1 ≤ r → r ≤ 10000 →
    Does (.outSetSlew h k i r) s fun t => Completes h s { s with out := t.out, hall := t.hall } t [] [] ∧ (t.pin (outKey k i)).sOut = r ∧ ((s.pin (outKey k i)).next = none → (t.pin (outKey k i)).cfg = (s.pin (outKey k i)).cfg) ∧
      ((s.pin (outKey k i)).gen = true → s.pinHeld (s.pin (outKey k i)) = false → timeBearing (s.pin (outKey k i)).cfg = true → s.claimHolds = true →
        t.pin (outKey k i) = { s.pin (outKey k i) with sOut := r, rem := s.pinLeft (s.pin (outKey k i)), remAt := s.upNs, st := if s.pinLeft (s.pin (outKey k i)) = 0 then .aligned else .slewing }) ∧
      (∀ j, j ≠ outKey k i → t.pin j = s.pin j) ∧ t.out.loops = s.out.loops) ∧
  (∀ (h : CmdHdr) (s : State), ready { op := 0x1441, xbOut := true } h s → 544 ≤ h.xlen →
    Does (.outReadStatus h) s fun t => Completes h s s t [] (lastXb h t) ∧ (lastXb h t).take 2 = [fld 8 (s.loop 0).st.code, bit (s.loop 0).en])

/-- A loop moves between ACQUIRING, LOCKED, HOLDOVER and LOST on its triggers alone; an entry to LOST is counted, and at a tuning limit the clamped words, a free number (log entry 167); a ramp end ends the ramp. A time-bearing output whose other causes have ended starts at its target at its release; an OFFSET change takes effect when due and not before, the target's move added to what is left of a slew (log entry 49) or jumped; a SLEWING output that reaches its target is ALIGNED. A bead frame carries its second, bound and parity, an IRIG frame its time of day and quality, and LOCKMON the lowest duty that applies. Each of these answers a next state with its effect, under conditions on the state and the operands alone: loopLockAchieved, loopPhaseError, loopAcquireTimeout, loopHoldoverCause, loopCauseCleared, loopTuningLimit, offsetRampEnd, outputRelease, offsetChangeEffect, outputAligned, beadFrameBuild, irigFrameBuild, lockmonPeriod. (R209, R214, R215, R218, R219, R220, R224, R225, R226, R227) -/
def Obligations.OutputEvents : Prop :=
  (∀ (s : State) (l : Nat), s.alive = true → (s.loop l).st = .acquiring →
    Does (.loopLockAchieved l) s fun t => t = { s with out := t.out, hall := t.hall } ∧ t.loop l = { s.loop l with st := .locked } ∧ (∀ k, k ≠ l → t.loop k = s.loop k)) ∧
  (∀ (s : State) (l : Nat), s.alive = true → (s.loop l).st ≠ .acquiring → Does (.loopLockAchieved l) s fun t => t = s) ∧
  (∀ (s : State) (l : Nat), s.alive = true → (s.loop l).st = .locked →
    Does (.loopPhaseError l) s fun t => t = { s with out := t.out, hall := t.hall } ∧ t.loop l = { s.loop l with st := .acquiring } ∧ (∀ k, k ≠ l → t.loop k = s.loop k)) ∧
  (∀ (s : State) (l : Nat), s.alive = true → (s.loop l).st = .acquiring →
    Does (.loopAcquireTimeout l) s fun t => t = { s with out := t.out, hall := t.hall, mbx := t.mbx, mgmt := t.mgmt } ∧ t.loop l = { s.loop l with st := .lost, cnt := (s.loop l).cnt.upd 0 1 (· + 1) } ∧ (∀ k, k ≠ l → t.loop k = s.loop k)) ∧
  (∀ (s : State) (l : Nat), s.alive = true → ((s.loop l).st = .acquiring ∨ (s.loop l).st = .locked) →
    Does (.loopHoldoverCause l) s fun t => t = { s with out := t.out, hall := t.hall } ∧ t.loop l = { s.loop l with st := .holdover } ∧ (∀ k, k ≠ l → t.loop k = s.loop k)) ∧
  (∀ (s : State) (l : Nat), s.alive = true → (s.loop l).st = .holdover → s.timeClockGood = true → (s.loop l).tdc = false →
    Does (.loopCauseCleared l) s fun t => t = { s with out := t.out, hall := t.hall } ∧ t.loop l = { s.loop l with st := .acquiring } ∧ (∀ k, k ≠ l → t.loop k = s.loop k)) ∧
  (∀ (s : State) (l : Nat), s.alive = true → (s.loop l).st ≠ .freeRun → (s.loop l).st ≠ .lost →
    Does (.loopTuningLimit l) s fun t => t = { s with out := t.out, hall := t.hall, mbx := t.mbx, mgmt := t.mgmt } ∧ t.loop l = { s.loop l with st := .lost, cnt := (t.loop l).cnt } ∧ (t.loop l).cnt.look 0 1 = (s.loop l).cnt.look 0 1 + 1 ∧
      (t.loop l).cnt.look 0 0 = (s.loop l).cnt.look 0 0 + Config.clampedWords ((s.loop l).cnt.look 0 0) ∧ (∀ k, k ≠ l → t.loop k = s.loop k)) ∧
  (∀ (s : State) (l : Nat), s.alive = true →
    Does (.offsetRampEnd l) s fun t => t = { s with out := t.out } ∧ t.out.pins = s.out.pins ∧ t.loop l = { s.loop l with ramping := false } ∧ (∀ k, k ≠ l → t.loop k = s.loop k)) ∧
  (∀ (s : State) (k i : Nat), s.alive = true → outputOk k i = true → timeBearing (s.pin (outKey k i)).cfg = true → (s.pin (outKey k i)).gen = false → s.pinHeld (s.pin (outKey k i)) = false →
    Does (.outputRelease k i) s fun t => t = { s with out := t.out, hall := t.hall } ∧ t.out.loops = s.out.loops ∧ (∀ j, j ≠ outKey k i → t.pin j = s.pin j) ∧
      t.pin (outKey k i) = { s.pin (outKey k i) with gen := true, rem := 0, st := if s.claimHolds = true then .aligned else .squelched }) ∧
  (∀ (s : State) (k i : Nat) (f : Int) (due : Nat), s.alive = true → (s.pin (outKey k i)).next = some (f, due) → s.sec < due → Does (.offsetChangeEffect k i) s fun t => t = s) ∧
  (∀ (s : State) (k i : Nat) (f : Int) (due : Nat), s.alive = true → outputOk k i = true → (s.pin (outKey k i)).next = some (f, due) → (s.pin (outKey k i)).cover = some due → due ≤ s.sec → (s.pin (outKey k i)).gen = true →
      timeBearing (s.pin (outKey k i)).cfg = true → s.pinHeld (s.pin (outKey k i)) = false → s.claimHolds = true → s.offsetMove (s.pin (outKey k i)) f ≠ 0 →
    Does (.offsetChangeEffect k i) s fun t => t = { s with out := t.out, hall := t.hall } ∧ t.out.loops = s.out.loops ∧ (∀ j, j ≠ outKey k i → t.pin j = s.pin j) ∧
      (t.pin (outKey k i)).cfg = { (s.pin (outKey k i)).cfg with offset := f } ∧ (t.pin (outKey k i)).next = none ∧ (t.pin (outKey k i)).gen = true ∧
      (t.pin (outKey k i)).rem = (if (s.pin (outKey k i)).cfg.align = 0 then s.pinLeft (s.pin (outKey k i)) + s.offsetMove (s.pin (outKey k i)) f else 0) ∧
      ((t.pin (outKey k i)).rem ≠ 0 → (t.pin (outKey k i)).st = .slewing) ∧ ((t.pin (outKey k i)).rem = 0 → (t.pin (outKey k i)).st = .aligned)) ∧
  (∀ (s : State) (k i : Nat), s.alive = true → outputOk k i = true → (s.pin (outKey k i)).gen = true → (s.pin (outKey k i)).rem ≠ 0 → timeBearing (s.pin (outKey k i)).cfg = true →
      s.pinHeld (s.pin (outKey k i)) = false → s.claimHolds = true →
    Does (.outputAligned k i) s fun t => t = { s with out := t.out, hall := t.hall } ∧ t.out.loops = s.out.loops ∧ t.pin (outKey k i) = { s.pin (outKey k i) with rem := 0, st := .aligned } ∧ (∀ j, j ≠ outKey k i → t.pin j = s.pin j)) ∧
  (∀ (s : State) (c : Nat), s.alive = true → c < 4 → (s.pin (40 + c)).cfg.mode = 3 → (s.pin (40 + c)).cfg.scale = 0 → (s.pin (40 + c)).gen = true →
    Does (.beadFrameBuild c) s fun t => t = { s with out := t.out } ∧ t.out.loops = s.out.loops ∧ (∀ j, j ≠ 40 + c → t.pin j = s.pin j) ∧ t.pin (40 + c) = { s.pin (40 + c) with bead := (t.pin (40 + c)).bead } ∧
      (t.pin (40 + c)).bead.map (fun b => (b.bits.length, b.bits.take 40, (b.bits.drop 42).take 32, b.bits.foldl xor false)) =
        some (96, lsbBits 40 (s.frameSecond (s.pin (40 + c))), lsbBits 32 (s.frameRecord (s.pin (40 + c)) (40 + c)).bound, false)) ∧
  (∀ (s : State) (c : Nat), s.alive = true → c < 4 → (s.pin (40 + c)).cfg.mode = 4 → (s.pin (40 + c)).cfg.scale = 0 → (s.pin (40 + c)).gen = true →
    Does (.irigFrameBuild c) s fun t => t = { s with out := t.out } ∧ t.out.loops = s.out.loops ∧ (∀ j, j ≠ 40 + c → t.pin j = s.pin j) ∧ t.pin (40 + c) = { s.pin (40 + c) with irig := (t.pin (40 + c)).irig } ∧
      (t.pin (40 + c)).irig.map (fun f => (f.format, f.hh * 3600 + f.mm * 60 + f.ss, f.sbs, f.quality)) =
        some ((s.pin (40 + c)).cfg.irig, s.frameSecond (s.pin (40 + c)) % 86400, s.frameSecond (s.pin (40 + c)) % 86400, qualityOf (s.frameRecord (s.pin (40 + c)) (40 + c)).bound)) ∧
  (∀ (s : State), s.alive = true →
    Does .lockmonPeriod s fun t => t = { s with out := { s.out with lockmon := t.out.lockmon } } ∧ ((s.tc.ts = .lost ∨ s.squelched = true) → t.out.lockmon = 2) ∧
      (s.tc.ts = .freeRun → s.squelched = false → (∀ l, l < 8 → (s.loop l).en = true → (s.loop l).st ≠ .lost) → t.out.lockmon = 4) ∧
      (t.out.lockmon = 14 → s.tc.ts = .locked ∧ s.squelched = false ∧ (∀ l, l < 8 → (s.loop l).en = true → (s.loop l).st = .locked)))

/-- A ready la command with operands in range and no conflict completes with OK and changes the Line-Angle Engine alone. A tap that was OFF starts in WARMUP, a virtual tap in SEEK, each with its configuration and its clock; a disabled one is OFF and keeps its counters and grants; a slot is ARMED, for crossings after now and from START on; a cancelled one is FREE, or after its event if committed; streams are opened and their blocks acknowledged; estimates and status are read. Each of these answers a next state with its effect, under conditions on the state and the operands alone: laSetTap, laSetVtap, laGrantTap, laSetEvent, laCancelEvent, laSetStream, laAckStream, laReadEstimates, laReadStatus. (R230, R231, R232, R235, R242, R247, R249, R253, R254) -/
def Obligations.LineAngleCommands : Prop :=
  (∀ (h : CmdHdr) (s : State) (n : Nat) (a : TapArgs) (d : Nat), ready { op := 0x1601, plen := 25, mirrored := true } h s → n < 8 → a.enable = 1 → tapArgsOk a = true → d ≤ 1000000 →
    Does (.laSetTap h n a d) s fun t => Completes h s { s with la := t.la, hall := t.hall } t [] [] ∧ (t.tap n).cfg = a ∧ (t.tap n).dTap = d ∧ (t.tap n).st = (if (s.tap n).st = .off then .warmup else (s.tap n).st) ∧
      (t.la.tapck.any fun p => p.1 = n / 4) = true ∧ (∀ k, k ≠ n → t.tap k = s.tap k) ∧ t.la.slots = s.la.slots ∧ t.la.streams = s.la.streams) ∧
  (∀ (h : CmdHdr) (s : State) (n : Nat) (a : TapArgs) (d : Nat), ready { op := 0x1601, plen := 25, mirrored := true } h s → n < 8 → a.enable = 0 →
    Does (.laSetTap h n a d) s fun t => Completes h s { s with la := t.la, hall := t.hall } t [] [] ∧ (t.tap n).st = .off ∧ (t.tap n).model = none ∧ (t.tap n).cnt = (s.tap n).cnt ∧ (t.tap n).grants = (s.tap n).grants ∧
      (∀ k, k ≠ n → t.tap k = s.tap k) ∧ t.la.slots = s.la.slots) ∧
  (∀ (h : CmdHdr) (s : State) (a : VtapArgs), ready { op := 0x1602, mirrored := true, xbIn := true } h s → a.vtap < 8 → a.tap.enable = 1 → tapArgsOk a.tap = true → a.port < 256 → 1 ≤ a.noAsdu → a.noAsdu ≤ 8 → a.smpSynch < 4 → 960 ≤ a.sps → a.sps ≤ 15360 →
      a.valueOff + 4 ≤ a.dataLen → a.qualityOff + 4 ≤ a.dataLen → a.lPub ≤ 10000 → 1 ≤ a.svid.length → a.svid.length ≤ 129 → s.portOwner a.port = 0 → s.portUsed .vtap a.port = false →
    Does (.laSetVtap h a) s fun t => Completes h s { s with la := t.la, hall := t.hall } t [] [] ∧ (t.tap (8 + a.vtap)).cfg = a.tap ∧ (t.tap (8 + a.vtap)).vcfg = some a ∧
      (t.tap (8 + a.vtap)).st = (if (s.tap (8 + a.vtap)).st = .off then .seek else (s.tap (8 + a.vtap)).st) ∧ (∀ k, k ≠ 8 + a.vtap → t.tap k = s.tap k)) ∧
  (∀ (h : CmdHdr) (s : State) (n b : Nat), ready { op := 0x1603, plen := 3, mirrored := true } h s → n < 16 → b < 64 → (s.bezel b).present = true →
    Does (.laGrantTap h n b 1) s fun t => Completes h s { s with la := t.la } t [] [] ∧ b ∈ (t.tap n).grants ∧ t.tap n = { s.tap n with grants := (t.tap n).grants } ∧ (∀ k, k ≠ n → t.tap k = s.tap k) ∧ t.la.streams = s.la.streams) ∧
  (∀ (h : CmdHdr) (s : State) (n b : Nat), ready { op := 0x1603, plen := 3, mirrored := true } h s → n < 16 → b < 64 → (s.bezel b).present = true →
    Does (.laGrantTap h n b 0) s fun t => Completes h s { s with la := t.la } t [] [] ∧ b ∉ (t.tap n).grants ∧ t.laStream b n = none ∧ (∀ k, k ≠ n → t.tap k = s.tap k)) ∧
  (∀ (h : CmdHdr) (s : State) (a : EventArgs), ready { op := 0x1604, plen := 32, mirrored := true } h s → a.slot < 32 → a.tap < 16 → a.action ≤ 2 → a.policy ≤ 1 → targetOk a = true → (a.action = 2 → 100 ≤ a.window ∧ a.window ≤ 1000000000) →
      (s.slot a.slot).st ≠ .committed → s.targetTaken a = false →
    Does (.laSetEvent h a) s fun t => Completes h s { s with la := t.la } t [] [] ∧ t.la.taps = s.la.taps ∧ (∀ k, k ≠ a.slot → t.slot k = s.slot k) ∧
      t.slot a.slot = { s.slot a.slot with st := .armed, cfg := a, after := s.tc.mtc.units, cancel := false, miss := false }) ∧
  (∀ (h : CmdHdr) (s : State) (n : Nat), ready { op := 0x1605, plen := 1, mirrored := true, action := true } h s → n < 32 →
    Does (.laCancelEvent h n) s fun t => Completes h s { s with la := t.la } t [] [] ∧ t.la.taps = s.la.taps ∧ (∀ k, k ≠ n → t.slot k = s.slot k) ∧
      ((s.slot n).st = .committed → t.slot n = { s.slot n with cancel := true }) ∧ ((s.slot n).st ≠ .committed → t.slot n = { s.slot n with st := .free })) ∧
  (∀ (h : CmdHdr) (s : State) (n e v b : Nat), ready { op := 0x1606, plen := 16, who := .granted } h s → n < 16 → 4 ≤ e → e ≤ 16 → v < 64 → s.dmaOk h.fn b (256 * 2 ^ e) = true → s.laReach h.fn n = true →
    Does (.laSetStream h n e v b) s fun t => Completes h s { s with la := { s.la with streams := t.la.streams } } t [] [] ∧ t.laStream h.fn n = some { bezel := h.fn, tap := n, n := e, vector := v, base := b }) ∧
  (∀ (h : CmdHdr) (s : State) (n q : Nat) (x : LaStream), ready { op := 0x1607, plen := 8, who := .granted, action := true } h s → n < 16 → s.laReach h.fn n = true → s.laStream h.fn n = some x → x.returned q ≤ x.out.length →
    Does (.laAckStream h n q) s fun t => Completes h s { s with la := { s.la with streams := t.la.streams } } t [] [] ∧ t.laStream h.fn n = some { x with out := x.out.drop (x.returned q) }) ∧
  (∀ (h : CmdHdr) (s : State) (n k m : Nat), ready { op := 0x1641, plen := 4, who := .granted, xbOut := true } h s → n < 16 → k ≤ 1 → s.laReach h.fn n = true →
      Rec.bytes ((((s.tap n).recs.filter fun x => x.phasor = decide (k = 1)).drop (((s.tap n).recs.filter fun x => x.phasor = decide (k = 1)).length - m)).flatMap (laRecordLayout n)) ≤ h.xlen →
    Executes (.laReadEstimates h n k m) h s s [fld 32 (min m ((s.tap n).recs.filter fun x => x.phasor = decide (k = 1)).length)]
      ((((s.tap n).recs.filter fun x => x.phasor = decide (k = 1)).drop (((s.tap n).recs.filter fun x => x.phasor = decide (k = 1)).length - m)).flatMap (laRecordLayout n))) ∧
  (∀ (h : CmdHdr) (s : State) (n : Nat), ready { op := 0x1642, plen := 1, who := .granted, xbOut := true } h s → n < 16 → s.laReach h.fn n = true → 4096 ≤ h.xlen →
    Does (.laReadStatus h n) s fun t => Completes h s s t [fld 8 (s.tap n).st.code] (lastXb h t) ∧ (lastXb h t).head? = some (fld 8 (s.tap n).st.code)) ∧
  (∀ (h : CmdHdr) (s : State) (n e v b : Nat), ready { op := 0x1606, plen := 16, who := .granted } h s → n < 16 → e = 0 → s.laReach h.fn n = true →
    Does (.laSetStream h n e v b) s fun t => Completes h s { s with la := { s.la with streams := t.la.streams } } t [] [] ∧ t.laStream h.fn n = none) ∧
  (∀ (h : CmdHdr) (s : State) (a : VtapArgs), ready { op := 0x1602, mirrored := true, xbIn := true } h s → a.vtap < 8 → a.tap.enable = 0 →
    Does (.laSetVtap h a) s fun t => Completes h s { s with la := t.la, hall := t.hall } t [] [] ∧ (t.tap (8 + a.vtap)).st = .off ∧ (t.tap (8 + a.vtap)).vcfg = none ∧
      (t.tap (8 + a.vtap)).cnt = (s.tap (8 + a.vtap)).cnt ∧ (t.tap (8 + a.vtap)).grants = (s.tap (8 + a.vtap)).grants ∧ (∀ k, k ≠ 8 + a.vtap → t.tap k = s.tap k))

/-- A warm tap goes to SEEK at its first valid sample; a sample in range is the last valid one and enters the tap's host stream, a stuck one is counted and invalid; a frame on time and in order gives the virtual tap its sample, a late one is counted. A good fit takes SEEK to TRACK with its model held and a record produced, a fit without a full window takes TRACK to PREDICT; TRANSIENT and PREDICT end in SEEK at their limits. A committed event fires at its instant, pulses its pin and frees a slot that fires once; an open window closes at its end. Each of these answers a next state with its effect, under conditions on the state and the operands alone: tapFirstValidSample, tapSample, svFrame, laStreamWrite, laEstimate, phasorReport, transientTimeout, predictHoldLimit, armWindowClose, scheduledEventFire. (R232, R233, R234, R236, R238, R240, R241, R242, R246, R249, R250, R254) -/
def Obligations.LineAngleEvents : Prop :=
  (∀ (s : State) (n c : Nat), s.alive = true → n < 8 → (s.tap n).st = .warmup → (s.la.tapck.find? fun p => p.1 = n / 4) = some (n / 4, c) → 13894 * 125 ≤ (s.tc.mtc.cyc - c) * 4 →
    Does (.tapFirstValidSample n) s fun t => t = { s with la := t.la, hall := t.hall } ∧ t.tap n = { s.tap n with st := .seek, await := true } ∧ (∀ k, k ≠ n → t.tap k = s.tap k)) ∧
  (∀ (s : State) (n : Nat) (d : Rat) (x : LaStream), s.alive = true → n < 8 → (s.tap n).st ≠ .off → (s.tap n).st ≠ .warmup → 0 ≤ d → d ≤ 99999 / 100000 → s.la.streams = [x] → x.tap = n → x.cur.words ≠ [] → x.cur.words.length < 55 →
    Does (.tapSample n d false) s fun t => t = { s with la := t.la } ∧ t.tap n = { s.tap n with lastValid := (((s.tc.mtc.units : Int) - (244925 + (s.tap n).dTap : Nat) * 1048576).toNat) } ∧ (∀ k, k ≠ n → t.tap k = s.tap k) ∧
      t.la.streams = [{ x with cur := { x.cur with words := x.cur.words ++ [sampleWord (roundHalf ((d - 1 / 2) * 1048576)) true false false] } }]) ∧
  (∀ (s : State) (n : Nat) (d : Rat), s.alive = true → n < 8 → (s.tap n).st ≠ .off → (s.tap n).st ≠ .warmup →
    Does (.tapSample n d true) s fun t => t = { s with la := t.la } ∧ (t.tap n).cnt.look 0 0 = (s.tap n).cnt.look 0 0 + 1 ∧ (t.tap n).lastValid = (s.tap n).lastValid ∧ (t.tap n).st = (s.tap n).st ∧ (∀ k, k ≠ n → t.tap k = s.tap k)) ∧
  (∀ (s : State) (v : Nat) (f : SvFrame) (a : VtapArgs) (x : SvAsdu), s.alive = true → v < 8 → (s.tap (8 + v)).vcfg = some a → (s.tap (8 + v)).st ≠ .off → f.dest = a.dest → f.appid = a.appid → f.svid = a.svid →
      f.asdus = [x] → a.noAsdu = 1 → x.len = a.dataLen → svLate a f = false → svInstant a f.rx x.cnt ∉ (s.tap (8 + v)).accepted → svContinues a.sps (s.tap (8 + v)).lastCnt [x.cnt] = true → f.synch = 2 → nbit a.smpSynch 1 = true → x.good = true →
    Does (.svFrame v f) s fun t => t = { s with la := t.la } ∧ t.tap (8 + v) = { s.tap (8 + v) with lastValid := (svInstant a f.rx x.cnt).toNat, lastCnt := some x.cnt, lastAt := some (svInstant a f.rx x.cnt), accepted := ((s.tap (8 + v)).accepted.filter fun y => decide (svInstant a f.rx x.cnt - 20 * (unitsPerMs : Int) ≤ y)) ++ [svInstant a f.rx x.cnt] } ∧ (∀ k, k ≠ 8 + v → t.tap k = s.tap k)) ∧
  (∀ (s : State) (v : Nat) (f : SvFrame) (a : VtapArgs) (x : SvAsdu), s.alive = true → v < 8 → (s.tap (8 + v)).vcfg = some a → (s.tap (8 + v)).st ≠ .off → f.dest = a.dest → f.appid = a.appid → f.svid = a.svid →
      f.asdus = [x] → a.noAsdu = 1 → x.len = a.dataLen → svLate a f = true →
    Does (.svFrame v f) s fun t => t = { s with la := t.la } ∧ t.tap (8 + v) = { s.tap (8 + v) with cnt := (t.tap (8 + v)).cnt, lastBad := some (max (svInstant a f.rx x.cnt).toNat ((s.tap (8 + v)).lastBad.getD 0)) } ∧ (t.tap (8 + v)).cnt.look 0 2 = (s.tap (8 + v)).cnt.look 0 2 + 1 ∧
      (∀ k, k ≠ 8 + v → t.tap k = s.tap k) ∧ t.la.streams = s.la.streams) ∧
  (∀ (s : State) (n : Nat) (x : LaStream) (b : LaBlock) (r : List LaBlock), s.alive = true → s.la.streams = [x] → x.tap = n → x.wait = b :: r → x.recs = [] → x.out.length < 2 ^ x.n → s.masterFrozen x.bezel 2 (256 + n) = false → s.masterFrozen x.bezel 3 (256 + n) = false → s.laReach x.bezel n = true →
      s.dmaOk x.bezel x.base (256 * 2 ^ x.n) = true →
    Does (.laStreamWrite n) s fun t => t = { s with la := t.la, mbx := t.mbx } ∧ t.la = { s.la with streams := [{ x with wait := r, out := x.out ++ [b], image := (laBlockLayout n b).toBytes }] }) ∧
  (∀ (s : State) (n : Nat) (x : LaFit), s.alive = true → n < 16 → (s.tap n).st = .seek → (s.tap n).lastBad = none → (s.tap n).model = none → x.two = true → ((s.tap n).cfg.aMin : Rat) ≤ x.level * 1000 →
      rabs (x.f - ((s.tap n).nominal : Rat)) ≤ 5 → x.residual * 1000 ≤ ((s.tap n).cfg.rTh : Rat) → (∀ k, k < 32 → (s.slot k).fired = []) →
    Does (.laEstimate n x) s fun t => t = { s with la := t.la, hall := t.hall } ∧ (t.tap n).st = .track ∧ (t.tap n).model = some (fitModel x) ∧ (t.tap n).await = true ∧ (t.tap n).eseq = ((s.tap n).eseq + 1) % 2 ^ 32 ∧
      (t.tap n).held.length = (s.tap n).held.length + 1 ∧ (∀ k, k ≠ n → t.tap k = s.tap k)) ∧
  (∀ (s : State) (n : Nat) (x : LaFit) (m : LaModel), s.alive = true → n < 16 → (s.tap n).st = .track → (s.tap n).model = some m → x.full = false →
    Does (.laEstimate n x) s fun t => t = { s with la := t.la, hall := t.hall } ∧ (t.tap n).st = .predict ∧ (t.tap n).model = some m ∧ (∀ k, k ≠ n → t.tap k = s.tap k)) ∧
  (∀ (s : State) (n : Nat) (x : LaFit), s.alive = true → n < 16 → (s.tap n).st = .track → (s.tap n).await = false → reportingAt (s.tap n).cfg.reportRate x.instant = true → (s.tap n).recs.length < 256 →
    Does (.phasorReport n x) s fun t => t = { s with la := t.la } ∧ (t.tap n).eseq = ((s.tap n).eseq + 1) % 2 ^ 32 ∧ (t.tap n).recs.length = (s.tap n).recs.length + 1 ∧
      ((t.tap n).recs.getLast?.map fun y => (y.at_, y.phasor, y.pred, y.eseq)) = some (x.instant, true, false, (s.tap n).eseq) ∧ (∀ k, k ≠ n → t.tap k = s.tap k)) ∧
  (∀ (s : State) (n : Nat), s.alive = true → (s.tap n).st = .transient → (s.tap n).transientAt + unitsPerSec ≤ s.tc.mtc.units →
    Does (.transientTimeout n) s fun t => t = { s with la := t.la, hall := t.hall } ∧ (t.tap n).st = .seek ∧ (t.tap n).model = none ∧ (∀ k, k ≠ n → t.tap k = s.tap k)) ∧
  (∀ (s : State) (n : Nat), s.alive = true → s.tc.mtc.units < (s.tap n).transientAt + unitsPerSec → Does (.transientTimeout n) s fun t => t = s) ∧
  (∀ (s : State) (n : Nat), s.alive = true → (s.tap n).st = .predict → (s.tap n).lastValid + (s.tap n).cfg.hold * unitsPerMs ≤ s.tc.mtc.units →
    Does (.predictHoldLimit n) s fun t => t = { s with la := t.la, hall := t.hall } ∧ (t.tap n).st = .seek ∧ (t.tap n).model = none ∧ (∀ k, k ≠ n → t.tap k = s.tap k)) ∧
  (∀ (s : State) (n e c : Nat), s.alive = true → (s.slot n).window = some (e, c) → e ≤ s.tc.mtc.units →
    Does (.armWindowClose n) s fun t => t = { s with la := t.la } ∧ t.slot n = { s.slot n with window := none } ∧ t.la.taps = s.la.taps ∧ (∀ k, k ≠ n → t.slot k = s.slot k)) ∧
  (∀ (s : State) (n : Nat), s.alive = true → n < 32 → (s.slot n).st = .committed → (s.slot n).cfg.action = 0 → (s.slot n).cfg.rept = 0 → (s.slot n).cancel = false → (s.pin (pulseKey (s.slot n).cfg.target)).pulse = none →
    Does (.scheduledEventFire n) s fun t => t = { s with la := t.la, out := t.out } ∧ t.slot n = { s.slot n with st := .free, fired := (s.slot n).fired ++ [{ te := (s.slot n).te, bound := (s.slot n).bound, tap := (s.slot n).cfg.tap, angle := (s.slot n).cfg.angle }] } ∧ (∀ k, k ≠ n → t.slot k = s.slot k) ∧
      t.pin (pulseKey (s.slot n).cfg.target) = { s.pin (pulseKey (s.slot n).cfg.target) with pulse := some (s.slot n).te } ∧ t.out.loops = s.out.loops) ∧
  (∀ (s : State) (n : Nat), s.alive = true → n < 32 → (s.slot n).st = .committed → (s.slot n).cfg.action = 2 → (s.slot n).cancel = true →
    Does (.scheduledEventFire n) s fun t => t = { s with la := t.la } ∧ (∀ k, k ≠ n → t.slot k = s.slot k) ∧
      t.slot n = { s.slot n with st := .free, cancel := false, fired := (s.slot n).fired ++ [{ te := (s.slot n).te, bound := (s.slot n).bound, tap := (s.slot n).cfg.tap, angle := (s.slot n).cfg.angle }], window := some ((s.slot n).te + (s.slot n).cfg.window * 1048576, (s.slot n).cfg.target) }) ∧
  (∀ (s : State) (n : Nat) (x : LaStream), s.alive = true → s.la.streams = [x] → x.tap = n → x.wait = [] → x.recs ≠ [] → s.masterFrozen x.bezel 2 (256 + n) = false → s.masterFrozen x.bezel 3 (256 + n) = false → s.laReach x.bezel n = true →
      s.dmaOk x.bezel x.base (256 * 2 ^ x.n) = true →
    Does (.laStreamWrite n) s fun t => t = { s with la := t.la, mbx := t.mbx } ∧
      t.la = { s.la with streams := [{ x with recs := [], recImage := x.recImage ++ x.recs.flatMap fun r => (laRecordLayout n r).toBytes }] }) ∧
  (∀ (s : State) (n t0 : Nat), s.alive = true → n < 32 → (s.slot n).st = .committed → (s.slot n).cfg.action = 0 → (s.pin (pulseKey (s.slot n).cfg.target)).pulse = some t0 →
    Does (.scheduledEventFire n) s fun t => t.out.loops = s.out.loops ∧ (∀ k, k ≠ pulseKey (s.slot n).cfg.target → t.pin k = s.pin k) ∧
      ((((s.slot n).te : Int) - (t0 : Int)).natAbs < 838861 → t.out = s.out ∧ (t.slot n).cnt.look 0 2 = (s.slot n).cnt.look 0 2 + 1) ∧
      (838861 ≤ (((s.slot n).te : Int) - (t0 : Int)).natAbs → (s.slot n).te < t0 + (s.pin (pulseKey (s.slot n).cfg.target)).cfg.width * 1048576 →
        t.out = s.out ∧ (t.slot n).cnt.look 0 3 = (s.slot n).cnt.look 0 3 + 1) ∧
      (838861 ≤ (((s.slot n).te : Int) - (t0 : Int)).natAbs → t0 + (s.pin (pulseKey (s.slot n).cfg.target)).cfg.width * 1048576 ≤ (s.slot n).te →
        t.pin (pulseKey (s.slot n).cfg.target) = { s.pin (pulseKey (s.slot n).cfg.target) with pulse := some (s.slot n).te }))

/-- A ready port command with operands in range and no conflict completes with OK. An OFF port given a mode goes to CALIBRATING with a calibration due, a port set OFF to DISABLED; MAC limits, energy efficiency and filters are stored; a calibration falls due; an asymmetry waits for its announced second with the widened bound; an opened ring takes the lowest free handle and a closed one gives its handle back, descriptors outstanding written back FLUSHED. Status reads change nothing. Each of these answers a next state with its effect, under conditions on the state and the operands alone: portSetMode, portSetMac, portSetEee, portCalibrate, portSetAsym, portOpenRing, portCloseRing, portSetFilter, portReadStatus. (R256, R257, R258, R261, R263, R268, R273, R282, R287, R288, R289, R480) -/
def Obligations.PortCommands : Prop :=
  (∀ (h : CmdHdr) (s : State) (p m f a : Nat), ready { op := 0x2001, plen := 5, mirrored := true } h s → p < 256 → 1 ≤ m → m ≤ 6 → f ≤ 1 → a ≤ 1 → (f = 0 ∨ m = 5 ∨ m = 6) → (a = 0 ∨ m = 3) → (s.quadRates p (PortMode.of m)).length ≤ 2 → (s.port p).mode = .off → (s.port p).st = .disabled → (s.port p).held = false →
      (s.port p).rxPair.st ≠ .out → (s.port p).txPair.st ≠ .out → (s.port p).cal.out = false → s.laneBad p = false →
    Does (.portSetMode h p m f a) s fun t => Completes h s { s with ports := t.ports, hall := t.hall } t [] [] ∧ (t.port p).mode = PortMode.of m ∧ (t.port p).half = decide (f = 1) ∧ (t.port p).an = decide (a = 1) ∧
      (t.port p).st = .calibrating ∧ (t.port p).cal.due = true ∧ (t.port p).cal.tCal = none ∧ (∀ k, k ≠ p → t.port k = s.port k) ∧ t.ports.rings = s.ports.rings) ∧
  (∀ (h : CmdHdr) (s : State) (p f a : Nat), ready { op := 0x2001, plen := 5, mirrored := true } h s → p < 256 → f = 0 → a = 0 → (s.quadRates p .off).length ≤ 2 → (s.port p).mode ≠ .off → (s.port p).st ≠ .failed → (s.port p).held = false →
      s.tm.queues = [] → (s.port p).wire = none → (s.port p).backoff = none → (s.port p).launches = [] →
    Does (.portSetMode h p 0 f a) s fun t => Completes h s { s with ports := t.ports, hall := t.hall } t [] [] ∧ (t.port p).mode = .off ∧ (t.port p).st = .disabled ∧ (t.port p).eee = false ∧
      (∀ k, k ≠ p → t.port k = s.port k) ∧ t.ports.rings = s.ports.rings) ∧
  (∀ (h : CmdHdr) (s : State) (p r l w o : Nat), ready { op := 0x2002, plen := 16, who := .any, mirrored := true } h s → p < 256 → r ≤ 1 → 1522 ≤ l → l ≤ 16383 → 1 ≤ w → w ≤ 10000 → 100 ≤ o → o ≤ 60000 → s.portOwner p = h.fn →
    Does (.portSetMac h p r l w o) s fun t => Completes h s { s with ports := t.ports } t [] [] ∧ t.port p = { s.port p with pauseRx := decide (r = 1), maxLen := l, watchdog := w, holdoff := o } ∧
      (∀ k, k ≠ p → t.port k = s.port k) ∧ t.ports.rings = s.ports.rings) ∧
  (∀ (h : CmdHdr) (s : State) (p i w : Nat), ready { op := 0x2003, plen := 12, who := .any, mirrored := true } h s → p < 256 → eeeMode (s.port p).mode (s.port p).half = true → 1 ≤ i → i ≤ 10000 → w ≤ 1000 → s.portOwner p = h.fn →
      (s.bezel h.fn).nonTiming = true → s.nrefUses p = false → s.vtapUses p = false →
    Does (.portSetEee h p 1 i w) s fun t => Completes h s { s with ports := t.ports } t [] [] ∧ t.port p = { s.port p with eee := true, idle := i, tw := some w } ∧ (∀ k, k ≠ p → t.port k = s.port k)) ∧
  (∀ (h : CmdHdr) (s : State) (p : Nat), ready { op := 0x2004, plen := 2, action := true } h s → p < 256 → (s.port p).st ≠ .disabled → (s.port p).st ≠ .failed → (s.port p).cal.running = false → (s.port p).cal.out = false →
    Does (.portCalibrate h p) s fun t => Completes h s { s with ports := t.ports } t [] [] ∧ t.port p = { s.port p with cal := { (s.port p).cal with due := true } } ∧ (∀ k, k ≠ p → t.port k = s.port k)) ∧
  (∀ (h : CmdHdr) (s : State) (p : Nat) (a : Int) (u : Nat), ready { op := 0x2005, plen := 12, who := .any } h s → p < 256 → -10000000 ≤ a → a ≤ 10000000 → u ≤ 10000000 → s.portOwner p = h.fn → (s.port p).asymNext = none →
    Does (.portSetAsym h p a u) s fun t => Completes h s { s with ports := t.ports, hall := t.hall } t [fld 32 (s.topAfter 2030000 % 2 ^ 32)] [] ∧ p ∈ t.hall.due ∧ (∀ k, k ≠ p → t.port k = s.port k) ∧
      t.port p = { s.port p with asymNext := some (a, u, s.topAfter 2030000), asymCover := false, asymWiden := some (max ((a - (s.port p).asym).natAbs + max (s.port p).uAsym u) ((s.port p).asymWiden.getD 0)) }) ∧
  (∀ (h : CmdHdr) (s : State) (p d n v b k : Nat), ready { op := 0x2006, plen := 16, who := .any } h s → p < 256 → d ≤ 1 → 6 ≤ n → n ≤ 14 → v < 64 → s.dmaOk h.fn b (32 * 2 ^ n) = true → s.portOwner p = h.fn → s.ringsOn p (decide (d = 1)) < 8 → s.freeHandle = some k →
    Does (.portOpenRing h p d n v b) s fun t => Completes h s { s with ports := t.ports } t [fld 16 k] [] ∧ t.pring k = some { port := p, rx := decide (d = 1), n := n, vector := v, base := b, owner := h.fn } ∧
      (∀ j, j ≠ k → t.pring j = s.pring j) ∧ t.ports.ports = s.ports.ports) ∧
  (∀ (h : CmdHdr) (s : State) (k : Nat) (r : PortRing), ready { op := 0x2007, plen := 2, who := .any, action := true } h s → k < 4096 → s.pring k = some r → r.owner = h.fn → r.rx = true → r.descs = [] →
    Does (.portCloseRing h k) s fun t => Completes h s { s with ports := t.ports } t [] [] ∧ t.pring k = none ∧ (∀ j, j ≠ k → t.pring j = s.pring j)) ∧
  (∀ (h : CmdHdr) (s : State) (k : Nat) (r : PortRing) (d : TxDesc), ready { op := 0x2007, plen := 2, who := .any, action := true } h s → k < 4096 → s.pring k = some r → r.owner = h.fn → r.rx = false → r.descs = [d] → r.late = [] → r.taken = r.done →
      s.tm.queues = [] → (s.port r.port).wire = none → (s.port r.port).backoff = none → s.masterFrozen h.fn 1 k = false →
    Does (.portCloseRing h k) s fun t => Completes h s { s with ports := t.ports } t [] [] ∧ t.pring k = none ∧ (∀ j, j ≠ k → t.pring j = s.pring j) ∧
      ((t.ports.closed.look [] k).getLast?.map fun b => (b.status, b.tsv, b.cookie)) = some (2, false, d.cookie)) ∧
  (∀ (h : CmdHdr) (s : State) (p i k v r : Nat) (q : PortRing), ready { op := 0x2008, plen := 8, who := .any } h s → p < 256 → i < 16 → 1 ≤ k → k ≤ 4 → (k = 4 → v < 256) → s.pring r = some q → q.rx = true → q.port = p → q.owner = h.fn → s.portOwner p = h.fn → s.filterTaken p k v = false →
    Does (.portSetFilter h p i k v r) s fun t => Completes h s { s with ports := t.ports } t [] [] ∧ (t.port p).filters.look {} i = { kind := k, value := v, handle := r } ∧
      t.port p = { s.port p with filters := (t.port p).filters } ∧ (∀ j, j ≠ i → (t.port p).filters.look {} j = (s.port p).filters.look {} j) ∧ (∀ j, j ≠ p → t.port j = s.port j)) ∧
  (∀ (h : CmdHdr) (s : State) (p : Nat), ready { op := 0x2041, plen := 2, who := .any, xbOut := true } h s → p < 256 → (h.fn = 0 ∨ s.portOwner p = h.fn) → 512 ≤ h.xlen →
    Does (.portReadStatus h p) s fun t => Completes h s s t [fld 8 (s.port p).st.code] (lastXb h t) ∧ (lastXb h t).take 2 = [fld 8 (s.port p).st.code, fld 8 (s.port p).mode.code])

/-- A link that comes up waits for its record before UP where the facet can time and is UP_UNTIMED where it cannot; a PHY at another speed holds SGMII in DOWN, counted; a link lost goes to DOWN and is counted, a DOWN port with its quad PLL in error to FAILED. A due calibration runs once the wire is idle; a good run sets both delays, whose sum is the measured delay less the pad's, and a third failure takes the calibration out; a temperature that comes to differ from T_cal by more than 10 K begins the transient, with a record and a run due (log entry 141); a new asymmetry takes effect at its second and not before. Each of these answers a next state with its effect, under conditions on the state and the operands alone: linkUp, linkDown, linkFailedTimeout, calibrationDue, loopbackRunStart, loopbackRunEnd, portTemperatureRead, asymmetryEffect. (R259, R260, R261, R280, R281, R282, R283, R284, R287, R519, R537) -/
def Obligations.PortLinkAndCalibrationEvents : Prop :=
  (∀ (s : State) (p : Nat) (m : Bool), s.alive = true → (s.port p).st = .down → (s.port p).toUp = false → (m = true ∨ (s.port p).mode = .g25 ∨ (s.port p).mode = .g10 ∨ (s.port p).mode = .x1000) → (s.port p).canTime = false →
    Does (.linkUp p m) s fun t => t = { s with ports := t.ports, hall := t.hall, mbx := t.mbx, mgmt := t.mgmt } ∧ (t.port p).st = .upUntimed ∧ (∀ k, k ≠ p → t.port k = s.port k)) ∧
  (∀ (s : State) (p : Nat) (m : Bool), s.alive = true → (s.port p).st = .down → (s.port p).toUp = false → (m = true ∨ (s.port p).mode = .g25 ∨ (s.port p).mode = .g10 ∨ (s.port p).mode = .x1000) → (s.port p).canTime = true →
    Does (.linkUp p m) s fun t => t = { s with ports := t.ports, hall := t.hall } ∧ t.port p = { s.port p with toUp := true } ∧ p ∈ t.hall.due ∧ (∀ k, k ≠ p → t.port k = s.port k)) ∧
  (∀ (s : State) (p : Nat), s.alive = true → (s.port p).st = .down → (s.port p).toUp = false → (s.port p).mode = .sgmii1000 → (s.loupe.banks.look {} p).mode = 0 →
    Does (.linkUp p false) s fun t => t = { s with loupe := t.loupe, mbx := t.mbx, mgmt := t.mgmt } ∧ Counted p 26 1 s t) ∧
  (∀ (s : State) (p : Nat), s.alive = true → ((s.port p).st = .up ∨ (s.port p).st = .upUntimed) → (s.port p).launches = [] → (s.loupe.banks.look {} p).mode = 0 →
    Does (.linkDown p) s fun t => t = { s with ports := t.ports, hall := t.hall, loupe := t.loupe, mbx := t.mbx, mgmt := t.mgmt } ∧ (t.port p).st = .down ∧ (t.port p).pause = none ∧ (t.port p).lpi = .active ∧
      (t.port p).toUp = false ∧ Counted p 31 1 s t ∧ p ∈ t.hall.due ∧ (∀ k, k ≠ p → t.port k = s.port k)) ∧
  (∀ (s : State) (p : Nat), s.alive = true → (s.port p).st = .down → s.quadBad p = true →
    Does (.linkFailedTimeout p) s fun t => (t.port p).st = .failed ∧ 0x0300 + p ∈ t.fault.causes ∧ 0x0400 + p / 4 ∈ t.fault.causes ∧ t.fault.replace = true ∧ (∀ k, k ≠ p → t.port k = s.port k) ∧ t.pwr.st ≠ .run) ∧
  (∀ (s : State) (p : Nat), s.alive = true → s.quadBad p = false → Does (.linkFailedTimeout p) s fun t => t = s) ∧
  (∀ (s : State) (p : Nat), s.alive = true → (s.port p).st ≠ .disabled → (s.port p).st ≠ .failed → (s.port p).cal.out = false → (s.port p).cal.running = false →
    Does (.calibrationDue p) s fun t => t = { s with ports := t.ports } ∧ t.port p = { s.port p with cal := { (s.port p).cal with due := true } } ∧ (∀ k, k ≠ p → t.port k = s.port k)) ∧
  (∀ (s : State) (p : Nat), s.alive = true → (s.port p).st ≠ .disabled → (s.port p).st ≠ .failed → (s.port p).cal.out = false → (s.port p).cal.running = false → (s.port p).cal.due = true → (s.port p).held = false → (s.port p).wire = none →
    Does (.loopbackRunStart p) s fun t => t = { s with ports := t.ports } ∧ t.port p = { s.port p with cal := { (s.port p).cal with due := false, running := true } } ∧ (∀ k, k ≠ p → t.port k = s.port k)) ∧
  (∀ (s : State) (p : Nat), s.alive = true → (s.port p).wire.isSome = true → Does (.loopbackRunStart p) s fun t => t = s) ∧
  (∀ (s : State) (p : Nat) (o : LoopbackObs), s.alive = true → (s.port p).cal.running = true → o.rms ≤ 5 → rabs (o.drt - interpT (s.port p).prod.dProd (s.port p).cal.temp) ≤ 150 →
      (s.port p).st = .calibrating → (s.port p).held = false → (s.port p).cal.out = false → (s.port p).rxPair.ready = true → (s.port p).txPair.ready = true → (s.port p).cal.tCal = none →
    Does (.loopbackRunEnd p o) s fun t => (t.port p).st = .down ∧ (t.port p).cal.running = false ∧ (t.port p).cal.fails = 0 ∧ (t.port p).cal.tCal = some (s.port p).cal.temp ∧
      (t.port p).cal.dTx = interpT (s.port p).prod.s (s.port p).cal.temp * (o.drt - (s.port p).prod.dPad) ∧ (t.port p).cal.dTx + (t.port p).cal.dRx = o.drt - (s.port p).prod.dPad ∧
      Counted p 20 1 s t ∧ (∀ k, k ≠ p → t.port k = s.port k) ∧ t = { s with ports := t.ports, hall := t.hall, loupe := t.loupe, mbx := t.mbx, mgmt := t.mgmt }) ∧
  (∀ (s : State) (p : Nat) (o : LoopbackObs), s.alive = true → (s.port p).cal.running = true → 5 < o.rms → (s.port p).cal.fails < 2 →
    Does (.loopbackRunEnd p o) s fun t => (t.port p).cal = { (s.port p).cal with running := false, fails := (s.port p).cal.fails + 1, out := false } ∧ (t.port p).st = (s.port p).st ∧ Counted p 21 1 s t ∧
      t = { s with ports := t.ports, loupe := t.loupe, mbx := t.mbx, mgmt := t.mgmt }) ∧
  (∀ (s : State) (p : Nat) (o : LoopbackObs), s.alive = true → (s.port p).cal.running = true → 5 < o.rms → (s.port p).cal.fails = 2 →
    Does (.loopbackRunEnd p o) s fun t => (t.port p).cal.out = true ∧ (t.port p).cal.running = false ∧ 0x0300 + p ∈ t.fault.causes ∧ (∀ k, k ≠ p → t.port k = s.port k)) ∧
  (∀ (s : State) (p : Nat) (x : Rat), s.alive = true →
    Does (.portTemperatureRead p x) s fun t => t = { s with ports := t.ports, hall := t.hall } ∧ (t.port p).cal.temp = x ∧ (∀ k, k ≠ p → t.port k = s.port k) ∧
      ((s.port p).cal.departure ≤ 10 → 10 < (t.port p).cal.departure → ((s.port p).cal.running = false → (s.port p).cal.out = false → (t.port p).cal.due = true) ∧
        ((s.port p).cal.hotFrom = none → (t.port p).cal.hotFrom = (s.port p).cal.tCal ∧ p ∈ t.hall.due)) ∧
      ((10 < (s.port p).cal.departure ∨ (t.port p).cal.departure ≤ 10) → (t.port p).cal = { (s.port p).cal with temp := x } ∧ t.hall = s.hall)) ∧
  (∀ (s : State) (p : Nat) (a : Int) (u sec : Nat), s.alive = true → (s.port p).asymNext = some (a, u, sec) → (s.port p).asymCover = true → sec ≤ s.sec →
    Does (.asymmetryEffect p) s fun t => t = { s with ports := t.ports, mbx := t.mbx } ∧ t.port p = { s.port p with asym := a, uAsym := u, asymNext := none, asymCover := false } ∧ (∀ k, k ≠ p → t.port k = s.port k)) ∧
  (∀ (s : State) (p : Nat) (a : Int) (u sec : Nat), s.alive = true → (s.port p).asymNext = some (a, u, sec) → s.sec < sec → Does (.asymmetryEffect p) s fun t => t = s)

/-- A valid PAUSE with quanta pauses the port until their end, one of zero ends the pause, a bad FCS is counted; the watchdog ends a pause in force beyond its limit and holds off. A collision backs the frame off by less than two to its attempts, a late one ends it; the back-off's end retries it. An idle port sleeps, a waiting frame wakes it. The next frame of the highest class goes on the wire; a completed one frees its cells, is counted and written back with its stamp, which ends the temperature transient after a good run, or, where a widening is due, marks its end (log entry 141). A doorbell adds descriptors, an impossible tail is ignored, a foreign handle freezes the function. Each of these answers a next state with its effect, under conditions on the state and the operands alone: pauseFrame, pauseEnd, pauseWatchdog, pauseHoldoffEnd, collision, backoffExpiry, lpiEntry, lpiWake, lpiWakeComplete, transmitStart, transmitComplete, pringDb. (R267, R268, R270, R271, R272, R274, R275, R278, R290, R292, R384, R590) -/
def Obligations.PortTransmissionEvents : Prop :=
  (∀ (s : State) (p q : Nat), s.alive = true → ((s.port p).st = .up ∨ (s.port p).st = .upUntimed) → (s.port p).cal.running = false → (s.port p).half = false → (s.port p).pauseRx = true → (s.port p).holding = false → q % 65536 ≠ 0 →
    Does (.pauseFrame p q true true) s fun t => t = { s with ports := t.ports, loupe := t.loupe, mbx := t.mbx, mgmt := t.mgmt } ∧ Counted p 12 1 s t ∧ (∀ k, k ≠ p → t.port k = s.port k) ∧
      t.port p = { s.port p with pause := some (s.pcyc + pauseCycles (s.port p).mode (q % 65536)), pauseFrom := if (s.port p).pause.isSome = true then (s.port p).pauseFrom else s.pcyc }) ∧
  (∀ (s : State) (p : Nat), s.alive = true → ((s.port p).st = .up ∨ (s.port p).st = .upUntimed) → (s.port p).cal.running = false → (s.port p).half = false → (s.port p).pauseRx = true → (s.port p).holding = false →
    Does (.pauseFrame p 0 true true) s fun t => t = { s with ports := t.ports, loupe := t.loupe, mbx := t.mbx, mgmt := t.mgmt } ∧ Counted p 12 1 s t ∧ t.port p = { s.port p with pause := none }) ∧
  (∀ (s : State) (p q : Nat) (u : Bool), s.alive = true → ((s.port p).st = .up ∨ (s.port p).st = .upUntimed) → (s.port p).cal.running = false →
    Does (.pauseFrame p q u false) s fun t => t = { s with loupe := t.loupe, mbx := t.mbx, mgmt := t.mgmt } ∧ Counted p 4 1 s t) ∧
  (∀ (s : State) (p : Nat), s.alive = true → Does (.pauseEnd p) s fun t => t = { s with ports := t.ports } ∧ t.port p = { s.port p with pause := none } ∧ (∀ k, k ≠ p → t.port k = s.port k)) ∧
  (∀ (s : State) (p : Nat), s.alive = true → (s.port p).pause.isSome = true → (s.port p).holding = false → (s.port p).pauseFrom + (s.port p).watchdog * (packetHz / 1000) < s.pcyc →
    Does (.pauseWatchdog p) s fun t => t = { s with ports := t.ports, loupe := t.loupe, mbx := t.mbx, mgmt := t.mgmt } ∧ t.port p = { s.port p with pause := none, holding := true } ∧ Counted p 15 1 s t ∧ (∀ k, k ≠ p → t.port k = s.port k)) ∧
  (∀ (s : State) (p : Nat), s.alive = true → Does (.pauseHoldoffEnd p) s fun t => t = { s with ports := t.ports } ∧ t.port p = { s.port p with holding := false } ∧ (∀ k, k ≠ p → t.port k = s.port k)) ∧
  (∀ (s : State) (p : Nat) (f : TxFrame), s.alive = true → (s.port p).wire = some f → (s.port p).half = true → f.attempts < 16 →
    Does (.collision p false) s fun t => (t.port p).wire = none ∧ (t.port p).backoff.map (·.1) = some f ∧ ((t.port p).backoff.map fun x => decide (x.2 < 2 ^ min f.attempts 10)) = some true ∧ Counted p 16 1 s t ∧
      t.free = s.free + 1 ∧ (∀ k, k ≠ p → t.port k = s.port k) ∧ t = { s with ports := t.ports, tm := t.tm, keys := t.keys, free := t.free, loupe := t.loupe, mbx := t.mbx, mgmt := t.mgmt }) ∧
  (∀ (s : State) (p : Nat) (f : TxFrame), s.alive = true → (s.port p).wire = some f → (s.port p).half = true → f.desc = none →
    Does (.collision p true) s fun t => (t.port p).wire = none ∧ (t.port p).backoff = (s.port p).backoff ∧ Counted p 16 1 s t ∧ Counted p 18 1 s t ∧ (∀ k, k ≠ p → t.port k = s.port k) ∧
      (t.tmBez f.bezel).held = (s.tmBez f.bezel).held - cellsOf f.len ∧ t = { s with ports := t.ports, tm := t.tm, loupe := t.loupe, mbx := t.mbx, mgmt := t.mgmt }) ∧
  (∀ (s : State) (p : Nat) (f : TxFrame) (r : Nat), s.alive = true → (s.port p).backoff = some (f, r) → (s.port p).wire = none → ((s.port p).st = .up ∨ (s.port p).st = .upUntimed) → (s.port p).cal.running = false → f.kind = .host →
    Does (.backoffExpiry p) s fun t => t = { s with ports := t.ports, tm := t.tm } ∧ t.port p = { s.port p with backoff := none, wire := some { f with attempts := f.attempts + 1 } } ∧ (∀ k, k ≠ p → t.port k = s.port k)) ∧
  (∀ (s : State) (p : Nat), s.alive = true → (s.port p).eee = true → eeeMode (s.port p).mode (s.port p).half = true → ((s.port p).st = .up ∨ (s.port p).st = .upUntimed) → (s.port p).lpi = .active → (s.port p).wire = none → s.portWaits p = false →
      (s.port p).launches = [] → (s.port p).cal.running = false →
    Does (.lpiEntry p) s fun t => t = { s with ports := t.ports } ∧ t.port p = { s.port p with lpi := .sleeping } ∧ (∀ k, k ≠ p → t.port k = s.port k)) ∧
  (∀ (s : State) (p : Nat), s.alive = true → (s.port p).lpi = .sleeping → s.portWaits p = true →
    Does (.lpiWake p) s fun t => t = { s with ports := t.ports, loupe := t.loupe, mbx := t.mbx, mgmt := t.mgmt } ∧ t.port p = { s.port p with lpi := .waking } ∧ Counted p 19 1 s t ∧ (∀ k, k ≠ p → t.port k = s.port k)) ∧
  (∀ (s : State) (p : Nat), s.alive = true → (s.port p).lpi = .waking → s.tm.queues = [] →
    Does (.lpiWakeComplete p) s fun t => t = { s with ports := t.ports } ∧ t.port p = { s.port p with lpi := .active } ∧ (∀ k, k ≠ p → t.port k = s.port k)) ∧
  (∀ (s : State) (p : Nat) (f : TxFrame), s.alive = true → (s.port p).st = .up → (s.port p).wire = none → (s.port p).backoff = none → (s.port p).pause = none → (s.port p).cal.running = false → (s.port p).lpi = .active → (s.port p).launches = [] →
      f.cls < 8 → f.len ≤ 2048 → f.kind = .host → s.tm.queues = [(p * 8 + f.cls, { flows := [{ sub := f.sub, frames := [f] }] })] → s.tm.subShapers = [] → s.tm.svcShapers = [] → s.tm.portShapers = [] →
    Does (.transmitStart p) s fun t => t = { s with ports := t.ports, tm := t.tm } ∧ t.port p = { s.port p with wire := some { f with attempts := f.attempts + 1 } } ∧ (t.svcQ p f.cls).flows = [] ∧ (∀ k, k ≠ p → t.port k = s.port k) ∧
      t.tm.bezels = s.tm.bezels) ∧
  (∀ (s : State) (p : Nat), s.alive = true → (s.port p).pause.isSome = true → Does (.transmitStart p) s fun t => t = s) ∧
  (∀ (s : State) (p tb : Nat) (f : TxFrame), s.alive = true → (s.port p).wire = some f → f.desc = none → f.kind = .host →
    Does (.transmitComplete p tb) s fun t => t = { s.stamped p with ports := t.ports, tm := t.tm, loupe := t.loupe, mbx := t.mbx, mgmt := t.mgmt } ∧ t.port p = { (s.stamped p).port p with wire := none, sent := some ({ f with octets := s.octetsOf p f ((s.port p).txStamp tb) }, (s.port p).txStamp tb) } ∧
      (t.tmBez f.bezel).held = (s.tmBez f.bezel).held - cellsOf f.len ∧ Counted p 3 1 s t ∧ Counted p 2 f.len s t ∧ (∀ k, k ≠ p → t.port k = s.port k) ∧
      ((s.port p).cal.hotDone = true → p ∉ s.hall.widen → (t.port p).cal = { (s.port p).cal with hotFrom := none, hotDone := false } ∧ p ∈ t.hall.due) ∧
      ((s.port p).cal.hotDone = true → p ∈ s.hall.widen → (t.port p).cal = (s.port p).cal ∧ (p, 1) ∈ t.hall.narrow)) ∧
  (∀ (s : State) (p tb : Nat) (f : TxFrame) (hd place : Nat) (r : PortRing), s.alive = true → (s.port p).wire = some f → f.desc = some (hd, place) → f.kind = .host → f.tsreq = true → (s.port p).st = .up →
      s.pring hd = some r → r.done = place → r.late = [] → r.back = [] → s.masterFrozen r.owner 1 hd = false →
    Does (.transmitComplete p tb) s fun t => (t.port p).wire = none ∧ (t.pring hd).map (·.done) = some (place + 1) ∧
      ((t.pring hd).map fun x => x.back.map fun b => (b.status, b.tsv, b.cookie, b.ns32, b.frac)) = some [(0, true, f.cookie, (ns32Of ((s.port p).txStamp tb)).1, (ns32Of ((s.port p).txStamp tb)).2)]) ∧
  (∀ (s : State) (b k w : Nat) (l : List TxDesc) (r : PortRing), s.alive = true → s.fnEnabled b = true → (s.fn b).frozen = false → w < 65536 → s.pring k = some r → r.owner = b → r.rx = true → s.masterFrozen b 1 k = false →
      l.length = (w + 65536 - r.tail) % 65536 → (r.tail + 65536 - r.done % 65536) % 65536 + l.length = (w + 65536 - r.done % 65536) % 65536 → (w + 65536 - r.done % 65536) % 65536 ≤ 2 ^ r.n →
    Does (.pringDb b k w l) s fun t => t = { s with ports := t.ports } ∧ t.pring k = some { r with tail := w, descs := r.descs ++ l } ∧ (∀ j, j ≠ k → t.pring j = s.pring j) ∧ t.ports.ports = s.ports.ports) ∧
  (∀ (s : State) (b k w : Nat) (l : List TxDesc) (r : PortRing), s.alive = true → s.fnEnabled b = true → (s.fn b).frozen = false → w < 65536 → s.pring k = some r → r.owner = b → 2 ^ r.n < (w + 65536 - r.done % 65536) % 65536 →
    Does (.pringDb b k w l) s fun t => t = { s with mbx := t.mbx } ∧ t.fn b = { s.fn b with ignored := (s.fn b).ignored + 1 }) ∧
  (∀ (s : State) (b k w : Nat) (l : List TxDesc) (r : PortRing), s.alive = true → s.fnEnabled b = true → (s.fn b).frozen = false → w < 65536 → s.pring k = some r → r.owner ≠ b →
    Does (.pringDb b k w l) s fun t => t = { s with mbx := t.mbx, mgmt := t.mgmt, loupe := t.loupe } ∧ (t.fn b).frozen = true)

/-- A calibration run of a channel's or facet's pair ends as the rule of the pair says: a good run's table goes to the interpolator it was for, a bad one is counted, three in a row take a NORMAL pair to SINGLE and a SINGLE one to OUT; roles swap where a fresh table waits in NORMAL; the survivor's own run starts in SINGLE. Nothing else of the channels or ports changes. Each of these answers a next state with its effect, under conditions on the state and the operands alone: calibrationRunEnd, interpolatorSwap, survivorCalibrationStart. (R186, R187, R188, R189, R279, R604) -/
def Obligations.FacetCalibrationEvents : Prop :=
  (∀ (s : State) (c f : Nat) (l : List Nat) (b : BinTable), s.alive = true → c < 64 → calGood f l = true → (s.chan c).interp.st = .normal → (s.chan c).interp.activeY = false → (s.chan c).interp.tabX = some b → (s.chan c).interp.tabY.isSome = true →
    Does (.calibrationRunEnd (.fil c) f l) s fun t => t = { s with fil := t.fil } ∧ t.chan c = { s.chan c with interp := { (s.chan c).interp with fresh := some { first := f, hits := l }, fails := 0 } } ∧ (∀ k, k ≠ c → t.chan k = s.chan k)) ∧
  (∀ (s : State) (c f : Nat) (l : List Nat), s.alive = true → c < 64 → calGood f l = false → (s.chan c).interp.fails < 2 →
    Does (.calibrationRunEnd (.fil c) f l) s fun t => t = { s with fil := t.fil } ∧ (t.chan c).interp = { (s.chan c).interp with failed := (s.chan c).interp.failed + 1, fails := (s.chan c).interp.fails + 1 } ∧ (∀ k, k ≠ c → t.chan k = s.chan k)) ∧
  (∀ (s : State) (c f : Nat) (l : List Nat), s.alive = true → c < 24 → calGood f l = false → (s.chan c).interp.fails = 2 → (s.chan c).interp.st = .normal →
    Does (.calibrationRunEnd (.fil c) f l) s fun t => (t.chan c).interp.st = .single ∧ (t.chan c).interp.fresh = none ∧ 0x0100 + c ∈ t.fault.causes ∧ (∀ k, k ≠ c → t.chan k = s.chan k)) ∧
  (∀ (s : State) (p f : Nat) (x : Bool) (l : List Nat), s.alive = true → p < 256 → (s.port p).st = .disabled → calGood f l = true →
    Does (.calibrationRunEnd (.facet p x) f l) s fun t => t = { s with ports := t.ports } ∧ (t.port p).txPair = (if x = true then ((s.port p).txPair.runEnd f l).1 else (s.port p).txPair) ∧
      (t.port p).rxPair = (if x = true then (s.port p).rxPair else ((s.port p).rxPair.runEnd f l).1) ∧ (∀ k, k ≠ p → t.port k = s.port k)) ∧
  (∀ (s : State) (p f : Nat) (l : List Nat), s.alive = true → p < 256 → (s.port p).st = .up → calGood f l = false → (s.port p).txPair.fails = 2 → (s.port p).txPair.st = .single →
      (s.port p).launches = [] →
    Does (.calibrationRunEnd (.facet p true) f l) s fun t => (t.port p).txPair.st = .out ∧ (t.port p).st = .upUntimed ∧ 0x0300 + p ∈ t.fault.causes ∧ (∀ k, k ≠ p → t.port k = s.port k)) ∧
  (∀ (s : State) (c : Nat) (b : BinTable), s.alive = true → c < 64 → (s.chan c).interp.st = .normal → (s.chan c).interp.activeY = false → (s.chan c).interp.fresh = some b → (s.chan c).dead s.tc.mtc.cyc = false →
    Does (.interpolatorSwap (.fil c)) s fun t => t = { s with fil := t.fil } ∧ (t.chan c).interp.activeY = true ∧ (t.chan c).interp.tabY = some b ∧ (t.chan c).interp.fresh = none ∧ (t.chan c).interp.tabX = (s.chan c).interp.tabX ∧
      (∀ k, k ≠ c → t.chan k = s.chan k)) ∧
  (∀ (s : State) (p : Nat) (b : BinTable), s.alive = true → p < 256 → (s.port p).st = .disabled → (s.port p).rxPair.st = .normal → (s.port p).rxPair.activeY = true → (s.port p).rxPair.fresh = some b →
    Does (.interpolatorSwap (.facet p false)) s fun t => t = { s with ports := t.ports } ∧ t.port p = { s.port p with rxPair := { (s.port p).rxPair with activeY := false, tabX := some b, fresh := none } } ∧ (∀ k, k ≠ p → t.port k = s.port k)) ∧
  (∀ (s : State) (c : Nat), s.alive = true → c < 64 → (s.chan c).interp.st = .single →
    Does (.survivorCalibrationStart (.fil c)) s fun t => t = { s with fil := t.fil } ∧ t.chan c = { s.chan c with interp := { (s.chan c).interp with surv := true } } ∧ (∀ k, k ≠ c → t.chan k = s.chan k)) ∧
  (∀ (s : State) (p : Nat), s.alive = true → p < 256 → (s.port p).st = .up → (s.port p).txPair.st = .single → (s.port p).launches = [] →
    Does (.survivorCalibrationStart (.facet p true)) s fun t => (t.port p).txPair.surv = true ∧ (t.port p).st = .upUntimed ∧ (∀ k, k ≠ p → t.port k = s.port k))

/-- A frame on a linked port that fails a line check is counted under that check alone; a good one is counted with its octets, and its stamp ends the temperature transient after a good run (log entry 141). One the Time Service Engine serves waits in its pipeline's input queue with its receive stamp and record and holds its cells; one a filter claims goes into the host ring, its descriptor written back with length and stamp; one nobody accepts is counted. A port without link takes nothing. Each of these answers a next state with its effect, under conditions on the state and the operands alone: frameReceived. (R262, R278, R289, R291, R299, R300, R302, R378, R537) -/
def Obligations.FrameReceptionEvents : Prop :=
  (∀ (s : State) (p : Nat) (f : RxFrame), s.alive = true → (s.port p).st ≠ .up → (s.port p).st ≠ .upUntimed → Does (.frameReceived p f) s fun t => t = s) ∧
  (∀ (s : State) (p : Nat) (f : RxFrame), s.alive = true → p < 256 → ((s.port p).st = .up ∨ (s.port p).st = .upUntimed) → (s.port p).cal.running = false → f.fecErr = false → f.codeErr = false → f.fcsOk = false →
    Does (.frameReceived p f) s fun t => t = { s with loupe := t.loupe, mbx := t.mbx, mgmt := t.mgmt } ∧ Counted p 4 1 s t ∧ t.loupe.ctr.look 0 (p * 32 + 1) = s.loupe.ctr.look 0 (p * 32 + 1)) ∧
  (∀ (s : State) (p : Nat) (f : RxFrame), s.alive = true → p < 256 → ((s.port p).st = .up ∨ (s.port p).st = .upUntimed) → (s.port p).cal.running = false → f.fecErr = false → f.codeErr = false → f.fcsOk = true → f.len < 64 →
    Does (.frameReceived p f) s fun t => t = { s with loupe := t.loupe, mbx := t.mbx, mgmt := t.mgmt } ∧ Counted p 7 1 s t) ∧
  (∀ (s : State) (p : Nat) (f : RxFrame), s.alive = true → p < 256 → (s.port p).st = .up → lineCheck (s.port p) f = none → f.etherType ≠ 0x8808 → f.len ≤ (s.port p).maxLen → f.rct = none → s.wayOf p f = .tse →
      PathFree s → s.tse.inputs = [] → cellsOf f.len ≤ 64 → f.ipBad = false →
    Does (.frameReceived p f) s fun t => t = { s.stamped p with tse := t.tse, tm := t.tm, loupe := t.loupe, mbx := t.mbx, mgmt := t.mgmt } ∧
      (t.input (pipeOf f)).map (fun e => (e.port, e.bezel, e.f, e.stamp, e.timed, e.colour)) = [(p, s.portOwner p, f, (s.port p).rxStamp f.tb, true, .green)] ∧
      (t.tmBez (s.portOwner p)).held = cellsOf f.len ∧ Counted p 1 1 s t ∧ Counted p 0 f.len s t ∧ Counted (256 + s.portOwner p) 0 1 s t ∧ t.tse.services = s.tse.services ∧ t.tse.grants = s.tse.grants) ∧
  (∀ (s : State) (p i k : Nat) (f : RxFrame) (r : PortRing) (d : TxDesc), s.alive = true → p < 256 → (s.port p).st = .up → lineCheck (s.port p) f = none → f.etherType ≠ 0x8808 → f.len ≤ (s.port p).maxLen → f.rct = none →
      s.wayOf p f = .ring i k → PathFree s → cellsOf f.len ≤ 64 → s.pring k = some r → r.rx = true → r.port = p → r.descs = [d] → r.taken = r.done → r.late = [] → r.back = [] → s.masterFrozen r.owner 1 k = false → s.dmaOk r.owner d.addr d.len = true → f.len - 4 ≤ d.len →
    Does (.frameReceived p f) s fun t => t = { s.stamped p with ports := t.ports, loupe := t.loupe, mbx := t.mbx, mgmt := t.mgmt } ∧ (t.pring k).map (fun x => (x.descs, x.done)) = some ([], r.done + 1) ∧ t.ports.ports = (s.stamped p).ports.ports ∧
      ((t.pring k).map fun x => x.back.map fun b => (b.status, b.len, b.trunc, b.filter, b.tsv, b.ns32)) = some [(0, f.len - 4, false, i, true, (ns32Of ((s.port p).rxStamp f.tb)).1)] ∧ Counted p 1 1 s t) ∧
  (∀ (s : State) (p : Nat) (f : RxFrame), s.alive = true → p < 256 → (s.port p).st = .up → lineCheck (s.port p) f = none → f.etherType ≠ 0x8808 → f.len ≤ (s.port p).maxLen → f.rct = none → s.wayOf p f = .nowhere → PathFree s →
    Does (.frameReceived p f) s fun t => t = { s.stamped p with loupe := t.loupe, mbx := t.mbx, mgmt := t.mgmt } ∧ Counted p 10 1 s t ∧ Counted p 1 1 s t)

/-- A waiting request for a configured address is answered by one frame of its kind to the asker in class 4, its cells freed; more than 100 echoes in a second on a port are counted and not answered; a query for a PTP group that no service uses is dropped and counted. A foreign Announce is counted on the service and changes nothing else. Each of these answers a next state with its effect, under conditions on the state and the operands alone: arpRequest, neighbourSolicitation, echoRequest, membershipQuery, foreignAnnounce. (R300, R306, R372) -/
def Obligations.PlainRequestEvents : Prop :=
  (∀ (s : State) (p a g : Nat) (e : TseIn), s.alive = true → PathFree s → g < 4 → s.tse.inputs = [(g, [e])] → e.port = p → isArp e.f = true → e.f.dip = a →
    Does (.arpRequest p a) s fun t => t = { s with tse := { s.tse with inputs := t.tse.inputs, issued := t.tse.issued }, tm := t.tm, loupe := t.loupe, mbx := t.mbx, mgmt := t.mgmt } ∧ t.input g = [] ∧ queued t p 4 = [(.arp, e.bezel, e.f.src, 0, none, [])]) ∧
  (∀ (s : State) (p a g : Nat) (e : TseIn), s.alive = true → PathFree s → g < 4 → s.tse.inputs = [(g, [e])] → e.port = p → e.f.family = 6 → e.f.icmp = 2 → e.f.dip = solicited a → ((s.addrsOf p).any fun x => x.family = 6 && x.addr = a) = true →
    Does (.neighbourSolicitation p a) s fun t => t = { s with tse := { s.tse with inputs := t.tse.inputs, issued := t.tse.issued }, tm := t.tm, loupe := t.loupe, mbx := t.mbx, mgmt := t.mgmt } ∧ t.input g = [] ∧ queued t p 4 = [(.neighbour, e.bezel, e.f.src, 0, none, [])]) ∧
  (∀ (s : State) (p a g : Nat) (e : TseIn), s.alive = true → PathFree s → g < 4 → s.tse.inputs = [(g, [e])] → e.port = p → e.f.icmp = 1 → e.f.dip = a → e.f.len ≤ 16384 → ((s.port p).echoSec ≠ s.sec ∨ (s.port p).echoCnt < 100) →
    Does (.echoRequest p a) s fun t => t = { s with tse := { s.tse with inputs := t.tse.inputs, issued := t.tse.issued }, ports := t.ports, tm := t.tm, loupe := t.loupe, mbx := t.mbx, mgmt := t.mgmt } ∧ t.input g = [] ∧ queued t p 4 = [(.echo, e.bezel, e.f.src, 0, none, [])] ∧
      (t.port p).echoSec = s.sec ∧ (t.port p).echoCnt = (if (s.port p).echoSec = s.sec then (s.port p).echoCnt else 0) + 1) ∧
  (∀ (s : State) (p a g : Nat) (e : TseIn), s.alive = true → PathFree s → g < 4 → s.tse.inputs = [(g, [e])] → e.port = p → e.f.icmp = 1 → e.f.dip = a → (s.port p).echoSec = s.sec → 100 ≤ (s.port p).echoCnt → (s.loupe.banks.look {} p).mode = 0 →
    Does (.echoRequest p a) s fun t => t.ports = s.ports ∧ t.input g = [] ∧ queued t p 4 = [] ∧ Counted p 30 1 s t) ∧
  (∀ (s : State) (p a g : Nat) (e : TseIn), s.alive = true → PathFree s → g < 4 → s.tse.inputs = [(g, [e])] → e.port = p → e.f.icmp = 3 → e.f.dip = a → ptpGroup 4 a = true → s.ptpOver p 1 = true →
    Does (.membershipQuery p a) s fun t => t = { s with tse := { s.tse with inputs := t.tse.inputs, issued := t.tse.issued }, tm := t.tm, loupe := t.loupe, mbx := t.mbx, mgmt := t.mgmt } ∧ t.input g = [] ∧ queued t p 4 = [(.membership, e.bezel, e.f.src, 0, none, [])]) ∧
  (∀ (s : State) (p a g : Nat) (e : TseIn), s.alive = true → PathFree s → g < 4 → s.tse.inputs = [(g, [e])] → e.port = p → e.f.icmp = 3 → e.f.dip = a → s.ptpOver p 1 = false → s.ptpOver p 2 = false →
    Does (.membershipQuery p a) s fun t => t.input g = [] ∧ queued t p 4 = [] ∧ (t.port p).drops.look 0 6 = (s.port p).drops.look 0 6 + 1) ∧
  (∀ (s : State) (p g n : Nat) (e : TseIn) (v : Service), s.alive = true → g < 4 → s.tse.inputs = [(g, [e])] → e.port = p → isPtp e.f = true → s.tse.services = [(n, some v)] → v.isNtp = false → p ∈ v.cfg.ports →
    Does (.foreignAnnounce p) s fun t => t = { s with tse := t.tse, tm := t.tm, loupe := t.loupe, mbx := t.mbx, mgmt := t.mgmt } ∧ t.input g = [] ∧ t.tse.grants = s.tse.grants ∧ t.tm.queues = s.tm.queues ∧
      (t.svc n).map (fun x => (x.cfg, x.bezel, x.cnt.look 0 2)) = some (v.cfg, v.bezel, v.cnt.look 0 2 + 1))

/-- A multicast Delay_Req to a serving end-to-end service, and a Pdelay_Req to a peer one, each without authentication, is answered by one response that carries the request's receive stamp as its PTP timestamp and its sequence number, and the service counts it; a service that does not serve drops and counts it. A unicast request in range is granted and entered until its second plus the duration, a short one denied with none entered; a cancel ends the grant and is acknowledged; an acknowledged cancel frees its entry. An NTP request is answered at a launch position with its origin timestamp; a malformed one is dropped and counted. Each of these answers a next state with its effect, under conditions on the state and the operands alone: delayReq, pdelayReq, requestUnicastTransmission, cancelUnicastTransmission, acknowledgeCancel, ntpRequest. (R298, R302, R308, R309, R311, R313, R319, R320, R328, R385) -/
def Obligations.TimeRequestEvents : Prop :=
  (∀ (s : State) (p g n : Nat) (e : TseIn) (v : Service) (m : PtpMsg), s.alive = true → PathFree s → g < 4 → s.tse.inputs = [(g, [e])] → e.port = p → isPtp e.f = true → e.timed = true → s.tse.services = [(n, some v)] → s.ptpSvc p m = some (n, v) → s.contextFrozen n v = false →
      m.version = 2 → m.minor ≤ 1 → m.lenOk = true → m.reservedOk = true → m.nsOk = true → m.token = none → m.auth = none → m.unicast = false → v.peer = false → v.cfg.auth = 0 → v.cfg.cls < 8 → s.serves v = true → s.mute p = false →
      (s.tse.works.all fun w => w.id != s.tse.nextWork) = true →
    Does (.delayReq p m) s fun t => t = { s with tse := t.tse, tm := t.tm, loupe := t.loupe, mbx := t.mbx, mgmt := t.mgmt } ∧ t.input g = [] ∧ t.tse.works = s.tse.works ∧ t.tse.grants = s.tse.grants ∧
      queued t p v.cfg.cls = [(.delayResp, e.bezel, m.client, m.seq, some e.stamp, [fld 48 (ptpStamp e.stamp).1, fld 32 (ptpStamp e.stamp).2.1, fld 64 (ptpStamp e.stamp).2.2.1])] ∧
      (t.svc n).map (fun x => (x.cfg, x.cnt.look 0 0)) = some (v.cfg, v.cnt.look 0 0 + 1)) ∧
  (∀ (s : State) (p g n : Nat) (e : TseIn) (v : Service) (m : PtpMsg), s.alive = true → PathFree s → g < 4 → s.tse.inputs = [(g, [e])] → e.port = p → isPtp e.f = true → e.timed = true → s.tse.services = [(n, some v)] → s.ptpSvc p m = some (n, v) → s.contextFrozen n v = false →
      m.version = 2 → m.minor ≤ 1 → m.lenOk = true → m.reservedOk = true → m.nsOk = true → m.token = none → m.auth = none → m.unicast = false → v.peer = false → v.cfg.auth = 0 → s.serves v = false →
    Does (.delayReq p m) s fun t => t.input g = [] ∧ t.tm.queues = [] ∧ Counted (256 + e.bezel) 17 1 s t ∧ (t.svc n).map (fun x => (x.cfg, x.cnt.look 0 3)) = some (v.cfg, v.cnt.look 0 3 + 1)) ∧
  (∀ (s : State) (p g n : Nat) (e : TseIn) (v : Service) (m : PtpMsg), s.alive = true → PathFree s → g < 4 → s.tse.inputs = [(g, [e])] → e.port = p → isPtp e.f = true → e.timed = true → s.tse.services = [(n, some v)] → s.ptpSvc p m = some (n, v) → s.contextFrozen n v = false →
      m.version = 2 → m.minor ≤ 1 → m.lenOk = true → m.reservedOk = true → m.nsOk = true → m.token = none → m.auth = none → v.peer = true → v.cfg.auth = 0 → v.cfg.cls < 8 → s.mute p = false →
      (s.tse.works.all fun w => w.id != s.tse.nextWork) = true →
    Does (.pdelayReq p m) s fun t => t = { s with tse := t.tse, tm := t.tm, loupe := t.loupe, mbx := t.mbx, mgmt := t.mgmt } ∧ t.input g = [] ∧ t.tse.works = s.tse.works ∧
      queued t p v.cfg.cls = [(.pdelayResp, e.bezel, m.client, m.seq, some e.stamp, [fld 48 (ptpStamp e.stamp).1, fld 32 (ptpStamp e.stamp).2.1, fld 64 (ptpStamp e.stamp).2.2.1])] ∧
      (t.svc n).map (fun x => x.cnt.look 0 0) = some (v.cnt.look 0 0 + 1)) ∧
  (∀ (s : State) (p g n : Nat) (e : TseIn) (v : Service) (q : UnicastReq), s.alive = true → PathFree s → g < 4 → s.tse.inputs = [(g, [e])] → e.port = p → isPtp e.f = true → e.timed = true → s.tse.services = [(n, some v)] → s.ptpSvc p q.m = some (n, v) → s.contextFrozen n v = false →
      q.m.version = 2 → q.m.minor ≤ 1 → q.m.lenOk = true → q.m.reservedOk = true → q.m.nsOk = true → q.m.token = none → q.m.auth = none → v.over 3 = true → v.cfg.auth = 0 → v.cfg.cls < 8 → s.clasp.st ≠ .standby →
      (s.tse.works.all fun w => w.id != s.tse.nextWork) = true → s.tse.grants = [] → q.msgType < 3 → v.peer = false → intervalOk v.cfg.profile q.msgType q.interval = true → 10 ≤ q.duration → q.duration ≤ v.cfg.maxGrant → 0 < s.quota 0 e.bezel →
    Does (.requestUnicastTransmission p q) s fun t => t = { s with tse := t.tse, tm := t.tm, loupe := t.loupe, mbx := t.mbx, mgmt := t.mgmt } ∧ t.input g = [] ∧ (∀ k, k ≠ 0 → t.grant k = {}) ∧
      ((t.grant 0).granted, (t.grant 0).client, (t.grant 0).port, (t.grant 0).service, (t.grant 0).bezel, (t.grant 0).expiry) = (2 ^ q.msgType, q.m.client, p, n, e.bezel, e.stamp / unitsPerSec + q.duration) ∧
      queued t p v.cfg.cls = [(.grant, e.bezel, q.m.client, q.m.seq, none, [fld 4 q.msgType, (8, q.interval), fld 32 q.duration])]) ∧
  (∀ (s : State) (p g n : Nat) (e : TseIn) (v : Service) (q : UnicastReq), s.alive = true → PathFree s → g < 4 → s.tse.inputs = [(g, [e])] → e.port = p → isPtp e.f = true → e.timed = true → s.tse.services = [(n, some v)] → s.ptpSvc p q.m = some (n, v) → s.contextFrozen n v = false →
      q.m.version = 2 → q.m.minor ≤ 1 → q.m.lenOk = true → q.m.reservedOk = true → q.m.nsOk = true → q.m.token = none → q.m.auth = none → v.over 3 = true → v.cfg.auth = 0 → v.cfg.cls < 8 → s.clasp.st ≠ .standby →
      (s.tse.works.all fun w => w.id != s.tse.nextWork) = true → q.duration < 10 →
    Does (.requestUnicastTransmission p q) s fun t => t.input g = [] ∧ t.tse.grants = s.tse.grants ∧ Counted (256 + e.bezel) 18 1 s t ∧
      queued t p v.cfg.cls = [(.grant, e.bezel, q.m.client, q.m.seq, none, [fld 4 q.msgType, (8, q.interval), fld 32 0])]) ∧
  (∀ (s : State) (p g n k c : Nat) (e : TseIn) (v : Service) (x : Grant), s.alive = true → PathFree s → g < 4 → s.tse.inputs = [(g, [e])] → e.port = p → isPtp e.f = true → s.tse.services = [(n, some v)] → v.cfg.cls < 8 →
      s.tse.grants = [(k, x)] → x.granted = 1 → x.client = c → x.port = p → x.service = n → x.authed = false →
    Does (.cancelUnicastTransmission p c 1) s fun t => t = { s with tse := t.tse, tm := t.tm, loupe := t.loupe, mbx := t.mbx, mgmt := t.mgmt } ∧ t.input g = [] ∧ t.grant k = {} ∧ queued t p v.cfg.cls = [(.ackCancel, x.bezel, c, 0, none, [fld 3 1])]) ∧
  (∀ (s : State) (p g k c : Nat) (e : TseIn) (x : Grant), s.alive = true → g < 4 → s.tse.inputs = [(g, [e])] → e.port = p → isPtp e.f = true → s.tse.grants = [(k, x)] → x.granted ≠ 0 → x.cancelling = true → x.client = c → x.port = p →
    Does (.acknowledgeCancel p c) s fun t => t = { s with tse := t.tse, tm := t.tm, loupe := t.loupe } ∧ t.input g = [] ∧ t.grant k = {} ∧ t.tm.queues = s.tm.queues) ∧
  (∀ (s : State) (p g n : Nat) (e : TseIn) (v : Service) (m : NtpReq), s.alive = true → PathFree s → g < 4 → s.tse.inputs = [(g, [e])] → e.port = p → isNtp e.f = true → e.timed = true → s.tse.services = [(n, some v)] → s.ntpSvc p = some (n, v) → s.contextFrozen n v = false →
      (m.version = 3 ∨ m.version = 4) → m.mode = 3 → 48 ≤ m.size → m.efOk = true → m.nts = none → e.f.len ≤ 9216 → v.cfg.auth = 0 → v.cfg.cls < 8 → v.cfg.hallmark = 0 → s.mute p = false → (s.port p).st = .up → (s.port p).launches = [] → s.tse.waits = [] →
      (s.tse.works.all fun w => w.id != s.tse.nextWork) = true →
    Does (.ntpRequest p m) s fun t => t = { s with tse := t.tse, tm := t.tm, ports := t.ports, free := t.free, loupe := t.loupe, mbx := t.mbx, mgmt := t.mgmt } ∧ t.input g = [] ∧ t.tse.works = s.tse.works ∧ t.tm.queues = [] ∧
      (t.port p).launches.map (fun f => (f.kind, f.bezel, f.seq, f.t, f.launch.isSome, f.body.drop 11)) =
        [(.ntp, e.bezel, m.xmt, some e.stamp, true, [fld 64 m.xmt, fld 32 (s.ntpStamp e.stamp).1, fld 32 (s.ntpStamp e.stamp).2.1, fld 32 (s.ntpStamp (((t.port p).launches.head?.bind (·.launch)).getD 0)).1, fld 32 (s.ntpStamp (((t.port p).launches.head?.bind (·.launch)).getD 0)).2.1])] ∧
      (t.svc n).map (fun x => x.cnt.look 0 0) = some (v.cnt.look 0 0 + 1)) ∧
  (∀ (s : State) (p g n : Nat) (e : TseIn) (v : Service) (m : NtpReq), s.alive = true → g < 4 → s.tse.inputs = [(g, [e])] → e.port = p → isNtp e.f = true → s.tse.services = [(n, some v)] → s.ntpSvc p = some (n, v) → s.contextFrozen n v = false → m.size < 48 →
    Does (.ntpRequest p m) s fun t => t = { s with tse := t.tse, tm := t.tm, loupe := t.loupe, mbx := t.mbx, mgmt := t.mgmt } ∧ t.input g = [] ∧ t.tm.queues = s.tm.queues ∧ Counted (256 + e.bezel) 22 1 s t ∧ (t.svc n).map (fun x => x.cnt.look 0 3) = some (v.cnt.look 0 3 + 1))

/-- The response at the head of a port's launches leaves with its launch stamp, or is discarded and counted where its position cannot be used; a waiting one takes its position when its turn comes. A serving service originates a Sync and an Announce with rising sequence numbers, one that does not serve no Sync; a Follow_Up carries the transmit stamp of its message. A grant ends when its second has passed, not before, and a cancel that is not acknowledged ends it. Each of these answers a next state with its effect, under conditions on the state and the operands alone: ntpLaunch, launchWaitEligible, syncOriginate, announceOriginate, followUpSend, pdelayRespFollowUpSend, grantExpiry, cancelTimeout. (R298, R306, R307, R308, R309, R310, R313, R320, R385) -/
def Obligations.TimeOriginationEvents : Prop :=
  (∀ (s : State) (p : Nat) (x : Rat) (f : TxFrame) (l : List TxFrame), s.alive = true → (s.port p).launches = f :: l → (s.port p).st = .up → (s.port p).pause = none → (s.port p).lpi = .active → (s.port p).wire = none → (s.port p).cal.running = false →
      f.work = none → s.squelched = false → rabs x ≤ 10 →
    Does (.ntpLaunch p true x) s fun t => t = { s.stamped p with ports := t.ports, tm := t.tm, loupe := t.loupe, mbx := t.mbx, mgmt := t.mgmt } ∧ t.port p = { (s.stamped p).port p with launches := l, sent := some ({ f with octets := s.octetsOf p f ((((f.launch.getD 0 : Nat) : Int) + unitsOfPs x).toNat) }, ((((f.launch.getD 0 : Nat) : Int) + unitsOfPs x).toNat)) } ∧
      (∀ k, k ≠ p → t.port k = s.port k) ∧ Counted p 3 1 s t ∧ (t.tmBez f.bezel).held = (s.tmBez f.bezel).held - cellsOf f.len) ∧
  (∀ (s : State) (p : Nat) (x : Rat) (f : TxFrame) (l : List TxFrame), s.alive = true → (s.port p).launches = f :: l → f.work = none →
    Does (.ntpLaunch p false x) s fun t => t = { s with ports := t.ports, tm := t.tm, loupe := t.loupe, mbx := t.mbx, mgmt := t.mgmt } ∧ t.port p = { s.port p with launches := l } ∧ Counted p 23 1 s t ∧
      (t.tmBez f.bezel).held = (s.tmBez f.bezel).held - cellsOf f.len) ∧
  (∀ (s : State) (g b p : Nat) (f : TxFrame), s.alive = true → s.tse.waits = [(g * 64 + b, [(p, f)])] → (s.port p).st = .up → s.eligible p f = true → f.work = none →
    Does (.launchWaitEligible g b) s fun t => t = { s with ports := t.ports, tm := t.tm, tse := t.tse, free := t.free, loupe := t.loupe, mbx := t.mbx, mgmt := t.mgmt } ∧ t.tse.waits.look [] (g * 64 + b) = [] ∧ t.free = s.free + 1 ∧
      (t.port p).launches.length = (s.port p).launches.length + 1 ∧ ((t.port p).launches.getLast?.map fun y => (y.kind, y.client, y.launch.isSome)) = some (f.kind, f.client, true)) ∧
  (∀ (s : State) (n p : Nat) (v : Service), s.alive = true → PathFree s → s.tse.services = [(n, some v)] → v.isNtp = false → v.cfg.profile ≠ 4 → v.cfg.transport = 1 → p ∈ v.cfg.ports → ((s.port p).st = .up ∨ (s.port p).st = .upUntimed) → s.serves v = true → s.mute p = false → s.contextFrozen n v = false → s.portOwner p = v.bezel →
      v.cfg.auth = 0 → v.cfg.cls < 8 → s.tse.grants = [] →
    Does (.syncOriginate n p) s fun t => t = { s with tse := t.tse, tm := t.tm, loupe := t.loupe, mbx := t.mbx, mgmt := t.mgmt } ∧ queued t p v.cfg.cls = [(.sync, v.bezel, 0, v.seqs.look 0 (p * 2), none, [fld 2 0])] ∧
      (t.svc n).map (fun y => (y.seqs.look 0 (p * 2), y.cnt.look 0 1)) = some ((v.seqs.look 0 (p * 2) + 1) % 65536, v.cnt.look 0 1 + 1)) ∧
  (∀ (s : State) (n p : Nat) (v : Service), s.alive = true → s.svc n = some v → s.serves v = false → Does (.syncOriginate n p) s fun t => t = s) ∧
  (∀ (s : State) (n p : Nat) (v : Service), s.alive = true → PathFree s → s.tse.services = [(n, some v)] → v.isNtp = false → v.cfg.profile = 0 → v.cfg.transport = 1 → p ∈ v.cfg.ports → ((s.port p).st = .up ∨ (s.port p).st = .upUntimed) → s.mute p = false → s.contextFrozen n v = false → s.portOwner p = v.bezel →
      v.cfg.auth = 0 → v.cfg.cls < 8 → s.tse.grants = [] →
    Does (.announceOriginate n p) s fun t => t = { s with tse := t.tse, tm := t.tm, loupe := t.loupe, mbx := t.mbx, mgmt := t.mgmt } ∧ queued t p v.cfg.cls = [(.announce, v.bezel, 0, v.seqs.look 0 (p * 2 + 1), none, s.dataSet v (s.carried p))] ∧
      (t.svc n).map (fun y => (y.seqs.look 0 (p * 2 + 1), y.cnt.look 0 1)) = some ((v.seqs.look 0 (p * 2 + 1) + 1) % 65536, v.cnt.look 0 1 + 1)) ∧
  (∀ (s : State) (p q u : Nat) (f : TxFrame) (v : Service), s.alive = true → PathFree s → (s.port p).follow = [(f, u)] → f.kind = .sync → f.seq = q → f.auth = false → (s.port p).st = .up → s.mute p = false → s.svc f.service = some v → f.cls < 8 →
    Does (.followUpSend p q) s fun t => (t.port p).follow = [] ∧ queued t p f.cls = [(.followUp, f.bezel, f.client, q, some u, [fld 48 (ptpStamp u).1, fld 32 (ptpStamp u).2.1, fld 64 (ptpStamp u).2.2.1])] ∧
      (∀ k, k ≠ p → t.port k = s.port k) ∧ t = { s with ports := t.ports, tse := t.tse, tm := t.tm, loupe := t.loupe, mbx := t.mbx, mgmt := t.mgmt }) ∧
  (∀ (s : State) (p q u : Nat) (f : TxFrame) (v : Service), s.alive = true → PathFree s → (s.port p).follow = [(f, u)] → f.kind = .pdelayResp → f.seq = q → f.auth = false → (s.port p).st = .up → s.mute p = false → s.svc f.service = some v → f.cls < 8 →
    Does (.pdelayRespFollowUpSend p q) s fun t => (t.port p).follow = [] ∧ queued t p f.cls = [(.pdelayFollowUp, f.bezel, f.client, q, some u, [fld 48 (ptpStamp u).1, fld 32 (ptpStamp u).2.1, fld 64 (ptpStamp u).2.2.1])] ∧
      (∀ k, k ≠ p → t.port k = s.port k) ∧ t = { s with ports := t.ports, tse := t.tse, tm := t.tm, loupe := t.loupe, mbx := t.mbx, mgmt := t.mgmt }) ∧
  (∀ (s : State) (n : Nat), s.alive = true → (s.grant n).granted ≠ 0 → (s.grant n).expiry < s.sec →
    Does (.grantExpiry n) s fun t => t = { s with tse := { s.tse with grants := t.tse.grants } } ∧ t.grant n = {} ∧ (∀ k, k ≠ n → t.grant k = s.grant k)) ∧
  (∀ (s : State) (n : Nat), s.alive = true → s.sec ≤ (s.grant n).expiry → Does (.grantExpiry n) s fun t => t = s) ∧
  (∀ (s : State) (n : Nat), s.alive = true → (s.grant n).granted ≠ 0 → (s.grant n).cancelling = true →
    Does (.cancelTimeout n) s fun t => t = { s with tse := { s.tse with grants := t.tse.grants } } ∧ t.grant n = {} ∧ (∀ k, k ≠ n → t.grant k = s.grant k))

/-- A ready svc command with operands in range and no conflict completes with OK. A new service takes the lowest free number, a changed one its new parameters, a deleted one is gone; addresses, the launch margin and the seal lifetime are stored; two ports join or leave a redundant pair; a cancelled grant is CANCELLING and its client told. Reads answer the service and the grant entry and change nothing. Each of these answers a next state with its effect, under conditions on the state and the operands alone: svcSetService, svcSetAddress, svcSetLaunch, svcCancelGrant, svcSetSeal, svcSetPrp, svcReadStatus, svcReadGrant. (R296, R297, R299, R313, R318, R320, R322, R325, R480, R481) -/
def Obligations.ServiceCommands : Prop :=
  (∀ (h : CmdHdr) (s : State) (a : ServiceArgs) (n : Nat), ready { op := 0x2101, who := .any, mirrored := true, xbIn := true } h s → a.op = 0 → a.service = 0xFFFF → serviceArgsOk a = true → (a.auth = 1 → s.macKeyOk a.key = true ∧ s.keyOwned h.fn a.key = true) → (a.ports.all fun p => s.portOwner p = h.fn) = true →
      (s.allSvcs.any fun q => q.1 != a.service && servicesClash a q.2.cfg) = false → (s.allSvcs.filter fun q => q.2.bezel = h.fn).length < 64 → s.freeService = some n →
    Does (.svcSetService h a) s fun t => Completes h s { s with tse := t.tse } t [fld 16 n] [] ∧ t.svc n = some { bezel := h.fn, cfg := { a with service := n } } ∧ (∀ k, k ≠ n → t.svc k = s.svc k) ∧ t.tse.grants = s.tse.grants) ∧
  (∀ (h : CmdHdr) (s : State) (a : ServiceArgs) (v : Service), ready { op := 0x2101, who := .any, mirrored := true, xbIn := true } h s → a.op = 1 → a.service < 1024 → s.svc a.service = some v → v.bezel = h.fn → serviceArgsOk a = true → (a.auth = 1 → s.macKeyOk a.key = true ∧ s.keyOwned h.fn a.key = true) →
      (a.ports.all fun p => s.portOwner p = h.fn) = true → (s.allSvcs.any fun q => q.1 != a.service && servicesClash a q.2.cfg) = false → s.tse.grants = [] →
    Does (.svcSetService h a) s fun t => Completes h s { s with tse := t.tse } t [fld 16 a.service] [] ∧ t.svc a.service = some { v with cfg := a } ∧ (∀ k, k ≠ a.service → t.svc k = s.svc k)) ∧
  (∀ (h : CmdHdr) (s : State) (a : ServiceArgs) (v : Service), ready { op := 0x2101, who := .any, mirrored := true, xbIn := true } h s → a.op = 2 → a.service < 1024 → s.svc a.service = some v → v.bezel = h.fn → s.tse.grants = [] →
    Does (.svcSetService h a) s fun t => Completes h s { s with tse := t.tse } t [fld 16 a.service] [] ∧ t.svc a.service = none ∧ (∀ k, k ≠ a.service → t.svc k = s.svc k)) ∧
  (∀ (h : CmdHdr) (s : State) (p i f v c a : Nat), ready { op := 0x2102, plen := 24, who := .any, mirrored := true } h s → p < 256 → i < 16 → (f = 4 ∨ f = 6) → v ≤ 4094 → c ≤ 7 → a < (if f = 4 then 2 ^ 32 else 2 ^ 128) → s.portOwner p = h.fn →
      ((s.port (s.homePort p)).addrs.any fun q => q.1 != i && q.2.family = f && q.2.vlan = v && q.2.addr = a) = false →
    Does (.svcSetAddress h p i f v c a) s fun t => Completes h s { s with ports := t.ports } t [] [] ∧ (t.port (s.homePort p)).addrs.look {} i = { family := f, vlan := v, pcp := c, addr := a } ∧
      t.port (s.homePort p) = { s.port (s.homePort p) with addrs := (t.port (s.homePort p)).addrs } ∧ (∀ k, k ≠ s.homePort p → t.port k = s.port k)) ∧
  (∀ (h : CmdHdr) (s : State) (p i : Nat), ready { op := 0x2102, plen := 24, who := .any, mirrored := true } h s → p < 256 → i < 16 → s.portOwner p = h.fn →
    Does (.svcSetAddress h p i 0 0 0 0) s fun t => Completes h s { s with ports := t.ports } t [] [] ∧ ((t.port (s.homePort p)).addrs.any fun q => q.1 = i) = false ∧ (∀ k, k ≠ s.homePort p → t.port k = s.port k)) ∧
  (∀ (h : CmdHdr) (s : State) (p m : Nat), ready { op := 0x2103, plen := 8, who := .any, mirrored := true } h s → p < 256 → 500 ≤ m → m ≤ 100000 → s.portOwner p = h.fn →
    Does (.svcSetLaunch h p m) s fun t => Completes h s { s with ports := t.ports } t [] [] ∧ t.port p = { s.port p with margin := m } ∧ (∀ k, k ≠ p → t.port k = s.port k)) ∧
  (∀ (h : CmdHdr) (s : State) (e : Nat), ready { op := 0x2104, plen := 4, who := .any, mirrored := true, action := true } h s → e < 1048576 → (s.grant e).granted ≠ 0 → (s.grant e).bezel = h.fn → h.fn = 0 → (s.grant e).authed = false → (s.loupe.banks.look {} 256).mode ≠ 2 → PathFree s → s.tse.services = [] →
    Does (.svcCancelGrant h e) s fun t => Completes h s { s with tse := t.tse, tm := t.tm } t [] [] ∧ t.grant e = { s.grant e with cancelling := true } ∧ (∀ k, k ≠ e → t.grant k = s.grant k) ∧
      queued t (s.grant e).port 0 = [(.cancel, (s.grant e).bezel, (s.grant e).client, 0, none, [fld 3 (s.grant e).granted])]) ∧
  (∀ (h : CmdHdr) (s : State) (l : Nat), ready { op := 0x2105, plen := 4, who := .any, mirrored := true } h s → 3600 ≤ l → l ≤ 604800 →
    Does (.svcSetSeal h l) s fun t => Completes h s { s with tse := { s.tse with seals := t.tse.seals } } t [] [] ∧ t.seal h.fn = { s.seal h.fn with lifetime := l, next := (s.seal h.fn).next - (s.seal h.fn).lifetime + l } ∧ (∀ k, k ≠ h.fn → t.seal k = s.seal k)) ∧
  (∀ (h : CmdHdr) (s : State) (a b f : Nat), ready { op := 0x2106, plen := 12, who := .any, mirrored := true } h s → a < 256 → b < 256 → a ≠ b → 10 ≤ f → f ≤ 1000 → (s.port a).mode = (s.port b).mode → s.portOwner a = h.fn → s.portOwner b = h.fn → s.portInPrp a = false → s.portInPrp b = false →
      s.portUsed .prp a = false → s.portUsed .prp b = false →
    Does (.svcSetPrp h a b 1 f) s fun t => Completes h s { s with ports := { s.ports with prp := s.ports.prp ++ [{ a := a, b := b, forget := f }] } } t [] []) ∧
  (∀ (h : CmdHdr) (s : State) (a b f : Nat) (q : PrpPair), ready { op := 0x2106, plen := 12, who := .any, mirrored := true } h s → a < 256 → b < 256 → a ≠ b → q ∈ s.ports.prp → q.a = a → q.b = b → s.portOwner a = h.fn → s.portOwner b = h.fn →
    Does (.svcSetPrp h a b 0 f) s fun t => Completes h s { s with ports := { s.ports with prp := t.ports.prp } } t [] [] ∧ t.ports.prp = s.ports.prp.filter fun y => !(y.a = a && y.b = b)) ∧
  (∀ (h : CmdHdr) (s : State) (n : Nat) (v : Service), ready { op := 0x2141, plen := 2, who := .any, xbOut := true } h s → s.svc n = some v → (h.fn = 0 ∨ v.bezel = h.fn) → 256 ≤ h.xlen →
    Does (.svcReadStatus h n) s fun t => Completes h s s t [] (lastXb h t) ∧ (lastXb h t).take 3 = [fld 16 n, fld 8 v.bezel, fld 8 v.cfg.profile]) ∧
  (∀ (h : CmdHdr) (s : State) (e : Nat), ready { op := 0x2142, plen := 4, who := .any } h s → e < 1048576 → (h.fn = 0 ∨ (s.grant e).bezel = h.fn) → Executes (.svcReadGrant h e) h s s (s.grant e).layout [])

/-- A ready key command with operands in range and no conflict completes with OK. A generated or imported key fills the lowest free pool slot, VALID with the attributes given and a new generation, and no other slot changes but the count of uses of the parent of an import; the owner root brings the roots of every bezel; a destroyed key's slot is FREE and its children ORPHAN; a slot that is not VALID is freed; reads and random numbers leave the keys alone. Each of these answers a next state with its effect, under conditions on the state and the operands alone: keyGenerate, keyImport, keyProvisionOwner, keyDestroy, keyFree, keySetTls, keyReadSlot, keyReadIdentity, keyRandom, keyReadStatus. (R344, R346, R347, R348, R350, R354, R355, R357, R358, R361, R482) -/
def Obligations.KeyCommands : Prop :=
  (∀ (h : CmdHdr) (s : State) (a : GenKeyArgs) (k : Nat), ready { op := 0x2201, plen := 20, who := .any, mirrored := nbit a.usage 13, xbOut := privateAlg a.alg } h s → a.parent < 4096 → algLen a.alg ≠ 0 → a.usage < 16384 → (s.key a.parent).depth < 7 →
      s.keyOwned h.fn a.parent = true → s.lkError = false → (s.key a.parent).st = .valid → s.poolFull h.fn = false → s.freeSlot = some k → (privateAlg a.alg = true → 64 ≤ h.xlen) →
    Does (.keyGenerate h a) s fun t => Completes h s { s with keys := t.keys, free := s.free + 1 } t [fld 16 k, fld 16 (((s.key k).gen + 1) % 65536)] (lastXb h t) ∧ (privateAlg a.alg = false → lastXb h t = []) ∧
      t.key k = { t.key k with st := .valid, usage := a.usage, alg := a.alg, len := algLen a.alg, depth := (s.key a.parent).depth + 1, owner := h.fn, locket := false, expireAtReset := a.expireAtReset, parent := a.parent, useCtr := 0, useLimit := a.useLimit, expiry := a.expiry, gen := ((s.key k).gen + 1) % 65536, label := a.label } ∧
      (∀ j, j ≠ k → t.key j = s.key j) ∧ (t.keys.drbgs.look {} 0).requests = (s.keys.drbgs.look {} 0).requests + 1) ∧
  (∀ (h : CmdHdr) (s : State) (p k : Nat) (b : KeyBlob), ready { op := 0x2202, plen := 4, who := .any, mirrored := nbit b.usage 13, xbIn := true } h s → p < 4096 → s.keyOwned h.fn p = true → b.version = 1 → b.wrap = 1 → b.sivOk = true → b.len = algLen b.alg →
      b.parent = p → b.owner = h.fn → (s.key p).may 5 = true → ((List.range 13).any fun n => nbit b.usage n && !(s.key p).may n) = false → (s.key p).depth < 7 → s.keyUsable p = true → (s.key p).useLimit = 0 → p ≠ sealedKey → s.poolFull h.fn = false → s.freeSlot = some k →
    Does (.keyImport h p 0 b) s fun t => Completes h s { s with keys := t.keys } t [fld 16 k, fld 16 (((s.key k).gen + 1) % 65536)] [] ∧
      t.key k = { t.key k with st := .valid, usage := b.usage, alg := b.alg, len := b.len, depth := (s.key p).depth + 1, owner := h.fn, locket := false, expireAtReset := b.expireAtReset, parent := p, useCtr := 0, useLimit := b.useLimit, expiry := b.expiry, gen := ((s.key k).gen + 1) % 65536, label := b.label, material := b.material } ∧
      t.key p = { s.key p with useCtr := min 0xFFFFFFFF ((s.key p).useCtr + 1) } ∧ (∀ j, j ≠ k → j ≠ p → t.key j = s.key j)) ∧
  (∀ (h : CmdHdr) (s : State) (b : KeyBlob), ready { op := 0x2203, mirrored := nbit b.usage 13, xbIn := true } h s → b.version = 1 → b.wrap = 2 → b.sivOk = true → b.alg = 2 → b.len = 32 → b.parent = 1 → b.owner = 0 → b.expireAtReset = false → (s.key 2).st ≠ .valid →
      s.bez.rows = [(0, s.bezel 0)] → (s.bezel 0).present = true → (s.bezel 0).deleting = false → (s.key 64).st ≠ .valid →
    Does (.keyProvisionOwner h b) s fun t => Completes h s { s with keys := t.keys, tse := t.tse, free := t.free } t [] [] ∧ ((t.key 2).st, (t.key 2).usage, (t.key 2).depth, (t.key 2).parent, (t.key 2).material) = (.valid, b.usage, 2, 1, b.material) ∧
      ((t.key 64).st, (t.key 64).alg, (t.key 64).parent) = (.valid, 2, 2) ∧ ((t.key 128).st, (t.key 128).alg, (t.key 128).parent) = (.valid, 1, 64) ∧ ((t.key 192).st, (t.key 192).alg, (t.key 192).parent) = (.valid, 4, 64) ∧
      ((t.key 193).st, (t.key 193).alg, (t.key 193).parent) = (.valid, 4, 64) ∧ (∀ j, 320 ≤ j → t.key j = s.key j)) ∧
  (∀ (h : CmdHdr) (s : State) (k : Nat), ready { op := 0x2204, plen := 8, who := .any, mirrored := s.keyMirrors k } h s → 320 ≤ k → k < 4096 → s.keyOwned h.fn k = true → s.childrenOf k = [] →
    Does (.keyDestroy h k 0) s fun t => Completes h s { s with keys := t.keys, sta := { s.sta with cached := [] } } t [] [] ∧ t.key k = { gen := (s.key k).gen } ∧ (∀ j, j ≠ k → t.key j = s.key j)) ∧
  (∀ (h : CmdHdr) (s : State) (k c : Nat), ready { op := 0x2204, plen := 8, who := .any, mirrored := s.keyMirrors k } h s → 320 ≤ k → k < 4096 → s.keyOwned h.fn k = true → c ∈ s.childrenOf k →
    Does (.keyDestroy h k 0) s fun t => Completes h s { s with keys := t.keys, sta := { s.sta with cached := [] } } t [] [] ∧ t.key k = { gen := (s.key k).gen } ∧ (t.key c).st = .orphan ∧ (t.key c).material = 0) ∧
  (∀ (h : CmdHdr) (s : State) (k : Nat), ready { op := 0x2205, plen := 2, who := .any, mirrored := s.keyMirrors k } h s → k < 4096 → s.keyOwned h.fn k = true → (s.key k).st ≠ .valid →
    Does (.keyFree h k) s fun t => Completes h s { s with keys := t.keys } t [] [] ∧ t.key k = { gen := (s.key k).gen } ∧ (∀ j, j ≠ k → t.key j = s.key j)) ∧
  (∀ (h : CmdHdr) (s : State) (k c a l : Nat), ready { op := 0x2206, plen := 4, who := .any, mirrored := true, xbIn := true } h s → k < 4096 → c ≤ 1 → a ≤ 8 → l ≤ 8192 → s.keyOwned h.fn k = true → ((s.key k).alg = 0x10 ∨ (s.key k).alg = 0x12) → (s.key k).may 7 = true →
    Does (.keySetTls h k c a l) s fun t => Completes h s { s with keys := { s.keys with tls := t.keys.tls } } t [] [] ∧ t.keys.tls.look none h.fn = some { signSlot := k, clientAuth := decide (c = 1), anchors := a, chainLen := l }) ∧
  (∀ (h : CmdHdr) (s : State) (k : Nat), ready { op := 0x2241, plen := 2, who := .any } h s → k < 4096 → (h.fn = 0 ∨ k ≤ 2 ∨ s.keyOwned h.fn k = true) → Executes (.keyReadSlot h k) h s s ((s.key k).layout ++ [fld 8 (b01 ((s.key k).st = .invalid))]) []) ∧
  (∀ (h : CmdHdr) (s : State), ready { op := 0x2242, who := .any, xbOut := true } h s →
    Does (.keyReadIdentity h) s fun t => (Rec.bytes (fld 256 Config.agreementKey :: Config.certificate.map fun b => fld 8 b) ≤ h.xlen → Completes h s s t [] (fld 256 Config.agreementKey :: Config.certificate.map fun b => fld 8 b)) ∧
      (h.xlen < Rec.bytes (fld 256 Config.agreementKey :: Config.certificate.map fun b => fld 8 b) → Answers h s t .arg [fld 32 (Rec.bytes (fld 256 Config.agreementKey :: Config.certificate.map fun b => fld 8 b))] [])) ∧
  (∀ (h : CmdHdr) (s : State) (l : Nat), ready { op := 0x2243, plen := 2, who := .any, xbOut := true } h s → 1 ≤ l → l ≤ 256 → s.lkError = false → l ≤ h.xlen →
    Does (.keyRandom h l) s fun t => Completes h s { s with keys := { s.keys with drbgs := t.keys.drbgs }, free := s.free + 1 } t [] [fld (8 * l) (Config.randomBytes l s.free)] ∧ (t.keys.drbgs.look {} 0).requests = (s.keys.drbgs.look {} 0).requests + 1) ∧
  (∀ (h : CmdHdr) (s : State), ready { op := 0x2244, who := .any, xbOut := true } h s → 512 ≤ h.xlen →
    Does (.keyReadStatus h) s fun t => Completes h s s t [] (lastXb h t) ∧ (lastXb h t).take 2 = [fld 8 (b01 (s.eng16 0).inService), fld 48 (s.eng16 0).jobs])

/-- A failed public-key engine and the third failed entropy start-up are out of service and degrade the device; a passed start-up lets DRBG units reseed; one that cannot for its time is in ERROR. A VALID slot whose EXPIRY has passed is EXPIRED and not before, one whose tag fails is INVALID, its material gone; the seal key rotates into the other slot when due. Each of these answers a next state with its effect, under conditions on the state and the operands alone: pkOperationComplete, entropyHealthFailure, entropyStartupEnd, drbgReseed, drbgErrorTimeout, slotExpiry, slotScrub, sealKeyRotation. (R322, R342, R343, R344, R345, R349, R350, R355) -/
def Obligations.KeyEvents : Prop :=
  (∀ (s : State) (n : Nat), s.alive = true → Does (.pkOperationComplete n true) s fun t => t = s) ∧
  (∀ (s : State) (n : Nat), s.alive = true → n < 2 → n ∉ s.keys.pkOut →
    Does (.pkOperationComplete n false) s fun t => t = { s with keys := t.keys, fault := t.fault, pwr := t.pwr, mbx := t.mbx, mgmt := t.mgmt } ∧ t.keys = { s.keys with pkOut := s.keys.pkOut ++ [n] } ∧ 0x0600 + n ∈ t.fault.causes ∧ t.fault.replace = true) ∧
  (∀ (s : State), s.alive = true → s.keys.entropyOut = false →
    Does .entropyHealthFailure s fun t => t = { s with keys := { s.keys with entropyUp := false, restarts := s.keys.restarts + 1 } }) ∧
  (∀ (s : State), s.alive = true → s.keys.entropyOut = false → Does (.entropyStartupEnd true) s fun t => t = { s with keys := { s.keys with entropyUp := true, entropyFails := 0 } }) ∧
  (∀ (s : State), s.alive = true → s.keys.entropyOut = false → 2 ≤ s.keys.entropyFails →
    Does (.entropyStartupEnd false) s fun t => t.keys.entropyOut = true ∧ t.keys.entropyUp = false ∧ 0x0700 ∈ t.fault.causes ∧ t.keys.slots = s.keys.slots) ∧
  (∀ (s : State) (n : Nat), s.alive = true → n < 6 → s.keys.entropyUp = true → s.keys.entropyOut = false → (s.keys.drbgs.look {} n).error = false →
    Does (.drbgReseed n) s fun t => t = { s with keys := { s.keys with drbgs := t.keys.drbgs } } ∧ t.keys.drbgs.look {} n = { s.keys.drbgs.look {} n with requests := 0 } ∧ (∀ k, k ≠ n → t.keys.drbgs.look {} k = s.keys.drbgs.look {} k)) ∧
  (∀ (s : State) (n : Nat), s.alive = true → (s.keys.drbgs.look {} n).error = true → Does (.drbgReseed n) s fun t => t = s) ∧
  (∀ (s : State) (n : Nat), s.alive = true → n < 6 → s.keys.entropyUp = false →
    Does (.drbgErrorTimeout n) s fun t => (t.keys.drbgs.look {} n).error = true ∧ (∀ k, k ≠ n → t.keys.drbgs.look {} k = s.keys.drbgs.look {} k) ∧ t.keys.entropyOut = true ∧ t.keys.slots = s.keys.slots) ∧
  (∀ (s : State) (k : Nat), s.alive = true → (s.key k).st = .valid → (s.key k).expiry ≠ 0 → (s.key k).expiry < s.sec % 2 ^ 32 →
    Does (.slotExpiry k) s fun t => t = { s with keys := t.keys, mbx := t.mbx, mgmt := t.mgmt } ∧ t.key k = { s.key k with st := .expired } ∧ (∀ j, j ≠ k → t.key j = s.key j)) ∧
  (∀ (s : State) (k : Nat), s.alive = true → s.sec % 2 ^ 32 ≤ (s.key k).expiry → Does (.slotExpiry k) s fun t => t = s) ∧
  (∀ (s : State) (k : Nat), s.alive = true → Does (.slotScrub k true) s fun t => t = s) ∧
  (∀ (s : State) (k : Nat), s.alive = true → k < 4096 → (s.key k).st ≠ .free → (s.key k).st ≠ .invalid → s.childrenOf k = [] →
    Does (.slotScrub k false) s fun t => t = { s with keys := t.keys, sta := { s.sta with cached := [] }, mbx := t.mbx, mgmt := t.mgmt } ∧ t.key k = { s.key k with st := .invalid, material := 0 } ∧ (∀ j, j ≠ k → t.key j = s.key j) ∧ t.keys.tagFails = s.keys.tagFails + 1) ∧
  (∀ (s : State) (b : Nat), s.alive = true → b < 64 → (s.seal b).next ≤ s.upNs / 1000000000 → s.lkError = false → (s.key (64 + b)).st = .valid →
    Does (.sealKeyRotation b) s fun t => t = { s with keys := t.keys, tse := { s.tse with seals := t.tse.seals }, mbx := t.mbx, mgmt := t.mgmt, free := s.free + 1 } ∧
      t.seal b = { s.seal b with gen := ((s.seal b).gen + 1) % 2 ^ 32, since := s.sec, next := s.sec + (s.seal b).lifetime } ∧
      ((t.key (sealSlot b (((s.seal b).gen + 1) % 2 ^ 32))).st, (t.key (sealSlot b (((s.seal b).gen + 1) % 2 ^ 32))).alg, (t.key (sealSlot b (((s.seal b).gen + 1) % 2 ^ 32))).parent) = (.valid, 4, 64 + b) ∧
      (∀ j, j ≠ sealSlot b (((s.seal b).gen + 1) % 2 ^ 32) → t.key j = s.key j)) ∧
  (∀ (s : State) (b : Nat), s.alive = true → s.upNs / 1000000000 < (s.seal b).next → Does (.sealKeyRotation b) s fun t => t = s)

/-- An opening segment to a bezel with TLS makes a connection within the limits, one to a bezel without is reset and counted; a hello starts a handshake; a good Finished establishes the connection and counts it; a bad record closes it and counts the cause; a request with an unknown critical record is answered with its Error record; time-outs end connections. The Locket's own exchange gives the NREF its cookies and two VALID keys that expire at reset. Each of these answers a next state with its effect, under conditions on the state and the operands alone: tcpSegment, tlsRecord, handshakeTimeout, connectionIdleTimeout, ntsKeClientExchange. (R327, R360, R362, R363, R364, R368) -/
def Obligations.KeyEstablishmentEvents : Prop :=
  (∀ (s : State) (p g : Nat) (e : TseIn) (q : TcpSeg), s.alive = true → PathFree s → g < 4 → s.tse.inputs = [(g, [e])] → e.port = p → isKe e.f = true → s.clasp.st ≠ .standby → q.kind = .opens → s.keys.conns = [] → (s.keys.tls.look none e.bezel).isSome = true →
    Does (.tcpSegment p q) s fun t => t = { s with tse := { s.tse with inputs := t.tse.inputs, issued := t.tse.issued }, keys := { s.keys with conns := t.keys.conns }, tm := t.tm, loupe := t.loupe, mbx := t.mbx, mgmt := t.mgmt } ∧ t.input g = [] ∧
      t.conn 0 = some { port := p, bezel := e.bezel, client := q.client, sport := q.sport, addr := q.addr } ∧ queued t p 4 = [(.keyEstablishment, e.bezel, q.client, 0, none, [])]) ∧
  (∀ (s : State) (p g : Nat) (e : TseIn) (q : TcpSeg), s.alive = true → PathFree s → g < 4 → s.tse.inputs = [(g, [e])] → e.port = p → isKe e.f = true → s.clasp.st ≠ .standby → q.kind = .opens → s.keys.conns = [] → s.keys.tls.look none e.bezel = none → (s.loupe.banks.look {} (256 + e.bezel)).mode = 0 →
    Does (.tcpSegment p q) s fun t => t.input g = [] ∧ t.keys.conns = [] ∧ queued t p 4 = [(.keyEstablishment, e.bezel, q.client, 0, none, [])] ∧ t.keys.answers.look 0 11 = s.keys.answers.look 0 11 + 1 ∧ Counted (256 + e.bezel) 27 1 s t) ∧
  (∀ (s : State) (p g n : Nat) (e : TseIn) (q : TcpSeg) (c : KeConn), s.alive = true → g < 4 → s.tse.inputs = [(g, [e])] → e.port = p → isKe e.f = true → s.clasp.st ≠ .standby → q.kind = .hello → s.keys.conns = [(n, some c)] → c.phase = .open_ →
      c.client = q.client → c.sport = q.sport → c.addr = q.addr →
    Does (.tcpSegment p q) s fun t => t.input g = [] ∧ t.conn n = some { c with phase := .handshake } ∧ t.keys = { s.keys with conns := t.keys.conns }) ∧
  (∀ (s : State) (n : Nat) (c : KeConn), s.alive = true → PathFree s → s.keys.conns = [(n, some c)] → c.phase = .handshake → s.tlsDown c.bezel = false → (s.loupe.banks.look {} (256 + c.bezel)).mode = 0 →
    Does (.tlsRecord n (.finished true)) s fun t => t = { s with keys := t.keys, loupe := t.loupe, mbx := t.mbx, mgmt := t.mgmt } ∧ t.conn n = some { c with phase := .established } ∧ t.keys = { s.keys with conns := t.keys.conns } ∧ Counted (256 + c.bezel) 26 1 s t) ∧
  (∀ (s : State) (n : Nat) (c : KeConn), s.alive = true → PathFree s → s.keys.conns = [(n, some c)] → (s.loupe.banks.look {} (256 + c.bezel)).mode = 0 →
    Does (.tlsRecord n .badTag) s fun t => t.conn n = none ∧ t.keys.answers.look 0 0 = s.keys.answers.look 0 0 + 1 ∧ Counted (256 + c.bezel) 27 1 s t ∧ queued t c.port 4 = [(.keyEstablishment, c.bezel, c.client, 0, none, [])] ∧ t.keys.slots = s.keys.slots) ∧
  (∀ (s : State) (n : Nat) (c : KeConn) (r : KeReq), s.alive = true → PathFree s → s.keys.conns = [(n, some c)] → c.phase = .established → r.unknownCritical = true →
    Does (.tlsRecord n (.request r)) s fun t => t.conn n = none ∧ t.keys.answers.look 0 5 = s.keys.answers.look 0 5 + 1 ∧ queued t c.port 4 = [(.keyEstablishment, c.bezel, c.client, 0, none, [])] ∧ t.keys.slots = s.keys.slots) ∧
  (∀ (s : State) (n : Nat) (c : KeConn), s.alive = true → PathFree s → s.keys.conns = [(n, some c)] → c.phase = .handshake →
    Does (.handshakeTimeout n) s fun t => t.conn n = none ∧ t.keys.answers.look 0 10 = s.keys.answers.look 0 10 + 1 ∧ queued t c.port 4 = [(.keyEstablishment, c.bezel, c.client, 0, none, [])]) ∧
  (∀ (s : State) (n : Nat) (c : KeConn), s.alive = true → PathFree s → s.keys.conns = [(n, some c)] → c.phase = .established →
    Does (.connectionIdleTimeout n) s fun t => t = { s with keys := { s.keys with conns := t.keys.conns }, tm := t.tm, mbx := t.mbx, mgmt := t.mgmt } ∧ t.conn n = none ∧ queued t c.port 4 = [(.keyEstablishment, c.bezel, c.client, 0, none, [])]) ∧
  (∀ (s : State) (n : Nat), s.alive = true → n < 16 → (s.nrefIn n).cfg.auth = 2 → (s.nrefIn n).cfg.enable ≠ 0 → s.lkError = false → s.keys.pkOut.length < 2 →
    Does (.ntsKeClientExchange n true) s fun t => t = { s with keys := { s.keys with slots := t.keys.slots }, ref := t.ref, free := s.free + 2 } ∧ (t.nrefIn n) = { s.nrefIn n with cookies := 8 } ∧
      ((t.key (3 + 2 * n)).st, (t.key (3 + 2 * n)).locket, (t.key (3 + 2 * n)).expireAtReset, (t.key (3 + 2 * n)).parent) = (.valid, true, true, 1) ∧ ((t.key (4 + 2 * n)).st, (t.key (4 + 2 * n)).locket, (t.key (4 + 2 * n)).expireAtReset) = (.valid, true, true) ∧
      (∀ k, k ≠ 3 + 2 * n → k ≠ 4 + 2 * n → t.key k = s.key k)) ∧
  (∀ (s : State) (n : Nat), s.alive = true → Does (.ntsKeClientExchange n false) s fun t => t = s)

/-- A ready sta command completes with OK: a reservation lays the shadow table out afresh and answers its entries, a weight goes to the shadow, a commit waits for entry 0 and then makes the shadow active. The pointer passes entries in order and gives a credit to the owner of each. An engine takes the oldest creditable job and charges its requester its beats, down to -256; a finished job frees the engine, a failed engine's job is reissued once, and an engine that fails its known-answer test is out of service. Each of these answers a next state with its effect, under conditions on the state and the operands alone: staSetReserve, staSetWeight, staCommit, staReadTable, staPointerAdvance, staCommitEffect, signetDispatch, signetJobComplete, knownAnswerTest. (R340, R341, R387, R388, R389, R391, R392, R393, R480) -/
def Obligations.SignetArbitration : Prop :=
  (∀ (h : CmdHdr) (s : State) (b n : Nat), ready { op := 0x2501, plen := 8, mirrored := true } h s → b < 64 → s.bezelServes b = true → s.entriesUsed b + entriesFor n ≤ 506 →
    Does (.staSetReserve h b n) s fun t => Completes h s { s with sta := t.sta, bez := t.bez } t [fld 16 (entriesFor n)] [] ∧ t.sta.reserve.look 0 b = n ∧ (∀ k, k ≠ b → t.sta.reserve.look 0 k = s.sta.reserve.look 0 k) ∧
      t.sta.shadow.owner = layTable t.sta.reserve ∧ t.sta.active = s.sta.active ∧ t.sta.jobs = s.sta.jobs) ∧
  (∀ (h : CmdHdr) (s : State) (b w : Nat), ready { op := 0x2502, plen := 2, mirrored := true } h s → b < 64 → s.bezelServes b = true → w < 256 →
    Does (.staSetWeight h b w) s fun t => Completes h s { s with sta := t.sta } t [] [] ∧ t.sta.shadow.weightOf b = w ∧ t.sta.shadow.owner = s.sta.shadow.owner ∧ t.sta.active = s.sta.active) ∧
  (∀ (h : CmdHdr) (s : State), ready { op := 0x2503, mirrored := true, action := true } h s → s.sta.commit = false → Executes (.staCommit h) h s { s with sta := { s.sta with commit := true } } [] []) ∧
  (∀ (h : CmdHdr) (s : State), ready { op := 0x2541, xbOut := true } h s → 2048 ≤ h.xlen → Executes (.staReadTable h) h s s [] (s.sta.shadow.bytes ++ s.sta.active.bytes ++ (List.range 66).map fun r => fld 8 (s.sta.active.weightOf r))) ∧
  (∀ (s : State) (n : Nat), s.alive = true → n ≤ 512 → s.sta.pointer < 512 →
    Does (.staPointerAdvance n) s fun t => t = { s with sta := t.sta } ∧ t.sta.pointer = (s.sta.pointer + n) % 512 ∧ t.sta.passed = s.sta.passed + n ∧ t.sta.jobs = s.sta.jobs ∧ t.sta.engines = s.sta.engines) ∧
  (∀ (s : State), s.alive = true → s.sta.commit = false → s.sta.active.at s.sta.pointer ≠ 127 → s.reqFrozen (s.sta.active.at s.sta.pointer) = false → s.creditOf (s.sta.active.at s.sta.pointer) < 64 →
    Does (.staPointerAdvance 1) s fun t => t.creditOf (s.sta.active.at s.sta.pointer) = s.creditOf (s.sta.active.at s.sta.pointer) + 1 ∧ (∀ r, r ≠ s.sta.active.at s.sta.pointer → t.creditOf r = s.creditOf r)) ∧
  (∀ (s : State), s.alive = true → s.sta.commit = true → s.sta.pointer = 0 → Does .staCommitEffect s fun t => t = { s with sta := { s.sta with active := s.sta.shadow, commit := false } }) ∧
  (∀ (s : State), s.alive = true → s.sta.pointer ≠ 0 → Does .staCommitEffect s fun t => t = s) ∧
  (∀ (s : State) (n : Nat) (j : SigJob), s.alive = true → n < 16 → (s.eng16 n).inService = true → (s.eng16 n).job = none → s.sta.jobs = [j] → s.sta.reissue = [] → j.green = true → 1 ≤ s.creditOf j.req → j.req < 64 → s.reqFrozen j.req = false → j.slot = sealedKey →
    Does (.signetDispatch n) s fun t => t = { s with sta := t.sta, loupe := t.loupe, mbx := t.mbx, mgmt := t.mgmt } ∧ t.eng16 n = { s.eng16 n with job := some j, jobs := (s.eng16 n).jobs + 1 } ∧ t.sta.jobs = [] ∧
      t.creditOf j.req = max (-256) (s.creditOf j.req - (j.beats : Int)) ∧ Counted (256 + j.req) 11 1 s t ∧ (∀ k, k ≠ n → t.eng16 k = s.eng16 k)) ∧
  (∀ (s : State) (n : Nat), s.alive = true → s.sta.jobs = [] → s.sta.reissue = [] → Does (.signetDispatch n) s fun t => t = s) ∧
  (∀ (s : State) (n : Nat) (j : SigJob), s.alive = true → (s.eng16 n).job = some j → j.work = none →
    Does (.signetJobComplete n .ok) s fun t => t = { s with sta := t.sta } ∧ t.eng16 n = { s.eng16 n with job := none } ∧ t.sta.jobs = s.sta.jobs ∧ (∀ k, k ≠ n → t.eng16 k = s.eng16 k)) ∧
  (∀ (s : State) (n : Nat) (j : SigJob), s.alive = true → (s.eng16 n).job = some j → j.again = false →
    Does (.signetJobComplete n .engine) s fun t => t = { s with sta := t.sta } ∧ t.eng16 n = { s.eng16 n with job := none, faults := (s.eng16 n).faults + 1 } ∧ t.sta.reissue = s.sta.reissue ++ [{ j with again := true, failedOn := some n }]) ∧
  (∀ (s : State) (n : Nat), s.alive = true → Does (.knownAnswerTest n true) s fun t => t = s) ∧
  (∀ (s : State) (n : Nat), s.alive = true → n < 16 → (s.eng16 n).inService = true → (s.eng16 n).job = none → s.enginesUp < 16 →
    Does (.knownAnswerTest n false) s fun t => t.eng16 n = { s.eng16 n with inService := false } ∧ (∀ k, k ≠ n → t.eng16 k = s.eng16 k) ∧ 0x0500 + n ∈ t.fault.causes ∧ t.sta.jobs = s.sta.jobs)

/-- A ready tm command with operands in range and no conflict completes with OK and changes the traffic manager alone, and the isolation of bezels where a bezel's meter or reservation changes. A rule replaces that of its index; a meter that starts is full; a buffer takes its reservation and cap; a queue its limit and threshold; a shaper its rate with its credit cut to the new bounds; samples their period and window. A sample adds the depth of each queue; reads and the audit of sound books change nothing. Each of these answers a next state with its effect, under conditions on the state and the operands alone: tmSetSubscriberRule, tmSetMeter, tmSetBuffer, tmSetQueue, tmSetShaper, tmSetSample, tmReadQueue, tmAudit, queueSample. (R373, R375, R379, R382, R383, R386, R394, R395, R406, R480) -/
def Obligations.TrafficManagerCommands : Prop :=
  (∀ (h : CmdHdr) (s : State) (i k l n a : Nat), ready { op := 0x2401, plen := 24, who := .any, mirrored := true } h s → i < s.quota 2 h.fn → 1 ≤ k → k ≤ 3 → (k = 3 ∨ l ≤ (if k = 1 then 32 else 128)) → s.ownsSub h.fn n = true →
    Does (.tmSetSubscriberRule h i k l n a) s fun t => Completes h s { s with tm := { s.tm with rules := t.tm.rules } } t [] [] ∧
      t.tm.rules = (s.tm.rules.filter fun r => !(r.bezel = h.fn && r.index = i)) ++ [{ bezel := h.fn, index := i, kind := k, pfxLen := if k = 3 then 48 else l, sub := n, addr := a }]) ∧
  (∀ (h : CmdHdr) (s : State) (i l n a : Nat), ready { op := 0x2401, plen := 24, who := .any, mirrored := true } h s → i < s.quota 2 h.fn →
    Does (.tmSetSubscriberRule h i 0 l n a) s fun t => Completes h s { s with tm := { s.tm with rules := t.tm.rules } } t [] [] ∧ t.tm.rules = s.tm.rules.filter fun r => !(r.bezel = h.fn && r.index = i)) ∧
  (∀ (h : CmdHdr) (s : State) (a : MeterArgs), ready { op := 0x2402, plen := 32, who := .any, mirrored := true } h s → a.mode ≤ 2 → a.unit ≤ 1 → meterOk a = true → ((a.kind = 1 ∧ a.index < 65536 ∧ s.ownsSub h.fn a.index = true) ∨ (a.kind = 2 ∧ a.index < 2048 ∧ s.portOwner (a.index / 8) = h.fn)) →
    Does (.tmSetMeter h a) s fun t => Completes h s { s with tm := t.tm } t [] [] ∧ t.meter a.kind a.index = (s.meter a.kind a.index).set s.pcyc a ∧ (∀ j, j ≠ a.index → t.meter a.kind j = s.meter a.kind j) ∧
      (a.mode ≠ 0 → (s.meter a.kind a.index).mode = 0 → (t.meter a.kind a.index).tc = a.cbs * packetHz ∧ (t.meter a.kind a.index).te = a.ebs * packetHz) ∧ t.tm.queues = s.tm.queues ∧ t.tm.bezMeters = s.tm.bezMeters) ∧
  (∀ (h : CmdHdr) (s : State) (a : MeterArgs), ready { op := 0x2402, plen := 32, mirrored := true } h s → a.mode ≤ 2 → a.unit ≤ 1 → meterOk a = true → a.kind = 0 → a.index < 64 → s.bezelServes a.index = true →
    Does (.tmSetMeter h a) s fun t => Completes h s { s with tm := t.tm, bez := t.bez } t [] [] ∧ t.meter 0 a.index = (s.meter 0 a.index).set s.pcyc a ∧ (∀ j, j ≠ a.index → t.meter 0 j = s.meter 0 j) ∧ t.tm.queues = s.tm.queues) ∧
  (∀ (h : CmdHdr) (s : State) (b r c : Nat), ready { op := 0x2403, plen := 12, mirrored := true } h s → b < 64 → s.bezelServes b = true → r ≤ 49152 → r % 64 = 0 → c ≤ 16384 → ((s.tm.bezels.map fun p => if p.1 = b then 0 else p.2.reserve).sum + r ≤ 49152 ∨ r ≤ (s.tmBez b).reserve) →
    Does (.tmSetBuffer h b r c) s fun t => Completes h s { s with tm := t.tm, bez := t.bez } t [] [] ∧ t.tmBez b = { s.tmBez b with reserve := r, cap := c } ∧ (∀ j, j ≠ b → t.tmBez j = s.tmBez j) ∧ t.tm.queues = s.tm.queues) ∧
  (∀ (h : CmdHdr) (s : State) (p c l y : Nat), ready { op := 0x2404, plen := 12, who := .any, mirrored := true } h s → p < 256 → c ≤ 7 → 16 ≤ l → l ≤ 16384 → y ≤ l → s.portOwner p = h.fn →
    Does (.tmSetQueue h p c l y) s fun t => Completes h s { s with tm := { s.tm with queues := t.tm.queues } } t [] [] ∧ t.svcQ p c = { s.svcQ p c with limit := l, yellow := some y } ∧ (∀ j, j ≠ p * 8 + c → t.tm.queues.look {} j = s.tm.queues.look {} j)) ∧
  (∀ (h : CmdHdr) (s : State) (k i r g : Nat) (l : Int), ready { op := 0x2405, plen := 24, who := .any, mirrored := true } h s → 1000 ≤ r → r ≤ s.shaperLine k i → g ≤ 16777216 → -16777216 ≤ l → l ≤ 0 →
      ((k = 0 ∧ i < 65536 ∧ s.ownsSub h.fn i = true) ∨ (k = 1 ∧ i < 2048 ∧ s.portOwner (i / 8) = h.fn) ∨ (k = 2 ∧ i < 256 ∧ s.portOwner i = h.fn)) →
    Does (.tmSetShaper h k i r g l) s fun t => Completes h s { s with tm := t.tm } t [] [] ∧ ((t.shaper k i).rate, (t.shaper k i).high, (t.shaper k i).low, (t.shaper k i).set, (t.shaper k i).at_) = (r, g, l, true, s.pcyc) ∧
      l * packetHz ≤ (t.shaper k i).credit ∧ (t.shaper k i).credit ≤ ((g * packetHz : Nat) : Int) ∧ (∀ j, j ≠ i → t.shaper k j = s.shaper k j) ∧ t.tm.queues = s.tm.queues) ∧
  (∀ (h : CmdHdr) (s : State) (p c w : Nat), ready { op := 0x2406, plen := 12, who := .any, mirrored := true } h s → p < 256 → 1 ≤ c → c ≤ 1000000 → 1 ≤ w → w ≤ 65536 → s.portOwner p = h.fn →
    Does (.tmSetSample h p c w) s fun t => Completes h s { s with tm := { s.tm with samples := t.tm.samples } } t [] [] ∧ t.tm.samples.look {} p = { period := c, window := w } ∧ (∀ j, j ≠ p → t.tm.samples.look {} j = s.tm.samples.look {} j)) ∧
  (∀ (h : CmdHdr) (s : State) (k i : Nat), ready { op := 0x2441, plen := 8, who := .any, xbOut := true } h s → k ≤ 1 → i < (if k = 0 then 2048 else 65536) → (h.fn = 0 ∨ (k = 0 ∧ s.portOwner (i / 8) = h.fn) ∨ (k = 1 ∧ s.ownsSub h.fn i = true)) → 256 ≤ h.xlen →
    Executes (.tmReadQueue h k i) h s s [] ((if k = 0 then s.tm.queueWins.look {} i else s.tm.subWins.look {} i).done.rec_ ++ (if k = 0 then s.tm.queueWins.look {} i else s.tm.subWins.look {} i).run.rec_)) ∧
  (∀ (h : CmdHdr) (s : State), ready { op := 0x2442, who := .any, xbOut := true } h s → ((s.books h.fn).all fun r => r.off = 0) = true → Rec.bytes ((s.books h.fn).flatMap BookRow.rec_) ≤ h.xlen →
    Executes (.tmAudit h) h s s [fld 8 0] ((s.books h.fn).flatMap BookRow.rec_)) ∧
  (∀ (s : State) (p c : Nat), s.alive = true → p < 256 → c < 8 →
    Does (.queueSample p) s fun t => t = { s with tm := { s.tm with queueWins := t.tm.queueWins, subWins := t.tm.subWins } } ∧
      t.tm.queueWins.look {} (p * 8 + c) = (s.tm.queueWins.look {} (p * 8 + c)).add (s.tm.samples.look {} p).window (depthOf s.pcyc (s.svcQ p c).frames) ∧ (s.tm.queues = [] → t.tm.subWins = s.tm.subWins))

/-- A ready bezel command with operands in range and no conflict completes with OK. A created tenant exists with its range, its four keys and counters at zero; a port changes hands cleared; quotas, windows and flags are stored; a released agent is no longer frozen and its exchanges end, a released function is reset with its queues disabled; a deleted tenant is gone with every key it owned. Status reads change nothing. Each of these answers a next state with its effect, under conditions on the state and the operands alone: bezelCreate, bezelDelete, bezelAssignPort, bezelSetQuota, bezelSetDmaWindow, bezelSetFlags, bezelRelease, bezelReadStatus. (R273, R397, R399, R400, R401, R402, R403, R406, R409, R447, R535) -/
def Obligations.BezelCommands : Prop :=
  (∀ (h : CmdHdr) (s : State) (b x n : Nat), ready { op := 0x2301, plen := 12, mirrored := true } h s → 1 ≤ b → b < 64 → subRangeOk x n = true → (s.key 2).st = .valid → (s.bezel b).present = false → s.subOverlap b x n = false → s.quotaBad 1 b 32 = false → s.quotaBad 2 b 256 = false →
      s.sta.reserve.look 0 b = 0 →
    Does (.bezelCreate h b x n) s fun t => Answers h s t .ok [] [] ∧ MailboxFrame h s t ∧ MgmtFrame s t ∧ t = { s with bez := t.bez, keys := t.keys, tse := t.tse, free := t.free, loupe := t.loupe, mbx := t.mbx, mgmt := t.mgmt } ∧
      t.bezel b = { present := true, subBase := x, subCount := n } ∧ (t.key (64 + b)).st = .valid ∧ (t.key (128 + b)).st = .valid ∧ (t.key (192 + 2 * b)).st = .valid ∧ (t.key (193 + 2 * b)).st = .valid ∧
      (∀ i, i < 32 → t.loupe.ctr.look 0 ((256 + b) * 32 + i) = 0) ∧ (∀ k, 320 ≤ k → t.key k = s.key k)) ∧
  (∀ (h : CmdHdr) (s : State) (b : Nat), ready { op := 0x2302, plen := 1, mirrored := true, action := true } h s → 1 ≤ b → b < 64 → s.bezelServes b = true → (s.fn b).frozen = false → s.ports.rings = [] → s.tse.grants = [] → s.tse.works = [] → s.tse.inputs = [] → s.keys.conns = [] → s.bez.portOwner = [] → s.sta.jobs = [] →
    Does (.bezelDelete h b) s fun t => Answers h s t .ok [] [] ∧ (t.bezel b).present = false ∧ (∀ k, (t.key k).locket = false → (t.key k).owner = b → (t.key k).st = .free) ∧ t.sta.reserve.look 0 b = 0 ∧ t.tm.rules = s.tm.rules.filter (fun r => r.bezel != b) ∧
      t.tc = s.tc ∧ t.ref = s.ref ∧ t.pwr = s.pwr ∧ t.out = s.out ∧ (∀ k, k ≠ b → (t.bezel k).present = (s.bezel k).present)) ∧
  (∀ (h : CmdHdr) (s : State) (p b : Nat), ready { op := 0x2303, plen := 3, mirrored := true } h s → p < 256 → s.bezelServes b = true → (s.portOwner p = 0 ∨ b = 0) → s.portOwner p ≠ b → (s.port p).st = .disabled → (s.ports.rings.any fun q => q.2.port = p) = false → s.nrefUses p = false →
      s.vtapUses p = false → s.portInPrp p = false → s.laTxUses p = false →
    Does (.bezelAssignPort h p b) s fun t => Answers h s t .ok [] [] ∧ MailboxFrame h s t ∧ MgmtFrame s t ∧ t = { s with bez := t.bez, ports := t.ports, tse := t.tse, loupe := t.loupe, mbx := t.mbx, mgmt := t.mgmt } ∧ t.portOwner p = b ∧
      (∀ k, k ≠ p → t.portOwner k = s.portOwner k) ∧ t.port p = { s.port p with addrs := [], filters := [] } ∧ (∀ k, k ≠ p → t.port k = s.port k) ∧ (t.loupe.banks.look {} p).grantee = none) ∧
  (∀ (h : CmdHdr) (s : State) (b g k r x n : Nat), ready { op := 0x2304, plen := 20, mirrored := true } h s → b ≠ 0 → s.bezelServes b = true → subRangeOk x n = true → s.subOverlap b x n = false → s.subsOutside b x n = false → s.quotaBad 0 b g = false → s.quotaBad 1 b k = false → s.quotaBad 2 b r = false →
    Does (.bezelSetQuota h b g k r x n) s fun t => Completes h s { s with bez := t.bez } t [] [] ∧ t.bezel b = { s.bezel b with grants := g, poolSlots := k, rules := r, subBase := x, subCount := n } ∧ (∀ j, j ≠ b → t.bezel j = s.bezel j)) ∧
  (∀ (h : CmdHdr) (s : State) (b i x n : Nat), ready { op := 0x2305, plen := 24 } h s → s.bezelServes b = true → i < 16 → windowOk x n = true → n ≠ 0 → (b = 0 → (s.bezel 0).windows.isEmpty = false) →
    Does (.bezelSetDmaWindow h b i x n) s fun t => Completes h s { s with bez := t.bez } t [] [] ∧ (t.bezel b).windows.look {} i = { base := x, size := n } ∧ t.bezel b = { s.bezel b with windows := (t.bezel b).windows } ∧
      (∀ j, j ≠ i → (t.bezel b).windows.look {} j = (s.bezel b).windows.look {} j) ∧ (∀ j, j ≠ b → t.bezel j = s.bezel j)) ∧
  (∀ (h : CmdHdr) (s : State) (b f : Nat), ready { op := 0x2306, plen := 2, mirrored := true } h s → s.bezelServes b = true → f ≤ 1 → (f = 0 → ((List.range 256).any fun p => s.portOwner p = b && (s.port p).eee) = false) →
    Does (.bezelSetFlags h b f) s fun t => Completes h s { s with bez := t.bez } t [] [] ∧ t.bezel b = { s.bezel b with nonTiming := decide (f = 1) } ∧ (∀ j, j ≠ b → t.bezel j = s.bezel j)) ∧
  (∀ (h : CmdHdr) (s : State) (b i : Nat), ready { op := 0x2307, plen := 4, action := true } h s → 1 ≤ b → s.bezelServes b = true → (3 * 65536 + i) ∈ (s.bezel b).frozen → (s.tse.works.any fun w => w.service = i && w.bezel = b) = false →
    Does (.bezelRelease h b 3 i) s fun t => Completes h s { s with bez := t.bez } t [] [] ∧ t.bezel b = { s.bezel b with frozen := (s.bezel b).frozen.filter (· != 3 * 65536 + i) } ∧ (∀ j, j ≠ b → t.bezel j = s.bezel j)) ∧
  (∀ (h : CmdHdr) (s : State) (b i : Nat), ready { op := 0x2307, plen := 4, action := true } h s → 1 ≤ b → s.bezelServes b = true → (s.fn b).frozen = true → s.ports.rings = [] → s.sta.jobs = [] →
    Does (.bezelRelease h b 0 i) s fun t => Answers h s t .ok [] [] ∧ (t.fn b).frozen = false ∧ (t.fn b).cplEn = false ∧ (t.fn b).evtEn = false ∧ ((t.fn b).queues.all fun q => !q.2.en && q.2.inflight.isEmpty && q.2.txn.isNone) = true ∧
      t.tc = s.tc ∧ t.pwr = s.pwr ∧ t.bez = s.bez) ∧
  (∀ (h : CmdHdr) (s : State) (b : Nat), ready { op := 0x2341, plen := 1, who := .any, xbOut := true } h s → b < 64 → (h.fn = 0 ∨ h.fn = b) → (s.bezel b).present = true → 512 ≤ h.xlen →
    Does (.bezelReadStatus h b) s fun t => Completes h s s t [bit (s.bezel b).isolated, rsv 7] (lastXb h t) ∧ (lastXb h t).take 3 = [fld 32 (s.bezel b).subBase, fld 32 (s.bezel b).subCount, fld 32 (s.quota 0 b)]) ∧
  (∀ (h : CmdHdr) (s : State) (b i : Nat) (w : Work), ready { op := 0x2307, plen := 4, action := true } h s → 1 ≤ b → s.bezelServes b = true → (3 * 65536 + i) ∈ (s.bezel b).frozen → s.tse.works = [w] → w.service = i → w.bezel = b →
    Does (.bezelRelease h b 3 i) s fun t => Answers h s t .ok [] [] ∧ t = { s with bez := t.bez, tse := t.tse, tm := t.tm, loupe := t.loupe, mbx := t.mbx, mgmt := t.mgmt } ∧ t.tse.works = [] ∧ t.bezel b = { s.bezel b with frozen := (s.bezel b).frozen.filter (· != 3 * 65536 + i) } ∧ (∀ j, j ≠ b → t.bezel j = s.bezel j))

/-- A function-level reset of an enabled function disables its command, completion and event queues, discards what was in flight, closes its rings and streams, masks its vectors and leaves time and every other function's queues alone; of a function that is not enabled it does nothing. A hot reset does this for every function; that it leaves VF Enable and NumVFs as they are is the model's choice (log entry 9). Each of these answers a next state with its effect, under conditions on the state and the operands alone: flr, hotReset. (R46, R446, R447, R462, R465) -/
def Obligations.FunctionResets : Prop :=
  (∀ (s : State) (b : Nat), s.alive = true → s.fnEnabled b = true →
    Does (.flr b) s fun t => (t.fn b).cplEn = false ∧ (t.fn b).evtEn = false ∧ ((t.fn b).queues.all fun q => !q.2.en && q.2.inflight.isEmpty) = true ∧ (∀ q, q < 4 → ((t.fn b).q q).txn = none) ∧ ((t.fn b).vecs.all fun v => v.2.mask && v.2.addr = 0) = true ∧
      ((t.fn b).sems.all fun e => e.2.st != .held) = true ∧ (t.ports.rings.all fun q => q.2.owner != b) = true ∧ (t.fil.streams.all fun x => x.bezel != b) = true ∧ (t.la.streams.all fun x => x.bezel != b) = true ∧
      (b = 0 → (t.fn 0).frozen = false) ∧ (b ≠ 0 → (t.fn b).frozen = (s.fn b).frozen) ∧ (∀ k, k ≠ b → (t.fn k).queues = (s.fn k).queues ∧ (t.fn k).cplQ = (s.fn k).cplQ) ∧ t.tc = s.tc ∧ t.pwr = s.pwr ∧ t.ref = s.ref ∧ t.out = s.out) ∧
  (∀ (s : State) (b : Nat), s.alive = true → s.fnEnabled b = false → Does (.flr b) s fun t => t = s) ∧
  (∀ (s : State), s.alive = true →
    Does .hotReset s fun t => t.mbx.vfEnable = s.mbx.vfEnable ∧ t.mbx.numVfs = s.mbx.numVfs ∧ (∀ b, b < 64 → (t.fn b).cplEn = false ∧ (t.fn b).evtEn = false ∧ ((t.fn b).queues.all fun q => !q.2.en && q.2.inflight.isEmpty) = true ∧ (∀ q, q < 4 → ((t.fn b).q q).txn = none)) ∧ (t.fn 0).frozen = false ∧
      t.tc = s.tc ∧ t.pwr = s.pwr ∧ t.ref = s.ref ∧ t.out = s.out)

/-- A doorbell within bounds moves its index and releases what it names; one out of bounds changes no index and is answered by an event; a doorbell of a disabled queue is ignored and counted. A queue is enabled only where its place is right, with its indices at 0; a disabled command queue abandons its semaphores. Unmasking a pending vector sends its message. A misaligned write is ignored and counted, a doorbell offset acts as its doorbell, and the test register is closed on a sealed device. A write-only register reads as zero, a base reads as written, and BAR2 keeps its values when the MP stops. Each of these answers a next state with its effect, under conditions on the state and the operands alone: mbxCmdDb, mbxCplDb, mbxEvtDb, cmdQueueEnable, cmdQueueDisable, cplQueueEnable, cplQueueDisable, evtQueueEnable, evtQueueDisable, msixVectorMask, msixVectorUnmask, registerWrite, vfEnable, heartbeatTimeout. (R18, R445, R449, R450, R451, R452, R462, R466, R583, R585, R587, R593) -/
def Obligations.MailboxWrites : Prop :=
  (∀ (s : State) (b q w : Nat), s.alive = true → s.fnEnabled b = true → q < 4 → s.mbx.ready = true → ((s.fn b).q q).en = true → w < 65536 →
      (((s.fn b).q q).tail + 65536 - ((s.fn b).q q).done) % 65536 ≤ (w + 65536 - ((s.fn b).q q).done) % 65536 → (w + 65536 - ((s.fn b).q q).done) % 65536 ≤ 256 →
    Does (.mbxCmdDb b q w) s fun t => t = { s with mbx := t.mbx } ∧ (t.fn b).q q = { (s.fn b).q q with tail := w } ∧ (∀ j, j ≠ q → (t.fn b).q j = (s.fn b).q j) ∧ (∀ k, k ≠ b → t.fn k = s.fn k)) ∧
  (∀ (s : State) (b q w : Nat), s.alive = true → s.fnEnabled b = true → q < 4 → s.mbx.ready = true → ((s.fn b).q q).en = true → w < 65536 → 256 < (w + 65536 - ((s.fn b).q q).done) % 65536 →
    Does (.mbxCmdDb b q w) s fun t => (t.fn b).q q = (s.fn b).q q ∧ (t.fn b).ignored = (s.fn b).ignored + 1 ∧ ((t.fn b).due.getLast?.map fun e => (e.code, e.detail)) = some (0x0402, [fld 8 q, fld 16 w]) ∧ t = { s with mbx := t.mbx, mgmt := t.mgmt }) ∧
  (∀ (s : State) (b q w : Nat), s.alive = true → s.fnEnabled b = true → q < 4 → ((s.fn b).q q).en = false →
    Does (.mbxCmdDb b q w) s fun t => t = { s with mbx := t.mbx } ∧ t.fn b = { s.fn b with ignored := (s.fn b).ignored + 1 } ∧ (∀ k, k ≠ b → t.fn k = s.fn k)) ∧
  (∀ (s : State) (b w : Nat), s.alive = true → s.fnEnabled b = true → (s.fn b).cplEn = true → w < 65536 → (w + 65536 - (s.fn b).cplHead) % 65536 ≤ ((s.fn b).cplPut + 65536 - (s.fn b).cplHead) % 65536 →
    Does (.mbxCplDb b w) s fun t => t = { s with mbx := t.mbx } ∧ t.fn b = { s.fn b with cplHead := w, cplQ := (s.fn b).cplQ.drop ((w + 65536 - (s.fn b).cplHead) % 65536) } ∧ (∀ k, k ≠ b → t.fn k = s.fn k)) ∧
  (∀ (s : State) (b w : Nat), s.alive = true → s.fnEnabled b = true → (s.fn b).evtEn = true → w < 65536 → (w + 65536 - (s.fn b).evtHead) % 65536 ≤ ((s.fn b).evtPut + 65536 - (s.fn b).evtHead) % 65536 →
    Does (.mbxEvtDb b w) s fun t => t = { s with mbx := t.mbx } ∧ t.fn b = { s.fn b with evtHead := w, evtQ := (s.fn b).evtQ.drop ((w + 65536 - (s.fn b).evtHead) % 65536) } ∧ (∀ k, k ≠ b → t.fn k = s.fn k)) ∧
  (∀ (s : State) (b q : Nat), s.alive = true → s.fnEnabled b = true → q < 4 → ((s.fn b).q q).en = false → queuePlaceOk s b ((s.fn b).q q).base 16384 = true →
    Does (.cmdQueueEnable b q) s fun t => t = { s with mbx := t.mbx } ∧ (t.fn b).q q = { (s.fn b).q q with en := true, err := 0, tail := 0, fetched := 0, done := (65536 - ((s.fn b).q q).inflight.length) % 65536 } ∧ (∀ j, j ≠ q → (t.fn b).q j = (s.fn b).q j) ∧
      (∀ k, k ≠ b → t.fn k = s.fn k)) ∧
  (∀ (s : State) (b q : Nat), s.alive = true → s.fnEnabled b = true → q < 4 → ((s.fn b).q q).en = false → queuePlaceOk s b ((s.fn b).q q).base 16384 = false →
    Does (.cmdQueueEnable b q) s fun t => t = { s with mbx := t.mbx } ∧ (t.fn b).q q = { (s.fn b).q q with err := Status.arg.code }) ∧
  (∀ (s : State) (b q : Nat), s.alive = true → s.fnEnabled b = true → ((s.fn b).q q).en = true → ((s.fn b).q q).txn = none →
    Does (.cmdQueueDisable b q) s fun t => t = { s with mbx := t.mbx } ∧ (t.fn b).q q = { (s.fn b).q q with en := false } ∧ (∀ j, j ≠ q → (t.fn b).q j = (s.fn b).q j) ∧ ((t.fn b).sems.all fun e => !(e.2.st = .held && e.2.owner = q)) = true ∧ (∀ k, k ≠ b → t.fn k = s.fn k)) ∧
  (∀ (s : State) (b : Nat), s.alive = true → s.fnEnabled b = true → (s.fn b).cplEn = false → queuePlaceOk s b (s.fn b).cplBase 65536 = true →
    Does (.cplQueueEnable b) s fun t => t = { s with mbx := t.mbx } ∧ t.fn b = { s.fn b with cplEn := true, qErr := 0, cplPut := 0, cplHead := 0, cplQ := [] } ∧ (∀ k, k ≠ b → t.fn k = s.fn k)) ∧
  (∀ (s : State) (b : Nat), s.alive = true → s.fnEnabled b = true → (s.fn b).cplEn = true →
    Does (.cplQueueDisable b) s fun t => t = { s with mbx := t.mbx } ∧ t.fn b = (if ((s.fn b).queues.any fun p => p.2.en) = true then { s.fn b with ignored := (s.fn b).ignored + 1 } else { s.fn b with cplEn := false }) ∧ (∀ k, k ≠ b → t.fn k = s.fn k)) ∧
  (∀ (s : State) (b : Nat), s.alive = true → s.fnEnabled b = true → (s.fn b).evtEn = false → 6 ≤ (s.fn b).evtSize → (s.fn b).evtSize ≤ 12 → queuePlaceOk s b (s.fn b).evtBase (64 * 2 ^ (s.fn b).evtSize) = true →
    Does (.evtQueueEnable b) s fun t => t = { s with mbx := t.mbx } ∧ t.fn b = { s.fn b with evtEn := true, qErr := 0, evtPut := 0, evtHead := 0, evtQ := [] } ∧ (∀ k, k ≠ b → t.fn k = s.fn k)) ∧
  (∀ (s : State) (b : Nat), s.alive = true → s.fnEnabled b = true → Does (.evtQueueDisable b) s fun t => t = { s with mbx := t.mbx } ∧ t.fn b = { s.fn b with evtEn := false } ∧ (∀ k, k ≠ b → t.fn k = s.fn k)) ∧
  (∀ (s : State) (b v : Nat) (w : Bool), s.alive = true → s.fnEnabled b = true → v < 64 →
    Does (.msixVectorMask b v w) s fun t => t = { s with mbx := t.mbx } ∧ (t.fn b).vecs.look {} v = { (s.fn b).vecs.look {} v with mask := true } ∧ t.fn b = { s.fn b with vecs := (t.fn b).vecs } ∧ (∀ j, j ≠ v → (t.fn b).vecs.look {} j = (s.fn b).vecs.look {} j)) ∧
  (∀ (s : State) (b v : Nat), s.alive = true → s.fnEnabled b = true → v < 64 → ((s.fn b).vecs.look {} v).mask = true → ((s.fn b).vecs.look {} v).pend = true →
    Does (.msixVectorUnmask b v) s fun t => t = { s with mbx := t.mbx } ∧ (t.fn b).vecs.look {} v = { (s.fn b).vecs.look {} v with mask := false, pend := false, sent := ((s.fn b).vecs.look {} v).sent + 1, holding := decide (0 < ((s.fn b).vecs.look {} v).hold), more := false }) ∧
  (∀ (s : State) (b r o n v : Nat) (l : List TxDesc), s.alive = true → s.fnEnabled b = true → (r ≠ 0 ∨ (n = 4 ∧ o % 4 ≠ 0) ∨ (n = 8 ∧ o % 8 ≠ 0) ∨ (n ≠ 4 ∧ n ≠ 8)) →
    Does (.registerWrite b r o n { value := v, descs := l }) s fun t => t = { s with mbx := t.mbx } ∧ t.fn b = { s.fn b with ignored := (s.fn b).ignored + 1 } ∧ (∀ k, k ≠ b → t.fn k = s.fn k)) ∧
  (∀ (s : State) (b q v : Nat) (l : List TxDesc), s.alive = true → s.fnEnabled b = true → q < 4 → 
    Does (.registerWrite b 0 (8 * q) 4 { value := v, descs := l }) s fun t => Does (.mbxCmdDb b q (v % 65536)) s fun u => t = u) ∧
  (∀ (s : State) (b q v : Nat) (l : List TxDesc), s.alive = true → s.fnEnabled b = true → q < 4 → ((s.fn b).q q).en = false →
    Does (.registerWrite b 0 (0x1000 + 8 * q) 8 { value := v, descs := l }) s fun t => t = { s with mbx := t.mbx } ∧ (t.fn b).q q = { (s.fn b).q q with base := v % 2 ^ 64 / 4096 * 4096 } ∧ (∀ j, j ≠ q → (t.fn b).q j = (s.fn b).q j)) ∧
  (∀ (s : State) (v : Nat) (l : List TxDesc), s.alive = true → s.isSealed = true → Does (.registerWrite 0 0 0x10F0 4 { value := v, descs := l }) s fun t => t = s) ∧
  (∀ (s : State) (v : Nat) (l : List TxDesc), s.alive = true → s.isSealed = false → Does (.registerWrite 0 0 0x10F0 4 { value := v, descs := l }) s fun t => t = { s with mbx := { s.mbx with testDis := nbit v 0, boardTag := v / 256 % 256 } }) ∧
  (∀ (s : State) (e : Bool) (n : Nat), s.alive = true → Does (.vfEnable e n) s fun t => t = { s with mbx := { s.mbx with vfEnable := e, numVfs := min n 63 } }) ∧
  (∀ (s : State) (b o : Nat), o < 0x30 ∨ 0x8000 ≤ o → s.readRegister b 0 o 4 = 0) ∧
  (∀ (s : State) (b q v : Nat) (l : List TxDesc), s.alive = true → s.fnEnabled b = true → q < 4 → ((s.fn b).q q).en = false →
    Does (.registerWrite b 0 (0x1000 + 8 * q) 8 { value := v, descs := l }) s fun t => t.readRegister b 0 (0x1000 + 8 * q) 8 = v % 2 ^ 64 / 4096 * 4096) ∧
  (∀ (s : State) (b o n : Nat), s.alive = true → s.mgmt.held = none → (o < 0x200 ∨ 0x208 ≤ o) → (o < 0x400 ∨ 0x440 ≤ o) →
    Does .heartbeatTimeout s fun t => t.readRegister b 2 o n = s.readRegister b 2 o n)

/-- A fetched command takes the next SEQ and a reserved completion entry; an entry that names no command completes at once, with E_PERM where its opcode is BZ00's and another function wrote it, and otherwise with E_ARG. An event that has fallen due is written with the next ESEQ and the count lost since, or counted as lost when the queue is full. A hold-off that ends sends one message for what came during it. An access outside the BARs freezes the function, and an idle transaction is rolled back. Each of these answers a next state with its effect, under conditions on the state and the operands alone: commandFetch, eventWrite, holdOffEnd, mmioViolation, txnIdleTimeout. (R408, R449, R452, R455, R457, R458, R465, R466) -/
def Obligations.MailboxEvents : Prop :=
  (∀ (s : State) (b q : Nat) (e : CmdEntry), s.alive = true → e.hdr.fn = b → e.hdr.queue = q → canFetch b q s = true → ((s.fn b).q q).inflight = [] → entryBad e = false →
    Does (.commandFetch b q e) s fun t => t = { s with mbx := t.mbx } ∧ (t.fn b).cplRes = (s.fn b).cplRes + 1 ∧ (t.fn b).cplQ = (s.fn b).cplQ ∧ ((t.fn b).q q).fetched = (((s.fn b).q q).fetched + 1) % 65536 ∧
      ((t.fn b).q q).fetchSeq = (((s.fn b).q q).fetchSeq + 1) % 2 ^ 32 ∧ ((t.fn b).q q).inflight.map (fun x => (x.entry, x.seq, x.begun)) = [(e, ((s.fn b).q q).fetchSeq, false)] ∧ (∀ k, k ≠ b → t.fn k = s.fn k)) ∧
  (∀ (s : State) (b q : Nat) (e : CmdEntry), s.alive = true → e.hdr.fn = b → e.hdr.queue = q → canFetch b q s = true → ((s.fn b).q q).inflight = [] → entryBad e = true → s.pwr.st = .run → s.fault.fatal = false → s.bezelServes b = true → (s.fn b).frozen = false →
      ((s.fn b).q q).txn = none → issuerOk (attrOf e.opcode) e.hdr = true → ((attrOf e.opcode).mirrored = true → s.clasp.st ≠ .standby) →
    Does (.commandFetch b q e) s fun t => t = { s with mbx := t.mbx, loupe := t.loupe, mgmt := t.mgmt } ∧ ((t.fn b).q q).inflight = [] ∧ ((t.fn b).q q).done = (((s.fn b).q q).done + 1) % 65536 ∧ (t.fn b).cplQ.length = (s.fn b).cplQ.length + 1 ∧
      ((t.fn b).cplQ.getLast?.map fun c => (c.seq, c.tag, c.status, c.queue, c.result)) = some (((s.fn b).q q).fetchSeq, e.hdr.tag, .arg, q, [])) ∧
  (∀ (s : State) (b q : Nat) (e : CmdEntry), s.alive = true → canFetch b q s = false → Does (.commandFetch b q e) s fun t => t = s) ∧
  (∀ (s : State) (b : Nat) (e : DueEvent) (l : List DueEvent), s.alive = true → (s.fn b).due = e :: l → (s.fn b).evtEn = true → ((s.fn b).evtPut + 65536 - (s.fn b).evtHead) % 65536 < 2 ^ (s.fn b).evtSize →
    Does (.eventWrite b) s fun t => t = { s with mbx := t.mbx } ∧ (t.fn b).due = l ∧ (t.fn b).eseq = ((s.fn b).eseq + 1) % 2 ^ 32 ∧ (t.fn b).lost = 0 ∧ (t.fn b).evtPut = ((s.fn b).evtPut + 1) % 65536 ∧
      (t.fn b).evtQ = (s.fn b).evtQ ++ [{ epoch := s.mbx.epoch, eseq := (s.fn b).eseq, lost := (s.fn b).lost, ev := e, phase := ((s.fn b).evtPut / 2 ^ (s.fn b).evtSize + 1) % 2 }] ∧ (∀ k, k ≠ b → t.fn k = s.fn k)) ∧
  (∀ (s : State) (b : Nat) (e : DueEvent) (l : List DueEvent), s.alive = true → (s.fn b).due = e :: l → 2 ^ (s.fn b).evtSize ≤ ((s.fn b).evtPut + 65536 - (s.fn b).evtHead) % 65536 → (s.loupe.banks.look {} (256 + b)).mode = 0 → (s.loupe.armed.find? fun p => p.1 = (256 + b) * 32 + 30) = none →
    Does (.eventWrite b) s fun t => t = { s with mbx := t.mbx, loupe := t.loupe } ∧ t.fn b = { s.fn b with due := l, eseq := ((s.fn b).eseq + 1) % 2 ^ 32, lost := ((s.fn b).lost + 1) % 2 ^ 32 } ∧ Counted (256 + b) 30 1 s t) ∧
  (∀ (s : State) (b v : Nat), s.alive = true → ((s.fn b).vecs.look {} v).holding = true → ((s.fn b).vecs.look {} v).more = true → ((s.fn b).vecs.look {} v).mask = false →
    Does (.holdOffEnd b v) s fun t => t = { s with mbx := t.mbx } ∧ ((t.fn b).vecs.look {} v).sent = ((s.fn b).vecs.look {} v).sent + 1 ∧ ((t.fn b).vecs.look {} v).more = false ∧ t.fn b = { s.fn b with vecs := (t.fn b).vecs } ∧
      (∀ j, j ≠ v → (t.fn b).vecs.look {} j = (s.fn b).vecs.look {} j)) ∧
  (∀ (s : State) (b v : Nat), s.alive = true → ((s.fn b).vecs.look {} v).holding = true → ((s.fn b).vecs.look {} v).more = false →
    Does (.holdOffEnd b v) s fun t => (t.fn b).vecs.look {} v = { (s.fn b).vecs.look {} v with holding := false }) ∧
  (∀ (s : State) (b a : Nat), s.alive = true → s.fnEnabled b = true → (s.fn b).frozen = false → (s.loupe.banks.look {} (256 + b)).mode = 0 →
    Does (.mmioViolation b a) s fun t => t = { s with mbx := t.mbx, loupe := t.loupe, mgmt := t.mgmt } ∧ (t.fn b).frozen = true ∧ Counted (256 + b) 31 1 s t ∧ (∀ k, k ≠ b → (t.fn k).frozen = (s.fn k).frozen)) ∧
  (∀ (s : State) (b q : Nat) (x : Txn), s.alive = true → ((s.fn b).q q).txn = some x →
    Does (.txnIdleTimeout b q) s fun t => t = { s with mbx := t.mbx, mgmt := t.mgmt } ∧ (t.fn b).q q = { (s.fn b).q q with txn := none } ∧ (t.fn b).rollbacks = (s.fn b).rollbacks + 1 ∧ (∀ j, j ≠ q → (t.fn b).q j = (s.fn b).q j) ∧
      ((t.fn b).due.getLast?.map fun e => (e.code, e.detail)) = some (0x0401, [fld 16 x.id, fld 8 q]) ∧ (∀ k, k ≠ b → t.fn k = s.fn k)) ∧
  (∀ (s : State) (b q : Nat) (e : CmdEntry), s.alive = true → e.hdr.fn = b → e.hdr.queue = q → canFetch b q s = true → ((s.fn b).q q).inflight = [] → entryBad e = true → s.bezelServes b = true → (s.fn b).frozen = false →
      issuerOk (attrOf e.opcode) e.hdr = false →
    Does (.commandFetch b q e) s fun t => ((t.fn b).cplQ.getLast?.map fun c => (c.seq, c.tag, c.status, c.queue, c.result)) = some (((s.fn b).q q).fetchSeq, e.hdr.tag, .perm, q, []))

/-- clasp.set_pair stores the pair's configuration; disabled, the unit holds the wires and ROLE alone; enabled from OFF it seeks its partner and holds neither. clasp.set_swap stores the schedule. clasp.swap_now of an ACTIVE unit waits for the partner and, acknowledged, completes with the second the swap is due. clasp.resync returns to SEEKING, and a status read changes nothing. Each of these answers a next state with its effect, under conditions on the state and the operands alone: claspSetPair, claspSetSwap, claspSwapNow, laneFrame, claspResync, claspReadStatus. (R412, R414, R415, R420, R433, R438) -/
def Obligations.ClaspCommands : Prop :=
  (∀ (h : CmdHdr) (s : State) (e d w : Nat) (ps : List Nat), ready { op := 0x3001, plen := 44 } h s → e ≤ 1 → d ≤ 100000 → 1 ≤ w → w ≤ 600 → (ps.all fun p => decide (p < 256)) = true → (ps.any fun p => s.portUsed .clasp p) = false →
    Does (.claspSetPair h e d w ps) s fun t => Answers h s t .ok [] [] ∧ MailboxFrame h s t ∧ MgmtFrame s t ∧ LoupeFrame h s t ∧ PairFrame s { t with loupe := s.loupe } ∧ t.clasp.dPps = d ∧ t.clasp.pairWait = w ∧ t.clasp.ports = ps ∧
      t.clasp.mirror = s.clasp.mirror ∧ (e = 0 → t.clasp.st = .off ∧ t.clasp.wires = true ∧ t.clasp.role = true) ∧ (e = 1 → s.clasp.st = .off → t.clasp.st = .seeking ∧ t.clasp.wires = false ∧ t.clasp.role = false)) ∧
  (∀ (h : CmdHdr) (s : State) (p x : Nat), ready { op := 0x3002, plen := 8, mirrored := true } h s → p ≤ 90 → x ≤ 86399 →
    Does (.claspSetSwap h p x) s fun t => Completes h s { s with clasp := { s.clasp with swapPeriod := p, swapSecond := x } } t [] []) ∧
  (∀ (h : CmdHdr) (s : State) (l : Nat), ready { op := 0x3003, action := true } h s → s.clasp.st = .active → s.clasp.mirror = [] →
    Does (.claspSwapNow h) s fun t => t = { s with clasp := t.clasp, mbx := t.mbx } ∧ t.clasp = { s.clasp with mirror := t.clasp.mirror } ∧ (t.clasp.mirror.map fun x => (x.cmds, x.acked, x.result)) = [([.claspSwapNow h], false, [fld 64 (s.topAfter 2000000000)])] ∧
      (t.fn h.fn).cplQ = (s.fn h.fn).cplQ ∧
      (Does (.laneFrame { lane := l, acks := 1 }) t fun u => Completes h s { s with clasp := u.clasp } u [fld 64 (s.topAfter 2000000000)] [] ∧ (u.clasp.mirror.map fun x => (x.cmds, x.acked, x.ackAt)) = [([.claspSwapNow h], true, s.upNs)] ∧
        u.clasp = { s.clasp with mirror := u.clasp.mirror })) ∧
  (∀ (h : CmdHdr) (s : State), ready { op := 0x3004, action := true } h s → s.clasp.st = .unpairedStandby ∨ s.clasp.st = .pairFault →
    Does (.claspResync h) s fun t => Answers h s t .ok [] [] ∧ MailboxFrame h s t ∧ MgmtFrame s t ∧ LoupeFrame h s t ∧ PairFrame s { t with loupe := s.loupe } ∧ t.clasp.st = .seeking ∧ t.clasp.authed = false ∧ t.clasp.wires = false ∧ t.clasp.role = false) ∧
  (∀ (h : CmdHdr) (s : State), ready { op := 0x3041, xbOut := true } h s → 104 ≤ h.xlen →
    Does (.claspReadStatus h) s fun t => Completes h s s t [fld 8 s.clasp.st.code, fld 8 s.clasp.partner.code] (lastXb h t) ∧ (lastXb h t).take 4 = [fld 8 s.clasp.st.code, fld 8 s.clasp.partner.code, fld 16 s.clasp.claim, fld 16 s.clasp.partnerClaim])

/-- A bad lane frame is only counted. A join time sets the master counter once in TRANSFER and withdraws the records. A partner that is lost, or that reports OFF or PAIR_FAULT, dissolves the pair, and waiting changes take effect alone. Equal PAIR_ID values are a fault of the board; an untrusted partner is refused; a pairable partner to whom this unit yields is joined through TRANSFER. Time-outs end SEEKING and TRANSFER. Each of these answers a next state with its effect, under conditions on the state and the operands alone: laneFrame, laneLoss, partnerLost, partnerAuthenticated, pairWaitTimeout, transferTimeout. (R28, R413, R415, R416, R433, R440) -/
def Obligations.PairLanesAndTransfer : Prop :=
  (∀ (s : State) (l n j : Nat) (p : Option Nat) (g : Option (Nat × Nat × Nat)), s.alive = true →
    Does (.laneFrame { lane := l, good := false, partnerState := p, acks := n, joinTime := g, gen := j }) s fun t => t = { s with clasp := { s.clasp with badLanes := s.clasp.badLanes + 1 }, mgmt := t.mgmt } ∧ t.mgmt.recs = s.mgmt.recs) ∧
  (∀ (s : State) (l g a b c : Nat), s.alive = true → s.clasp.st = .transfer → s.clasp.joined = false → a < 2 ^ 48 → b < 1000000000 → c < 1048576 →
    Does (.laneFrame { lane := l, joinTime := some (a, b, c), gen := g }) s fun t => t = { s with tc := { s.tc with mtc := s.tc.mtc.jump { s.tc.mtc with sec := a, ns := b, frac := c }, gen := g, hist := t.tc.hist }, clasp := { s.clasp with joined := true, mirror := t.clasp.mirror }, hall := { s.hall with withdrawn := true, dueAll := true }, ref := t.ref, ens := t.ens, la := t.la } ∧
      (t.tc.mtc.sec, t.tc.mtc.ns, t.tc.mtc.frac, t.tc.mtc.slew) = (a, b, c, none) ∧ (∀ r, (t.inp r).st = (s.inp r).st)) ∧
  (∀ (s : State) (l g : Nat) (j : Nat × Nat × Nat), s.alive = true → s.clasp.st ≠ .transfer ∨ s.clasp.joined = true →
    Does (.laneFrame { lane := l, joinTime := some j, gen := g }) s fun t => t.tc = s.tc ∧ t.hall = s.hall) ∧
  (∀ (s : State) (l n : Nat), s.alive = true → (s.clasp.st = .active ∨ s.clasp.st = .standby) → n = 0 ∨ n = 7 →
    Does (.laneFrame { lane := l, partnerState := some n }) s fun t => t.clasp.st = .alone ∧ t.clasp.authed = false ∧ t.clasp.role = t.clasp.wires ∧ t.tc = s.tc ∧ t.ports = s.ports) ∧
  (∀ (s : State) (l : Nat), s.alive = true → s.clasp.st = .alone → s.clasp.authed = true →
    Does (.laneFrame { lane := l, partnerState := some 5 }) s fun t => t.clasp.partner = .standby ∧ t.clasp.st = (if t.clasp.wires = true then .active else .standby) ∧ PairFrame s t ∧ QueuesKept s t) ∧
  (∀ (s : State) (l : Nat) (x : Bool), s.alive = true → (if l = 0 then s.clasp.lane0 else s.clasp.lane1) = x →
    Does (.laneLoss l x) s fun t => t = { s with clasp := { s.clasp with lane0 := t.clasp.lane0, lane1 := t.clasp.lane1 }, mbx := t.mbx, mgmt := t.mgmt } ∧ QueuesKept s t ∧ (if l = 0 then t.clasp.lane0 else t.clasp.lane1) = !x ∧
      ((t.fn 0).due.getLast?.map fun e => (e.code, e.detail)) = some (0x3006, [fld 8 l, fld 8 (b01 (!x))])) ∧
  (∀ (s : State), s.alive = true → (s.clasp.st = .active ∨ s.clasp.st = .standby) →
    Does .partnerLost s fun t => t.clasp.st = .alone ∧ t.clasp.lane0 = false ∧ t.clasp.lane1 = false ∧ t.clasp.authed = false ∧ t.clasp.role = t.clasp.wires ∧ (t.clasp.mirror.all fun x => x.acked && x.ackAt = 0) = true ∧
      t.clasp.mirror.map (·.cmds) = s.clasp.mirror.map (·.cmds) ∧ t.tc = s.tc ∧ t.ports = s.ports ∧ t.pwr = s.pwr ∧ (s.clasp.mirror = [] → PairFrame s t ∧ QueuesKept s t)) ∧
  (∀ (s : State), s.alive = true → s.clasp.st = .transfer → Does .partnerLost s fun t => t.clasp.st = .seeking ∧ t.clasp.wires = false ∧ t.clasp.role = false ∧ t.tc = s.tc) ∧
  (∀ (s : State) (p : PartnerInfo), s.alive = true → (s.clasp.st = .seeking ∨ s.clasp.st = .alone) → p.pairId = s.pwr.pairId →
    Does (.partnerAuthenticated p) s fun t => t = { s with clasp := { s.clasp with idConflict := true }, mbx := t.mbx, mgmt := t.mgmt } ∧ QueuesKept s t ∧ ((t.fn 0).due.getLast?.map fun e => (e.code, e.detail)) = some (0x3005, [])) ∧
  (∀ (s : State) (p : PartnerInfo), s.alive = true → (s.clasp.st = .seeking ∨ s.clasp.st = .alone) → p.pairId ≠ s.pwr.pairId → p.certOk = false ∨ s.rootProved p = false →
    Does (.partnerAuthenticated p) s fun t => t = { s with mgmt := t.mgmt } ∧ t.mgmt.recs = s.mgmt.recs) ∧
  (∀ (s : State) (p : PartnerInfo), s.alive = true → (s.clasp.st = .seeking ∨ s.clasp.st = .alone) → p.pairId ≠ s.pwr.pairId → p.certOk = true → s.rootProved p = true → s.setsPair p = true → s.clasp.claim < p.claim →
    Does (.partnerAuthenticated p) s fun t => t.clasp.st = .transfer ∧ t.clasp.authed = true ∧ t.clasp.pairable = true ∧ t.clasp.joined = false ∧ t.clasp.matchRun = 0 ∧ t.clasp.wires = false ∧ t.clasp.role = false ∧
      PairFrame s { t with keys := { t.keys with slots := s.keys.slots }, free := s.free } ∧ QueuesKept s t ∧
      (∀ k, k < 64 → t.clasp.transport = some k → ((t.keys.slots.look {} k).st, (t.keys.slots.look {} k).usage, (t.keys.slots.look {} k).len, (t.keys.slots.look {} k).locket) = (.valid, 0x0030, 32, true)) ∧
      (∀ k, k < 64 → t.clasp.transport ≠ some k → t.keys.slots.look {} k = s.keys.slots.look {} k)) ∧
  (∀ (s : State) (p : PartnerInfo), s.alive = true → (s.clasp.st = .seeking ∨ s.clasp.st = .alone) → p.pairId ≠ s.pwr.pairId → p.certOk = true → s.rootProved p = true → s.setsPair p = false → s.clasp.claim < p.claim →
    Does (.partnerAuthenticated p) s fun t => t.clasp.st = .unpairedStandby ∧ t.clasp.authed = true ∧ t.clasp.pairable = false ∧ t.clasp.wires = false ∧ PairFrame s t ∧ QueuesKept s t) ∧
  (∀ (s : State) (p : PartnerInfo), s.alive = true → s.clasp.st ≠ .seeking → s.clasp.st ≠ .alone → Does (.partnerAuthenticated p) s fun t => t = s) ∧
  (∀ (s : State), s.pwr.st = .run ∨ s.pwr.st = .degraded → s.clasp.st = .seeking → s.clasp.authed = false →
    Does .pairWaitTimeout s fun t => t.clasp.st = .alone ∧ t.clasp.role = t.clasp.wires ∧ PairFrame s t ∧ QueuesKept s t) ∧
  (∀ (s : State), s.alive = true → s.clasp.st ≠ .seeking ∨ s.clasp.authed = true → Does .pairWaitTimeout s fun t => t = s) ∧
  (∀ (s : State), s.alive = true → s.clasp.st = .transfer → Does .transferTimeout s fun t => t.clasp.st = .seeking ∧ t.clasp.wires = false ∧ PairFrame s t ∧ QueuesKept s t) ∧
  (∀ (s : State), s.alive = true → s.clasp.st ≠ .transfer → Does .transferTimeout s fun t => t = s) ∧
  (∀ (s : State) (l : Nat) (x : Bool), s.alive = true → (if l = 0 then s.clasp.lane0 else s.clasp.lane1) = !x → Does (.laneLoss l x) s fun t => t = s)

/-- A good claim frame gives the partner's claim and flags; a bad one is counted, and sixteen running make it 0. Silence makes it 0. While the pair is not OFF, the wires are held exactly while FITNESS is above 0 and the claim exceeds the partner's, and an ACTIVE unit that loses them becomes STANDBY, a STANDBY unit that gains them ACTIVE. For the 256 ns after a swap the agreed claim stands. Losing the wires starts the silence of CLM_OUT. Two frames running that say the partner does not hear make FITNESS 0 until it has heard for 1 ms. A claim change leaves configuration, time and queues alone. Each of these answers a next state with its effect, under conditions on the state and the operands alone: claimFrame, claimSilence, claimChange, claimDeafRecovery. (R213, R415, R417, R418, R419, R420, R422) -/
def Obligations.ClaimsWiresAndRole : Prop :=
  (∀ (s : State) (c : BitVec 16) (f k : BitVec 4), s.alive = true → claimGood s.pwr.pairId true c f k = true → nbit f.toNat 1 = true →
    Does (.claimFrame true c f k) s fun t => t.clasp.partnerClaim = (if (s.clasp.agreedTo.any fun x => decide (s.tc.mtc.cyc < x)) = true then s.clasp.partnerClaim else c.toNat) ∧ t.clasp.partnerDrive = nbit f.toNat 0 ∧ t.clasp.partnerHear = true ∧ t.clasp.partnerSwap = nbit f.toNat 2 ∧ t.clasp.hear = true ∧ t.clasp.badRun = 0 ∧ t.clasp.deafRun = 0 ∧
      t.clasp.badClaims = s.clasp.badClaims ∧ t.clasp.hearSince = s.clasp.hearSince.or (some s.upNs) ∧
      t.clasp.silentAt = (if s.clasp.wires = true ∧ t.clasp.wires = false then some s.tc.mtc.cyc else s.clasp.silentAt) ∧ PairFrame s t ∧ QueuesKept s t) ∧
  (∀ (s : State) (k : Bool) (c : BitVec 16) (f e : BitVec 4), s.alive = true → claimGood s.pwr.pairId k c f e = false →
    Does (.claimFrame k c f e) s fun t => t.clasp.badClaims = s.clasp.badClaims + 1 ∧ t.clasp.badRun = s.clasp.badRun + 1 ∧ t.clasp.partnerClaim = (if 16 ≤ s.clasp.badRun + 1 then 0 else s.clasp.partnerClaim) ∧ (2 ≤ s.clasp.badRun + 1 → t.clasp.hear = false) ∧ t.clasp.hearSince = none ∧
      (16 ≤ s.clasp.badRun + 1 → t.clasp.partnerDrive = false) ∧ PairFrame s t ∧ QueuesKept s t) ∧
  (∀ (s : State) (c : BitVec 16) (f k : BitVec 4), s.alive = true → claimGood s.pwr.pairId true c f k = true → s.clasp.wires = true → nbit f.toNat 0 = true → nbit f.toNat 1 = false → s.clasp.deafRun = 1 → s.clasp.deaf = false → s.clasp.st ≠ .off →
    Does (.claimFrame true c f k) s fun t => t.clasp.deaf = true ∧ t.clasp.wires = false ∧ t.clasp.silentAt = some s.tc.mtc.cyc ∧ t.clasp.frame = none ∧ t.clasp.claim / 4096 = 0 ∧ t.fitness = 0) ∧
  (∀ (s : State), s.alive = true →
    Does .claimSilence s fun t => t.clasp.partnerClaim = 0 ∧ t.clasp.partnerDrive = false ∧ t.clasp.hear = false ∧ t.clasp.hearSince = none ∧ t.clasp.agreedTo = none ∧ PairFrame s t ∧ QueuesKept s t) ∧
  (∀ (s : State), s.alive = true →
    Does .claimChange s fun t => t.clasp.fit = (s.clasp.fit || (s.ownFit && s.clasp.partnerFit)) ∧
      (∀ n, n < 16 → n = (s.onClasp fun c => { c with fit := t.clasp.fit }).fitness → t.clasp.wires = (s.clasp.st = .off || (decide (0 < n) && decide (s.clasp.partnerClaim < claimWord n s.clasp.role s.pwr.pairId)))) ∧
      t.clasp.silentAt = (if s.clasp.wires = true ∧ t.clasp.wires = false then some s.tc.mtc.cyc else s.clasp.silentAt) ∧
      (s.clasp.st = .active → t.clasp.wires = false → t.clasp.st = .standby ∧ t.clasp.role = false) ∧ (s.clasp.st = .standby → t.clasp.wires = true → t.clasp.st = .active ∧ t.clasp.role = true) ∧
      (s.clasp.st ≠ .active → s.clasp.st ≠ .standby → t.clasp.st = s.clasp.st) ∧ t.clasp.partnerClaim = s.clasp.partnerClaim ∧ t.clasp.mirror = s.clasp.mirror ∧ PairFrame s t ∧ QueuesKept s t) ∧
  (∀ (s : State) (x : Nat), s.alive = true → s.clasp.deaf = true → s.clasp.hearSince = some x → x + 1000000 ≤ s.upNs → Does .claimDeafRecovery s fun t => t.clasp.deaf = false ∧ t.clasp.deafRun = 0 ∧ PairFrame s t ∧ QueuesKept s t) ∧
  (∀ (s : State), s.alive = true → s.clasp.deaf = false ∨ s.clasp.hearSince = none → Does .claimDeafRecovery s fun t => t = s) ∧
  (∀ (s : State) (x : Nat), s.alive = true → s.clasp.hearSince = some x → s.upNs < x + 1000000 → Does .claimDeafRecovery s fun t => t = s)

/-- The unit without ROLE trims by half the difference of the two measurements. Equal digests count towards the pair; different ones, or none in time, are a divergence, counted and recomputed; a unit whose recomputation differs goes to PAIR_FAULT with REPLACE_N. A swap that is due proceeds with 60 updates in step and equal FITNESS, else is put off by a day with an event; at its half second ROLE and wires pass. An acknowledged change takes effect 2 ms later. Each of these answers a next state with its effect, under conditions on the state and the operands alone: pairMeasurementsReceived, pairMeasurementTimeout, digestReceived, digestTimeout, recomputeComplete, swapDue, swapHandover, mirroredChangeEffect. (R415, R425, R426, R427, R429, R430, R433, R438, R439) -/
def Obligations.PairInStepAndSwaps : Prop :=
  (∀ (s : State) (m : PairMeas), s.alive = true →
    Does (.pairMeasurementsReceived m) s fun t => t = { s with clasp := { s.clasp with gotMeas := true, unpaired := false, dPartner := m.dPartner, partnerRefs := m.refs, trim := t.clasp.trim } } ∧ t.clasp.trim * 2 = (if s.clasp.role = true then 0 else (s.clasp.dOwn : Rat) - m.dPartner)) ∧
  (∀ (s : State), s.alive = true → (s.paired = true ∨ s.clasp.st = .transfer) → s.clasp.gotMeas = false → Does .pairMeasurementTimeout s fun t => t = { s with clasp := { s.clasp with unpaired := true } }) ∧
  (∀ (s : State), s.alive = true → s.clasp.gotMeas = true → Does .pairMeasurementTimeout s fun t => t = s) ∧
  (∀ (s : State) (a b : Nat), s.alive = true → s.paired = true → s.clasp.unpaired = false → a = s.clasp.ownSet → b = s.clasp.ownState →
    Does (.digestReceived a b) s fun t => t = { s with clasp := { s.clasp with inStep := true, gotMeas := false, matchRun := s.clasp.matchRun + 1, stepRun := s.clasp.stepRun + 1, frame := t.clasp.frame } } ∧ t.clasp.frame.isSome = !s.claimLow) ∧
  (∀ (s : State) (a b : Nat), s.alive = true → s.clasp.st = .transfer → s.clasp.joined = true → 9 ≤ s.clasp.matchRun → s.clasp.unpaired = false → s.clasp.partnerClaim ≥ 65535 → a = s.clasp.ownSet → b = s.clasp.ownState →
    Does (.digestReceived a b) s fun t => t.clasp.st = .standby ∧ t.clasp.role = false ∧ t.clasp.stepRun = 0 ∧ t.clasp.frozenPair = none ∧ PairFrame s t ∧ QueuesKept s t) ∧
  (∀ (s : State) (a b : Nat), s.alive = true → s.paired = true → (s.clasp.unpaired = true ∨ a ≠ s.clasp.ownSet ∨ b ≠ s.clasp.ownState) →
    Does (.digestReceived a b) s fun t => t = { s with clasp := t.clasp, mgmt := t.mgmt } ∧ t.clasp.st = s.clasp.st ∧ t.clasp.inStep = false ∧ t.clasp.stepRun = 0 ∧ t.clasp.divergences = s.clasp.divergences + 1 ∧ t.clasp.recompute = true ∧
      t.clasp.lastDiv = { sec := s.sec, sets := (s.clasp.ownSet, a), states := (s.clasp.ownState, b) }) ∧
  (∀ (s : State), s.alive = true → s.paired = true → Does .digestTimeout s fun t => t = { s with clasp := t.clasp, mgmt := t.mgmt } ∧ t.clasp.inStep = false ∧ t.clasp.divergences = s.clasp.divergences + 1 ∧ t.clasp.recompute = true) ∧
  (∀ (s : State) (p : Bool), s.alive = true → s.clasp.recompute = true →
    Does (.recomputeComplete true p) s fun t => t.clasp.st = .pairFault ∧ t.clasp.recompute = false ∧ t.clasp.wires = false ∧ t.fault.replace = true ∧ 0x0D00 ∈ t.fault.causes ∧ t.tc = s.tc ∧ t.ports = s.ports) ∧
  (∀ (s : State) (p : Bool), s.alive = true → s.clasp.recompute = true → p = true ∨ s.clasp.st ≠ .standby → Does (.recomputeComplete false p) s fun t => t = { s with clasp := { s.clasp with recompute := false, divTimes := t.clasp.divTimes } } ∧ (p = true ∨ s.clasp.divEqual = false → t.clasp.divTimes = s.clasp.divTimes) ∧
      (p = false → s.clasp.divEqual = true → t.clasp.divTimes = (s.clasp.divTimes.filter fun x => decide (s.upNs < x + 86400000000000)) ++ [s.upNs])) ∧
  (∀ (s : State), s.alive = true → s.clasp.recompute = true → s.clasp.st = .standby → s.clasp.divEqual = false →
    Does (.recomputeComplete false false) s fun t => t.clasp.st = .transfer ∧ t.clasp.joined = false ∧ t.clasp.wires = false ∧ PairFrame s t ∧ QueuesKept s t) ∧
  (∀ (s : State) (d : Nat), s.alive = true → s.paired = true → s.clasp.swapDue = some d → d ≤ s.sec → 60 ≤ s.clasp.stepRun → s.clasp.partnerClaim / 4096 = s.fitness → s.tc.step = none → s.clasp.swapArmed = none →
    Does .swapDue s fun t => t = { s with clasp := { s.clasp with swapArmed := some s.sec, swapDue := none, frame := t.clasp.frame } }) ∧
  (∀ (s : State) (d : Nat), s.alive = true → s.paired = true → s.clasp.swapDue = some d → d ≤ s.sec → s.clasp.stepRun < 60 →
    Does .swapDue s fun t => t = { s with clasp := { s.clasp with swapDue := some (s.sec + 86400) }, mbx := t.mbx, mgmt := t.mgmt } ∧ QueuesKept s t ∧ ((t.fn 0).due.getLast?.map fun e => (e.code, e.detail)) = some (0x3004, [fld 8 1])) ∧
  (∀ (s : State) (a : Nat), s.alive = true → s.clasp.swapArmed = some a → s.handoverAt a ≤ s.tc.mtc.units → s.clasp.partnerSwap = true → s.clasp.st = .active →
    Does .swapHandover s fun t => t.clasp.st = .standby ∧ t.clasp.role = false ∧ t.clasp.wires = false ∧ t.clasp.silentAt = some s.tc.mtc.cyc ∧ t.clasp.agreedTo = some (s.tc.mtc.cyc + 160) ∧ t.clasp.partnerClaim = claimWord s.fitness true (!s.pwr.pairId) ∧ t.clasp.swapArmed = none ∧ PairFrame s t ∧ QueuesKept s t) ∧
  (∀ (s : State) (a : Nat), s.alive = true → s.clasp.swapArmed = some a → s.handoverAt a ≤ s.tc.mtc.units → s.clasp.partnerSwap = true → s.clasp.st = .standby →
    Does .swapHandover s fun t => t.clasp.st = .active ∧ t.clasp.role = true ∧ t.clasp.wires = true ∧ t.clasp.agreedTo = some (s.tc.mtc.cyc + 160) ∧ t.clasp.partnerClaim = claimWord s.fitness false (!s.pwr.pairId) ∧ t.clasp.swapArmed = none ∧ PairFrame s t ∧ QueuesKept s t) ∧
  (∀ (s : State) (h : CmdHdr) (r : Rec) (a : Nat) (d : Option (Nat × Nat × Nat × Nat)) (m : Mtc), s.alive = true → s.clasp.mirror = [{ cmds := [.claspSwapNow h], acked := true, ackAt := a, done := d, result := r, stood := m }] → a + 2000000 ≤ s.upNs →
    Does .mirroredChangeEffect s fun t => t = { s with clasp := { s.clasp with mirror := [], swapDue := some ((m.sec * 1000000000 + m.ns + (if m.frac = 0 then 0 else 1) + 2999999999) / 1000000000) } }) ∧
  (∀ (s : State) (h : CmdHdr) (p x a : Nat), s.alive = true → s.clasp.mirror = [{ cmds := [.claspSetSwap h p x], acked := true, ackAt := a }] → a + 2000000 ≤ s.upNs →
    Does .mirroredChangeEffect s fun t => t = { s with clasp := { s.clasp with mirror := [], swapPeriod := p, swapSecond := x }, mbx := t.mbx, mgmt := t.mgmt } ∧ QueuesKept s t) ∧
  (∀ (s : State), s.alive = true → (s.clasp.mirror.all fun x => !(x.acked && decide (x.ackAt + 2000000 ≤ s.upNs))) = true → Does .mirroredChangeEffect s fun t => t = s)

/-- A mismatch of the MP cores restarts the MP and keeps its instant; a second within 24 h, or a restart not in time, or 101 ms without a heartbeat, is a fatal fault. A restart in time counts one transient and degrades health. A TP core that misses its heartbeat is out of service with its cause; the last one of four is fatal. A heartbeat of a working MP starts ALIVE. Each of these answers a next state with its effect, under conditions on the state and the operands alone: mpLockstepMismatch, mpRestartComplete, tpHeartbeatTimeout, mpHeartbeat, heartbeatTimeout. (R488, R490, R521, R523, R527, R530, R607) -/
def Obligations.ProcessorEvents : Prop :=
  (∀ (s : State), s.alive = true → s.mgmt.mpStopped = false → s.mgmt.mpRestart = false → s.mgmt.mismatch = none →
    Does .mpLockstepMismatch s fun t => t = { s with mgmt := { s.mgmt with mpRestart := true, mpSecond := false, mismatch := some s.upNs, icu := s.mgmt.icu.upd {} 0 IcuSrc.fire, writing := t.mgmt.writing }, fault := t.fault } ∧ (s.mgmt.writing = none → t.mgmt.writing = none) ∧
      t.fault.sticky.look 0 14 = s.fault.sticky.look 0 14 ||| bitMask 23 ∧ t.fault.fatal = s.fault.fatal) ∧
  (∀ (s : State) (m : Nat), s.alive = true → s.mgmt.mpStopped = false → s.mgmt.mpRestart = false → s.mgmt.mismatch = some m → s.upNs < m + 86400000000000 →
    Does .mpLockstepMismatch s fun t => t = { s with mgmt := { s.mgmt with mpRestart := true, mpSecond := true, icu := s.mgmt.icu.upd {} 0 IcuSrc.fire, writing := t.mgmt.writing }, fault := t.fault } ∧ (s.mgmt.writing = none → t.mgmt.writing = none)) ∧
  (∀ (s : State) (m : Nat), s.alive = true → s.mgmt.mpStopped = false → s.mgmt.mpRestart = false → s.mgmt.mismatch = some m → m + 86400000000000 ≤ s.upNs →
    Does .mpLockstepMismatch s fun t => t = { s with mgmt := { s.mgmt with mpRestart := true, mpSecond := false, mismatch := some s.upNs, icu := s.mgmt.icu.upd {} 0 IcuSrc.fire, writing := t.mgmt.writing }, fault := t.fault } ∧ (s.mgmt.writing = none → t.mgmt.writing = none)) ∧
  (∀ (s : State), s.alive = true → s.mgmt.mpStopped = true ∨ s.mgmt.mpRestart = true → Does .mpLockstepMismatch s fun t => t = s) ∧
  (∀ (s : State), s.alive = true → s.mgmt.mpRestart = true → s.mgmt.mpSecond = false →
    Does (.mpRestartComplete true) s fun t => t.mgmt.mpRestart = false ∧ t.mgmt.transients = s.mgmt.transients + 1 ∧ t.mgmt.mismatch = s.mgmt.mismatch ∧ t.fault.beats = s.fault.beats + 1 ∧ t.fault.alive = true ∧ t.fault.fatal = s.fault.fatal ∧
      0x0800 ∈ t.fault.causes ∧ t.tc = s.tc ∧ t.out = s.out) ∧
  (∀ (s : State), s.alive = true → s.mgmt.mpRestart = true → s.mgmt.mpSecond = true →
    Does (.mpRestartComplete true) s fun t => t.mgmt.mpRestart = false ∧ t.mgmt.transients = s.mgmt.transients + 1 ∧ FatalFrom s t ∧ nbit (t.fault.sticky.look 0 15).toNat 29 = true) ∧
  (∀ (s : State), s.alive = true → s.mgmt.mpRestart = true →
    Does (.mpRestartComplete false) s fun t => t.mgmt.mpRestart = false ∧ t.mgmt.mpStopped = true ∧ FatalFrom s t ∧ nbit (t.fault.sticky.look 0 15).toNat 28 = true) ∧
  (∀ (s : State) (k : Bool), s.alive = true → s.mgmt.mpRestart = false → Does (.mpRestartComplete k) s fun t => t = s) ∧
  (∀ (s : State) (c : Nat), s.alive = true → c < 4 → c ∉ s.mgmt.tpOut → s.mgmt.tpOut.length ≠ 3 →
    Does (.tpHeartbeatTimeout c) s fun t => t.mgmt.tpOut = s.mgmt.tpOut ++ [c] ∧ (0x0900 + c) ∈ t.fault.causes ∧ t.fault.replace = true ∧ t.fault.fatal = s.fault.fatal ∧ t.tc = s.tc) ∧
  (∀ (s : State) (c : Nat), s.alive = true → c < 4 → c ∉ s.mgmt.tpOut → s.mgmt.tpOut.length = 3 → Does (.tpHeartbeatTimeout c) s fun t => t.mgmt.tpOut = s.mgmt.tpOut ++ [c] ∧ FatalFrom s t) ∧
  (∀ (s : State) (c : Nat), s.alive = true → 4 ≤ c ∨ c ∈ s.mgmt.tpOut → Does (.tpHeartbeatTimeout c) s fun t => t = s) ∧
  (∀ (s : State), s.alive = true → s.mgmt.mpStopped = false → s.mgmt.mpRestart = false → Does .mpHeartbeat s fun t => t = { s with fault := { s.fault with beats := s.fault.beats + 1, alive := true, aliveAt := if s.fault.alive = true then s.fault.aliveAt else s.upNs } }) ∧
  (∀ (s : State), s.alive = true → s.mgmt.mpStopped = true ∨ s.mgmt.mpRestart = true → Does .mpHeartbeat s fun t => t = s) ∧
  (∀ (s : State), s.alive = true → Does .heartbeatTimeout s fun t => t.mgmt.mpStopped = true ∧ FatalFrom s t ∧ nbit (t.fault.sticky.look 0 15).toNat 28 = true)

/-- A source that fires while its target is free is served at once; to HOST it sends its message and is inactive again. A masked one stays pending. Firing while served makes it pending once more, and it is taken again at the end of interrupt. A target that serves the same or a higher priority takes nothing new. Each of these answers a next state with its effect, under conditions on the state and the operands alone: interruptSourceFire, endOfInterrupt. (R491, R492) -/
def Obligations.InterruptController : Prop :=
  (∀ (s : State) (n : Nat) (x : IcuSrc), s.alive = true → n < 1216 → (s.mgmt.icu.all fun p => decide (p.2.st = .inactive)) = true → s.mgmt.icu.look {} n = x → x.masked = false → icuTarget n x ≠ 6 →
    Does (.interruptSourceFire n) s fun t => t = { s with mgmt := { s.mgmt with icu := t.mgmt.icu } } ∧ t.mgmt.icu.look {} n = { x with st := .active, again := false } ∧ (∀ k, k ≠ n → t.mgmt.icu.look {} k = s.mgmt.icu.look {} k)) ∧
  (∀ (s : State) (n : Nat) (x : IcuSrc), s.alive = true → n < 1216 → (s.mgmt.icu.all fun p => decide (p.2.st = .inactive)) = true → s.mgmt.icu.look {} n = x → x.masked = false → icuTarget n x = 6 →
    Does (.interruptSourceFire n) s fun t => t = { s with mgmt := { s.mgmt with icu := t.mgmt.icu }, mbx := t.mbx } ∧ t.mgmt.icu.look {} n = { x with st := .inactive, again := false } ∧ (t.fn x.fn).vecs.look {} x.vector = ((s.fn x.fn).vecs.look {} x.vector).announce ∧
      (∀ k, k ≠ x.fn → t.fn k = s.fn k)) ∧
  (∀ (s : State) (n : Nat) (x : IcuSrc), s.alive = true → n < 1216 → (s.mgmt.icu.all fun p => decide (p.2.st = .inactive)) = true → s.mgmt.icu.look {} n = x → x.masked = true →
    Does (.interruptSourceFire n) s fun t => t = { s with mgmt := { s.mgmt with icu := t.mgmt.icu } } ∧ t.mgmt.icu.look {} n = { x with st := .pending } ∧ (∀ k, k ≠ n → t.mgmt.icu.look {} k = s.mgmt.icu.look {} k)) ∧
  (∀ (s : State) (n : Nat) (x : IcuSrc), s.alive = true → n < 1216 → s.mgmt.icu = [(n, x)] → x.st = .active →
    Does (.interruptSourceFire n) s fun t => t = { s with mgmt := { s.mgmt with icu := [(n, { x with st := .activePending })] } }) ∧
  (∀ (s : State) (n m : Nat) (x y : IcuSrc), s.alive = true → n < m → m < 1216 → s.mgmt.icu = [(n, x), (m, y)] → x.st = .active → y.st = .inactive → icuTarget n x = icuTarget m y → y.priority ≤ x.priority →
    Does (.interruptSourceFire m) s fun t => t = { s with mgmt := { s.mgmt with icu := [(n, x), (m, { y with st := .pending })] } }) ∧
  (∀ (s : State) (n m : Nat) (x y : IcuSrc), s.alive = true → n < m → m < 1216 → s.mgmt.icu = [(n, x), (m, y)] → x.st = .active → y.st = .inactive → y.masked = false → icuTarget n x = icuTarget m y → x.priority < y.priority → icuTarget m y ≠ 6 →
    Does (.interruptSourceFire m) s fun t => t = { s with mgmt := { s.mgmt with icu := [(n, x), (m, { y with st := .active, again := false })] } }) ∧
  (∀ (s : State) (n : Nat), s.alive = true → 1216 ≤ n → Does (.interruptSourceFire n) s fun t => t = s) ∧
  (∀ (s : State) (n : Nat) (x : IcuSrc), s.alive = true → s.mgmt.icu = [(n, x)] → x.st = .active → Does (.endOfInterrupt n) s fun t => t = { s with mgmt := { s.mgmt with icu := [(n, { x with st := .inactive })] } }) ∧
  (∀ (s : State) (n : Nat) (x : IcuSrc), s.alive = true → s.mgmt.icu = [(n, x)] → x.st = .activePending → x.masked = false → icuTarget n x ≠ 6 →
    Does (.endOfInterrupt n) s fun t => t = { s with mgmt := { s.mgmt with icu := [(n, { x with st := .active, again := false })] } }) ∧
  (∀ (s : State) (n : Nat), s.alive = true → ((s.mgmt.icu.look {} n).st = .inactive ∨ (s.mgmt.icu.look {} n).st = .pending) → Does (.endOfInterrupt n) s fun t => t = s)

/-- A temperature sensor warns above 150 C and its cause clears below 145 C; a failed one stays failed. A rail out of its conditions raises its fault source. An unlisted sensor changes nothing. Hours above each limit are stored; staged log entries move to the ring, which keeps its newest entries; a trial set is confirmed; a bad image hash restricts the device and rolls transactions back; every newly set fault bit is logged once. Each of these answers a next state with its effect, under conditions on the state and the operands alone: sensorUpdate, temperatureHoursWrite, logFlush, firmwareConfirm, imageHashCheck, fswPoll. (R493, R494, R495, R496, R504, R507, R510, R519, R521) -/
def Obligations.SensorsLogAndFirmwareEvents : Prop :=
  (∀ (s : State) (n : Nat) (r : SensorReading), s.alive = true → n < 24 → sensorFails r = false → (s.mgmt.sensors.look {} n).status ≠ 3 →
    Does (.sensorUpdate n r) s fun t => t.mgmt.sensors.look {} n = { status := if 2400 < r.value ∨ ((s.mgmt.sensors.look {} n).status = 1 ∧ 2320 ≤ r.value) then 1 else 0, value := r.value } ∧
      ((0x0A00 + n) ∈ t.fault.causes ↔ (t.mgmt.sensors.look {} n).status = 1) ∧ (n ≠ 0 → t.mgmt.hot = s.mgmt.hot) ∧ (∀ k, k ≠ n → t.mgmt.sensors.look {} k = s.mgmt.sensors.look {} k) ∧ t.fault.fatal = s.fault.fatal ∧ t.tc = s.tc ∧ t.out = s.out) ∧
  (∀ (s : State) (n : Nat) (r : SensorReading), s.alive = true → n < 24 → sensorFails r = true → (s.mgmt.sensors.look {} n).status ≠ 3 →
    Does (.sensorUpdate n r) s fun t => (t.mgmt.sensors.look {} n).status = 3 ∧ (0x0B00 + n) ∈ t.fault.causes ∧ (0x0A00 + n) ∉ t.fault.causes ∧ t.fault.replace = true ∧ t.tc = s.tc) ∧
  (∀ (s : State) (n : Nat) (r : SensorReading), s.alive = true → n < 24 → (s.mgmt.sensors.look {} n).status = 3 → Does (.sensorUpdate n r) s fun t => (t.mgmt.sensors.look {} n).status = 3 ∧ t.tc = s.tc) ∧
  (∀ (s : State) (n : Nat) (r : SensorReading), s.alive = true → 0x20 ≤ n → n < 0x28 → railIn n r.value = true →
    Does (.sensorUpdate n r) s fun t => t.mgmt.sensors.look {} n = { status := 0, value := r.value } ∧ (0x0E00 + railBit (n - 0x20)) ∉ t.fault.causes ∧ nbit (t.fault.live.look 0 15).toNat (railBit (n - 0x20)) = false ∧ (n = 0x27 → t.pwr.vbatOk = true) ∧
      t.fault.sticky = s.fault.sticky ∧ t.tc = s.tc) ∧
  (∀ (s : State) (n : Nat) (r : SensorReading), s.alive = true → 0x20 ≤ n → n < 0x28 → railIn n r.value = false →
    Does (.sensorUpdate n r) s fun t => (t.mgmt.sensors.look {} n).status = 2 ∧ nbit (t.fault.sticky.look 0 15).toNat (railBit (n - 0x20)) = true ∧ nbit (t.fault.live.look 0 15).toNat (railBit (n - 0x20)) = true ∧ (n = 0x27 → t.pwr.vbatOk = false) ∧
      (n ∈ [0x20, 0x21, 0x24] → FatalFrom s t) ∧ (n ∉ [0x20, 0x21, 0x24] → t.fault.fatal = s.fault.fatal) ∧ t.tc = s.tc) ∧
  (∀ (s : State) (n : Nat) (r : SensorReading), s.alive = true → 0x40 ≤ n → n < 0x4D →
    Does (.sensorUpdate n r) s fun t => t = { s with mgmt := { s.mgmt with sensors := t.mgmt.sensors } } ∧ t.mgmt.sensors.look {} n = { status := s.clockStatus n r, value := r.value }) ∧
  (∀ (s : State) (n : Nat) (r : SensorReading), s.alive = true → (24 ≤ n ∧ n < 0x20 ∨ 0x28 ≤ n ∧ n < 0x40 ∨ 0x4D ≤ n) → Does (.sensorUpdate n r) s fun t => t = s) ∧
  (∀ (s : State), s.alive = true →
    Does .temperatureHoursWrite s fun t => t = { s with mgmt := { s.mgmt with hours := t.mgmt.hours, recs := t.mgmt.recs, banks := t.mgmt.banks, writing := t.mgmt.writing }, mbx := { s.mbx with objGen := t.mbx.objGen } } ∧ t.mgmt.hours = (s.mgmt.hot.1 / 360000, s.mgmt.hot.2.1 / 360000, s.mgmt.hot.2.2 / 360000)) ∧
  (∀ (s : State), s.alive = true → (s.mgmt.coal.all fun e => decide (e.time.sec = s.sec)) = true → s.mgmt.staged ≠ [] →
    Does .logFlush s fun t => t = { s with mgmt := { s.mgmt with
        log := (s.mgmt.log ++ s.mgmt.staged).drop ((s.mgmt.log ++ s.mgmt.staged).length - s.logSize), staged := [], boot := t.mgmt.boot, banks := t.mgmt.banks,
        writing := some { words := 8 * s.mgmt.staged.length, at_ := s.upNs, old := .ring s.mgmt.log s.mgmt.staged } } }) ∧
  (∀ (s : State), s.alive = true → Does .logFlush s fun t => t.mgmt.staged = [] ∧ t.mgmt.log.length ≤ max s.mgmt.log.length s.logSize ∧ t = { s with mgmt := t.mgmt } ∧ (t.mgmt.coal.all fun e => decide (e.time.sec = s.sec)) = true) ∧
  (∀ (s : State), s.pwr.st = .run ∨ s.pwr.st = .degraded → (s.mgmt.sets.look {} s.mgmt.running).st = .trial →
    Does .firmwareConfirm s fun t => t = { s with mgmt := { s.mgmt with sets := t.mgmt.sets, highSvn := max s.mgmt.highSvn (s.mgmt.sets.look {} s.mgmt.running).svn, boot := t.mgmt.boot, banks := t.mgmt.banks, writing := t.mgmt.writing }, mbx := { s.mbx with objGen := t.mbx.objGen } } ∧
      t.mgmt.sets.look {} s.mgmt.running = { s.mgmt.sets.look {} s.mgmt.running with st := .confirmed }) ∧
  (∀ (s : State), s.alive = true → (s.mgmt.sets.look {} s.mgmt.running).st ≠ .trial → Does .firmwareConfirm s fun t => t = s) ∧
  (∀ (s : State), s.pwr.st = .run ∨ s.pwr.st = .degraded →
    Does (.imageHashCheck false) s fun t => t.pwr.st = .restricted ∧ t.tc = { s.tc with force := t.tc.force } ∧ (s.tc.ts = .locked → t.tc.force = true) ∧ (∀ b q, b ∈ s.bezels → q < 4 → ((t.fn b).q q).txn = none) ∧
      ((t.fn 0).due.getLast?.map fun e => (e.code, e.detail)) = some (0x0201, [fld 8 s.mgmt.running, fld 8 1])) ∧
  (∀ (s : State), s.alive = true → Does (.imageHashCheck true) s fun t => t = s) ∧
  (∀ (s : State), s.alive = true → s.mgmt.mpStopped = false → s.mgmt.mpRestart = false → s.mgmt.dropped = 0 →
    Does .fswPoll s fun t => t = { s with mgmt := t.mgmt, fault := { s.fault with logged := t.fault.logged } } ∧ (∀ w, w < 16 → t.fault.logged.look 0 w = s.fault.sticky.look 0 w) ∧
      ((t.mgmt.staged.drop s.mgmt.staged.length).map fun e => (e.code, e.subject)) = ((List.range 512).filter fun i => nbit (s.fault.sticky.look 0 (i / 32)).toNat (i % 32) && !nbit (s.fault.logged.look 0 (i / 32)).toNat (i % 32)).map fun i => (0x4180, i)) ∧
  (∀ (s : State), s.alive = true → s.mgmt.mpStopped = true ∨ s.mgmt.mpRestart = true → Does .fswPoll s fun t => t = s)

/-- A pin of an assigned source sets its sticky and live bits; a fatal source latches the fault; a port pin fails its port; the pin of an MRAM bank makes the bank read-only; VBAT is only noted. A cleared pin loses its live bit and keeps the sticky one. An unassigned bit does nothing. When MOSC is lost the Time Core is LOST, loops hold over and the collector runs on its backup; when it is good again the collector returns and enabled idle loops start. Each of these answers a next state with its effect, under conditions on the state and the operands alone: errorPinRaised, errorPinCleared, moscLoss, moscGood. (R30, R65, R209, R261, R518, R519, R520, R521, R522, R523, R525, R526) -/
def Obligations.FaultCollector : Prop :=
  (∀ (s : State) (w b : Nat) (x : Bool) (l : List Nat), s.alive = true → sourceOk w b = true → s.pwr.moscLost = false →
    Does (.errorPinRaised w b { wiring := x, leaves := l }) s fun t => nbit (t.fault.sticky.look 0 w).toNat b = true ∧ (x = true → nbit (t.fault.sticky.look 0 15).toNat w = true) ∧ (severityOf w b = .fatal → FatalFrom s t) ∧ t.tc.mtc = s.tc.mtc ∧ t.pending = s.pending ∧
      (∀ k, k ∈ l → k ∈ t.fault.leaves.look [] (32 * w + b))) ∧
  (∀ (s : State) (p : Nat) (x : Bool) (l : List Nat), s.alive = true → p < 256 → (s.port p).st ≠ .disabled →
    Does (.errorPinRaised (4 + p / 32) (p % 32) { wiring := x, leaves := l }) s fun t => (t.port p).st = .failed ∧ nbit (t.fault.live.look 0 (4 + p / 32)).toNat (p % 32) = true ∧ t.fault.fatal = s.fault.fatal ∧ t.tc = s.tc) ∧
  (∀ (s : State) (n : Nat) (x : Bool) (l : List Nat), s.alive = true → n < 4 → Does (.errorPinRaised 14 (25 + n) { wiring := x, leaves := l }) s fun t => (t.mgmt.banks.look {} n).readOnly = true ∧ t.mgmt.log = s.mgmt.log ∧ t.tc.mtc = s.tc.mtc) ∧
  (∀ (s : State) (x : Bool) (l : List Nat), s.alive = true → Does (.errorPinRaised 15 23 { wiring := x, leaves := l }) s fun t => t = { s with fault := t.fault, mgmt := { s.mgmt with icu := t.mgmt.icu }, mbx := t.mbx, pwr := { s.pwr with vbatOk := false } } ∧ t.fault.fatal = s.fault.fatal ∧ t.fault.causes = s.fault.causes) ∧
  (∀ (s : State) (w b : Nat) (x : Bool) (l : List Nat), s.alive = true → sourceOk w b = false → Does (.errorPinRaised w b { wiring := x, leaves := l }) s fun t => t = s) ∧
  (∀ (s : State) (w b : Nat), s.alive = true → sourceOk w b = true → Does (.errorPinCleared w b) s fun t => nbit (t.fault.live.look 0 w).toNat b = false ∧ t.fault.sticky = s.fault.sticky ∧ t.fault.fatal = s.fault.fatal ∧ t.tc.ts = s.tc.ts ∧ t.tc.mtc = s.tc.mtc) ∧
  (∀ (s : State) (w b : Nat), s.alive = true → sourceOk w b = false → Does (.errorPinCleared w b) s fun t => t = s) ∧
  (∀ (s : State), s.alive = true → s.pwr.moscGood = true → s.pwr.moscLost = false →
    Does .moscLoss s fun t => t.tc.ts = .lost ∧ t.tc.mtc = s.tc.mtc ∧ t.pwr = { s.pwr with moscLost := true } ∧ t.fault.backup = true ∧ nbit (t.fault.live.look 0 0).toNat 4 = true ∧ nbit (t.fault.sticky.look 0 0).toNat 4 = true ∧ t.hall.withdrawn = true ∧ t.fault.fatal = s.fault.fatal ∧
      (∀ l, l < 8 → (s.loop l).st = .locked ∨ (s.loop l).st = .acquiring → (t.loop l).st = .holdover) ∧ (∀ k, k < 44 → timeBearing (t.pin k).cfg = true → t.driverOn k = false)) ∧
  (∀ (s : State), s.alive = true → s.pwr.moscGood = false ∨ s.pwr.moscLost = true → Does .moscLoss s fun t => t = s) ∧
  (∀ (s : State), s.alive = true → (s.pwr.moscGood && !s.pwr.moscLost) = false →
    Does .moscGood s fun t => t.pwr = { s.pwr with moscGood := true, moscLost := false } ∧ t.fault.backup = false ∧ nbit (t.fault.live.look 0 0).toNat 4 = false ∧ t.fault.sticky = s.fault.sticky ∧ t.tc = { s.tc with moscGoodAt := s.upNs } ∧
      (∀ l, l < 8 → (s.loop l).en = true → (s.loop l).st = .freeRun → (t.loop l).st = .acquiring)) ∧
  (∀ (s : State), s.alive = true → s.pwr.moscGood = true → s.pwr.moscLost = false → Does .moscGood s fun t => t = s)

/-- A power-on, system, command or zeroisation reset leaves the epoch one higher, its cause and PAIR_ID read, the counter at zero and stopped, the mailbox not ready, every queue disabled, no function frozen and every Loupe counter at zero; fuses stay, but for a sys.seal that is cut short, and so does the written log. A command or zeroisation reset that nothing has scheduled does nothing. Only a power-on reset qualifies MOSC again and leaves OFF or VAULT. A selected set that is confirmed and tested is run; an absent vault key is made new unless an armed input reads tamper. Each of these answers a next state with its effect, under conditions on the state and the operands alone: powerOnReset, systemReset, commandReset, zeroisationReset. (R46, R413, R446, R458, R508, R535, R550, R552, R553, R554, R561, R564) -/
def Obligations.DeviceResets : Prop :=
  (∀ (s : State) (p : BootPins), Does (.powerOnReset p) s fun t => ResetBy (if p.porst = true then 1 else 0) p s t ∧ t.pwr.moscGood = false ∧ t.fault.backup = true) ∧
  (∀ (s : State) (p : BootPins), s.alive = true → Does (.systemReset p) s fun t => ResetBy 2 p s t ∧ t.pwr.moscGood = (s.pwr.moscGood && !s.pwr.moscLost)) ∧
  (∀ (s : State) (p : BootPins) (c : Nat), s.alive = true → s.pwr.cmdReset = some c → c ≠ 5 → Does (.commandReset p) s fun t => ResetBy c p s t ∧ t.pwr.moscGood = (s.pwr.moscGood && !s.pwr.moscLost)) ∧
  (∀ (s : State) (p : BootPins), s.alive = true → s.pwr.cmdReset = none ∨ s.pwr.cmdReset = some 5 → Does (.commandReset p) s fun t => t = s) ∧
  (∀ (s : State) (p : BootPins), s.alive = true → s.pwr.cmdReset = some 5 → Does (.zeroisationReset p) s fun t => ResetBy 5 p s t) ∧
  (∀ (s : State) (p : BootPins), s.alive = true → s.pwr.cmdReset ≠ some 5 → Does (.zeroisationReset p) s fun t => t = s) ∧
  (∀ (s : State) (p : BootPins), s.alive = false → Does (.systemReset p) s fun t => t = s) ∧
  (∀ (s : State) (p : BootPins), s.pwr.kek = true → s.mgmt.selected < 2 → s.setTested s.mgmt.selected = true → (s.mgmt.sets.look {} s.mgmt.selected).st = .confirmed →
    Does (.powerOnReset p) s fun t => t.pwr.st = .boot ∧ t.mgmt.running = s.mgmt.selected ∧ t.mgmt.tested = true ∧ (t.mgmt.sets.look {} s.mgmt.selected).st = .confirmed ∧ t.pwr.kek = true ∧ t.pwr.vgen = s.pwr.vgen ∧ t.pwr.latch = s.pwr.latch ∧ t.pwr.tcount = s.pwr.tcount) ∧
  (∀ (s : State) (p : BootPins), s.pwr.kek = false → s.cutSeal.isSealed = false ∨ p.tamper = 0 → Does (.powerOnReset p) s fun t => t.pwr.kek = true ∧ t.pwr.vgen = (s.pwr.vgen + 1) % 65536 ∧ t.pwr.latch = 0 ∧ (t.key 1).st = .valid) ∧
  (∀ (s : State) (p : BootPins), s.pwr.kek = false → s.cutSeal.isSealed = true → p.tamper ≠ 0 → Does (.powerOnReset p) s fun t => t.pwr.kek = false ∧ t.pwr.st = .restricted ∧ t.pwr.tamperHold = true ∧ t.pwr.vgen = s.pwr.vgen)

/-- With VBAT good, losing the main rails leads to VAULT with the vault kept; losing both leads to OFF with the vault lost; VBAT applied in OFF leads to VAULT. A tamper input sets LATCH and counts. On an unsealed device nothing else goes; on a sealed one the vault key is zeroised, in VAULT too, and with the main rails up every key slot becomes an orphan without material and a zeroisation reset is to follow. A strobe with every input closed only shows it. Each of these answers a next state with its effect, under conditions on the state and the operands alone: mainRailsLost, powerLost, vbatApplied, tamperStrobe. (R549, R552, R557, R558, R559, R560) -/
def Obligations.RailsAndTamper : Prop :=
  (∀ (s : State), s.alive = true → s.pwr.vbatOk = true →
    Does .mainRailsLost s fun t => t.pwr.st = .vault ∧ (t.pwr.kek, t.pwr.latch, t.pwr.vgen, t.pwr.tcount, t.pwr.fuses) = (s.pwr.kek, s.pwr.latch, s.pwr.vgen, s.pwr.tcount, s.cutSeal.pwr.fuses) ∧ t.pwr.moscGood = false ∧ t.mbx.epoch = s.mbx.epoch ∧ t.mbx.ready = false ∧
      t.tc.mtc.running = false ∧ (s.mgmt.writing = none → t.mgmt.log = s.mgmt.log) ∧ (∀ b, (t.fn b).queues = [])) ∧
  (∀ (s : State), s.alive = false ∨ s.pwr.vbatOk = false → Does .mainRailsLost s fun t => t = s) ∧
  (∀ (s : State), Does .powerLost s fun t => t.pwr.st = .off ∧ (t.pwr.kek, t.pwr.latch, t.pwr.vgen, t.pwr.tcount, t.pwr.vbatOk) = (false, 0, 0, 0, false) ∧ t.pwr.fuses = (if s.alive = true then s.cutSeal.pwr.fuses else s.pwr.fuses) ∧ t.mbx.epoch = s.mbx.epoch ∧ (s.mgmt.writing = none → t.mgmt.log = s.mgmt.log) ∧
      (s.alive = true → t.tc.mtc.running = false ∧ t.mbx.ready = false)) ∧
  (∀ (s : State), s.pwr.st = .off → Does .vbatApplied s fun t => t = { s with pwr := { s.pwr with st := .vault, vbatOk := true } }) ∧
  (∀ (s : State), s.pwr.st ≠ .off → Does .vbatApplied s fun t => t = { s with pwr := { s.pwr with vbatOk := true } }) ∧
  (∀ (s : State) (x : BitVec 4), s.pwr.st ≠ .off → x ≠ 0 → s.isSealed = false ∨ s.pwr.kek = false →
    Does (.tamperStrobe x) s fun t => t = { s with pwr := t.pwr, mbx := { s.mbx with objGen := t.mbx.objGen }, mgmt := t.mgmt } ∧ t.pwr.present = x ∧ t.pwr.latch = s.pwr.latch ||| x ∧ t.pwr.tcount = min (s.pwr.tcount + 1) 4294967295 ∧ t.pwr.kek = s.pwr.kek ∧
      t.pwr.cmdReset = s.pwr.cmdReset ∧ t.pwr.st = s.pwr.st) ∧
  (∀ (s : State) (x : BitVec 4), s.alive = true → x ≠ 0 → s.isSealed = true → s.pwr.kek = true →
    Does (.tamperStrobe x) s fun t => t.pwr.kek = false ∧ t.pwr.cmdReset = some 5 ∧ t.pwr.latch = s.pwr.latch ||| x ∧ t.pwr.tcount = min (s.pwr.tcount + 1) 4294967295 ∧ t.keys.entropyUp = false ∧ t.sta.jobs = [] ∧
      (∀ k, k ≠ 0 → (s.key k).st ≠ .free → (s.key k).st ≠ .invalid → (t.key k).st = .orphan ∧ (t.key k).material = 0) ∧ t.tc = s.tc ∧ t.pwr.fuses = s.pwr.fuses) ∧
  (∀ (s : State) (x : BitVec 4), s.pwr.st = .vault → x ≠ 0 → s.isSealed = true → s.pwr.kek = true →
    Does (.tamperStrobe x) s fun t => t.pwr.kek = false ∧ t.pwr.cmdReset = s.pwr.cmdReset ∧ t.pwr.st = .vault ∧ t.pwr.unlogged = true ∧ t.keys = s.keys) ∧
  (∀ (s : State), s.pwr.st ≠ .off → Does (.tamperStrobe 0) s fun t => t = { s with pwr := { s.pwr with present := 0 } }) ∧
  (∀ (s : State) (x : BitVec 4), s.pwr.st = .off → Does (.tamperStrobe x) s fun t => t = s) ∧
  (∀ (s : State) (w : NvWrite) (l m : List LogEntry), s.alive = true → s.pwr.vbatOk = true → s.mgmt.writing = some w → w.old = .ring l m → (s.upNs - w.at_) / 250 + 1 < w.words → w.stopped = none →
    Does .mainRailsLost s fun t => t.mgmt.log = cutRing l m s.logSize ((s.upNs - w.at_) / 250) (Config.wordFate s.cutSeal.free))

/-- The Time Core starts the counter at second 0 when OL0 is LOCKED and the collector's self-test has passed, and its state is FREE_RUN; else it stays. The mailbox becomes ready once MOSC is good, with the configuration applied. BOOT leaves for RUN when the set is tested, the configuration applied, the entropy and DRBG usable and the channels calibrated, as DEGRADED where causes are present; 2 s on it leaves with the causes concerned. Each of these answers a next state with its effect, under conditions on the state and the operands alone: mtcStart, mbxReady, runEntry, bootTimeout. (R530, R553, R554, R555, R556) -/
def Obligations.StartUp : Prop :=
  (∀ (s : State), (s.pwr.st = .boot ∨ s.pwr.st = .restricted) → s.tc.mtc.running = false → (s.loop 0).st = .locked → nbit (s.fault.sticky.look 0 0).toNat 10 = false →
    Does .mtcStart s fun t => t.tc.mtc = { s.tc.mtc with running := true, freq := s.tc.moscCal } ∧ t.tc.ts = .freeRun ∧ t.hall.dueAll = true ∧ t.pwr = s.pwr ∧ t.mbx = s.mbx ∧ t.ports = s.ports ∧ t.mgmt = s.mgmt) ∧
  (∀ (s : State), s.alive = true → s.tc.mtc.running = true ∨ (s.loop 0).st ≠ .locked ∨ nbit (s.fault.sticky.look 0 0).toNat 10 = true → Does .mtcStart s fun t => t = s) ∧
  (∀ (s : State), (s.pwr.st = .boot ∨ s.pwr.st = .restricted) → s.mbx.ready = false → s.pwr.moscGood = true → s.mgmt.mpStopped = false →
    Does .mbxReady s fun t => t = { s with pwr := t.pwr, mbx := { s.mbx with ready := true }, mgmt := t.mgmt } ∧ t.pwr = { s.pwr with cfgApplied := true, unlogged := false } ∧ (s.pwr.unlogged = false → t.mgmt = s.mgmt)) ∧
  (∀ (s : State), s.alive = true → s.mbx.ready = true ∨ s.pwr.moscGood = false → Does .mbxReady s fun t => t = s) ∧
  (∀ (s : State), s.pwr.st = .boot → s.mgmt.tested = true → s.pwr.cfgApplied = true → s.keys.entropyUp = true → (s.keys.drbgs.look {} 0).error = false → s.channelsReady = true →
    Does .runEntry s fun t => t.pwr.st = (if s.degraded = true then .degraded else .run) ∧ t.fault = s.fault ∧ t.tc = s.tc ∧ t.ports = s.ports ∧ t.keys = s.keys ∧ t.mbx.ready = s.mbx.ready) ∧
  (∀ (s : State), s.alive = true → s.pwr.st ≠ .boot ∨ s.mgmt.tested = false ∨ s.pwr.cfgApplied = false ∨ s.keys.entropyUp = false → Does .runEntry s fun t => t = s) ∧
  (∀ (s : State), s.pwr.st = .boot → s.pwr.moscGood = true → s.keys.entropyUp = false → Does .bootTimeout s fun t => t.pwr.st = .degraded ∧ 0x0700 ∈ t.fault.causes ∧ t.fault.replace = true ∧ t.tc = s.tc ∧ t.keys = s.keys) ∧
  (∀ (s : State) (c : Nat), s.pwr.st = .boot → s.pwr.moscGood = true → c ∈ s.fil.chans.map (·.1) → ((s.fil.chans.filter fun q => decide (q.1 = c)).all fun q => q.2.en && decide (q.2.interp.st = .normal) && q.2.interp.tabX.isNone) = true →
    Does .bootTimeout s fun t => t.pwr.st = .degraded ∧ (0x0100 + c) ∈ t.fault.causes) ∧
  (∀ (s : State), s.alive = true → s.pwr.st ≠ .boot ∨ s.pwr.moscGood = false → Does .bootTimeout s fun t => t = s)

/-- In the step cycle of a pending step that is due, the counter takes the offset and its cycle, the slew is cancelled, the wait for an initial set ends, GEN counts once and every current record is withdrawn; frames of the TSE that wait for a position go, and the last in-window edge of every PPSI and the estimate of the MTC against TAI move by the offset (log entry 119 for the estimate). Without a step that is due nothing changes. The counter adds an offset modulo its range. Each of these answers a next state with its effect, under conditions on the state and the operands alone: stepCycle. (R67, R69, R88, R331, R601) -/
def Obligations.StepCycle : Prop :=
  (∀ (s : State) (p : PendStep), s.alive = true → s.tc.step = some p → s.tc.mtc.running = true → p.due * unitsPerSec ≤ s.tc.mtc.units →
    Does .stepCycle s fun t => t.tc.mtc = (s.tc.mtc.jump (s.tc.mtc.add p.sec p.ns p.frac)).tick ∧ t.tc.mtc.slew = none ∧ t.tc.step = none ∧ t.tc.gen = (s.tc.gen + 1) % 65536 ∧ t.tc.initPending = false ∧ t.tc.initDone = (s.tc.initDone || s.tc.initPending) ∧
      t.tc.ts = s.tc.ts ∧ t.tc.leap = s.tc.leap ∧ t.hall.withdrawn = true ∧ t.hall.dueAll = true ∧ t.tse.waits = [] ∧ (∀ k, (t.pps k).last = (s.pps k).last.map (· + p.units)) ∧ t.ens.post.x = s.ens.post.x + unitsPs p.units ∧ t.pwr = s.pwr ∧ t.bez = s.bez ∧ t.pending = s.pending) ∧
  (∀ (s : State), s.alive = true → s.tc.step = none ∨ s.tc.mtc.running = false → Does .stepCycle s fun t => t = s) ∧
  (∀ (s : State) (p : PendStep), s.alive = true → s.tc.step = some p → s.tc.mtc.units < p.due * unitsPerSec → Does .stepCycle s fun t => t = s) ∧
  (∀ (m : Mtc) (a b c : Int), 0 ≤ (m.units : Int) + (a * 1000000000 + b) * 1048576 + c → (m.units : Int) + (a * 1000000000 + b) * 1048576 + c < 2 ^ 48 * 1000000000 * 1048576 →
    ((m.add a b c).units : Int) = (m.units : Int) + (a * 1000000000 + b) * 1048576 + c)

/-- sys.reset with the epoch as CONFIRM schedules a command reset; sys.seal with both codes programs both fuse rows; the reads return identity, health, sensors and sets and change nothing. fw.load_image stores a verified image as VALID in the set that is not running; fw.activate selects a VALID or CONFIRMED set and, with WHEN 1, schedules a reset. Nothing else changes. Each of these answers a next state with its effect, under conditions on the state and the operands alone: sysReset, sysSeal, sysReadInfo, sysReadHealth, sysReadSensors, fwLoadImage, fwActivate, fwReadSets. (R476, R493, R502, R507, R530, R550, R562, R563) -/
def Obligations.SystemAndFirmwareCommands : Prop :=
  (∀ (h : CmdHdr) (s : State) (c : Nat), ready { op := 0x0101, plen := 4, action := true } h s → c = s.mbx.epoch → s.pwr.cmdReset ≠ some 5 →
    Does (.sysReset h c) s fun t => Completes h s { s with pwr := { s.pwr with cmdReset := some 3 } } t [] []) ∧
  (∀ (h : CmdHdr) (s : State) (c : Nat), ready { op := 0x0102, plen := 8, action := true } h s → c = s.mbx.epoch → s.isSealed = false →
    Does (.sysSeal h c 0x5345414C) s fun t => Completes h s { s with pwr := { s.pwr with fuses := 3 } } t [] [] ∧ t.isSealed = true) ∧
  (∀ (h : CmdHdr) (s : State) (c k : Nat), ready { op := 0x0102, plen := 8, action := true } h s → c ≠ s.mbx.epoch ∨ k ≠ 0x5345414C → Does (.sysSeal h c k) s fun t => Answers h s t .arg [] [] ∧ t.pwr = s.pwr) ∧
  (∀ (h : CmdHdr) (s : State), ready { op := 0x0141, who := .any } h s →
    Does (.sysReadInfo h) s fun t => Completes h s s t [fld 64 s.mgmt.deviceId, fld 16 s.mgmt.hwRev, fld 8 s.pwr.st.code, fld 8 (b01 s.isSealed), fld 32 s.mbx.epoch, fld 32 s.fwVersion, fld 8 (b01 s.pwr.pairId)] []) ∧
  (∀ (h : CmdHdr) (s : State), ready { op := 0x0142, who := .any, xbOut := h.fn = 0 } h s → h.fn = 0 → 2 * s.fault.causes.length ≤ h.xlen →
    Does (.sysReadHealth h) s fun t => Completes h s s t [fld 8 (b01 s.degraded), fld 8 (b01 s.fault.replace), fld 16 s.fault.causes.length] (s.fault.causes.map (fld 16))) ∧
  (∀ (h : CmdHdr) (s : State), ready { op := 0x0142, who := .any, xbOut := h.fn = 0 } h s → h.fn ≠ 0 →
    Does (.sysReadHealth h) s fun t => Completes h s s t [fld 8 (b01 s.degraded), fld 8 (b01 s.fault.replace), fld 16 s.fault.causes.length] []) ∧
  (∀ (h : CmdHdr) (s : State), ready { op := 0x0143, xbOut := true } h s → 372 ≤ h.xlen →
    Does (.sysReadSensors h) s fun t => Completes h s s t [fld 16 45] ((sensorIds.flatMap fun i => sensorRecord i (s.mgmt.sensors.look {} i)) ++ [fld 32 s.mgmt.hours.1, fld 32 s.mgmt.hours.2.1, fld 32 s.mgmt.hours.2.2])) ∧
  (∀ (h : CmdHdr) (s : State) (n : Nat) (b : FwBlob) (g : FwImage), ready { op := 0x0201, plen := 1, action := true, xbIn := true } h s → n ≤ 1 → parseManifest b = some g → g.sigOk = true → g.hashesOk = true → g.product = 0x9256 → s.isSealed = false ∨ s.mgmt.highSvn ≤ g.svn → s.mgmt.running ≠ n → (s.mgmt.banks.look {} n).readOnly = false →
    Does (.fwLoadImage h n b) s fun t => Answers h s t .ok [] [] ∧ MailboxFrame h s t ∧ LoupeFrame h s t ∧ MgmtFrame { s with mgmt := { s.mgmt with sets := t.mgmt.sets } } t ∧ t = { s with mgmt := t.mgmt, mbx := t.mbx, loupe := t.loupe } ∧
      t.mgmt.sets.look {} n = { st := .valid, verified := true, product := 0x9256, hw := g.hwList, version := g.setVersion, svn := g.svn, week := g.buildWeek, comp := g.comp } ∧ (∀ k, k ≠ n → t.mgmt.sets.look {} k = s.mgmt.sets.look {} k)) ∧
  (∀ (h : CmdHdr) (s : State) (n : Nat) (b : FwBlob) (g : FwImage), ready { op := 0x0201, plen := 1, action := true, xbIn := true } h s → n ≤ 1 → parseManifest b = some g → g.sigOk = false ∨ g.hashesOk = false ∨ g.product ≠ 0x9256 ∨ (s.isSealed = true ∧ g.svn < s.mgmt.highSvn) →
    Does (.fwLoadImage h n b) s fun t => t.mgmt.sets = s.mgmt.sets ∧ ((t.fn h.fn).cplQ.getLast?.map (·.status)) = some .ver) ∧
  (∀ (h : CmdHdr) (s : State) (n w : Nat), ready { op := 0x0202, plen := 2, action := true } h s → n ≤ 1 → w ≤ 1 → s.mgmt.hwRev ∈ (s.mgmt.sets.look {} n).hw → ((s.mgmt.sets.look {} n).st = .valid ∨ (s.mgmt.sets.look {} n).st = .confirmed) → s.pwr.cmdReset = none →
    Does (.fwActivate h n w) s fun t => Answers h s t .ok [] [] ∧ MailboxFrame h s t ∧ LoupeFrame h s t ∧ MgmtFrame { s with mgmt := { s.mgmt with selected := n } } t ∧
      t = { s with mgmt := t.mgmt, mbx := t.mbx, loupe := t.loupe, pwr := { s.pwr with cmdReset := if w = 1 then some 4 else none } }) ∧
  (∀ (h : CmdHdr) (s : State), ready { op := 0x0241, xbOut := true } h s → 32 + 2 * ((s.mgmt.sets.look {} 0).hw.length + (s.mgmt.sets.look {} 1).hw.length) + 4 * ((s.mgmt.sets.look {} 0).comp.length + (s.mgmt.sets.look {} 1).comp.length) ≤ h.xlen →
    Does (.fwReadSets h) s fun t => Completes h s s t [fld 8 s.mgmt.running] (lastXb h t) ∧ (lastXb h t).take 6 = [fld 8 (s.mgmt.sets.look {} 0).st.code, fld 8 (b01 (s.mgmt.selected = 0)), fld 16 (s.mgmt.sets.look {} 0).product, fld 32 (s.mgmt.sets.look {} 0).version, fld 32 (s.mgmt.sets.look {} 0).svn, fld 16 (s.mgmt.sets.look {} 0).week]) ∧
  (∀ (h : CmdHdr) (s : State) (n : Nat) (b : FwBlob), ready { op := 0x0201, plen := 1, action := true, xbIn := true } h s → n ≤ 1 → parseManifest b = none →
    Does (.fwLoadImage h n b) s fun t => t.mgmt.sets = s.mgmt.sets ∧ ((t.fn h.fn).cplQ.getLast?.map (·.status)) = some .ver)

/-- txn.begin opens a transaction with an identifier that is not zero. txn.abort closes it and nothing staged takes effect. txn.commit re-checks what was staged: the first command that fails is named with its status and none takes effect; if all pass, all take effect as one change. A free semaphore is acquired with the next generation, an abandoned one with E_ABANDONED, a held one is busy; its holder releases it. Each of these answers a next state with its effect, under conditions on the state and the operands alone: txnBegin, txnAbort, txnCommit, txnAcquireLock, txnReleaseLock. (R24, R461, R463, R464, R501, R594) -/
def Obligations.TransactionCommands : Prop :=
  (∀ (h : CmdHdr) (s : State), ready { op := 0x0401, who := .any } h s →
    Does (.txnBegin h) s fun t => Answers h s t .ok [fld 16 ((s.mbx.nextTxn - 1) % 65535 + 1)] [] ∧ MgmtFrame s t ∧ LoupeFrame h s t ∧ t = { s with mbx := t.mbx, mgmt := t.mgmt, loupe := t.loupe } ∧
      ((t.fn h.fn).q h.queue).txn = some { id := (s.mbx.nextTxn - 1) % 65535 + 1 } ∧ (∀ q, q ≠ h.queue → (t.fn h.fn).q q = (s.fn h.fn).q q)) ∧
  (∀ (h : CmdHdr) (s : State) (x : Txn), readyInTxn { op := 0x0403, plen := 2, who := .any } h s x →
    Does (.txnAbort h x.id) s fun t => Answers h s t .ok [] [] ∧ MgmtFrame s t ∧ LoupeFrame h s t ∧ MailboxFrame h s t ∧ t = { s with mbx := t.mbx, mgmt := t.mgmt, loupe := t.loupe } ∧ ((t.fn h.fn).q h.queue).txn = none) ∧
  (∀ (h : CmdHdr) (s : State) (x : Txn) (n : Nat), readyInTxn { op := 0x0403, plen := 2, who := .any } h s x → n ≠ x.id →
    Does (.txnAbort h n) s fun t => Answers h s t .state [] [] ∧ ((t.fn h.fn).q h.queue).txn = some x) ∧
  (∀ (h : CmdHdr) (s : State) (x : Txn), readyInTxn { op := 0x0402, plen := 2, who := .any } h s x → x.staged = [] →
    Does (.txnCommit h x.id) s fun t => Answers h s t .ok [] [] ∧ MailboxFrame h s t ∧ LoupeFrame h s t ∧ MgmtFrame { s with mgmt := { s.mgmt with setGen := (s.mgmt.setGen + 1) % 2 ^ 32 } } t ∧ t = { s with mbx := t.mbx, mgmt := t.mgmt, loupe := t.loupe } ∧
      ((t.fn h.fn).q h.queue).txn = none) ∧
  (∀ (h : CmdHdr) (s : State) (x : Txn) (r p d : Nat), readyInTxn { op := 0x0402, plen := 2, who := .any } h s x → x.staged = [.ensSetSlew (hdr0 h 4) r, .claspSetSwap (hdr0 h 8) p d] → h.fn = 0 → s.paired = false → 1 ≤ r → r ≤ 10000 → p ≤ 90 → d ≤ 86399 →
    Does (.txnCommit h x.id) s fun t => Answers h s t .ok [] [] ∧ MailboxFrame h s t ∧ LoupeFrame h s t ∧ MgmtFrame { s with mgmt := { s.mgmt with setGen := (s.mgmt.setGen + 1) % 2 ^ 32 } } t ∧ ((t.fn h.fn).q h.queue).txn = none ∧
      t = { s with mbx := t.mbx, mgmt := t.mgmt, loupe := t.loupe, tc := { s.tc with slewRate := r }, clasp := { s.clasp with swapPeriod := p, swapSecond := d } }) ∧
  (∀ (h : CmdHdr) (s : State) (x : Txn) (r p d : Nat), readyInTxn { op := 0x0402, plen := 2, who := .any } h s x → x.staged = [.ensSetSlew (hdr0 h 4) r, .claspSetSwap (hdr0 h 8) p d] → h.fn = 0 → s.paired = false → 1 ≤ r → r ≤ 10000 → 90 < p →
    Does (.txnCommit h x.id) s fun t => Answers h s t .arg [fld 8 1] [] ∧ t = { s with mbx := t.mbx, mgmt := t.mgmt, loupe := t.loupe } ∧ MgmtFrame s t ∧ ((t.fn h.fn).q h.queue).txn = none) ∧
  (∀ (h : CmdHdr) (s : State) (n : Nat), ready { op := 0x0404, plen := 1, who := .any } h s → n < 64 → ((s.fn h.fn).sems.look {} n).st = .free ∨ ((s.fn h.fn).sems.look {} n).st = .abandoned →
    Does (.txnAcquireLock h n) s fun t => Answers h s t (if ((s.fn h.fn).sems.look {} n).st = .free then .ok else .abandoned) [fld 16 ((((s.fn h.fn).sems.look {} n).gen + 1) % 65536)] [] ∧ MgmtFrame s t ∧
      (t.fn h.fn).sems.look {} n = { st := .held, owner := h.queue, gen := (((s.fn h.fn).sems.look {} n).gen + 1) % 65536 } ∧ (∀ k, k ≠ n → (t.fn h.fn).sems.look {} k = (s.fn h.fn).sems.look {} k) ∧ t = { s with mbx := t.mbx, mgmt := t.mgmt, loupe := t.loupe }) ∧
  (∀ (h : CmdHdr) (s : State) (n : Nat), ready { op := 0x0404, plen := 1, who := .any } h s → n < 64 → ((s.fn h.fn).sems.look {} n).st = .held → Does (.txnAcquireLock h n) s fun t => Answers h s t .busy [] [] ∧ (t.fn h.fn).sems = (s.fn h.fn).sems) ∧
  (∀ (h : CmdHdr) (s : State) (n g : Nat), ready { op := 0x0405, plen := 4, who := .any } h s → n < 64 → (s.fn h.fn).sems.look {} n = { st := .held, owner := h.queue, gen := g } →
    Does (.txnReleaseLock h n g) s fun t => Answers h s t .ok [] [] ∧ MgmtFrame s t ∧ (t.fn h.fn).sems.look {} n = { st := .free, owner := 0, gen := g } ∧ (∀ k, k ≠ n → (t.fn h.fn).sems.look {} k = (s.fn h.fn).sems.look {} k) ∧ t = { s with mbx := t.mbx, mgmt := t.mgmt, loupe := t.loupe }) ∧
  (∀ (h : CmdHdr) (s : State) (n g : Nat), ready { op := 0x0405, plen := 4, who := .any } h s → n < 64 → (((s.fn h.fn).sems.look {} n).st ≠ .held ∨ ((s.fn h.fn).sems.look {} n).owner ≠ h.queue ∨ ((s.fn h.fn).sems.look {} n).gen ≠ g) →
    Does (.txnReleaseLock h n g) s fun t => Answers h s t .state [] [] ∧ (t.fn h.fn).sems = (s.fn h.fn).sems)

/-- fault.clear removes from a sticky word the bits of the mask whose source reads no error, and no others; fault.read returns the sticky and the live words. log.read returns entries from FIRST in ascending order and where to go on; log.read_status the range of the ring. nv.reset_config with its code takes effect at the next device reset; nv.read_status returns the banks and generations. Reads change nothing. Each of these answers a next state with its effect, under conditions on the state and the operands alone: faultClear, faultRead, logRead, logReadStatus, nvResetConfig, nvReadStatus. (R20, R485, R502, R503, R504, R505, R520) -/
def Obligations.FaultLogAndStoreCommands : Prop :=
  (∀ (h : CmdHdr) (s : State) (w : Nat) (m : BitVec 32), ready { op := 0x4101, plen := 8, action := true } h s → w < 16 →
    Does (.faultClear h w m) s fun t => Completes h s { s with fault := t.fault } t [] [] ∧ t.fault = { s.fault with sticky := t.fault.sticky, logged := t.fault.logged } ∧ t.fault.sticky.look 0 w = s.fault.sticky.look 0 w &&& ~~~(m &&& ~~~(s.fault.live.look 0 w)) ∧
      (∀ k, k ≠ w → t.fault.sticky.look 0 k = s.fault.sticky.look 0 k)) ∧
  (∀ (h : CmdHdr) (s : State), ready { op := 0x4141, xbOut := true } h s → 128 ≤ h.xlen →
    Does (.faultRead h) s fun t => Completes h s s t [] (((List.range 16).map fun i => fld 32 (s.fault.sticky.look 0 i).toNat) ++ ((List.range 16).map fun i => fld 32 (s.fault.live.look 0 i).toNat))) ∧
  (∀ (h : CmdHdr) (s : State) (a m : Nat), ready { op := 0x4241, plen := 8, xbOut := true } h s → ((s.mgmt.log.filter fun e => decide (a ≤ e.lseq)).take m).length * 64 ≤ h.xlen → (s.mgmt.log.all fun e => decide (e.detail.bits ≤ 192)) = true →
    Does (.logRead h a m) s fun t => Completes h s s t [fld 32 ((((s.mgmt.log.filter fun e => decide (a ≤ e.lseq)).take m).getLast?.map fun e => (e.lseq + 1) % 2 ^ 32).getD a)] (((s.mgmt.log.filter fun e => decide (a ≤ e.lseq)).take m).flatMap logRecord)) ∧
  (∀ (h : CmdHdr) (s : State), ready { op := 0x4242 } h s →
    Does (.logReadStatus h) s fun t => Completes h s s t [fld 32 ((s.mgmt.log.head?.map (·.lseq)).getD s.mgmt.lseq), fld 32 ((s.mgmt.log.getLast?.map (·.lseq)).getD s.mgmt.lseq), fld 32 s.mgmt.coalesced] []) ∧
  (∀ (h : CmdHdr) (s : State) (c : Nat), ready { op := 0x4301, plen := 4, action := true } h s → c = s.mbx.epoch ^^^ 0x43464721 →
    Does (.nvResetConfig h c) s fun t => Answers h s t .ok [] [] ∧ MailboxFrame h s t ∧ LoupeFrame h s t ∧ MgmtFrame { s with mgmt := { s.mgmt with nvReset := true } } t ∧ t = { s with mgmt := t.mgmt, mbx := t.mbx, loupe := t.loupe }) ∧
  (∀ (h : CmdHdr) (s : State) (c : Nat), ready { op := 0x4301, plen := 4, action := true } h s → c ≠ s.mbx.epoch ^^^ 0x43464721 → Does (.nvResetConfig h c) s fun t => Answers h s t .arg [] [] ∧ t.mgmt.nvReset = s.mgmt.nvReset) ∧
  (∀ (h : CmdHdr) (s : State), ready { op := 0x4341, xbOut := true } h s → 40 + 16 * s.mgmt.recs.length ≤ h.xlen →
    Does (.nvReadStatus h) s fun t => Completes h s s t [] (lastXb h t) ∧ (lastXb h t).take 3 = [fld 8 (b01 (s.mgmt.banks.look {} 0).readOnly), rsv 24, fld 32 (s.mgmt.banks.look {} 0).wear])

/-- state.read_object returns the vault's record, an ownership record, or the record of the state of a block, with its change count; state.list_classes the classes. loupe.grant_bank gives a bank to the bezel it belongs to or takes it back with its armed interrupts; loupe.set_bank changes mode and clears the derived positions; loupe.preset writes a counter and arms its interrupt; loupe.read returns counters as they stand. A window that ends writes the derived values and starts the next. Each of these answers a next state with its effect, under conditions on the state and the operands alone: stateReadObject, stateListClasses, loupeGrantBank, loupeSetBank, loupePreset, loupeRead, loupeWindowEnd. (R47, R476, R514, R536, R540, R541, R542, R543, R544, R545, R557) -/
def Obligations.StateAndLoupeCommands : Prop :=
  (∀ (h : CmdHdr) (s : State), ready { op := 0x0341, plen := 8, who := .any, xbOut := true } h s → h.fn = 0 → 16 ≤ h.xlen →
    Does (.stateReadObject h Config.powerClass 0) s fun t => Completes h s s t [fld 32 (s.mbx.objGen.look 0 (objKey 3 0))] [bit s.pwr.kek, bit s.isSealed, bit (s.pwr.present != 0), bit s.pwr.vbatOk, bit s.alive, rsv 3, fld 4 s.pwr.latch.toNat, rsv 4, fld 16 s.pwr.vgen, fld 32 s.pwr.tcount, fld 8 s.pwr.cause, rsv 56]) ∧
  (∀ (h : CmdHdr) (s : State) (i k n : Nat), ready { op := 0x0341, plen := 8, who := .any, xbOut := true } h s → h.fn = 0 → 16 ≤ h.xlen → resourceOf i = some (k, n) →
    Does (.stateReadObject h Config.ownershipClass i) s fun t => (Config.ownershipClass ≠ Config.powerClass → Completes h s s t [fld 32 (s.mbx.objGen.look 0 (s.holder k n).2.2)] (s.ownershipRecord k n))) ∧
  (∀ (h : CmdHdr) (s : State) (i n : Nat) (x : Block), ready { op := 0x0341, plen := 8, who := .any, xbOut := true } h s → h.fn = 0 → i < 20 → i ≠ 2 → s.blocks[i]? = some x →
    Does (.stateReadObject h (Config.blockClass i) n) s fun t =>
      (n < (Config.blockShape i).2 → (Config.blockShape i).1 ≤ h.xlen → Config.blockClass i ≠ Config.powerClass → Config.blockClass i ≠ Config.ownershipClass →
        (∀ j, j < i → Config.blockClass j ≠ Config.blockClass i) →
        Completes h s s t [fld 32 (s.mbx.objGen.look 0 (objKey (Config.blockClass i) n))] [fld (8 * (Config.blockShape i).1) (Config.blockRecord n x)])) ∧
  (∀ (h : CmdHdr) (s : State), ready { op := 0x0342, who := .any, xbOut := true } h s →
    Does (.stateListClasses h) s fun t => (8 * stateClasses.length ≤ h.xlen → Completes h s s t [fld 16 stateClasses.length] (stateClasses.flatMap fun c => [fld 16 c.1, fld 16 c.2.1, fld 32 c.2.2]))) ∧
  (∀ (h : CmdHdr) (s : State) (b z : Nat), ready { op := 0x4001, plen := 4 } h s → b < 320 → loupeGrantable s b z = true → ((s.loupe.banks.look {} b).grantee = none ∨ (s.loupe.banks.look {} b).grantee = some z) →
    Does (.loupeGrantBank h b z 1) s fun t => Answers h s t .ok [] [] ∧ MailboxFrame h s t ∧ MgmtFrame s t ∧ t = { s with loupe := t.loupe, mbx := t.mbx, mgmt := t.mgmt } ∧ t.loupe.banks.look {} b = { s.loupe.banks.look {} b with grantee := some z } ∧
      (∀ k, k ≠ b → t.loupe.banks.look {} k = s.loupe.banks.look {} k)) ∧
  (∀ (h : CmdHdr) (s : State) (b z : Nat), ready { op := 0x4001, plen := 4 } h s → b < 320 → loupeGrantable s b z = true →
    Does (.loupeGrantBank h b z 0) s fun t => Answers h s t .ok [] [] ∧ MailboxFrame h s t ∧ MgmtFrame s t ∧ t.loupe.banks.look {} b = { s.loupe.banks.look {} b with grantee := none } ∧ (t.loupe.armed.all fun p => p.1 / 32 != b) = true ∧
      (∀ k, k ≠ b → t.loupe.banks.look {} k = s.loupe.banks.look {} k)) ∧
  (∀ (h : CmdHdr) (s : State) (b m w : Nat), ready { op := 0x4002, plen := 8 } h s → b < 320 → m ≤ 2 → (m = 0 ∨ 1 ≤ w ∧ w ≤ 10000) → (m = 1 → b < 256) → (m = 2 → 256 ≤ b) →
    Does (.loupeSetBank h b m w) s fun t => Answers h s t .ok [] [] ∧ MailboxFrame h s t ∧ MgmtFrame s t ∧ t = { s with loupe := t.loupe, mbx := t.mbx, mgmt := t.mgmt } ∧ (t.loupe.banks.look {} b).mode = m ∧ (t.loupe.banks.look {} b).window = w ∧
      (t.loupe.banks.look {} b).grantee = (s.loupe.banks.look {} b).grantee ∧ ((s.loupe.banks.look {} b).mode ≠ m → ∀ i, i < 8 → b * 32 + 24 + i ≠ (256 + h.fn) * 32 + 28 → t.loupe.ctr.look 0 (b * 32 + 24 + i) = 0) ∧
      (∀ i, i / 32 ≠ b ∨ i % 32 < 24 → i ≠ (256 + h.fn) * 32 + 28 → t.loupe.ctr.look 0 i = s.loupe.ctr.look 0 i)) ∧
  (∀ (h : CmdHdr) (s : State) (c q v x : Nat), ready { op := 0x4003, plen := 16, who := .granted, action := true } h s → c < 10240 → q ≤ 1 → v < 64 → x < 2 ^ 48 → loupePresetOwn h s c = true → (24 ≤ c % 32 → (s.loupe.banks.look {} (c / 32)).mode = 0) →
    Does (.loupePreset h c q v x) s fun t => Answers h s t .ok [] [] ∧ MailboxFrame h s t ∧ MgmtFrame s t ∧ t = { s with loupe := t.loupe, mbx := t.mbx, mgmt := t.mgmt } ∧ t.loupe.banks = s.loupe.banks ∧ (c ≠ (256 + h.fn) * 32 + 28 → t.loupe.ctr.look 0 c = x) ∧
      (c ≠ (256 + h.fn) * 32 + 28 → (t.loupe.armed.find? fun p => p.1 = c) = (if q = 1 then some (c, { fn := h.fn, vector := v }) else none)) ∧ (∀ i, i ≠ c → i ≠ (256 + h.fn) * 32 + 28 → t.loupe.ctr.look 0 i = s.loupe.ctr.look 0 i)) ∧
  (∀ (h : CmdHdr) (s : State) (a n : Nat), ready { op := 0x4041, plen := 4, who := .granted, xbOut := true } h s → 1 ≤ n → n ≤ 1024 → a + n ≤ 10240 → (h.fn = 0 ∨ ((List.range n).all fun i => decide ((s.loupe.banks.look {} ((a + i) / 32)).grantee = some h.fn)) = true) → 8 * n ≤ h.xlen →
    Does (.loupeRead h a n) s fun t => Completes h s s t [] ((List.range n).map fun i => [fld 48 (s.loupe.ctr.look 0 (a + i)), rsv 16]).flatten) ∧
  (∀ (s : State) (b : Nat) (k : LoupeBank), s.alive = true → s.loupe.banks.look {} b = k → k.mode = 1 → k.window ≠ 0 → (s.tc.snap.sec * 1000 + s.tc.snap.ns / 1000000) % k.window = 0 →
    Does (.loupeWindowEnd b) s fun t => t = { s with loupe := { s.loupe with ctr := t.loupe.ctr, banks := t.loupe.banks } } ∧ t.loupe.banks.look {} b = { k with acc := [], windows := k.windows + 1 } ∧
      (∀ i, i < 4 → t.loupe.ctr.look 0 (b * 32 + 24 + i) = k.acc.look 0 i % 2 ^ 48) ∧ t.loupe.ctr.look 0 (b * 32 + 28) = max (s.loupe.ctr.look 0 (b * 32 + 28)) (k.acc.look 0 0) % 2 ^ 48 ∧ t.loupe.ctr.look 0 (b * 32 + 30) = (k.windows + 1) % 2 ^ 48 ∧
      t.loupe.ctr.look 0 (b * 32 + 31) = (s.tc.snap.sec * 1000 + s.tc.snap.ns / 1000000) % 2 ^ 48 ∧ (∀ i, i < b * 32 + 24 ∨ b * 32 + 32 ≤ i → t.loupe.ctr.look 0 i = s.loupe.ctr.look 0 i)) ∧
  (∀ (s : State) (k : LoupeBank), s.alive = true → s.loupe.banks.look {} 256 = k → k.mode = 2 → k.window ≠ 0 → (s.tc.snap.sec * 1000 + s.tc.snap.ns / 1000000) % k.window = 0 →
    Does (.loupeWindowEnd 256) s fun t => t.loupe.ctr.look 0 8216 = (k.acc.look 0 4 + k.acc.look 0 5 + k.acc.look 0 6 + k.acc.look 0 7) % 2 ^ 48 ∧ t.loupe.ctr.look 0 8217 = k.acc.look 0 1 % 2 ^ 48 ∧ t.loupe.ctr.look 0 8219 = k.acc.look 0 3 % 2 ^ 48 ∧
      t.loupe.ctr.look 0 8218 = (300000 * k.window - (k.acc.look 0 4 + k.acc.look 0 5 + k.acc.look 0 6 + k.acc.look 0 7 + k.acc.look 0 1 + k.acc.look 0 3)) % 2 ^ 48) ∧
  (∀ (s : State) (b : Nat), s.alive = true → ((s.loupe.banks.look {} b).mode = 0 ∨ (s.loupe.banks.look {} b).window = 0 ∨ (s.tc.snap.sec * 1000 + s.tc.snap.ns / 1000000) % (s.loupe.banks.look {} b).window ≠ 0) → Does (.loupeWindowEnd b) s fun t => t = s)

/-- For every command and state with that command at the front of the queue, a step is the command's own effect on the state whose queue is the rest. The queue itself is the model's form, first in, first out. (R452, R453) -/
def Obligations.StepRunsFrontCommand : Prop :=
  (∀ (c : Instr) (r : List Instr) (s : State), s.pending = c :: r → step s = exec c { s with pending := r })

/-- The model's choice (assumption 1): a step on an empty queue lets one time-clock cycle pass. The counter advances by 1677722 or 1677721 units in the pattern of five, and by 8 units for every carry of the residue, to which the frequency word is added. A counter that does not run, or one that has reached the cycle of a pending step, stays. (R52, R53, R69) -/
def Obligations.IdleStepIsOneTimeClockCycle : Prop :=
  (∀ (s : State), s.pending = [] → s.alive = true → s.tc.mtc.running = true → s.tc.step = none → s.tc.mtc.slew = none → s.tc.mtc.units + 2 ^ 22 < 2 ^ 48 * unitsPerSec → s.tc.mtc.freq.natAbs ≤ 2 ^ 47 → s.tc.mtc.res.natAbs < 343597383680 →
    ∃ t, step s = .next t ∧ (t.tc.mtc.units : Int) = s.tc.mtc.units + (if (s.tc.mtc.k + 1) % 5 < 3 then 1677722 else 1677721) + 8 * ((s.tc.mtc.res + s.tc.mtc.freq).tdiv 343597383680) ∧
      t.tc.mtc.res = (s.tc.mtc.res + s.tc.mtc.freq).tmod 343597383680 ∧ t.tc.mtc.k = (s.tc.mtc.k + 1) % 5 ∧ t = { s with tc := t.tc } ∧ t.tc = { s.tc with mtc := t.tc.mtc, snap := t.tc.snap }) ∧
  (∀ (s : State), s.pending = [] → s.tc.mtc.running = false ∨ s.alive = false → step s = .next s) ∧
  (∀ (s : State) (p : PendStep), s.pending = [] → s.tc.step = some p → p.due * unitsPerSec ≤ s.tc.mtc.units → step s = .next s)

/-- After a power-on reset the device is in BOOT with the counter at zero and stopped, the mailbox not ready and every queue disabled; the Time Core is not in a served state, no port transmits, no counter has counted and nothing is waiting. The invariant of the machine holds. (R14, R52, R446, R535, R550, R552, R553, R554) -/
def Obligations.ResetMeetsTheInvariant : Prop :=
  Inv State.reset ∧ State.reset.pending = [] ∧ State.reset.pwr.st = .boot ∧ (State.reset.tc.mtc.sec, State.reset.tc.mtc.ns, State.reset.tc.mtc.frac, State.reset.tc.mtc.running) = (0, 0, 0, false) ∧ State.reset.mbx.ready = false ∧
  (∀ b q, ((State.reset.fn b).q q).en = false ∧ (State.reset.fn b).cplEn = false ∧ (State.reset.fn b).evtEn = false) ∧ (∀ p, (State.reset.port p).st = .disabled) ∧ (∀ i, State.reset.loupe.ctr.look 0 i = 0) ∧ State.reset.fault.fatal = false ∧
  (∀ r, (State.reset.inp r).st = .off) ∧ State.reset.pwr.cause = 0

/-- From every state in which the master time counter holds a time word, with NS below 10^9, FRAC of 20 bits and SEC of 48 bits, every step that answers a next state leaves it a time word: cycles, slews, step cycles, join steps and resets included. (R14, R28, R52, R55, R68, R69) -/
def Obligations.StepKeepsTheInvariant : Prop :=
  (∀ (s t : State), Inv s → step s = .next t → Inv t)

/-- No command changes the queue of waiting commands, the device's identity or its hardware revision, and none unseals a sealed device. No command but clock cycles, the step cycle, the join step and the resets changes the value of the master time counter: a reference, a mailbox command or a failure never drives it directly. (R26, R27, R52, R69, R562, R563) -/
def Obligations.WhatNoCommandChanges : Prop :=
  (∀ (c : Instr) (s t : State), exec c s = .next t → t.pending = s.pending) ∧
  (∀ (c : Instr) (s t : State), exec c s = .next t → t.mgmt.deviceId = s.mgmt.deviceId ∧ t.mgmt.hwRev = s.mgmt.hwRev) ∧
  (∀ (c : Instr) (s t : State), exec c s = .next t → s.isSealed = true → t.isSealed = true) ∧
  (∀ (c : Instr) (s t : State), exec c s = .next t → movesTime c = false → t.tc.mtc.sec = s.tc.mtc.sec ∧ t.tc.mtc.ns = s.tc.mtc.ns ∧ t.tc.mtc.frac = s.tc.mtc.frac)

/-- A mailbox command whose checks give a code other than OK and E_ABANDONED completes with it, and outside the mailboxes, the log and the counters nothing changes; a violation that freezes its issuer sets the function frozen, and every command of a frozen function completes with E_FROZEN. With a transaction open a stageable command is staged and takes no effect. At the ACTIVE unit of a pair a command that changes mirrored state waits. (R23, R24, R44, R45, R408, R433, R454, R463, R471, R472) -/
def Obligations.LifeOfACommand : Prop :=
  (∀ (i : Instr) (s : State) (h : CmdHdr) (m : CmdMeta) (j : Judged), judged i s = some (h, m, j) → j.effects = false → ((s.fn h.fn).q h.queue).inflight = [] →
    Does i s fun t => Answers h s t j.status j.result [] ∧ t = { s with mbx := t.mbx, mgmt := t.mgmt, loupe := t.loupe } ∧ ((t.fn h.fn).q h.queue).txn = ((s.fn h.fn).q h.queue).txn ∧ (t.fn h.fn).frozen = ((s.fn h.fn).frozen || j.freeze.isSome)) ∧
  (∀ (i : Instr) (s : State) (h : CmdHdr) (m : CmdMeta) (j : Judged), judged i s = some (h, m, j) → s.bezelServes h.fn = true → (s.fn h.fn).frozen = true → j = { status := .frozen }) ∧
  (∀ (i : Instr) (s : State) (h : CmdHdr) (m : CmdMeta) (j : Judged) (x : Txn), judged i s = some (h, m, j) → j.effects = true → staging m h s = true → ((s.fn h.fn).q h.queue).inflight = [] → ((s.fn h.fn).q h.queue).txn = some x → x.staged.length < 64 →
    Does i s fun t => t = { s with mbx := t.mbx, mgmt := t.mgmt, loupe := t.loupe } ∧ ((t.fn h.fn).q h.queue).txn = some { x with staged := x.staged ++ [i] } ∧ ((t.fn h.fn).cplQ.getLast?.map fun c => (c.tag, c.status, c.staged)) = some (h.tag, .ok, true)) ∧
  (∀ (i : Instr) (s : State) (h : CmdHdr) (m : CmdMeta) (j : Judged), judged i s = some (h, m, j) → j.effects = true → staging m h s = false → m.mirrored = true → s.clasp.st = .active → ((s.fn h.fn).q h.queue).inflight = [] →
    Does i s fun t => t = { s with mbx := t.mbx, clasp := { s.clasp with mirror := t.clasp.mirror } } ∧ (t.clasp.mirror.map (·.cmds)) = (s.clasp.mirror.map (·.cmds)) ++ [[i]] ∧ (t.fn h.fn).cplQ = (s.fn h.fn).cplQ ∧ (((t.fn h.fn).q h.queue).inflight.map (·.begun)) = [true])

/-- A commit waits, changing neither table, no credit and no counter. In the cycle in which the pointer next reaches entry 0, table and weights of the shadow become active together, no counter changes, and credits change only as the entry passed grants; before it, nothing becomes active. A second commit before that completes with E_BUSY and changes nothing. (R392) -/
def Obligations.CommitTakesTheShadowAtEntryZero : Prop :=
  (∀ (h : CmdHdr) (s : State), ready { op := 0x2503, mirrored := true, action := true } h s → s.sta.commit = false → Executes (.staCommit h) h s { s with sta := { s.sta with commit := true } } [] []) ∧
  (∀ (s : State), s.alive = true → s.sta.commit = true → s.sta.pointer = 511 →
    Does (.staPointerAdvance 1) s fun t => t.sta.pointer = 0 ∧ t.sta.active = s.sta.shadow ∧ t.sta.shadow = s.sta.shadow ∧ t.sta.commit = false ∧ t.sta.counter = s.sta.counter ∧ t.sta.credit = s.passEntry.sta.credit ∧ t = { s with sta := t.sta }) ∧
  (∀ (s : State) (n : Nat), s.alive = true → s.sta.commit = true → s.sta.pointer + n < 512 →
    Does (.staPointerAdvance n) s fun t => t.sta.pointer = s.sta.pointer + n ∧ t.sta.active = s.sta.active ∧ t.sta.shadow = s.sta.shadow ∧ t.sta.commit = true ∧ t.sta.counter = s.sta.counter) ∧
  (∀ (s : State), s.alive = true → s.sta.commit = true → s.sta.pointer = 0 → Does .staCommitEffect s fun t => t = { s with sta := { s.sta with active := s.sta.shadow, commit := false } }) ∧
  (∀ (h : CmdHdr) (s : State), ready { op := 0x2503, mirrored := true, action := true } h s → s.sta.commit = true → Does (.staCommit h) s fun t => Answers h s t .busy [] [] ∧ t.sta = s.sta)

/-- For any bezel, key.random with LEN 1 to 256 completes with that many bytes of a request made of DRBG unit LK and of no other; the bytes are a free value. Any other LEN completes with E_ARG. (R346) -/
def Obligations.RandomBytesFromLK : Prop :=
  (∀ (h : CmdHdr) (s : State) (n : Nat), ready { op := 0x2243, plen := 2, who := .any, xbOut := true } h s → 1 ≤ n → n ≤ 256 → n ≤ h.xlen → (s.keys.drbgs.look {} 0).error = false →
    Does (.keyRandom h n) s fun t => Answers h s t .ok [] [fld (8 * n) (Config.randomBytes n s.free)] ∧ (t.keys.drbgs.look {} 0).requests = (s.keys.drbgs.look {} 0).requests + 1 ∧ (∀ k, k ≠ 0 → t.keys.drbgs.look {} k = s.keys.drbgs.look {} k) ∧
      t = { s with keys := { s.keys with drbgs := t.keys.drbgs }, free := s.free + 1, mbx := t.mbx, mgmt := t.mgmt, loupe := t.loupe }) ∧
  (∀ (h : CmdHdr) (s : State) (n : Nat), ready { op := 0x2243, plen := 2, who := .any, xbOut := true } h s → n = 0 ∨ 256 < n → Does (.keyRandom h n) s fun t => Answers h s t .arg [] [] ∧ t.keys = s.keys)
end

