-- ==== Sys2Proof/Laws/Clock.lean ====
section
/-! SUPPORT. What the running clock changes: the counter and the snapshot, nothing else. -/

namespace Sys2Proof.Machine

theorem snapAt_frame (s : State) (a b : Nat) : s.snapAt a b = { s with tc := { s.tc with snap := (s.snapAt a b).tc.snap } } := by
  unfold State.snapAt
  dsimp only
  split <;> rfl

/-- While the clock runs, n cycles move the counter by the cycles that precede a pending step. -/
theorem runClock_frame (s : State) (n : Nat) (ha : s.alive = true) (hr : s.tc.mtc.running = true) :
    s.runClock n = { s with tc := { s.tc with mtc := s.tc.mtc.run (s.cyclesToStep n), snap := (s.runClock n).tc.snap } } := by
  unfold State.runClock
  simp only [ha, hr, Bool.not_true, Bool.or_self, Bool.false_eq_true, if_false]
  exact snapAt_frame _ _ _

/-- A clock that does not run stays. -/
theorem runClock_stopped (s : State) (n : Nat) (h : s.alive = false ∨ s.tc.mtc.running = false) : s.runClock n = s := by
  unfold State.runClock
  rcases h with h | h <;> simp [h]

end Sys2Proof.Machine
end

