-- ==== Sys2Proof/Laws/Ops.lean ====
section
/-! SUPPORT. Laws of the shared operations over sparse tables, functions and command queues. -/

namespace Sys2Proof

@[simp] theorem Tab.look_nil {α : Type} (d : α) (i : Nat) : Tab.look ([] : Tab α) d i = d := rfl

theorem Tab.look_put {α : Type} (t : Tab α) (d : α) (i j : Nat) (a : α) :
    (t.put i a).look d j = if i = j then a else t.look d j := by
  induction t with
  | nil => simp [Tab.put, Tab.look]
  | cons p r ih =>
    obtain ⟨k, b⟩ := p
    simp only [Tab.put]
    split
    · next h => subst h; simp only [Tab.look]; split <;> rfl
    · split
      · simp only [Tab.look]
      · simp only [Tab.look, ih]
        split
        · next h1 h2 h3 => subst h3; rw [if_neg (fun e => h1 e.symm)]
        · rfl

@[simp] theorem Tab.look_put_self {α : Type} (t : Tab α) (d : α) (i : Nat) (a : α) : (t.put i a).look d i = a := by
  rw [Tab.look_put, if_pos rfl]

theorem Tab.look_put_other {α : Type} (t : Tab α) (d : α) {i j : Nat} (a : α) (h : i ≠ j) : (t.put i a).look d j = t.look d j := by
  rw [Tab.look_put, if_neg h]

theorem Tab.look_upd {α : Type} (t : Tab α) (d : α) (i j : Nat) (f : α → α) :
    (t.upd d i f).look d j = if i = j then f (t.look d i) else t.look d j := Tab.look_put _ _ _ _ _

@[simp] theorem Tab.look_upd_self {α : Type} (t : Tab α) (d : α) (i : Nat) (f : α → α) : (t.upd d i f).look d i = f (t.look d i) :=
  Tab.look_put_self _ _ _ _

theorem Tab.look_upd_other {α : Type} (t : Tab α) (d : α) {i j : Nat} (f : α → α) (h : i ≠ j) : (t.upd d i f).look d j = t.look d j :=
  Tab.look_put_other _ _ _ h

theorem Tab.mem_put_self {α : Type} (t : Tab α) (i : Nat) (a : α) : (i, a) ∈ t.put i a := by
  induction t with
  | nil => simp [Tab.put]
  | cons p r ih =>
    obtain ⟨k, b⟩ := p
    simp only [Tab.put]
    split
    · exact List.mem_cons_self
    · split
      · exact List.mem_cons_self
      · exact List.mem_cons_of_mem _ ih

/-- A write keeps every entry but the one it replaces. -/
theorem Tab.mem_put_of_mem {α : Type} (t : Tab α) (d : α) (i : Nat) (a : α) {p : Nat × α} (h : p ∈ t) :
    p ∈ t.put i a ∨ p = (i, t.look d i) := by
  induction t with
  | nil => cases h
  | cons q r ih =>
    obtain ⟨k, b⟩ := q
    simp only [Tab.put, Tab.look]
    split
    · next e =>
      subst e
      rcases List.mem_cons.1 h with rfl | h
      · exact Or.inr rfl
      · exact Or.inl (List.mem_cons_of_mem _ h)
    · split
      · exact Or.inl (List.mem_cons_of_mem _ h)
      · rcases List.mem_cons.1 h with rfl | h
        · exact Or.inl List.mem_cons_self
        · exact (ih h).imp (List.mem_cons_of_mem _) id

/-- What holds of every entry and of what is written holds of every entry after the write. -/
theorem Tab.forall_put {α : Type} (P : α → Prop) (t : Tab α) (i : Nat) (a : α) (ht : ∀ p ∈ t, P p.2) (ha : P a) :
    ∀ p ∈ t.put i a, P p.2 := by
  induction t with
  | nil =>
    intro p hp
    rw [Tab.put, List.mem_singleton] at hp
    exact hp ▸ ha
  | cons q r ih =>
    obtain ⟨k, b⟩ := q
    have hr : ∀ p ∈ r, P p.2 := fun p hp => ht p (List.mem_cons_of_mem _ hp)
    intro p hp
    simp only [Tab.put] at hp
    split at hp
    · rcases List.mem_cons.1 hp with rfl | hp
      · exact ha
      · exact hr p hp
    · split at hp
      · rcases List.mem_cons.1 hp with rfl | hp
        · exact ha
        · exact ht p hp
      · rcases List.mem_cons.1 hp with rfl | hp
        · exact ht _ List.mem_cons_self
        · exact ih hr p hp

/-- What holds of every entry and of the value of an unlisted index holds of whatever is read. -/
theorem Tab.look_of_forall {α : Type} (P : α → Prop) (t : Tab α) (d : α) (i : Nat) (ht : ∀ p ∈ t, P p.2) (hd : P d) : P (t.look d i) := by
  induction t with
  | nil => exact hd
  | cons q r ih =>
    obtain ⟨k, b⟩ := q
    simp only [Tab.look]
    split
    · exact ht _ List.mem_cons_self
    · exact ih fun p hp => ht p (List.mem_cons_of_mem _ hp)

namespace Machine

theorem onFn_fn (s : State) (b c : Nat) (f : FnSt → FnSt) : (s.onFn b f).fn c = if b = c then f (s.fn b) else s.fn c := Tab.look_upd _ _ _ _ _

@[simp] theorem onFn_fn_self (s : State) (b : Nat) (f : FnSt → FnSt) : (s.onFn b f).fn b = f (s.fn b) := Tab.look_upd_self _ _ _ _

theorem onFn_fn_other (s : State) {b c : Nat} (f : FnSt → FnSt) (h : b ≠ c) : (s.onFn b f).fn c = s.fn c := Tab.look_upd_other _ _ _ h

@[simp] theorem onQueue_self (s : State) (b n : Nat) (f : CmdQueue → CmdQueue) : ((s.onQueue b n f).fn b).q n = f ((s.fn b).q n) := by
  simp only [State.onQueue, onFn_fn_self, FnSt.q, Tab.look_upd_self]

theorem onQueue_other (s : State) (b : Nat) {n k : Nat} (f : CmdQueue → CmdQueue) (h : n ≠ k) : ((s.onQueue b n f).fn b).q k = (s.fn b).q k := by
  simp only [State.onQueue, onFn_fn_self, FnSt.q, Tab.look_upd_other _ _ _ h]

end Machine
end Sys2Proof
end

