-- ==== Sys2Proof/Laws/State.lean ====
section
/-! SUPPORT. What each named update of the state changes and leaves unchanged: one lemma per field per update. -/

namespace Sys2Proof.Machine

@[simp] theorem onTc_tc (s : State) (f : TcSt → TcSt) : (s.onTc f).tc = f s.tc := rfl
@[simp] theorem onTc_hall (s : State) (f : TcSt → TcSt) : (s.onTc f).hall = s.hall := rfl
@[simp] theorem onTc_mbx (s : State) (f : TcSt → TcSt) : (s.onTc f).mbx = s.mbx := rfl
@[simp] theorem onTc_bez (s : State) (f : TcSt → TcSt) : (s.onTc f).bez = s.bez := rfl
@[simp] theorem onTc_pwr (s : State) (f : TcSt → TcSt) : (s.onTc f).pwr = s.pwr := rfl
@[simp] theorem onTc_mgmt (s : State) (f : TcSt → TcSt) : (s.onTc f).mgmt = s.mgmt := rfl
@[simp] theorem onTc_fault (s : State) (f : TcSt → TcSt) : (s.onTc f).fault = s.fault := rfl
@[simp] theorem onTc_loupe (s : State) (f : TcSt → TcSt) : (s.onTc f).loupe = s.loupe := rfl
@[simp] theorem onTc_clasp (s : State) (f : TcSt → TcSt) : (s.onTc f).clasp = s.clasp := rfl
@[simp] theorem onTc_ref (s : State) (f : TcSt → TcSt) : (s.onTc f).ref = s.ref := rfl
@[simp] theorem onTc_gnss (s : State) (f : TcSt → TcSt) : (s.onTc f).gnss = s.gnss := rfl
@[simp] theorem onTc_ens (s : State) (f : TcSt → TcSt) : (s.onTc f).ens = s.ens := rfl
@[simp] theorem onTc_fil (s : State) (f : TcSt → TcSt) : (s.onTc f).fil = s.fil := rfl
@[simp] theorem onTc_out (s : State) (f : TcSt → TcSt) : (s.onTc f).out = s.out := rfl
@[simp] theorem onTc_la (s : State) (f : TcSt → TcSt) : (s.onTc f).la = s.la := rfl
@[simp] theorem onTc_ports (s : State) (f : TcSt → TcSt) : (s.onTc f).ports = s.ports := rfl
@[simp] theorem onTc_tm (s : State) (f : TcSt → TcSt) : (s.onTc f).tm = s.tm := rfl
@[simp] theorem onTc_tse (s : State) (f : TcSt → TcSt) : (s.onTc f).tse = s.tse := rfl
@[simp] theorem onTc_sta (s : State) (f : TcSt → TcSt) : (s.onTc f).sta = s.sta := rfl
@[simp] theorem onTc_keys (s : State) (f : TcSt → TcSt) : (s.onTc f).keys = s.keys := rfl
@[simp] theorem onTc_free (s : State) (f : TcSt → TcSt) : (s.onTc f).free = s.free := rfl
@[simp] theorem onTc_pending (s : State) (f : TcSt → TcSt) : (s.onTc f).pending = s.pending := rfl
@[simp] theorem onHall_tc (s : State) (f : HallSt → HallSt) : (s.onHall f).tc = s.tc := rfl
@[simp] theorem onHall_hall (s : State) (f : HallSt → HallSt) : (s.onHall f).hall = f s.hall := rfl
@[simp] theorem onHall_mbx (s : State) (f : HallSt → HallSt) : (s.onHall f).mbx = s.mbx := rfl
@[simp] theorem onHall_bez (s : State) (f : HallSt → HallSt) : (s.onHall f).bez = s.bez := rfl
@[simp] theorem onHall_pwr (s : State) (f : HallSt → HallSt) : (s.onHall f).pwr = s.pwr := rfl
@[simp] theorem onHall_mgmt (s : State) (f : HallSt → HallSt) : (s.onHall f).mgmt = s.mgmt := rfl
@[simp] theorem onHall_fault (s : State) (f : HallSt → HallSt) : (s.onHall f).fault = s.fault := rfl
@[simp] theorem onHall_loupe (s : State) (f : HallSt → HallSt) : (s.onHall f).loupe = s.loupe := rfl
@[simp] theorem onHall_clasp (s : State) (f : HallSt → HallSt) : (s.onHall f).clasp = s.clasp := rfl
@[simp] theorem onHall_ref (s : State) (f : HallSt → HallSt) : (s.onHall f).ref = s.ref := rfl
@[simp] theorem onHall_gnss (s : State) (f : HallSt → HallSt) : (s.onHall f).gnss = s.gnss := rfl
@[simp] theorem onHall_ens (s : State) (f : HallSt → HallSt) : (s.onHall f).ens = s.ens := rfl
@[simp] theorem onHall_fil (s : State) (f : HallSt → HallSt) : (s.onHall f).fil = s.fil := rfl
@[simp] theorem onHall_out (s : State) (f : HallSt → HallSt) : (s.onHall f).out = s.out := rfl
@[simp] theorem onHall_la (s : State) (f : HallSt → HallSt) : (s.onHall f).la = s.la := rfl
@[simp] theorem onHall_ports (s : State) (f : HallSt → HallSt) : (s.onHall f).ports = s.ports := rfl
@[simp] theorem onHall_tm (s : State) (f : HallSt → HallSt) : (s.onHall f).tm = s.tm := rfl
@[simp] theorem onHall_tse (s : State) (f : HallSt → HallSt) : (s.onHall f).tse = s.tse := rfl
@[simp] theorem onHall_sta (s : State) (f : HallSt → HallSt) : (s.onHall f).sta = s.sta := rfl
@[simp] theorem onHall_keys (s : State) (f : HallSt → HallSt) : (s.onHall f).keys = s.keys := rfl
@[simp] theorem onHall_free (s : State) (f : HallSt → HallSt) : (s.onHall f).free = s.free := rfl
@[simp] theorem onHall_pending (s : State) (f : HallSt → HallSt) : (s.onHall f).pending = s.pending := rfl
@[simp] theorem onMbx_tc (s : State) (f : MbxSt → MbxSt) : (s.onMbx f).tc = s.tc := rfl
@[simp] theorem onMbx_hall (s : State) (f : MbxSt → MbxSt) : (s.onMbx f).hall = s.hall := rfl
@[simp] theorem onMbx_mbx (s : State) (f : MbxSt → MbxSt) : (s.onMbx f).mbx = f s.mbx := rfl
@[simp] theorem onMbx_bez (s : State) (f : MbxSt → MbxSt) : (s.onMbx f).bez = s.bez := rfl
@[simp] theorem onMbx_pwr (s : State) (f : MbxSt → MbxSt) : (s.onMbx f).pwr = s.pwr := rfl
@[simp] theorem onMbx_mgmt (s : State) (f : MbxSt → MbxSt) : (s.onMbx f).mgmt = s.mgmt := rfl
@[simp] theorem onMbx_fault (s : State) (f : MbxSt → MbxSt) : (s.onMbx f).fault = s.fault := rfl
@[simp] theorem onMbx_loupe (s : State) (f : MbxSt → MbxSt) : (s.onMbx f).loupe = s.loupe := rfl
@[simp] theorem onMbx_clasp (s : State) (f : MbxSt → MbxSt) : (s.onMbx f).clasp = s.clasp := rfl
@[simp] theorem onMbx_ref (s : State) (f : MbxSt → MbxSt) : (s.onMbx f).ref = s.ref := rfl
@[simp] theorem onMbx_gnss (s : State) (f : MbxSt → MbxSt) : (s.onMbx f).gnss = s.gnss := rfl
@[simp] theorem onMbx_ens (s : State) (f : MbxSt → MbxSt) : (s.onMbx f).ens = s.ens := rfl
@[simp] theorem onMbx_fil (s : State) (f : MbxSt → MbxSt) : (s.onMbx f).fil = s.fil := rfl
@[simp] theorem onMbx_out (s : State) (f : MbxSt → MbxSt) : (s.onMbx f).out = s.out := rfl
@[simp] theorem onMbx_la (s : State) (f : MbxSt → MbxSt) : (s.onMbx f).la = s.la := rfl
@[simp] theorem onMbx_ports (s : State) (f : MbxSt → MbxSt) : (s.onMbx f).ports = s.ports := rfl
@[simp] theorem onMbx_tm (s : State) (f : MbxSt → MbxSt) : (s.onMbx f).tm = s.tm := rfl
@[simp] theorem onMbx_tse (s : State) (f : MbxSt → MbxSt) : (s.onMbx f).tse = s.tse := rfl
@[simp] theorem onMbx_sta (s : State) (f : MbxSt → MbxSt) : (s.onMbx f).sta = s.sta := rfl
@[simp] theorem onMbx_keys (s : State) (f : MbxSt → MbxSt) : (s.onMbx f).keys = s.keys := rfl
@[simp] theorem onMbx_free (s : State) (f : MbxSt → MbxSt) : (s.onMbx f).free = s.free := rfl
@[simp] theorem onMbx_pending (s : State) (f : MbxSt → MbxSt) : (s.onMbx f).pending = s.pending := rfl
@[simp] theorem onBez_tc (s : State) (f : BezSt → BezSt) : (s.onBez f).tc = s.tc := rfl
@[simp] theorem onBez_hall (s : State) (f : BezSt → BezSt) : (s.onBez f).hall = s.hall := rfl
@[simp] theorem onBez_mbx (s : State) (f : BezSt → BezSt) : (s.onBez f).mbx = s.mbx := rfl
@[simp] theorem onBez_bez (s : State) (f : BezSt → BezSt) : (s.onBez f).bez = f s.bez := rfl
@[simp] theorem onBez_pwr (s : State) (f : BezSt → BezSt) : (s.onBez f).pwr = s.pwr := rfl
@[simp] theorem onBez_mgmt (s : State) (f : BezSt → BezSt) : (s.onBez f).mgmt = s.mgmt := rfl
@[simp] theorem onBez_fault (s : State) (f : BezSt → BezSt) : (s.onBez f).fault = s.fault := rfl
@[simp] theorem onBez_loupe (s : State) (f : BezSt → BezSt) : (s.onBez f).loupe = s.loupe := rfl
@[simp] theorem onBez_clasp (s : State) (f : BezSt → BezSt) : (s.onBez f).clasp = s.clasp := rfl
@[simp] theorem onBez_ref (s : State) (f : BezSt → BezSt) : (s.onBez f).ref = s.ref := rfl
@[simp] theorem onBez_gnss (s : State) (f : BezSt → BezSt) : (s.onBez f).gnss = s.gnss := rfl
@[simp] theorem onBez_ens (s : State) (f : BezSt → BezSt) : (s.onBez f).ens = s.ens := rfl
@[simp] theorem onBez_fil (s : State) (f : BezSt → BezSt) : (s.onBez f).fil = s.fil := rfl
@[simp] theorem onBez_out (s : State) (f : BezSt → BezSt) : (s.onBez f).out = s.out := rfl
@[simp] theorem onBez_la (s : State) (f : BezSt → BezSt) : (s.onBez f).la = s.la := rfl
@[simp] theorem onBez_ports (s : State) (f : BezSt → BezSt) : (s.onBez f).ports = s.ports := rfl
@[simp] theorem onBez_tm (s : State) (f : BezSt → BezSt) : (s.onBez f).tm = s.tm := rfl
@[simp] theorem onBez_tse (s : State) (f : BezSt → BezSt) : (s.onBez f).tse = s.tse := rfl
@[simp] theorem onBez_sta (s : State) (f : BezSt → BezSt) : (s.onBez f).sta = s.sta := rfl
@[simp] theorem onBez_keys (s : State) (f : BezSt → BezSt) : (s.onBez f).keys = s.keys := rfl
@[simp] theorem onBez_free (s : State) (f : BezSt → BezSt) : (s.onBez f).free = s.free := rfl
@[simp] theorem onBez_pending (s : State) (f : BezSt → BezSt) : (s.onBez f).pending = s.pending := rfl
@[simp] theorem onPwr_tc (s : State) (f : PwrSt → PwrSt) : (s.onPwr f).tc = s.tc := rfl
@[simp] theorem onPwr_hall (s : State) (f : PwrSt → PwrSt) : (s.onPwr f).hall = s.hall := rfl
@[simp] theorem onPwr_mbx (s : State) (f : PwrSt → PwrSt) : (s.onPwr f).mbx = s.mbx := rfl
@[simp] theorem onPwr_bez (s : State) (f : PwrSt → PwrSt) : (s.onPwr f).bez = s.bez := rfl
@[simp] theorem onPwr_pwr (s : State) (f : PwrSt → PwrSt) : (s.onPwr f).pwr = f s.pwr := rfl
@[simp] theorem onPwr_mgmt (s : State) (f : PwrSt → PwrSt) : (s.onPwr f).mgmt = s.mgmt := rfl
@[simp] theorem onPwr_fault (s : State) (f : PwrSt → PwrSt) : (s.onPwr f).fault = s.fault := rfl
@[simp] theorem onPwr_loupe (s : State) (f : PwrSt → PwrSt) : (s.onPwr f).loupe = s.loupe := rfl
@[simp] theorem onPwr_clasp (s : State) (f : PwrSt → PwrSt) : (s.onPwr f).clasp = s.clasp := rfl
@[simp] theorem onPwr_ref (s : State) (f : PwrSt → PwrSt) : (s.onPwr f).ref = s.ref := rfl
@[simp] theorem onPwr_gnss (s : State) (f : PwrSt → PwrSt) : (s.onPwr f).gnss = s.gnss := rfl
@[simp] theorem onPwr_ens (s : State) (f : PwrSt → PwrSt) : (s.onPwr f).ens = s.ens := rfl
@[simp] theorem onPwr_fil (s : State) (f : PwrSt → PwrSt) : (s.onPwr f).fil = s.fil := rfl
@[simp] theorem onPwr_out (s : State) (f : PwrSt → PwrSt) : (s.onPwr f).out = s.out := rfl
@[simp] theorem onPwr_la (s : State) (f : PwrSt → PwrSt) : (s.onPwr f).la = s.la := rfl
@[simp] theorem onPwr_ports (s : State) (f : PwrSt → PwrSt) : (s.onPwr f).ports = s.ports := rfl
@[simp] theorem onPwr_tm (s : State) (f : PwrSt → PwrSt) : (s.onPwr f).tm = s.tm := rfl
@[simp] theorem onPwr_tse (s : State) (f : PwrSt → PwrSt) : (s.onPwr f).tse = s.tse := rfl
@[simp] theorem onPwr_sta (s : State) (f : PwrSt → PwrSt) : (s.onPwr f).sta = s.sta := rfl
@[simp] theorem onPwr_keys (s : State) (f : PwrSt → PwrSt) : (s.onPwr f).keys = s.keys := rfl
@[simp] theorem onPwr_free (s : State) (f : PwrSt → PwrSt) : (s.onPwr f).free = s.free := rfl
@[simp] theorem onPwr_pending (s : State) (f : PwrSt → PwrSt) : (s.onPwr f).pending = s.pending := rfl
@[simp] theorem onMgmt_tc (s : State) (f : MgmtSt → MgmtSt) : (s.onMgmt f).tc = s.tc := rfl
@[simp] theorem onMgmt_hall (s : State) (f : MgmtSt → MgmtSt) : (s.onMgmt f).hall = s.hall := rfl
@[simp] theorem onMgmt_mbx (s : State) (f : MgmtSt → MgmtSt) : (s.onMgmt f).mbx = s.mbx := rfl
@[simp] theorem onMgmt_bez (s : State) (f : MgmtSt → MgmtSt) : (s.onMgmt f).bez = s.bez := rfl
@[simp] theorem onMgmt_pwr (s : State) (f : MgmtSt → MgmtSt) : (s.onMgmt f).pwr = s.pwr := rfl
@[simp] theorem onMgmt_mgmt (s : State) (f : MgmtSt → MgmtSt) : (s.onMgmt f).mgmt = f s.mgmt := rfl
@[simp] theorem onMgmt_fault (s : State) (f : MgmtSt → MgmtSt) : (s.onMgmt f).fault = s.fault := rfl
@[simp] theorem onMgmt_loupe (s : State) (f : MgmtSt → MgmtSt) : (s.onMgmt f).loupe = s.loupe := rfl
@[simp] theorem onMgmt_clasp (s : State) (f : MgmtSt → MgmtSt) : (s.onMgmt f).clasp = s.clasp := rfl
@[simp] theorem onMgmt_ref (s : State) (f : MgmtSt → MgmtSt) : (s.onMgmt f).ref = s.ref := rfl
@[simp] theorem onMgmt_gnss (s : State) (f : MgmtSt → MgmtSt) : (s.onMgmt f).gnss = s.gnss := rfl
@[simp] theorem onMgmt_ens (s : State) (f : MgmtSt → MgmtSt) : (s.onMgmt f).ens = s.ens := rfl
@[simp] theorem onMgmt_fil (s : State) (f : MgmtSt → MgmtSt) : (s.onMgmt f).fil = s.fil := rfl
@[simp] theorem onMgmt_out (s : State) (f : MgmtSt → MgmtSt) : (s.onMgmt f).out = s.out := rfl
@[simp] theorem onMgmt_la (s : State) (f : MgmtSt → MgmtSt) : (s.onMgmt f).la = s.la := rfl
@[simp] theorem onMgmt_ports (s : State) (f : MgmtSt → MgmtSt) : (s.onMgmt f).ports = s.ports := rfl
@[simp] theorem onMgmt_tm (s : State) (f : MgmtSt → MgmtSt) : (s.onMgmt f).tm = s.tm := rfl
@[simp] theorem onMgmt_tse (s : State) (f : MgmtSt → MgmtSt) : (s.onMgmt f).tse = s.tse := rfl
@[simp] theorem onMgmt_sta (s : State) (f : MgmtSt → MgmtSt) : (s.onMgmt f).sta = s.sta := rfl
@[simp] theorem onMgmt_keys (s : State) (f : MgmtSt → MgmtSt) : (s.onMgmt f).keys = s.keys := rfl
@[simp] theorem onMgmt_free (s : State) (f : MgmtSt → MgmtSt) : (s.onMgmt f).free = s.free := rfl
@[simp] theorem onMgmt_pending (s : State) (f : MgmtSt → MgmtSt) : (s.onMgmt f).pending = s.pending := rfl
@[simp] theorem onFault_tc (s : State) (f : FaultSt → FaultSt) : (s.onFault f).tc = s.tc := rfl
@[simp] theorem onFault_hall (s : State) (f : FaultSt → FaultSt) : (s.onFault f).hall = s.hall := rfl
@[simp] theorem onFault_mbx (s : State) (f : FaultSt → FaultSt) : (s.onFault f).mbx = s.mbx := rfl
@[simp] theorem onFault_bez (s : State) (f : FaultSt → FaultSt) : (s.onFault f).bez = s.bez := rfl
@[simp] theorem onFault_pwr (s : State) (f : FaultSt → FaultSt) : (s.onFault f).pwr = s.pwr := rfl
@[simp] theorem onFault_mgmt (s : State) (f : FaultSt → FaultSt) : (s.onFault f).mgmt = s.mgmt := rfl
@[simp] theorem onFault_fault (s : State) (f : FaultSt → FaultSt) : (s.onFault f).fault = f s.fault := rfl
@[simp] theorem onFault_loupe (s : State) (f : FaultSt → FaultSt) : (s.onFault f).loupe = s.loupe := rfl
@[simp] theorem onFault_clasp (s : State) (f : FaultSt → FaultSt) : (s.onFault f).clasp = s.clasp := rfl
@[simp] theorem onFault_ref (s : State) (f : FaultSt → FaultSt) : (s.onFault f).ref = s.ref := rfl
@[simp] theorem onFault_gnss (s : State) (f : FaultSt → FaultSt) : (s.onFault f).gnss = s.gnss := rfl
@[simp] theorem onFault_ens (s : State) (f : FaultSt → FaultSt) : (s.onFault f).ens = s.ens := rfl
@[simp] theorem onFault_fil (s : State) (f : FaultSt → FaultSt) : (s.onFault f).fil = s.fil := rfl
@[simp] theorem onFault_out (s : State) (f : FaultSt → FaultSt) : (s.onFault f).out = s.out := rfl
@[simp] theorem onFault_la (s : State) (f : FaultSt → FaultSt) : (s.onFault f).la = s.la := rfl
@[simp] theorem onFault_ports (s : State) (f : FaultSt → FaultSt) : (s.onFault f).ports = s.ports := rfl
@[simp] theorem onFault_tm (s : State) (f : FaultSt → FaultSt) : (s.onFault f).tm = s.tm := rfl
@[simp] theorem onFault_tse (s : State) (f : FaultSt → FaultSt) : (s.onFault f).tse = s.tse := rfl
@[simp] theorem onFault_sta (s : State) (f : FaultSt → FaultSt) : (s.onFault f).sta = s.sta := rfl
@[simp] theorem onFault_keys (s : State) (f : FaultSt → FaultSt) : (s.onFault f).keys = s.keys := rfl
@[simp] theorem onFault_free (s : State) (f : FaultSt → FaultSt) : (s.onFault f).free = s.free := rfl
@[simp] theorem onFault_pending (s : State) (f : FaultSt → FaultSt) : (s.onFault f).pending = s.pending := rfl
@[simp] theorem onLoupe_tc (s : State) (f : LoupeSt → LoupeSt) : (s.onLoupe f).tc = s.tc := rfl
@[simp] theorem onLoupe_hall (s : State) (f : LoupeSt → LoupeSt) : (s.onLoupe f).hall = s.hall := rfl
@[simp] theorem onLoupe_mbx (s : State) (f : LoupeSt → LoupeSt) : (s.onLoupe f).mbx = s.mbx := rfl
@[simp] theorem onLoupe_bez (s : State) (f : LoupeSt → LoupeSt) : (s.onLoupe f).bez = s.bez := rfl
@[simp] theorem onLoupe_pwr (s : State) (f : LoupeSt → LoupeSt) : (s.onLoupe f).pwr = s.pwr := rfl
@[simp] theorem onLoupe_mgmt (s : State) (f : LoupeSt → LoupeSt) : (s.onLoupe f).mgmt = s.mgmt := rfl
@[simp] theorem onLoupe_fault (s : State) (f : LoupeSt → LoupeSt) : (s.onLoupe f).fault = s.fault := rfl
@[simp] theorem onLoupe_loupe (s : State) (f : LoupeSt → LoupeSt) : (s.onLoupe f).loupe = f s.loupe := rfl
@[simp] theorem onLoupe_clasp (s : State) (f : LoupeSt → LoupeSt) : (s.onLoupe f).clasp = s.clasp := rfl
@[simp] theorem onLoupe_ref (s : State) (f : LoupeSt → LoupeSt) : (s.onLoupe f).ref = s.ref := rfl
@[simp] theorem onLoupe_gnss (s : State) (f : LoupeSt → LoupeSt) : (s.onLoupe f).gnss = s.gnss := rfl
@[simp] theorem onLoupe_ens (s : State) (f : LoupeSt → LoupeSt) : (s.onLoupe f).ens = s.ens := rfl
@[simp] theorem onLoupe_fil (s : State) (f : LoupeSt → LoupeSt) : (s.onLoupe f).fil = s.fil := rfl
@[simp] theorem onLoupe_out (s : State) (f : LoupeSt → LoupeSt) : (s.onLoupe f).out = s.out := rfl
@[simp] theorem onLoupe_la (s : State) (f : LoupeSt → LoupeSt) : (s.onLoupe f).la = s.la := rfl
@[simp] theorem onLoupe_ports (s : State) (f : LoupeSt → LoupeSt) : (s.onLoupe f).ports = s.ports := rfl
@[simp] theorem onLoupe_tm (s : State) (f : LoupeSt → LoupeSt) : (s.onLoupe f).tm = s.tm := rfl
@[simp] theorem onLoupe_tse (s : State) (f : LoupeSt → LoupeSt) : (s.onLoupe f).tse = s.tse := rfl
@[simp] theorem onLoupe_sta (s : State) (f : LoupeSt → LoupeSt) : (s.onLoupe f).sta = s.sta := rfl
@[simp] theorem onLoupe_keys (s : State) (f : LoupeSt → LoupeSt) : (s.onLoupe f).keys = s.keys := rfl
@[simp] theorem onLoupe_free (s : State) (f : LoupeSt → LoupeSt) : (s.onLoupe f).free = s.free := rfl
@[simp] theorem onLoupe_pending (s : State) (f : LoupeSt → LoupeSt) : (s.onLoupe f).pending = s.pending := rfl
@[simp] theorem onClasp_tc (s : State) (f : ClaspSt → ClaspSt) : (s.onClasp f).tc = s.tc := rfl
@[simp] theorem onClasp_hall (s : State) (f : ClaspSt → ClaspSt) : (s.onClasp f).hall = s.hall := rfl
@[simp] theorem onClasp_mbx (s : State) (f : ClaspSt → ClaspSt) : (s.onClasp f).mbx = s.mbx := rfl
@[simp] theorem onClasp_bez (s : State) (f : ClaspSt → ClaspSt) : (s.onClasp f).bez = s.bez := rfl
@[simp] theorem onClasp_pwr (s : State) (f : ClaspSt → ClaspSt) : (s.onClasp f).pwr = s.pwr := rfl
@[simp] theorem onClasp_mgmt (s : State) (f : ClaspSt → ClaspSt) : (s.onClasp f).mgmt = s.mgmt := rfl
@[simp] theorem onClasp_fault (s : State) (f : ClaspSt → ClaspSt) : (s.onClasp f).fault = s.fault := rfl
@[simp] theorem onClasp_loupe (s : State) (f : ClaspSt → ClaspSt) : (s.onClasp f).loupe = s.loupe := rfl
@[simp] theorem onClasp_clasp (s : State) (f : ClaspSt → ClaspSt) : (s.onClasp f).clasp = f s.clasp := rfl
@[simp] theorem onClasp_ref (s : State) (f : ClaspSt → ClaspSt) : (s.onClasp f).ref = s.ref := rfl
@[simp] theorem onClasp_gnss (s : State) (f : ClaspSt → ClaspSt) : (s.onClasp f).gnss = s.gnss := rfl
@[simp] theorem onClasp_ens (s : State) (f : ClaspSt → ClaspSt) : (s.onClasp f).ens = s.ens := rfl
@[simp] theorem onClasp_fil (s : State) (f : ClaspSt → ClaspSt) : (s.onClasp f).fil = s.fil := rfl
@[simp] theorem onClasp_out (s : State) (f : ClaspSt → ClaspSt) : (s.onClasp f).out = s.out := rfl
@[simp] theorem onClasp_la (s : State) (f : ClaspSt → ClaspSt) : (s.onClasp f).la = s.la := rfl
@[simp] theorem onClasp_ports (s : State) (f : ClaspSt → ClaspSt) : (s.onClasp f).ports = s.ports := rfl
@[simp] theorem onClasp_tm (s : State) (f : ClaspSt → ClaspSt) : (s.onClasp f).tm = s.tm := rfl
@[simp] theorem onClasp_tse (s : State) (f : ClaspSt → ClaspSt) : (s.onClasp f).tse = s.tse := rfl
@[simp] theorem onClasp_sta (s : State) (f : ClaspSt → ClaspSt) : (s.onClasp f).sta = s.sta := rfl
@[simp] theorem onClasp_keys (s : State) (f : ClaspSt → ClaspSt) : (s.onClasp f).keys = s.keys := rfl
@[simp] theorem onClasp_free (s : State) (f : ClaspSt → ClaspSt) : (s.onClasp f).free = s.free := rfl
@[simp] theorem onClasp_pending (s : State) (f : ClaspSt → ClaspSt) : (s.onClasp f).pending = s.pending := rfl
@[simp] theorem onRef_tc (s : State) (f : RefSt → RefSt) : (s.onRef f).tc = s.tc := rfl
@[simp] theorem onRef_hall (s : State) (f : RefSt → RefSt) : (s.onRef f).hall = s.hall := rfl
@[simp] theorem onRef_mbx (s : State) (f : RefSt → RefSt) : (s.onRef f).mbx = s.mbx := rfl
@[simp] theorem onRef_bez (s : State) (f : RefSt → RefSt) : (s.onRef f).bez = s.bez := rfl
@[simp] theorem onRef_pwr (s : State) (f : RefSt → RefSt) : (s.onRef f).pwr = s.pwr := rfl
@[simp] theorem onRef_mgmt (s : State) (f : RefSt → RefSt) : (s.onRef f).mgmt = s.mgmt := rfl
@[simp] theorem onRef_fault (s : State) (f : RefSt → RefSt) : (s.onRef f).fault = s.fault := rfl
@[simp] theorem onRef_loupe (s : State) (f : RefSt → RefSt) : (s.onRef f).loupe = s.loupe := rfl
@[simp] theorem onRef_clasp (s : State) (f : RefSt → RefSt) : (s.onRef f).clasp = s.clasp := rfl
@[simp] theorem onRef_ref (s : State) (f : RefSt → RefSt) : (s.onRef f).ref = f s.ref := rfl
@[simp] theorem onRef_gnss (s : State) (f : RefSt → RefSt) : (s.onRef f).gnss = s.gnss := rfl
@[simp] theorem onRef_ens (s : State) (f : RefSt → RefSt) : (s.onRef f).ens = s.ens := rfl
@[simp] theorem onRef_fil (s : State) (f : RefSt → RefSt) : (s.onRef f).fil = s.fil := rfl
@[simp] theorem onRef_out (s : State) (f : RefSt → RefSt) : (s.onRef f).out = s.out := rfl
@[simp] theorem onRef_la (s : State) (f : RefSt → RefSt) : (s.onRef f).la = s.la := rfl
@[simp] theorem onRef_ports (s : State) (f : RefSt → RefSt) : (s.onRef f).ports = s.ports := rfl
@[simp] theorem onRef_tm (s : State) (f : RefSt → RefSt) : (s.onRef f).tm = s.tm := rfl
@[simp] theorem onRef_tse (s : State) (f : RefSt → RefSt) : (s.onRef f).tse = s.tse := rfl
@[simp] theorem onRef_sta (s : State) (f : RefSt → RefSt) : (s.onRef f).sta = s.sta := rfl
@[simp] theorem onRef_keys (s : State) (f : RefSt → RefSt) : (s.onRef f).keys = s.keys := rfl
@[simp] theorem onRef_free (s : State) (f : RefSt → RefSt) : (s.onRef f).free = s.free := rfl
@[simp] theorem onRef_pending (s : State) (f : RefSt → RefSt) : (s.onRef f).pending = s.pending := rfl
@[simp] theorem onGnss_tc (s : State) (f : GnssSt → GnssSt) : (s.onGnss f).tc = s.tc := rfl
@[simp] theorem onGnss_hall (s : State) (f : GnssSt → GnssSt) : (s.onGnss f).hall = s.hall := rfl
@[simp] theorem onGnss_mbx (s : State) (f : GnssSt → GnssSt) : (s.onGnss f).mbx = s.mbx := rfl
@[simp] theorem onGnss_bez (s : State) (f : GnssSt → GnssSt) : (s.onGnss f).bez = s.bez := rfl
@[simp] theorem onGnss_pwr (s : State) (f : GnssSt → GnssSt) : (s.onGnss f).pwr = s.pwr := rfl
@[simp] theorem onGnss_mgmt (s : State) (f : GnssSt → GnssSt) : (s.onGnss f).mgmt = s.mgmt := rfl
@[simp] theorem onGnss_fault (s : State) (f : GnssSt → GnssSt) : (s.onGnss f).fault = s.fault := rfl
@[simp] theorem onGnss_loupe (s : State) (f : GnssSt → GnssSt) : (s.onGnss f).loupe = s.loupe := rfl
@[simp] theorem onGnss_clasp (s : State) (f : GnssSt → GnssSt) : (s.onGnss f).clasp = s.clasp := rfl
@[simp] theorem onGnss_ref (s : State) (f : GnssSt → GnssSt) : (s.onGnss f).ref = s.ref := rfl
@[simp] theorem onGnss_gnss (s : State) (f : GnssSt → GnssSt) : (s.onGnss f).gnss = f s.gnss := rfl
@[simp] theorem onGnss_ens (s : State) (f : GnssSt → GnssSt) : (s.onGnss f).ens = s.ens := rfl
@[simp] theorem onGnss_fil (s : State) (f : GnssSt → GnssSt) : (s.onGnss f).fil = s.fil := rfl
@[simp] theorem onGnss_out (s : State) (f : GnssSt → GnssSt) : (s.onGnss f).out = s.out := rfl
@[simp] theorem onGnss_la (s : State) (f : GnssSt → GnssSt) : (s.onGnss f).la = s.la := rfl
@[simp] theorem onGnss_ports (s : State) (f : GnssSt → GnssSt) : (s.onGnss f).ports = s.ports := rfl
@[simp] theorem onGnss_tm (s : State) (f : GnssSt → GnssSt) : (s.onGnss f).tm = s.tm := rfl
@[simp] theorem onGnss_tse (s : State) (f : GnssSt → GnssSt) : (s.onGnss f).tse = s.tse := rfl
@[simp] theorem onGnss_sta (s : State) (f : GnssSt → GnssSt) : (s.onGnss f).sta = s.sta := rfl
@[simp] theorem onGnss_keys (s : State) (f : GnssSt → GnssSt) : (s.onGnss f).keys = s.keys := rfl
@[simp] theorem onGnss_free (s : State) (f : GnssSt → GnssSt) : (s.onGnss f).free = s.free := rfl
@[simp] theorem onGnss_pending (s : State) (f : GnssSt → GnssSt) : (s.onGnss f).pending = s.pending := rfl
@[simp] theorem onEns_tc (s : State) (f : EnsSt → EnsSt) : (s.onEns f).tc = s.tc := rfl
@[simp] theorem onEns_hall (s : State) (f : EnsSt → EnsSt) : (s.onEns f).hall = s.hall := rfl
@[simp] theorem onEns_mbx (s : State) (f : EnsSt → EnsSt) : (s.onEns f).mbx = s.mbx := rfl
@[simp] theorem onEns_bez (s : State) (f : EnsSt → EnsSt) : (s.onEns f).bez = s.bez := rfl
@[simp] theorem onEns_pwr (s : State) (f : EnsSt → EnsSt) : (s.onEns f).pwr = s.pwr := rfl
@[simp] theorem onEns_mgmt (s : State) (f : EnsSt → EnsSt) : (s.onEns f).mgmt = s.mgmt := rfl
@[simp] theorem onEns_fault (s : State) (f : EnsSt → EnsSt) : (s.onEns f).fault = s.fault := rfl
@[simp] theorem onEns_loupe (s : State) (f : EnsSt → EnsSt) : (s.onEns f).loupe = s.loupe := rfl
@[simp] theorem onEns_clasp (s : State) (f : EnsSt → EnsSt) : (s.onEns f).clasp = s.clasp := rfl
@[simp] theorem onEns_ref (s : State) (f : EnsSt → EnsSt) : (s.onEns f).ref = s.ref := rfl
@[simp] theorem onEns_gnss (s : State) (f : EnsSt → EnsSt) : (s.onEns f).gnss = s.gnss := rfl
@[simp] theorem onEns_ens (s : State) (f : EnsSt → EnsSt) : (s.onEns f).ens = f s.ens := rfl
@[simp] theorem onEns_fil (s : State) (f : EnsSt → EnsSt) : (s.onEns f).fil = s.fil := rfl
@[simp] theorem onEns_out (s : State) (f : EnsSt → EnsSt) : (s.onEns f).out = s.out := rfl
@[simp] theorem onEns_la (s : State) (f : EnsSt → EnsSt) : (s.onEns f).la = s.la := rfl
@[simp] theorem onEns_ports (s : State) (f : EnsSt → EnsSt) : (s.onEns f).ports = s.ports := rfl
@[simp] theorem onEns_tm (s : State) (f : EnsSt → EnsSt) : (s.onEns f).tm = s.tm := rfl
@[simp] theorem onEns_tse (s : State) (f : EnsSt → EnsSt) : (s.onEns f).tse = s.tse := rfl
@[simp] theorem onEns_sta (s : State) (f : EnsSt → EnsSt) : (s.onEns f).sta = s.sta := rfl
@[simp] theorem onEns_keys (s : State) (f : EnsSt → EnsSt) : (s.onEns f).keys = s.keys := rfl
@[simp] theorem onEns_free (s : State) (f : EnsSt → EnsSt) : (s.onEns f).free = s.free := rfl
@[simp] theorem onEns_pending (s : State) (f : EnsSt → EnsSt) : (s.onEns f).pending = s.pending := rfl
@[simp] theorem onFil_tc (s : State) (f : FilSt → FilSt) : (s.onFil f).tc = s.tc := rfl
@[simp] theorem onFil_hall (s : State) (f : FilSt → FilSt) : (s.onFil f).hall = s.hall := rfl
@[simp] theorem onFil_mbx (s : State) (f : FilSt → FilSt) : (s.onFil f).mbx = s.mbx := rfl
@[simp] theorem onFil_bez (s : State) (f : FilSt → FilSt) : (s.onFil f).bez = s.bez := rfl
@[simp] theorem onFil_pwr (s : State) (f : FilSt → FilSt) : (s.onFil f).pwr = s.pwr := rfl
@[simp] theorem onFil_mgmt (s : State) (f : FilSt → FilSt) : (s.onFil f).mgmt = s.mgmt := rfl
@[simp] theorem onFil_fault (s : State) (f : FilSt → FilSt) : (s.onFil f).fault = s.fault := rfl
@[simp] theorem onFil_loupe (s : State) (f : FilSt → FilSt) : (s.onFil f).loupe = s.loupe := rfl
@[simp] theorem onFil_clasp (s : State) (f : FilSt → FilSt) : (s.onFil f).clasp = s.clasp := rfl
@[simp] theorem onFil_ref (s : State) (f : FilSt → FilSt) : (s.onFil f).ref = s.ref := rfl
@[simp] theorem onFil_gnss (s : State) (f : FilSt → FilSt) : (s.onFil f).gnss = s.gnss := rfl
@[simp] theorem onFil_ens (s : State) (f : FilSt → FilSt) : (s.onFil f).ens = s.ens := rfl
@[simp] theorem onFil_fil (s : State) (f : FilSt → FilSt) : (s.onFil f).fil = f s.fil := rfl
@[simp] theorem onFil_out (s : State) (f : FilSt → FilSt) : (s.onFil f).out = s.out := rfl
@[simp] theorem onFil_la (s : State) (f : FilSt → FilSt) : (s.onFil f).la = s.la := rfl
@[simp] theorem onFil_ports (s : State) (f : FilSt → FilSt) : (s.onFil f).ports = s.ports := rfl
@[simp] theorem onFil_tm (s : State) (f : FilSt → FilSt) : (s.onFil f).tm = s.tm := rfl
@[simp] theorem onFil_tse (s : State) (f : FilSt → FilSt) : (s.onFil f).tse = s.tse := rfl
@[simp] theorem onFil_sta (s : State) (f : FilSt → FilSt) : (s.onFil f).sta = s.sta := rfl
@[simp] theorem onFil_keys (s : State) (f : FilSt → FilSt) : (s.onFil f).keys = s.keys := rfl
@[simp] theorem onFil_free (s : State) (f : FilSt → FilSt) : (s.onFil f).free = s.free := rfl
@[simp] theorem onFil_pending (s : State) (f : FilSt → FilSt) : (s.onFil f).pending = s.pending := rfl
@[simp] theorem onOut_tc (s : State) (f : OutSt → OutSt) : (s.onOut f).tc = s.tc := rfl
@[simp] theorem onOut_hall (s : State) (f : OutSt → OutSt) : (s.onOut f).hall = s.hall := rfl
@[simp] theorem onOut_mbx (s : State) (f : OutSt → OutSt) : (s.onOut f).mbx = s.mbx := rfl
@[simp] theorem onOut_bez (s : State) (f : OutSt → OutSt) : (s.onOut f).bez = s.bez := rfl
@[simp] theorem onOut_pwr (s : State) (f : OutSt → OutSt) : (s.onOut f).pwr = s.pwr := rfl
@[simp] theorem onOut_mgmt (s : State) (f : OutSt → OutSt) : (s.onOut f).mgmt = s.mgmt := rfl
@[simp] theorem onOut_fault (s : State) (f : OutSt → OutSt) : (s.onOut f).fault = s.fault := rfl
@[simp] theorem onOut_loupe (s : State) (f : OutSt → OutSt) : (s.onOut f).loupe = s.loupe := rfl
@[simp] theorem onOut_clasp (s : State) (f : OutSt → OutSt) : (s.onOut f).clasp = s.clasp := rfl
@[simp] theorem onOut_ref (s : State) (f : OutSt → OutSt) : (s.onOut f).ref = s.ref := rfl
@[simp] theorem onOut_gnss (s : State) (f : OutSt → OutSt) : (s.onOut f).gnss = s.gnss := rfl
@[simp] theorem onOut_ens (s : State) (f : OutSt → OutSt) : (s.onOut f).ens = s.ens := rfl
@[simp] theorem onOut_fil (s : State) (f : OutSt → OutSt) : (s.onOut f).fil = s.fil := rfl
@[simp] theorem onOut_out (s : State) (f : OutSt → OutSt) : (s.onOut f).out = f s.out := rfl
@[simp] theorem onOut_la (s : State) (f : OutSt → OutSt) : (s.onOut f).la = s.la := rfl
@[simp] theorem onOut_ports (s : State) (f : OutSt → OutSt) : (s.onOut f).ports = s.ports := rfl
@[simp] theorem onOut_tm (s : State) (f : OutSt → OutSt) : (s.onOut f).tm = s.tm := rfl
@[simp] theorem onOut_tse (s : State) (f : OutSt → OutSt) : (s.onOut f).tse = s.tse := rfl
@[simp] theorem onOut_sta (s : State) (f : OutSt → OutSt) : (s.onOut f).sta = s.sta := rfl
@[simp] theorem onOut_keys (s : State) (f : OutSt → OutSt) : (s.onOut f).keys = s.keys := rfl
@[simp] theorem onOut_free (s : State) (f : OutSt → OutSt) : (s.onOut f).free = s.free := rfl
@[simp] theorem onOut_pending (s : State) (f : OutSt → OutSt) : (s.onOut f).pending = s.pending := rfl
@[simp] theorem onLa_tc (s : State) (f : LaSt → LaSt) : (s.onLa f).tc = s.tc := rfl
@[simp] theorem onLa_hall (s : State) (f : LaSt → LaSt) : (s.onLa f).hall = s.hall := rfl
@[simp] theorem onLa_mbx (s : State) (f : LaSt → LaSt) : (s.onLa f).mbx = s.mbx := rfl
@[simp] theorem onLa_bez (s : State) (f : LaSt → LaSt) : (s.onLa f).bez = s.bez := rfl
@[simp] theorem onLa_pwr (s : State) (f : LaSt → LaSt) : (s.onLa f).pwr = s.pwr := rfl
@[simp] theorem onLa_mgmt (s : State) (f : LaSt → LaSt) : (s.onLa f).mgmt = s.mgmt := rfl
@[simp] theorem onLa_fault (s : State) (f : LaSt → LaSt) : (s.onLa f).fault = s.fault := rfl
@[simp] theorem onLa_loupe (s : State) (f : LaSt → LaSt) : (s.onLa f).loupe = s.loupe := rfl
@[simp] theorem onLa_clasp (s : State) (f : LaSt → LaSt) : (s.onLa f).clasp = s.clasp := rfl
@[simp] theorem onLa_ref (s : State) (f : LaSt → LaSt) : (s.onLa f).ref = s.ref := rfl
@[simp] theorem onLa_gnss (s : State) (f : LaSt → LaSt) : (s.onLa f).gnss = s.gnss := rfl
@[simp] theorem onLa_ens (s : State) (f : LaSt → LaSt) : (s.onLa f).ens = s.ens := rfl
@[simp] theorem onLa_fil (s : State) (f : LaSt → LaSt) : (s.onLa f).fil = s.fil := rfl
@[simp] theorem onLa_out (s : State) (f : LaSt → LaSt) : (s.onLa f).out = s.out := rfl
@[simp] theorem onLa_la (s : State) (f : LaSt → LaSt) : (s.onLa f).la = f s.la := rfl
@[simp] theorem onLa_ports (s : State) (f : LaSt → LaSt) : (s.onLa f).ports = s.ports := rfl
@[simp] theorem onLa_tm (s : State) (f : LaSt → LaSt) : (s.onLa f).tm = s.tm := rfl
@[simp] theorem onLa_tse (s : State) (f : LaSt → LaSt) : (s.onLa f).tse = s.tse := rfl
@[simp] theorem onLa_sta (s : State) (f : LaSt → LaSt) : (s.onLa f).sta = s.sta := rfl
@[simp] theorem onLa_keys (s : State) (f : LaSt → LaSt) : (s.onLa f).keys = s.keys := rfl
@[simp] theorem onLa_free (s : State) (f : LaSt → LaSt) : (s.onLa f).free = s.free := rfl
@[simp] theorem onLa_pending (s : State) (f : LaSt → LaSt) : (s.onLa f).pending = s.pending := rfl
@[simp] theorem onPorts_tc (s : State) (f : PortsSt → PortsSt) : (s.onPorts f).tc = s.tc := rfl
@[simp] theorem onPorts_hall (s : State) (f : PortsSt → PortsSt) : (s.onPorts f).hall = s.hall := rfl
@[simp] theorem onPorts_mbx (s : State) (f : PortsSt → PortsSt) : (s.onPorts f).mbx = s.mbx := rfl
@[simp] theorem onPorts_bez (s : State) (f : PortsSt → PortsSt) : (s.onPorts f).bez = s.bez := rfl
@[simp] theorem onPorts_pwr (s : State) (f : PortsSt → PortsSt) : (s.onPorts f).pwr = s.pwr := rfl
@[simp] theorem onPorts_mgmt (s : State) (f : PortsSt → PortsSt) : (s.onPorts f).mgmt = s.mgmt := rfl
@[simp] theorem onPorts_fault (s : State) (f : PortsSt → PortsSt) : (s.onPorts f).fault = s.fault := rfl
@[simp] theorem onPorts_loupe (s : State) (f : PortsSt → PortsSt) : (s.onPorts f).loupe = s.loupe := rfl
@[simp] theorem onPorts_clasp (s : State) (f : PortsSt → PortsSt) : (s.onPorts f).clasp = s.clasp := rfl
@[simp] theorem onPorts_ref (s : State) (f : PortsSt → PortsSt) : (s.onPorts f).ref = s.ref := rfl
@[simp] theorem onPorts_gnss (s : State) (f : PortsSt → PortsSt) : (s.onPorts f).gnss = s.gnss := rfl
@[simp] theorem onPorts_ens (s : State) (f : PortsSt → PortsSt) : (s.onPorts f).ens = s.ens := rfl
@[simp] theorem onPorts_fil (s : State) (f : PortsSt → PortsSt) : (s.onPorts f).fil = s.fil := rfl
@[simp] theorem onPorts_out (s : State) (f : PortsSt → PortsSt) : (s.onPorts f).out = s.out := rfl
@[simp] theorem onPorts_la (s : State) (f : PortsSt → PortsSt) : (s.onPorts f).la = s.la := rfl
@[simp] theorem onPorts_ports (s : State) (f : PortsSt → PortsSt) : (s.onPorts f).ports = f s.ports := rfl
@[simp] theorem onPorts_tm (s : State) (f : PortsSt → PortsSt) : (s.onPorts f).tm = s.tm := rfl
@[simp] theorem onPorts_tse (s : State) (f : PortsSt → PortsSt) : (s.onPorts f).tse = s.tse := rfl
@[simp] theorem onPorts_sta (s : State) (f : PortsSt → PortsSt) : (s.onPorts f).sta = s.sta := rfl
@[simp] theorem onPorts_keys (s : State) (f : PortsSt → PortsSt) : (s.onPorts f).keys = s.keys := rfl
@[simp] theorem onPorts_free (s : State) (f : PortsSt → PortsSt) : (s.onPorts f).free = s.free := rfl
@[simp] theorem onPorts_pending (s : State) (f : PortsSt → PortsSt) : (s.onPorts f).pending = s.pending := rfl
@[simp] theorem onTm_tc (s : State) (f : TmSt → TmSt) : (s.onTm f).tc = s.tc := rfl
@[simp] theorem onTm_hall (s : State) (f : TmSt → TmSt) : (s.onTm f).hall = s.hall := rfl
@[simp] theorem onTm_mbx (s : State) (f : TmSt → TmSt) : (s.onTm f).mbx = s.mbx := rfl
@[simp] theorem onTm_bez (s : State) (f : TmSt → TmSt) : (s.onTm f).bez = s.bez := rfl
@[simp] theorem onTm_pwr (s : State) (f : TmSt → TmSt) : (s.onTm f).pwr = s.pwr := rfl
@[simp] theorem onTm_mgmt (s : State) (f : TmSt → TmSt) : (s.onTm f).mgmt = s.mgmt := rfl
@[simp] theorem onTm_fault (s : State) (f : TmSt → TmSt) : (s.onTm f).fault = s.fault := rfl
@[simp] theorem onTm_loupe (s : State) (f : TmSt → TmSt) : (s.onTm f).loupe = s.loupe := rfl
@[simp] theorem onTm_clasp (s : State) (f : TmSt → TmSt) : (s.onTm f).clasp = s.clasp := rfl
@[simp] theorem onTm_ref (s : State) (f : TmSt → TmSt) : (s.onTm f).ref = s.ref := rfl
@[simp] theorem onTm_gnss (s : State) (f : TmSt → TmSt) : (s.onTm f).gnss = s.gnss := rfl
@[simp] theorem onTm_ens (s : State) (f : TmSt → TmSt) : (s.onTm f).ens = s.ens := rfl
@[simp] theorem onTm_fil (s : State) (f : TmSt → TmSt) : (s.onTm f).fil = s.fil := rfl
@[simp] theorem onTm_out (s : State) (f : TmSt → TmSt) : (s.onTm f).out = s.out := rfl
@[simp] theorem onTm_la (s : State) (f : TmSt → TmSt) : (s.onTm f).la = s.la := rfl
@[simp] theorem onTm_ports (s : State) (f : TmSt → TmSt) : (s.onTm f).ports = s.ports := rfl
@[simp] theorem onTm_tm (s : State) (f : TmSt → TmSt) : (s.onTm f).tm = f s.tm := rfl
@[simp] theorem onTm_tse (s : State) (f : TmSt → TmSt) : (s.onTm f).tse = s.tse := rfl
@[simp] theorem onTm_sta (s : State) (f : TmSt → TmSt) : (s.onTm f).sta = s.sta := rfl
@[simp] theorem onTm_keys (s : State) (f : TmSt → TmSt) : (s.onTm f).keys = s.keys := rfl
@[simp] theorem onTm_free (s : State) (f : TmSt → TmSt) : (s.onTm f).free = s.free := rfl
@[simp] theorem onTm_pending (s : State) (f : TmSt → TmSt) : (s.onTm f).pending = s.pending := rfl
@[simp] theorem onTse_tc (s : State) (f : TseSt → TseSt) : (s.onTse f).tc = s.tc := rfl
@[simp] theorem onTse_hall (s : State) (f : TseSt → TseSt) : (s.onTse f).hall = s.hall := rfl
@[simp] theorem onTse_mbx (s : State) (f : TseSt → TseSt) : (s.onTse f).mbx = s.mbx := rfl
@[simp] theorem onTse_bez (s : State) (f : TseSt → TseSt) : (s.onTse f).bez = s.bez := rfl
@[simp] theorem onTse_pwr (s : State) (f : TseSt → TseSt) : (s.onTse f).pwr = s.pwr := rfl
@[simp] theorem onTse_mgmt (s : State) (f : TseSt → TseSt) : (s.onTse f).mgmt = s.mgmt := rfl
@[simp] theorem onTse_fault (s : State) (f : TseSt → TseSt) : (s.onTse f).fault = s.fault := rfl
@[simp] theorem onTse_loupe (s : State) (f : TseSt → TseSt) : (s.onTse f).loupe = s.loupe := rfl
@[simp] theorem onTse_clasp (s : State) (f : TseSt → TseSt) : (s.onTse f).clasp = s.clasp := rfl
@[simp] theorem onTse_ref (s : State) (f : TseSt → TseSt) : (s.onTse f).ref = s.ref := rfl
@[simp] theorem onTse_gnss (s : State) (f : TseSt → TseSt) : (s.onTse f).gnss = s.gnss := rfl
@[simp] theorem onTse_ens (s : State) (f : TseSt → TseSt) : (s.onTse f).ens = s.ens := rfl
@[simp] theorem onTse_fil (s : State) (f : TseSt → TseSt) : (s.onTse f).fil = s.fil := rfl
@[simp] theorem onTse_out (s : State) (f : TseSt → TseSt) : (s.onTse f).out = s.out := rfl
@[simp] theorem onTse_la (s : State) (f : TseSt → TseSt) : (s.onTse f).la = s.la := rfl
@[simp] theorem onTse_ports (s : State) (f : TseSt → TseSt) : (s.onTse f).ports = s.ports := rfl
@[simp] theorem onTse_tm (s : State) (f : TseSt → TseSt) : (s.onTse f).tm = s.tm := rfl
@[simp] theorem onTse_tse (s : State) (f : TseSt → TseSt) : (s.onTse f).tse = f s.tse := rfl
@[simp] theorem onTse_sta (s : State) (f : TseSt → TseSt) : (s.onTse f).sta = s.sta := rfl
@[simp] theorem onTse_keys (s : State) (f : TseSt → TseSt) : (s.onTse f).keys = s.keys := rfl
@[simp] theorem onTse_free (s : State) (f : TseSt → TseSt) : (s.onTse f).free = s.free := rfl
@[simp] theorem onTse_pending (s : State) (f : TseSt → TseSt) : (s.onTse f).pending = s.pending := rfl
@[simp] theorem onSta_tc (s : State) (f : StaSt → StaSt) : (s.onSta f).tc = s.tc := rfl
@[simp] theorem onSta_hall (s : State) (f : StaSt → StaSt) : (s.onSta f).hall = s.hall := rfl
@[simp] theorem onSta_mbx (s : State) (f : StaSt → StaSt) : (s.onSta f).mbx = s.mbx := rfl
@[simp] theorem onSta_bez (s : State) (f : StaSt → StaSt) : (s.onSta f).bez = s.bez := rfl
@[simp] theorem onSta_pwr (s : State) (f : StaSt → StaSt) : (s.onSta f).pwr = s.pwr := rfl
@[simp] theorem onSta_mgmt (s : State) (f : StaSt → StaSt) : (s.onSta f).mgmt = s.mgmt := rfl
@[simp] theorem onSta_fault (s : State) (f : StaSt → StaSt) : (s.onSta f).fault = s.fault := rfl
@[simp] theorem onSta_loupe (s : State) (f : StaSt → StaSt) : (s.onSta f).loupe = s.loupe := rfl
@[simp] theorem onSta_clasp (s : State) (f : StaSt → StaSt) : (s.onSta f).clasp = s.clasp := rfl
@[simp] theorem onSta_ref (s : State) (f : StaSt → StaSt) : (s.onSta f).ref = s.ref := rfl
@[simp] theorem onSta_gnss (s : State) (f : StaSt → StaSt) : (s.onSta f).gnss = s.gnss := rfl
@[simp] theorem onSta_ens (s : State) (f : StaSt → StaSt) : (s.onSta f).ens = s.ens := rfl
@[simp] theorem onSta_fil (s : State) (f : StaSt → StaSt) : (s.onSta f).fil = s.fil := rfl
@[simp] theorem onSta_out (s : State) (f : StaSt → StaSt) : (s.onSta f).out = s.out := rfl
@[simp] theorem onSta_la (s : State) (f : StaSt → StaSt) : (s.onSta f).la = s.la := rfl
@[simp] theorem onSta_ports (s : State) (f : StaSt → StaSt) : (s.onSta f).ports = s.ports := rfl
@[simp] theorem onSta_tm (s : State) (f : StaSt → StaSt) : (s.onSta f).tm = s.tm := rfl
@[simp] theorem onSta_tse (s : State) (f : StaSt → StaSt) : (s.onSta f).tse = s.tse := rfl
@[simp] theorem onSta_sta (s : State) (f : StaSt → StaSt) : (s.onSta f).sta = f s.sta := rfl
@[simp] theorem onSta_keys (s : State) (f : StaSt → StaSt) : (s.onSta f).keys = s.keys := rfl
@[simp] theorem onSta_free (s : State) (f : StaSt → StaSt) : (s.onSta f).free = s.free := rfl
@[simp] theorem onSta_pending (s : State) (f : StaSt → StaSt) : (s.onSta f).pending = s.pending := rfl
@[simp] theorem onKeys_tc (s : State) (f : KeySt → KeySt) : (s.onKeys f).tc = s.tc := rfl
@[simp] theorem onKeys_hall (s : State) (f : KeySt → KeySt) : (s.onKeys f).hall = s.hall := rfl
@[simp] theorem onKeys_mbx (s : State) (f : KeySt → KeySt) : (s.onKeys f).mbx = s.mbx := rfl
@[simp] theorem onKeys_bez (s : State) (f : KeySt → KeySt) : (s.onKeys f).bez = s.bez := rfl
@[simp] theorem onKeys_pwr (s : State) (f : KeySt → KeySt) : (s.onKeys f).pwr = s.pwr := rfl
@[simp] theorem onKeys_mgmt (s : State) (f : KeySt → KeySt) : (s.onKeys f).mgmt = s.mgmt := rfl
@[simp] theorem onKeys_fault (s : State) (f : KeySt → KeySt) : (s.onKeys f).fault = s.fault := rfl
@[simp] theorem onKeys_loupe (s : State) (f : KeySt → KeySt) : (s.onKeys f).loupe = s.loupe := rfl
@[simp] theorem onKeys_clasp (s : State) (f : KeySt → KeySt) : (s.onKeys f).clasp = s.clasp := rfl
@[simp] theorem onKeys_ref (s : State) (f : KeySt → KeySt) : (s.onKeys f).ref = s.ref := rfl
@[simp] theorem onKeys_gnss (s : State) (f : KeySt → KeySt) : (s.onKeys f).gnss = s.gnss := rfl
@[simp] theorem onKeys_ens (s : State) (f : KeySt → KeySt) : (s.onKeys f).ens = s.ens := rfl
@[simp] theorem onKeys_fil (s : State) (f : KeySt → KeySt) : (s.onKeys f).fil = s.fil := rfl
@[simp] theorem onKeys_out (s : State) (f : KeySt → KeySt) : (s.onKeys f).out = s.out := rfl
@[simp] theorem onKeys_la (s : State) (f : KeySt → KeySt) : (s.onKeys f).la = s.la := rfl
@[simp] theorem onKeys_ports (s : State) (f : KeySt → KeySt) : (s.onKeys f).ports = s.ports := rfl
@[simp] theorem onKeys_tm (s : State) (f : KeySt → KeySt) : (s.onKeys f).tm = s.tm := rfl
@[simp] theorem onKeys_tse (s : State) (f : KeySt → KeySt) : (s.onKeys f).tse = s.tse := rfl
@[simp] theorem onKeys_sta (s : State) (f : KeySt → KeySt) : (s.onKeys f).sta = s.sta := rfl
@[simp] theorem onKeys_keys (s : State) (f : KeySt → KeySt) : (s.onKeys f).keys = f s.keys := rfl
@[simp] theorem onKeys_free (s : State) (f : KeySt → KeySt) : (s.onKeys f).free = s.free := rfl
@[simp] theorem onKeys_pending (s : State) (f : KeySt → KeySt) : (s.onKeys f).pending = s.pending := rfl
@[simp] theorem onFree_tc (s : State) (f : Nat → Nat) : (s.onFree f).tc = s.tc := rfl
@[simp] theorem onFree_hall (s : State) (f : Nat → Nat) : (s.onFree f).hall = s.hall := rfl
@[simp] theorem onFree_mbx (s : State) (f : Nat → Nat) : (s.onFree f).mbx = s.mbx := rfl
@[simp] theorem onFree_bez (s : State) (f : Nat → Nat) : (s.onFree f).bez = s.bez := rfl
@[simp] theorem onFree_pwr (s : State) (f : Nat → Nat) : (s.onFree f).pwr = s.pwr := rfl
@[simp] theorem onFree_mgmt (s : State) (f : Nat → Nat) : (s.onFree f).mgmt = s.mgmt := rfl
@[simp] theorem onFree_fault (s : State) (f : Nat → Nat) : (s.onFree f).fault = s.fault := rfl
@[simp] theorem onFree_loupe (s : State) (f : Nat → Nat) : (s.onFree f).loupe = s.loupe := rfl
@[simp] theorem onFree_clasp (s : State) (f : Nat → Nat) : (s.onFree f).clasp = s.clasp := rfl
@[simp] theorem onFree_ref (s : State) (f : Nat → Nat) : (s.onFree f).ref = s.ref := rfl
@[simp] theorem onFree_gnss (s : State) (f : Nat → Nat) : (s.onFree f).gnss = s.gnss := rfl
@[simp] theorem onFree_ens (s : State) (f : Nat → Nat) : (s.onFree f).ens = s.ens := rfl
@[simp] theorem onFree_fil (s : State) (f : Nat → Nat) : (s.onFree f).fil = s.fil := rfl
@[simp] theorem onFree_out (s : State) (f : Nat → Nat) : (s.onFree f).out = s.out := rfl
@[simp] theorem onFree_la (s : State) (f : Nat → Nat) : (s.onFree f).la = s.la := rfl
@[simp] theorem onFree_ports (s : State) (f : Nat → Nat) : (s.onFree f).ports = s.ports := rfl
@[simp] theorem onFree_tm (s : State) (f : Nat → Nat) : (s.onFree f).tm = s.tm := rfl
@[simp] theorem onFree_tse (s : State) (f : Nat → Nat) : (s.onFree f).tse = s.tse := rfl
@[simp] theorem onFree_sta (s : State) (f : Nat → Nat) : (s.onFree f).sta = s.sta := rfl
@[simp] theorem onFree_keys (s : State) (f : Nat → Nat) : (s.onFree f).keys = s.keys := rfl
@[simp] theorem onFree_free (s : State) (f : Nat → Nat) : (s.onFree f).free = f s.free := rfl
@[simp] theorem onFree_pending (s : State) (f : Nat → Nat) : (s.onFree f).pending = s.pending := rfl

end Sys2Proof.Machine
end

