-- ==== Sys2Proof/Laws/Notices.lean ====
section
/-! SUPPORT. What interrupts, events, log entries and counters can change, said once for each of them. -/

namespace Sys2Proof.Machine

/-- Nothing changed but interrupt vectors, events that fell due, log staging and Loupe counters with their armed interrupts. -/
structure Quiet (s t : State) : Prop where
  rest : t = { s with mbx := t.mbx, mgmt := t.mgmt, loupe := t.loupe }
  mbx : { t.mbx with fns := s.mbx.fns } = s.mbx
  fns : ∀ b, t.fn b = { s.fn b with vecs := (t.fn b).vecs, due := (t.fn b).due }
  mgmt : t.mgmt = { s.mgmt with staged := t.mgmt.staged, lseq := t.mgmt.lseq, logSec := t.mgmt.logSec, logRate := t.mgmt.logRate,
                                dropped := t.mgmt.dropped }
  banks : t.loupe.banks = s.loupe.banks

theorem Quiet.refl (s : State) : Quiet s s := ⟨rfl, rfl, fun _ => rfl, rfl, rfl⟩

theorem Quiet.trans {s t u : State} (h : Quiet s t) (k : Quiet t u) : Quiet s u := by
  refine ⟨?_, ?_, fun b => ?_, ?_, k.banks.trans h.banks⟩
  · rw [k.rest, h.rest]
  · have := congrArg (fun m : MbxSt => { m with fns := s.mbx.fns }) k.mbx
    exact this.trans h.mbx
  · rw [k.fns b, h.fns b]
  · rw [k.mgmt, h.mgmt]

theorem onFn_quiet (s : State) (b : Nat) (f : FnSt → FnSt) (h : f (s.fn b) = { s.fn b with vecs := (f (s.fn b)).vecs, due := (f (s.fn b)).due }) :
    Quiet s (s.onFn b f) := by
  refine ⟨rfl, rfl, fun c => ?_, rfl, rfl⟩
  rw [onFn_fn]
  split
  · next e => subst e; exact h
  · rfl

theorem announce_quiet (s : State) (b v : Nat) : Quiet s (s.announce b v) := onFn_quiet _ _ _ rfl

theorem logPut_quiet (s : State) (e : LogEntry) : Quiet s (s.logPut e) := by
  refine ⟨rfl, rfl, fun _ => rfl, ?_, rfl⟩
  unfold State.logPut
  dsimp only [State.onMgmt]
  repeat' split
  all_goals rfl

theorem log_quiet (s : State) (c v j : Nat) (d : Rec) : Quiet s (s.log c v j d) := logPut_quiet _ _

theorem dueFor_quiet (s : State) (b : Nat) (e : DueEvent) : Quiet s (s.dueFor b e) := onFn_quiet _ _ _ rfl

theorem foldl_quiet {α : Type} (l : List α) (g : State → α → State) (hg : ∀ s x, Quiet s (g s x)) (s : State) : Quiet s (l.foldl g s) := by
  induction l generalizing s with
  | nil => exact Quiet.refl s
  | cons x r ih => exact (hg s x).trans (ih _)

theorem raise_quiet (s : State) (bs : List Nat) (c : Nat) (d : Rec) (v : Nat) : Quiet s (s.raise bs c d v) :=
  (foldl_quiet _ _ (fun t b => dueFor_quiet t b _) s).trans (log_quiet _ _ _ _ _)

theorem raiseAll_quiet (s : State) (c : Nat) (d : Rec) : Quiet s (s.raiseAll c d) := raise_quiet _ _ _ _ _

theorem raise0_quiet (s : State) (c : Nat) (d : Rec) : Quiet s (s.raise0 c d) := raise_quiet _ _ _ _ _

/-- Counting changes that counter alone. -/
theorem countRaw_other (s : State) (i n j : Nat) (h : j ≠ i) : (s.countRaw i n).loupe.ctr.look 0 j = s.loupe.ctr.look 0 j := by
  have e : (s.onLoupe fun l => { l with ctr := l.ctr.put i ((s.loupe.ctr.look 0 i + n) % 2 ^ 48) }).loupe.ctr.look 0 j = s.loupe.ctr.look 0 j :=
    Tab.look_put_other _ _ _ (Ne.symm h)
  have hl : ∀ (t : State) bs c d v, (t.raise bs c d v).loupe = t.loupe := by
    intro t bs c d v
    have : ∀ (l : List Nat) (e : DueEvent) (t : State), (l.foldl (fun t b => t.dueFor b e) t).loupe = t.loupe := by
      intro l e
      induction l with
      | nil => intro t; rfl
      | cons x r ih => intro t; exact (ih _).trans rfl
    exact this _ _ _
  unfold State.countRaw
  dsimp only
  split
  · exact e
  · split
    · exact e
    · show ((((s.onLoupe _).onLoupe _).raise _ _ _ _).announce _ _).loupe.ctr.look 0 j = _
      have : ∀ (t : State) b v, (t.announce b v).loupe = t.loupe := fun _ _ _ => rfl
      rw [this, hl]
      exact e

theorem countRaw_quiet (s : State) (i n : Nat) : Quiet s (s.countRaw i n) := by
  have e : ∀ (t : State) (f : LoupeSt → LoupeSt), (f t.loupe).banks = t.loupe.banks → Quiet t (t.onLoupe f) :=
    fun t f hb => ⟨rfl, rfl, fun _ => rfl, rfl, hb⟩
  unfold State.countRaw
  dsimp only
  split
  · exact e _ _ rfl
  · split
    · exact e _ _ rfl
    · exact (((e _ _ rfl).trans (e _ _ rfl)).trans (raise_quiet _ _ _ _ _)).trans (announce_quiet _ _ _)

theorem countN_quiet (s : State) (k p n : Nat) : Quiet s (s.countN k p n) := by
  unfold State.countN
  split
  · exact Quiet.refl s
  · exact countRaw_quiet _ _ _

theorem countPort_quiet (s : State) (p n : Nat) : Quiet s (s.countPort p n) := countN_quiet _ _ _ _

theorem countBezel_quiet (s : State) (b n : Nat) : Quiet s (s.countBezel b n) := countN_quiet _ _ _ _

theorem countN_other (s : State) (k p n j : Nat) (h : j ≠ k * 32 + p) : (s.countN k p n).loupe.ctr.look 0 j = s.loupe.ctr.look 0 j := by
  unfold State.countN
  split
  · rfl
  · exact countRaw_other _ _ _ _ h

/-! ### Block by block -/

/-- Events that fall due for several functions change the mailboxes alone. -/
theorem dueAll_rest (l : List Nat) (e : DueEvent) (s : State) :
    l.foldl (fun t b => t.dueFor b e) s = { s with mbx := (l.foldl (fun t b => t.dueFor b e) s).mbx } := by
  induction l generalizing s with
  | nil => rfl
  | cons x r ih => rw [List.foldl_cons, ih]; rfl

theorem raise_rest (s : State) (bs : List Nat) (c : Nat) (d : Rec) (v : Nat) :
    s.raise bs c d v = { s with mbx := (s.raise bs c d v).mbx, mgmt := (s.raise bs c d v).mgmt } := by
  unfold State.raise
  dsimp only
  have h := dueAll_rest bs.eraseDups { code := c, time := s.now, detail := d } s
  generalize bs.eraseDups.foldl (fun t b => t.dueFor b { code := c, time := s.now, detail := d }) s = u at *
  unfold State.log State.logPut State.onMgmt
  dsimp only
  rw [h]

theorem countRaw_rest (s : State) (i n : Nat) :
    s.countRaw i n = { s with mbx := (s.countRaw i n).mbx, mgmt := (s.countRaw i n).mgmt, loupe := (s.countRaw i n).loupe } := by
  unfold State.countRaw
  dsimp only
  split
  · rfl
  · split
    · rfl
    · unfold State.announce State.onFn State.onMbx
      dsimp only
      rw [raise_rest]
      rfl

theorem countN_rest (s : State) (k p n : Nat) :
    s.countN k p n = { s with mbx := (s.countN k p n).mbx, mgmt := (s.countN k p n).mgmt, loupe := (s.countN k p n).loupe } := by
  unfold State.countN
  split
  · rfl
  · exact countRaw_rest _ _ _

theorem logPartner_rest (s : State) (c q v : Nat) (d : Rec) : s.logPartner c q v d = { s with mgmt := (s.logPartner c q v d).mgmt } := by
  unfold State.logPartner
  dsimp only
  split
  · rfl
  · split <;> rfl

@[simp] theorem raise_tc (s : State) (bs : List Nat) (c : Nat) (d : Rec) (v : Nat) : (s.raise bs c d v).tc = s.tc := by
  rw [raise_rest]
@[simp] theorem raise_hall (s : State) (bs : List Nat) (c : Nat) (d : Rec) (v : Nat) : (s.raise bs c d v).hall = s.hall := by
  rw [raise_rest]
@[simp] theorem raise_bez (s : State) (bs : List Nat) (c : Nat) (d : Rec) (v : Nat) : (s.raise bs c d v).bez = s.bez := by
  rw [raise_rest]
@[simp] theorem raise_pwr (s : State) (bs : List Nat) (c : Nat) (d : Rec) (v : Nat) : (s.raise bs c d v).pwr = s.pwr := by
  rw [raise_rest]
@[simp] theorem raise_fault (s : State) (bs : List Nat) (c : Nat) (d : Rec) (v : Nat) : (s.raise bs c d v).fault = s.fault := by
  rw [raise_rest]
@[simp] theorem raise_loupe (s : State) (bs : List Nat) (c : Nat) (d : Rec) (v : Nat) : (s.raise bs c d v).loupe = s.loupe := by
  rw [raise_rest]
@[simp] theorem raise_clasp (s : State) (bs : List Nat) (c : Nat) (d : Rec) (v : Nat) : (s.raise bs c d v).clasp = s.clasp := by
  rw [raise_rest]
@[simp] theorem raise_ref (s : State) (bs : List Nat) (c : Nat) (d : Rec) (v : Nat) : (s.raise bs c d v).ref = s.ref := by
  rw [raise_rest]
@[simp] theorem raise_gnss (s : State) (bs : List Nat) (c : Nat) (d : Rec) (v : Nat) : (s.raise bs c d v).gnss = s.gnss := by
  rw [raise_rest]
@[simp] theorem raise_ens (s : State) (bs : List Nat) (c : Nat) (d : Rec) (v : Nat) : (s.raise bs c d v).ens = s.ens := by
  rw [raise_rest]
@[simp] theorem raise_fil (s : State) (bs : List Nat) (c : Nat) (d : Rec) (v : Nat) : (s.raise bs c d v).fil = s.fil := by
  rw [raise_rest]
@[simp] theorem raise_out (s : State) (bs : List Nat) (c : Nat) (d : Rec) (v : Nat) : (s.raise bs c d v).out = s.out := by
  rw [raise_rest]
@[simp] theorem raise_la (s : State) (bs : List Nat) (c : Nat) (d : Rec) (v : Nat) : (s.raise bs c d v).la = s.la := by
  rw [raise_rest]
@[simp] theorem raise_ports (s : State) (bs : List Nat) (c : Nat) (d : Rec) (v : Nat) : (s.raise bs c d v).ports = s.ports := by
  rw [raise_rest]
@[simp] theorem raise_tm (s : State) (bs : List Nat) (c : Nat) (d : Rec) (v : Nat) : (s.raise bs c d v).tm = s.tm := by
  rw [raise_rest]
@[simp] theorem raise_tse (s : State) (bs : List Nat) (c : Nat) (d : Rec) (v : Nat) : (s.raise bs c d v).tse = s.tse := by
  rw [raise_rest]
@[simp] theorem raise_sta (s : State) (bs : List Nat) (c : Nat) (d : Rec) (v : Nat) : (s.raise bs c d v).sta = s.sta := by
  rw [raise_rest]
@[simp] theorem raise_keys (s : State) (bs : List Nat) (c : Nat) (d : Rec) (v : Nat) : (s.raise bs c d v).keys = s.keys := by
  rw [raise_rest]
@[simp] theorem raise_free (s : State) (bs : List Nat) (c : Nat) (d : Rec) (v : Nat) : (s.raise bs c d v).free = s.free := by
  rw [raise_rest]
@[simp] theorem raise_pending (s : State) (bs : List Nat) (c : Nat) (d : Rec) (v : Nat) : (s.raise bs c d v).pending = s.pending := by
  rw [raise_rest]
@[simp] theorem raiseAll_tc (s : State) (c : Nat) (d : Rec) : (s.raiseAll c d).tc = s.tc := by
  unfold State.raiseAll; rw [raise_rest]
@[simp] theorem raiseAll_hall (s : State) (c : Nat) (d : Rec) : (s.raiseAll c d).hall = s.hall := by
  unfold State.raiseAll; rw [raise_rest]
@[simp] theorem raiseAll_bez (s : State) (c : Nat) (d : Rec) : (s.raiseAll c d).bez = s.bez := by
  unfold State.raiseAll; rw [raise_rest]
@[simp] theorem raiseAll_pwr (s : State) (c : Nat) (d : Rec) : (s.raiseAll c d).pwr = s.pwr := by
  unfold State.raiseAll; rw [raise_rest]
@[simp] theorem raiseAll_fault (s : State) (c : Nat) (d : Rec) : (s.raiseAll c d).fault = s.fault := by
  unfold State.raiseAll; rw [raise_rest]
@[simp] theorem raiseAll_loupe (s : State) (c : Nat) (d : Rec) : (s.raiseAll c d).loupe = s.loupe := by
  unfold State.raiseAll; rw [raise_rest]
@[simp] theorem raiseAll_clasp (s : State) (c : Nat) (d : Rec) : (s.raiseAll c d).clasp = s.clasp := by
  unfold State.raiseAll; rw [raise_rest]
@[simp] theorem raiseAll_ref (s : State) (c : Nat) (d : Rec) : (s.raiseAll c d).ref = s.ref := by
  unfold State.raiseAll; rw [raise_rest]
@[simp] theorem raiseAll_gnss (s : State) (c : Nat) (d : Rec) : (s.raiseAll c d).gnss = s.gnss := by
  unfold State.raiseAll; rw [raise_rest]
@[simp] theorem raiseAll_ens (s : State) (c : Nat) (d : Rec) : (s.raiseAll c d).ens = s.ens := by
  unfold State.raiseAll; rw [raise_rest]
@[simp] theorem raiseAll_fil (s : State) (c : Nat) (d : Rec) : (s.raiseAll c d).fil = s.fil := by
  unfold State.raiseAll; rw [raise_rest]
@[simp] theorem raiseAll_out (s : State) (c : Nat) (d : Rec) : (s.raiseAll c d).out = s.out := by
  unfold State.raiseAll; rw [raise_rest]
@[simp] theorem raiseAll_la (s : State) (c : Nat) (d : Rec) : (s.raiseAll c d).la = s.la := by
  unfold State.raiseAll; rw [raise_rest]
@[simp] theorem raiseAll_ports (s : State) (c : Nat) (d : Rec) : (s.raiseAll c d).ports = s.ports := by
  unfold State.raiseAll; rw [raise_rest]
@[simp] theorem raiseAll_tm (s : State) (c : Nat) (d : Rec) : (s.raiseAll c d).tm = s.tm := by
  unfold State.raiseAll; rw [raise_rest]
@[simp] theorem raiseAll_tse (s : State) (c : Nat) (d : Rec) : (s.raiseAll c d).tse = s.tse := by
  unfold State.raiseAll; rw [raise_rest]
@[simp] theorem raiseAll_sta (s : State) (c : Nat) (d : Rec) : (s.raiseAll c d).sta = s.sta := by
  unfold State.raiseAll; rw [raise_rest]
@[simp] theorem raiseAll_keys (s : State) (c : Nat) (d : Rec) : (s.raiseAll c d).keys = s.keys := by
  unfold State.raiseAll; rw [raise_rest]
@[simp] theorem raiseAll_free (s : State) (c : Nat) (d : Rec) : (s.raiseAll c d).free = s.free := by
  unfold State.raiseAll; rw [raise_rest]
@[simp] theorem raiseAll_pending (s : State) (c : Nat) (d : Rec) : (s.raiseAll c d).pending = s.pending := by
  unfold State.raiseAll; rw [raise_rest]
@[simp] theorem raise0_tc (s : State) (c : Nat) (d : Rec) : (s.raise0 c d).tc = s.tc := by
  unfold State.raise0; rw [raise_rest]
@[simp] theorem raise0_hall (s : State) (c : Nat) (d : Rec) : (s.raise0 c d).hall = s.hall := by
  unfold State.raise0; rw [raise_rest]
@[simp] theorem raise0_bez (s : State) (c : Nat) (d : Rec) : (s.raise0 c d).bez = s.bez := by
  unfold State.raise0; rw [raise_rest]
@[simp] theorem raise0_pwr (s : State) (c : Nat) (d : Rec) : (s.raise0 c d).pwr = s.pwr := by
  unfold State.raise0; rw [raise_rest]
@[simp] theorem raise0_fault (s : State) (c : Nat) (d : Rec) : (s.raise0 c d).fault = s.fault := by
  unfold State.raise0; rw [raise_rest]
@[simp] theorem raise0_loupe (s : State) (c : Nat) (d : Rec) : (s.raise0 c d).loupe = s.loupe := by
  unfold State.raise0; rw [raise_rest]
@[simp] theorem raise0_clasp (s : State) (c : Nat) (d : Rec) : (s.raise0 c d).clasp = s.clasp := by
  unfold State.raise0; rw [raise_rest]
@[simp] theorem raise0_ref (s : State) (c : Nat) (d : Rec) : (s.raise0 c d).ref = s.ref := by
  unfold State.raise0; rw [raise_rest]
@[simp] theorem raise0_gnss (s : State) (c : Nat) (d : Rec) : (s.raise0 c d).gnss = s.gnss := by
  unfold State.raise0; rw [raise_rest]
@[simp] theorem raise0_ens (s : State) (c : Nat) (d : Rec) : (s.raise0 c d).ens = s.ens := by
  unfold State.raise0; rw [raise_rest]
@[simp] theorem raise0_fil (s : State) (c : Nat) (d : Rec) : (s.raise0 c d).fil = s.fil := by
  unfold State.raise0; rw [raise_rest]
@[simp] theorem raise0_out (s : State) (c : Nat) (d : Rec) : (s.raise0 c d).out = s.out := by
  unfold State.raise0; rw [raise_rest]
@[simp] theorem raise0_la (s : State) (c : Nat) (d : Rec) : (s.raise0 c d).la = s.la := by
  unfold State.raise0; rw [raise_rest]
@[simp] theorem raise0_ports (s : State) (c : Nat) (d : Rec) : (s.raise0 c d).ports = s.ports := by
  unfold State.raise0; rw [raise_rest]
@[simp] theorem raise0_tm (s : State) (c : Nat) (d : Rec) : (s.raise0 c d).tm = s.tm := by
  unfold State.raise0; rw [raise_rest]
@[simp] theorem raise0_tse (s : State) (c : Nat) (d : Rec) : (s.raise0 c d).tse = s.tse := by
  unfold State.raise0; rw [raise_rest]
@[simp] theorem raise0_sta (s : State) (c : Nat) (d : Rec) : (s.raise0 c d).sta = s.sta := by
  unfold State.raise0; rw [raise_rest]
@[simp] theorem raise0_keys (s : State) (c : Nat) (d : Rec) : (s.raise0 c d).keys = s.keys := by
  unfold State.raise0; rw [raise_rest]
@[simp] theorem raise0_free (s : State) (c : Nat) (d : Rec) : (s.raise0 c d).free = s.free := by
  unfold State.raise0; rw [raise_rest]
@[simp] theorem raise0_pending (s : State) (c : Nat) (d : Rec) : (s.raise0 c d).pending = s.pending := by
  unfold State.raise0; rw [raise_rest]
@[simp] theorem logPut_tc (s : State) (e : LogEntry) : (s.logPut e).tc = s.tc := rfl
@[simp] theorem logPut_hall (s : State) (e : LogEntry) : (s.logPut e).hall = s.hall := rfl
@[simp] theorem logPut_mbx (s : State) (e : LogEntry) : (s.logPut e).mbx = s.mbx := rfl
@[simp] theorem logPut_bez (s : State) (e : LogEntry) : (s.logPut e).bez = s.bez := rfl
@[simp] theorem logPut_pwr (s : State) (e : LogEntry) : (s.logPut e).pwr = s.pwr := rfl
@[simp] theorem logPut_fault (s : State) (e : LogEntry) : (s.logPut e).fault = s.fault := rfl
@[simp] theorem logPut_loupe (s : State) (e : LogEntry) : (s.logPut e).loupe = s.loupe := rfl
@[simp] theorem logPut_clasp (s : State) (e : LogEntry) : (s.logPut e).clasp = s.clasp := rfl
@[simp] theorem logPut_ref (s : State) (e : LogEntry) : (s.logPut e).ref = s.ref := rfl
@[simp] theorem logPut_gnss (s : State) (e : LogEntry) : (s.logPut e).gnss = s.gnss := rfl
@[simp] theorem logPut_ens (s : State) (e : LogEntry) : (s.logPut e).ens = s.ens := rfl
@[simp] theorem logPut_fil (s : State) (e : LogEntry) : (s.logPut e).fil = s.fil := rfl
@[simp] theorem logPut_out (s : State) (e : LogEntry) : (s.logPut e).out = s.out := rfl
@[simp] theorem logPut_la (s : State) (e : LogEntry) : (s.logPut e).la = s.la := rfl
@[simp] theorem logPut_ports (s : State) (e : LogEntry) : (s.logPut e).ports = s.ports := rfl
@[simp] theorem logPut_tm (s : State) (e : LogEntry) : (s.logPut e).tm = s.tm := rfl
@[simp] theorem logPut_tse (s : State) (e : LogEntry) : (s.logPut e).tse = s.tse := rfl
@[simp] theorem logPut_sta (s : State) (e : LogEntry) : (s.logPut e).sta = s.sta := rfl
@[simp] theorem logPut_keys (s : State) (e : LogEntry) : (s.logPut e).keys = s.keys := rfl
@[simp] theorem logPut_free (s : State) (e : LogEntry) : (s.logPut e).free = s.free := rfl
@[simp] theorem logPut_pending (s : State) (e : LogEntry) : (s.logPut e).pending = s.pending := rfl
@[simp] theorem log_tc (s : State) (c v j : Nat) (d : Rec) : (s.log c v j d).tc = s.tc := rfl
@[simp] theorem log_hall (s : State) (c v j : Nat) (d : Rec) : (s.log c v j d).hall = s.hall := rfl
@[simp] theorem log_mbx (s : State) (c v j : Nat) (d : Rec) : (s.log c v j d).mbx = s.mbx := rfl
@[simp] theorem log_bez (s : State) (c v j : Nat) (d : Rec) : (s.log c v j d).bez = s.bez := rfl
@[simp] theorem log_pwr (s : State) (c v j : Nat) (d : Rec) : (s.log c v j d).pwr = s.pwr := rfl
@[simp] theorem log_fault (s : State) (c v j : Nat) (d : Rec) : (s.log c v j d).fault = s.fault := rfl
@[simp] theorem log_loupe (s : State) (c v j : Nat) (d : Rec) : (s.log c v j d).loupe = s.loupe := rfl
@[simp] theorem log_clasp (s : State) (c v j : Nat) (d : Rec) : (s.log c v j d).clasp = s.clasp := rfl
@[simp] theorem log_ref (s : State) (c v j : Nat) (d : Rec) : (s.log c v j d).ref = s.ref := rfl
@[simp] theorem log_gnss (s : State) (c v j : Nat) (d : Rec) : (s.log c v j d).gnss = s.gnss := rfl
@[simp] theorem log_ens (s : State) (c v j : Nat) (d : Rec) : (s.log c v j d).ens = s.ens := rfl
@[simp] theorem log_fil (s : State) (c v j : Nat) (d : Rec) : (s.log c v j d).fil = s.fil := rfl
@[simp] theorem log_out (s : State) (c v j : Nat) (d : Rec) : (s.log c v j d).out = s.out := rfl
@[simp] theorem log_la (s : State) (c v j : Nat) (d : Rec) : (s.log c v j d).la = s.la := rfl
@[simp] theorem log_ports (s : State) (c v j : Nat) (d : Rec) : (s.log c v j d).ports = s.ports := rfl
@[simp] theorem log_tm (s : State) (c v j : Nat) (d : Rec) : (s.log c v j d).tm = s.tm := rfl
@[simp] theorem log_tse (s : State) (c v j : Nat) (d : Rec) : (s.log c v j d).tse = s.tse := rfl
@[simp] theorem log_sta (s : State) (c v j : Nat) (d : Rec) : (s.log c v j d).sta = s.sta := rfl
@[simp] theorem log_keys (s : State) (c v j : Nat) (d : Rec) : (s.log c v j d).keys = s.keys := rfl
@[simp] theorem log_free (s : State) (c v j : Nat) (d : Rec) : (s.log c v j d).free = s.free := rfl
@[simp] theorem log_pending (s : State) (c v j : Nat) (d : Rec) : (s.log c v j d).pending = s.pending := rfl
@[simp] theorem logPartner_tc (s : State) (c q : Nat) : (s.logPartner c q).tc = s.tc := by
  rw [logPartner_rest]
@[simp] theorem logPartner_hall (s : State) (c q : Nat) : (s.logPartner c q).hall = s.hall := by
  rw [logPartner_rest]
@[simp] theorem logPartner_mbx (s : State) (c q : Nat) : (s.logPartner c q).mbx = s.mbx := by
  rw [logPartner_rest]
@[simp] theorem logPartner_bez (s : State) (c q : Nat) : (s.logPartner c q).bez = s.bez := by
  rw [logPartner_rest]
@[simp] theorem logPartner_pwr (s : State) (c q : Nat) : (s.logPartner c q).pwr = s.pwr := by
  rw [logPartner_rest]
@[simp] theorem logPartner_fault (s : State) (c q : Nat) : (s.logPartner c q).fault = s.fault := by
  rw [logPartner_rest]
@[simp] theorem logPartner_loupe (s : State) (c q : Nat) : (s.logPartner c q).loupe = s.loupe := by
  rw [logPartner_rest]
@[simp] theorem logPartner_clasp (s : State) (c q : Nat) : (s.logPartner c q).clasp = s.clasp := by
  rw [logPartner_rest]
@[simp] theorem logPartner_ref (s : State) (c q : Nat) : (s.logPartner c q).ref = s.ref := by
  rw [logPartner_rest]
@[simp] theorem logPartner_gnss (s : State) (c q : Nat) : (s.logPartner c q).gnss = s.gnss := by
  rw [logPartner_rest]
@[simp] theorem logPartner_ens (s : State) (c q : Nat) : (s.logPartner c q).ens = s.ens := by
  rw [logPartner_rest]
@[simp] theorem logPartner_fil (s : State) (c q : Nat) : (s.logPartner c q).fil = s.fil := by
  rw [logPartner_rest]
@[simp] theorem logPartner_out (s : State) (c q : Nat) : (s.logPartner c q).out = s.out := by
  rw [logPartner_rest]
@[simp] theorem logPartner_la (s : State) (c q : Nat) : (s.logPartner c q).la = s.la := by
  rw [logPartner_rest]
@[simp] theorem logPartner_ports (s : State) (c q : Nat) : (s.logPartner c q).ports = s.ports := by
  rw [logPartner_rest]
@[simp] theorem logPartner_tm (s : State) (c q : Nat) : (s.logPartner c q).tm = s.tm := by
  rw [logPartner_rest]
@[simp] theorem logPartner_tse (s : State) (c q : Nat) : (s.logPartner c q).tse = s.tse := by
  rw [logPartner_rest]
@[simp] theorem logPartner_sta (s : State) (c q : Nat) : (s.logPartner c q).sta = s.sta := by
  rw [logPartner_rest]
@[simp] theorem logPartner_keys (s : State) (c q : Nat) : (s.logPartner c q).keys = s.keys := by
  rw [logPartner_rest]
@[simp] theorem logPartner_free (s : State) (c q : Nat) : (s.logPartner c q).free = s.free := by
  rw [logPartner_rest]
@[simp] theorem logPartner_pending (s : State) (c q : Nat) : (s.logPartner c q).pending = s.pending := by
  rw [logPartner_rest]
@[simp] theorem announce_tc (s : State) (b v : Nat) : (s.announce b v).tc = s.tc := rfl
@[simp] theorem announce_hall (s : State) (b v : Nat) : (s.announce b v).hall = s.hall := rfl
@[simp] theorem announce_bez (s : State) (b v : Nat) : (s.announce b v).bez = s.bez := rfl
@[simp] theorem announce_pwr (s : State) (b v : Nat) : (s.announce b v).pwr = s.pwr := rfl
@[simp] theorem announce_mgmt (s : State) (b v : Nat) : (s.announce b v).mgmt = s.mgmt := rfl
@[simp] theorem announce_fault (s : State) (b v : Nat) : (s.announce b v).fault = s.fault := rfl
@[simp] theorem announce_loupe (s : State) (b v : Nat) : (s.announce b v).loupe = s.loupe := rfl
@[simp] theorem announce_clasp (s : State) (b v : Nat) : (s.announce b v).clasp = s.clasp := rfl
@[simp] theorem announce_ref (s : State) (b v : Nat) : (s.announce b v).ref = s.ref := rfl
@[simp] theorem announce_gnss (s : State) (b v : Nat) : (s.announce b v).gnss = s.gnss := rfl
@[simp] theorem announce_ens (s : State) (b v : Nat) : (s.announce b v).ens = s.ens := rfl
@[simp] theorem announce_fil (s : State) (b v : Nat) : (s.announce b v).fil = s.fil := rfl
@[simp] theorem announce_out (s : State) (b v : Nat) : (s.announce b v).out = s.out := rfl
@[simp] theorem announce_la (s : State) (b v : Nat) : (s.announce b v).la = s.la := rfl
@[simp] theorem announce_ports (s : State) (b v : Nat) : (s.announce b v).ports = s.ports := rfl
@[simp] theorem announce_tm (s : State) (b v : Nat) : (s.announce b v).tm = s.tm := rfl
@[simp] theorem announce_tse (s : State) (b v : Nat) : (s.announce b v).tse = s.tse := rfl
@[simp] theorem announce_sta (s : State) (b v : Nat) : (s.announce b v).sta = s.sta := rfl
@[simp] theorem announce_keys (s : State) (b v : Nat) : (s.announce b v).keys = s.keys := rfl
@[simp] theorem announce_free (s : State) (b v : Nat) : (s.announce b v).free = s.free := rfl
@[simp] theorem announce_pending (s : State) (b v : Nat) : (s.announce b v).pending = s.pending := rfl
@[simp] theorem dueFor_tc (s : State) (b : Nat) (e : DueEvent) : (s.dueFor b e).tc = s.tc := rfl
@[simp] theorem dueFor_hall (s : State) (b : Nat) (e : DueEvent) : (s.dueFor b e).hall = s.hall := rfl
@[simp] theorem dueFor_bez (s : State) (b : Nat) (e : DueEvent) : (s.dueFor b e).bez = s.bez := rfl
@[simp] theorem dueFor_pwr (s : State) (b : Nat) (e : DueEvent) : (s.dueFor b e).pwr = s.pwr := rfl
@[simp] theorem dueFor_mgmt (s : State) (b : Nat) (e : DueEvent) : (s.dueFor b e).mgmt = s.mgmt := rfl
@[simp] theorem dueFor_fault (s : State) (b : Nat) (e : DueEvent) : (s.dueFor b e).fault = s.fault := rfl
@[simp] theorem dueFor_loupe (s : State) (b : Nat) (e : DueEvent) : (s.dueFor b e).loupe = s.loupe := rfl
@[simp] theorem dueFor_clasp (s : State) (b : Nat) (e : DueEvent) : (s.dueFor b e).clasp = s.clasp := rfl
@[simp] theorem dueFor_ref (s : State) (b : Nat) (e : DueEvent) : (s.dueFor b e).ref = s.ref := rfl
@[simp] theorem dueFor_gnss (s : State) (b : Nat) (e : DueEvent) : (s.dueFor b e).gnss = s.gnss := rfl
@[simp] theorem dueFor_ens (s : State) (b : Nat) (e : DueEvent) : (s.dueFor b e).ens = s.ens := rfl
@[simp] theorem dueFor_fil (s : State) (b : Nat) (e : DueEvent) : (s.dueFor b e).fil = s.fil := rfl
@[simp] theorem dueFor_out (s : State) (b : Nat) (e : DueEvent) : (s.dueFor b e).out = s.out := rfl
@[simp] theorem dueFor_la (s : State) (b : Nat) (e : DueEvent) : (s.dueFor b e).la = s.la := rfl
@[simp] theorem dueFor_ports (s : State) (b : Nat) (e : DueEvent) : (s.dueFor b e).ports = s.ports := rfl
@[simp] theorem dueFor_tm (s : State) (b : Nat) (e : DueEvent) : (s.dueFor b e).tm = s.tm := rfl
@[simp] theorem dueFor_tse (s : State) (b : Nat) (e : DueEvent) : (s.dueFor b e).tse = s.tse := rfl
@[simp] theorem dueFor_sta (s : State) (b : Nat) (e : DueEvent) : (s.dueFor b e).sta = s.sta := rfl
@[simp] theorem dueFor_keys (s : State) (b : Nat) (e : DueEvent) : (s.dueFor b e).keys = s.keys := rfl
@[simp] theorem dueFor_free (s : State) (b : Nat) (e : DueEvent) : (s.dueFor b e).free = s.free := rfl
@[simp] theorem dueFor_pending (s : State) (b : Nat) (e : DueEvent) : (s.dueFor b e).pending = s.pending := rfl
@[simp] theorem countRaw_tc (s : State) (i n : Nat) : (s.countRaw i n).tc = s.tc := by
  rw [countRaw_rest]
@[simp] theorem countRaw_hall (s : State) (i n : Nat) : (s.countRaw i n).hall = s.hall := by
  rw [countRaw_rest]
@[simp] theorem countRaw_bez (s : State) (i n : Nat) : (s.countRaw i n).bez = s.bez := by
  rw [countRaw_rest]
@[simp] theorem countRaw_pwr (s : State) (i n : Nat) : (s.countRaw i n).pwr = s.pwr := by
  rw [countRaw_rest]
@[simp] theorem countRaw_fault (s : State) (i n : Nat) : (s.countRaw i n).fault = s.fault := by
  rw [countRaw_rest]
@[simp] theorem countRaw_clasp (s : State) (i n : Nat) : (s.countRaw i n).clasp = s.clasp := by
  rw [countRaw_rest]
@[simp] theorem countRaw_ref (s : State) (i n : Nat) : (s.countRaw i n).ref = s.ref := by
  rw [countRaw_rest]
@[simp] theorem countRaw_gnss (s : State) (i n : Nat) : (s.countRaw i n).gnss = s.gnss := by
  rw [countRaw_rest]
@[simp] theorem countRaw_ens (s : State) (i n : Nat) : (s.countRaw i n).ens = s.ens := by
  rw [countRaw_rest]
@[simp] theorem countRaw_fil (s : State) (i n : Nat) : (s.countRaw i n).fil = s.fil := by
  rw [countRaw_rest]
@[simp] theorem countRaw_out (s : State) (i n : Nat) : (s.countRaw i n).out = s.out := by
  rw [countRaw_rest]
@[simp] theorem countRaw_la (s : State) (i n : Nat) : (s.countRaw i n).la = s.la := by
  rw [countRaw_rest]
@[simp] theorem countRaw_ports (s : State) (i n : Nat) : (s.countRaw i n).ports = s.ports := by
  rw [countRaw_rest]
@[simp] theorem countRaw_tm (s : State) (i n : Nat) : (s.countRaw i n).tm = s.tm := by
  rw [countRaw_rest]
@[simp] theorem countRaw_tse (s : State) (i n : Nat) : (s.countRaw i n).tse = s.tse := by
  rw [countRaw_rest]
@[simp] theorem countRaw_sta (s : State) (i n : Nat) : (s.countRaw i n).sta = s.sta := by
  rw [countRaw_rest]
@[simp] theorem countRaw_keys (s : State) (i n : Nat) : (s.countRaw i n).keys = s.keys := by
  rw [countRaw_rest]
@[simp] theorem countRaw_free (s : State) (i n : Nat) : (s.countRaw i n).free = s.free := by
  rw [countRaw_rest]
@[simp] theorem countRaw_pending (s : State) (i n : Nat) : (s.countRaw i n).pending = s.pending := by
  rw [countRaw_rest]
@[simp] theorem countN_tc (s : State) (k p n : Nat) : (s.countN k p n).tc = s.tc := by
  rw [countN_rest]
@[simp] theorem countN_hall (s : State) (k p n : Nat) : (s.countN k p n).hall = s.hall := by
  rw [countN_rest]
@[simp] theorem countN_bez (s : State) (k p n : Nat) : (s.countN k p n).bez = s.bez := by
  rw [countN_rest]
@[simp] theorem countN_pwr (s : State) (k p n : Nat) : (s.countN k p n).pwr = s.pwr := by
  rw [countN_rest]
@[simp] theorem countN_fault (s : State) (k p n : Nat) : (s.countN k p n).fault = s.fault := by
  rw [countN_rest]
@[simp] theorem countN_clasp (s : State) (k p n : Nat) : (s.countN k p n).clasp = s.clasp := by
  rw [countN_rest]
@[simp] theorem countN_ref (s : State) (k p n : Nat) : (s.countN k p n).ref = s.ref := by
  rw [countN_rest]
@[simp] theorem countN_gnss (s : State) (k p n : Nat) : (s.countN k p n).gnss = s.gnss := by
  rw [countN_rest]
@[simp] theorem countN_ens (s : State) (k p n : Nat) : (s.countN k p n).ens = s.ens := by
  rw [countN_rest]
@[simp] theorem countN_fil (s : State) (k p n : Nat) : (s.countN k p n).fil = s.fil := by
  rw [countN_rest]
@[simp] theorem countN_out (s : State) (k p n : Nat) : (s.countN k p n).out = s.out := by
  rw [countN_rest]
@[simp] theorem countN_la (s : State) (k p n : Nat) : (s.countN k p n).la = s.la := by
  rw [countN_rest]
@[simp] theorem countN_ports (s : State) (k p n : Nat) : (s.countN k p n).ports = s.ports := by
  rw [countN_rest]
@[simp] theorem countN_tm (s : State) (k p n : Nat) : (s.countN k p n).tm = s.tm := by
  rw [countN_rest]
@[simp] theorem countN_tse (s : State) (k p n : Nat) : (s.countN k p n).tse = s.tse := by
  rw [countN_rest]
@[simp] theorem countN_sta (s : State) (k p n : Nat) : (s.countN k p n).sta = s.sta := by
  rw [countN_rest]
@[simp] theorem countN_keys (s : State) (k p n : Nat) : (s.countN k p n).keys = s.keys := by
  rw [countN_rest]
@[simp] theorem countN_free (s : State) (k p n : Nat) : (s.countN k p n).free = s.free := by
  rw [countN_rest]
@[simp] theorem countN_pending (s : State) (k p n : Nat) : (s.countN k p n).pending = s.pending := by
  rw [countN_rest]
@[simp] theorem countPort_tc (s : State) (p n : Nat) : (s.countPort p n).tc = s.tc := by
  unfold State.countPort; rw [countN_rest]
@[simp] theorem countPort_hall (s : State) (p n : Nat) : (s.countPort p n).hall = s.hall := by
  unfold State.countPort; rw [countN_rest]
@[simp] theorem countPort_bez (s : State) (p n : Nat) : (s.countPort p n).bez = s.bez := by
  unfold State.countPort; rw [countN_rest]
@[simp] theorem countPort_pwr (s : State) (p n : Nat) : (s.countPort p n).pwr = s.pwr := by
  unfold State.countPort; rw [countN_rest]
@[simp] theorem countPort_fault (s : State) (p n : Nat) : (s.countPort p n).fault = s.fault := by
  unfold State.countPort; rw [countN_rest]
@[simp] theorem countPort_clasp (s : State) (p n : Nat) : (s.countPort p n).clasp = s.clasp := by
  unfold State.countPort; rw [countN_rest]
@[simp] theorem countPort_ref (s : State) (p n : Nat) : (s.countPort p n).ref = s.ref := by
  unfold State.countPort; rw [countN_rest]
@[simp] theorem countPort_gnss (s : State) (p n : Nat) : (s.countPort p n).gnss = s.gnss := by
  unfold State.countPort; rw [countN_rest]
@[simp] theorem countPort_ens (s : State) (p n : Nat) : (s.countPort p n).ens = s.ens := by
  unfold State.countPort; rw [countN_rest]
@[simp] theorem countPort_fil (s : State) (p n : Nat) : (s.countPort p n).fil = s.fil := by
  unfold State.countPort; rw [countN_rest]
@[simp] theorem countPort_out (s : State) (p n : Nat) : (s.countPort p n).out = s.out := by
  unfold State.countPort; rw [countN_rest]
@[simp] theorem countPort_la (s : State) (p n : Nat) : (s.countPort p n).la = s.la := by
  unfold State.countPort; rw [countN_rest]
@[simp] theorem countPort_ports (s : State) (p n : Nat) : (s.countPort p n).ports = s.ports := by
  unfold State.countPort; rw [countN_rest]
@[simp] theorem countPort_tm (s : State) (p n : Nat) : (s.countPort p n).tm = s.tm := by
  unfold State.countPort; rw [countN_rest]
@[simp] theorem countPort_tse (s : State) (p n : Nat) : (s.countPort p n).tse = s.tse := by
  unfold State.countPort; rw [countN_rest]
@[simp] theorem countPort_sta (s : State) (p n : Nat) : (s.countPort p n).sta = s.sta := by
  unfold State.countPort; rw [countN_rest]
@[simp] theorem countPort_keys (s : State) (p n : Nat) : (s.countPort p n).keys = s.keys := by
  unfold State.countPort; rw [countN_rest]
@[simp] theorem countPort_free (s : State) (p n : Nat) : (s.countPort p n).free = s.free := by
  unfold State.countPort; rw [countN_rest]
@[simp] theorem countPort_pending (s : State) (p n : Nat) : (s.countPort p n).pending = s.pending := by
  unfold State.countPort; rw [countN_rest]
@[simp] theorem countBezel_tc (s : State) (b n : Nat) : (s.countBezel b n).tc = s.tc := by
  unfold State.countBezel; rw [countN_rest]
@[simp] theorem countBezel_hall (s : State) (b n : Nat) : (s.countBezel b n).hall = s.hall := by
  unfold State.countBezel; rw [countN_rest]
@[simp] theorem countBezel_bez (s : State) (b n : Nat) : (s.countBezel b n).bez = s.bez := by
  unfold State.countBezel; rw [countN_rest]
@[simp] theorem countBezel_pwr (s : State) (b n : Nat) : (s.countBezel b n).pwr = s.pwr := by
  unfold State.countBezel; rw [countN_rest]
@[simp] theorem countBezel_fault (s : State) (b n : Nat) : (s.countBezel b n).fault = s.fault := by
  unfold State.countBezel; rw [countN_rest]
@[simp] theorem countBezel_clasp (s : State) (b n : Nat) : (s.countBezel b n).clasp = s.clasp := by
  unfold State.countBezel; rw [countN_rest]
@[simp] theorem countBezel_ref (s : State) (b n : Nat) : (s.countBezel b n).ref = s.ref := by
  unfold State.countBezel; rw [countN_rest]
@[simp] theorem countBezel_gnss (s : State) (b n : Nat) : (s.countBezel b n).gnss = s.gnss := by
  unfold State.countBezel; rw [countN_rest]
@[simp] theorem countBezel_ens (s : State) (b n : Nat) : (s.countBezel b n).ens = s.ens := by
  unfold State.countBezel; rw [countN_rest]
@[simp] theorem countBezel_fil (s : State) (b n : Nat) : (s.countBezel b n).fil = s.fil := by
  unfold State.countBezel; rw [countN_rest]
@[simp] theorem countBezel_out (s : State) (b n : Nat) : (s.countBezel b n).out = s.out := by
  unfold State.countBezel; rw [countN_rest]
@[simp] theorem countBezel_la (s : State) (b n : Nat) : (s.countBezel b n).la = s.la := by
  unfold State.countBezel; rw [countN_rest]
@[simp] theorem countBezel_ports (s : State) (b n : Nat) : (s.countBezel b n).ports = s.ports := by
  unfold State.countBezel; rw [countN_rest]
@[simp] theorem countBezel_tm (s : State) (b n : Nat) : (s.countBezel b n).tm = s.tm := by
  unfold State.countBezel; rw [countN_rest]
@[simp] theorem countBezel_tse (s : State) (b n : Nat) : (s.countBezel b n).tse = s.tse := by
  unfold State.countBezel; rw [countN_rest]
@[simp] theorem countBezel_sta (s : State) (b n : Nat) : (s.countBezel b n).sta = s.sta := by
  unfold State.countBezel; rw [countN_rest]
@[simp] theorem countBezel_keys (s : State) (b n : Nat) : (s.countBezel b n).keys = s.keys := by
  unfold State.countBezel; rw [countN_rest]
@[simp] theorem countBezel_free (s : State) (b n : Nat) : (s.countBezel b n).free = s.free := by
  unfold State.countBezel; rw [countN_rest]
@[simp] theorem countBezel_pending (s : State) (b n : Nat) : (s.countBezel b n).pending = s.pending := by
  unfold State.countBezel; rw [countN_rest]
@[simp] theorem store_tc (s : State) (k i : Nat) : (s.store k i).tc = s.tc := rfl
@[simp] theorem store_hall (s : State) (k i : Nat) : (s.store k i).hall = s.hall := rfl
@[simp] theorem store_bez (s : State) (k i : Nat) : (s.store k i).bez = s.bez := rfl
@[simp] theorem store_pwr (s : State) (k i : Nat) : (s.store k i).pwr = s.pwr := rfl
@[simp] theorem store_fault (s : State) (k i : Nat) : (s.store k i).fault = s.fault := rfl
@[simp] theorem store_loupe (s : State) (k i : Nat) : (s.store k i).loupe = s.loupe := rfl
@[simp] theorem store_clasp (s : State) (k i : Nat) : (s.store k i).clasp = s.clasp := rfl
@[simp] theorem store_ref (s : State) (k i : Nat) : (s.store k i).ref = s.ref := rfl
@[simp] theorem store_gnss (s : State) (k i : Nat) : (s.store k i).gnss = s.gnss := rfl
@[simp] theorem store_ens (s : State) (k i : Nat) : (s.store k i).ens = s.ens := rfl
@[simp] theorem store_fil (s : State) (k i : Nat) : (s.store k i).fil = s.fil := rfl
@[simp] theorem store_out (s : State) (k i : Nat) : (s.store k i).out = s.out := rfl
@[simp] theorem store_la (s : State) (k i : Nat) : (s.store k i).la = s.la := rfl
@[simp] theorem store_ports (s : State) (k i : Nat) : (s.store k i).ports = s.ports := rfl
@[simp] theorem store_tm (s : State) (k i : Nat) : (s.store k i).tm = s.tm := rfl
@[simp] theorem store_tse (s : State) (k i : Nat) : (s.store k i).tse = s.tse := rfl
@[simp] theorem store_sta (s : State) (k i : Nat) : (s.store k i).sta = s.sta := rfl
@[simp] theorem store_keys (s : State) (k i : Nat) : (s.store k i).keys = s.keys := rfl
@[simp] theorem store_free (s : State) (k i : Nat) : (s.store k i).free = s.free := rfl
@[simp] theorem store_pending (s : State) (k i : Nat) : (s.store k i).pending = s.pending := rfl
@[simp] theorem touch_tc (s : State) (k i : Nat) : (s.touch k i).tc = s.tc := rfl
@[simp] theorem touch_hall (s : State) (k i : Nat) : (s.touch k i).hall = s.hall := rfl
@[simp] theorem touch_bez (s : State) (k i : Nat) : (s.touch k i).bez = s.bez := rfl
@[simp] theorem touch_pwr (s : State) (k i : Nat) : (s.touch k i).pwr = s.pwr := rfl
@[simp] theorem touch_mgmt (s : State) (k i : Nat) : (s.touch k i).mgmt = s.mgmt := rfl
@[simp] theorem touch_fault (s : State) (k i : Nat) : (s.touch k i).fault = s.fault := rfl
@[simp] theorem touch_loupe (s : State) (k i : Nat) : (s.touch k i).loupe = s.loupe := rfl
@[simp] theorem touch_clasp (s : State) (k i : Nat) : (s.touch k i).clasp = s.clasp := rfl
@[simp] theorem touch_ref (s : State) (k i : Nat) : (s.touch k i).ref = s.ref := rfl
@[simp] theorem touch_gnss (s : State) (k i : Nat) : (s.touch k i).gnss = s.gnss := rfl
@[simp] theorem touch_ens (s : State) (k i : Nat) : (s.touch k i).ens = s.ens := rfl
@[simp] theorem touch_fil (s : State) (k i : Nat) : (s.touch k i).fil = s.fil := rfl
@[simp] theorem touch_out (s : State) (k i : Nat) : (s.touch k i).out = s.out := rfl
@[simp] theorem touch_la (s : State) (k i : Nat) : (s.touch k i).la = s.la := rfl
@[simp] theorem touch_ports (s : State) (k i : Nat) : (s.touch k i).ports = s.ports := rfl
@[simp] theorem touch_tm (s : State) (k i : Nat) : (s.touch k i).tm = s.tm := rfl
@[simp] theorem touch_tse (s : State) (k i : Nat) : (s.touch k i).tse = s.tse := rfl
@[simp] theorem touch_sta (s : State) (k i : Nat) : (s.touch k i).sta = s.sta := rfl
@[simp] theorem touch_keys (s : State) (k i : Nat) : (s.touch k i).keys = s.keys := rfl
@[simp] theorem touch_free (s : State) (k i : Nat) : (s.touch k i).free = s.free := rfl
@[simp] theorem touch_pending (s : State) (k i : Nat) : (s.touch k i).pending = s.pending := rfl
@[simp] theorem nextFree_tc (s : State) : (s.nextFree).tc = s.tc := rfl
@[simp] theorem nextFree_hall (s : State) : (s.nextFree).hall = s.hall := rfl
@[simp] theorem nextFree_mbx (s : State) : (s.nextFree).mbx = s.mbx := rfl
@[simp] theorem nextFree_bez (s : State) : (s.nextFree).bez = s.bez := rfl
@[simp] theorem nextFree_pwr (s : State) : (s.nextFree).pwr = s.pwr := rfl
@[simp] theorem nextFree_mgmt (s : State) : (s.nextFree).mgmt = s.mgmt := rfl
@[simp] theorem nextFree_fault (s : State) : (s.nextFree).fault = s.fault := rfl
@[simp] theorem nextFree_loupe (s : State) : (s.nextFree).loupe = s.loupe := rfl
@[simp] theorem nextFree_clasp (s : State) : (s.nextFree).clasp = s.clasp := rfl
@[simp] theorem nextFree_ref (s : State) : (s.nextFree).ref = s.ref := rfl
@[simp] theorem nextFree_gnss (s : State) : (s.nextFree).gnss = s.gnss := rfl
@[simp] theorem nextFree_ens (s : State) : (s.nextFree).ens = s.ens := rfl
@[simp] theorem nextFree_fil (s : State) : (s.nextFree).fil = s.fil := rfl
@[simp] theorem nextFree_out (s : State) : (s.nextFree).out = s.out := rfl
@[simp] theorem nextFree_la (s : State) : (s.nextFree).la = s.la := rfl
@[simp] theorem nextFree_ports (s : State) : (s.nextFree).ports = s.ports := rfl
@[simp] theorem nextFree_tm (s : State) : (s.nextFree).tm = s.tm := rfl
@[simp] theorem nextFree_tse (s : State) : (s.nextFree).tse = s.tse := rfl
@[simp] theorem nextFree_sta (s : State) : (s.nextFree).sta = s.sta := rfl
@[simp] theorem nextFree_keys (s : State) : (s.nextFree).keys = s.keys := rfl
@[simp] theorem nextFree_pending (s : State) : (s.nextFree).pending = s.pending := rfl
@[simp] theorem onFn_tc (s : State) (b : Nat) (f : FnSt → FnSt) : (s.onFn b f).tc = s.tc := rfl
@[simp] theorem onFn_hall (s : State) (b : Nat) (f : FnSt → FnSt) : (s.onFn b f).hall = s.hall := rfl
@[simp] theorem onFn_bez (s : State) (b : Nat) (f : FnSt → FnSt) : (s.onFn b f).bez = s.bez := rfl
@[simp] theorem onFn_pwr (s : State) (b : Nat) (f : FnSt → FnSt) : (s.onFn b f).pwr = s.pwr := rfl
@[simp] theorem onFn_mgmt (s : State) (b : Nat) (f : FnSt → FnSt) : (s.onFn b f).mgmt = s.mgmt := rfl
@[simp] theorem onFn_fault (s : State) (b : Nat) (f : FnSt → FnSt) : (s.onFn b f).fault = s.fault := rfl
@[simp] theorem onFn_loupe (s : State) (b : Nat) (f : FnSt → FnSt) : (s.onFn b f).loupe = s.loupe := rfl
@[simp] theorem onFn_clasp (s : State) (b : Nat) (f : FnSt → FnSt) : (s.onFn b f).clasp = s.clasp := rfl
@[simp] theorem onFn_ref (s : State) (b : Nat) (f : FnSt → FnSt) : (s.onFn b f).ref = s.ref := rfl
@[simp] theorem onFn_gnss (s : State) (b : Nat) (f : FnSt → FnSt) : (s.onFn b f).gnss = s.gnss := rfl
@[simp] theorem onFn_ens (s : State) (b : Nat) (f : FnSt → FnSt) : (s.onFn b f).ens = s.ens := rfl
@[simp] theorem onFn_fil (s : State) (b : Nat) (f : FnSt → FnSt) : (s.onFn b f).fil = s.fil := rfl
@[simp] theorem onFn_out (s : State) (b : Nat) (f : FnSt → FnSt) : (s.onFn b f).out = s.out := rfl
@[simp] theorem onFn_la (s : State) (b : Nat) (f : FnSt → FnSt) : (s.onFn b f).la = s.la := rfl
@[simp] theorem onFn_ports (s : State) (b : Nat) (f : FnSt → FnSt) : (s.onFn b f).ports = s.ports := rfl
@[simp] theorem onFn_tm (s : State) (b : Nat) (f : FnSt → FnSt) : (s.onFn b f).tm = s.tm := rfl
@[simp] theorem onFn_tse (s : State) (b : Nat) (f : FnSt → FnSt) : (s.onFn b f).tse = s.tse := rfl
@[simp] theorem onFn_sta (s : State) (b : Nat) (f : FnSt → FnSt) : (s.onFn b f).sta = s.sta := rfl
@[simp] theorem onFn_keys (s : State) (b : Nat) (f : FnSt → FnSt) : (s.onFn b f).keys = s.keys := rfl
@[simp] theorem onFn_free (s : State) (b : Nat) (f : FnSt → FnSt) : (s.onFn b f).free = s.free := rfl
@[simp] theorem onFn_pending (s : State) (b : Nat) (f : FnSt → FnSt) : (s.onFn b f).pending = s.pending := rfl
@[simp] theorem onQueue_tc (s : State) (b n : Nat) (f : CmdQueue → CmdQueue) : (s.onQueue b n f).tc = s.tc := rfl
@[simp] theorem onQueue_hall (s : State) (b n : Nat) (f : CmdQueue → CmdQueue) : (s.onQueue b n f).hall = s.hall := rfl
@[simp] theorem onQueue_bez (s : State) (b n : Nat) (f : CmdQueue → CmdQueue) : (s.onQueue b n f).bez = s.bez := rfl
@[simp] theorem onQueue_pwr (s : State) (b n : Nat) (f : CmdQueue → CmdQueue) : (s.onQueue b n f).pwr = s.pwr := rfl
@[simp] theorem onQueue_mgmt (s : State) (b n : Nat) (f : CmdQueue → CmdQueue) : (s.onQueue b n f).mgmt = s.mgmt := rfl
@[simp] theorem onQueue_fault (s : State) (b n : Nat) (f : CmdQueue → CmdQueue) : (s.onQueue b n f).fault = s.fault := rfl
@[simp] theorem onQueue_loupe (s : State) (b n : Nat) (f : CmdQueue → CmdQueue) : (s.onQueue b n f).loupe = s.loupe := rfl
@[simp] theorem onQueue_clasp (s : State) (b n : Nat) (f : CmdQueue → CmdQueue) : (s.onQueue b n f).clasp = s.clasp := rfl
@[simp] theorem onQueue_ref (s : State) (b n : Nat) (f : CmdQueue → CmdQueue) : (s.onQueue b n f).ref = s.ref := rfl
@[simp] theorem onQueue_gnss (s : State) (b n : Nat) (f : CmdQueue → CmdQueue) : (s.onQueue b n f).gnss = s.gnss := rfl
@[simp] theorem onQueue_ens (s : State) (b n : Nat) (f : CmdQueue → CmdQueue) : (s.onQueue b n f).ens = s.ens := rfl
@[simp] theorem onQueue_fil (s : State) (b n : Nat) (f : CmdQueue → CmdQueue) : (s.onQueue b n f).fil = s.fil := rfl
@[simp] theorem onQueue_out (s : State) (b n : Nat) (f : CmdQueue → CmdQueue) : (s.onQueue b n f).out = s.out := rfl
@[simp] theorem onQueue_la (s : State) (b n : Nat) (f : CmdQueue → CmdQueue) : (s.onQueue b n f).la = s.la := rfl
@[simp] theorem onQueue_ports (s : State) (b n : Nat) (f : CmdQueue → CmdQueue) : (s.onQueue b n f).ports = s.ports := rfl
@[simp] theorem onQueue_tm (s : State) (b n : Nat) (f : CmdQueue → CmdQueue) : (s.onQueue b n f).tm = s.tm := rfl
@[simp] theorem onQueue_tse (s : State) (b n : Nat) (f : CmdQueue → CmdQueue) : (s.onQueue b n f).tse = s.tse := rfl
@[simp] theorem onQueue_sta (s : State) (b n : Nat) (f : CmdQueue → CmdQueue) : (s.onQueue b n f).sta = s.sta := rfl
@[simp] theorem onQueue_keys (s : State) (b n : Nat) (f : CmdQueue → CmdQueue) : (s.onQueue b n f).keys = s.keys := rfl
@[simp] theorem onQueue_free (s : State) (b n : Nat) (f : CmdQueue → CmdQueue) : (s.onQueue b n f).free = s.free := rfl
@[simp] theorem onQueue_pending (s : State) (b n : Nat) (f : CmdQueue → CmdQueue) : (s.onQueue b n f).pending = s.pending := rfl

/-! ### What the effect of a configuring command may do to the mailboxes, the management subsystem and the Loupe -/

/-- Nothing but events that fell due, interrupt vectors, change counts, stored records and the log. -/
structure Calm (s t : State) : Prop where
  mbx : { t.mbx with fns := s.mbx.fns, objGen := s.mbx.objGen } = s.mbx
  fns : ∀ b, t.fn b = { s.fn b with vecs := (t.fn b).vecs, due := (t.fn b).due }
  mgmt : MgmtFrame s t
  loupe : t.loupe = s.loupe

theorem Calm.refl (s : State) : Calm s s := ⟨rfl, fun _ => rfl, rfl, rfl⟩

theorem Calm.trans {s t u : State} (h : Calm s t) (k : Calm t u) : Calm s u := by
  refine ⟨?_, fun b => ?_, ?_, k.loupe.trans h.loupe⟩
  · have := congrArg (fun m : MbxSt => { m with fns := s.mbx.fns, objGen := s.mbx.objGen }) k.mbx
    exact this.trans h.mbx
  · rw [k.fns b, h.fns b]
  · have h1 := h.mgmt
    have h2 := k.mgmt
    unfold MgmtFrame at *
    have := congrArg (fun m : MgmtSt => { m with recs := s.mgmt.recs, boot := s.mgmt.boot, writing := s.mgmt.writing, banks := s.mgmt.banks, staged := s.mgmt.staged, lseq := s.mgmt.lseq, logSec := s.mgmt.logSec, logRate := s.mgmt.logRate, dropped := s.mgmt.dropped }) h2
    exact this.trans h1

/-- A change of the other blocks is no matter. -/
theorem Calm.rest {s t u : State} (h : Calm s t) (hm : u.mbx = t.mbx) (hg : u.mgmt = t.mgmt) (hl : u.loupe = t.loupe) : Calm s u := by
  refine ⟨?_, fun b => ?_, ?_, hl.trans h.loupe⟩
  · rw [hm]; exact h.mbx
  · have := h.fns b
    unfold State.fn at this ⊢
    rw [hm]; exact this
  · have := h.mgmt
    unfold MgmtFrame at this ⊢
    rw [hg]; exact this

theorem Quiet.calm {s t : State} (h : Quiet s t) (hl : t.loupe = s.loupe) : Calm s t := by
  refine ⟨?_, h.fns, ?_, hl⟩
  · have := congrArg (fun m : MbxSt => { m with objGen := s.mbx.objGen }) h.mbx
    exact this
  · unfold MgmtFrame
    rw [h.mgmt]

theorem Calm.raise {s t : State} (h : Calm s t) (bs : List Nat) (c : Nat) (d : Rec) (v : Nat) : Calm s (t.raise bs c d v) :=
  h.trans ((raise_quiet _ _ _ _ _).calm (raise_loupe _ _ _ _ _))

theorem Calm.raise0 {s t : State} (h : Calm s t) (c : Nat) (d : Rec) : Calm s (t.raise0 c d) := h.raise _ _ _ _

theorem Calm.raiseAll {s t : State} (h : Calm s t) (c : Nat) (d : Rec) : Calm s (t.raiseAll c d) := h.raise _ _ _ _

theorem Calm.log {s t : State} (h : Calm s t) (c v j : Nat) (d : Rec) : Calm s (t.log c v j d) :=
  h.trans ((log_quiet _ _ _ _ _).calm rfl)

theorem Calm.announce {s t : State} (h : Calm s t) (b v : Nat) : Calm s (t.announce b v) := h.trans ((announce_quiet _ _ _).calm rfl)

theorem Calm.store {s t : State} (h : Calm s t) (k i : Nat) : Calm s (t.store k i) :=
  h.trans ⟨rfl, fun _ => rfl, rfl, rfl⟩

theorem Calm.touch {s t : State} (h : Calm s t) (k i : Nat) : Calm s (t.touch k i) :=
  h.trans ⟨rfl, fun _ => rfl, rfl, rfl⟩

theorem Calm.onTc {s t : State} (h : Calm s t) (f : TcSt → TcSt) : Calm s (t.onTc f) := h.rest rfl rfl rfl
theorem Calm.onHall {s t : State} (h : Calm s t) (f : HallSt → HallSt) : Calm s (t.onHall f) := h.rest rfl rfl rfl
theorem Calm.onBez {s t : State} (h : Calm s t) (f : BezSt → BezSt) : Calm s (t.onBez f) := h.rest rfl rfl rfl
theorem Calm.onPwr {s t : State} (h : Calm s t) (f : PwrSt → PwrSt) : Calm s (t.onPwr f) := h.rest rfl rfl rfl
theorem Calm.onFault {s t : State} (h : Calm s t) (f : FaultSt → FaultSt) : Calm s (t.onFault f) := h.rest rfl rfl rfl
theorem Calm.onClasp {s t : State} (h : Calm s t) (f : ClaspSt → ClaspSt) : Calm s (t.onClasp f) := h.rest rfl rfl rfl
theorem Calm.onRef {s t : State} (h : Calm s t) (f : RefSt → RefSt) : Calm s (t.onRef f) := h.rest rfl rfl rfl
theorem Calm.onGnss {s t : State} (h : Calm s t) (f : GnssSt → GnssSt) : Calm s (t.onGnss f) := h.rest rfl rfl rfl
theorem Calm.onEns {s t : State} (h : Calm s t) (f : EnsSt → EnsSt) : Calm s (t.onEns f) := h.rest rfl rfl rfl
theorem Calm.onFil {s t : State} (h : Calm s t) (f : FilSt → FilSt) : Calm s (t.onFil f) := h.rest rfl rfl rfl
theorem Calm.onOut {s t : State} (h : Calm s t) (f : OutSt → OutSt) : Calm s (t.onOut f) := h.rest rfl rfl rfl
theorem Calm.onLa {s t : State} (h : Calm s t) (f : LaSt → LaSt) : Calm s (t.onLa f) := h.rest rfl rfl rfl
theorem Calm.onPorts {s t : State} (h : Calm s t) (f : PortsSt → PortsSt) : Calm s (t.onPorts f) := h.rest rfl rfl rfl
theorem Calm.onTm {s t : State} (h : Calm s t) (f : TmSt → TmSt) : Calm s (t.onTm f) := h.rest rfl rfl rfl
theorem Calm.onTse {s t : State} (h : Calm s t) (f : TseSt → TseSt) : Calm s (t.onTse f) := h.rest rfl rfl rfl
theorem Calm.onSta {s t : State} (h : Calm s t) (f : StaSt → StaSt) : Calm s (t.onSta f) := h.rest rfl rfl rfl
theorem Calm.onKeys {s t : State} (h : Calm s t) (f : KeySt → KeySt) : Calm s (t.onKeys f) := h.rest rfl rfl rfl
theorem Calm.onFree {s t : State} (h : Calm s t) (f : Nat → Nat) : Calm s (t.onFree f) := h.rest rfl rfl rfl

end Sys2Proof.Machine
end

