-- ==== Sys2Proof/Laws/Commands.lean ====
section
/-! SUPPORT. What running a mailbox command does, said once: a ready command is fetched, executed and completed. -/

namespace Sys2Proof.Machine

/-- The state in which a ready command is executed: its entry fetched (R452). -/
def State.fetchedFor (s : State) (m : CmdMeta) (h : CmdHdr) : State := fetchEntry { opcode := m.op, hdr := h } s

theorem fetchedFor_frame (m : CmdMeta) (h : CmdHdr) (s : State) :
    s.fetchedFor m h = { s with mbx := { s.mbx with fns := (s.fetchedFor m h).mbx.fns } } := rfl

@[simp] theorem fetchedFor_tc (m : CmdMeta) (h : CmdHdr) (s : State) : (s.fetchedFor m h).tc = s.tc := rfl
@[simp] theorem fetchedFor_hall (m : CmdMeta) (h : CmdHdr) (s : State) : (s.fetchedFor m h).hall = s.hall := rfl
@[simp] theorem fetchedFor_bez (m : CmdMeta) (h : CmdHdr) (s : State) : (s.fetchedFor m h).bez = s.bez := rfl
@[simp] theorem fetchedFor_pwr (m : CmdMeta) (h : CmdHdr) (s : State) : (s.fetchedFor m h).pwr = s.pwr := rfl
@[simp] theorem fetchedFor_mgmt (m : CmdMeta) (h : CmdHdr) (s : State) : (s.fetchedFor m h).mgmt = s.mgmt := rfl
@[simp] theorem fetchedFor_fault (m : CmdMeta) (h : CmdHdr) (s : State) : (s.fetchedFor m h).fault = s.fault := rfl
@[simp] theorem fetchedFor_loupe (m : CmdMeta) (h : CmdHdr) (s : State) : (s.fetchedFor m h).loupe = s.loupe := rfl
@[simp] theorem fetchedFor_clasp (m : CmdMeta) (h : CmdHdr) (s : State) : (s.fetchedFor m h).clasp = s.clasp := rfl
@[simp] theorem fetchedFor_ref (m : CmdMeta) (h : CmdHdr) (s : State) : (s.fetchedFor m h).ref = s.ref := rfl
@[simp] theorem fetchedFor_gnss (m : CmdMeta) (h : CmdHdr) (s : State) : (s.fetchedFor m h).gnss = s.gnss := rfl
@[simp] theorem fetchedFor_ens (m : CmdMeta) (h : CmdHdr) (s : State) : (s.fetchedFor m h).ens = s.ens := rfl
@[simp] theorem fetchedFor_fil (m : CmdMeta) (h : CmdHdr) (s : State) : (s.fetchedFor m h).fil = s.fil := rfl
@[simp] theorem fetchedFor_out (m : CmdMeta) (h : CmdHdr) (s : State) : (s.fetchedFor m h).out = s.out := rfl
@[simp] theorem fetchedFor_la (m : CmdMeta) (h : CmdHdr) (s : State) : (s.fetchedFor m h).la = s.la := rfl
@[simp] theorem fetchedFor_ports (m : CmdMeta) (h : CmdHdr) (s : State) : (s.fetchedFor m h).ports = s.ports := rfl
@[simp] theorem fetchedFor_tm (m : CmdMeta) (h : CmdHdr) (s : State) : (s.fetchedFor m h).tm = s.tm := rfl
@[simp] theorem fetchedFor_tse (m : CmdMeta) (h : CmdHdr) (s : State) : (s.fetchedFor m h).tse = s.tse := rfl
@[simp] theorem fetchedFor_sta (m : CmdMeta) (h : CmdHdr) (s : State) : (s.fetchedFor m h).sta = s.sta := rfl
@[simp] theorem fetchedFor_keys (m : CmdMeta) (h : CmdHdr) (s : State) : (s.fetchedFor m h).keys = s.keys := rfl
@[simp] theorem fetchedFor_free (m : CmdMeta) (h : CmdHdr) (s : State) : (s.fetchedFor m h).free = s.free := rfl
@[simp] theorem fetchedFor_pending (m : CmdMeta) (h : CmdHdr) (s : State) : (s.fetchedFor m h).pending = s.pending := rfl
@[simp] theorem fetchedFor_epoch (m : CmdMeta) (h : CmdHdr) (s : State) : (s.fetchedFor m h).mbx.epoch = s.mbx.epoch := rfl
@[simp] theorem fetchedFor_objGen (m : CmdMeta) (h : CmdHdr) (s : State) : (s.fetchedFor m h).mbx.objGen = s.mbx.objGen := rfl
@[simp] theorem fetchedFor_sec (m : CmdMeta) (h : CmdHdr) (s : State) : (s.fetchedFor m h).sec = s.sec := rfl
@[simp] theorem fetchedFor_bezel (m : CmdMeta) (h : CmdHdr) (s : State) (b : Nat) : (s.fetchedFor m h).bezel b = s.bezel b := rfl

theorem fetchedFor_fn_other (m : CmdMeta) (h : CmdHdr) (s : State) {b : Nat} (hb : b ≠ h.fn) : (s.fetchedFor m h).fn b = s.fn b := by
  simp only [State.fetchedFor, fetchEntry, State.onQueue, onFn_fn_other _ _ (Ne.symm hb)]

theorem fetchedFor_q (m : CmdMeta) (h : CmdHdr) (s : State) :
    ((s.fetchedFor m h).fn h.fn).q h.queue =
      let k := (s.fn h.fn).q h.queue
      { k with fetched := (k.fetched + 1) % 65536, fetchSeq := (k.fetchSeq + 1) % 2 ^ 32,
               inflight := k.inflight ++ [{ entry := { opcode := m.op, hdr := h }, seq := k.fetchSeq, order := (s.fn h.fn).order }] } := by
  simp only [State.fetchedFor, fetchEntry, onQueue_self, onFn_fn_self]
  rfl

theorem fetchedFor_q_other (m : CmdMeta) (h : CmdHdr) (s : State) {q : Nat} (hq : q ≠ h.queue) :
    ((s.fetchedFor m h).fn h.fn).q q = (s.fn h.fn).q q := by
  simp only [State.fetchedFor, fetchEntry, onQueue_other _ _ _ (Ne.symm hq), onFn_fn_self]
  rfl

/-- The function after the fetch keeps everything but its queues, the reservation and the fetch count. -/
theorem fetchedFor_fn (m : CmdMeta) (h : CmdHdr) (s : State) :
    (s.fetchedFor m h).fn h.fn = { s.fn h.fn with
      queues := ((s.fetchedFor m h).fn h.fn).queues, cplRes := (s.fn h.fn).cplRes + 1, order := (s.fn h.fn).order + 1 } := by
  simp only [State.fetchedFor, fetchEntry, State.onQueue, onFn_fn_self]

/-- A DMA access permitted before the fetch is permitted after it (R403, R450). -/
theorem fetchedFor_dmaOk (m : CmdMeta) (h : CmdHdr) (s : State) (b base len : Nat) (hd : s.dmaOk b base len = true) :
    (s.fetchedFor m h).dmaOk b base len = true := by
  unfold State.dmaOk at hd ⊢
  have hw : (s.fetchedFor m h).inWindow b base len = s.inWindow b base len := rfl
  have hz : (s.fetchedFor m h).bezel 0 = s.bezel 0 := rfl
  rw [hw, hz]
  rcases Bool.or_eq_true_iff.1 hd with hd | hd
  · rw [hd, Bool.true_or]
  · rw [Bool.and_eq_true] at hd
    rw [Bool.or_eq_true]
    refine Or.inr ?_
    rw [Bool.and_eq_true]
    refine ⟨hd.1, ?_⟩
    obtain ⟨e, he, hp⟩ := List.any_eq_true.1 hd.2
    refine List.any_eq_true.2 ⟨e, ?_, hp⟩
    by_cases h0 : h.fn = 0
    · have hf := fetchedFor_fn m h s
      rw [h0] at hf
      unfold FnSt.extents at he ⊢
      rcases List.mem_append.1 he with he | he
      · refine List.mem_append.2 (Or.inl ?_)
        rw [hf]
        exact he
      · refine List.mem_append.2 (Or.inr ?_)
        obtain ⟨p, hp1, rfl⟩ := List.mem_map.1 he
        obtain ⟨hp1, hp2⟩ := List.mem_filter.1 hp1
        have hq : ((s.fetchedFor m h).fn 0).queues =
            (s.fn 0).queues.upd {} h.queue (fun x => { x with
              fetched := (((s.fn 0).q h.queue).fetched + 1) % 65536, fetchSeq := (((s.fn 0).q h.queue).fetchSeq + 1) % 2 ^ 32,
              inflight := x.inflight ++ [{ entry := { opcode := m.op, hdr := h }, seq := ((s.fn 0).q h.queue).fetchSeq, order := (s.fn 0).order }] }) := by
          simp only [State.fetchedFor, fetchEntry, State.onQueue, h0, onFn_fn_self]
        rw [hq]
        rcases Tab.mem_put_of_mem (s.fn 0).queues {} h.queue _ hp1 with hm | hm
        · exact List.mem_map.2 ⟨p, List.mem_filter.2 ⟨hm, hp2⟩, rfl⟩
        · subst hm
          exact List.mem_map.2 ⟨_, List.mem_filter.2 ⟨Tab.mem_put_self _ _ _, hp2⟩, rfl⟩
    · rw [fetchedFor_fn_other m h s (Ne.symm h0)]
      exact he

/-- What `ready` says, part by part. -/
theorem ready_iff (m : CmdMeta) (h : CmdHdr) (s : State) : ready m h s = true ↔
    (s.pwr.st = .run ∨ s.pwr.st = .degraded) ∧ s.fault.fatal = false ∧ s.mbx.ready = true ∧ s.mgmt.mpRestart = false ∧
    s.mgmt.mpStopped = false ∧ s.fnEnabled h.fn = true ∧ s.bezelServes h.fn = true ∧ (s.fn h.fn).frozen = false ∧ h.queue < 4 ∧
    ((s.fn h.fn).q h.queue).en = true ∧ (s.fn h.fn).cplEn = true ∧ ((s.fn h.fn).q h.queue).fetched ≠ ((s.fn h.fn).q h.queue).tail ∧
    ((s.fn h.fn).q h.queue).inflight = [] ∧
    ((s.fn h.fn).cplPut + 65536 - (s.fn h.fn).cplHead) % 65536 + (s.fn h.fn).cplRes < 1024 ∧
    (h.fence = true → ∀ p ∈ (s.fn h.fn).queues, p.2.inflight = []) ∧
    (∀ p ∈ s.mbx.fns, ∀ q ∈ p.2.queues, q.2.txn = none) ∧ ((s.fn h.fn).q h.queue).txn = none ∧
    (m.mirrored = true → s.paired = false) ∧ (m.who = .operator → h.fn = 0) ∧ h.zeros = true ∧ h.plen = m.plen ∧ h.xlen ≤ 65536 ∧
    h.xaddr % 64 = 0 ∧ ((m.xbIn || m.xbOut) = true → h.xaddr ≠ 0) ∧ (h.xaddr = 0 ∨ s.dmaOk h.fn h.xaddr h.xlen = true) ∧ h.lane = none := by
  simp only [ready, Bool.and_eq_true, and_assoc, Bool.or_eq_true, decide_eq_true_eq, Bool.not_eq_true', bne_iff_ne, List.isEmpty_iff,
    List.all_eq_true, Option.isNone_iff_eq_none, Bool.or_eq_false_iff, decide_eq_false_iff_not, imp_iff_not_or, Bool.not_eq_true, ne_eq, not_or]

theorem ready_takeUp (m : CmdMeta) (h : CmdHdr) (s : State) (hr : ready m h s = true) :
    takeUp m h s = some (s.fetchedFor m h, ((s.fn h.fn).q h.queue).fetchSeq) := by
  obtain ⟨hp, hfat, hrdy, hres, hstop, hen, hserve, hfr, hq4, hqen, hcpl, htail, hinf, hroom, hfence, htx, htx1, hmir, hwho, hz, hpl, hxl, hxa, hxb, hdma, hln⟩ :=
    (ready_iff m h s).1 hr
  have hal : s.alive = true := by
    unfold State.alive
    rcases hp with hp | hp <;> rw [hp] <;> rfl
  have h1 : canFetch h.fn h.queue s = true := by
    simp only [canFetch, fetchOn, hal, hrdy, hres, hstop, hen, hqen, hcpl, hq4, hroom, bne_iff_ne, Bool.and_eq_true, decide_true, ne_eq]
    simp only [Bool.not_false, htail, not_false_iff, and_self]
  have h2 : fenceOk h (s.fn h.fn).order s = true := by
    unfold fenceOk
    cases hf : h.fence
    · rfl
    · rw [Bool.or_eq_true]
      refine Or.inr (List.all_eq_true.2 fun p hpm => ?_)
      rw [hfence hf p hpm]
      rfl
  unfold takeUp
  rw [hinf]
  simp only [h1, h2, Bool.and_self, if_true]
  rfl

/-- After the fetch of a ready command, the device accepts it (R454, R472, R531). -/
theorem ready_verdict (m : CmdMeta) (h : CmdHdr) (b : CmdBody) (s : State) (hr : ready m h s = true)
    (ha : b.argOk (s.fetchedFor m h) = true) (hc : (b.check (s.fetchedFor m h)).status = .ok) :
    verdict m h b false (s.fetchedFor m h) = b.check (s.fetchedFor m h) := by
  obtain ⟨hp, hfat, hrdy, hres, hstop, hen, hserve, hfr, hq4, hqen, hcpl, htail, hinf, hroom, hfence, htx, htx1, hmir, hwho, hz, hpl, hxl, hxa, hxb, hdma, hln⟩ :=
    (ready_iff m h s).1 hr
  have e1 : (s.fetchedFor m h).bezelServes h.fn = true := hserve
  have e2 : ((s.fetchedFor m h).fn h.fn).frozen = false := by rw [fetchedFor_fn]; exact hfr
  have e3 : issuerOk m h = true := by
    unfold issuerOk
    by_cases hw : m.who = .operator
    · simp [hwho hw]
    · simp [hw]
  have e4 : stateAccepts m h (s.fetchedFor m h) = true := by
    have t1 : (((s.fetchedFor m h).fn h.fn).q h.queue).txn.isSome = false := by rw [fetchedFor_q]; simp [htx1]
    have t2 : (s.fetchedFor m h).pwr.st = s.pwr.st := rfl
    have t3 : (s.fetchedFor m h).fault.fatal = false := hfat
    have t4 : (m.mirrored && decide ((s.fetchedFor m h).clasp.st = .standby)) = false := by
      cases hm : m.mirrored
      · rfl
      · have := hmir hm
        simp only [State.paired, Bool.or_eq_false_iff, decide_eq_false_iff_not] at this
        simp [this.2]
    unfold stateAccepts
    rw [t1, t2, t3, t4]
    rcases hp with hp | hp <;> rw [hp] <;> rfl
  have e5 : entryOk m h (s.fetchedFor m h) = true := by
    have d : (decide (h.xaddr = 0) || (s.fetchedFor m h).dmaOk h.fn h.xaddr h.xlen) = true := by
      rcases hdma with hd | hd
      · simp [hd]
      · simp [fetchedFor_dmaOk m h s _ _ _ hd]
    have d2 : (!((m.xbIn || m.xbOut) && decide (h.xaddr = 0))) = true := by
      cases hx : (m.xbIn || m.xbOut)
      · rfl
      · simp [hxb hx]
    unfold entryOk
    rw [d, d2]
    simp [hz, hpl, hxl, hxa]
  unfold verdict
  simp only [e1, e2, e3, e4, e5, ha, hc]
  simp

theorem ready_unreserved (m : CmdMeta) (h : CmdHdr) (s : State) (hr : ready m h s = true) (objs : List Nat) :
    reservedElsewhere h objs (s.fetchedFor m h) = false := by
  have htx := ((ready_iff m h s).1 hr).2.2.2.2.2.2.2.2.2.2.2.2.2.2.2.1
  let P : FnSt → Prop := fun f => ∀ q ∈ f.queues, q.2.txn = none
  have hP : ∀ p ∈ s.mbx.fns, P p.2 := htx
  have hd : P {} := fun q hq => by cases hq
  have hl : P (s.fn h.fn) := Tab.look_of_forall P _ _ _ hP hd
  have hall : ∀ p ∈ (s.fetchedFor m h).mbx.fns, P p.2 := by
    have h1 : ∀ p ∈ (s.onFn h.fn fun x => { x with cplRes := x.cplRes + 1, order := x.order + 1 }).mbx.fns, P p.2 := Tab.forall_put P _ _ _ hP hl
    have hl1 := Tab.look_of_forall P _ {} h.fn h1 hd
    have hk1 := Tab.look_of_forall (fun k : CmdQueue => k.txn = none) _ {} h.queue hl1 rfl
    exact Tab.forall_put P _ _ _ h1 (Tab.forall_put (fun k : CmdQueue => k.txn = none) _ _ _ hl1 hk1)
  unfold reservedElsewhere
  rw [List.any_eq_false]
  intro p hp
  rw [Bool.not_eq_true, List.any_eq_false]
  intro q hq
  rw [hall p hp q hq]
  simp

/-- A command with all its checks passed is fetched, executed and completed with OK in one go. -/
theorem runCommand_ready (acc : State → State) (m : CmdMeta) (h : CmdHdr) (i : Instr) (b : CmdBody) (s : State) (hr : ready m h s = true)
    (ha : b.argOk (s.fetchedFor m h) = true) (hc : (b.check (s.fetchedFor m h)).status = .ok)
    (hx : xbShort m h (b.act (s.fetchedFor m h)) = false) :
    runCommand acc m h i b s =
      complete h.fn h.queue ((s.fn h.fn).q h.queue).fetchSeq h.tag .ok false (b.act (s.fetchedFor m h)).result
        (b.act (s.fetchedFor m h)).xb (b.act (s.fetchedFor m h)).st := by
  obtain ⟨hp, hfat, hrdy, hres, hstop, hen, hserve, hfr, hq4, hqen, hcpl, htail, hinf, hroom, hfence, htx, htx1, hmir, hwho, hz, hpl, hxl, hxa, hxb, hdma, hln⟩ :=
    (ready_iff m h s).1 hr
  have htx1 : (((s.fetchedFor m h).fn h.fn).q h.queue).txn = none := by
    rw [fetchedFor_q]
    exact htx1
  have hst : staging m h (s.fetchedFor m h) = false := by unfold staging; rw [htx1]; rfl
  have hmir : mirroring m (s.fetchedFor m h) = false := by
    unfold mirroring
    cases hm : m.mirrored
    · rfl
    · have := hmir hm
      simp only [State.paired, Bool.or_eq_false_iff, decide_eq_false_iff_not] at this
      simp [this.1]
  have hun : (!m.reads && reservedElsewhere h (objsOf i) (s.fetchedFor m h)) = false := by rw [ready_unreserved m h s hr, Bool.and_false]
  have hj : (b.check (s.fetchedFor m h)).effects = true := by unfold Judged.effects; rw [hc]; rfl
  have hxr : xbRefused m h (b.check (s.fetchedFor m h)) (b.act (s.fetchedFor m h)) = false := by unfold xbRefused; rw [hx]; rfl
  unfold runCommand
  rw [hln]
  dsimp only
  rw [ready_takeUp m h s hr]
  simp only [hun, runChecked, hst, hmir, Bool.false_eq_true, if_false, ready_verdict m h b s hr ha hc, hxr, hj, hc]
  simp

/-- The completion itself: the entry written and the queue advanced (R452, R456). -/
def State.written (o : State) (b q seq tag : Nat) (status : Status) (staged : Bool) (result xb : Rec) : State :=
  let f := o.fn b
  let c : Completion := { epoch := o.mbx.epoch, seq := seq, tag := tag, status := status, queue := q, staged := staged,
                          result := result, xb := xb, phase := (f.cplPut / 1024 + 1) % 2 }
  (o.onFn b fun x => { x with cplPut := (x.cplPut + 1) % 65536, cplRes := x.cplRes - 1, cplQ := x.cplQ ++ [c], cplOctets := c.layout.toBytes }).onQueue b q fun x =>
    { x with done := (x.done + 1) % 65536, doneSeq := (seq + 1) % 2 ^ 32, inflight := x.inflight.drop 1 }

/-- Beyond the written entry, a completion only announces it and counts. -/
theorem completeOne_written (b q seq tag : Nat) (status : Status) (staged : Bool) (result xb : Rec) (o : State) :
    Quiet (o.written b q seq tag status staged result xb) (completeOne b q seq tag status staged result xb o) := by
  unfold completeOne
  dsimp only
  have h1 := (announce_quiet (o.written b q seq tag status staged result xb) b (o.fn b).cplVec).trans (countBezel_quiet _ b 28)
  split
  · exact h1
  · exact h1.trans (countBezel_quiet _ b 29)

theorem completeOne_counts (b q seq tag : Nat) (staged : Bool) (result xb : Rec) (o : State) (j : Nat) (hj : j ≠ (256 + b) * 32 + 28) :
    (completeOne b q seq tag .ok staged result xb o).loupe.ctr.look 0 j = o.loupe.ctr.look 0 j := by
  unfold completeOne
  dsimp only
  split
  · exact countN_other _ _ _ _ _ hj
  · next h => exact absurd rfl h

/-- A ready command whose own checks pass, whose effect is `o`, and whose effect does nothing to the mailboxes, the management subsystem and the
Loupe but raise events, log and store, completes with OK; everything else is as its effect left it. -/
theorem runCommand_calm {acc : State → State} {m : CmdMeta} {h : CmdHdr} {i : Instr} {b : CmdBody} {s o : State} {result xb : Rec}
    (hr : ready m h s = true) (ha : b.argOk (s.fetchedFor m h) = true) (hc : (b.check (s.fetchedFor m h)).status = .ok)
    (ho : b.act (s.fetchedFor m h) = { st := o, result := result, xb := xb })
    (hlen : m.xbOut = true → xb.bytes ≤ h.xlen) (hk : Calm (s.fetchedFor m h) o) (hup : o.pending = s.pending) :
    ∃ t, (Host.Outcome.next (runCommand acc m h i b s) : Host.Outcome State Fault Refusal) = .next t ∧ Completes h s o t result xb := by
  have hx : xbShort m h (b.act (s.fetchedFor m h)) = false := by
    unfold xbShort
    rw [ho]
    cases hxo : m.xbOut
    · rfl
    · simp [hlen hxo]
  refine ⟨_, rfl, ?_⟩
  rw [runCommand_ready acc m h i b s hr ha hc hx, ho]
  dsimp only
  have hep : o.mbx.epoch = s.mbx.epoch := by
    have e := congrArg MbxSt.epoch hk.mbx
    exact e
  have hoq : ∀ q, (o.fn h.fn).q q = ((s.fetchedFor m h).fn h.fn).q q := fun q => by rw [hk.fns h.fn]; rfl
  have hof : o.fn h.fn = { s.fn h.fn with
      queues := ((s.fetchedFor m h).fn h.fn).queues, cplRes := (s.fn h.fn).cplRes + 1, order := (s.fn h.fn).order + 1,
      vecs := (o.fn h.fn).vecs, due := (o.fn h.fn).due } := by
    have e := hk.fns h.fn
    rw [fetchedFor_fn] at e
    exact e
  have hob : ∀ c, c ≠ h.fn → o.fn c = { s.fn c with vecs := (o.fn c).vecs, due := (o.fn c).due } := fun c hcn => by
    have e := hk.fns c
    rw [fetchedFor_fn_other m h s hcn] at e
    exact e
  have hinf0 := ((ready_iff m h s).1 hr).2.2.2.2.2.2.2.2.2.2.2.2.1
  generalize hseq : ((s.fn h.fn).q h.queue).fetchSeq = seq
  have wk : ((o.written h.fn h.queue seq h.tag .ok false result xb).fn h.fn).q h.queue =
      { (s.fn h.fn).q h.queue with
        fetched := (((s.fn h.fn).q h.queue).fetched + 1) % 65536, fetchSeq := (((s.fn h.fn).q h.queue).fetchSeq + 1) % 2 ^ 32,
        done := (((s.fn h.fn).q h.queue).done + 1) % 65536, doneSeq := (seq + 1) % 2 ^ 32, inflight := [] } := by
    unfold State.written
    dsimp only
    rw [onQueue_self, onFn_fn_self]
    show { (o.fn h.fn).q h.queue with
      done := (((o.fn h.fn).q h.queue).done + 1) % 65536, doneSeq := (seq + 1) % 2 ^ 32,
      inflight := ((o.fn h.fn).q h.queue).inflight.drop 1 } = _
    rw [hoq, fetchedFor_q]
    simp [hinf0]
  have W := completeOne_written h.fn h.queue seq h.tag .ok false result xb o
  have hinf : (((completeOne h.fn h.queue seq h.tag .ok false result xb o).fn h.fn).q h.queue).inflight = [] := by
    rw [W.fns h.fn]
    show (((o.written h.fn h.queue seq h.tag .ok false result xb).fn h.fn).q h.queue).inflight = []
    rw [wk]
  have hset : complete h.fn h.queue seq h.tag .ok false result xb o = completeOne h.fn h.queue seq h.tag .ok false result xb o := by
    unfold complete
    dsimp only
    rw [hinf]
    rfl
  rw [hset]
  have C := completeOne_counts h.fn h.queue seq h.tag false result xb o
  generalize completeOne h.fn h.queue seq h.tag .ok false result xb o = t at *
  have wq : (o.written h.fn h.queue seq h.tag .ok false result xb).fn h.fn = { s.fn h.fn with
      queues := ((o.written h.fn h.queue seq h.tag .ok false result xb).fn h.fn).queues, order := (s.fn h.fn).order + 1,
      vecs := (o.fn h.fn).vecs, due := (o.fn h.fn).due,
      cplPut := ((s.fn h.fn).cplPut + 1) % 65536, cplRes := (s.fn h.fn).cplRes + 1 - 1,
      cplQ := (s.fn h.fn).cplQ ++ [completionOf h s .ok result xb], cplOctets := (completionOf h s .ok result xb).layout.toBytes } := by
    unfold State.written
    dsimp only [State.onQueue]
    rw [onFn_fn_self, onFn_fn_self, hof, hep, ← hseq]
    rfl
  have wo : ∀ q, q ≠ h.queue → ((o.written h.fn h.queue seq h.tag .ok false result xb).fn h.fn).q q = (s.fn h.fn).q q := by
    intro q hq
    unfold State.written
    dsimp only
    rw [onQueue_other _ _ _ (Ne.symm hq), onFn_fn_self]
    show (o.fn h.fn).q q = _
    rw [hoq]
    exact fetchedFor_q_other m h s hq
  have wb : ∀ b, b ≠ h.fn → (o.written h.fn h.queue seq h.tag .ok false result xb).fn b = o.fn b := by
    intro b hb
    unfold State.written
    dsimp only [State.onQueue]
    rw [onFn_fn_other _ _ (Ne.symm hb), onFn_fn_other _ _ (Ne.symm hb)]
  have tq : ∀ q, (t.fn h.fn).q q = ((o.written h.fn h.queue seq h.tag .ok false result xb).fn h.fn).q q := fun q => by rw [W.fns h.fn]; rfl
  have key := W.fns h.fn
  rw [wq] at key
  refine ⟨⟨?_, ?_, ?_, ?_, ?_, ?_⟩, ⟨?_, ?_, ?_, ?_, ?_⟩, ?_, ⟨?_, ?_⟩, ?_⟩
  · have := congrArg State.pending W.rest
    exact this.trans hup
  · rw [key]
  · rw [key]
  · rw [tq, wk]
  · rw [tq, wk]
  · rw [tq, wk]
  · have h1 := congrArg (fun x : MbxSt => { x with fns := s.mbx.fns, objGen := s.mbx.objGen }) W.mbx
    have h2 := congrArg (fun x : MbxSt => { x with fns := s.mbx.fns }) hk.mbx
    exact h1.trans h2
  · intro b hb
    rw [W.fns b, wb b hb, hob b hb]
    exact ⟨rfl, rfl, rfl⟩
  · intro q hq
    rw [tq, wo q hq]
  · rw [key]
  · rw [key]
  · have h1 := hk.mgmt
    unfold MgmtFrame at h1 ⊢
    rw [W.mgmt]
    exact h1
  · exact W.banks.trans (congrArg LoupeSt.banks hk.loupe)
  · intro j hj
    rw [C j hj, hk.loupe]
    rfl
  · exact W.rest

/-- The same, its effect on the rest of the state given as that of `u`. -/
theorem runCommand_completes {acc : State → State} {m : CmdMeta} {h : CmdHdr} {i : Instr} {b : CmdBody} {s u : State} {result xb : Rec}
    (hr : ready m h s = true) (ha : b.argOk (s.fetchedFor m h) = true) (hc : (b.check (s.fetchedFor m h)).status = .ok)
    (hres : (b.act (s.fetchedFor m h)).result = result) (hxb : (b.act (s.fetchedFor m h)).xb = xb)
    (hlen : m.xbOut = true → xb.bytes ≤ h.xlen)
    (hu : (b.act (s.fetchedFor m h)).st = { u with mbx := (b.act (s.fetchedFor m h)).st.mbx, mgmt := (b.act (s.fetchedFor m h)).st.mgmt, loupe := s.loupe })
    (hup : u.pending = s.pending) (hk : Calm (s.fetchedFor m h) (b.act (s.fetchedFor m h)).st) :
    ∃ t, (Host.Outcome.next (runCommand acc m h i b s) : Host.Outcome State Fault Refusal) = .next t ∧ Completes h s u t result xb := by
  have hp : (b.act (s.fetchedFor m h)).st.pending = s.pending := by rw [hu]; exact hup
  obtain ⟨t, h1, h2, h3, h4, h5, h6⟩ := runCommand_calm (i := i) (result := result) (xb := xb) hr ha hc (o := (b.act (s.fetchedFor m h)).st) (by rw [← hres, ← hxb]) hlen hk hp
  refine ⟨t, h1, h2, h3, h4, h5, ?_⟩
  rw [hu] at h6
  exact h6

/-- What holds of every state that completes the command so holds of the one it answers. -/
theorem runCommand_does {acc : State → State} {m : CmdMeta} {h : CmdHdr} {i : Instr} {b : CmdBody} {s : State} (o : State) {result xb : Rec} {P : State → Prop}
    (hr : ready m h s = true) (ha : b.argOk (s.fetchedFor m h) = true) (hc : (b.check (s.fetchedFor m h)).status = .ok)
    (ho : b.act (s.fetchedFor m h) = { st := o, result := result, xb := xb })
    (hlen : m.xbOut = true → xb.bytes ≤ h.xlen) (hk : Calm (s.fetchedFor m h) o) (hup : o.pending = s.pending)
    (hP : ∀ t, Completes h s o t result xb → P t) :
    ∃ t, (Host.Outcome.next (runCommand acc m h i b s) : Host.Outcome State Fault Refusal) = .next t ∧ P t := by
  obtain ⟨t, h1, h2⟩ := runCommand_calm (i := i) hr ha hc ho hlen hk hup
  exact ⟨t, h1, hP t h2⟩

/-- Outside the mailboxes, the log and the Loupe a completed command's state is that of its effect. -/
theorem Completes.of {h : CmdHdr} {s o u t : State} {result xb : Rec} (c : Completes h s o t result xb)
    (hu : t = { u with mbx := t.mbx, mgmt := t.mgmt, loupe := t.loupe }) : Completes h s u t result xb :=
  ⟨c.1, c.2.1, c.2.2.1, c.2.2.2.1, hu⟩

end Sys2Proof.Machine
end

