-- ==== Sys2Proof/Laws/Ref.lean ====
section
/-! SUPPORT. Laws of the shared operations on reference inputs. -/

namespace Sys2Proof.Machine

theorem onIn_inp (s : State) (r q : Nat) (f : RefIn → RefIn) : (s.onIn r f).inp q = if r = q then f (s.inp r) else s.inp q := Tab.look_upd _ _ _ _ _

@[simp] theorem onIn_inp_self (s : State) (r : Nat) (f : RefIn → RefIn) : (s.onIn r f).inp r = f (s.inp r) := Tab.look_upd_self _ _ _ _

theorem onIn_inp_other (s : State) {r q : Nat} (f : RefIn → RefIn) (h : r ≠ q) : (s.onIn r f).inp q = s.inp q := Tab.look_upd_other _ _ _ h

@[simp] theorem onPps_pps_self (s : State) (n : Nat) (f : PpsIn → PpsIn) : (s.onPps n f).pps n = f (s.pps n) := Tab.look_upd_self _ _ _ _
@[simp] theorem onTci_tci_self (s : State) (n : Nat) (f : TcIn → TcIn) : (s.onTci n f).tci n = f (s.tci n) := Tab.look_upd_self _ _ _ _
@[simp] theorem onNref_nref_self (s : State) (n : Nat) (f : NrefIn → NrefIn) : (s.onNref n f).nrefIn n = f (s.nrefIn n) := Tab.look_upd_self _ _ _ _
@[simp] theorem onPend_pend_self (s : State) (n : Nat) (f : PendIn → PendIn) : (s.onPend n f).pend n = f (s.pend n) := Tab.look_upd_self _ _ _ _
@[simp] theorem onPps_inp (s : State) (n : Nat) (f : PpsIn → PpsIn) (r : Nat) : (s.onPps n f).inp r = s.inp r := rfl
@[simp] theorem onTci_inp (s : State) (n : Nat) (f : TcIn → TcIn) (r : Nat) : (s.onTci n f).inp r = s.inp r := rfl
@[simp] theorem onNref_inp (s : State) (n : Nat) (f : NrefIn → NrefIn) (r : Nat) : (s.onNref n f).inp r = s.inp r := rfl
@[simp] theorem onPend_inp (s : State) (n : Nat) (f : PendIn → PendIn) (r : Nat) : (s.onPend n f).inp r = s.inp r := rfl
@[simp] theorem onIn_pps (s : State) (r : Nat) (f : RefIn → RefIn) (n : Nat) : (s.onIn r f).pps n = s.pps n := rfl
@[simp] theorem onIn_tci (s : State) (r : Nat) (f : RefIn → RefIn) (n : Nat) : (s.onIn r f).tci n = s.tci n := rfl
@[simp] theorem onIn_nref (s : State) (r : Nat) (f : RefIn → RefIn) (n : Nat) : (s.onIn r f).nrefIn n = s.nrefIn n := rfl
@[simp] theorem onIn_pend (s : State) (r : Nat) (f : RefIn → RefIn) (n : Nat) : (s.onIn r f).pend n = s.pend n := rfl

/-- Entering a state changes that input alone. -/
theorem setIn_ref (s : State) (r : Nat) (st : InState) : (s.setIn r st).ref = if (s.inp r).st = st then s.ref else
    { s.ref with ins := s.ref.ins.upd {} r fun x => { x with st := st, meas := if st = .valid then x.meas else none, freq := if st = .valid then x.freq else none } } := by
  unfold State.setIn
  dsimp only
  split
  · rfl
  · rw [raise0_ref]; rfl

theorem setIn_inp (s : State) (r q : Nat) (st : InState) : (s.setIn r st).inp q =
    if r = q then (if (s.inp r).st = st then s.inp r else { s.inp r with st := st, meas := if st = .valid then (s.inp r).meas else none, freq := if st = .valid then (s.inp r).freq else none }) else s.inp q := by
  have k : (s.setIn r st).inp q = (s.setIn r st).ref.ins.look {} q := rfl
  rw [k, setIn_ref]
  by_cases h : (s.inp r).st = st
  · by_cases hq : r = q
    · subst hq; rw [if_pos h, if_pos rfl, if_pos h]; rfl
    · rw [if_pos h, if_neg hq]; rfl
  · rw [if_neg h]
    dsimp only
    by_cases hq : r = q
    · subst hq; rw [if_pos rfl, if_neg h, Tab.look_upd_self]; rfl
    · rw [if_neg hq, Tab.look_upd_other _ _ _ hq]; rfl

theorem setIn_calm (s : State) (r : Nat) (st : InState) : Calm s (s.setIn r st) := by
  unfold State.setIn
  dsimp only
  split
  · exact Calm.refl _
  · exact Calm.raise0 (Calm.onRef (Calm.refl _) _) _ _

theorem setIn_rest (s : State) (r : Nat) (st : InState) :
    s.setIn r st = { s with ref := (s.setIn r st).ref, mbx := (s.setIn r st).mbx, mgmt := (s.setIn r st).mgmt } := by
  unfold State.setIn
  dsimp only
  split
  · rfl
  · unfold State.raise0
    rw [raise_rest]
    rfl

theorem onIn_calm {s t : State} (h : Calm s t) (r : Nat) (f : RefIn → RefIn) : Calm s (t.onIn r f) := h.onRef _

theorem configureIn_calm {s t : State} (h : Calm s t) (r : Nat) : Calm s (t.configureIn r) := by
  unfold State.configureIn
  split <;> exact onIn_calm (h.trans (setIn_calm _ _ _)) _ _

theorem configureIn_rest (s : State) (r : Nat) :
    s.configureIn r = { s with ref := (s.configureIn r).ref, mbx := (s.configureIn r).mbx, mgmt := (s.configureIn r).mgmt } := by
  unfold State.configureIn
  split <;> (unfold State.onIn State.onRef; dsimp only; rw [setIn_rest])

/-- Configuring takes OFF to ABSENT and any other state to QUALIFYING, the run cleared (R87, R605). -/
theorem configureIn_inp (s : State) (r : Nat) :
    ((s.configureIn r).inp r).st = (if (s.inp r).st = .off then .absent else .qualifying) ∧ ((s.configureIn r).inp r).run = 0 := by
  unfold State.configureIn
  split
  · next h =>
    rw [onIn_inp_self, setIn_inp, if_pos rfl]
    simp [h]
  · rw [onIn_inp_self, setIn_inp, if_pos rfl]
    split
    · next h => exact ⟨h, rfl⟩
    · exact ⟨rfl, rfl⟩

theorem configureIn_inp_other (s : State) {r q : Nat} (h : q ≠ r) : (s.configureIn r).inp q = s.inp q := by
  unfold State.configureIn
  split <;> rw [onIn_inp_other _ _ (Ne.symm h), setIn_inp, if_neg (Ne.symm h)]

theorem setIn_tables (s : State) (r : Nat) (st : InState) : (s.setIn r st).ref = { s.ref with ins := (s.setIn r st).ref.ins } := by
  rw [setIn_ref]
  split <;> rfl

theorem configureIn_tables (s : State) (r : Nat) : (s.configureIn r).ref = { s.ref with ins := (s.configureIn r).ref.ins } := by
  unfold State.configureIn
  split <;> (unfold State.onIn State.onRef; dsimp only; rw [setIn_tables])

theorem deconfigureIn_calm {s t : State} (h : Calm s t) (r : Nat) : Calm s (t.deconfigureIn r) :=
  onIn_calm (h.trans (setIn_calm _ _ _)) _ _

theorem deconfigureIn_rest (s : State) (r : Nat) :
    s.deconfigureIn r = { s with ref := (s.deconfigureIn r).ref, mbx := (s.deconfigureIn r).mbx, mgmt := (s.deconfigureIn r).mgmt } := by
  unfold State.deconfigureIn State.onIn State.onRef
  dsimp only
  rw [setIn_rest]

/-- Deconfiguring leaves the input OFF without a measurement (R87, R606). -/
theorem deconfigureIn_inp (s : State) (r : Nat) : ((s.deconfigureIn r).inp r).st = .off ∧ ((s.deconfigureIn r).inp r).meas = none := by
  unfold State.deconfigureIn
  rw [onIn_inp_self, setIn_inp, if_pos rfl]
  split
  · next h => exact ⟨h, rfl⟩
  · exact ⟨rfl, rfl⟩

theorem deconfigureIn_inp_other (s : State) {r q : Nat} (h : q ≠ r) : (s.deconfigureIn r).inp q = s.inp q := by
  unfold State.deconfigureIn
  rw [onIn_inp_other _ _ (Ne.symm h), setIn_inp, if_neg (Ne.symm h)]

theorem deconfigureIn_tables (s : State) (r : Nat) : (s.deconfigureIn r).ref = { s.ref with ins := (s.deconfigureIn r).ref.ins } := by
  unfold State.deconfigureIn State.onIn State.onRef
  dsimp only
  rw [setIn_tables]

end Sys2Proof.Machine
end

