-- ==== Sys2Proof/Laws/Shared.lean ====
section
/-! SUPPORT. What the store, the freezes, the error pins, the Signet hints and the changes that wait for the partner can change, said once for
each of them. -/

namespace Sys2Proof.Machine

/-! ### The store (R460, R499) -/

/-- A record written touches the object's change count, its record, the wear of the banks and the write under way. -/
theorem store_rest (s : State) (c i : Nat) (o : Option NvValue) :
    s.store c i o = { s with mbx := { s.mbx with objGen := (s.store c i o).mbx.objGen }
                             mgmt := { s.mgmt with recs := (s.store c i o).mgmt.recs, banks := (s.store c i o).mgmt.banks
                                                   writing := (s.store c i o).mgmt.writing } } := rfl

/-- The record that a write leaves is the next one of its key; every other key keeps its record. -/
theorem store_rec (s : State) (c i k : Nat) (o : Option NvValue) :
    (s.store c i o).mgmt.recs.look {} k =
      if objKey c i = k then (s.mgmt.recs.look {} k).write (1 - (s.mgmt.recs.look {} k).newest) s.mgmt.setGen else s.mgmt.recs.look {} k := by
  show (Tab.put _ _ _).look _ _ = _
  rw [Tab.look_put]
  split
  · next h => rw [← h]; rfl
  · rfl

theorem writeBoot_rest (s : State) (o : Option NvValue) :
    s.writeBoot o = { s with mgmt := { s.mgmt with boot := (s.writeBoot o).mgmt.boot, banks := (s.writeBoot o).mgmt.banks
                                                   writing := (s.writeBoot o).mgmt.writing } } := rfl

/-! ### Freezes (R44, R408) -/

/-- The report of a freeze is two events, a log entry and a count. -/
theorem reportFreeze_quiet (s : State) (b kind index row object : Nat) : Quiet s (s.reportFreeze b kind index row object) :=
  ((foldl_quiet _ _ (fun t i => dueFor_quiet t i _) s).trans (log_quiet _ _ _ _ _)).trans (countBezel_quiet _ _ _)

/-- A freeze of a function sets its flag and is reported; no other function is frozen or released by it. -/
theorem freezeFn_frozen (s : State) (b c row object : Nat) :
    ((s.freezeFn b row object).fn c).frozen = if b = c then true else (s.fn c).frozen := by
  rw [State.freezeFn, (reportFreeze_quiet _ _ _ _ _ _).fns c]
  simp only [onFn_fn]
  split <;> rfl

/-- A freeze of a queue, stream or agent leaves that master frozen. -/
theorem freezeMaster_frozen (s : State) (b kind index row object : Nat) :
    (s.freezeMaster b kind index row object).masterFrozen b kind index = true := by
  have h : (s.freezeMaster b kind index row object).bez = (s.onBezel b fun z => { z with frozen :=
      if kind * 65536 + index ∈ z.frozen then z.frozen else z.frozen ++ [kind * 65536 + index] }).bez := by
    rw [State.freezeMaster, (reportFreeze_quiet _ _ _ _ _ _).rest]
  simp only [State.masterFrozen, State.bezel, h, State.onBezel, State.onBez, Tab.look_upd]
  simp
  right
  split <;> simp_all

/-! ### Error pins (R517, R520) -/

theorem setPin_rest (s : State) (w b : Nat) (x : Bool) :
    s.setPin w b x = { s with fault := { s.fault with sticky := (s.setPin w b x).fault.sticky, live := (s.setPin w b x).fault.live
                                                      wired := (s.setPin w b x).fault.wired } } := rfl

/-! ### Signet hints (R395) -/

theorem giveHints_rest (s : State) (e : Nat) :
    s.giveHints e = { s with sta := { s.sta with hints := (s.giveHints e).sta.hints, cached := (s.giveHints e).sta.cached } } := by
  unfold State.giveHints
  split <;> rfl

/-! ### Changes that wait for the partner (R433, R440) -/

/-- An accepted change joins the end of the list, unacknowledged; the queue keeps its place and the free values used are passed over. -/
theorem mirrorItem_mirror (h : CmdHdr) (a : Bool) (l : List Instr) (q : Nat) (o : CmdOut) (s : State) :
    (mirrorItem h a l q o s).clasp = { s.clasp with mirror := s.clasp.mirror ++ [{ cmds := l, asSet := a, done := some (h.fn, h.queue, q, h.tag)
                                                                                   result := o.result, xb := o.xb, stood := s.tc.mtc
                                                                                   free := s.free }] } := rfl

theorem mirrorItem_rest (h : CmdHdr) (a : Bool) (l : List Instr) (q : Nat) (o : CmdOut) (s : State) :
    mirrorItem h a l q o s = { s with mbx := (mirrorItem h a l q o s).mbx, clasp := (mirrorItem h a l q o s).clasp, free := o.st.free } := rfl

/-- A command that came over a lane: taken at once in TRANSFER, held in STANDBY, and nothing elsewhere or where it is not mirrored. -/
theorem takeOver_cases (m : CmdMeta) (t : Nat × Nat × Nat) (i : Instr) (b : CmdBody) (s : State) :
    (m.mirrored = true ∧ s.clasp.st = .transfer ∧ takeOver m t i b s = (b.act s).st) ∨
    (m.mirrored = true ∧ s.clasp.st = .standby ∧ takeOver m t i b s = { s with clasp := (takeOver m t i b s).clasp } ∧
      ∃ x : MirrorItem, x.cmds = [i] ∧ x.acked = true ∧ x.ackAt = s.upNs ∧ (takeOver m t i b s).clasp = { s.clasp with mirror := s.clasp.mirror ++ [x] }) ∨
    ((m.mirrored = false ∨ s.clasp.st ≠ .transfer ∧ s.clasp.st ≠ .standby) ∧ takeOver m t i b s = s) := by
  unfold takeOver
  cases m.mirrored with
  | false => simp
  | true =>
    by_cases h1 : s.clasp.st = .transfer
    · simp [h1]
    · by_cases h2 : s.clasp.st = .standby
      · refine .inr (.inl ⟨rfl, h2, ?_, { cmds := [i], acked := true, ackAt := s.upNs,
                                             stood := { s.tc.mtc with sec := t.1, ns := t.2.1, frac := t.2.2 }, free := s.free }, rfl, rfl, rfl, ?_⟩)
        all_goals simp [h2, State.onClasp]
      · simp [h1, h2]

/-- Over a lane a mailbox row is that change, on a device that runs, whatever its queues hold. -/
theorem runCommand_lane (acc : State → State) (m : CmdMeta) (h : CmdHdr) (i : Instr) (b : CmdBody) (s : State) (t : Nat × Nat × Nat)
    (hl : h.lane = some t) : runCommand acc m h i b s = if s.alive then takeOver m t i b s else s := by
  unfold runCommand
  rw [hl]

end Sys2Proof.Machine
end

