-- ==== Sys2Proof/Tests/Base.lean ====
section
/-! SUPPORT. Small states and headers that the tests and witnesses start from. -/

namespace Sys2Proof.Tests

open Sys2Proof Sys2Proof.Machine

/-- A function with command queue 0 enabled and one entry waiting. -/
def fnOne : FnSt := { cplEn := true, queues := [(0, { en := true, tail := 1 })] }

/-- A device in RUN at TAI second 1000 with one command waiting on queue 0 of function 0, and a DMA window for its extended buffers. -/
def base : State :=
  { State.reset with
    pwr := { st := .run }
    mbx := { ready := true, fns := [(0, fnOne)] }
    bez := { rows := [(0, { present := true, windows := [(0, { base := 0, size := 1099511627776 })] })] }
    tc := { mtc := { sec := 1000, running := true } } }

/-- The same with these reference inputs. -/
def base' (l : Tab RefIn) : State := { base with ref := { base.ref with ins := l } }

/-- The same with transaction 9 open on that queue and these commands staged. -/
def inTxn (l : List Instr) : State :=
  { base with mbx := { base.mbx with fns := [(0, { fnOne with queues := [(0, { en := true, tail := 1, txn := some { id := 9, staged := l } })] })] } }

/-- The header of a command of `plen` payload bytes on that queue. -/
def hd (plen : Nat) : CmdHdr := { fn := 0, queue := 0, plen := plen }

/-- The same with an extended buffer of 64 KiB. -/
def hx (plen : Nat) : CmdHdr := { fn := 0, queue := 0, plen := plen, xaddr := 65536, xlen := 65536 }

/-- A top-of-second epoch at which stream B-L1 tracks three GPS satellites. -/
def gnssEpoch : Epoch := { num := 1, recs := [1, 2, 3].map fun n => { chan := { st := .track, sys := 0, sig := 0, sv := n, ant := 1 }, obs := { ch := n, elev := 3000 } } }

/-- What the sky gives at it: each satellite 19 s and 50 ps from the counter. -/
def gnssObs : SolutionObs := { sats := [1, 2, 3].map fun n => { sys := 0, sv := n, r1 := 19000000000050 }, var := 2 }

/-- A manifest for hardware revision 1 with set version 9 and this SVN, its three images empty. -/
def blob (svn : Nat) : FwBlob :=
  { manifest := [1, 0, 0, 0, 0x92, 0x56, 0, 1, 0, 0, 0, 9, 0, 0, 0, svn, 0, 0, 0, 0] ++
      ((List.range 3).flatMap fun k => [0, 0, 0, k, 0, 0, 0, 0, 0, 0, 0, 0,
        0xe3, 0xb0, 0xc4, 0x42, 0x98, 0xfc, 0x1c, 0x14, 0x9a, 0xfb, 0xf4, 0xc8, 0x99, 0x6f, 0xb9, 0x24, 0x27, 0xae, 0x41, 0xe4]) ++
      [0, 1] ++ List.replicate 64 0
    images := [[], [], []] }

/-- What it says. -/
def blobImage (svn : Nat) : FwImage := { hwList := [1], setVersion := 9, svn := svn }

/-- A unit whose owner root is 9 and whose firmware set, version 7, lists version 3 as a companion, with this state of the pair. -/
def rooted (c : ClaspSt) : State :=
  { base with clasp := c, keys := { base.keys with slots := [(2, { st := .valid, material := 9 })] }, mgmt := { base.mgmt with sets := [(0, { version := 7, comp := [3] })] } }

/-- What a partner with the same owner root, set version 3 and this claim and list shows. -/
def proving (claim : Nat) (comp : List Nat) : PartnerInfo :=
  { pairId := true, claim := claim, version := 3, comp := comp, challenge := [1, 2], answer := (rooted {}).rootAnswer [1, 2] }

end Sys2Proof.Tests
end

