-- ==== Sys2Proof/Tests/Slice0.lean ====
section
/-! SUPPORT. The checks of well-formedness, and for every clause of every statement operands and a state that meet its hypotheses. -/

namespace Sys2Proof.Tests

open Sys2Proof Sys2Proof.Machine

set_option Elab.async false

/-! ### Ill-formed commands, one for each check, are refused -/

/-- A header at the largest value of every field. -/
def fullHeader : CmdHdr := { fn := 63, queue := 3, tag := 2 ^ 32 - 1, xaddr := 2 ^ 64 - 1, xlen := 2 ^ 32 - 1, plen := 255 }

theorem test_wf_header_full : (Instr.sysReadInfo fullHeader).wf = true := by decide

theorem test_wf_header_refused : ([{ fullHeader with fn := 64 }, { fullHeader with queue := 4 }, { fullHeader with tag := 2 ^ 32 }, { fullHeader with xaddr := 2 ^ 64 }, { fullHeader with xlen := 2 ^ 32 }, { fullHeader with plen := 256 }].all fun h => !(Instr.sysReadInfo h).wf && !(Instr.commandFetch 0 0 { opcode := 0, hdr := h }).wf) = true := by decide

theorem test_wf_refused_1 : (([.mbxCmdDb 64 0 default, .mbxCmdDb 0 4 default, .mbxCplDb 64 default, .mbxEvtDb 64 default, .cmdQueueEnable 64 0, .cmdQueueEnable 0 4, .cmdQueueDisable 64 0, .cmdQueueDisable 0 4, .cplQueueEnable 64, .cplQueueDisable 64, .evtQueueEnable 64, .evtQueueDisable 64, .msixVectorMask 64 0 default, .msixVectorMask 0 64 default, .msixVectorUnmask 64 0, .msixVectorUnmask 0 64, .pringDb 64 0 default default, .pringDb 0 4096 default default, .registerWrite 64 0 default default default, .registerWrite 0 8 default default default, .mmioViolation 64 default, .commandFetch 64 0 default, .commandFetch 0 4 default, .eventWrite 64, .holdOffEnd 64 0] : List Instr).all fun i => !i.wf) = true := by decide

theorem test_wf_refused_2 : (([.holdOffEnd 0 64, .txnIdleTimeout 64 0, .txnIdleTimeout 0 4, .flr 64, .ppsiWindowEnd 4, .irigFrame 2 default, .serialTodMessage 2 default, .nrefMessage 16 default, .nrefRequestSend 16, .nrefLossTimeout 16, .pendantFrame 4 default default, .pendantByteGap 4, .pendantHealthTimeout 4, .pendantSteerResend 4, .gnssStreamLost 4, .gnssStreamClockReturn 4, .gnssStreamAligned 4, .channelDetection 192 default, .channelLock 192, .pullInTimeout 192, .channelLockLoss 192, .reacquireTimeout 192, .notVisibleExpiry default default 2, .gnssSolution 2 default, .powerBaselineLearned 4 default] : List Instr).all fun i => !i.wf) = true := by decide

theorem test_wf_refused_3 : (([.surveyComplete 2 default default default default, .filigreeEdge 64 default default default, .stampDrain 64 default, .filRingChangeEffect 96, .diffMatch 32, .diffWaitTimeout 32, .diffGateEnd 32, .filStreamWrite 64 0, .filStreamWrite 0 64, .loopLockAchieved 8, .loopPhaseError 8, .loopAcquireTimeout 8, .loopHoldoverCause 8, .loopCauseCleared 8, .loopTuningLimit 8, .offsetRampEnd 8, .beadFrameBuild 4, .irigFrameBuild 4, .tapFirstValidSample 16, .tapSample 16 default default, .svFrame 16 default, .laEstimate 16 default, .phasorReport 16 default, .transientTimeout 16, .predictHoldLimit 16] : List Instr).all fun i => !i.wf) = true := by decide

theorem test_wf_refused_4 : (([.scheduledEventFire 32, .armWindowClose 32, .laStreamWrite 16, .linkUp 256 default, .linkDown 256, .linkFailedTimeout 256, .calibrationDue 256, .loopbackRunStart 256, .loopbackRunEnd 256 default, .portTemperatureRead 256 default, .asymmetryEffect 256, .asymSettleEnd 256, .frameReceived 256 default, .pauseFrame 256 default default default, .pauseEnd 256, .pauseWatchdog 256, .pauseHoldoffEnd 256, .collision 256 default, .backoffExpiry 256, .lpiEntry 256, .lpiWake 256, .lpiWakeComplete 256, .transmitStart 256, .transmitComplete 256 default, .queueSample 256] : List Instr).all fun i => !i.wf) = true := by decide

theorem test_wf_refused_5 : (([.arpRequest 256 default, .neighbourSolicitation 256 default, .echoRequest 256 default, .membershipQuery 256 default, .delayReq 256 default, .pdelayReq 256 default, .requestUnicastTransmission 256 default, .cancelUnicastTransmission 256 default default, .acknowledgeCancel 256 default, .foreignAnnounce 256, .ntpRequest 256 default, .ntpLaunch 256 default default, .launchWaitEligible 4 0, .launchWaitEligible 0 64, .syncOriginate 1024 0, .syncOriginate 0 256, .announceOriginate 1024 0, .announceOriginate 0 256, .followUpSend 256 default, .pdelayRespFollowUpSend 256 default, .grantExpiry 1048576, .cancelTimeout 1048576, .sealKeyRotation 64, .signetDispatch 16, .signetJobComplete 16 default] : List Instr).all fun i => !i.wf) = true := by decide

theorem test_wf_refused_6 : (([.knownAnswerTest 16 default, .pkOperationComplete 2 default, .drbgReseed 6, .drbgErrorTimeout 6, .slotExpiry 4096, .slotScrub 4096 default, .tcpSegment 256 default, .tlsRecord 4096 default, .handshakeTimeout 4096, .connectionIdleTimeout 4096, .ntsKeClientExchange 16 default, .tpHeartbeatTimeout 4, .errorPinRaised 16 0 default, .errorPinRaised 0 32 default, .errorPinCleared 16 0, .errorPinCleared 0 32, .missingFrame 2] : List Instr).all fun i => !i.wf) = true := by decide

theorem test_wf_accepted_1 : (([.mbxCmdDb 63 3 default, .mbxCplDb 63 default, .mbxEvtDb 63 default, .cmdQueueEnable 63 3, .cmdQueueDisable 63 3, .cplQueueEnable 63, .cplQueueDisable 63, .evtQueueEnable 63, .evtQueueDisable 63, .msixVectorMask 63 63 default, .msixVectorUnmask 63 63, .pringDb 63 4095 default default, .registerWrite 63 7 default default default, .mmioViolation 63 default, .commandFetch 63 3 default, .eventWrite 63, .holdOffEnd 63 63, .txnIdleTimeout 63 3, .flr 63, .ppsiWindowEnd 3, .irigFrame 1 default, .serialTodMessage 1 default, .nrefMessage 15 default, .nrefRequestSend 15, .nrefLossTimeout 15, .pendantFrame 3 default default, .pendantByteGap 3, .pendantHealthTimeout 3, .pendantSteerResend 3, .gnssStreamLost 3, .gnssStreamClockReturn 3, .gnssStreamAligned 3, .channelDetection 191 default, .channelLock 191, .pullInTimeout 191, .channelLockLoss 191, .reacquireTimeout 191, .notVisibleExpiry default default 1, .gnssSolution 1 default, .powerBaselineLearned 3 default] : List Instr).all fun i => i.wf) = true := by decide

theorem test_wf_accepted_2 : (([.surveyComplete 1 default default default default, .filigreeEdge 63 default default default, .stampDrain 63 default, .filRingChangeEffect 95, .diffMatch 31, .diffWaitTimeout 31, .diffGateEnd 31, .filStreamWrite 63 63, .loopLockAchieved 7, .loopPhaseError 7, .loopAcquireTimeout 7, .loopHoldoverCause 7, .loopCauseCleared 7, .loopTuningLimit 7, .offsetRampEnd 7, .beadFrameBuild 3, .irigFrameBuild 3, .tapFirstValidSample 15, .tapSample 15 default default, .svFrame 15 default, .laEstimate 15 default, .phasorReport 15 default, .transientTimeout 15, .predictHoldLimit 15, .scheduledEventFire 31, .armWindowClose 31, .laStreamWrite 15, .linkUp 255 default, .linkDown 255, .linkFailedTimeout 255, .calibrationDue 255, .loopbackRunStart 255, .loopbackRunEnd 255 default, .portTemperatureRead 255 default, .asymmetryEffect 255, .asymSettleEnd 255, .frameReceived 255 default, .pauseFrame 255 default default default, .pauseEnd 255, .pauseWatchdog 255] : List Instr).all fun i => i.wf) = true := by decide

theorem test_wf_accepted_3 : (([.pauseHoldoffEnd 255, .collision 255 default, .backoffExpiry 255, .lpiEntry 255, .lpiWake 255, .lpiWakeComplete 255, .transmitStart 255, .transmitComplete 255 default, .queueSample 255, .arpRequest 255 default, .neighbourSolicitation 255 default, .echoRequest 255 default, .membershipQuery 255 default, .delayReq 255 default, .pdelayReq 255 default, .requestUnicastTransmission 255 default, .cancelUnicastTransmission 255 default default, .acknowledgeCancel 255 default, .foreignAnnounce 255, .ntpRequest 255 default, .ntpLaunch 255 default default, .launchWaitEligible 3 63, .syncOriginate 1023 255, .announceOriginate 1023 255, .followUpSend 255 default, .pdelayRespFollowUpSend 255 default, .grantExpiry 1048575, .cancelTimeout 1048575, .sealKeyRotation 63, .signetDispatch 15, .signetJobComplete 15 default, .knownAnswerTest 15 default, .pkOperationComplete 1 default, .drbgReseed 5, .drbgErrorTimeout 5, .slotExpiry 4095, .slotScrub 4095 default, .tcpSegment 255 default, .tlsRecord 4095 default, .handshakeTimeout 4095] : List Instr).all fun i => i.wf) = true := by decide

theorem test_wf_accepted_4 : (([.connectionIdleTimeout 4095, .ntsKeClientExchange 15 default, .tpHeartbeatTimeout 3, .errorPinRaised 15 31 default, .errorPinCleared 15 31, .missingFrame 1] : List Instr).all fun i => i.wf) = true := by decide

theorem wit_TimeCoreCommands_1 : ∃ (h : CmdHdr) (s : State) (rate : Nat), ready { op := 0x1207, plen := 4, mirrored := true } h s ∧ 1 ≤ rate ∧ rate ≤ 10000 :=
  ⟨hd 4, base, 10000, by decide⟩

theorem wit_TimeCoreCommands_2 : ∃ (h : CmdHdr) (s : State) (a : AcquireArgs), ready { op := 0x1203, plen := 16, mirrored := true } h s ∧ 1 ≤ a.holdGrade ∧ a.holdGrade ≤ a.acqGrade ∧ a.acqGrade ≤ 24 ∧ a.autoSet ≤ 1 ∧ 1 ≤ a.lockOffset ∧ a.lockOffset ≤ 1000000 ∧ 1000 ≤ a.holdLimit ∧ a.holdLimit ≤ 0xFFFFFFFE ∧ 100 ≤ a.stepThreshold ∧ a.stepThreshold ≤ 1000000000 :=
  ⟨hd 16, base, { acqGrade := 24, holdGrade := 24, lockOffset := 1000000, holdLimit := 0xFFFFFFFE, stepThreshold := 100 }, by decide⟩

theorem wit_TimeCoreCommands_3 : ∃ (h : CmdHdr) (s : State) (offset : Int) (l : List LocalChange), ready { op := 0x1202, plen := 8, mirrored := true, xbIn := true } h s ∧ l.length ≤ 16 ∧ offset.natAbs ≤ 50400 ∧ (∀ c ∈ l, c.offset.natAbs ≤ 50400 ∧ c.sec < 2 ^ 48) ∧ l.Pairwise (fun a b => a.sec < b.sec) :=
  ⟨hx 8, base, -50400, [{ sec := 5, offset := 50400 }, { sec := 6, offset := 0 }], by decide⟩

theorem wit_TimeCoreCommands_4 : ∃ (h : CmdHdr) (s : State) (force : Nat) (l : List LeapEntry), ready { op := 0x1201, plen := 2, mirrored := true, xbIn := true } h s ∧ force ≤ 1 ∧ 1 ≤ l.length ∧ l.length ≤ 64 ∧ leapTableOk l = true ∧ ((force = 0 → leapNeedsForce s.tc.leap l s.tc.mtc.sec = false)) :=
  ⟨hx 2, base, 0, [{ tEff := 0, offset := 10 }, { tEff := 86410, offset := 11 }], by decide⟩

theorem wit_TimeCoreCommands_5 : ∃ (h : CmdHdr) (s : State) (force : Nat), ready { op := 0x1204, plen := 1, mirrored := true, action := true } h s ∧ (force = 0 ∨ force = 3) :=
  ⟨hd 1, base, 3, by decide⟩

theorem wit_TimeCoreCommands_6 : ∃ (h : CmdHdr) (s : State), ready { op := 0x1205, mirrored := true, action := true } h s ∧ s.tc.ts = .lost :=
  ⟨hd 0, { base with tc := { base.tc with ts := .lost } }, by decide⟩

theorem wit_TimeCoreCommands_7 : ∃ (h : CmdHdr) (s : State) (sec ns frac : Int), ready { op := 0x1206, plen := 16, mirrored := true, action := true } h s ∧ stepArgsOk sec ns frac = true ∧ s.tc.ts ≠ .lost ∧ s.tc.step = none :=
  ⟨hd 16, base, 1, 999999999, 1048575, by decide⟩

theorem wit_TimeCoreEvents_1 : ∃ (s : State) (n : Nat), s.alive = true ∧ s.tc.mtc.running = true ∧ s.tc.step = none ∧ s.tc.mtc.units ≤ (s.tc.mtc.run n).units :=
  ⟨base, 625000, by decide⟩

theorem wit_TimeCoreEvents_2 : ∃ (s : State) (sl : Slew), s.alive = true ∧ s.tc.mtc.running = true ∧ s.tc.step = none ∧ s.tc.mtc.slew = some sl :=
  ⟨{ base with tc := { base.tc with mtc := { base.tc.mtc with slew := some { c := 100, applied := 0, f := 30 } } } }, { c := 100, applied := 0, f := 30 }, by decide⟩

theorem wit_TimeCoreEvents_3 : ∃ (s : State) (p : PendLeap), s.alive = true ∧ s.tc.leapNext = some p ∧ p.due ≤ s.tc.mtc.sec :=
  ⟨{ base with tc := { base.tc with leapNext := some { entries := [{ tEff := 0, offset := 1 }], genInc := true, due := 1000 } } }, { entries := [{ tEff := 0, offset := 1 }], genInc := true, due := 1000 }, by decide⟩

theorem wit_TimeCoreEvents_4 : ∃ (s : State), s.alive = true :=
  ⟨base, by decide⟩

theorem wit_TimeCoreEvents_5 : ∃ (s : State) (c : LocalChange) (r : List LocalChange), s.alive = true ∧ s.tc.localSched = c :: r :=
  ⟨{ base with tc := { base.tc with localSched := [{ sec := 1000, offset := 7 }] } }, { sec := 1000, offset := 7 }, [], by decide⟩

theorem wit_HallmarkCommands_1 : ∃ (h : CmdHdr) (s : State) (a p : Nat), ready { op := 0x1301, plen := 8, mirrored := true } h s ∧ 1 ≤ a ∧ a ≤ 3600 ∧ 1 ≤ p ∧ p ≤ 3600 :=
  ⟨hd 8, base, 1, 3600, by decide⟩

theorem wit_HallmarkCommands_2 : ∃ (h : CmdHdr) (s : State) (p : Nat), ready { op := 0x1341, plen := 2, who := .any } h s ∧ pointOk p = true ∧ s.pointOwner p = h.fn :=
  ⟨hd 2, base, 0xFFFF, by decide⟩

theorem wit_HallmarkCommands_3 : ∃ (h : CmdHdr) (s : State) (r : HallRec) (d : Nat), ready { op := 0x1342, plen := 40, who := .any } h s ∧ s.keyUsable (128 + h.fn) = false :=
  ⟨hd 40, base, {}, 0, by decide⟩

theorem wit_HallmarkCommands_4 : ∃ (h : CmdHdr) (s : State) (r : HallRec) (d : Nat), ready { op := 0x1342, plen := 40, who := .any } h s ∧ s.keyUsable (128 + h.fn) = true ∧ (s.key (128 + h.fn)).useLimit = 0 ∧ h.fn < 64 :=
  ⟨hd 40, { base with keys := { base.keys with slots := [(128, { st := .valid, alg := 1 })] } }, { point := 5 }, 7, by decide⟩

theorem wit_HallmarkEvents_1 : ∃ (s : State) (p : Nat), s.alive = true ∧ p ∈ s.allPoints ∧ (s.port p).toUp = false ∧ (s.port p).asymNext = none ∧ s.fil.moves = [] ∧ s.hall.widen = [] ∧ s.hall.narrow = [] ∧ s.hall.narrowPair = false ∧ ¬ (0x180 ≤ p ∧ p ≤ 0x18F) :=
  ⟨base, 0xFFFF, by decide⟩

theorem wit_HallmarkEvents_2 : ∃ (s : State) (p : Nat), s.alive = true ∧ p ∉ s.hall.expired :=
  ⟨base, 3, by decide⟩

theorem wit_HallmarkEvents_3 : ∃ (s : State) (p : Nat), s.alive = true ∧ p < 256 ∧ (s.port p).asymNext = none ∧ (s.port p).asymWiden ≠ none ∧ p ∉ s.hall.widen :=
  ⟨{ base with ports := { base.ports with ports := [(255, { asymWiden := some 9 })] } }, 255, by decide⟩

theorem wit_HallmarkEvents_4 : ∃ (s : State), s.alive = true ∧ s.clasp.frozenPair ≠ none ∧ s.hall.widen = [] :=
  ⟨{ base with clasp := { base.clasp with frozenPair := some 4 } }, by decide⟩

theorem wit_RefCommands_1 : ∃ (h : CmdHdr) (s : State) (a : PpsArgs), ready { op := 0x1001, plen := 24, mirrored := true } h s ∧ a.input < 4 ∧ 10 ≤ a.w ∧ a.w ≤ 100000000 ∧ a.cable.natAbs ≤ 1000000000 ∧ a.todSec < 2 ^ 48 :=
  ⟨hd 24, base, { input := 3, enable := true, w := 10, cable := -1000000000, todSec := 281474976710655 }, by decide⟩

theorem wit_RefCommands_2 : ∃ (h : CmdHdr) (s : State) (a : ClockArgs), ready { op := 0x1002, plen := 16, mirrored := true } h s ∧ a.input < 4 ∧ a.enable ≤ 1 ∧ 1000 ≤ a.fN ∧ a.fN ≤ 250000000 ∧ 1 ≤ a.stampRate ∧ a.stampRate ≤ 1000000 ∧ a.fN % a.stampRate = 0 ∧ 10 ≤ a.wF ∧ a.wF ≤ 100000 :=
  ⟨hd 16, base, { input := 3, enable := 1, fN := 250000000, stampRate := 1000000, wF := 100000 }, by decide⟩

theorem wit_RefCommands_3 : ∃ (h : CmdHdr) (s : State) (a : TimecodeArgs), ready { op := 0x1003, plen := 5, mirrored := true } h s ∧ a.input < 2 ∧ (a.kind = 0 ∨ (a.kind = 1 ∧ a.format ≤ 7 ∧ (a.scale = 0 ∨ a.scale = 1 ∨ a.scale = 3)) ∨ (a.kind = 2 ∧ a.format ≤ 5 ∧ a.scale ≤ 1)) ∧ (((s.tci a.input).kind = 0 ∨ (s.tci a.input).kind = a.kind)) :=
  ⟨hd 5, base, { input := 1, kind := 2, format := 5, scale := 1 }, by decide⟩

theorem wit_RefCommands_4 : ∃ (h : CmdHdr) (s : State) (a : PendantArgs), ready { op := 0x1004, plen := 36, mirrored := true } h s ∧ a.pend < 4 ∧ a.freq ≤ 2 ∧ ((a.baud ≤ 3 ∨ a.baud = 0xFF)) ∧ a.steer ≤ 2 ∧ a.g ≠ 0 ∧ a.g.natAbs ≤ 2 ^ 31 ∧ a.m < 2 ^ 24 ∧ a.cmin ≤ a.cmax ∧ a.cmax < 2 ^ 24 ∧ a.pfxBits ≤ 8 ∧ a.spiMode ≤ 1 ∧ 1 ≤ a.sck ∧ a.sck ≤ 25 ∧ 1 ≤ a.healthTimeout ∧ a.healthTimeout ≤ 60 ∧ 1 ≤ a.stampRate ∧ a.stampRate ≤ 1000000 ∧ pendFreq a.freq % a.stampRate = 0 :=
  ⟨hd 36, base, { pend := 3, freq := 2, baud := 0xFF, g := -2147483648, cmax := 16777215, sck := 25, healthTimeout := 60, stampRate := 1000000 }, by decide⟩

theorem wit_RefCommands_5 : ∃ (h : CmdHdr) (s : State) (a : NrefArgs), (ready { op := 0x1005, plen := 37, mirrored := true, xbIn := decide (a.enable = 1) && decide (a.auth = 2) } h s) ∧ a.nref < 16 ∧ a.enable = 1 ∧ a.auth = 0 ∧ a.port < 256 ∧ ((a.profile = 8 ∧ a.delay = 2 ∨ a.profile ≤ 6 ∧ a.delay ≤ 1)) ∧ ((a.addrKind = 0 ∨ a.addrKind = 4 ∨ a.addrKind = 6 ∨ a.addrKind = 7)) ∧ 10 ≤ a.accept ∧ a.accept ≤ 10000000 ∧ 1 ≤ a.loss ∧ a.loss ≤ 60 ∧ -7 ≤ a.syncLog ∧ a.syncLog ≤ 4 ∧ -7 ≤ a.delayLog ∧ a.delayLog ≤ 4 ∧ -7 ≤ a.annLog ∧ a.annLog ≤ 4 ∧ s.portOwner a.port = 0 ∧ s.portUsed .nref a.port = false :=
  ⟨hd 37, base, { nref := 15, enable := 1, port := 255, profile := 8, delay := 2, accept := 10, loss := 60 }, by decide⟩

theorem wit_RefCommands_6 : ∃ (h : CmdHdr) (s : State) (r : Nat), ready { op := 0x1006, plen := 1, mirrored := true, action := true } h s ∧ refOk r = true ∧ (s.inp r).st = .fault :=
  ⟨hd 1, { base with ref := { base.ref with ins := [(47, { st := .fault, fails := 8 })] } }, 47, by decide⟩

theorem wit_RefCommands_7 : ∃ (h : CmdHdr) (s : State) (r : Nat), ready { op := 0x1041, plen := 1, xbOut := true } h s ∧ refOk r = true ∧ 304 ≤ h.xlen :=
  ⟨hx 1, base, 16, by decide⟩

theorem wit_RefInputEvents_1 : ∃ (s : State) (n : Nat), s.alive = true ∧ n < 4 ∧ (s.inp (refPpsi n)).st = .valid ∧ (s.pps n).seen = false ∧ (s.inp (refPpsi n)).missRun ≠ 2 :=
  ⟨base' [(12, { st := .valid })], 3, by decide⟩

theorem wit_RefInputEvents_2 : ∃ (s : State) (n : Nat), s.alive = true ∧ n < 4 ∧ (s.inp (refPpsi n)).st = .valid ∧ (s.pps n).seen = false ∧ (s.inp (refPpsi n)).missRun = 2 :=
  ⟨base' [(12, { st := .valid, missRun := 2 })], 3, by decide⟩

theorem wit_RefInputEvents_3 : ∃ (s : State) (n : Nat), s.alive = true ∧ n < 4 ∧ (s.inp (refPpsi n)).st = .valid ∧ (s.pps n).seen = true :=
  ⟨{ base with ref := { base.ref with ins := [(12, { st := .valid, missRun := 2 })], pps := [(3, { seen := true })] } }, 3, by decide⟩

theorem wit_RefInputEvents_4 : ∃ (s : State) (r : Nat) (f : Rat) (c : Bool) (n : Nat), s.alive = true ∧ n ≤ s.tc.mtc.ns ∧ 1 ≤ r ∧ r ≤ 8 ∧ (s.inp r).st = .valid ∧ s.gateValue r = some (f, c) ∧ f ≤ s.gateWindow r ∧ -(s.gateWindow r) ≤ f :=
  ⟨{ base with ref := { base.ref with ins := [(8, { st := .valid, missRun := 2 }), (9, { st := .valid })], clk := [(3, { fN := 1000 })], gates := [(8, { first := some { edges := 5 }, last := some { edges := 1005, t := 1048576000000000 } })] } }, 8, 0, false, 0, by decide +kernel⟩

theorem wit_RefInputEvents_5 : ∃ (s : State) (r : Nat) (f : Rat) (c : Bool) (n : Nat), s.alive = true ∧ n ≤ s.tc.mtc.ns ∧ 1 ≤ r ∧ r ≤ 8 ∧ (s.inp r).st = .valid ∧ s.gateValue r = some (f, c) ∧ s.gateWindow r < f :=
  ⟨{ base with ref := { base.ref with ins := [(1, { st := .valid, missRun := 2 }), (9, { st := .valid })], pend := [(0, { cfg := { pend := 0, freq := 0 } })], gates := [(1, { first := some { edges := 5 }, last := some { edges := 5000056, t := 1048576000000000, coarse := true } })] } }, 1, 51/5000000, true, 0, by decide +kernel⟩

theorem wit_RefInputEvents_6 : ∃ (s : State) (n : Nat), s.alive = true ∧ n < 4 ∧ (s.inp (refCki n)).st = .valid :=
  ⟨base' [(8, { st := .valid, missRun := 2 }), (9, { st := .valid })], 3, by decide⟩

theorem wit_RefInputEvents_7 : ∃ (s : State) (c : ClockInput), s.alive = true :=
  ⟨base, .gnss 1, by decide⟩

theorem wit_RefInputEvents_8 : ∃ (s : State) (n : Nat) (f : IrigObs) (p : Int) (c : Bool), s.alive = true ∧ n < 2 ∧ (s.tci n).kind = 1 ∧ (s.inp (refTci n)).st = .valid ∧ f.widthOk = true ∧ f.markersOk = true ∧ f.parityOk = true ∧ irigFieldsOk (s.tci n).format f = true ∧ s.leapDisagrees ((s.tci n).indicated f) = false ∧ (s.tci n).pr = some (p, c) ∧ 1 ≤ s.irigSecond (s.tci n) f ∧ (s.tci n).last = some (s.irigSecond (s.tci n) f - 1) :=
  ⟨{ base with ref := { base.ref with ins := [(14, { st := .valid })], tci := [(1, { kind := 1, last := some 3599, pr := some (5, false) })] } }, 1, { hh := 1, mm := 0, ss := 0, day := 1, sbs := 3600 }, 5, false, by decide⟩

theorem wit_RefInputEvents_9 : ∃ (s : State) (n : Nat) (f : IrigObs), s.alive = true ∧ n < 2 ∧ (s.tci n).kind = 1 ∧ (s.inp (refTci n)).st = .absent ∧ f.parityOk = false :=
  ⟨{ base with ref := { base.ref with ins := [(14, { st := .absent })], tci := [(1, { kind := 1, last := some 3599 })] } }, 1, { hh := 1, mm := 0, ss := 0, day := 1, parityOk := false }, by decide⟩

theorem wit_RefInputEvents_10 : ∃ (s : State) (n : Nat) (m : TodMsg), s.alive = true ∧ n < 2 ∧ (s.tci n).kind = 2 ∧ (s.inp (refTci n)).st ≠ .fault ∧ m.good = false :=
  ⟨{ base with ref := { base.ref with ins := [(14, { st := .absent })], tci := [(1, { kind := 2 })] } }, 1, { kind := 1, sec := 7, good := false }, by decide⟩

theorem wit_RefInputEvents_11 : ∃ (s : State) (n : Nat) (m : TodMsg) (e : Int), s.alive = true ∧ n < 2 ∧ (s.tci n).kind = 2 ∧ (s.tci n).scale = 1 ∧ (s.tci n).previous = true ∧ (s.inp (refTci n)).st = .valid ∧ m.kind = 1 ∧ m.good = true ∧ m.expected = true ∧ m.valid = true ∧ 10 ≤ m.afterMs ∧ m.afterMs ≤ 990 ∧ (s.tci n).seen = false ∧ (s.pps n).last = some e ∧ (s.pps n).coarse = false ∧ s.tc.leap = [] ∧ 1 ≤ m.sec ∧ (s.tci n).last = some (m.sec - 1) :=
  ⟨{ base with ref := { base.ref with ins := [(13, { st := .valid })], tci := [(0, { kind := 2, scale := 1, previous := true, last := some 6 })], pps := [(0, { last := some 9 })] } }, 0, { kind := 1, sec := 7, afterMs := 990 }, 9, by decide⟩

theorem wit_RefInputEvents_12 : ∃ (s : State) (n : Nat), s.alive = true ∧ n < 2 ∧ (s.tci n).kind ≠ 0 ∧ (s.inp (refTci n)).st = .absent :=
  ⟨{ base with ref := { base.ref with ins := [(13, { st := .absent })], tci := [(0, { kind := 2 })] } }, 0, by decide⟩

theorem wit_NetworkAndPendantEvents_1 : ∃ (s : State) (n c : Nat) (m : NrefMsg), s.alive = true ∧ n < 16 ∧ (s.inp (refNref n)).st ≠ .off ∧ s.nrefFault n m = some c :=
  ⟨base' [(47, { st := .valid })], 15, 7, { fault := some 7 }, by decide⟩

theorem wit_NetworkAndPendantEvents_2 : ∃ (s : State) (n : Nat) (m : NrefMsg) (v : Rat × Rat), s.alive = true ∧ n < 16 ∧ (s.inp (refNref n)).st = .valid ∧ s.nrefFault n m = none ∧ m.seqId = none ∧ m.response = false ∧ m.hallmark = none ∧ m.sample = some v ∧ (s.nrefIn n).ident = some m.ident ∧ v.1 - (s.nrefIn n).predict s.upNs ≤ ((s.nrefIn n).cfg.accept : Rat) * 1000 ∧ -(((s.nrefIn n).cfg.accept : Rat) * 1000) ≤ v.1 - (s.nrefIn n).predict s.upNs :=
  ⟨{ base with ref := { base.ref with ins := [(47, { st := .valid })], nref := [(15, { ident := some 0, cfg := { nref := 15, accept := 10 } })] } }, 15, { sample := some (10000, 0) }, (10000, 0), by decide +kernel⟩

theorem wit_NetworkAndPendantEvents_3 : ∃ (s : State) (n : Nat) (m : NrefMsg) (v : Rat × Rat), s.alive = true ∧ n < 16 ∧ (s.inp (refNref n)).st = .valid ∧ s.nrefFault n m = none ∧ m.seqId = none ∧ m.response = false ∧ m.hallmark = none ∧ m.sample = some v ∧ (s.nrefIn n).ident = some m.ident ∧ ((s.nrefIn n).cfg.accept : Rat) * 1000 < v.1 - (s.nrefIn n).predict s.upNs :=
  ⟨{ base with ref := { base.ref with ins := [(47, { st := .valid })], nref := [(15, { ident := some 0, cfg := { nref := 15, accept := 10 } })] } }, 15, { sample := some (10001, 0) }, (10001, 0), by decide +kernel⟩

theorem wit_NetworkAndPendantEvents_4 : ∃ (s : State) (n : Nat), s.alive = true ∧ n < 16 ∧ (s.inp (refNref n)).st ≠ .off ∧ (s.nrefIn n).cfg.auth ≠ 2 :=
  ⟨base' [(47, { st := .valid })], 15, by decide⟩

theorem wit_NetworkAndPendantEvents_5 : ∃ (s : State) (n : Nat), s.alive = true ∧ n < 16 ∧ (s.inp (refNref n)).st = .valid :=
  ⟨base' [(47, { st := .valid })], 15, by decide⟩

theorem wit_NetworkAndPendantEvents_6 : ∃ (s : State) (n k : Nat) (f : List (BitVec 8)), s.alive = true ∧ n < 4 ∧ (s.pend n).health ≠ .none ∧ parseFrame f = none :=
  ⟨{ base with ref := { base.ref with pend := [(3, { health := .good })] } }, 3, 9, [1, 2], by decide⟩

theorem wit_NetworkAndPendantEvents_7 : ∃ (s : State) (n : Nat), s.alive = true ∧ n < 4 ∧ (s.pend n).health ≠ .none :=
  ⟨{ base with ref := { base.ref with pend := [(3, { health := .good })] } }, 3, by decide⟩

theorem wit_NetworkAndPendantEvents_8 : ∃ (s : State) (n : Nat), s.alive = true ∧ n < 4 ∧ (s.pend n).health ≠ .none :=
  ⟨{ base with ref := { base.ref with pend := [(3, { health := .good })] } }, 3, by decide⟩

theorem wit_NetworkAndPendantEvents_9 : ∃ (s : State) (n : Nat), s.alive = true ∧ n < 4 ∧ (s.pend n).waiting ≠ none ∧ (s.pend n).failed = false :=
  ⟨{ base with ref := { base.ref with pend := [(3, { waiting := some 4, sends := 2 })] } }, 3, by decide⟩

theorem wit_GnssCommands_1 : ∃ (h : CmdHdr) (s : State) (a : StreamArgs), ready { op := 0x1101, plen := 12, mirrored := true } h s ∧ a.stream < 4 ∧ a.enable = 1 ∧ a.sense ≤ 1 ∧ a.cko < 32 ∧ 20000 ≤ a.fs ∧ a.fs ≤ 100000 ∧ a.ifHz.natAbs + (if a.stream % 2 = 0 then 2046000 else 10230000) ≤ 400 * a.fs ∧ (s.pin a.cko).on = false ∧ s.loopMoves (s.pin a.cko).cfg.loop = false :=
  ⟨hd 12, base, { stream := 3, enable := 1, sense := 1, cko := 31, fs := 100000, ifHz := -29770000 }, by decide⟩

theorem wit_GnssCommands_2 : ∃ (h : CmdHdr) (s : State) (a : StreamArgs), ready { op := 0x1101, plen := 12, mirrored := true } h s ∧ a.stream < 4 ∧ a.enable = 0 ∧ a.sense ≤ 1 ∧ a.cko < 32 ∧ 20000 ≤ a.fs ∧ a.fs ≤ 100000 ∧ a.ifHz.natAbs + (if a.stream % 2 = 0 then 2046000 else 10230000) ≤ 400 * a.fs :=
  ⟨hd 12, { base with gnss := { base.gnss with chans := [(5, { st := .track, sig := 2, ant := 1 })], streams := [(3, { st := .up, cfg := { stream := 3, enable := 1 } })] }, ref := { base.ref with ins := [(16, { st := .valid })] } }, { stream := 3, fs := 100000 }, by decide⟩

theorem wit_GnssCommands_3 : ∃ (h : CmdHdr) (s : State) (sys l1c rs mask : Nat), ready { op := 0x1102, plen := 4, mirrored := true } h s ∧ sys < 16 ∧ l1c < 4 ∧ rs ≤ 2 ∧ nbit sys rs = true ∧ mask ≤ 30 :=
  ⟨hd 4, base, 15, 3, 2, 30, by decide⟩

theorem wit_GnssCommands_4 : ∃ (h : CmdHdr) (s : State) (k : Nat), ready { op := 0x1103, plen := 1, mirrored := true, action := true } h s ∧ k ≤ 2 :=
  ⟨hd 1, { base with gnss := { base.gnss with almanac := some 5, ephem := some 6, ants := [(0, {})] } }, 0, by decide⟩

theorem wit_GnssCommands_5 : ∃ (h : CmdHdr) (s : State) (r : Nat), ready { op := 0x1104, plen := 1, mirrored := true } h s ∧ r ≤ 4 :=
  ⟨hd 1, base, 4, by decide⟩

theorem wit_GnssCommands_6 : ∃ (h : CmdHdr) (s : State) (n d u : Nat), ready { op := 0x1105, plen := 12, mirrored := true } h s ∧ n < 4 ∧ d ≤ 20000000 :=
  ⟨hd 12, base, 3, 20000000, 5, by decide⟩

theorem wit_GnssCommands_7 : ∃ (h : CmdHdr) (s : State) (a : SurveyArgs), ready { op := 0x1106, plen := 32, mirrored := true } h s ∧ a.ant ≤ 3 ∧ a.seed ≤ 1 ∧ 600 ≤ a.duration ∧ a.duration ≤ 604800 :=
  ⟨hd 32, base, { ant := 3, seed := 1, duration := 604800, x := 5 }, by decide⟩

theorem wit_GnssCommands_8 : ∃ (h : CmdHdr) (s : State) (n : Nat) (r : SurveyRec), ready { op := 0x1107, plen := 1, mirrored := true, xbIn := true } h s ∧ n < 2 ∧ r.sameHw = true :=
  ⟨hx 1, base, 1, { x := 4 }, by decide⟩

theorem wit_GnssCommands_9 : ∃ (h : CmdHdr) (s : State) (root : List Nat), ready { op := 0x1108, mirrored := true, xbIn := true } h s :=
  ⟨hx 0, base, [3, 4], by decide⟩

theorem wit_GnssCommands_10 : ∃ (h : CmdHdr) (s : State) (e : EtwArg) (u : Nat), ready { op := 0x1109, plen := 20, mirrored := true, action := true } h s ∧ etwOk e = true ∧ u < 10000 :=
  ⟨hd 20, base, { sec := 281474976710655, ns := 999999999, frac := 1048575, tag := 3 }, 9999, by decide⟩

theorem wit_GnssCommands_11 : ∃ (h : CmdHdr) (s : State) (a : SpoofArgs), ready { op := 0x110A, plen := 16, mirrored := true } h s ∧ a.action = 0 ∧ 1 ≤ a.powerTh ∧ a.powerTh ≤ 20 ∧ a.baselineValid = 1 ∧ 1000000 ≤ a.east * a.east + a.north * a.north + a.up * a.up ∧ a.east * a.east + a.north * a.north + a.up * a.up ≤ 2500000000 :=
  ⟨hd 16, base, { action := 0, powerTh := 20, baselineValid := 1, east := 50000 }, by decide⟩

theorem wit_GnssCommands_12 : ∃ (h : CmdHdr) (s : State) (a : SpoofArgs), ready { op := 0x110A, plen := 16, mirrored := true } h s ∧ a.action = 1 :=
  ⟨hd 16, base, { action := 1 }, by decide⟩

theorem wit_GnssCommands_13 : ∃ (h : CmdHdr) (s : State) (n : Nat) (e : Epoch), ready { op := 0x1141, plen := 4, xbOut := true } h s ∧ s.gnss.store.find? (fun x => decide (x.num = n)) = some e ∧ (epochLayout e).bytes ≤ h.xlen :=
  ⟨hx 4, { base with gnss := { base.gnss with store := [{ num := 3 }, { num := 4 }] } }, 4, { num := 4 }, by decide⟩

theorem wit_GnssCommands_14 : ∃ (h : CmdHdr) (s : State), ready { op := 0x1142, xbOut := true } h s ∧ 244 + s.gnss.root.length ≤ h.xlen :=
  ⟨{ hx 0 with xlen := 244 }, base, by decide⟩

theorem wit_GnssStreamAndChannelEvents_1 : ∃ (s : State) (n : Nat), s.alive = true ∧ n < 4 ∧ (((s.strm n).st = .align ∨ (s.strm n).st = .up)) :=
  ⟨{ base with gnss := { base.gnss with chans := [(5, { st := .track, sig := 2, ant := 1 })], streams := [(3, { st := .up })] }, ref := { base.ref with ins := [(16, { st := .valid })] } }, 3, by decide⟩

theorem wit_GnssStreamAndChannelEvents_2 : ∃ (s : State) (n : Nat), s.alive = true ∧ n < 4 ∧ (s.strm n).st = .lost :=
  ⟨{ base with gnss := { base.gnss with streams := [(3, { st := .lost })] } }, 3, by decide⟩

theorem wit_GnssStreamAndChannelEvents_3 : ∃ (s : State) (n : Nat), s.alive = true ∧ n < 4 ∧ (s.strm n).st = .align :=
  ⟨{ base with gnss := { base.gnss with streams := [(3, { st := .align })] } }, 3, by decide⟩

theorem wit_GnssStreamAndChannelEvents_4 : ∃ (s : State), s.alive = true :=
  ⟨{ base with gnss := { base.gnss with chans := [(5, { st := .track })] } }, by decide⟩

theorem wit_GnssStreamAndChannelEvents_5 : ∃ (s : State) (d : SatDemand), s.alive = true ∧ d.ant < 2 ∧ d.sys < 4 ∧ nbit s.gnss.systems d.sys = true ∧ (d.sys, d.sv, d.ant) ∉ s.gnss.hidden ∧ d.l5 = false ∧ (s.strm (2 * d.ant)).st = .up ∧ s.gnss.chans = [] :=
  ⟨{ base with gnss := { base.gnss with systems := 15, streams := [(2, { st := .up })] } }, { ant := 1, sys := 3, sv := 9, elev := 4, l5 := false }, by decide⟩

theorem wit_GnssStreamAndChannelEvents_6 : ∃ (s : State) (c : Nat) (f : Bool) (w : Int), s.alive = true ∧ (s.gch c).st = .acquire :=
  ⟨{ base with gnss := { base.gnss with chans := [(191, { st := .acquire, exhausted := 2 })] } }, 191, false, 0, by decide⟩

theorem wit_GnssStreamAndChannelEvents_7 : ∃ (s : State) (c : Nat), s.alive = true ∧ (s.gch c).st = .pullIn :=
  ⟨{ base with gnss := { base.gnss with chans := [(191, { st := .pullIn })] } }, 191, by decide⟩

theorem wit_GnssStreamAndChannelEvents_8 : ∃ (s : State) (c : Nat), s.alive = true ∧ (s.gch c).st = .reacquire :=
  ⟨{ base with gnss := { base.gnss with chans := [(191, { st := .reacquire })] } }, 191, by decide⟩

theorem wit_GnssStreamAndChannelEvents_9 : ∃ (s : State) (c : Nat), s.alive = true ∧ (s.gch c).st = .pullIn :=
  ⟨{ base with gnss := { base.gnss with chans := [(191, { st := .pullIn })] } }, 191, by decide⟩

theorem wit_GnssStreamAndChannelEvents_10 : ∃ (s : State) (c : Nat), s.alive = true ∧ (s.gch c).st = .track :=
  ⟨{ base with gnss := { base.gnss with chans := [(191, { st := .track })] } }, 191, by decide⟩

theorem wit_GnssStreamAndChannelEvents_11 : ∃ (s : State) (c : Nat), s.alive = true ∧ (s.gch c).st = .reacquire :=
  ⟨{ base with gnss := { base.gnss with chans := [(191, { st := .reacquire })] } }, 191, by decide⟩

theorem wit_GnssStreamAndChannelEvents_12 : ∃ (s : State) (sys sv ant : Nat), s.alive = true :=
  ⟨{ base with gnss := { base.gnss with hidden := [(1, 2, 0), (1, 3, 0)] } }, 1, 2, 0, by decide⟩

theorem wit_GnssEpochsAndSolutions_1 : ∃ (s : State) (o : EpochObs), s.alive = true ∧ s.gnss.stepAt = none ∧ s.gnss.rateNext = none ∧ s.gnss.rate = 1 ∧ 500000000 ≤ s.tc.mtc.ns ∧ s.tc.mtc.ns < 1000000000 ∧ s.gnss.store.length ≤ 64 :=
  ⟨{ base with tc := { base.tc with mtc := { base.tc.mtc with ns := 999999999 } }, gnss := { base.gnss with rate := 1, chans := [(3, { st := .track })] } }, {}, by decide⟩

theorem wit_GnssEpochsAndSolutions_2 : ∃ (s : State) (a : Nat) (o : SolutionObs) (e : Epoch), s.alive = true ∧ a < 2 ∧ s.gnss.store.getLast? = some e ∧ e.latch.ns = 0 ∧ o.weeks = [] ∧ s.solves a (s.solution a e o) = false ∧ (s.solution a e o).fault = false ∧ (s.inp (refGnss a)).st = .valid ∧ (s.ant a).missing = 0 ∧ s.gnss.vector = none ∧ o.broadcast = [] :=
  ⟨{ base with gnss := { base.gnss with store := [{ num := 1 }] }, ref := { base.ref with ins := [(16, { st := .valid })] } }, 1, {}, { num := 1 }, by decide⟩

theorem wit_GnssEpochsAndSolutions_3 : ∃ (s : State) (a : Nat) (o : SolutionObs) (e : Epoch), s.alive = true ∧ a < 2 ∧ s.gnss.store.getLast? = some e ∧ e.latch.ns = 0 ∧ o.weeks = [] ∧ s.solves a (s.solution a e o) = true ∧ (s.inp (refGnss a)).st = .valid ∧ (s.ant a).restart = true ∧ s.gnss.vector = none ∧ o.broadcast = [] :=
  ⟨{ base with gnss := { base.gnss with store := [gnssEpoch], systems := 1, ants := [(1, { restart := true })] }, ref := { base.ref with ins := [(16, { st := .valid })] } }, 1, gnssObs, gnssEpoch, by decide +kernel⟩

theorem wit_GnssEpochsAndSolutions_4 : ∃ (s : State) (a sv : Nat) (v : OsnmaMsg), s.alive = true ∧ a < 2 ∧ s.gstKnown = false :=
  ⟨base, 1, 3, .revokeChain, by decide⟩

theorem wit_GnssEpochsAndSolutions_5 : ∃ (s : State) (a sv adkd : Nat) (data tag key : List Nat) (steps : List (List Nat)) (c : OsnmaChain), s.alive = true ∧ a < 2 ∧ s.gstKnown = true ∧ s.keys.pkOut.length < 2 ∧ s.gnss.chain = some c ∧ c.unsupported = false ∧ c.tagOk data tag key steps = false :=
  ⟨{ base with gnss := { base.gnss with asserted := some ({}, 3), chain := some {} } }, 1, 4, 0, [1], [], [2], [], {}, by decide⟩

theorem wit_GnssEpochsAndSolutions_6 : ∃ (s : State) (n : Nat) (l : Int), s.alive = true ∧ n ∈ s.gnss.learning :=
  ⟨{ base with gnss := { base.gnss with learning := [0, 1] } }, 1, -5, by decide⟩

theorem wit_GnssEpochsAndSolutions_7 : ∃ (s : State) (a : Nat) (x y z : Int) (c : Cov3), s.alive = true ∧ (s.ant a).survey.running = true :=
  ⟨{ base with gnss := { base.gnss with ants := [(1, { survey := { running := true } })] } }, 1, 1, 2, 3, { xx := 4 }, by decide⟩

theorem wit_GnssEpochsAndSolutions_8 : ∃ (s : State), s.alive = true :=
  ⟨base, by decide⟩

theorem wit_GnssEpochsAndSolutions_9 : ∃ (s : State) (a sv adkd : Nat) (data tag key : List Nat) (steps : List (List Nat)) (c : OsnmaChain), s.alive = true ∧ a < 2 ∧ s.gstKnown = true ∧ s.keys.pkOut.length < 2 ∧ s.gnss.chain = some c ∧ c.unsupported = false ∧ c.tagOk data tag key steps = true ∧ s.gnss.verified.look (false, false) sv = (true, false) :=
  ⟨{ base with gnss := { base.gnss with asserted := some ({}, 3), chain := some {}, verified := [(4, (true, false))] } }, 1, 4, 4, [1], [], [], [], {}, by decide⟩

theorem wit_EnsembleCommands_1 : ∃ (h : CmdHdr) (s : State) (r c m : Nat), ready { op := 0x1208, plen := 3, mirrored := true } h s ∧ refOk r = true ∧ m ≤ 1 ∧ c ≤ topCeiling r ∧ ((r = 0 → m = 0)) :=
  ⟨hd 3, base, 47, 1, 1, by decide⟩

theorem wit_EnsembleCommands_2 : ∃ (h : CmdHdr) (s : State) (f : Nat), ready { op := 0x1209, plen := 4, mirrored := true } h s ∧ 1 ≤ f ∧ f ≤ 1000 :=
  ⟨hd 4, base, 1000, by decide⟩

theorem wit_EnsembleCommands_3 : ∃ (h : CmdHdr) (s : State) (z a : Nat), ready { op := 0x120A, plen := 8, mirrored := true } h s ∧ 1000 ≤ z ∧ z ≤ 2592000 ∧ ((a = 0 ∨ (3600 ≤ a ∧ a ≤ 31536000))) :=
  ⟨hd 8, base, 2592000, 31536000, by decide⟩

theorem wit_EnsembleCommands_4 : ∃ (h : CmdHdr) (s : State) (e : Nat), ready { op := 0x120B, plen := 1, mirrored := true } h s ∧ e ≤ 1 :=
  ⟨hd 1, base, 1, by decide⟩

theorem wit_EnsembleCommands_5 : ∃ (h : CmdHdr) (s : State) (p c tau v : Nat), ready { op := 0x120C, plen := 12, mirrored := true } h s ∧ p < 4 ∧ c ≤ 1 ∧ 3600 ≤ tau ∧ tau ≤ 2592000 ∧ 1 ≤ v ∧ v ≤ 86400 ∧ ((c = 1 → (s.pend p).cfg.steer ≠ 0)) :=
  ⟨hd 12, base, 3, 0, 3600, 1, by decide⟩

theorem wit_EnsembleCommands_6 : ∃ (h : CmdHdr) (s : State) (r : Nat), ready { op := 0x120D, plen := 1, mirrored := true, action := true } h s ∧ refOk r = true ∧ s.tc.ts ≠ .holdover :=
  ⟨hd 1, { base with ens := { base.ens with refs := [(47, { history := 5 })] } }, 47, by decide⟩

theorem wit_EnsembleCommands_7 : ∃ (h : CmdHdr) (s : State), ready { op := 0x1241, xbOut := true } h s ∧ 1024 ≤ h.xlen :=
  ⟨hx 0, base, by decide⟩

theorem wit_EnsembleCommands_8 : ∃ (h : CmdHdr) (s : State) (r : Nat), ready { op := 0x1242, plen := 1, xbOut := true } h s ∧ refOk r = true ∧ 64 ≤ h.xlen :=
  ⟨hx 1, base, 47, by decide⟩

theorem wit_EnsembleEvents_1 : ∃ (s : State), s.alive = true :=
  ⟨base' [(16, { st := .valid, meas := some 7 })], by decide⟩

theorem wit_EnsembleEvents_2 : ∃ (s : State), s.alive = true ∧ s.ens.latched = false :=
  ⟨base, by decide⟩

theorem wit_EnsembleEvents_3 : ∃ (s : State), s.alive = true ∧ s.ens.latched = true ∧ s.tc.mtc.running = true ∧ s.tc.ts = .lost ∧ s.tc.releaseReq = true ∧ s.moscGood1s = false :=
  ⟨{ base with ens := { base.ens with latched := true }, tc := { base.tc with ts := .lost, releaseReq := true, moscCal := 77 } }, by decide⟩

theorem wit_EnsembleEvents_4 : ∃ (s : State), s.alive = true ∧ s.ens.latched = true ∧ s.tc.mtc.running = true ∧ s.tc.ts = .locked ∧ s.tc.force = true :=
  ⟨{ base with ens := { base.ens with latched := true, ys := 3 }, tc := { base.tc with ts := .locked, force := true } }, by decide⟩

theorem wit_EnsembleEvents_5 : ∃ (s : State) (n : Nat), s.alive = true ∧ (s.tc.mtc.sec ≠ n ∨ s.tc.ts ≠ .locked ∨ s.ens.learnAge < 3600) :=
  ⟨base, 7, by decide⟩

theorem wit_EnsembleEvents_6 : ∃ (s : State), s.alive = true ∧ s.tc.ts = .locked ∧ 3600 ≤ s.ens.learnAge ∧ s.freqMembers.Nodup :=
  ⟨{ base with tc := { base.tc with ts := .locked }, ens := { base.ens with learnAge := 3600, refs := [(0, { selected := true, slot := some 0, series := [1, 2, 4] })] } }, by decide⟩

theorem wit_EnsembleEvents_7 : ∃ (s : State), s.alive = true ∧ s.ens.saveAge < 3600 :=
  ⟨base, by decide⟩

theorem wit_EnsembleEvents_8 : ∃ (s : State), s.alive = true ∧ 3600 ≤ s.ens.saveAge :=
  ⟨{ base with ens := { base.ens with saveAge := 3600, refs := [(0, { selected := true, slot := some 0, history := 7 })] } }, by decide⟩

theorem wit_EnsembleEvents_9 : ∃ (s : State) (n : Nat), s.alive = true ∧ s.tc.mtc.sec ≠ n :=
  ⟨base, 5, by decide⟩

theorem wit_FiligreeCommands_1 : ∃ (h : CmdHdr) (s : State) (c e g n : Nat), ready { op := 0x1501, plen := 8, mirrored := true } h s ∧ c < 24 ∧ e ≤ 1 ∧ g ≤ 2 ∧ 1 ≤ n ∧ n ≤ 65536 :=
  ⟨hd 8, base, 23, 1, 2, 65536, by decide⟩

theorem wit_FiligreeCommands_2 : ∃ (h : CmdHdr) (s : State) (c k i d : Nat), ready { op := 0x1502, plen := 8, mirrored := true } h s ∧ 40 ≤ c ∧ c < 64 ∧ outputOk k i = true ∧ ((k ≠ 0 ∨ (1 ≤ d ∧ d ≤ 16777216))) ∧ s.loopTaken c (outKey k i) = false :=
  ⟨hd 8, base, 63, 0, 11, 16777216, by decide⟩

theorem wit_FiligreeCommands_3 : ∃ (h : CmdHdr) (s : State) (c b : Nat), ready { op := 0x1503, plen := 3, mirrored := true } h s ∧ c < 64 ∧ b < 64 ∧ (s.bezel b).present = true ∧ ((((s.ring c).reader (.bezel b)).isSome = true ∨ s.consumers c < 4)) :=
  ⟨hd 3, base, 63, 0, by decide⟩

theorem wit_FiligreeCommands_4 : ∃ (h : CmdHdr) (s : State) (c b : Nat), ready { op := 0x1503, plen := 3, mirrored := true } h s ∧ c < 64 ∧ b < 64 ∧ (s.bezel b).present = true :=
  ⟨hd 3, { base with fil := { base.fil with chans := [(23, { grants := [0, 4] })], streams := [{ bezel := 0, cfg := { ch := 23 } }] } }, 23, 0, by decide⟩

theorem wit_FiligreeCommands_5 : ∃ (h : CmdHdr) (s : State) (r m a : Nat), ready { op := 0x1504, plen := 8, mirrored := true } h s ∧ r < 96 ∧ ((r < 24 ∨ 64 ≤ r)) ∧ m ≤ 1 ∧ 64 ≤ a ∧ a % 64 = 0 ∧ s.allotted - (match (s.ring r).next with | some (_, x) => max x (s.ring r).allot | none => (s.ring r).allot) + max a (s.ring r).allot ≤ 131072 :=
  ⟨hd 8, base, 95, 1, 64, by decide⟩

theorem wit_FiligreeCommands_6 : ∃ (h : CmdHdr) (s : State) (a : DiffArgs), ready { op := 0x1505, plen := 24, mirrored := true } h s ∧ a.de < 32 ∧ a.enable = 1 ∧ a.chA < 64 ∧ a.chB < 64 ∧ a.edgeA ≤ 2 ∧ a.edgeB ≤ 2 ∧ ((a.chA ≠ a.chB ∨ a.edgeA ≠ a.edgeB)) ∧ 1 ≤ a.w ∧ a.w ≤ 1000000000 ∧ 1 ≤ a.gate ∧ a.gate ≤ 1000000 ∧ (s.unhook a.de).consumers a.chA < 4 ∧ (s.unhook a.de).consumers a.chB < 4 :=
  ⟨hd 24, base, { de := 31, enable := 1, chA := 63, chB := 63, edgeA := 1, w := 1000000000, gate := 1000000 }, by decide⟩

theorem wit_FiligreeCommands_7 : ∃ (h : CmdHdr) (s : State) (a : FilStreamArgs), ready { op := 0x1506, plen := 24, who := .granted } h s ∧ a.ch < 64 ∧ 8 ≤ a.n ∧ a.n ≤ 20 ∧ a.vector < 64 ∧ s.dmaOk h.fn a.base (32 * 2 ^ a.n) = true ∧ s.dmaOk h.fn a.writeback 4 = true ∧ s.filReach h.fn a.ch = true ∧ s.filFull h.fn a.ch = false :=
  ⟨hd 24, base, { ch := 63, n := 20, vector := 63, base := 64, writeback := 0 }, by decide⟩

theorem wit_FiligreeCommands_8 : ∃ (h : CmdHdr) (s : State) (c r : Nat) (x : FilStream), ready { op := 0x1507, plen := 8, who := .granted, action := true } h s ∧ c < 64 ∧ s.filReach h.fn c = true ∧ s.filStream h.fn c = some x ∧ (r + 2 ^ 32 - x.ack) % 2 ^ 32 ≤ x.out.length :=
  ⟨hd 8, { base with fil := { base.fil with streams := [{ bezel := 0, cfg := { ch := 23 }, ack := 4294967295, out := [(0, {}), (1, {})] }], rings := [(23, { recs := [{}], put := 1, readers := [{ user := .bezel 0, pos := 0 }] })] } }, 23, 0, { bezel := 0, cfg := { ch := 23 }, ack := 4294967295, out := [(0, {}), (1, {})] }, by decide +kernel⟩

theorem wit_FiligreeCommands_9 : ∃ (h : CmdHdr) (s : State) (c m : Nat) (x : FilReader), ready { op := 0x1541, plen := 4, who := .granted, xbOut := true } h s ∧ c < 64 ∧ s.filReach h.fn c = true ∧ (s.ring c).reader (.bezel h.fn) = some x ∧ Rec.bytes ((((s.ring c).recs.drop (x.pos - (s.ring c).base)).take m).flatMap stampLayout) ≤ h.xlen :=
  ⟨hx 4, { base with fil := { base.fil with rings := [(23, { recs := [{}], put := 1, readers := [{ user := .bezel 0, pos := 0 }] })] } }, 23, 5, { user := .bezel 0, pos := 0 }, by decide⟩

theorem wit_FiligreeCommands_10 : ∃ (h : CmdHdr) (s : State) (d : Nat), ready { op := 0x1542, plen := 1, xbOut := true } h s ∧ d < 32 ∧ 144 ≤ h.xlen :=
  ⟨hx 1, base, 31, by decide⟩

theorem wit_FiligreeCommands_11 : ∃ (h : CmdHdr) (s : State), ready { op := 0x1543, xbOut := true } h s ∧ 3072 ≤ h.xlen :=
  ⟨hx 0, base, by decide⟩

theorem wit_FiligreeCommands_12 : ∃ (h : CmdHdr) (s : State) (a : DiffArgs), ready { op := 0x1505, plen := 24, mirrored := true } h s ∧ a.de < 32 ∧ a.enable = 0 ∧ (s.eng a.de).cfg.enable = 1 :=
  ⟨hd 24, { base with fil := { base.fil with engines := [(31, { cfg := { de := 31, enable := 1, chA := 63, chB := 62 }, as := [{}] })], rings := [(63, { readers := [{ user := .engine 31, pos := 0 }] })] } }, { de := 31 }, by decide⟩

theorem wit_FiligreeCommands_13 : ∃ (h : CmdHdr) (s : State) (a : FilStreamArgs), ready { op := 0x1506, plen := 24, who := .granted } h s ∧ a.ch < 64 ∧ a.n = 0 ∧ s.filReach h.fn a.ch = true :=
  ⟨hd 24, { base with fil := { base.fil with streams := [{ bezel := 0, cfg := { ch := 63, n := 8 } }] } }, { ch := 63, vector := 99 }, by decide⟩

theorem wit_FiligreeEvents_1 : ∃ (s : State) (c cyc code : Nat) (f : Bool) (b : BinTable), s.alive = true ∧ c < 24 ∧ (s.chan c).interp.table = some b ∧ (s.chan c).interp.st ≠ .out ∧ (s.chan c).interp.surv = false ∧ (s.chan c).en = true ∧ (s.chan c).edge = 2 ∧ (s.chan c).n = 1 ∧ (s.chan c).last = none ∧ (s.chan c).queue = [] ∧ s.armNamed c = false :=
  ⟨{ base with fil := { base.fil with chans := [(23, { en := true, edge := 2, n := 1, interp := { tabX := some { first := 0, hits := [3, 5] }, tabY := some {} } })] } }, 23, 16777217, 1, true, { first := 0, hits := [3, 5] }, by decide⟩

theorem wit_FiligreeEvents_2 : ∃ (s : State) (c : Nat) (ts : Bool) (r : RawStamp) (q : List RawStamp), s.alive = true ∧ c < 24 ∧ (s.chan c).queue = r :: q ∧ s.drainNext = some c ∧ (s.resolve r.coarse).2 = false ∧ ((∀ d, d < 32 → (s.eng d).cfg.enable = 1 → (s.eng d).cfg.chA ≠ c ∧ (s.eng d).cfg.chB ≠ c)) :=
  ⟨{ base with tc := { base.tc with mtc := { base.tc.mtc with cyc := 10 } }, fil := { base.fil with chans := [(23, { queue := [{ coarse := 5, i := 3/2 }, { coarse := 7 }] })] } }, 23, true, { coarse := 5, i := 3/2 }, [{ coarse := 7 }], by decide +kernel⟩

theorem wit_FiligreeEvents_3 : ∃ (s : State) (r : Nat) (m : Bool) (a : Nat), s.alive = true ∧ (s.ring r).next = some (m, a) :=
  ⟨{ base with fil := { base.fil with rings := [(3, { next := some (true, 64), recs := [{}, {}], put := 2 })] } }, 3, true, 64, by decide⟩

theorem wit_FiligreeEvents_4 : ∃ (s : State) (d : Nat) (a b : StampRec), s.alive = true ∧ d < 32 ∧ (s.eng d).cfg.enable = 1 ∧ (s.ring (64 + d)).takes = true ∧ (s.eng d).as = [a] ∧ (s.eng d).bs = [(b, false)] ∧ (a.time : Int) + (s.eng d).cfg.o + ((s.eng d).cfg.w : Int) * 1048576 < (b.time : Int) :=
  ⟨{ base with fil := { base.fil with engines := [(31, { cfg := { de := 31, enable := 1, w := 1 }, as := [{ time := 5 }], bs := [({ time := 1048582 }, false)] })] } }, 31, { time := 5 }, { time := 1048582 }, by decide +kernel⟩

theorem wit_FiligreeEvents_5 : ∃ (s : State) (d : Nat) (a b c : StampRec), s.alive = true ∧ d < 32 ∧ (s.eng d).cfg.enable = 1 ∧ (s.ring (64 + d)).takes = true ∧ (s.eng d).as = [a] ∧ (s.eng d).bs = [(b, false), (c, false)] ∧ (s.eng d).cfg.o = 0 ∧ b.time = a.time + 1 ∧ 1 ≤ (s.eng d).cfg.w ∧ (a.time : Int) + ((s.eng d).cfg.w : Int) * 1048576 < (c.time : Int) ∧ a.ovf = false ∧ b.ovf = false ∧ a.raw.mid = false ∧ b.raw.mid = false :=
  ⟨{ base with fil := { base.fil with engines := [(31, { cfg := { de := 31, enable := 1, w := 1 }, as := [{ time := 5 }], bs := [({ time := 6 }, false), ({ time := 1048582 }, false)] })] } }, 31, { time := 5 }, { time := 6 }, { time := 1048582 }, by decide +kernel⟩

theorem wit_FiligreeEvents_6 : ∃ (s : State) (d : Nat) (a : StampRec), s.alive = true ∧ d < 32 ∧ (s.eng d).cfg.enable = 1 ∧ (s.eng d).as = [a] ∧ (s.eng d).bs = [] ∧ (a.time : Int) + (s.eng d).cfg.o + 2 * (((s.eng d).cfg.w : Int) * 1048576) ≤ (s.tc.mtc.units : Int) :=
  ⟨{ base with fil := { base.fil with engines := [(31, { cfg := { de := 31, enable := 1, w := 1 }, as := [{ time := 5 }] })] } }, 31, { time := 5 }, by decide +kernel⟩

theorem wit_FiligreeEvents_7 : ∃ (s : State) (d : Nat), s.alive = true ∧ d < 32 ∧ (s.eng d).cfg.enable = 1 ∧ (s.eng d).gateEndMs * 1000000 ≤ s.nowNs :=
  ⟨{ base with fil := { base.fil with engines := [(31, { cfg := { de := 31, enable := 1, w := 1, gate := 7 }, gateEndMs := 1000000, run := { count := 3 } })] } }, 31, by decide⟩

theorem wit_FiligreeEvents_8 : ∃ (s : State) (b c : Nat) (x : FilStream) (r : StampRec), s.alive = true ∧ s.filStream b c = some x ∧ x.next = 0 ∧ (s.ring c).put = 1 ∧ (s.ring c).recs = [r] ∧ (s.ring c).readers = [{ user := .bezel b, pos := 0 }] ∧ x.out.length < 2 ^ x.cfg.n ∧ s.masterFrozen b 2 c = false ∧ s.masterFrozen b 3 c = false ∧ s.filReach b c = true ∧ s.dmaOk b x.cfg.base (32 * 2 ^ x.cfg.n) = true ∧ s.dmaOk b x.cfg.writeback 4 = true :=
  ⟨{ base with fil := { base.fil with streams := [{ bezel := 0, cfg := { ch := 5, n := 8 } }], rings := [(5, { put := 1, recs := [{ time := 9 }], readers := [{ user := .bezel 0, pos := 0 }] })] } }, 0, 5, { bezel := 0, cfg := { ch := 5, n := 8 } }, { time := 9 }, by decide +kernel⟩

theorem wit_FiligreeEvents_9 : ∃ (s : State) (c d : Nat) (ts : Bool) (r : RawStamp) (q : List RawStamp), s.alive = true ∧ c < 24 ∧ d < 32 ∧ (s.chan c).queue = r :: q ∧ s.drainNext = some c ∧ (s.resolve r.coarse).2 = false ∧ (s.eng d).cfg.enable = 1 ∧ (s.eng d).cfg.chA = c ∧ (s.eng d).cfg.edgeA = 2 ∧ (s.eng d).cfg.chB ≠ c ∧ r.gap = true :=
  ⟨{ base with tc := { base.tc with mtc := { base.tc.mtc with cyc := 10 } }, fil := { base.fil with chans := [(23, { queue := [{ coarse := 5, i := 3/2, gap := true }] })], engines := [(31, { cfg := { de := 31, enable := 1, chA := 23, chB := 5, edgeA := 2 } })] } }, 23, 31, true, { coarse := 5, i := 3/2, gap := true }, [], by decide +kernel⟩

theorem wit_OutputCommands_1 : ∃ (h : CmdHdr) (s : State) (l e fl bw : Nat), ready { op := 0x1401, plen := 16, mirrored := true } h s ∧ l < 8 ∧ e ≤ 1 ∧ fl = (s.loop l).fl ∧ 9600000000 * 65536 ≤ fl ∧ fl ≤ 11200000000 * 65536 ∧ 10 ≤ bw ∧ bw ≤ 2000 :=
  ⟨hd 16, base, 7, 1, 655360000000000, 2000, by decide⟩

theorem wit_OutputCommands_2 : ∃ (h : CmdHdr) (s : State) (l : Nat), ready { op := 0x1402, plen := 1, mirrored := true, action := true } h s ∧ l < 8 ∧ (s.loop l).st = .lost :=
  ⟨hd 1, { base with out := { base.out with loops := [(7, { st := .lost })] } }, 7, by decide⟩

theorem wit_OutputCommands_3 : ∃ (h : CmdHdr) (s : State) (l : Nat) (yo : Int) (slope : Nat), ready { op := 0x1404, plen := 12, mirrored := true } h s ∧ l < 8 ∧ yo.natAbs ≤ 1000000000 ∧ 1 ≤ slope ∧ slope ≤ 1000000 ∧ rabs ((yo : Rat) - s.loopOffset l) ≤ 200000000 ∧ dcoOk (s.loop l).fl (yo : Rat) (s.loop l).ssc (s.loop l).depth = true ∧ ((yo = 0 ∨ s.loopCarries l = false)) :=
  ⟨hd 12, base, 7, 200000000, 1000000, by decide +kernel⟩

theorem wit_OutputCommands_4 : ∃ (h : CmdHdr) (s : State) (l m d r : Nat), ready { op := 0x1405, plen := 8, mirrored := true } h s ∧ l < 8 ∧ 1 ≤ m ∧ m ≤ 2 ∧ d ≤ (if m = 1 then 50 else 25) ∧ 30000 ≤ r ∧ r ≤ 33000 ∧ dcoOk (s.loop l).fl (s.loopOffset l) m d = true ∧ dcoOk (s.loop l).fl ((s.loop l).y1 : Rat) m d = true ∧ s.loopCarries l = false :=
  ⟨hd 8, base, 7, 2, 25, 33000, by decide +kernel⟩

theorem wit_OutputCommands_5 : ∃ (h : CmdHdr) (s : State) (l d r : Nat), ready { op := 0x1405, plen := 8, mirrored := true } h s ∧ l < 8 :=
  ⟨hd 8, base, 0, 900, 0, by decide⟩

theorem wit_OutputCommands_6 : ∃ (h : CmdHdr) (s : State) (a : OutputArgs), ready { op := 0x1403, plen := 30, mirrored := true } h s ∧ s.outputArgsOk a = true ∧ (s.pin (outKey a.kind a.index)).on = false ∧ (s.pin (outKey a.kind a.index)).gen = false ∧ (s.pin (outKey a.kind a.index)).next = none ∧ ((timeBearing a = false ∨ ((s.loop a.loop).ssc = 0 ∧ (s.loop a.loop).y1 = 0 ∧ s.loopOffset a.loop = 0))) ∧ s.gbbCko (outKey a.kind a.index) = false ∧ s.laePin (outKey a.kind a.index) = false :=
  ⟨hd 30, base, { kind := 0, index := 7, enable := 1, loop := 7, d := 4, offset := -500000000000 }, by decide⟩

theorem wit_OutputCommands_7 : ∃ (h : CmdHdr) (s : State) (a : OutputArgs) (f : Int), ready { op := 0x1403, plen := 30, mirrored := true } h s ∧ s.outputArgsOk a = true ∧ (s.pin (outKey a.kind a.index)).cfg = { a with offset := f } ∧ f ≠ a.offset ∧ a.enable = 1 ∧ timeBearing a = true ∧ (s.pin (outKey a.kind a.index)).gen = true ∧ s.pinHeld (s.pin (outKey a.kind a.index)) = false ∧ (s.loop a.loop).ssc = 0 ∧ (s.loop a.loop).y1 = 0 ∧ s.loopOffset a.loop = 0 ∧ s.gbbCko (outKey a.kind a.index) = false ∧ s.laePin (outKey a.kind a.index) = false :=
  ⟨hd 30, { base with tc := { base.tc with ts := .locked }, out := { base.out with loops := [(0, { st := .locked })], pins := [(39, { cfg := { kind := 1, index := 7, enable := 1, rate := 1, width := 100000 }, gen := true, st := .aligned })] } }, { kind := 1, index := 7, enable := 1, rate := 1, width := 100000, offset := 500000000000 }, 0, by decide⟩

theorem wit_OutputCommands_8 : ∃ (h : CmdHdr) (s : State) (k i r : Nat), ready { op := 0x1406, plen := 8, mirrored := true } h s ∧ outputOk k i = true ∧ 1 ≤ r ∧ r ≤ 10000 :=
  ⟨hd 8, base, 2, 3, 10000, by decide⟩

theorem wit_OutputCommands_9 : ∃ (h : CmdHdr) (s : State), ready { op := 0x1441, xbOut := true } h s ∧ 544 ≤ h.xlen :=
  ⟨{ hx 0 with xlen := 544 }, base, by decide⟩

theorem wit_OutputEvents_1 : ∃ (s : State) (l : Nat), s.alive = true ∧ (s.loop l).st = .acquiring :=
  ⟨{ base with out := { base.out with loops := [(7, { st := .acquiring })] } }, 7, by decide⟩

theorem wit_OutputEvents_2 : ∃ (s : State) (l : Nat), s.alive = true ∧ (s.loop l).st ≠ .acquiring :=
  ⟨{ base with out := { base.out with loops := [(7, { st := .lost })] } }, 7, by decide⟩

theorem wit_OutputEvents_3 : ∃ (s : State) (l : Nat), s.alive = true ∧ (s.loop l).st = .locked :=
  ⟨{ base with out := { base.out with loops := [(7, { st := .locked })] } }, 7, by decide⟩

theorem wit_OutputEvents_4 : ∃ (s : State) (l : Nat), s.alive = true ∧ (s.loop l).st = .acquiring :=
  ⟨{ base with out := { base.out with loops := [(7, { st := .acquiring })] } }, 7, by decide⟩

theorem wit_OutputEvents_5 : ∃ (s : State) (l : Nat), s.alive = true ∧ (((s.loop l).st = .acquiring ∨ (s.loop l).st = .locked)) :=
  ⟨{ base with out := { base.out with loops := [(7, { st := .locked })] } }, 7, by decide⟩

theorem wit_OutputEvents_6 : ∃ (s : State) (l : Nat), s.alive = true ∧ (s.loop l).st = .holdover ∧ s.timeClockGood = true ∧ (s.loop l).tdc = false :=
  ⟨{ base with pwr := { base.pwr with moscGood := true }, out := { base.out with loops := [(7, { st := .holdover })] } }, 7, by decide⟩

theorem wit_OutputEvents_7 : ∃ (s : State) (l : Nat), s.alive = true ∧ (s.loop l).st ≠ .freeRun ∧ (s.loop l).st ≠ .lost :=
  ⟨{ base with out := { base.out with loops := [(7, { st := .holdover })] } }, 7, by decide⟩

theorem wit_OutputEvents_8 : ∃ (s : State) (l : Nat), s.alive = true :=
  ⟨{ base with out := { base.out with loops := [(7, { ramping := true })] } }, 7, by decide⟩

theorem wit_OutputEvents_9 : ∃ (s : State) (k i : Nat), s.alive = true ∧ outputOk k i = true ∧ timeBearing (s.pin (outKey k i)).cfg = true ∧ (s.pin (outKey k i)).gen = false ∧ s.pinHeld (s.pin (outKey k i)) = false :=
  ⟨{ base with tc := { base.tc with ts := .locked }, out := { base.out with loops := [(0, { st := .locked })], pins := [(39, { cfg := { kind := 1, index := 7, enable := 1 }, moves := 5 })] } }, 1, 7, by decide⟩

theorem wit_OutputEvents_10 : ∃ (s : State) (k i : Nat) (f : Int) (due : Nat), s.alive = true ∧ (s.pin (outKey k i)).next = some (f, due) ∧ s.sec < due :=
  ⟨{ base with out := { base.out with pins := [(39, { next := some (5, 1001) })] } }, 1, 7, 5, 1001, by decide⟩

theorem wit_OutputEvents_11 : ∃ (s : State) (k i : Nat) (f : Int) (due : Nat), s.alive = true ∧ outputOk k i = true ∧ (s.pin (outKey k i)).next = some (f, due) ∧ (s.pin (outKey k i)).cover = some due ∧ due ≤ s.sec ∧ (s.pin (outKey k i)).gen = true ∧ timeBearing (s.pin (outKey k i)).cfg = true ∧ s.pinHeld (s.pin (outKey k i)) = false ∧ s.claimHolds = true ∧ s.offsetMove (s.pin (outKey k i)) f ≠ 0 :=
  ⟨{ base with tc := { base.tc with ts := .locked }, out := { base.out with loops := [(0, { st := .locked })], pins := [(39, { cfg := { kind := 1, index := 7, enable := 1 }, gen := true, next := some (5, 1000), cover := some 1000 })] } }, 1, 7, 5, 1000, by decide⟩

theorem wit_OutputEvents_12 : ∃ (s : State) (k i : Nat), s.alive = true ∧ outputOk k i = true ∧ (s.pin (outKey k i)).gen = true ∧ (s.pin (outKey k i)).rem ≠ 0 ∧ timeBearing (s.pin (outKey k i)).cfg = true ∧ s.pinHeld (s.pin (outKey k i)) = false ∧ s.claimHolds = true :=
  ⟨{ base with tc := { base.tc with ts := .locked }, out := { base.out with loops := [(0, { st := .locked })], pins := [(39, { cfg := { kind := 1, index := 7, enable := 1, align := 1 }, gen := true, rem := 9 })] } }, 1, 7, by decide⟩

theorem wit_OutputEvents_13 : ∃ (s : State) (c : Nat), s.alive = true ∧ c < 4 ∧ (s.pin (40 + c)).cfg.mode = 3 ∧ (s.pin (40 + c)).cfg.scale = 0 ∧ (s.pin (40 + c)).gen = true :=
  ⟨{ base with out := { base.out with pins := [(43, { cfg := { kind := 2, index := 3, mode := 3, enable := 1 }, gen := true })] } }, 3, by decide⟩

theorem wit_OutputEvents_14 : ∃ (s : State) (c : Nat), s.alive = true ∧ c < 4 ∧ (s.pin (40 + c)).cfg.mode = 4 ∧ (s.pin (40 + c)).cfg.scale = 0 ∧ (s.pin (40 + c)).gen = true :=
  ⟨{ base with out := { base.out with pins := [(43, { cfg := { kind := 2, index := 3, mode := 4, enable := 1, irig := 7 }, gen := true })] } }, 3, by decide⟩

theorem wit_OutputEvents_15 : ∃ (s : State), s.alive = true :=
  ⟨base, by decide⟩

theorem wit_LineAngleCommands_1 : ∃ (h : CmdHdr) (s : State) (n : Nat) (a : TapArgs) (d : Nat), ready { op := 0x1601, plen := 25, mirrored := true } h s ∧ n < 8 ∧ a.enable = 1 ∧ tapArgsOk a = true ∧ d ≤ 1000000 :=
  ⟨hd 25, base, 7, { enable := 1, nominal := 1, reportRate := 60, cls := 1, rTh := 5, aMin := 10, hold := 1000, rLim := 1000 }, 1000000, by decide⟩

theorem wit_LineAngleCommands_2 : ∃ (h : CmdHdr) (s : State) (n : Nat) (a : TapArgs) (d : Nat), ready { op := 0x1601, plen := 25, mirrored := true } h s ∧ n < 8 ∧ a.enable = 0 :=
  ⟨hd 25, { base with la := { base.la with taps := [(7, { st := .track, grants := [3], cnt := [(1, 4)] })], tapck := [(1, 5)] } }, 7, {}, 5, by decide⟩

theorem wit_LineAngleCommands_3 : ∃ (h : CmdHdr) (s : State) (a : VtapArgs), ready { op := 0x1602, mirrored := true, xbIn := true } h s ∧ a.vtap < 8 ∧ a.tap.enable = 1 ∧ tapArgsOk a.tap = true ∧ a.port < 256 ∧ 1 ≤ a.noAsdu ∧ a.noAsdu ≤ 8 ∧ a.smpSynch < 4 ∧ 960 ≤ a.sps ∧ a.sps ≤ 15360 ∧ a.valueOff + 4 ≤ a.dataLen ∧ a.qualityOff + 4 ≤ a.dataLen ∧ a.lPub ≤ 10000 ∧ 1 ≤ a.svid.length ∧ a.svid.length ≤ 129 ∧ s.portOwner a.port = 0 ∧ s.portUsed .vtap a.port = false :=
  ⟨hd 0 |> fun h => { h with xaddr := 65536, xlen := 65536 }, base, { vtap := 7, port := 255, noAsdu := 8, smpSynch := 3, sps := 15360, dataLen := 8, valueOff := 4, lPub := 10000, svid := [1], tap := { enable := 1, reportRate := 100, rTh := 5, aMin := 10, hold := 1000, rLim := 1000 } }, by decide⟩

theorem wit_LineAngleCommands_4 : ∃ (h : CmdHdr) (s : State) (n b : Nat), ready { op := 0x1603, plen := 3, mirrored := true } h s ∧ n < 16 ∧ b < 64 ∧ (s.bezel b).present = true :=
  ⟨hd 3, base, 15, 0, by decide⟩

theorem wit_LineAngleCommands_5 : ∃ (h : CmdHdr) (s : State) (n b : Nat), ready { op := 0x1603, plen := 3, mirrored := true } h s ∧ n < 16 ∧ b < 64 ∧ (s.bezel b).present = true :=
  ⟨hd 3, { base with la := { base.la with taps := [(15, { grants := [0, 3] })], streams := [{ bezel := 0, tap := 15 }] } }, 15, 0, by decide⟩

theorem wit_LineAngleCommands_6 : ∃ (h : CmdHdr) (s : State) (a : EventArgs), ready { op := 0x1604, plen := 32, mirrored := true } h s ∧ a.slot < 32 ∧ a.tap < 16 ∧ a.action ≤ 2 ∧ a.policy ≤ 1 ∧ targetOk a = true ∧ ((a.action = 2 → 100 ≤ a.window ∧ a.window ≤ 1000000000)) ∧ (s.slot a.slot).st ≠ .committed ∧ s.targetTaken a = false :=
  ⟨hd 32, base, { slot := 31, tap := 15, action := 2, policy := 1, target := 23, window := 1000000000, start := 5000 }, by decide⟩

theorem wit_LineAngleCommands_7 : ∃ (h : CmdHdr) (s : State) (n : Nat), ready { op := 0x1605, plen := 1, mirrored := true, action := true } h s ∧ n < 32 :=
  ⟨hd 1, { base with la := { base.la with slots := [(31, { st := .committed })] } }, 31, by decide⟩

theorem wit_LineAngleCommands_8 : ∃ (h : CmdHdr) (s : State) (n e v b : Nat), ready { op := 0x1606, plen := 16, who := .granted } h s ∧ n < 16 ∧ 4 ≤ e ∧ e ≤ 16 ∧ v < 64 ∧ s.dmaOk h.fn b (256 * 2 ^ e) = true ∧ s.laReach h.fn n = true :=
  ⟨hd 16, base, 15, 16, 63, 64, by decide⟩

theorem wit_LineAngleCommands_9 : ∃ (h : CmdHdr) (s : State) (n q : Nat) (x : LaStream), ready { op := 0x1607, plen := 8, who := .granted, action := true } h s ∧ n < 16 ∧ s.laReach h.fn n = true ∧ s.laStream h.fn n = some x ∧ x.returned q ≤ x.out.length :=
  ⟨hd 8, { base with la := { base.la with streams := [{ bezel := 0, tap := 15, out := [{ bseq := 4294967295 }, { bseq := 0 }] }] } }, 15, 4294967295, { bezel := 0, tap := 15, out := [{ bseq := 4294967295 }, { bseq := 0 }] }, by decide⟩

theorem wit_LineAngleCommands_10 : ∃ (h : CmdHdr) (s : State) (n k m : Nat), ready { op := 0x1641, plen := 4, who := .granted, xbOut := true } h s ∧ n < 16 ∧ k ≤ 1 ∧ s.laReach h.fn n = true ∧ Rec.bytes ((((s.tap n).recs.filter fun x => x.phasor = decide (k = 1)).drop (((s.tap n).recs.filter fun x => x.phasor = decide (k = 1)).length - m)).flatMap (laRecordLayout n)) ≤ h.xlen :=
  ⟨hx 4, { base with la := { base.la with taps := [(15, { recs := [{ phasor := true }, {}, { eseq := 2 }] })] } }, 15, 0, 1, by decide⟩

theorem wit_LineAngleCommands_11 : ∃ (h : CmdHdr) (s : State) (n : Nat), ready { op := 0x1642, plen := 1, who := .granted, xbOut := true } h s ∧ n < 16 ∧ s.laReach h.fn n = true ∧ 4096 ≤ h.xlen :=
  ⟨hx 1, base, 15, by decide⟩

theorem wit_LineAngleCommands_12 : ∃ (h : CmdHdr) (s : State) (n e v b : Nat), ready { op := 0x1606, plen := 16, who := .granted } h s ∧ n < 16 ∧ e = 0 ∧ s.laReach h.fn n = true :=
  ⟨hd 16, { base with la := { base.la with streams := [{ bezel := 0, tap := 15 }] } }, 15, 0, 99, 7, by decide⟩

theorem wit_LineAngleCommands_13 : ∃ (h : CmdHdr) (s : State) (a : VtapArgs), ready { op := 0x1602, mirrored := true, xbIn := true } h s ∧ a.vtap < 8 ∧ a.tap.enable = 0 :=
  ⟨hd 0 |> fun h => { h with xaddr := 65536, xlen := 65536 }, { base with la := { base.la with taps := [(15, { st := .track, grants := [3], cnt := [(1, 4)] })] } }, { vtap := 7, port := 999, noAsdu := 0, smpSynch := 3, sps := 0, dataLen := 0 }, by decide⟩

theorem wit_LineAngleEvents_1 : ∃ (s : State) (n c : Nat), s.alive = true ∧ n < 8 ∧ (s.tap n).st = .warmup ∧ (s.la.tapck.find? fun p => p.1 = n / 4) = some (n / 4, c) ∧ 13894 * 125 ≤ (s.tc.mtc.cyc - c) * 4 :=
  ⟨{ base with tc := { base.tc with mtc := { base.tc.mtc with cyc := 434190 } }, la := { base.la with taps := [(7, { st := .warmup })], tapck := [(1, 2)] } }, 7, 2, by decide⟩

theorem wit_LineAngleEvents_2 : ∃ (s : State) (n : Nat) (d : Rat) (x : LaStream), s.alive = true ∧ n < 8 ∧ (s.tap n).st ≠ .off ∧ (s.tap n).st ≠ .warmup ∧ 0 ≤ d ∧ d ≤ 99999 / 100000 ∧ s.la.streams = [x] ∧ x.tap = n ∧ x.cur.words ≠ [] ∧ x.cur.words.length < 55 :=
  ⟨{ base with la := { base.la with taps := [(7, { st := .seek })], streams := [{ tap := 7, cur := { words := [1] } }] } }, 7, 99999/100000, { tap := 7, cur := { words := [1] } }, by decide +kernel⟩

theorem wit_LineAngleEvents_3 : ∃ (s : State) (n : Nat) (d : Rat), s.alive = true ∧ n < 8 ∧ (s.tap n).st ≠ .off ∧ (s.tap n).st ≠ .warmup :=
  ⟨{ base with la := { base.la with taps := [(7, { st := .seek, cnt := [(0, 4)] })], streams := [{ tap := 7, cur := { words := [1] } }] } }, 7, 0, by decide⟩

theorem wit_LineAngleEvents_4 : ∃ (s : State) (v : Nat) (f : SvFrame) (a : VtapArgs) (x : SvAsdu), s.alive = true ∧ v < 8 ∧ (s.tap (8 + v)).vcfg = some a ∧ (s.tap (8 + v)).st ≠ .off ∧ f.dest = a.dest ∧ f.appid = a.appid ∧ f.svid = a.svid ∧ f.asdus = [x] ∧ a.noAsdu = 1 ∧ x.len = a.dataLen ∧ svLate a f = false ∧ svInstant a f.rx x.cnt ∉ (s.tap (8 + v)).accepted ∧ svContinues a.sps (s.tap (8 + v)).lastCnt [x.cnt] = true ∧ f.synch = 2 ∧ nbit a.smpSynch 1 = true ∧ x.good = true :=
  ⟨{ base with la := { base.la with taps := [(15, { st := .seek, lastCnt := some 3999, vcfg := some { vtap := 7, noAsdu := 1, smpSynch := 3, sps := 4000, dataLen := 8 } })] } }, 7, { dest := 0, appid := 0, svid := [], asdus := [{ cnt := 0, len := 8, value := 5 }], rx := 1048576000000000000 }, { vtap := 7, noAsdu := 1, smpSynch := 3, sps := 4000, dataLen := 8 }, { cnt := 0, len := 8, value := 5 }, by decide +kernel⟩

theorem wit_LineAngleEvents_5 : ∃ (s : State) (v : Nat) (f : SvFrame) (a : VtapArgs) (x : SvAsdu), s.alive = true ∧ v < 8 ∧ (s.tap (8 + v)).vcfg = some a ∧ (s.tap (8 + v)).st ≠ .off ∧ f.dest = a.dest ∧ f.appid = a.appid ∧ f.svid = a.svid ∧ f.asdus = [x] ∧ a.noAsdu = 1 ∧ x.len = a.dataLen ∧ svLate a f = true :=
  ⟨{ base with la := { base.la with taps := [(15, { st := .seek, vcfg := some { vtap := 7, noAsdu := 1, smpSynch := 3, sps := 4000, dataLen := 8 } })] } }, 7, { dest := 0, appid := 0, svid := [], asdus := [{ cnt := 0, len := 8, value := 5 }], rx := 1048586485760000001 }, { vtap := 7, noAsdu := 1, smpSynch := 3, sps := 4000, dataLen := 8 }, { cnt := 0, len := 8, value := 5 }, by decide +kernel⟩

theorem wit_LineAngleEvents_6 : ∃ (s : State) (n : Nat) (x : LaStream) (b : LaBlock) (r : List LaBlock), s.alive = true ∧ s.la.streams = [x] ∧ x.tap = n ∧ x.wait = b :: r ∧ x.recs = [] ∧ x.out.length < 2 ^ x.n ∧ s.masterFrozen x.bezel 2 (256 + n) = false ∧ s.masterFrozen x.bezel 3 (256 + n) = false ∧ s.laReach x.bezel n = true ∧ s.dmaOk x.bezel x.base (256 * 2 ^ x.n) = true :=
  ⟨{ base with la := { base.la with streams := [{ tap := 15, base := 64, wait := [{ bseq := 4 }, { bseq := 5 }] }] } }, 15, { tap := 15, base := 64, wait := [{ bseq := 4 }, { bseq := 5 }] }, { bseq := 4 }, [{ bseq := 5 }], by decide⟩

theorem wit_LineAngleEvents_7 : ∃ (s : State) (n : Nat) (x : LaFit), s.alive = true ∧ n < 16 ∧ (s.tap n).st = .seek ∧ (s.tap n).lastBad = none ∧ (s.tap n).model = none ∧ x.two = true ∧ ((s.tap n).cfg.aMin : Rat) ≤ x.level * 1000 ∧ rabs (x.f - ((s.tap n).nominal : Rat)) ≤ 5 ∧ x.residual * 1000 ≤ ((s.tap n).cfg.rTh : Rat) ∧ ((∀ k, k < 32 → (s.slot k).fired = [])) :=
  ⟨{ base with la := { base.la with taps := [(15, { st := .seek })] } }, 15, { instant := 5, f := 55, level := 1/20, residual := 3/100 }, by decide +kernel⟩

theorem wit_LineAngleEvents_8 : ∃ (s : State) (n : Nat) (x : LaFit) (m : LaModel), s.alive = true ∧ n < 16 ∧ (s.tap n).st = .track ∧ (s.tap n).model = some m ∧ x.full = false :=
  ⟨{ base with la := { base.la with taps := [(15, { st := .track, model := some { f := 49 } })] } }, 15, { instant := 5, f := 55, full := false }, { f := 49 }, by decide⟩

theorem wit_LineAngleEvents_9 : ∃ (s : State) (n : Nat) (x : LaFit), s.alive = true ∧ n < 16 ∧ (s.tap n).st = .track ∧ (s.tap n).await = false ∧ reportingAt (s.tap n).cfg.reportRate x.instant = true ∧ (s.tap n).recs.length < 256 :=
  ⟨{ base with la := { base.la with taps := [(15, { st := .track })] } }, 15, { instant := 20971520000000, f := 50 }, by decide +kernel⟩

theorem wit_LineAngleEvents_10 : ∃ (s : State) (n : Nat), s.alive = true ∧ (s.tap n).st = .transient ∧ (s.tap n).transientAt + unitsPerSec ≤ s.tc.mtc.units :=
  ⟨{ base with la := { base.la with taps := [(15, { st := .transient, transientAt := 1047527424000000000, model := some {} })] } }, 15, by decide⟩

theorem wit_LineAngleEvents_11 : ∃ (s : State) (n : Nat), s.alive = true ∧ s.tc.mtc.units < (s.tap n).transientAt + unitsPerSec :=
  ⟨{ base with la := { base.la with taps := [(15, { st := .transient, transientAt := 1047527424000000001, model := some {} })] } }, 15, by decide⟩

theorem wit_LineAngleEvents_12 : ∃ (s : State) (n : Nat), s.alive = true ∧ (s.tap n).st = .predict ∧ (s.tap n).lastValid + (s.tap n).cfg.hold * unitsPerMs ≤ s.tc.mtc.units :=
  ⟨{ base with la := { base.la with taps := [(15, { st := .predict, lastValid := 1048471142400000000, model := some {} })] } }, 15, by decide⟩

theorem wit_LineAngleEvents_13 : ∃ (s : State) (n e c : Nat), s.alive = true ∧ (s.slot n).window = some (e, c) ∧ e ≤ s.tc.mtc.units :=
  ⟨{ base with la := { base.la with slots := [(31, { window := some (1048576000000000000, 23) })] } }, 31, 1048576000000000000, 23, by decide⟩

theorem wit_LineAngleEvents_14 : ∃ (s : State) (n : Nat), s.alive = true ∧ n < 32 ∧ (s.slot n).st = .committed ∧ (s.slot n).cfg.action = 0 ∧ (s.slot n).cfg.rept = 0 ∧ (s.slot n).cancel = false ∧ (s.pin (pulseKey (s.slot n).cfg.target)).pulse = none :=
  ⟨{ base with la := { base.la with slots := [(31, { st := .committed, te := 77, bound := some 4, cfg := { slot := 31, target := 263 } })] } }, 31, by decide⟩

theorem wit_LineAngleEvents_15 : ∃ (s : State) (n : Nat), s.alive = true ∧ n < 32 ∧ (s.slot n).st = .committed ∧ (s.slot n).cfg.action = 2 ∧ (s.slot n).cancel = true :=
  ⟨{ base with la := { base.la with slots := [(31, { st := .committed, te := 77, cancel := true, cfg := { slot := 31, action := 2, window := 1000000000 } })] } }, 31, by decide⟩

theorem wit_LineAngleEvents_16 : ∃ (s : State) (n : Nat) (x : LaStream), s.alive = true ∧ s.la.streams = [x] ∧ x.tap = n ∧ x.wait = [] ∧ x.recs ≠ [] ∧ s.masterFrozen x.bezel 2 (256 + n) = false ∧ s.masterFrozen x.bezel 3 (256 + n) = false ∧ s.laReach x.bezel n = true ∧ s.dmaOk x.bezel x.base (256 * 2 ^ x.n) = true :=
  ⟨{ base with la := { base.la with streams := [{ tap := 15, base := 64, recs := [{ eseq := 7 }] }] } }, 15, { tap := 15, base := 64, recs := [{ eseq := 7 }] }, by decide⟩

theorem wit_LineAngleEvents_17 : ∃ (s : State) (n t0 : Nat), s.alive = true ∧ n < 32 ∧ (s.slot n).st = .committed ∧ (s.slot n).cfg.action = 0 ∧ (s.pin (pulseKey (s.slot n).cfg.target)).pulse = some t0 :=
  ⟨{ base with out := { base.out with pins := [(39, { pulse := some 5 })] }, la := { base.la with slots := [(31, { st := .committed, te := 838865, bound := some 4, cfg := { slot := 31, target := 263 } })] } }, 31, 5, by decide⟩

theorem wit_PortCommands_1 : ∃ (h : CmdHdr) (s : State) (p m f a : Nat), ready { op := 0x2001, plen := 5, mirrored := true } h s ∧ p < 256 ∧ 1 ≤ m ∧ m ≤ 6 ∧ f ≤ 1 ∧ a ≤ 1 ∧ ((f = 0 ∨ m = 5 ∨ m = 6)) ∧ ((a = 0 ∨ m = 3)) ∧ (s.quadRates p (PortMode.of m)).length ≤ 2 ∧ (s.port p).mode = .off ∧ (s.port p).st = .disabled ∧ (s.port p).held = false ∧ (s.port p).rxPair.st ≠ .out ∧ (s.port p).txPair.st ≠ .out ∧ (s.port p).cal.out = false ∧ s.laneBad p = false :=
  ⟨hd 5, base, 255, 6, 1, 0, by decide⟩

theorem wit_PortCommands_2 : ∃ (h : CmdHdr) (s : State) (p f a : Nat), ready { op := 0x2001, plen := 5, mirrored := true } h s ∧ p < 256 ∧ f = 0 ∧ a = 0 ∧ (s.quadRates p .off).length ≤ 2 ∧ (s.port p).mode ≠ .off ∧ (s.port p).st ≠ .failed ∧ (s.port p).held = false ∧ s.tm.queues = [] ∧ (s.port p).wire = none ∧ (s.port p).backoff = none ∧ (s.port p).launches = [] :=
  ⟨hd 5, { base with ports := { base.ports with ports := [(252, { mode := .g25, st := .down })] } }, 252, 0, 0, by decide⟩

theorem wit_PortCommands_3 : ∃ (h : CmdHdr) (s : State) (p r l w o : Nat), ready { op := 0x2002, plen := 16, who := .any, mirrored := true } h s ∧ p < 256 ∧ r ≤ 1 ∧ 1522 ≤ l ∧ l ≤ 16383 ∧ 1 ≤ w ∧ w ≤ 10000 ∧ 100 ≤ o ∧ o ≤ 60000 ∧ s.portOwner p = h.fn :=
  ⟨hd 16, base, 255, 1, 16383, 10000, 60000, by decide⟩

theorem wit_PortCommands_4 : ∃ (h : CmdHdr) (s : State) (p i w : Nat), ready { op := 0x2003, plen := 12, who := .any, mirrored := true } h s ∧ p < 256 ∧ eeeMode (s.port p).mode (s.port p).half = true ∧ 1 ≤ i ∧ i ≤ 10000 ∧ w ≤ 1000 ∧ s.portOwner p = h.fn ∧ (s.bezel h.fn).nonTiming = true ∧ s.nrefUses p = false ∧ s.vtapUses p = false :=
  ⟨hd 12, { base with ports := { base.ports with ports := [(252, { mode := .sgmii100, st := .down })] }, bez := { base.bez with rows := [(0, { present := true, nonTiming := true })] } }, 252, 10000, 1000, by decide⟩

theorem wit_PortCommands_5 : ∃ (h : CmdHdr) (s : State) (p : Nat), ready { op := 0x2004, plen := 2, action := true } h s ∧ p < 256 ∧ (s.port p).st ≠ .disabled ∧ (s.port p).st ≠ .failed ∧ (s.port p).cal.running = false ∧ (s.port p).cal.out = false :=
  ⟨hd 2, { base with ports := { base.ports with ports := [(252, { mode := .g25, st := .down })] } }, 252, by decide⟩

theorem wit_PortCommands_6 : ∃ (h : CmdHdr) (s : State) (p : Nat) (a : Int) (u : Nat), ready { op := 0x2005, plen := 12, who := .any } h s ∧ p < 256 ∧ -10000000 ≤ a ∧ a ≤ 10000000 ∧ u ≤ 10000000 ∧ s.portOwner p = h.fn ∧ (s.port p).asymNext = none :=
  ⟨hd 12, base, 255, -10000000, 10000000, by decide⟩

theorem wit_PortCommands_7 : ∃ (h : CmdHdr) (s : State) (p d n v b k : Nat), ready { op := 0x2006, plen := 16, who := .any } h s ∧ p < 256 ∧ d ≤ 1 ∧ 6 ≤ n ∧ n ≤ 14 ∧ v < 64 ∧ s.dmaOk h.fn b (32 * 2 ^ n) = true ∧ s.portOwner p = h.fn ∧ s.ringsOn p (decide (d = 1)) < 8 ∧ s.freeHandle = some k :=
  ⟨hd 16, base, 255, 1, 14, 63, 0, 0, by decide +kernel⟩

theorem wit_PortCommands_8 : ∃ (h : CmdHdr) (s : State) (k : Nat) (r : PortRing), ready { op := 0x2007, plen := 2, who := .any, action := true } h s ∧ k < 4096 ∧ s.pring k = some r ∧ r.owner = h.fn ∧ r.rx = true ∧ r.descs = [] :=
  ⟨hd 2, { base with ports := { base.ports with rings := [(4095, { port := 255, rx := true })] } }, 4095, { port := 255, rx := true }, by decide⟩

theorem wit_PortCommands_9 : ∃ (h : CmdHdr) (s : State) (k : Nat) (r : PortRing) (d : TxDesc), ready { op := 0x2007, plen := 2, who := .any, action := true } h s ∧ k < 4096 ∧ s.pring k = some r ∧ r.owner = h.fn ∧ r.rx = false ∧ r.descs = [d] ∧ r.late = [] ∧ r.taken = r.done ∧ s.tm.queues = [] ∧ (s.port r.port).wire = none ∧ (s.port r.port).backoff = none ∧ s.masterFrozen h.fn 1 k = false :=
  ⟨hd 2, { base with ports := { base.ports with rings := [(4095, { port := 255, descs := [{ cookie := 7 }] })] } }, 4095, { port := 255, descs := [{ cookie := 7 }] }, { cookie := 7 }, by decide⟩

theorem wit_PortCommands_10 : ∃ (h : CmdHdr) (s : State) (p i k v r : Nat) (q : PortRing), ready { op := 0x2008, plen := 8, who := .any } h s ∧ p < 256 ∧ i < 16 ∧ 1 ≤ k ∧ k ≤ 4 ∧ ((k = 4 → v < 256)) ∧ s.pring r = some q ∧ q.rx = true ∧ q.port = p ∧ q.owner = h.fn ∧ s.portOwner p = h.fn ∧ s.filterTaken p k v = false :=
  ⟨hd 8, { base with ports := { base.ports with rings := [(4095, { port := 255, rx := true })] } }, 255, 15, 4, 255, 4095, { port := 255, rx := true }, by decide⟩

theorem wit_PortCommands_11 : ∃ (h : CmdHdr) (s : State) (p : Nat), ready { op := 0x2041, plen := 2, who := .any, xbOut := true } h s ∧ p < 256 ∧ ((h.fn = 0 ∨ s.portOwner p = h.fn)) ∧ 512 ≤ h.xlen :=
  ⟨hx 2, base, 255, by decide⟩

theorem wit_PortLinkAndCalibrationEvents_1 : ∃ (s : State) (p : Nat) (m : Bool), s.alive = true ∧ (s.port p).st = .down ∧ (s.port p).toUp = false ∧ ((m = true ∨ (s.port p).mode = .g25 ∨ (s.port p).mode = .g10 ∨ (s.port p).mode = .x1000)) ∧ (s.port p).canTime = false :=
  ⟨{ base with ports := { base.ports with ports := [(255, { mode := .sgmii10, st := .down, cal := { out := true } })] } }, 255, true, by decide⟩

theorem wit_PortLinkAndCalibrationEvents_2 : ∃ (s : State) (p : Nat) (m : Bool), s.alive = true ∧ (s.port p).st = .down ∧ (s.port p).toUp = false ∧ ((m = true ∨ (s.port p).mode = .g25 ∨ (s.port p).mode = .g10 ∨ (s.port p).mode = .x1000)) ∧ (s.port p).canTime = true :=
  ⟨{ base with ports := { base.ports with ports := [(255, { mode := .g10, st := .down })] } }, 255, false, by decide⟩

theorem wit_PortLinkAndCalibrationEvents_3 : ∃ (s : State) (p : Nat), s.alive = true ∧ (s.port p).st = .down ∧ (s.port p).toUp = false ∧ (s.port p).mode = .sgmii1000 ∧ (s.loupe.banks.look {} p).mode = 0 :=
  ⟨{ base with ports := { base.ports with ports := [(255, { mode := .sgmii1000, st := .down })] } }, 255, by decide⟩

theorem wit_PortLinkAndCalibrationEvents_4 : ∃ (s : State) (p : Nat), s.alive = true ∧ (((s.port p).st = .up ∨ (s.port p).st = .upUntimed)) ∧ (s.port p).launches = [] ∧ (s.loupe.banks.look {} p).mode = 0 :=
  ⟨{ base with ports := { base.ports with ports := [(255, { mode := .sgmii1000, st := .up, pause := some 4 })] } }, 255, by decide⟩

theorem wit_PortLinkAndCalibrationEvents_5 : ∃ (s : State) (p : Nat), s.alive = true ∧ (s.port p).st = .down ∧ s.quadBad p = true :=
  ⟨{ base with ports := { base.ports with ports := [(255, { mode := .g10, st := .down })] }, fault := { base.fault with live := [(13, 2147483648)] } }, 255, by decide⟩

theorem wit_PortLinkAndCalibrationEvents_6 : ∃ (s : State) (p : Nat), s.alive = true ∧ s.quadBad p = false :=
  ⟨{ base with ports := { base.ports with ports := [(255, { mode := .g10, st := .down })] } }, 255, by decide⟩

theorem wit_PortLinkAndCalibrationEvents_7 : ∃ (s : State) (p : Nat), s.alive = true ∧ (s.port p).st ≠ .disabled ∧ (s.port p).st ≠ .failed ∧ (s.port p).cal.out = false ∧ (s.port p).cal.running = false :=
  ⟨{ base with ports := { base.ports with ports := [(255, { mode := .g10, st := .down })] } }, 255, by decide⟩

theorem wit_PortLinkAndCalibrationEvents_8 : ∃ (s : State) (p : Nat), s.alive = true ∧ (s.port p).st ≠ .disabled ∧ (s.port p).st ≠ .failed ∧ (s.port p).cal.out = false ∧ (s.port p).cal.running = false ∧ (s.port p).cal.due = true ∧ (s.port p).held = false ∧ (s.port p).wire = none :=
  ⟨{ base with ports := { base.ports with ports := [(255, { mode := .g10, st := .down, cal := { due := true } })] } }, 255, by decide⟩

theorem wit_PortLinkAndCalibrationEvents_9 : ∃ (s : State) (p : Nat), s.alive = true ∧ (s.port p).wire.isSome = true :=
  ⟨{ base with ports := { base.ports with ports := [(255, { mode := .g10, st := .up, cal := { due := true }, wire := some {} })] } }, 255, by decide⟩

theorem wit_PortLinkAndCalibrationEvents_10 : ∃ (s : State) (p : Nat) (o : LoopbackObs), s.alive = true ∧ (s.port p).cal.running = true ∧ o.rms ≤ 5 ∧ rabs (o.drt - interpT (s.port p).prod.dProd (s.port p).cal.temp) ≤ 150 ∧ (s.port p).st = .calibrating ∧ (s.port p).held = false ∧ (s.port p).cal.out = false ∧ (s.port p).rxPair.ready = true ∧ (s.port p).txPair.ready = true ∧ (s.port p).cal.tCal = none :=
  ⟨{ base with ports := { base.ports with ports := [(255, { mode := .g10, st := .calibrating, cal := { running := true, temp := 40 }, prod := { dPad := 3 }, rxPair := { tabX := some {}, tabY := some {} }, txPair := { tabX := some {}, tabY := some {} } })] } }, 255, { drt := 150, rms := 5 }, by decide +kernel⟩

theorem wit_PortLinkAndCalibrationEvents_11 : ∃ (s : State) (p : Nat) (o : LoopbackObs), s.alive = true ∧ (s.port p).cal.running = true ∧ 5 < o.rms ∧ (s.port p).cal.fails < 2 :=
  ⟨{ base with ports := { base.ports with ports := [(255, { mode := .g10, st := .up, cal := { running := true, fails := 1 } })] } }, 255, { drt := 150, rms := 6 }, by decide⟩

theorem wit_PortLinkAndCalibrationEvents_12 : ∃ (s : State) (p : Nat) (o : LoopbackObs), s.alive = true ∧ (s.port p).cal.running = true ∧ 5 < o.rms ∧ (s.port p).cal.fails = 2 :=
  ⟨{ base with ports := { base.ports with ports := [(255, { mode := .g10, st := .up, cal := { running := true, fails := 2 } })] } }, 255, { drt := 150, rms := 6 }, by decide⟩

theorem wit_PortLinkAndCalibrationEvents_13 : ∃ (s : State) (p : Nat) (x : Rat), s.alive = true :=
  ⟨{ base with ports := { base.ports with ports := [(255, { mode := .g10, st := .up, cal := { tCal := some 30 } })] } }, 255, 41, by decide⟩

theorem wit_PortLinkAndCalibrationEvents_14 : ∃ (s : State) (p : Nat) (a : Int) (u sec : Nat), s.alive = true ∧ (s.port p).asymNext = some (a, u, sec) ∧ (s.port p).asymCover = true ∧ sec ≤ s.sec :=
  ⟨{ base with ports := { base.ports with ports := [(255, { asymNext := some (-5, 3, 1000), asymCover := true })] } }, 255, -5, 3, 1000, by decide⟩

theorem wit_PortLinkAndCalibrationEvents_15 : ∃ (s : State) (p : Nat) (a : Int) (u sec : Nat), s.alive = true ∧ (s.port p).asymNext = some (a, u, sec) ∧ s.sec < sec :=
  ⟨{ base with ports := { base.ports with ports := [(255, { asymNext := some (-5, 3, 1001) })] } }, 255, -5, 3, 1001, by decide⟩

theorem wit_PortTransmissionEvents_1 : ∃ (s : State) (p q : Nat), s.alive = true ∧ (((s.port p).st = .up ∨ (s.port p).st = .upUntimed)) ∧ (s.port p).cal.running = false ∧ (s.port p).half = false ∧ (s.port p).pauseRx = true ∧ (s.port p).holding = false ∧ q % 65536 ≠ 0 :=
  ⟨{ base with ports := { base.ports with ports := [(255, { mode := .g10, st := .up, pauseRx := true })] } }, 255, 65535, by decide⟩

theorem wit_PortTransmissionEvents_2 : ∃ (s : State) (p : Nat), s.alive = true ∧ (((s.port p).st = .up ∨ (s.port p).st = .upUntimed)) ∧ (s.port p).cal.running = false ∧ (s.port p).half = false ∧ (s.port p).pauseRx = true ∧ (s.port p).holding = false :=
  ⟨{ base with ports := { base.ports with ports := [(255, { mode := .g10, st := .upUntimed, pauseRx := true, pause := some 4 })] } }, 255, by decide⟩

theorem wit_PortTransmissionEvents_3 : ∃ (s : State) (p q : Nat) (u : Bool), s.alive = true ∧ (((s.port p).st = .up ∨ (s.port p).st = .upUntimed)) ∧ (s.port p).cal.running = false :=
  ⟨{ base with ports := { base.ports with ports := [(255, { mode := .g10, st := .upUntimed, pauseRx := true, pause := some 4 })] } }, 255, 4, true, by decide⟩

theorem wit_PortTransmissionEvents_4 : ∃ (s : State) (p : Nat), s.alive = true :=
  ⟨base, 255, by decide⟩

theorem wit_PortTransmissionEvents_5 : ∃ (s : State) (p : Nat), s.alive = true ∧ (s.port p).pause.isSome = true ∧ (s.port p).holding = false ∧ (s.port p).pauseFrom + (s.port p).watchdog * (packetHz / 1000) < s.pcyc :=
  ⟨{ base with tc := { mtc := { base.tc.mtc with cyc := 81380210 } }, ports := { base.ports with ports := [(255, { mode := .g10, st := .upUntimed, pauseRx := true, pause := some 4, watchdog := 1 })] } }, 255, by decide⟩

theorem wit_PortTransmissionEvents_6 : ∃ (s : State) (p : Nat), s.alive = true :=
  ⟨base, 255, by decide⟩

theorem wit_PortTransmissionEvents_7 : ∃ (s : State) (p : Nat) (f : TxFrame), s.alive = true ∧ (s.port p).wire = some f ∧ (s.port p).half = true ∧ f.attempts < 16 :=
  ⟨{ base with ports := { base.ports with ports := [(255, { mode := .sgmii10, half := true, st := .up, wire := some { attempts := 15 } })] } }, 255, { attempts := 15 }, by decide⟩

theorem wit_PortTransmissionEvents_8 : ∃ (s : State) (p : Nat) (f : TxFrame), s.alive = true ∧ (s.port p).wire = some f ∧ (s.port p).half = true ∧ f.desc = none :=
  ⟨{ base with ports := { base.ports with ports := [(255, { mode := .sgmii10, half := true, st := .up, wire := some { attempts := 15 } })] }, tm := { base.tm with bezels := [(0, { held := 3 })] } }, 255, { attempts := 15 }, by decide⟩

theorem wit_PortTransmissionEvents_9 : ∃ (s : State) (p : Nat) (f : TxFrame) (r : Nat), s.alive = true ∧ (s.port p).backoff = some (f, r) ∧ (s.port p).wire = none ∧ (((s.port p).st = .up ∨ (s.port p).st = .upUntimed)) ∧ (s.port p).cal.running = false ∧ f.kind = .host :=
  ⟨{ base with ports := { base.ports with ports := [(255, { mode := .sgmii10, half := true, st := .up, backoff := some ({ attempts := 15 }, 7) })] } }, 255, { attempts := 15 }, 7, by decide⟩

theorem wit_PortTransmissionEvents_10 : ∃ (s : State) (p : Nat), s.alive = true ∧ (s.port p).eee = true ∧ eeeMode (s.port p).mode (s.port p).half = true ∧ (((s.port p).st = .up ∨ (s.port p).st = .upUntimed)) ∧ (s.port p).lpi = .active ∧ (s.port p).wire = none ∧ s.portWaits p = false ∧ (s.port p).launches = [] ∧ (s.port p).cal.running = false :=
  ⟨{ base with ports := { base.ports with ports := [(255, { mode := .sgmii100, eee := true, st := .up })] } }, 255, by decide⟩

theorem wit_PortTransmissionEvents_11 : ∃ (s : State) (p : Nat), s.alive = true ∧ (s.port p).lpi = .sleeping ∧ s.portWaits p = true :=
  ⟨{ base with ports := { base.ports with ports := [(255, { mode := .sgmii100, eee := true, st := .up, lpi := .sleeping })] }, tm := { base.tm with queues := [(2040, { flows := [{ frames := [{}] }] })] } }, 255, by decide⟩

theorem wit_PortTransmissionEvents_12 : ∃ (s : State) (p : Nat), s.alive = true ∧ (s.port p).lpi = .waking ∧ s.tm.queues = [] :=
  ⟨{ base with ports := { base.ports with ports := [(255, { mode := .sgmii100, eee := true, st := .up, lpi := .waking })] } }, 255, by decide⟩

theorem wit_PortTransmissionEvents_13 : ∃ (s : State) (p : Nat) (f : TxFrame), s.alive = true ∧ (s.port p).st = .up ∧ (s.port p).wire = none ∧ (s.port p).backoff = none ∧ (s.port p).pause = none ∧ (s.port p).cal.running = false ∧ (s.port p).lpi = .active ∧ (s.port p).launches = [] ∧ f.cls < 8 ∧ f.len ≤ 2048 ∧ f.kind = .host ∧ s.tm.queues = [(p * 8 + f.cls, { flows := [{ sub := f.sub, frames := [f] }] })] ∧ s.tm.subShapers = [] ∧ s.tm.svcShapers = [] ∧ s.tm.portShapers = [] :=
  ⟨{ base with ports := { base.ports with ports := [(255, { mode := .g25, st := .up })] }, tm := { base.tm with queues := [(2047, { flows := [{ sub := 4, frames := [{ sub := 4, cls := 7, len := 2048 }] }] })] } }, 255, { sub := 4, cls := 7, len := 2048 }, by decide⟩

theorem wit_PortTransmissionEvents_14 : ∃ (s : State) (p : Nat), s.alive = true ∧ (s.port p).pause.isSome = true :=
  ⟨{ base with ports := { base.ports with ports := [(255, { mode := .g25, st := .up, pause := some 4 })] } }, 255, by decide⟩

theorem wit_PortTransmissionEvents_15 : ∃ (s : State) (p tb : Nat) (f : TxFrame), s.alive = true ∧ (s.port p).wire = some f ∧ f.desc = none ∧ f.kind = .host :=
  ⟨{ base with ports := { base.ports with ports := [(255, { mode := .g25, st := .up, wire := some { len := 257 } })] }, tm := { base.tm with bezels := [(0, { held := 3 })] } }, 255, 77777777, { len := 257 }, by decide⟩

theorem wit_PortTransmissionEvents_16 : ∃ (s : State) (p tb : Nat) (f : TxFrame) (hd place : Nat) (r : PortRing), s.alive = true ∧ (s.port p).wire = some f ∧ f.desc = some (hd, place) ∧ f.kind = .host ∧ f.tsreq = true ∧ (s.port p).st = .up ∧ s.pring hd = some r ∧ r.done = place ∧ r.late = [] ∧ r.back = [] ∧ s.masterFrozen r.owner 1 hd = false :=
  ⟨{ base with ports := { base.ports with ports := [(255, { mode := .g25, st := .up, wire := some { len := 257, desc := some (3, 9), tsreq := true, cookie := 44 } })], rings := [(3, { port := 255, done := 9 })] } }, 255, 77777777, { len := 257, desc := some (3, 9), tsreq := true, cookie := 44 }, 3, 9, { port := 255, done := 9 }, by decide⟩

theorem wit_PortTransmissionEvents_17 : ∃ (s : State) (b k w : Nat) (l : List TxDesc) (r : PortRing), s.alive = true ∧ s.fnEnabled b = true ∧ (s.fn b).frozen = false ∧ w < 65536 ∧ s.pring k = some r ∧ r.owner = b ∧ r.rx = true ∧ s.masterFrozen b 1 k = false ∧ l.length = (w + 65536 - r.tail) % 65536 ∧ (r.tail + 65536 - r.done % 65536) % 65536 + l.length = (w + 65536 - r.done % 65536) % 65536 ∧ (w + 65536 - r.done % 65536) % 65536 ≤ 2 ^ r.n :=
  ⟨{ base with ports := { base.ports with rings := [(3, { port := 255, rx := true, tail := 65535, done := 65535 })] } }, 0, 3, 0, [{}], { port := 255, rx := true, tail := 65535, done := 65535 }, by decide⟩

theorem wit_PortTransmissionEvents_18 : ∃ (s : State) (b k w : Nat) (l : List TxDesc) (r : PortRing), s.alive = true ∧ s.fnEnabled b = true ∧ (s.fn b).frozen = false ∧ w < 65536 ∧ s.pring k = some r ∧ r.owner = b ∧ 2 ^ r.n < (w + 65536 - r.done % 65536) % 65536 :=
  ⟨{ base with ports := { base.ports with rings := [(3, { port := 255, rx := true })] } }, 0, 3, 65, [], { port := 255, rx := true }, by decide⟩

theorem wit_PortTransmissionEvents_19 : ∃ (s : State) (b k w : Nat) (l : List TxDesc) (r : PortRing), s.alive = true ∧ s.fnEnabled b = true ∧ (s.fn b).frozen = false ∧ w < 65536 ∧ s.pring k = some r ∧ r.owner ≠ b :=
  ⟨{ base with ports := { base.ports with rings := [(3, { port := 255, owner := 4 })] } }, 0, 3, 65, [], { port := 255, owner := 4 }, by decide⟩

theorem wit_FacetCalibrationEvents_1 : ∃ (s : State) (c f : Nat) (l : List Nat) (b : BinTable), s.alive = true ∧ c < 64 ∧ calGood f l = true ∧ (s.chan c).interp.st = .normal ∧ (s.chan c).interp.activeY = false ∧ (s.chan c).interp.tabX = some b ∧ (s.chan c).interp.tabY.isSome = true :=
  ⟨{ base with fil := { base.fil with chans := [(63, { interp := { tabX := some { first := 5 }, tabY := some {} } })] } }, 63, 100, 3817 :: List.replicate 1099 3813, { first := 5 }, by decide +kernel⟩

theorem wit_FacetCalibrationEvents_2 : ∃ (s : State) (c f : Nat) (l : List Nat), s.alive = true ∧ c < 64 ∧ calGood f l = false ∧ (s.chan c).interp.fails < 2 :=
  ⟨{ base with fil := { base.fil with chans := [(63, { interp := { fails := 1 } })] } }, 63, 100, [], by decide⟩

theorem wit_FacetCalibrationEvents_3 : ∃ (s : State) (c f : Nat) (l : List Nat), s.alive = true ∧ c < 24 ∧ calGood f l = false ∧ (s.chan c).interp.fails = 2 ∧ (s.chan c).interp.st = .normal :=
  ⟨{ base with fil := { base.fil with chans := [(23, { interp := { fails := 2 } })] } }, 23, 100, [], by decide⟩

theorem wit_FacetCalibrationEvents_4 : ∃ (s : State) (p f : Nat) (x : Bool) (l : List Nat), s.alive = true ∧ p < 256 ∧ (s.port p).st = .disabled ∧ calGood f l = true :=
  ⟨base, 255, 100, true, 3817 :: List.replicate 1099 3813, by decide +kernel⟩

theorem wit_FacetCalibrationEvents_5 : ∃ (s : State) (p f : Nat) (l : List Nat), s.alive = true ∧ p < 256 ∧ (s.port p).st = .up ∧ calGood f l = false ∧ (s.port p).txPair.fails = 2 ∧ (s.port p).txPair.st = .single ∧ (s.port p).launches = [] :=
  ⟨{ base with ports := { base.ports with ports := [(255, { mode := .g25, st := .up, txPair := { st := .single, fails := 2 } })] } }, 255, 3, [], by decide⟩

theorem wit_FacetCalibrationEvents_6 : ∃ (s : State) (c : Nat) (b : BinTable), s.alive = true ∧ c < 64 ∧ (s.chan c).interp.st = .normal ∧ (s.chan c).interp.activeY = false ∧ (s.chan c).interp.fresh = some b ∧ (s.chan c).dead s.tc.mtc.cyc = false :=
  ⟨{ base with fil := { base.fil with chans := [(63, { interp := { fresh := some { first := 4 } } })] } }, 63, { first := 4 }, by decide⟩

theorem wit_FacetCalibrationEvents_7 : ∃ (s : State) (p : Nat) (b : BinTable), s.alive = true ∧ p < 256 ∧ (s.port p).st = .disabled ∧ (s.port p).rxPair.st = .normal ∧ (s.port p).rxPair.activeY = true ∧ (s.port p).rxPair.fresh = some b :=
  ⟨{ base with ports := { base.ports with ports := [(255, { rxPair := { activeY := true, fresh := some { first := 4 } } })] } }, 255, { first := 4 }, by decide⟩

theorem wit_FacetCalibrationEvents_8 : ∃ (s : State) (c : Nat), s.alive = true ∧ c < 64 ∧ (s.chan c).interp.st = .single :=
  ⟨{ base with fil := { base.fil with chans := [(63, { interp := { st := .single } })] } }, 63, by decide⟩

theorem wit_FacetCalibrationEvents_9 : ∃ (s : State) (p : Nat), s.alive = true ∧ p < 256 ∧ (s.port p).st = .up ∧ (s.port p).txPair.st = .single ∧ (s.port p).launches = [] :=
  ⟨{ base with ports := { base.ports with ports := [(255, { mode := .g25, st := .up, txPair := { st := .single } })] } }, 255, by decide⟩

theorem wit_FrameReceptionEvents_1 : ∃ (s : State) (p : Nat) (f : RxFrame), s.alive = true ∧ (s.port p).st ≠ .up ∧ (s.port p).st ≠ .upUntimed :=
  ⟨{ base with ports := { base.ports with ports := [(255, { mode := .g10, st := .down })] } }, 255, {}, by decide⟩

theorem wit_FrameReceptionEvents_2 : ∃ (s : State) (p : Nat) (f : RxFrame), s.alive = true ∧ p < 256 ∧ (((s.port p).st = .up ∨ (s.port p).st = .upUntimed)) ∧ (s.port p).cal.running = false ∧ f.fecErr = false ∧ f.codeErr = false ∧ f.fcsOk = false :=
  ⟨{ base with ports := { base.ports with ports := [(255, { mode := .g10, st := .upUntimed })] } }, 255, { fcsOk := false }, by decide⟩

theorem wit_FrameReceptionEvents_3 : ∃ (s : State) (p : Nat) (f : RxFrame), s.alive = true ∧ p < 256 ∧ (((s.port p).st = .up ∨ (s.port p).st = .upUntimed)) ∧ (s.port p).cal.running = false ∧ f.fecErr = false ∧ f.codeErr = false ∧ f.fcsOk = true ∧ f.len < 64 :=
  ⟨{ base with ports := { base.ports with ports := [(255, { mode := .g10, st := .upUntimed })] } }, 255, { len := 63 }, by decide⟩

theorem wit_FrameReceptionEvents_4 : ∃ (s : State) (p : Nat) (f : RxFrame), s.alive = true ∧ p < 256 ∧ (s.port p).st = .up ∧ lineCheck (s.port p) f = none ∧ f.etherType ≠ 0x8808 ∧ f.len ≤ (s.port p).maxLen ∧ f.rct = none ∧ s.wayOf p f = .tse ∧ PathFree s ∧ s.tse.inputs = [] ∧ cellsOf f.len ≤ 64 ∧ f.ipBad = false :=
  ⟨{ base with ports := { base.ports with ports := [(255, { mode := .g10, st := .up, mac := 5, addrs := [(0, { addr := 9 })] })] } }, 255, { len := 9216, etherType := 0x0806, dest := 5, dip := 9, tb := 777777 }, by decide⟩

theorem wit_FrameReceptionEvents_5 : ∃ (s : State) (p i k : Nat) (f : RxFrame) (r : PortRing) (d : TxDesc), s.alive = true ∧ p < 256 ∧ (s.port p).st = .up ∧ lineCheck (s.port p) f = none ∧ f.etherType ≠ 0x8808 ∧ f.len ≤ (s.port p).maxLen ∧ f.rct = none ∧ s.wayOf p f = .ring i k ∧ PathFree s ∧ cellsOf f.len ≤ 64 ∧ s.pring k = some r ∧ r.rx = true ∧ r.port = p ∧ r.descs = [d] ∧ r.taken = r.done ∧ r.late = [] ∧ r.back = [] ∧ s.masterFrozen r.owner 1 k = false ∧ s.dmaOk r.owner d.addr d.len = true ∧ f.len - 4 ≤ d.len :=
  ⟨{ base with ports := { base.ports with ports := [(255, { mode := .g10, st := .up, filters := [(3, { kind := 1, value := 7, handle := 4 })] })], rings := [(4, { port := 255, rx := true, taken := 6, done := 6, descs := [{ addr := 64, len := 60 }] })] } }, 255, 3, 4, { len := 64, etherType := 7, tb := 777777 }, { port := 255, rx := true, taken := 6, done := 6, descs := [{ addr := 64, len := 60 }] }, { addr := 64, len := 60 }, by decide⟩

theorem wit_FrameReceptionEvents_6 : ∃ (s : State) (p : Nat) (f : RxFrame), s.alive = true ∧ p < 256 ∧ (s.port p).st = .up ∧ lineCheck (s.port p) f = none ∧ f.etherType ≠ 0x8808 ∧ f.len ≤ (s.port p).maxLen ∧ f.rct = none ∧ s.wayOf p f = .nowhere ∧ PathFree s :=
  ⟨{ base with ports := { base.ports with ports := [(255, { mode := .g10, st := .up })] } }, 255, { len := 64, etherType := 7 }, by decide⟩

theorem wit_PlainRequestEvents_1 : ∃ (s : State) (p a g : Nat) (e : TseIn), s.alive = true ∧ PathFree s ∧ g < 4 ∧ s.tse.inputs = [(g, [e])] ∧ e.port = p ∧ isArp e.f = true ∧ e.f.dip = a :=
  ⟨{ base with tse := { base.tse with inputs := [(3, [{ port := 255, f := { etherType := 0x0806, dip := 9, src := 77 } }])] } }, 255, 9, 3, { port := 255, f := { etherType := 0x0806, dip := 9, src := 77 } }, by decide⟩

theorem wit_PlainRequestEvents_2 : ∃ (s : State) (p a g : Nat) (e : TseIn), s.alive = true ∧ PathFree s ∧ g < 4 ∧ s.tse.inputs = [(g, [e])] ∧ e.port = p ∧ e.f.family = 6 ∧ e.f.icmp = 2 ∧ e.f.dip = solicited a ∧ ((s.addrsOf p).any fun x => x.family = 6 && x.addr = a) = true :=
  ⟨{ base with ports := { base.ports with ports := [(255, { addrs := [(0, { family := 6, addr := 9 })] })] }, tse := { base.tse with inputs := [(3, [{ port := 255, f := { family := 6, icmp := 2, dip := solicited 9, src := 77 } }])] } }, 255, 9, 3, { port := 255, f := { family := 6, icmp := 2, dip := solicited 9, src := 77 } }, by decide⟩

theorem wit_PlainRequestEvents_3 : ∃ (s : State) (p a g : Nat) (e : TseIn), s.alive = true ∧ PathFree s ∧ g < 4 ∧ s.tse.inputs = [(g, [e])] ∧ e.port = p ∧ e.f.icmp = 1 ∧ e.f.dip = a ∧ e.f.len ≤ 16384 ∧ (((s.port p).echoSec ≠ s.sec ∨ (s.port p).echoCnt < 100)) :=
  ⟨{ base with ports := { base.ports with ports := [(255, { echoSec := 1000, echoCnt := 99 })] }, tse := { base.tse with inputs := [(3, [{ port := 255, f := { icmp := 1, dip := 9, src := 77 } }])] } }, 255, 9, 3, { port := 255, f := { icmp := 1, dip := 9, src := 77 } }, by decide⟩

theorem wit_PlainRequestEvents_4 : ∃ (s : State) (p a g : Nat) (e : TseIn), s.alive = true ∧ PathFree s ∧ g < 4 ∧ s.tse.inputs = [(g, [e])] ∧ e.port = p ∧ e.f.icmp = 1 ∧ e.f.dip = a ∧ (s.port p).echoSec = s.sec ∧ 100 ≤ (s.port p).echoCnt ∧ (s.loupe.banks.look {} p).mode = 0 :=
  ⟨{ base with ports := { base.ports with ports := [(255, { echoSec := 1000, echoCnt := 100 })] }, tse := { base.tse with inputs := [(3, [{ port := 255, f := { icmp := 1, dip := 9, src := 77 } }])] } }, 255, 9, 3, { port := 255, f := { icmp := 1, dip := 9, src := 77 } }, by decide⟩

theorem wit_PlainRequestEvents_5 : ∃ (s : State) (p a g : Nat) (e : TseIn), s.alive = true ∧ PathFree s ∧ g < 4 ∧ s.tse.inputs = [(g, [e])] ∧ e.port = p ∧ e.f.icmp = 3 ∧ e.f.dip = a ∧ ptpGroup 4 a = true ∧ s.ptpOver p 1 = true :=
  ⟨{ base with tse := { base.tse with services := [(4, some { cfg := { op := 1, transport := 2, ports := [255] } })], inputs := [(3, [{ port := 255, f := { icmp := 3, dip := 0xE0000181, src := 77 } }])] } }, 255, 0xE0000181, 3, { port := 255, f := { icmp := 3, dip := 0xE0000181, src := 77 } }, by decide⟩

theorem wit_PlainRequestEvents_6 : ∃ (s : State) (p a g : Nat) (e : TseIn), s.alive = true ∧ PathFree s ∧ g < 4 ∧ s.tse.inputs = [(g, [e])] ∧ e.port = p ∧ e.f.icmp = 3 ∧ e.f.dip = a ∧ s.ptpOver p 1 = false ∧ s.ptpOver p 2 = false :=
  ⟨{ base with tse := { base.tse with inputs := [(3, [{ port := 255, f := { icmp := 3, dip := 0xE0000181, src := 77 } }])] } }, 255, 0xE0000181, 3, { port := 255, f := { icmp := 3, dip := 0xE0000181, src := 77 } }, by decide⟩

theorem wit_PlainRequestEvents_7 : ∃ (s : State) (p g n : Nat) (e : TseIn) (v : Service), s.alive = true ∧ g < 4 ∧ s.tse.inputs = [(g, [e])] ∧ e.port = p ∧ isPtp e.f = true ∧ s.tse.services = [(n, some v)] ∧ v.isNtp = false ∧ p ∈ v.cfg.ports :=
  ⟨{ base with tse := { base.tse with services := [(4, some { cfg := { op := 1, transport := 2, ports := [255] } })], inputs := [(3, [{ port := 255, f := { etherType := 0x88F7 } }])] } }, 255, 3, 4, { port := 255, f := { etherType := 0x88F7 } }, { cfg := { op := 1, transport := 2, ports := [255] } }, by decide⟩

theorem wit_TimeRequestEvents_1 : ∃ (s : State) (p g n : Nat) (e : TseIn) (v : Service) (m : PtpMsg), s.alive = true ∧ PathFree s ∧ g < 4 ∧ s.tse.inputs = [(g, [e])] ∧ e.port = p ∧ isPtp e.f = true ∧ e.timed = true ∧ s.tse.services = [(n, some v)] ∧ s.ptpSvc p m = some (n, v) ∧ s.contextFrozen n v = false ∧ m.version = 2 ∧ m.minor ≤ 1 ∧ m.lenOk = true ∧ m.reservedOk = true ∧ m.nsOk = true ∧ m.token = none ∧ m.auth = none ∧ m.unicast = false ∧ v.peer = false ∧ v.cfg.auth = 0 ∧ v.cfg.cls < 8 ∧ s.serves v = true ∧ s.mute p = false ∧ (s.tse.works.all fun w => w.id != s.tse.nextWork) = true :=
  ⟨{ base with tc := { base.tc with ts := .locked }, tse := { base.tse with services := [(4, some { cfg := { op := 1, transport := 1, serve := 4, cls := 7, ports := [255] } })], inputs := [(3, [{ port := 255, f := { etherType := 0x88F7 }, stamp := 123456789012345 }])] } }, 255, 3, 4, { port := 255, f := { etherType := 0x88F7 }, stamp := 123456789012345 }, { cfg := { op := 1, transport := 1, serve := 4, cls := 7, ports := [255] } }, { seq := 65535, client := 9 }, by decide⟩

theorem wit_TimeRequestEvents_2 : ∃ (s : State) (p g n : Nat) (e : TseIn) (v : Service) (m : PtpMsg), s.alive = true ∧ PathFree s ∧ g < 4 ∧ s.tse.inputs = [(g, [e])] ∧ e.port = p ∧ isPtp e.f = true ∧ e.timed = true ∧ s.tse.services = [(n, some v)] ∧ s.ptpSvc p m = some (n, v) ∧ s.contextFrozen n v = false ∧ m.version = 2 ∧ m.minor ≤ 1 ∧ m.lenOk = true ∧ m.reservedOk = true ∧ m.nsOk = true ∧ m.token = none ∧ m.auth = none ∧ m.unicast = false ∧ v.peer = false ∧ v.cfg.auth = 0 ∧ s.serves v = false :=
  ⟨{ base with tc := { base.tc with ts := .locked }, tse := { base.tse with services := [(4, some { cfg := { op := 1, transport := 1, serve := 1, cls := 7, ports := [255] } })], inputs := [(3, [{ port := 255, f := { etherType := 0x88F7 }, stamp := 123456789012345 }])] } }, 255, 3, 4, { port := 255, f := { etherType := 0x88F7 }, stamp := 123456789012345 }, { cfg := { op := 1, transport := 1, serve := 1, cls := 7, ports := [255] } }, { seq := 65535, client := 9 }, by decide⟩

theorem wit_TimeRequestEvents_3 : ∃ (s : State) (p g n : Nat) (e : TseIn) (v : Service) (m : PtpMsg), s.alive = true ∧ PathFree s ∧ g < 4 ∧ s.tse.inputs = [(g, [e])] ∧ e.port = p ∧ isPtp e.f = true ∧ e.timed = true ∧ s.tse.services = [(n, some v)] ∧ s.ptpSvc p m = some (n, v) ∧ s.contextFrozen n v = false ∧ m.version = 2 ∧ m.minor ≤ 1 ∧ m.lenOk = true ∧ m.reservedOk = true ∧ m.nsOk = true ∧ m.token = none ∧ m.auth = none ∧ v.peer = true ∧ v.cfg.auth = 0 ∧ v.cfg.cls < 8 ∧ s.mute p = false ∧ (s.tse.works.all fun w => w.id != s.tse.nextWork) = true :=
  ⟨{ base with tc := { base.tc with ts := .locked }, tse := { base.tse with services := [(4, some { cfg := { op := 1, profile := 6, transport := 1, cls := 7, ports := [255] } })], inputs := [(3, [{ port := 255, f := { etherType := 0x88F7 }, stamp := 123456789012345 }])] } }, 255, 3, 4, { port := 255, f := { etherType := 0x88F7 }, stamp := 123456789012345 }, { cfg := { op := 1, profile := 6, transport := 1, cls := 7, ports := [255] } }, { seq := 65535, client := 9 }, by decide⟩

theorem wit_TimeRequestEvents_4 : ∃ (s : State) (p g n : Nat) (e : TseIn) (v : Service) (q : UnicastReq), s.alive = true ∧ PathFree s ∧ g < 4 ∧ s.tse.inputs = [(g, [e])] ∧ e.port = p ∧ isPtp e.f = true ∧ e.timed = true ∧ s.tse.services = [(n, some v)] ∧ s.ptpSvc p q.m = some (n, v) ∧ s.contextFrozen n v = false ∧ q.m.version = 2 ∧ q.m.minor ≤ 1 ∧ q.m.lenOk = true ∧ q.m.reservedOk = true ∧ q.m.nsOk = true ∧ q.m.token = none ∧ q.m.auth = none ∧ v.over 3 = true ∧ v.cfg.auth = 0 ∧ v.cfg.cls < 8 ∧ s.clasp.st ≠ .standby ∧ (s.tse.works.all fun w => w.id != s.tse.nextWork) = true ∧ s.tse.grants = [] ∧ q.msgType < 3 ∧ v.peer = false ∧ intervalOk v.cfg.profile q.msgType q.interval = true ∧ 10 ≤ q.duration ∧ q.duration ≤ v.cfg.maxGrant ∧ 0 < s.quota 0 e.bezel :=
  ⟨{ base with tse := { base.tse with services := [(4, some { cfg := { op := 1, transport := 9, serve := 1, cls := 7, maxGrant := 10, ports := [255] } })], inputs := [(3, [{ port := 255, f := { etherType := 0x88F7 }, stamp := 123456789012345 }])] } }, 255, 3, 4, { port := 255, f := { etherType := 0x88F7 }, stamp := 123456789012345 }, { cfg := { op := 1, transport := 9, serve := 1, cls := 7, maxGrant := 10, ports := [255] } }, { msgType := 2, interval := -7, duration := 10 }, by decide⟩

theorem wit_TimeRequestEvents_5 : ∃ (s : State) (p g n : Nat) (e : TseIn) (v : Service) (q : UnicastReq), s.alive = true ∧ PathFree s ∧ g < 4 ∧ s.tse.inputs = [(g, [e])] ∧ e.port = p ∧ isPtp e.f = true ∧ e.timed = true ∧ s.tse.services = [(n, some v)] ∧ s.ptpSvc p q.m = some (n, v) ∧ s.contextFrozen n v = false ∧ q.m.version = 2 ∧ q.m.minor ≤ 1 ∧ q.m.lenOk = true ∧ q.m.reservedOk = true ∧ q.m.nsOk = true ∧ q.m.token = none ∧ q.m.auth = none ∧ v.over 3 = true ∧ v.cfg.auth = 0 ∧ v.cfg.cls < 8 ∧ s.clasp.st ≠ .standby ∧ (s.tse.works.all fun w => w.id != s.tse.nextWork) = true ∧ q.duration < 10 :=
  ⟨{ base with tse := { base.tse with services := [(4, some { cfg := { op := 1, transport := 9, serve := 1, cls := 7, maxGrant := 10, ports := [255] } })], inputs := [(3, [{ port := 255, f := { etherType := 0x88F7 }, stamp := 123456789012345 }])] } }, 255, 3, 4, { port := 255, f := { etherType := 0x88F7 }, stamp := 123456789012345 }, { cfg := { op := 1, transport := 9, serve := 1, cls := 7, maxGrant := 10, ports := [255] } }, { msgType := 2, interval := -7, duration := 9 }, by decide⟩

theorem wit_TimeRequestEvents_6 : ∃ (s : State) (p g n k c : Nat) (e : TseIn) (v : Service) (x : Grant), s.alive = true ∧ PathFree s ∧ g < 4 ∧ s.tse.inputs = [(g, [e])] ∧ e.port = p ∧ isPtp e.f = true ∧ s.tse.services = [(n, some v)] ∧ v.cfg.cls < 8 ∧ s.tse.grants = [(k, x)] ∧ x.granted = 1 ∧ x.client = c ∧ x.port = p ∧ x.service = n ∧ x.authed = false :=
  ⟨{ base with tse := { base.tse with grants := [(6, { granted := 1, client := 8, port := 255, service := 4 })], services := [(4, some { cfg := { op := 1, transport := 9, serve := 1, cls := 7, ports := [255] } })], inputs := [(3, [{ port := 255, f := { etherType := 0x88F7 } }])] } }, 255, 3, 4, 6, 8, { port := 255, f := { etherType := 0x88F7 } }, { cfg := { op := 1, transport := 9, serve := 1, cls := 7, ports := [255] } }, { granted := 1, client := 8, port := 255, service := 4 }, by decide⟩

theorem wit_TimeRequestEvents_7 : ∃ (s : State) (p g k c : Nat) (e : TseIn) (x : Grant), s.alive = true ∧ g < 4 ∧ s.tse.inputs = [(g, [e])] ∧ e.port = p ∧ isPtp e.f = true ∧ s.tse.grants = [(k, x)] ∧ x.granted ≠ 0 ∧ x.cancelling = true ∧ x.client = c ∧ x.port = p :=
  ⟨{ base with tse := { base.tse with grants := [(6, { granted := 7, client := 8, port := 255, cancelling := true })], inputs := [(3, [{ port := 255, f := { etherType := 0x88F7 } }])] } }, 255, 3, 6, 8, { port := 255, f := { etherType := 0x88F7 } }, { granted := 7, client := 8, port := 255, cancelling := true }, by decide⟩

theorem wit_TimeRequestEvents_8 : ∃ (s : State) (p g n : Nat) (e : TseIn) (v : Service) (m : NtpReq), s.alive = true ∧ PathFree s ∧ g < 4 ∧ s.tse.inputs = [(g, [e])] ∧ e.port = p ∧ isNtp e.f = true ∧ e.timed = true ∧ s.tse.services = [(n, some v)] ∧ s.ntpSvc p = some (n, v) ∧ s.contextFrozen n v = false ∧ ((m.version = 3 ∨ m.version = 4)) ∧ m.mode = 3 ∧ 48 ≤ m.size ∧ m.efOk = true ∧ m.nts = none ∧ e.f.len ≤ 9216 ∧ v.cfg.auth = 0 ∧ v.cfg.cls < 8 ∧ v.cfg.hallmark = 0 ∧ s.mute p = false ∧ (s.port p).st = .up ∧ (s.port p).launches = [] ∧ s.tse.waits = [] ∧ (s.tse.works.all fun w => w.id != s.tse.nextWork) = true :=
  ⟨{ base with ports := { base.ports with ports := [(255, { mode := .g10, st := .up })] }, tse := { base.tse with services := [(4, some { cfg := { op := 1, profile := 8, serve := 1, cls := 7, ports := [255] } })], inputs := [(3, [{ port := 255, f := { family := 4, proto := 17, dport := 123, len := 90 }, stamp := 123456789012345 }])] } }, 255, 3, 4, { port := 255, f := { family := 4, proto := 17, dport := 123, len := 90 }, stamp := 123456789012345 }, { cfg := { op := 1, profile := 8, serve := 1, cls := 7, ports := [255] } }, { xmt := 99 }, by decide⟩

theorem wit_TimeRequestEvents_9 : ∃ (s : State) (p g n : Nat) (e : TseIn) (v : Service) (m : NtpReq), s.alive = true ∧ g < 4 ∧ s.tse.inputs = [(g, [e])] ∧ e.port = p ∧ isNtp e.f = true ∧ s.tse.services = [(n, some v)] ∧ s.ntpSvc p = some (n, v) ∧ s.contextFrozen n v = false ∧ m.size < 48 :=
  ⟨{ base with ports := { base.ports with ports := [(255, { mode := .g10, st := .up })] }, tse := { base.tse with services := [(4, some { cfg := { op := 1, profile := 8, serve := 1, cls := 7, ports := [255] } })], inputs := [(3, [{ port := 255, f := { family := 4, proto := 17, dport := 123, len := 90 }, stamp := 123456789012345 }])] } }, 255, 3, 4, { port := 255, f := { family := 4, proto := 17, dport := 123, len := 90 }, stamp := 123456789012345 }, { cfg := { op := 1, profile := 8, serve := 1, cls := 7, ports := [255] } }, { size := 47 }, by decide⟩

theorem wit_TimeOriginationEvents_1 : ∃ (s : State) (p : Nat) (x : Rat) (f : TxFrame) (l : List TxFrame), s.alive = true ∧ (s.port p).launches = f :: l ∧ (s.port p).st = .up ∧ (s.port p).pause = none ∧ (s.port p).lpi = .active ∧ (s.port p).wire = none ∧ (s.port p).cal.running = false ∧ f.work = none ∧ s.squelched = false ∧ rabs x ≤ 10 :=
  ⟨{ base with ports := { base.ports with ports := [(255, { mode := .g10, st := .up, launches := [{ kind := .ntp, launch := some 9999999 }, {}] })] } }, 255, -10, { kind := .ntp, launch := some 9999999 }, [{}], by decide⟩

theorem wit_TimeOriginationEvents_2 : ∃ (s : State) (p : Nat) (x : Rat) (f : TxFrame) (l : List TxFrame), s.alive = true ∧ (s.port p).launches = f :: l ∧ f.work = none :=
  ⟨{ base with ports := { base.ports with ports := [(255, { mode := .g10, st := .up, launches := [{ kind := .ntp, launch := some 9999999 }, {}] })] } }, 255, 0, { kind := .ntp, launch := some 9999999 }, [{}], by decide⟩

theorem wit_TimeOriginationEvents_3 : ∃ (s : State) (g b p : Nat) (f : TxFrame), s.alive = true ∧ s.tse.waits = [(g * 64 + b, [(p, f)])] ∧ (s.port p).st = .up ∧ s.eligible p f = true ∧ f.work = none :=
  ⟨{ base with ports := { base.ports with ports := [(255, { mode := .g10, st := .up })] }, tse := { base.tse with waits := [(255, [(255, { kind := .ntp, client := 4 })])] } }, 3, 63, 255, { kind := .ntp, client := 4 }, by decide⟩

theorem wit_TimeOriginationEvents_4 : ∃ (s : State) (n p : Nat) (v : Service), s.alive = true ∧ PathFree s ∧ s.tse.services = [(n, some v)] ∧ v.isNtp = false ∧ v.cfg.profile ≠ 4 ∧ v.cfg.transport = 1 ∧ p ∈ v.cfg.ports ∧ (((s.port p).st = .up ∨ (s.port p).st = .upUntimed)) ∧ s.serves v = true ∧ s.mute p = false ∧ s.contextFrozen n v = false ∧ s.portOwner p = v.bezel ∧ v.cfg.auth = 0 ∧ v.cfg.cls < 8 ∧ s.tse.grants = [] :=
  ⟨{ base with tc := { base.tc with ts := .locked }, ports := { base.ports with ports := [(255, { mode := .g10, st := .up })] }, tse := { base.tse with services := [(4, some { seqs := [(510, 65535)], cfg := { op := 1, transport := 1, serve := 4, cls := 7, ports := [255] } })] } }, 4, 255, { seqs := [(510, 65535)], cfg := { op := 1, transport := 1, serve := 4, cls := 7, ports := [255] } }, by decide⟩

theorem wit_TimeOriginationEvents_5 : ∃ (s : State) (n p : Nat) (v : Service), s.alive = true ∧ s.svc n = some v ∧ s.serves v = false :=
  ⟨{ base with tc := { base.tc with ts := .lost }, tse := { base.tse with services := [(4, some { seqs := [(510, 65535)], cfg := { op := 1, transport := 1, serve := 31, cls := 7, ports := [255] } })] } }, 4, 255, { seqs := [(510, 65535)], cfg := { op := 1, transport := 1, serve := 31, cls := 7, ports := [255] } }, by decide⟩

theorem wit_TimeOriginationEvents_6 : ∃ (s : State) (n p : Nat) (v : Service), s.alive = true ∧ PathFree s ∧ s.tse.services = [(n, some v)] ∧ v.isNtp = false ∧ v.cfg.profile = 0 ∧ v.cfg.transport = 1 ∧ p ∈ v.cfg.ports ∧ (((s.port p).st = .up ∨ (s.port p).st = .upUntimed)) ∧ s.mute p = false ∧ s.contextFrozen n v = false ∧ s.portOwner p = v.bezel ∧ v.cfg.auth = 0 ∧ v.cfg.cls < 8 ∧ s.tse.grants = [] :=
  ⟨{ base with ports := { base.ports with ports := [(255, { mode := .g10, st := .up })] }, tse := { base.tse with services := [(4, some { seqs := [(511, 65535)], cfg := { op := 1, transport := 1, serve := 4, cls := 7, ports := [255] } })] } }, 4, 255, { seqs := [(511, 65535)], cfg := { op := 1, transport := 1, serve := 4, cls := 7, ports := [255] } }, by decide⟩

theorem wit_TimeOriginationEvents_7 : ∃ (s : State) (p q u : Nat) (f : TxFrame) (v : Service), s.alive = true ∧ PathFree s ∧ (s.port p).follow = [(f, u)] ∧ f.kind = .sync ∧ f.seq = q ∧ f.auth = false ∧ (s.port p).st = .up ∧ s.mute p = false ∧ s.svc f.service = some v ∧ f.cls < 8 :=
  ⟨{ base with ports := { base.ports with ports := [(255, { mode := .g10, st := .up, follow := [({ kind := .sync, seq := 65535, service := 4, cls := 7, body := [fld 2 0] }, 123456789012345)] })] }, tse := { base.tse with services := [(4, some { cfg := { op := 1, ports := [255] } })] } }, 255, 65535, 123456789012345, { kind := .sync, seq := 65535, service := 4, cls := 7, body := [fld 2 0] }, { cfg := { op := 1, ports := [255] } }, by decide⟩

theorem wit_TimeOriginationEvents_8 : ∃ (s : State) (p q u : Nat) (f : TxFrame) (v : Service), s.alive = true ∧ PathFree s ∧ (s.port p).follow = [(f, u)] ∧ f.kind = .pdelayResp ∧ f.seq = q ∧ f.auth = false ∧ (s.port p).st = .up ∧ s.mute p = false ∧ s.svc f.service = some v ∧ f.cls < 8 :=
  ⟨{ base with ports := { base.ports with ports := [(255, { mode := .g10, st := .up, follow := [({ kind := .pdelayResp, seq := 65535, service := 4, cls := 7 }, 123456789012345)] })] }, tse := { base.tse with services := [(4, some { cfg := { op := 1, ports := [255] } })] } }, 255, 65535, 123456789012345, { kind := .pdelayResp, seq := 65535, service := 4, cls := 7 }, { cfg := { op := 1, ports := [255] } }, by decide⟩

theorem wit_TimeOriginationEvents_9 : ∃ (s : State) (n : Nat), s.alive = true ∧ (s.grant n).granted ≠ 0 ∧ (s.grant n).expiry < s.sec :=
  ⟨{ base with tse := { base.tse with grants := [(1048575, { granted := 4, expiry := 999 }), (3, { granted := 4 })] } }, 1048575, by decide⟩

theorem wit_TimeOriginationEvents_10 : ∃ (s : State) (n : Nat), s.alive = true ∧ s.sec ≤ (s.grant n).expiry :=
  ⟨{ base with tse := { base.tse with grants := [(1048575, { granted := 4, expiry := 1000 })] } }, 1048575, by decide⟩

theorem wit_TimeOriginationEvents_11 : ∃ (s : State) (n : Nat), s.alive = true ∧ (s.grant n).granted ≠ 0 ∧ (s.grant n).cancelling = true :=
  ⟨{ base with tse := { base.tse with grants := [(1048575, { granted := 4, cancelling := true, expiry := 2000 })] } }, 1048575, by decide⟩

theorem wit_ServiceCommands_1 : ∃ (h : CmdHdr) (s : State) (a : ServiceArgs) (n : Nat), ready { op := 0x2101, who := .any, mirrored := true, xbIn := true } h s ∧ a.op = 0 ∧ a.service = 0xFFFF ∧ serviceArgsOk a = true ∧ ((a.auth = 1 → s.macKeyOk a.key = true ∧ s.keyOwned h.fn a.key = true)) ∧ (a.ports.all fun p => s.portOwner p = h.fn) = true ∧ (s.allSvcs.any fun q => q.1 != a.service && servicesClash a q.2.cfg) = false ∧ (s.allSvcs.filter fun q => q.2.bezel = h.fn).length < 64 ∧ s.freeService = some n :=
  ⟨hx 0, base, { service := 0xFFFF, op := 0, profile := 6, cls := 7, serve := 15, transport := 1, maxGrant := 1000, holdSpec := 0xFFFFFFFE, ports := [255] }, 0, by decide +kernel⟩

theorem wit_ServiceCommands_2 : ∃ (h : CmdHdr) (s : State) (a : ServiceArgs) (v : Service), ready { op := 0x2101, who := .any, mirrored := true, xbIn := true } h s ∧ a.op = 1 ∧ a.service < 1024 ∧ s.svc a.service = some v ∧ v.bezel = h.fn ∧ serviceArgsOk a = true ∧ ((a.auth = 1 → s.macKeyOk a.key = true ∧ s.keyOwned h.fn a.key = true)) ∧ (a.ports.all fun p => s.portOwner p = h.fn) = true ∧ (s.allSvcs.any fun q => q.1 != a.service && servicesClash a q.2.cfg) = false ∧ s.tse.grants = [] :=
  ⟨hx 0, { base with tse := { base.tse with services := [(1023, some { cfg := { op := 0, profile := 0, transport := 1, ports := [255] } })] } }, { service := 1023, op := 1, profile := 8, cls := 7, auth := 2, serve := 15, ports := [255] }, { cfg := { op := 0, profile := 0, transport := 1, ports := [255] } }, by decide⟩

theorem wit_ServiceCommands_3 : ∃ (h : CmdHdr) (s : State) (a : ServiceArgs) (v : Service), ready { op := 0x2101, who := .any, mirrored := true, xbIn := true } h s ∧ a.op = 2 ∧ a.service < 1024 ∧ s.svc a.service = some v ∧ v.bezel = h.fn ∧ s.tse.grants = [] :=
  ⟨hx 0, { base with tse := { base.tse with services := [(1023, some { cfg := { op := 0, profile := 0, transport := 1, ports := [255] } })] } }, { service := 1023, op := 2 }, { cfg := { op := 0, profile := 0, transport := 1, ports := [255] } }, by decide⟩

theorem wit_ServiceCommands_4 : ∃ (h : CmdHdr) (s : State) (p i f v c a : Nat), ready { op := 0x2102, plen := 24, who := .any, mirrored := true } h s ∧ p < 256 ∧ i < 16 ∧ ((f = 4 ∨ f = 6)) ∧ v ≤ 4094 ∧ c ≤ 7 ∧ a < (if f = 4 then 2 ^ 32 else 2 ^ 128) ∧ s.portOwner p = h.fn ∧ ((s.port (s.homePort p)).addrs.any fun q => q.1 != i && q.2.family = f && q.2.vlan = v && q.2.addr = a) = false :=
  ⟨hd 24, base, 255, 15, 6, 4094, 7, 2 ^ 128 - 1, by decide⟩

theorem wit_ServiceCommands_5 : ∃ (h : CmdHdr) (s : State) (p i : Nat), ready { op := 0x2102, plen := 24, who := .any, mirrored := true } h s ∧ p < 256 ∧ i < 16 ∧ s.portOwner p = h.fn :=
  ⟨hd 24, { base with ports := { base.ports with ports := [(255, { addrs := [(15, {}), (3, {})] })] } }, 255, 15, by decide⟩

theorem wit_ServiceCommands_6 : ∃ (h : CmdHdr) (s : State) (p m : Nat), ready { op := 0x2103, plen := 8, who := .any, mirrored := true } h s ∧ p < 256 ∧ 500 ≤ m ∧ m ≤ 100000 ∧ s.portOwner p = h.fn :=
  ⟨hd 8, base, 255, 100000, by decide⟩

theorem wit_ServiceCommands_7 : ∃ (h : CmdHdr) (s : State) (e : Nat), ready { op := 0x2104, plen := 4, who := .any, mirrored := true, action := true } h s ∧ e < 1048576 ∧ (s.grant e).granted ≠ 0 ∧ (s.grant e).bezel = h.fn ∧ h.fn = 0 ∧ (s.grant e).authed = false ∧ (s.loupe.banks.look {} 256).mode ≠ 2 ∧ PathFree s ∧ s.tse.services = [] :=
  ⟨hd 4, { base with tse := { base.tse with grants := [(1048575, { granted := 5, client := 8, port := 255, service := 4 })] } }, 1048575, by decide⟩

theorem wit_ServiceCommands_8 : ∃ (h : CmdHdr) (s : State) (l : Nat), ready { op := 0x2105, plen := 4, who := .any, mirrored := true } h s ∧ 3600 ≤ l ∧ l ≤ 604800 :=
  ⟨hd 4, base, 604800, by decide⟩

theorem wit_ServiceCommands_9 : ∃ (h : CmdHdr) (s : State) (a b f : Nat), ready { op := 0x2106, plen := 12, who := .any, mirrored := true } h s ∧ a < 256 ∧ b < 256 ∧ a ≠ b ∧ 10 ≤ f ∧ f ≤ 1000 ∧ (s.port a).mode = (s.port b).mode ∧ s.portOwner a = h.fn ∧ s.portOwner b = h.fn ∧ s.portInPrp a = false ∧ s.portInPrp b = false ∧ s.portUsed .prp a = false ∧ s.portUsed .prp b = false :=
  ⟨hd 12, base, 255, 0, 1000, by decide⟩

theorem wit_ServiceCommands_10 : ∃ (h : CmdHdr) (s : State) (a b f : Nat) (q : PrpPair), ready { op := 0x2106, plen := 12, who := .any, mirrored := true } h s ∧ a < 256 ∧ b < 256 ∧ a ≠ b ∧ q ∈ s.ports.prp ∧ q.a = a ∧ q.b = b ∧ s.portOwner a = h.fn ∧ s.portOwner b = h.fn :=
  ⟨hd 12, { base with ports := { base.ports with prp := [{ a := 3, b := 255 }, { a := 4, b := 5 }] } }, 3, 255, 9, { a := 3, b := 255 }, by decide⟩

theorem wit_ServiceCommands_11 : ∃ (h : CmdHdr) (s : State) (n : Nat) (v : Service), ready { op := 0x2141, plen := 2, who := .any, xbOut := true } h s ∧ s.svc n = some v ∧ ((h.fn = 0 ∨ v.bezel = h.fn)) ∧ 256 ≤ h.xlen :=
  ⟨hx 2, { base with tse := { base.tse with services := [(1023, some { cfg := { op := 0, profile := 8, ports := [255] } })] } }, 1023, { cfg := { op := 0, profile := 8, ports := [255] } }, by decide⟩

theorem wit_ServiceCommands_12 : ∃ (h : CmdHdr) (s : State) (e : Nat), ready { op := 0x2142, plen := 4, who := .any } h s ∧ e < 1048576 ∧ ((h.fn = 0 ∨ (s.grant e).bezel = h.fn)) :=
  ⟨hd 4, { base with tse := { base.tse with grants := [(1048575, { granted := 5, client := 8, port := 255, service := 4 })] } }, 1048575, by decide⟩

theorem wit_KeyCommands_1 : ∃ (h : CmdHdr) (s : State) (a : GenKeyArgs) (k : Nat), ready { op := 0x2201, plen := 20, who := .any, mirrored := nbit a.usage 13, xbOut := privateAlg a.alg } h s ∧ a.parent < 4096 ∧ algLen a.alg ≠ 0 ∧ a.usage < 16384 ∧ (s.key a.parent).depth < 7 ∧ s.keyOwned h.fn a.parent = true ∧ s.lkError = false ∧ (s.key a.parent).st = .valid ∧ s.poolFull h.fn = false ∧ s.freeSlot = some k ∧ ((privateAlg a.alg = true → 64 ≤ h.xlen)) :=
  ⟨hd 20, { base with keys := { base.keys with slots := [(64, { st := .valid, depth := 6 })] } }, { parent := 64, alg := 5, usage := 8191, label := 7 }, 320, by decide +kernel⟩

theorem wit_KeyCommands_2 : ∃ (h : CmdHdr) (s : State) (p k : Nat) (b : KeyBlob), ready { op := 0x2202, plen := 4, who := .any, mirrored := nbit b.usage 13, xbIn := true } h s ∧ p < 4096 ∧ s.keyOwned h.fn p = true ∧ b.version = 1 ∧ b.wrap = 1 ∧ b.sivOk = true ∧ b.len = algLen b.alg ∧ b.parent = p ∧ b.owner = h.fn ∧ (s.key p).may 5 = true ∧ ((List.range 13).any fun n => nbit b.usage n && !(s.key p).may n) = false ∧ (s.key p).depth < 7 ∧ s.keyUsable p = true ∧ (s.key p).useLimit = 0 ∧ p ≠ sealedKey ∧ s.poolFull h.fn = false ∧ s.freeSlot = some k :=
  ⟨hx 4, { base with keys := { base.keys with slots := [(64, { st := .valid, depth := 6, usage := 0x3FFF, useCtr := 4294967295 })] } }, 64, 320, { usage := 3, parent := 64, material := 77 }, by decide +kernel⟩

theorem wit_KeyCommands_3 : ∃ (h : CmdHdr) (s : State) (b : KeyBlob), ready { op := 0x2203, mirrored := nbit b.usage 13, xbIn := true } h s ∧ b.version = 1 ∧ b.wrap = 2 ∧ b.sivOk = true ∧ b.alg = 2 ∧ b.len = 32 ∧ b.parent = 1 ∧ b.owner = 0 ∧ b.expireAtReset = false ∧ (s.key 2).st ≠ .valid ∧ s.bez.rows = [(0, s.bezel 0)] ∧ (s.bezel 0).present = true ∧ (s.bezel 0).deleting = false ∧ (s.key 64).st ≠ .valid :=
  ⟨hx 0, { base with bez := { base.bez with rows := [(0, base.bezel 0)] } }, { wrap := 2, alg := 2, len := 32, parent := 1, usage := 9, material := 4 }, by decide⟩

theorem wit_KeyCommands_4 : ∃ (h : CmdHdr) (s : State) (k : Nat), ready { op := 0x2204, plen := 8, who := .any, mirrored := s.keyMirrors k } h s ∧ 320 ≤ k ∧ k < 4096 ∧ s.keyOwned h.fn k = true ∧ s.childrenOf k = [] :=
  ⟨hd 8, { base with sta := { base.sta with cached := [4095] }, keys := { base.keys with slots := [(4095, { st := .valid, gen := 4 })] } }, 4095, by decide⟩

theorem wit_KeyCommands_5 : ∃ (h : CmdHdr) (s : State) (k c : Nat), ready { op := 0x2204, plen := 8, who := .any, mirrored := s.keyMirrors k } h s ∧ 320 ≤ k ∧ k < 4096 ∧ s.keyOwned h.fn k = true ∧ c ∈ s.childrenOf k :=
  ⟨hd 8, { base with keys := { base.keys with slots := [(4095, { st := .valid, gen := 4 }), (4000, { st := .valid, parent := 4095, material := 3 })] } }, 4095, 4000, by decide⟩

theorem wit_KeyCommands_6 : ∃ (h : CmdHdr) (s : State) (k : Nat), ready { op := 0x2205, plen := 2, who := .any, mirrored := s.keyMirrors k } h s ∧ k < 4096 ∧ s.keyOwned h.fn k = true ∧ (s.key k).st ≠ .valid :=
  ⟨hd 2, { base with keys := { base.keys with slots := [(4095, { st := .orphan, gen := 4 })] } }, 4095, by decide⟩

theorem wit_KeyCommands_7 : ∃ (h : CmdHdr) (s : State) (k c a l : Nat), ready { op := 0x2206, plen := 4, who := .any, mirrored := true, xbIn := true } h s ∧ k < 4096 ∧ c ≤ 1 ∧ a ≤ 8 ∧ l ≤ 8192 ∧ s.keyOwned h.fn k = true ∧ (((s.key k).alg = 0x10 ∨ (s.key k).alg = 0x12)) ∧ (s.key k).may 7 = true :=
  ⟨hx 4, { base with keys := { base.keys with slots := [(4095, { st := .valid, alg := 0x12, usage := 128 })] } }, 4095, 1, 8, 8192, by decide⟩

theorem wit_KeyCommands_8 : ∃ (h : CmdHdr) (s : State) (k : Nat), ready { op := 0x2241, plen := 2, who := .any } h s ∧ k < 4096 ∧ ((h.fn = 0 ∨ k ≤ 2 ∨ s.keyOwned h.fn k = true)) :=
  ⟨hd 2, base, 4095, by decide⟩

theorem wit_KeyCommands_9 : ∃ (h : CmdHdr) (s : State), ready { op := 0x2242, who := .any, xbOut := true } h s :=
  ⟨hx 0, base, by decide⟩

theorem wit_KeyCommands_10 : ∃ (h : CmdHdr) (s : State) (l : Nat), ready { op := 0x2243, plen := 2, who := .any, xbOut := true } h s ∧ 1 ≤ l ∧ l ≤ 256 ∧ s.lkError = false ∧ l ≤ h.xlen :=
  ⟨hx 2, base, 256, by decide⟩

theorem wit_KeyCommands_11 : ∃ (h : CmdHdr) (s : State), ready { op := 0x2244, who := .any, xbOut := true } h s ∧ 512 ≤ h.xlen :=
  ⟨hx 0, base, by decide⟩

theorem wit_KeyEvents_1 : ∃ (s : State) (n : Nat), s.alive = true :=
  ⟨base, 1, by decide⟩

theorem wit_KeyEvents_2 : ∃ (s : State) (n : Nat), s.alive = true ∧ n < 2 ∧ n ∉ s.keys.pkOut :=
  ⟨base, 1, by decide⟩

theorem wit_KeyEvents_3 : ∃ (s : State), s.alive = true ∧ s.keys.entropyOut = false :=
  ⟨base, by decide⟩

theorem wit_KeyEvents_4 : ∃ (s : State), s.alive = true ∧ s.keys.entropyOut = false :=
  ⟨base, by decide⟩

theorem wit_KeyEvents_5 : ∃ (s : State), s.alive = true ∧ s.keys.entropyOut = false ∧ 2 ≤ s.keys.entropyFails :=
  ⟨{ base with keys := { base.keys with entropyFails := 2 } }, by decide⟩

theorem wit_KeyEvents_6 : ∃ (s : State) (n : Nat), s.alive = true ∧ n < 6 ∧ s.keys.entropyUp = true ∧ s.keys.entropyOut = false ∧ (s.keys.drbgs.look {} n).error = false :=
  ⟨{ base with keys := { base.keys with entropyUp := true, drbgs := [(5, { requests := 77 })] } }, 5, by decide⟩

theorem wit_KeyEvents_7 : ∃ (s : State) (n : Nat), s.alive = true ∧ (s.keys.drbgs.look {} n).error = true :=
  ⟨{ base with keys := { base.keys with entropyUp := true, drbgs := [(5, { requests := 77, error := true })] } }, 5, by decide⟩

theorem wit_KeyEvents_8 : ∃ (s : State) (n : Nat), s.alive = true ∧ n < 6 ∧ s.keys.entropyUp = false :=
  ⟨base, 5, by decide⟩

theorem wit_KeyEvents_9 : ∃ (s : State) (k : Nat), s.alive = true ∧ (s.key k).st = .valid ∧ (s.key k).expiry ≠ 0 ∧ (s.key k).expiry < s.sec % 2 ^ 32 :=
  ⟨{ base with keys := { base.keys with slots := [(4095, { st := .valid, expiry := 999 })] } }, 4095, by decide⟩

theorem wit_KeyEvents_10 : ∃ (s : State) (k : Nat), s.alive = true ∧ s.sec % 2 ^ 32 ≤ (s.key k).expiry :=
  ⟨{ base with keys := { base.keys with slots := [(4095, { st := .valid, expiry := 1000 })] } }, 4095, by decide⟩

theorem wit_KeyEvents_11 : ∃ (s : State) (k : Nat), s.alive = true :=
  ⟨base, 4095, by decide⟩

theorem wit_KeyEvents_12 : ∃ (s : State) (k : Nat), s.alive = true ∧ k < 4096 ∧ (s.key k).st ≠ .free ∧ (s.key k).st ≠ .invalid ∧ s.childrenOf k = [] :=
  ⟨{ base with sta := { base.sta with cached := [4095] }, keys := { base.keys with slots := [(4095, { st := .expired, expiry := 999 })] } }, 4095, by decide⟩

theorem wit_KeyEvents_13 : ∃ (s : State) (b : Nat), s.alive = true ∧ b < 64 ∧ (s.seal b).next ≤ s.upNs / 1000000000 ∧ s.lkError = false ∧ (s.key (64 + b)).st = .valid :=
  ⟨{ base with keys := { base.keys with slots := [(127, { st := .valid })] }, tse := { base.tse with seals := [(63, { gen := 4294967295, next := 1000 })] } }, 63, by decide⟩

theorem wit_KeyEvents_14 : ∃ (s : State) (b : Nat), s.alive = true ∧ s.upNs / 1000000000 < (s.seal b).next :=
  ⟨{ base with tse := { base.tse with seals := [(63, { gen := 4294967295, next := 1001 })] } }, 63, by decide⟩

theorem wit_KeyEstablishmentEvents_1 : ∃ (s : State) (p g : Nat) (e : TseIn) (q : TcpSeg), s.alive = true ∧ PathFree s ∧ g < 4 ∧ s.tse.inputs = [(g, [e])] ∧ e.port = p ∧ isKe e.f = true ∧ s.clasp.st ≠ .standby ∧ q.kind = .opens ∧ s.keys.conns = [] ∧ (s.keys.tls.look none e.bezel).isSome = true :=
  ⟨{ base with keys := { base.keys with tls := [(0, some {})] }, tse := { base.tse with inputs := [(3, [{ port := 255, f := { family := 4, proto := 6, dport := 4460 } }])] } }, 255, 3, { port := 255, f := { family := 4, proto := 6, dport := 4460 } }, { client := 8, addr := 9, kind := .opens }, by decide⟩

theorem wit_KeyEstablishmentEvents_2 : ∃ (s : State) (p g : Nat) (e : TseIn) (q : TcpSeg), s.alive = true ∧ PathFree s ∧ g < 4 ∧ s.tse.inputs = [(g, [e])] ∧ e.port = p ∧ isKe e.f = true ∧ s.clasp.st ≠ .standby ∧ q.kind = .opens ∧ s.keys.conns = [] ∧ s.keys.tls.look none e.bezel = none ∧ (s.loupe.banks.look {} (256 + e.bezel)).mode = 0 :=
  ⟨{ base with tse := { base.tse with inputs := [(3, [{ port := 255, f := { family := 4, proto := 6, dport := 4460 } }])] } }, 255, 3, { port := 255, f := { family := 4, proto := 6, dport := 4460 } }, { client := 8, addr := 9, kind := .opens }, by decide⟩

theorem wit_KeyEstablishmentEvents_3 : ∃ (s : State) (p g n : Nat) (e : TseIn) (q : TcpSeg) (c : KeConn), s.alive = true ∧ g < 4 ∧ s.tse.inputs = [(g, [e])] ∧ e.port = p ∧ isKe e.f = true ∧ s.clasp.st ≠ .standby ∧ q.kind = .hello ∧ s.keys.conns = [(n, some c)] ∧ c.phase = .open_ ∧ c.client = q.client ∧ c.sport = q.sport ∧ c.addr = q.addr :=
  ⟨{ base with keys := { base.keys with conns := [(4095, some { port := 255, client := 8, addr := 9 })] }, tse := { base.tse with inputs := [(3, [{ port := 255, f := { family := 4, proto := 6, dport := 4460 } }])] } }, 255, 3, 4095, { port := 255, f := { family := 4, proto := 6, dport := 4460 } }, { client := 8, addr := 9, kind := .hello }, { port := 255, client := 8, addr := 9 }, by decide⟩

theorem wit_KeyEstablishmentEvents_4 : ∃ (s : State) (n : Nat) (c : KeConn), s.alive = true ∧ PathFree s ∧ s.keys.conns = [(n, some c)] ∧ c.phase = .handshake ∧ s.tlsDown c.bezel = false ∧ (s.loupe.banks.look {} (256 + c.bezel)).mode = 0 :=
  ⟨{ base with keys := { base.keys with slots := [(4095, { st := .valid })], tls := [(0, some { signSlot := 4095 })], conns := [(4095, some { port := 255, client := 8, phase := .handshake })] } }, 4095, { port := 255, client := 8, phase := .handshake }, by decide⟩

theorem wit_KeyEstablishmentEvents_5 : ∃ (s : State) (n : Nat) (c : KeConn), s.alive = true ∧ PathFree s ∧ s.keys.conns = [(n, some c)] ∧ (s.loupe.banks.look {} (256 + c.bezel)).mode = 0 :=
  ⟨{ base with keys := { base.keys with conns := [(4095, some { port := 255, client := 8, phase := .established })] } }, 4095, { port := 255, client := 8, phase := .established }, by decide⟩

theorem wit_KeyEstablishmentEvents_6 : ∃ (s : State) (n : Nat) (c : KeConn) (r : KeReq), s.alive = true ∧ PathFree s ∧ s.keys.conns = [(n, some c)] ∧ c.phase = .established ∧ r.unknownCritical = true :=
  ⟨{ base with keys := { base.keys with conns := [(4095, some { port := 255, client := 8, phase := .established })] } }, 4095, { port := 255, client := 8, phase := .established }, { unknownCritical := true }, by decide⟩

theorem wit_KeyEstablishmentEvents_7 : ∃ (s : State) (n : Nat) (c : KeConn), s.alive = true ∧ PathFree s ∧ s.keys.conns = [(n, some c)] ∧ c.phase = .handshake :=
  ⟨{ base with keys := { base.keys with conns := [(4095, some { port := 255, client := 8, phase := .handshake })] } }, 4095, { port := 255, client := 8, phase := .handshake }, by decide⟩

theorem wit_KeyEstablishmentEvents_8 : ∃ (s : State) (n : Nat) (c : KeConn), s.alive = true ∧ PathFree s ∧ s.keys.conns = [(n, some c)] ∧ c.phase = .established :=
  ⟨{ base with keys := { base.keys with conns := [(4095, some { port := 255, client := 8, phase := .established })] } }, 4095, { port := 255, client := 8, phase := .established }, by decide⟩

theorem wit_KeyEstablishmentEvents_9 : ∃ (s : State) (n : Nat), s.alive = true ∧ n < 16 ∧ (s.nrefIn n).cfg.auth = 2 ∧ (s.nrefIn n).cfg.enable ≠ 0 ∧ s.lkError = false ∧ s.keys.pkOut.length < 2 :=
  ⟨{ base with ref := { base.ref with nref := [(15, { cfg := { nref := 15, enable := 1, auth := 2 } })] } }, 15, by decide⟩

theorem wit_KeyEstablishmentEvents_10 : ∃ (s : State) (n : Nat), s.alive = true :=
  ⟨base, 15, by decide⟩

theorem wit_SignetArbitration_1 : ∃ (h : CmdHdr) (s : State) (b n : Nat), ready { op := 0x2501, plen := 8, mirrored := true } h s ∧ b < 64 ∧ s.bezelServes b = true ∧ s.entriesUsed b + entriesFor n ≤ 506 :=
  ⟨hd 8, base, 0, 370605468, by decide⟩

theorem wit_SignetArbitration_2 : ∃ (h : CmdHdr) (s : State) (b w : Nat), ready { op := 0x2502, plen := 2, mirrored := true } h s ∧ b < 64 ∧ s.bezelServes b = true ∧ w < 256 :=
  ⟨hd 2, base, 0, 255, by decide⟩

theorem wit_SignetArbitration_3 : ∃ (h : CmdHdr) (s : State), ready { op := 0x2503, mirrored := true, action := true } h s ∧ s.sta.commit = false :=
  ⟨hd 0, base, by decide⟩

theorem wit_SignetArbitration_4 : ∃ (h : CmdHdr) (s : State), ready { op := 0x2541, xbOut := true } h s ∧ 2048 ≤ h.xlen :=
  ⟨hx 0, base, by decide⟩

theorem wit_SignetArbitration_5 : ∃ (s : State) (n : Nat), s.alive = true ∧ n ≤ 512 ∧ s.sta.pointer < 512 :=
  ⟨{ base with sta := { base.sta with pointer := 511, commit := true } }, 512, by decide⟩

theorem wit_SignetArbitration_6 : ∃ (s : State), s.alive = true ∧ s.sta.commit = false ∧ s.sta.active.at s.sta.pointer ≠ 127 ∧ s.reqFrozen (s.sta.active.at s.sta.pointer) = false ∧ s.creditOf (s.sta.active.at s.sta.pointer) < 64 :=
  ⟨{ base with sta := { base.sta with pointer := 256, credit := [(64, 63)] } }, by decide⟩

theorem wit_SignetArbitration_7 : ∃ (s : State), s.alive = true ∧ s.sta.commit = true ∧ s.sta.pointer = 0 :=
  ⟨{ base with sta := { base.sta with commit := true, shadow := { weight := [(0, 4)] } } }, by decide⟩

theorem wit_SignetArbitration_8 : ∃ (s : State), s.alive = true ∧ s.sta.pointer ≠ 0 :=
  ⟨{ base with sta := { base.sta with commit := true, pointer := 511 } }, by decide⟩

theorem wit_SignetArbitration_9 : ∃ (s : State) (n : Nat) (j : SigJob), s.alive = true ∧ n < 16 ∧ (s.eng16 n).inService = true ∧ (s.eng16 n).job = none ∧ s.sta.jobs = [j] ∧ s.sta.reissue = [] ∧ j.green = true ∧ 1 ≤ s.creditOf j.req ∧ j.req < 64 ∧ s.reqFrozen j.req = false ∧ j.slot = sealedKey :=
  ⟨{ base with sta := { base.sta with credit := [(63, 1)], jobs := [{ req := 63, beats := 300, slot := 4096 }] } }, 15, { req := 63, beats := 300, slot := 4096 }, by decide⟩

theorem wit_SignetArbitration_10 : ∃ (s : State) (n : Nat), s.alive = true ∧ s.sta.jobs = [] ∧ s.sta.reissue = [] :=
  ⟨base, 15, by decide⟩

theorem wit_SignetArbitration_11 : ∃ (s : State) (n : Nat) (j : SigJob), s.alive = true ∧ (s.eng16 n).job = some j ∧ j.work = none :=
  ⟨{ base with sta := { base.sta with engines := [(15, { job := some { req := 63 } })] } }, 15, { req := 63 }, by decide⟩

theorem wit_SignetArbitration_12 : ∃ (s : State) (n : Nat) (j : SigJob), s.alive = true ∧ (s.eng16 n).job = some j ∧ j.again = false :=
  ⟨{ base with sta := { base.sta with engines := [(15, { job := some { req := 63 } })] } }, 15, { req := 63 }, by decide⟩

theorem wit_SignetArbitration_13 : ∃ (s : State) (n : Nat), s.alive = true :=
  ⟨base, 15, by decide⟩

theorem wit_SignetArbitration_14 : ∃ (s : State) (n : Nat), s.alive = true ∧ n < 16 ∧ (s.eng16 n).inService = true ∧ (s.eng16 n).job = none ∧ s.enginesUp < 16 :=
  ⟨{ base with sta := { base.sta with engines := [(4, { inService := false })] } }, 15, by decide⟩

theorem wit_TrafficManagerCommands_1 : ∃ (h : CmdHdr) (s : State) (i k l n a : Nat), ready { op := 0x2401, plen := 24, who := .any, mirrored := true } h s ∧ i < s.quota 2 h.fn ∧ 1 ≤ k ∧ k ≤ 3 ∧ ((k = 3 ∨ l ≤ (if k = 1 then 32 else 128))) ∧ s.ownsSub h.fn n = true :=
  ⟨hd 24, { base with bez := { base.bez with rows := [(0, { base.bezel 0 with subCount := 65536 })] }, tm := { base.tm with rules := [{ index := 9 }, { index := 8 }] } }, 9, 2, 128, 65535, 4, by decide⟩

theorem wit_TrafficManagerCommands_2 : ∃ (h : CmdHdr) (s : State) (i l n a : Nat), ready { op := 0x2401, plen := 24, who := .any, mirrored := true } h s ∧ i < s.quota 2 h.fn :=
  ⟨hd 24, { base with tm := { base.tm with rules := [{ index := 9 }, { index := 8 }] } }, 9, 0, 0, 0, by decide⟩

theorem wit_TrafficManagerCommands_3 : ∃ (h : CmdHdr) (s : State) (a : MeterArgs), ready { op := 0x2402, plen := 32, who := .any, mirrored := true } h s ∧ a.mode ≤ 2 ∧ a.unit ≤ 1 ∧ meterOk a = true ∧ (((a.kind = 1 ∧ a.index < 65536 ∧ s.ownsSub h.fn a.index = true) ∨ (a.kind = 2 ∧ a.index < 2048 ∧ s.portOwner (a.index / 8) = h.fn))) :=
  ⟨hd 32, { base with bez := { base.bez with rows := [(0, { base.bezel 0 with subCount := 65536 })] } }, { kind := 1, mode := 1, unit := 1, index := 65535, cir := 2 ^ 40 - 1, cbs := 1, ebs := 2 ^ 32 - 1 }, by decide⟩

theorem wit_TrafficManagerCommands_4 : ∃ (h : CmdHdr) (s : State) (a : MeterArgs), ready { op := 0x2402, plen := 32, mirrored := true } h s ∧ a.mode ≤ 2 ∧ a.unit ≤ 1 ∧ meterOk a = true ∧ a.kind = 0 ∧ a.index < 64 ∧ s.bezelServes a.index = true :=
  ⟨hd 32, base, { kind := 0, mode := 2, unit := 1, index := 0, cir := 1, pir := 1, cbs := 1, ebs := 1 }, by decide⟩

theorem wit_TrafficManagerCommands_5 : ∃ (h : CmdHdr) (s : State) (b r c : Nat), ready { op := 0x2403, plen := 12, mirrored := true } h s ∧ b < 64 ∧ s.bezelServes b = true ∧ r ≤ 49152 ∧ r % 64 = 0 ∧ c ≤ 16384 ∧ (((s.tm.bezels.map fun p => if p.1 = b then 0 else p.2.reserve).sum + r ≤ 49152 ∨ r ≤ (s.tmBez b).reserve)) :=
  ⟨hd 12, base, 0, 49152, 16384, by decide⟩

theorem wit_TrafficManagerCommands_6 : ∃ (h : CmdHdr) (s : State) (p c l y : Nat), ready { op := 0x2404, plen := 12, who := .any, mirrored := true } h s ∧ p < 256 ∧ c ≤ 7 ∧ 16 ≤ l ∧ l ≤ 16384 ∧ y ≤ l ∧ s.portOwner p = h.fn :=
  ⟨hd 12, base, 255, 7, 16384, 16384, by decide⟩

theorem wit_TrafficManagerCommands_7 : ∃ (h : CmdHdr) (s : State) (k i r g : Nat) (l : Int), ready { op := 0x2405, plen := 24, who := .any, mirrored := true } h s ∧ 1000 ≤ r ∧ r ≤ s.shaperLine k i ∧ g ≤ 16777216 ∧ -16777216 ≤ l ∧ l ≤ 0 ∧ (((k = 0 ∧ i < 65536 ∧ s.ownsSub h.fn i = true) ∨ (k = 1 ∧ i < 2048 ∧ s.portOwner (i / 8) = h.fn) ∨ (k = 2 ∧ i < 256 ∧ s.portOwner i = h.fn))) :=
  ⟨hd 24, { base with ports := { base.ports with ports := [(255, { mode := .g25 })] }, tm := { base.tm with portShapers := [(255, { credit := 5 })] } }, 2, 255, 3125000000, 16777216, -16777216, by decide⟩

theorem wit_TrafficManagerCommands_8 : ∃ (h : CmdHdr) (s : State) (p c w : Nat), ready { op := 0x2406, plen := 12, who := .any, mirrored := true } h s ∧ p < 256 ∧ 1 ≤ c ∧ c ≤ 1000000 ∧ 1 ≤ w ∧ w ≤ 65536 ∧ s.portOwner p = h.fn :=
  ⟨hd 12, base, 255, 1000000, 65536, by decide⟩

theorem wit_TrafficManagerCommands_9 : ∃ (h : CmdHdr) (s : State) (k i : Nat), ready { op := 0x2441, plen := 8, who := .any, xbOut := true } h s ∧ k ≤ 1 ∧ i < (if k = 0 then 2048 else 65536) ∧ ((h.fn = 0 ∨ (k = 0 ∧ s.portOwner (i / 8) = h.fn) ∨ (k = 1 ∧ s.ownsSub h.fn i = true))) ∧ 256 ≤ h.xlen :=
  ⟨hx 8, base, 1, 65535, by decide⟩

theorem wit_TrafficManagerCommands_10 : ∃ (h : CmdHdr) (s : State), ready { op := 0x2442, who := .any, xbOut := true } h s ∧ ((s.books h.fn).all fun r => r.off = 0) = true ∧ Rec.bytes ((s.books h.fn).flatMap BookRow.rec_) ≤ h.xlen :=
  ⟨hx 0, base, by decide +kernel⟩

theorem wit_TrafficManagerCommands_11 : ∃ (s : State) (p c : Nat), s.alive = true ∧ p < 256 ∧ c < 8 :=
  ⟨{ base with tm := { base.tm with queues := [(2047, { flows := [{ frames := [{}, { len := 300 }] }] })] } }, 255, 7, by decide⟩

theorem wit_BezelCommands_1 : ∃ (h : CmdHdr) (s : State) (b x n : Nat), ready { op := 0x2301, plen := 12, mirrored := true } h s ∧ 1 ≤ b ∧ b < 64 ∧ subRangeOk x n = true ∧ (s.key 2).st = .valid ∧ (s.bezel b).present = false ∧ s.subOverlap b x n = false ∧ s.quotaBad 1 b 32 = false ∧ s.quotaBad 2 b 256 = false ∧ s.sta.reserve.look 0 b = 0 :=
  ⟨hd 12, { base with keys := { base.keys with slots := [(2, { st := .valid })] }, loupe := { base.loupe with ctr := [(10208, 5)] } }, 63, 65280, 256, by decide⟩

theorem wit_BezelCommands_2 : ∃ (h : CmdHdr) (s : State) (b : Nat), ready { op := 0x2302, plen := 1, mirrored := true, action := true } h s ∧ 1 ≤ b ∧ b < 64 ∧ s.bezelServes b = true ∧ (s.fn b).frozen = false ∧ s.ports.rings = [] ∧ s.tse.grants = [] ∧ s.tse.works = [] ∧ s.tse.inputs = [] ∧ s.keys.conns = [] ∧ s.bez.portOwner = [] ∧ s.sta.jobs = [] :=
  ⟨hd 1, { base with bez := { base.bez with rows := [(0, base.bezel 0), (63, { present := true })] }, keys := { base.keys with slots := [(127, { st := .valid, owner := 63 }), (4000, { st := .valid, owner := 63, parent := 127 })] }, tm := { base.tm with rules := [{ bezel := 63 }, {}] } }, 63, by decide⟩

theorem wit_BezelCommands_3 : ∃ (h : CmdHdr) (s : State) (p b : Nat), ready { op := 0x2303, plen := 3, mirrored := true } h s ∧ p < 256 ∧ s.bezelServes b = true ∧ ((s.portOwner p = 0 ∨ b = 0)) ∧ s.portOwner p ≠ b ∧ (s.port p).st = .disabled ∧ (s.ports.rings.any fun q => q.2.port = p) = false ∧ s.nrefUses p = false ∧ s.vtapUses p = false ∧ s.portInPrp p = false ∧ s.laTxUses p = false :=
  ⟨hd 3, { base with bez := { base.bez with rows := [(0, base.bezel 0), (63, { present := true })] }, ports := { base.ports with ports := [(255, { addrs := [(0, {})] })] } }, 255, 63, by decide⟩

theorem wit_BezelCommands_4 : ∃ (h : CmdHdr) (s : State) (b g k r x n : Nat), ready { op := 0x2304, plen := 20, mirrored := true } h s ∧ b ≠ 0 ∧ s.bezelServes b = true ∧ subRangeOk x n = true ∧ s.subOverlap b x n = false ∧ s.subsOutside b x n = false ∧ s.quotaBad 0 b g = false ∧ s.quotaBad 1 b k = false ∧ s.quotaBad 2 b r = false :=
  ⟨hd 20, { base with bez := { base.bez with rows := [(0, base.bezel 0), (63, { present := true })] } }, 63, 1048576, 3776, 16384, 65280, 256, by decide⟩

theorem wit_BezelCommands_5 : ∃ (h : CmdHdr) (s : State) (b i x n : Nat), ready { op := 0x2305, plen := 24 } h s ∧ s.bezelServes b = true ∧ i < 16 ∧ windowOk x n = true ∧ n ≠ 0 ∧ ((b = 0 → (s.bezel 0).windows.isEmpty = false)) :=
  ⟨hd 24, { base with bez := { base.bez with rows := [(0, base.bezel 0), (63, { present := true })] } }, 63, 15, 4096, 2 ^ 40, by decide⟩

theorem wit_BezelCommands_6 : ∃ (h : CmdHdr) (s : State) (b f : Nat), ready { op := 0x2306, plen := 2, mirrored := true } h s ∧ s.bezelServes b = true ∧ f ≤ 1 ∧ ((f = 0 → ((List.range 256).any fun p => s.portOwner p = b && (s.port p).eee) = false)) :=
  ⟨hd 2, { base with bez := { base.bez with rows := [(0, base.bezel 0), (63, { present := true })] } }, 63, 1, by decide⟩

theorem wit_BezelCommands_7 : ∃ (h : CmdHdr) (s : State) (b i : Nat), ready { op := 0x2307, plen := 4, action := true } h s ∧ 1 ≤ b ∧ s.bezelServes b = true ∧ (3 * 65536 + i) ∈ (s.bezel b).frozen ∧ (s.tse.works.any fun w => w.service = i && w.bezel = b) = false :=
  ⟨hd 4, { base with bez := { base.bez with rows := [(0, base.bezel 0), (63, { present := true, frozen := [196613, 196614] })] } }, 63, 5, by decide⟩

theorem wit_BezelCommands_8 : ∃ (h : CmdHdr) (s : State) (b i : Nat), ready { op := 0x2307, plen := 4, action := true } h s ∧ 1 ≤ b ∧ s.bezelServes b = true ∧ (s.fn b).frozen = true ∧ s.ports.rings = [] ∧ s.sta.jobs = [] :=
  ⟨hd 4, { base with bez := { base.bez with rows := [(0, base.bezel 0), (63, { present := true })] }, mbx := { base.mbx with fns := [(0, fnOne), (63, { frozen := true, cplEn := true, queues := [(0, { en := true })] })] } }, 63, 0, by decide⟩

theorem wit_BezelCommands_9 : ∃ (h : CmdHdr) (s : State) (b : Nat), ready { op := 0x2341, plen := 1, who := .any, xbOut := true } h s ∧ b < 64 ∧ ((h.fn = 0 ∨ h.fn = b)) ∧ (s.bezel b).present = true ∧ 512 ≤ h.xlen :=
  ⟨hx 1, base, 0, by decide⟩

theorem wit_BezelCommands_10 : ∃ (h : CmdHdr) (s : State) (b i : Nat) (w : Work), ready { op := 0x2307, plen := 4, action := true } h s ∧ 1 ≤ b ∧ s.bezelServes b = true ∧ (3 * 65536 + i) ∈ (s.bezel b).frozen ∧ s.tse.works = [w] ∧ w.service = i ∧ w.bezel = b :=
  ⟨hd 4, { base with bez := { base.bez with rows := [(0, base.bezel 0), (63, { present := true, frozen := [196613, 196614] })] }, tse := { base.tse with works := [{ id := 9, service := 5, bezel := 63, len := 90 }] } }, 63, 5, { id := 9, service := 5, bezel := 63, len := 90 }, by decide⟩

theorem wit_FunctionResets_1 : ∃ (s : State) (b : Nat), s.alive = true ∧ s.fnEnabled b = true :=
  ⟨{ base with mbx := { base.mbx with vfEnable := true, numVfs := 63, fns := [(0, fnOne), (63, { frozen := true, cplEn := true, evtEn := true, queues := [(3, { en := true, txn := some {} })], sems := [(4, { st := .held })], vecs := [(63, { mask := false, addr := 8 })] })] }, ports := { base.ports with rings := [(4, { owner := 63 })] }, fil := { base.fil with streams := [{ bezel := 63, cfg := { ch := 3 } }] } }, 63, by decide⟩

theorem wit_FunctionResets_2 : ∃ (s : State) (b : Nat), s.alive = true ∧ s.fnEnabled b = false :=
  ⟨base, 1, by decide⟩

theorem wit_FunctionResets_3 : ∃ (s : State), s.alive = true :=
  ⟨{ base with mbx := { base.mbx with vfEnable := true, numVfs := 63, fns := [(0, { fnOne with frozen := true }), (63, { frozen := true, cplEn := true })] } }, by decide⟩

theorem wit_MailboxWrites_1 : ∃ (s : State) (b q w : Nat), s.alive = true ∧ s.fnEnabled b = true ∧ q < 4 ∧ s.mbx.ready = true ∧ ((s.fn b).q q).en = true ∧ w < 65536 ∧ (((s.fn b).q q).tail + 65536 - ((s.fn b).q q).done) % 65536 ≤ (w + 65536 - ((s.fn b).q q).done) % 65536 ∧ (w + 65536 - ((s.fn b).q q).done) % 65536 ≤ 256 :=
  ⟨{ base with mbx := { base.mbx with fns := [(0, { queues := [(3, { en := true, tail := 2, done := 65535 })] })] } }, 0, 3, 255, by decide⟩

theorem wit_MailboxWrites_2 : ∃ (s : State) (b q w : Nat), s.alive = true ∧ s.fnEnabled b = true ∧ q < 4 ∧ s.mbx.ready = true ∧ ((s.fn b).q q).en = true ∧ w < 65536 ∧ 256 < (w + 65536 - ((s.fn b).q q).done) % 65536 :=
  ⟨{ base with mbx := { base.mbx with fns := [(0, { queues := [(3, { en := true, tail := 2, done := 65535 })] })] } }, 0, 3, 256, by decide⟩

theorem wit_MailboxWrites_3 : ∃ (s : State) (b q w : Nat), s.alive = true ∧ s.fnEnabled b = true ∧ q < 4 ∧ ((s.fn b).q q).en = false :=
  ⟨base, 0, 3, 256, by decide⟩

theorem wit_MailboxWrites_4 : ∃ (s : State) (b w : Nat), s.alive = true ∧ s.fnEnabled b = true ∧ (s.fn b).cplEn = true ∧ w < 65536 ∧ (w + 65536 - (s.fn b).cplHead) % 65536 ≤ ((s.fn b).cplPut + 65536 - (s.fn b).cplHead) % 65536 :=
  ⟨{ base with mbx := { base.mbx with fns := [(0, { cplEn := true, cplHead := 65535, cplPut := 2, cplQ := [{ tag := 1 }, { tag := 2 }, { tag := 3 }] })] } }, 0, 2, by decide⟩

theorem wit_MailboxWrites_5 : ∃ (s : State) (b w : Nat), s.alive = true ∧ s.fnEnabled b = true ∧ (s.fn b).evtEn = true ∧ w < 65536 ∧ (w + 65536 - (s.fn b).evtHead) % 65536 ≤ ((s.fn b).evtPut + 65536 - (s.fn b).evtHead) % 65536 :=
  ⟨{ base with mbx := { base.mbx with fns := [(0, { evtEn := true, evtHead := 65535, evtPut := 2, evtQ := [{}, {}, {}] })] } }, 0, 1, by decide⟩

theorem wit_MailboxWrites_6 : ∃ (s : State) (b q : Nat), s.alive = true ∧ s.fnEnabled b = true ∧ q < 4 ∧ ((s.fn b).q q).en = false ∧ queuePlaceOk s b ((s.fn b).q q).base 16384 = true :=
  ⟨{ base with mbx := { base.mbx with fns := [(0, { queues := [(3, { base := 4096, tail := 9, inflight := [{ entry := { opcode := 1, hdr := hd 0 } }] })] })] } }, 0, 3, by decide⟩

theorem wit_MailboxWrites_7 : ∃ (s : State) (b q : Nat), s.alive = true ∧ s.fnEnabled b = true ∧ q < 4 ∧ ((s.fn b).q q).en = false ∧ queuePlaceOk s b ((s.fn b).q q).base 16384 = false :=
  ⟨{ base with mbx := { base.mbx with fns := [(0, { queues := [(3, { base := 4097 })] })] } }, 0, 3, by decide⟩

theorem wit_MailboxWrites_8 : ∃ (s : State) (b q : Nat), s.alive = true ∧ s.fnEnabled b = true ∧ ((s.fn b).q q).en = true ∧ ((s.fn b).q q).txn = none :=
  ⟨{ base with mbx := { base.mbx with fns := [(0, { queues := [(3, { en := true })], sems := [(5, { st := .held, owner := 3 }), (6, { st := .held })] })] } }, 0, 3, by decide⟩

theorem wit_MailboxWrites_9 : ∃ (s : State) (b : Nat), s.alive = true ∧ s.fnEnabled b = true ∧ (s.fn b).cplEn = false ∧ queuePlaceOk s b (s.fn b).cplBase 65536 = true :=
  ⟨{ base with mbx := { base.mbx with fns := [(0, { cplPut := 4, cplBase := 8192 })] } }, 0, by decide⟩

theorem wit_MailboxWrites_10 : ∃ (s : State) (b : Nat), s.alive = true ∧ s.fnEnabled b = true ∧ (s.fn b).cplEn = true :=
  ⟨base, 0, by decide⟩

theorem wit_MailboxWrites_11 : ∃ (s : State) (b : Nat), s.alive = true ∧ s.fnEnabled b = true ∧ (s.fn b).evtEn = false ∧ 6 ≤ (s.fn b).evtSize ∧ (s.fn b).evtSize ≤ 12 ∧ queuePlaceOk s b (s.fn b).evtBase (64 * 2 ^ (s.fn b).evtSize) = true :=
  ⟨{ base with mbx := { base.mbx with fns := [(0, { evtSize := 12 })] } }, 0, by decide⟩

theorem wit_MailboxWrites_12 : ∃ (s : State) (b : Nat), s.alive = true ∧ s.fnEnabled b = true :=
  ⟨base, 0, by decide⟩

theorem wit_MailboxWrites_13 : ∃ (s : State) (b v : Nat) (w : Bool), s.alive = true ∧ s.fnEnabled b = true ∧ v < 64 :=
  ⟨base, 0, 63, true, by decide⟩

theorem wit_MailboxWrites_14 : ∃ (s : State) (b v : Nat), s.alive = true ∧ s.fnEnabled b = true ∧ v < 64 ∧ ((s.fn b).vecs.look {} v).mask = true ∧ ((s.fn b).vecs.look {} v).pend = true :=
  ⟨{ base with mbx := { base.mbx with fns := [(0, { vecs := [(63, { pend := true, hold := 4 })] })] } }, 0, 63, by decide⟩

theorem wit_MailboxWrites_15 : ∃ (s : State) (b r o n v : Nat) (l : List TxDesc), s.alive = true ∧ s.fnEnabled b = true ∧ ((r ≠ 0 ∨ (n = 4 ∧ o % 4 ≠ 0) ∨ (n = 8 ∧ o % 8 ≠ 0) ∨ (n ≠ 4 ∧ n ≠ 8))) :=
  ⟨base, 0, 0, 6, 8, 5, [], by decide⟩

theorem wit_MailboxWrites_16 : ∃ (s : State) (b q v : Nat) (l : List TxDesc), s.alive = true ∧ s.fnEnabled b = true ∧ q < 4 :=
  ⟨base, 0, 0, 65537, [], by decide⟩

theorem wit_MailboxWrites_17 : ∃ (s : State) (b q v : Nat) (l : List TxDesc), s.alive = true ∧ s.fnEnabled b = true ∧ q < 4 ∧ ((s.fn b).q q).en = false :=
  ⟨base, 0, 3, 2 ^ 64 + 8193, [], by decide⟩

theorem wit_MailboxWrites_18 : ∃ (s : State) (v : Nat) (l : List TxDesc), s.alive = true ∧ s.isSealed = true :=
  ⟨{ base with pwr := { base.pwr with fuses := 1 } }, 5, [], by decide⟩

theorem wit_MailboxWrites_19 : ∃ (s : State) (v : Nat) (l : List TxDesc), s.alive = true ∧ s.isSealed = false :=
  ⟨base, 65281, [], by decide⟩

theorem wit_MailboxWrites_20 : ∃ (s : State) (e : Bool) (n : Nat), s.alive = true :=
  ⟨base, true, 64, by decide⟩

theorem wit_MailboxWrites_21 : ∃ (s : State) (b o : Nat), (o < 0x30 ∨ 0x8000 ≤ o) :=
  ⟨base, 0, 0x20, by decide⟩

theorem wit_MailboxWrites_22 : ∃ (s : State) (b q v : Nat) (l : List TxDesc), s.alive = true ∧ s.fnEnabled b = true ∧ q < 4 ∧ ((s.fn b).q q).en = false :=
  ⟨base, 0, 3, 2 ^ 64 + 8193, [], by decide⟩

theorem wit_MailboxWrites_23 : ∃ (s : State) (b o n : Nat), s.alive = true ∧ s.mgmt.held = none ∧ ((o < 0x200 ∨ 0x208 ≤ o)) ∧ ((o < 0x400 ∨ 0x440 ≤ o)) :=
  ⟨base, 0, 0x208, 8, by decide⟩

theorem wit_MailboxEvents_1 : ∃ (s : State) (b q : Nat) (e : CmdEntry), s.alive = true ∧ e.hdr.fn = b ∧ e.hdr.queue = q ∧ canFetch b q s = true ∧ ((s.fn b).q q).inflight = [] ∧ entryBad e = false :=
  ⟨base, 0, 0, { opcode := 0x1041, hdr := hd 0 }, by decide⟩

theorem wit_MailboxEvents_2 : ∃ (s : State) (b q : Nat) (e : CmdEntry), s.alive = true ∧ e.hdr.fn = b ∧ e.hdr.queue = q ∧ canFetch b q s = true ∧ ((s.fn b).q q).inflight = [] ∧ entryBad e = true ∧ s.pwr.st = .run ∧ s.fault.fatal = false ∧ s.bezelServes b = true ∧ (s.fn b).frozen = false ∧ ((s.fn b).q q).txn = none ∧ issuerOk (attrOf e.opcode) e.hdr = true ∧ (((attrOf e.opcode).mirrored = true → s.clasp.st ≠ .standby)) :=
  ⟨base, 0, 0, { opcode := 0xFFFF, hdr := { hd 0 with tag := 7 } }, by decide⟩

theorem wit_MailboxEvents_3 : ∃ (s : State) (b q : Nat) (e : CmdEntry), s.alive = true ∧ canFetch b q s = false :=
  ⟨base, 0, 1, { opcode := 0xFFFF, hdr := { hd 0 with queue := 1 } }, by decide⟩

theorem wit_MailboxEvents_4 : ∃ (s : State) (b : Nat) (e : DueEvent) (l : List DueEvent), s.alive = true ∧ (s.fn b).due = e :: l ∧ (s.fn b).evtEn = true ∧ ((s.fn b).evtPut + 65536 - (s.fn b).evtHead) % 65536 < 2 ^ (s.fn b).evtSize :=
  ⟨{ base with mbx := { base.mbx with fns := [(0, { evtEn := true, evtPut := 63, lost := 5, eseq := 4294967295, due := [{ code := 7 }, {}] })] } }, 0, { code := 7 }, [{}], by decide⟩

theorem wit_MailboxEvents_5 : ∃ (s : State) (b : Nat) (e : DueEvent) (l : List DueEvent), s.alive = true ∧ (s.fn b).due = e :: l ∧ 2 ^ (s.fn b).evtSize ≤ ((s.fn b).evtPut + 65536 - (s.fn b).evtHead) % 65536 ∧ (s.loupe.banks.look {} (256 + b)).mode = 0 ∧ (s.loupe.armed.find? fun p => p.1 = (256 + b) * 32 + 30) = none :=
  ⟨{ base with mbx := { base.mbx with fns := [(0, { evtEn := true, evtPut := 64, lost := 4294967295, due := [{ code := 7 }, {}] })] } }, 0, { code := 7 }, [{}], by decide⟩

theorem wit_MailboxEvents_6 : ∃ (s : State) (b v : Nat), s.alive = true ∧ ((s.fn b).vecs.look {} v).holding = true ∧ ((s.fn b).vecs.look {} v).more = true ∧ ((s.fn b).vecs.look {} v).mask = false :=
  ⟨{ base with mbx := { base.mbx with fns := [(0, { vecs := [(63, { mask := false, holding := true, more := true, hold := 5 })] })] } }, 0, 63, by decide⟩

theorem wit_MailboxEvents_7 : ∃ (s : State) (b v : Nat), s.alive = true ∧ ((s.fn b).vecs.look {} v).holding = true ∧ ((s.fn b).vecs.look {} v).more = false :=
  ⟨{ base with mbx := { base.mbx with fns := [(0, { vecs := [(63, { mask := false, holding := true, hold := 5 })] })] } }, 0, 63, by decide⟩

theorem wit_MailboxEvents_8 : ∃ (s : State) (b a : Nat), s.alive = true ∧ s.fnEnabled b = true ∧ (s.fn b).frozen = false ∧ (s.loupe.banks.look {} (256 + b)).mode = 0 :=
  ⟨base, 0, 77, by decide⟩

theorem wit_MailboxEvents_9 : ∃ (s : State) (b q : Nat) (x : Txn), s.alive = true ∧ ((s.fn b).q q).txn = some x :=
  ⟨{ base with mbx := { base.mbx with fns := [(0, { queues := [(3, { en := true, txn := some { id := 9 } })] })] } }, 0, 3, { id := 9 }, by decide⟩

theorem wit_MailboxEvents_10 : ∃ (s : State) (b q : Nat) (e : CmdEntry), s.alive = true ∧ e.hdr.fn = b ∧ e.hdr.queue = q ∧ canFetch b q s = true ∧ ((s.fn b).q q).inflight = [] ∧ entryBad e = true ∧ s.bezelServes b = true ∧ (s.fn b).frozen = false ∧ issuerOk (attrOf e.opcode) e.hdr = false :=
  ⟨{ base with mbx := { base.mbx with vfEnable := true, numVfs := 63, fns := [(7, fnOne)] }, bez := { base.bez with rows := [(7, { present := true })] } }, 7, 0, { opcode := 0x1001, hdr := { hd 45 with fn := 7, tag := 5 } }, by decide⟩

theorem wit_ClaspCommands_1 : ∃ (h : CmdHdr) (s : State) (e d w : Nat) (ps : List Nat), ready { op := 0x3001, plen := 44 } h s ∧ e ≤ 1 ∧ d ≤ 100000 ∧ 1 ≤ w ∧ w ≤ 600 ∧ (ps.all fun p => decide (p < 256)) = true ∧ (ps.any fun p => s.portUsed .clasp p) = false :=
  ⟨hd 44, { base with clasp := { base.clasp with st := .active } }, 0, 100000, 600, [0, 255], by decide⟩

theorem wit_ClaspCommands_2 : ∃ (h : CmdHdr) (s : State) (p x : Nat), ready { op := 0x3002, plen := 8, mirrored := true } h s ∧ p ≤ 90 ∧ x ≤ 86399 :=
  ⟨hd 8, base, 90, 86399, by decide⟩

theorem wit_ClaspCommands_3 : ∃ (h : CmdHdr) (s : State) (l : Nat), ready { op := 0x3003, action := true } h s ∧ s.clasp.st = .active ∧ s.clasp.mirror = [] :=
  ⟨hd 0, { base with clasp := { base.clasp with st := .active, role := true, wires := true } }, 1, by decide⟩

theorem wit_ClaspCommands_4 : ∃ (h : CmdHdr) (s : State), ready { op := 0x3004, action := true } h s ∧ (s.clasp.st = .unpairedStandby ∨ s.clasp.st = .pairFault) :=
  ⟨hd 0, { base with clasp := { base.clasp with st := .pairFault, authed := true } }, by decide⟩

theorem wit_ClaspCommands_5 : ∃ (h : CmdHdr) (s : State), ready { op := 0x3041, xbOut := true } h s ∧ 104 ≤ h.xlen :=
  ⟨hx 0, { base with clasp := { base.clasp with st := .alone, claim := 61441 } }, by decide⟩

theorem wit_PairLanesAndTransfer_1 : ∃ (s : State) (l n j : Nat) (p : Option Nat) (g : Option (Nat × Nat × Nat)), s.alive = true :=
  ⟨base, 1, 3, 7, some 0, some (5, 6, 7), by decide⟩

theorem wit_PairLanesAndTransfer_2 : ∃ (s : State) (l g a b c : Nat), s.alive = true ∧ s.clasp.st = .transfer ∧ s.clasp.joined = false ∧ a < 2 ^ 48 ∧ b < 1000000000 ∧ c < 1048576 :=
  ⟨{ base with clasp := { base.clasp with st := .transfer } }, 1, 9, 281474976710655, 999999999, 1048575, by decide⟩

theorem wit_PairLanesAndTransfer_3 : ∃ (s : State) (l g : Nat) (j : Nat × Nat × Nat), s.alive = true ∧ (s.clasp.st ≠ .transfer ∨ s.clasp.joined = true) :=
  ⟨base, 0, 9, (5, 0, 0), by decide⟩

theorem wit_PairLanesAndTransfer_4 : ∃ (s : State) (l n : Nat), s.alive = true ∧ ((s.clasp.st = .active ∨ s.clasp.st = .standby)) ∧ (n = 0 ∨ n = 7) :=
  ⟨{ base with clasp := { base.clasp with st := .active, role := true, wires := true, authed := true } }, 0, 0, by decide⟩

theorem wit_PairLanesAndTransfer_5 : ∃ (s : State) (l : Nat), s.alive = true ∧ s.clasp.st = .alone ∧ s.clasp.authed = true :=
  ⟨{ base with clasp := { base.clasp with st := .alone, role := true, wires := true, authed := true } }, 1, by decide⟩

theorem wit_PairLanesAndTransfer_6 : ∃ (s : State) (l : Nat) (x : Bool), s.alive = true ∧ (if l = 0 then s.clasp.lane0 else s.clasp.lane1) = x :=
  ⟨{ base with clasp := { base.clasp with lane0 := true } }, 0, true, by decide⟩

theorem wit_PairLanesAndTransfer_7 : ∃ (s : State), s.alive = true ∧ ((s.clasp.st = .active ∨ s.clasp.st = .standby)) :=
  ⟨{ base with clasp := { base.clasp with st := .standby, authed := true, lane0 := true } }, by decide⟩

theorem wit_PairLanesAndTransfer_8 : ∃ (s : State), s.alive = true ∧ s.clasp.st = .transfer :=
  ⟨{ base with clasp := { base.clasp with st := .transfer } }, by decide⟩

theorem wit_PairLanesAndTransfer_9 : ∃ (s : State) (p : PartnerInfo), s.alive = true ∧ ((s.clasp.st = .seeking ∨ s.clasp.st = .alone)) ∧ p.pairId = s.pwr.pairId :=
  ⟨{ base with clasp := { base.clasp with st := .seeking } }, { pairId := false }, by decide⟩

theorem wit_PairLanesAndTransfer_10 : ∃ (s : State) (p : PartnerInfo), s.alive = true ∧ ((s.clasp.st = .seeking ∨ s.clasp.st = .alone)) ∧ p.pairId ≠ s.pwr.pairId ∧ (p.certOk = false ∨ s.rootProved p = false) :=
  ⟨{ base with clasp := { base.clasp with st := .alone } }, { pairId := true, answer := 1 }, by decide⟩

theorem wit_PairLanesAndTransfer_11 : ∃ (s : State) (p : PartnerInfo), s.alive = true ∧ ((s.clasp.st = .seeking ∨ s.clasp.st = .alone)) ∧ p.pairId ≠ s.pwr.pairId ∧ p.certOk = true ∧ s.rootProved p = true ∧ s.setsPair p = true ∧ s.clasp.claim < p.claim :=
  ⟨rooted { base.clasp with st := .seeking }, proving 1 [7], by decide +kernel⟩

theorem wit_PairLanesAndTransfer_12 : ∃ (s : State) (p : PartnerInfo), s.alive = true ∧ ((s.clasp.st = .seeking ∨ s.clasp.st = .alone)) ∧ p.pairId ≠ s.pwr.pairId ∧ p.certOk = true ∧ s.rootProved p = true ∧ s.setsPair p = false ∧ s.clasp.claim < p.claim :=
  ⟨rooted { base.clasp with st := .seeking }, proving 1 [], by decide +kernel⟩

theorem wit_PairLanesAndTransfer_13 : ∃ (s : State) (p : PartnerInfo), s.alive = true ∧ s.clasp.st ≠ .seeking ∧ s.clasp.st ≠ .alone :=
  ⟨base, { pairId := true }, by decide⟩

theorem wit_PairLanesAndTransfer_14 : ∃ (s : State), (s.pwr.st = .run ∨ s.pwr.st = .degraded) ∧ s.clasp.st = .seeking ∧ s.clasp.authed = false :=
  ⟨{ base with clasp := { base.clasp with st := .seeking } }, by decide⟩

theorem wit_PairLanesAndTransfer_15 : ∃ (s : State), s.alive = true ∧ (s.clasp.st ≠ .seeking ∨ s.clasp.authed = true) :=
  ⟨base, by decide⟩

theorem wit_PairLanesAndTransfer_16 : ∃ (s : State), s.alive = true ∧ s.clasp.st = .transfer :=
  ⟨{ base with clasp := { base.clasp with st := .transfer, joined := true } }, by decide⟩

theorem wit_PairLanesAndTransfer_17 : ∃ (s : State), s.alive = true ∧ s.clasp.st ≠ .transfer :=
  ⟨base, by decide⟩

theorem wit_PairLanesAndTransfer_18 : ∃ (s : State) (l : Nat) (x : Bool), s.alive = true ∧ (if l = 0 then s.clasp.lane0 else s.clasp.lane1) = !x :=
  ⟨base, 0, true, by decide⟩

theorem wit_ClaimsWiresAndRole_1 : ∃ (s : State) (c : BitVec 16) (f k : BitVec 4), s.alive = true ∧ claimGood s.pwr.pairId true c f k = true ∧ nbit f.toNat 1 = true :=
  ⟨{ base with clasp := { base.clasp with st := .active, role := true, wires := true, badRun := 3, deafRun := 1 } }, 0xF801, 7, 0xD, by decide +kernel⟩

theorem wit_ClaimsWiresAndRole_2 : ∃ (s : State) (k : Bool) (c : BitVec 16) (f e : BitVec 4), s.alive = true ∧ claimGood s.pwr.pairId k c f e = false :=
  ⟨{ base with clasp := { base.clasp with st := .standby, partnerClaim := 61441, partnerDrive := true, badRun := 15 } }, false, 0xF001, 7, 0, by decide⟩

theorem wit_ClaimsWiresAndRole_3 : ∃ (s : State) (c : BitVec 16) (f k : BitVec 4), s.alive = true ∧ claimGood s.pwr.pairId true c f k = true ∧ s.clasp.wires = true ∧ nbit f.toNat 0 = true ∧ nbit f.toNat 1 = false ∧ s.clasp.deafRun = 1 ∧ s.clasp.deaf = false ∧ s.clasp.st ≠ .off :=
  ⟨{ base with clasp := { base.clasp with st := .active, role := true, wires := true, deafRun := 1 } }, 0x8001, 1, 0xB, by decide +kernel⟩

theorem wit_ClaimsWiresAndRole_4 : ∃ (s : State), s.alive = true :=
  ⟨{ base with clasp := { base.clasp with st := .standby, partnerClaim := 63489, partnerDrive := true, hear := true, fit := true } }, by decide⟩

theorem wit_ClaimsWiresAndRole_5 : ∃ (s : State), s.alive = true :=
  ⟨{ base with clasp := { base.clasp with st := .active, role := true, wires := true, partnerClaim := 65535 } }, by decide⟩

theorem wit_ClaimsWiresAndRole_6 : ∃ (s : State) (x : Nat), s.alive = true ∧ s.clasp.deaf = true ∧ s.clasp.hearSince = some x ∧ x + 1000000 ≤ s.upNs :=
  ⟨{ base with clasp := { base.clasp with st := .active, role := true, deaf := true, hearSince := some (base.upNs - 1000000) } }, base.upNs - 1000000, by decide⟩

theorem wit_ClaimsWiresAndRole_7 : ∃ (s : State), s.alive = true ∧ (s.clasp.deaf = false ∨ s.clasp.hearSince = none) :=
  ⟨base, by decide⟩

theorem wit_ClaimsWiresAndRole_8 : ∃ (s : State) (x : Nat), s.alive = true ∧ s.clasp.hearSince = some x ∧ s.upNs < x + 1000000 :=
  ⟨{ base with clasp := { base.clasp with deaf := true, hearSince := some (base.upNs - 999999) } }, base.upNs - 999999, by decide⟩

theorem wit_PairInStepAndSwaps_1 : ∃ (s : State) (m : PairMeas), s.alive = true :=
  ⟨{ base with clasp := { base.clasp with dOwn := 7 } }, { dPartner := -4, refs := [(3, 1, 2)] }, by decide⟩

theorem wit_PairInStepAndSwaps_2 : ∃ (s : State), s.alive = true ∧ ((s.paired = true ∨ s.clasp.st = .transfer)) ∧ s.clasp.gotMeas = false :=
  ⟨{ base with clasp := { base.clasp with st := .transfer } }, by decide⟩

theorem wit_PairInStepAndSwaps_3 : ∃ (s : State), s.alive = true ∧ s.clasp.gotMeas = true :=
  ⟨{ base with clasp := { base.clasp with st := .active, gotMeas := true } }, by decide⟩

theorem wit_PairInStepAndSwaps_4 : ∃ (s : State) (a b : Nat), s.alive = true ∧ s.paired = true ∧ s.clasp.unpaired = false ∧ a = s.clasp.ownSet ∧ b = s.clasp.ownState :=
  ⟨{ base with clasp := { base.clasp with st := .active, ownSet := 5, ownState := 6 } }, 5, 6, by decide⟩

theorem wit_PairInStepAndSwaps_5 : ∃ (s : State) (a b : Nat), s.alive = true ∧ s.clasp.st = .transfer ∧ s.clasp.joined = true ∧ 9 ≤ s.clasp.matchRun ∧ s.clasp.unpaired = false ∧ s.clasp.partnerClaim ≥ 65535 ∧ a = s.clasp.ownSet ∧ b = s.clasp.ownState :=
  ⟨{ base with clasp := { base.clasp with st := .transfer, joined := true, matchRun := 9, partnerClaim := 65535 } }, 0, 0, by decide⟩

theorem wit_PairInStepAndSwaps_6 : ∃ (s : State) (a b : Nat), s.alive = true ∧ s.paired = true ∧ ((s.clasp.unpaired = true ∨ a ≠ s.clasp.ownSet ∨ b ≠ s.clasp.ownState)) :=
  ⟨{ base with clasp := { base.clasp with st := .standby, ownSet := 5, stepRun := 70 } }, 5, 7, by decide⟩

theorem wit_PairInStepAndSwaps_7 : ∃ (s : State), s.alive = true ∧ s.paired = true :=
  ⟨{ base with clasp := { base.clasp with st := .active } }, by decide⟩

theorem wit_PairInStepAndSwaps_8 : ∃ (s : State) (p : Bool), s.alive = true ∧ s.clasp.recompute = true :=
  ⟨{ base with clasp := { base.clasp with st := .active, role := true, wires := true, recompute := true } }, true, by decide⟩

theorem wit_PairInStepAndSwaps_9 : ∃ (s : State) (p : Bool), s.alive = true ∧ s.clasp.recompute = true ∧ (p = true ∨ s.clasp.st ≠ .standby) :=
  ⟨{ base with clasp := { base.clasp with st := .active, recompute := true } }, false, by decide⟩

theorem wit_PairInStepAndSwaps_10 : ∃ (s : State), s.alive = true ∧ s.clasp.recompute = true ∧ s.clasp.st = .standby ∧ s.clasp.divEqual = false :=
  ⟨{ base with clasp := { base.clasp with st := .standby, recompute := true } }, by decide⟩

theorem wit_PairInStepAndSwaps_11 : ∃ (s : State) (d : Nat), s.alive = true ∧ s.paired = true ∧ s.clasp.swapDue = some d ∧ d ≤ s.sec ∧ 60 ≤ s.clasp.stepRun ∧ s.clasp.partnerClaim / 4096 = s.fitness ∧ s.tc.step = none ∧ s.clasp.swapArmed = none :=
  ⟨{ base with clasp := { base.clasp with st := .active, role := true, swapDue := some 1000, stepRun := 60, partnerClaim := base.fitness * 4096 } }, 1000, by decide⟩

theorem wit_PairInStepAndSwaps_12 : ∃ (s : State) (d : Nat), s.alive = true ∧ s.paired = true ∧ s.clasp.swapDue = some d ∧ d ≤ s.sec ∧ s.clasp.stepRun < 60 :=
  ⟨{ base with clasp := { base.clasp with st := .active, swapDue := some 999, stepRun := 59 } }, 999, by decide⟩

theorem wit_PairInStepAndSwaps_13 : ∃ (s : State) (a : Nat), s.alive = true ∧ s.clasp.swapArmed = some a ∧ s.handoverAt a ≤ s.tc.mtc.units ∧ s.clasp.partnerSwap = true ∧ s.clasp.st = .active :=
  ⟨{ base with clasp := { base.clasp with st := .active, role := true, wires := true, swapArmed := some 999, partnerSwap := true } }, 999, by decide⟩

theorem wit_PairInStepAndSwaps_14 : ∃ (s : State) (a : Nat), s.alive = true ∧ s.clasp.swapArmed = some a ∧ s.handoverAt a ≤ s.tc.mtc.units ∧ s.clasp.partnerSwap = true ∧ s.clasp.st = .standby :=
  ⟨{ base with clasp := { base.clasp with st := .standby, fit := true, swapArmed := some 999, partnerSwap := true } }, 999, by decide⟩

theorem wit_PairInStepAndSwaps_15 : ∃ (s : State) (h : CmdHdr) (r : Rec) (a : Nat) (d : Option (Nat × Nat × Nat × Nat)) (m : Mtc), s.alive = true ∧ s.clasp.mirror = [{ cmds := [.claspSwapNow h], acked := true, ackAt := a, done := d, result := r, stood := m }] ∧ a + 2000000 ≤ s.upNs :=
  ⟨{ base with clasp := { base.clasp with st := .active, mirror := [{ cmds := [.claspSwapNow (hd 0)], acked := true, ackAt := 999998000000, result := [fld 64 1002], stood := { sec := 999, ns := 5 } }] } }, hd 0, [fld 64 1002], 999998000000, none, { sec := 999, ns := 5 }, by decide⟩

theorem wit_PairInStepAndSwaps_16 : ∃ (s : State) (h : CmdHdr) (p x a : Nat), s.alive = true ∧ s.clasp.mirror = [{ cmds := [.claspSetSwap h p x], acked := true, ackAt := a }] ∧ a + 2000000 ≤ s.upNs :=
  ⟨{ base with clasp := { base.clasp with st := .active, mirror := [{ cmds := [.claspSetSwap (hd 8) 9 77], acked := true, ackAt := 999998000000 }] } }, hd 8, 9, 77, 999998000000, by decide⟩

theorem wit_PairInStepAndSwaps_17 : ∃ (s : State), s.alive = true ∧ (s.clasp.mirror.all fun x => !(x.acked && decide (x.ackAt + 2000000 ≤ s.upNs))) = true :=
  ⟨{ base with clasp := { base.clasp with st := .active, mirror := [{ cmds := [.claspSwapNow (hd 0)], acked := true, ackAt := 999998000001 }, {}] } }, by decide⟩

theorem wit_ProcessorEvents_1 : ∃ (s : State), s.alive = true ∧ s.mgmt.mpStopped = false ∧ s.mgmt.mpRestart = false ∧ s.mgmt.mismatch = none :=
  ⟨base, by decide⟩

theorem wit_ProcessorEvents_2 : ∃ (s : State) (m : Nat), s.alive = true ∧ s.mgmt.mpStopped = false ∧ s.mgmt.mpRestart = false ∧ s.mgmt.mismatch = some m ∧ s.upNs < m + 86400000000000 :=
  ⟨{ base with mgmt := { base.mgmt with mismatch := some 1000000000000 } }, 1000000000000, by decide⟩

theorem wit_ProcessorEvents_3 : ∃ (s : State) (m : Nat), s.alive = true ∧ s.mgmt.mpStopped = false ∧ s.mgmt.mpRestart = false ∧ s.mgmt.mismatch = some m ∧ m + 86400000000000 ≤ s.upNs :=
  ⟨{ base with tc := { base.tc with mtc := { sec := 87400 } }, mgmt := { base.mgmt with mismatch := some 1000000000000 } }, 1000000000000, by decide⟩

theorem wit_ProcessorEvents_4 : ∃ (s : State), s.alive = true ∧ (s.mgmt.mpStopped = true ∨ s.mgmt.mpRestart = true) :=
  ⟨{ base with mgmt := { base.mgmt with mpRestart := true } }, by decide⟩

theorem wit_ProcessorEvents_5 : ∃ (s : State), s.alive = true ∧ s.mgmt.mpRestart = true ∧ s.mgmt.mpSecond = false :=
  ⟨{ base with mgmt := { base.mgmt with mpRestart := true, mismatch := some 990 } }, by decide⟩

theorem wit_ProcessorEvents_6 : ∃ (s : State), s.alive = true ∧ s.mgmt.mpRestart = true ∧ s.mgmt.mpSecond = true :=
  ⟨{ base with mgmt := { base.mgmt with mpRestart := true, mpSecond := true } }, by decide⟩

theorem wit_ProcessorEvents_7 : ∃ (s : State), s.alive = true ∧ s.mgmt.mpRestart = true :=
  ⟨{ base with mgmt := { base.mgmt with mpRestart := true } }, by decide⟩

theorem wit_ProcessorEvents_8 : ∃ (s : State) (k : Bool), s.alive = true ∧ s.mgmt.mpRestart = false :=
  ⟨base, true, by decide⟩

theorem wit_ProcessorEvents_9 : ∃ (s : State) (c : Nat), s.alive = true ∧ c < 4 ∧ c ∉ s.mgmt.tpOut ∧ s.mgmt.tpOut.length ≠ 3 :=
  ⟨base, 3, by decide⟩

theorem wit_ProcessorEvents_10 : ∃ (s : State) (c : Nat), s.alive = true ∧ c < 4 ∧ c ∉ s.mgmt.tpOut ∧ s.mgmt.tpOut.length = 3 :=
  ⟨{ base with mgmt := { base.mgmt with tpOut := [0, 1, 2] } }, 3, by decide⟩

theorem wit_ProcessorEvents_11 : ∃ (s : State) (c : Nat), s.alive = true ∧ (4 ≤ c ∨ c ∈ s.mgmt.tpOut) :=
  ⟨base, 4, by decide⟩

theorem wit_ProcessorEvents_12 : ∃ (s : State), s.alive = true ∧ s.mgmt.mpStopped = false ∧ s.mgmt.mpRestart = false :=
  ⟨base, by decide⟩

theorem wit_ProcessorEvents_13 : ∃ (s : State), s.alive = true ∧ (s.mgmt.mpStopped = true ∨ s.mgmt.mpRestart = true) :=
  ⟨{ base with mgmt := { base.mgmt with mpStopped := true } }, by decide⟩

theorem wit_ProcessorEvents_14 : ∃ (s : State), s.alive = true :=
  ⟨{ base with out := { base.out with pins := [(32, { cfg := { kind := 1, index := 0, enable := 1 }, gen := true, st := .aligned })] } }, by decide⟩

theorem wit_InterruptController_1 : ∃ (s : State) (n : Nat) (x : IcuSrc), s.alive = true ∧ n < 1216 ∧ (s.mgmt.icu.all fun p => decide (p.2.st = .inactive)) = true ∧ s.mgmt.icu.look {} n = x ∧ x.masked = false ∧ icuTarget n x ≠ 6 :=
  ⟨base, 1215, {}, by decide⟩

theorem wit_InterruptController_2 : ∃ (s : State) (n : Nat) (x : IcuSrc), s.alive = true ∧ n < 1216 ∧ (s.mgmt.icu.all fun p => decide (p.2.st = .inactive)) = true ∧ s.mgmt.icu.look {} n = x ∧ x.masked = false ∧ icuTarget n x = 6 :=
  ⟨{ base with mgmt := { base.mgmt with icu := [(700, { target := 6, fn := 0, vector := 63 })] }, mbx := { base.mbx with fns := [(0, { fnOne with vecs := [(63, { mask := false })] })] } }, 700, { target := 6, fn := 0, vector := 63 }, by decide⟩

theorem wit_InterruptController_3 : ∃ (s : State) (n : Nat) (x : IcuSrc), s.alive = true ∧ n < 1216 ∧ (s.mgmt.icu.all fun p => decide (p.2.st = .inactive)) = true ∧ s.mgmt.icu.look {} n = x ∧ x.masked = true :=
  ⟨{ base with mgmt := { base.mgmt with icu := [(3, { masked := true })] } }, 3, { masked := true }, by decide⟩

theorem wit_InterruptController_4 : ∃ (s : State) (n : Nat) (x : IcuSrc), s.alive = true ∧ n < 1216 ∧ s.mgmt.icu = [(n, x)] ∧ x.st = .active :=
  ⟨{ base with mgmt := { base.mgmt with icu := [(3, { st := .active })] } }, 3, { st := .active }, by decide⟩

theorem wit_InterruptController_5 : ∃ (s : State) (n m : Nat) (x y : IcuSrc), s.alive = true ∧ n < m ∧ m < 1216 ∧ s.mgmt.icu = [(n, x), (m, y)] ∧ x.st = .active ∧ y.st = .inactive ∧ icuTarget n x = icuTarget m y ∧ y.priority ≤ x.priority :=
  ⟨{ base with mgmt := { base.mgmt with icu := [(3, { st := .active, priority := 4 }), (5, { priority := 4 })] } }, 3, 5, { st := .active, priority := 4 }, { priority := 4 }, by decide⟩

theorem wit_InterruptController_6 : ∃ (s : State) (n m : Nat) (x y : IcuSrc), s.alive = true ∧ n < m ∧ m < 1216 ∧ s.mgmt.icu = [(n, x), (m, y)] ∧ x.st = .active ∧ y.st = .inactive ∧ y.masked = false ∧ icuTarget n x = icuTarget m y ∧ x.priority < y.priority ∧ icuTarget m y ≠ 6 :=
  ⟨{ base with mgmt := { base.mgmt with icu := [(3, { st := .active, priority := 4 }), (5, { priority := 5 })] } }, 3, 5, { st := .active, priority := 4 }, { priority := 5 }, by decide⟩

theorem wit_InterruptController_7 : ∃ (s : State) (n : Nat), s.alive = true ∧ 1216 ≤ n :=
  ⟨base, 1216, by decide⟩

theorem wit_InterruptController_8 : ∃ (s : State) (n : Nat) (x : IcuSrc), s.alive = true ∧ s.mgmt.icu = [(n, x)] ∧ x.st = .active :=
  ⟨{ base with mgmt := { base.mgmt with icu := [(3, { st := .active })] } }, 3, { st := .active }, by decide⟩

theorem wit_InterruptController_9 : ∃ (s : State) (n : Nat) (x : IcuSrc), s.alive = true ∧ s.mgmt.icu = [(n, x)] ∧ x.st = .activePending ∧ x.masked = false ∧ icuTarget n x ≠ 6 :=
  ⟨{ base with mgmt := { base.mgmt with icu := [(3, { st := .activePending })] } }, 3, { st := .activePending }, by decide⟩

theorem wit_InterruptController_10 : ∃ (s : State) (n : Nat), s.alive = true ∧ (((s.mgmt.icu.look {} n).st = .inactive ∨ (s.mgmt.icu.look {} n).st = .pending)) :=
  ⟨base, 3, by decide⟩

theorem wit_SensorsLogAndFirmwareEvents_1 : ∃ (s : State) (n : Nat) (r : SensorReading), s.alive = true ∧ n < 24 ∧ sensorFails r = false ∧ (s.mgmt.sensors.look {} n).status ≠ 3 :=
  ⟨base, 23, { value := 2401 }, by decide⟩

theorem wit_SensorsLogAndFirmwareEvents_2 : ∃ (s : State) (n : Nat) (r : SensorReading), s.alive = true ∧ n < 24 ∧ sensorFails r = true ∧ (s.mgmt.sensors.look {} n).status ≠ 3 :=
  ⟨base, 7, { value := -881 }, by decide⟩

theorem wit_SensorsLogAndFirmwareEvents_3 : ∃ (s : State) (n : Nat) (r : SensorReading), s.alive = true ∧ n < 24 ∧ (s.mgmt.sensors.look {} n).status = 3 :=
  ⟨{ base with mgmt := { base.mgmt with sensors := [(0, { status := 3 })] } }, 0, { value := 5 }, by decide⟩

theorem wit_SensorsLogAndFirmwareEvents_4 : ∃ (s : State) (n : Nat) (r : SensorReading), s.alive = true ∧ 0x20 ≤ n ∧ n < 0x28 ∧ railIn n r.value = true :=
  ⟨{ base with fault := { base.fault with causes := [0x0E17], live := [(15, 0x00800000)] }, pwr := { base.pwr with st := .degraded, vbatOk := false } }, 39, { value := 3600000 }, by decide⟩

theorem wit_SensorsLogAndFirmwareEvents_5 : ∃ (s : State) (n : Nat) (r : SensorReading), s.alive = true ∧ 0x20 ≤ n ∧ n < 0x28 ∧ railIn n r.value = false :=
  ⟨base, 32, { value := 727499 }, by decide⟩

theorem wit_SensorsLogAndFirmwareEvents_6 : ∃ (s : State) (n : Nat) (r : SensorReading), s.alive = true ∧ 0x40 ≤ n ∧ n < 0x4D :=
  ⟨base, 76, { value := 5 }, by decide⟩

theorem wit_SensorsLogAndFirmwareEvents_7 : ∃ (s : State) (n : Nat) (r : SensorReading), s.alive = true ∧ ((24 ≤ n ∧ n < 0x20 ∨ 0x28 ≤ n ∧ n < 0x40 ∨ 0x4D ≤ n)) :=
  ⟨base, 77, { value := 5 }, by decide⟩

theorem wit_SensorsLogAndFirmwareEvents_8 : ∃ (s : State), s.alive = true :=
  ⟨{ base with mgmt := { base.mgmt with hot := (719999, 360000, 5) } }, by decide⟩

theorem wit_SensorsLogAndFirmwareEvents_9 : ∃ (s : State), s.alive = true ∧ (s.mgmt.coal.all fun e => decide (e.time.sec = s.sec)) = true ∧ s.mgmt.staged ≠ [] :=
  ⟨{ base with mgmt := { base.mgmt with staged := [{ code := 4 }], log := [{ code := 3 }] } }, by decide⟩

theorem wit_SensorsLogAndFirmwareEvents_10 : ∃ (s : State), s.alive = true :=
  ⟨{ base with mgmt := { base.mgmt with staged := [{ code := 4 }], coal := [{ code := 3 }] } }, by decide⟩

theorem wit_SensorsLogAndFirmwareEvents_11 : ∃ (s : State), (s.pwr.st = .run ∨ s.pwr.st = .degraded) ∧ (s.mgmt.sets.look {} s.mgmt.running).st = .trial :=
  ⟨{ base with mgmt := { base.mgmt with sets := [(0, { st := .trial, svn := 7 })] } }, by decide⟩

theorem wit_SensorsLogAndFirmwareEvents_12 : ∃ (s : State), s.alive = true ∧ (s.mgmt.sets.look {} s.mgmt.running).st ≠ .trial :=
  ⟨base, by decide⟩

theorem wit_SensorsLogAndFirmwareEvents_13 : ∃ (s : State), (s.pwr.st = .run ∨ s.pwr.st = .degraded) :=
  ⟨{ base with tc := { base.tc with ts := .locked }, mbx := { base.mbx with fns := [(0, { queues := [(3, { txn := some {} })] })] } }, by decide⟩

theorem wit_SensorsLogAndFirmwareEvents_14 : ∃ (s : State), s.alive = true :=
  ⟨base, by decide⟩

theorem wit_SensorsLogAndFirmwareEvents_15 : ∃ (s : State), s.alive = true ∧ s.mgmt.mpStopped = false ∧ s.mgmt.mpRestart = false ∧ s.mgmt.dropped = 0 :=
  ⟨{ base with fault := { base.fault with sticky := [(0, 5), (15, 0x20000000)], logged := [(0, 1)] } }, by decide⟩

theorem wit_SensorsLogAndFirmwareEvents_16 : ∃ (s : State), s.alive = true ∧ (s.mgmt.mpStopped = true ∨ s.mgmt.mpRestart = true) :=
  ⟨{ base with mgmt := { base.mgmt with mpStopped := true } }, by decide⟩

theorem wit_FaultCollector_1 : ∃ (s : State) (w b : Nat) (x : Bool) (l : List Nat), s.alive = true ∧ sourceOk w b = true ∧ s.pwr.moscLost = false :=
  ⟨base, 15, 30, true, [], by decide⟩

theorem wit_FaultCollector_2 : ∃ (s : State) (p : Nat) (x : Bool) (l : List Nat), s.alive = true ∧ p < 256 ∧ (s.port p).st ≠ .disabled :=
  ⟨{ base with ports := { base.ports with ports := [(255, { mode := .g25, st := .up })] } }, 255, true, [], by decide⟩

theorem wit_FaultCollector_3 : ∃ (s : State) (n : Nat) (x : Bool) (l : List Nat), s.alive = true ∧ n < 4 :=
  ⟨base, 3, false, [], by decide⟩

theorem wit_FaultCollector_4 : ∃ (s : State) (x : Bool) (l : List Nat), s.alive = true :=
  ⟨base, false, [], by decide⟩

theorem wit_FaultCollector_5 : ∃ (s : State) (w b : Nat) (x : Bool) (l : List Nat), s.alive = true ∧ sourceOk w b = false :=
  ⟨base, 15, 15, true, [], by decide⟩

theorem wit_FaultCollector_6 : ∃ (s : State) (w b : Nat), s.alive = true ∧ sourceOk w b = true :=
  ⟨{ base with fault := { base.fault with sticky := [(0, 16)], live := [(0, 16)] }, pwr := { base.pwr with moscGood := true, moscLost := true } }, 0, 4, by decide⟩

theorem wit_FaultCollector_7 : ∃ (s : State) (w b : Nat), s.alive = true ∧ sourceOk w b = false :=
  ⟨base, 0, 12, by decide⟩

theorem wit_FaultCollector_8 : ∃ (s : State), s.alive = true ∧ s.pwr.moscGood = true ∧ s.pwr.moscLost = false :=
  ⟨{ base with pwr := { base.pwr with moscGood := true }, out := { base.out with loops := [(7, { en := true, st := .locked })], pins := [(32, { cfg := { kind := 1, index := 0, enable := 1, loop := 7 }, gen := true, st := .aligned })] }, tc := { base.tc with ts := .locked } }, by decide⟩

theorem wit_FaultCollector_9 : ∃ (s : State), s.alive = true ∧ (s.pwr.moscGood = false ∨ s.pwr.moscLost = true) :=
  ⟨base, by decide⟩

theorem wit_FaultCollector_10 : ∃ (s : State), s.alive = true ∧ (s.pwr.moscGood && !s.pwr.moscLost) = false :=
  ⟨{ base with pwr := { base.pwr with moscGood := true, moscLost := true }, fault := { base.fault with live := [(0, 528)], sticky := [(0, 528)] }, out := { base.out with loops := [(7, { en := true, st := .freeRun })] } }, by decide⟩

theorem wit_FaultCollector_11 : ∃ (s : State), s.alive = true ∧ s.pwr.moscGood = true ∧ s.pwr.moscLost = false :=
  ⟨{ base with pwr := { base.pwr with moscGood := true } }, by decide⟩

theorem wit_DeviceResets_2 : ∃ (s : State) (p : BootPins), s.alive = true :=
  ⟨{ base with pwr := { base.pwr with moscGood := true }, loupe := { base.loupe with ctr := [(5, 9)] }, mgmt := { base.mgmt with log := [{ code := 5 }], nvReset := true } }, { pairId := true }, by decide⟩

theorem wit_DeviceResets_3 : ∃ (s : State) (p : BootPins) (c : Nat), s.alive = true ∧ s.pwr.cmdReset = some c ∧ c ≠ 5 :=
  ⟨{ base with pwr := { base.pwr with cmdReset := some 4 }, mbx := { base.mbx with fns := [(0, { fnOne with frozen := true }), (5, { queues := [(2, { txn := some {} })] })] } }, {}, 4, by decide⟩

theorem wit_DeviceResets_4 : ∃ (s : State) (p : BootPins), s.alive = true ∧ (s.pwr.cmdReset = none ∨ s.pwr.cmdReset = some 5) :=
  ⟨{ base with pwr := { base.pwr with cmdReset := some 5 } }, {}, by decide⟩

theorem wit_DeviceResets_5 : ∃ (s : State) (p : BootPins), s.alive = true ∧ s.pwr.cmdReset = some 5 :=
  ⟨{ base with pwr := { base.pwr with cmdReset := some 5, fuses := 3 } }, { tamper := 2 }, by decide⟩

theorem wit_DeviceResets_6 : ∃ (s : State) (p : BootPins), s.alive = true ∧ s.pwr.cmdReset ≠ some 5 :=
  ⟨{ base with pwr := { base.pwr with cmdReset := some 3 } }, {}, by decide⟩

theorem wit_DeviceResets_7 : ∃ (s : State) (p : BootPins), s.alive = false :=
  ⟨{ base with pwr := { base.pwr with st := .vault } }, {}, by decide⟩

theorem wit_DeviceResets_8 : ∃ (s : State) (p : BootPins), s.pwr.kek = true ∧ s.mgmt.selected < 2 ∧ s.setTested s.mgmt.selected = true ∧ (s.mgmt.sets.look {} s.mgmt.selected).st = .confirmed :=
  ⟨{ base with mgmt := { base.mgmt with selected := 1, sets := [(1, { st := .confirmed })] }, pwr := { base.pwr with latch := 3, tcount := 9, vgen := 4 } }, {}, by decide⟩

theorem wit_DeviceResets_9 : ∃ (s : State) (p : BootPins), s.pwr.kek = false ∧ (s.cutSeal.isSealed = false ∨ p.tamper = 0) :=
  ⟨{ base with pwr := { base.pwr with kek := false, vgen := 65535, latch := 3 } }, { tamper := 2 }, by decide⟩

theorem wit_DeviceResets_10 : ∃ (s : State) (p : BootPins), s.pwr.kek = false ∧ s.cutSeal.isSealed = true ∧ p.tamper ≠ 0 :=
  ⟨{ base with pwr := { base.pwr with kek := false, vgen := 7, fuses := 2 } }, { tamper := 8 }, by decide⟩

theorem wit_RailsAndTamper_1 : ∃ (s : State), s.alive = true ∧ s.pwr.vbatOk = true :=
  ⟨{ base with pwr := { base.pwr with moscGood := true, latch := 3, tcount := 5 } }, by decide⟩

theorem wit_RailsAndTamper_2 : ∃ (s : State), (s.alive = false ∨ s.pwr.vbatOk = false) :=
  ⟨{ base with pwr := { base.pwr with vbatOk := false } }, by decide⟩

theorem wit_RailsAndTamper_4 : ∃ (s : State), s.pwr.st = .off :=
  ⟨{ base with pwr := { base.pwr with st := .off, vbatOk := false } }, by decide⟩

theorem wit_RailsAndTamper_5 : ∃ (s : State), s.pwr.st ≠ .off :=
  ⟨{ base with pwr := { base.pwr with vbatOk := false } }, by decide⟩

theorem wit_RailsAndTamper_6 : ∃ (s : State) (x : BitVec 4), s.pwr.st ≠ .off ∧ x ≠ 0 ∧ (s.isSealed = false ∨ s.pwr.kek = false) :=
  ⟨{ base with pwr := { base.pwr with tcount := 4294967295, latch := 1 } }, 8, by decide⟩

theorem wit_RailsAndTamper_7 : ∃ (s : State) (x : BitVec 4), s.alive = true ∧ x ≠ 0 ∧ s.isSealed = true ∧ s.pwr.kek = true :=
  ⟨{ base with pwr := { base.pwr with fuses := 2 }, keys := { base.keys with slots := [(1, { st := .valid, material := 5 }), (4095, { st := .exhausted, material := 7 })] } }, 1, by decide⟩

theorem wit_RailsAndTamper_8 : ∃ (s : State) (x : BitVec 4), s.pwr.st = .vault ∧ x ≠ 0 ∧ s.isSealed = true ∧ s.pwr.kek = true :=
  ⟨{ base with pwr := { base.pwr with fuses := 2, st := .vault } }, 1, by decide⟩

theorem wit_RailsAndTamper_9 : ∃ (s : State), s.pwr.st ≠ .off :=
  ⟨{ base with pwr := { base.pwr with present := 3 } }, by decide⟩

theorem wit_RailsAndTamper_10 : ∃ (s : State) (x : BitVec 4), s.pwr.st = .off :=
  ⟨{ base with pwr := { base.pwr with st := .off } }, 3, by decide⟩

theorem wit_RailsAndTamper_11 : ∃ (s : State) (w : NvWrite) (l m : List LogEntry), s.alive = true ∧ s.pwr.vbatOk = true ∧ s.mgmt.writing = some w ∧ w.old = .ring l m ∧ (s.upNs - w.at_) / 250 + 1 < w.words ∧ w.stopped = none :=
  ⟨{ base with mgmt := { base.mgmt with log := [{ code := 3 }, { code := 4 }], writing := some { words := 8, at_ := 999999999000, old := .ring [{ code := 3 }] [{ code := 4 }] } } }, { words := 8, at_ := 999999999000, old := .ring [{ code := 3 }] [{ code := 4 }] }, [{ code := 3 }], [{ code := 4 }], by decide⟩

theorem wit_StartUp_1 : ∃ (s : State), ((s.pwr.st = .boot ∨ s.pwr.st = .restricted)) ∧ s.tc.mtc.running = false ∧ (s.loop 0).st = .locked ∧ nbit (s.fault.sticky.look 0 0).toNat 10 = false :=
  ⟨{ State.reset with out := { State.reset.out with loops := [(0, { en := true, st := .locked })] }, tc := { State.reset.tc with moscCal := 77 } }, by decide⟩

theorem wit_StartUp_2 : ∃ (s : State), s.alive = true ∧ (s.tc.mtc.running = true ∨ (s.loop 0).st ≠ .locked ∨ nbit (s.fault.sticky.look 0 0).toNat 10 = true) :=
  ⟨base, by decide⟩

theorem wit_StartUp_3 : ∃ (s : State), ((s.pwr.st = .boot ∨ s.pwr.st = .restricted)) ∧ s.mbx.ready = false ∧ s.pwr.moscGood = true ∧ s.mgmt.mpStopped = false :=
  ⟨{ State.reset with pwr := { State.reset.pwr with moscGood := true, unlogged := true } }, by decide⟩

theorem wit_StartUp_4 : ∃ (s : State), s.alive = true ∧ (s.mbx.ready = true ∨ s.pwr.moscGood = false) :=
  ⟨base, by decide⟩

theorem wit_StartUp_5 : ∃ (s : State), s.pwr.st = .boot ∧ s.mgmt.tested = true ∧ s.pwr.cfgApplied = true ∧ s.keys.entropyUp = true ∧ (s.keys.drbgs.look {} 0).error = false ∧ s.channelsReady = true :=
  ⟨{ State.reset with pwr := { State.reset.pwr with cfgApplied := true }, keys := { State.reset.keys with entropyUp := true, drbgs := [(0, {})] } }, by decide⟩

theorem wit_StartUp_6 : ∃ (s : State), s.alive = true ∧ (s.pwr.st ≠ .boot ∨ s.mgmt.tested = false ∨ s.pwr.cfgApplied = false ∨ s.keys.entropyUp = false) :=
  ⟨State.reset, by decide⟩

theorem wit_StartUp_7 : ∃ (s : State), s.pwr.st = .boot ∧ s.pwr.moscGood = true ∧ s.keys.entropyUp = false :=
  ⟨{ State.reset with pwr := { State.reset.pwr with moscGood := true } }, by decide⟩

theorem wit_StartUp_8 : ∃ (s : State) (c : Nat), s.pwr.st = .boot ∧ s.pwr.moscGood = true ∧ c ∈ s.fil.chans.map (·.1) ∧ ((s.fil.chans.filter fun q => decide (q.1 = c)).all fun q => q.2.en && decide (q.2.interp.st = .normal) && q.2.interp.tabX.isNone) = true :=
  ⟨{ State.reset with pwr := { State.reset.pwr with moscGood := true }, keys := { State.reset.keys with entropyUp := true }, fil := { State.reset.fil with chans := [(3, { en := true }), (4, {})] } }, 3, by decide⟩

theorem wit_StartUp_9 : ∃ (s : State), s.alive = true ∧ (s.pwr.st ≠ .boot ∨ s.pwr.moscGood = false) :=
  ⟨base, by decide⟩

theorem wit_StepCycle_1 : ∃ (s : State) (p : PendStep), s.alive = true ∧ s.tc.step = some p ∧ s.tc.mtc.running = true ∧ p.due * unitsPerSec ≤ s.tc.mtc.units :=
  ⟨{ base with tc := { base.tc with step := some { sec := -3, ns := 5, frac := 7, due := 1000 }, initPending := true, gen := 65535, mtc := { base.tc.mtc with slew := some { c := 5, applied := 1, f := 2 } } }, tse := { base.tse with waits := [(0, [])] } }, { sec := -3, ns := 5, frac := 7, due := 1000 }, by decide⟩

theorem wit_StepCycle_2 : ∃ (s : State), s.alive = true ∧ (s.tc.step = none ∨ s.tc.mtc.running = false) :=
  ⟨base, by decide⟩

theorem wit_StepCycle_3 : ∃ (s : State) (p : PendStep), s.alive = true ∧ s.tc.step = some p ∧ s.tc.mtc.units < p.due * unitsPerSec :=
  ⟨{ base with tc := { base.tc with step := some { sec := 1, due := 1001 } } }, { sec := 1, due := 1001 }, by decide⟩

theorem wit_StepCycle_4 : ∃ (m : Mtc) (a b c : Int), 0 ≤ (m.units : Int) + (a * 1000000000 + b) * 1048576 + c ∧ (m.units : Int) + (a * 1000000000 + b) * 1048576 + c < 2 ^ 48 * 1000000000 * 1048576 :=
  ⟨{ sec := 5, ns := 999999999, frac := 1048575 }, 281474976710650, 0, 0, by decide⟩

theorem wit_SystemAndFirmwareCommands_1 : ∃ (h : CmdHdr) (s : State) (c : Nat), ready { op := 0x0101, plen := 4, action := true } h s ∧ c = s.mbx.epoch ∧ s.pwr.cmdReset ≠ some 5 :=
  ⟨hd 4, base, 1, by decide⟩

theorem wit_SystemAndFirmwareCommands_2 : ∃ (h : CmdHdr) (s : State) (c : Nat), ready { op := 0x0102, plen := 8, action := true } h s ∧ c = s.mbx.epoch ∧ s.isSealed = false :=
  ⟨hd 8, base, 1, by decide⟩

theorem wit_SystemAndFirmwareCommands_3 : ∃ (h : CmdHdr) (s : State) (c k : Nat), ready { op := 0x0102, plen := 8, action := true } h s ∧ (c ≠ s.mbx.epoch ∨ k ≠ 0x5345414C) :=
  ⟨hd 8, base, 0, 0x5345414C, by decide⟩

theorem wit_SystemAndFirmwareCommands_4 : ∃ (h : CmdHdr) (s : State), ready { op := 0x0141, who := .any } h s :=
  ⟨hd 0, base, by decide⟩

theorem wit_SystemAndFirmwareCommands_5 : ∃ (h : CmdHdr) (s : State), ready { op := 0x0142, who := .any, xbOut := h.fn = 0 } h s ∧ h.fn = 0 ∧ 2 * s.fault.causes.length ≤ h.xlen :=
  ⟨hx 0, { base with fault := { base.fault with causes := [5, 9] }, pwr := { base.pwr with st := .degraded } }, by decide⟩

theorem wit_SystemAndFirmwareCommands_6 : ∃ (h : CmdHdr) (s : State), ready { op := 0x0142, who := .any, xbOut := h.fn = 0 } h s ∧ h.fn ≠ 0 :=
  ⟨{ hd 0 with fn := 3, queue := 2 }, { base with bez := { rows := [(0, base.bezel 0), (3, { present := true })] }, mbx := { base.mbx with vfEnable := true, numVfs := 3, fns := [(3, { cplEn := true, queues := [(2, { en := true, tail := 1 })] })] } }, by decide⟩

theorem wit_SystemAndFirmwareCommands_7 : ∃ (h : CmdHdr) (s : State), ready { op := 0x0143, xbOut := true } h s ∧ 372 ≤ h.xlen :=
  ⟨hx 0, base, by decide⟩

theorem wit_SystemAndFirmwareCommands_8 : ∃ (h : CmdHdr) (s : State) (n : Nat) (b : FwBlob) (g : FwImage), ready { op := 0x0201, plen := 1, action := true, xbIn := true } h s ∧ n ≤ 1 ∧ parseManifest b = some g ∧ g.sigOk = true ∧ g.hashesOk = true ∧ g.product = 0x9256 ∧ (s.isSealed = false ∨ s.mgmt.highSvn ≤ g.svn) ∧ s.mgmt.running ≠ n ∧ (s.mgmt.banks.look {} n).readOnly = false :=
  ⟨hx 1, { base with pwr := { base.pwr with fuses := 1 } }, 1, blob 9, blobImage 9, by decide +kernel⟩

theorem wit_SystemAndFirmwareCommands_9 : ∃ (h : CmdHdr) (s : State) (n : Nat) (b : FwBlob) (g : FwImage), ready { op := 0x0201, plen := 1, action := true, xbIn := true } h s ∧ n ≤ 1 ∧ parseManifest b = some g ∧ (g.sigOk = false ∨ g.hashesOk = false ∨ g.product ≠ 0x9256 ∨ (s.isSealed = true ∧ g.svn < s.mgmt.highSvn)) :=
  ⟨hx 1, base, 1, { blob 9 with images := [[], [], [1]] }, { blobImage 9 with hashesOk := false }, by decide +kernel⟩

theorem wit_SystemAndFirmwareCommands_10 : ∃ (h : CmdHdr) (s : State) (n w : Nat), ready { op := 0x0202, plen := 2, action := true } h s ∧ n ≤ 1 ∧ w ≤ 1 ∧ s.mgmt.hwRev ∈ (s.mgmt.sets.look {} n).hw ∧ (((s.mgmt.sets.look {} n).st = .valid ∨ (s.mgmt.sets.look {} n).st = .confirmed)) ∧ s.pwr.cmdReset = none :=
  ⟨hd 2, { base with mgmt := { base.mgmt with sets := [(1, { st := .valid })] } }, 1, 1, by decide⟩

theorem wit_SystemAndFirmwareCommands_11 : ∃ (h : CmdHdr) (s : State), ready { op := 0x0241, xbOut := true } h s ∧ 32 + 2 * ((s.mgmt.sets.look {} 0).hw.length + (s.mgmt.sets.look {} 1).hw.length) + 4 * ((s.mgmt.sets.look {} 0).comp.length + (s.mgmt.sets.look {} 1).comp.length) ≤ h.xlen :=
  ⟨hx 0, base, by decide⟩

theorem wit_SystemAndFirmwareCommands_12 : ∃ (h : CmdHdr) (s : State) (n : Nat) (b : FwBlob), ready { op := 0x0201, plen := 1, action := true, xbIn := true } h s ∧ n ≤ 1 ∧ parseManifest b = none :=
  ⟨hx 1, base, 1, { sigOk := true, manifest := [], images := [] }, by decide⟩

theorem wit_TransactionCommands_1 : ∃ (h : CmdHdr) (s : State), ready { op := 0x0401, who := .any } h s :=
  ⟨hd 0, base, by decide⟩

theorem wit_TransactionCommands_2 : ∃ (h : CmdHdr) (s : State) (x : Txn), readyInTxn { op := 0x0403, plen := 2, who := .any } h s x :=
  ⟨hd 2, inTxn [.ensSetSlew (hd 4) 7], { id := 9, staged := [.ensSetSlew (hd 4) 7] }, by decide⟩

theorem wit_TransactionCommands_3 : ∃ (h : CmdHdr) (s : State) (x : Txn) (n : Nat), readyInTxn { op := 0x0403, plen := 2, who := .any } h s x ∧ n ≠ x.id :=
  ⟨hd 2, inTxn [], { id := 9 }, 8, by decide⟩

theorem wit_TransactionCommands_4 : ∃ (h : CmdHdr) (s : State) (x : Txn), readyInTxn { op := 0x0402, plen := 2, who := .any } h s x ∧ x.staged = [] :=
  ⟨hd 2, inTxn [], { id := 9 }, by decide⟩

theorem wit_TransactionCommands_5 : ∃ (h : CmdHdr) (s : State) (x : Txn) (r p d : Nat), readyInTxn { op := 0x0402, plen := 2, who := .any } h s x ∧ x.staged = [.ensSetSlew (hdr0 h 4) r, .claspSetSwap (hdr0 h 8) p d] ∧ h.fn = 0 ∧ s.paired = false ∧ 1 ≤ r ∧ r ≤ 10000 ∧ p ≤ 90 ∧ d ≤ 86399 :=
  ⟨hd 2, inTxn [.ensSetSlew (hd 4) 7, .claspSetSwap (hd 8) 90 5], { id := 9, staged := [.ensSetSlew (hd 4) 7, .claspSetSwap (hd 8) 90 5] }, 7, 90, 5, by decide⟩

theorem wit_TransactionCommands_6 : ∃ (h : CmdHdr) (s : State) (x : Txn) (r p d : Nat), readyInTxn { op := 0x0402, plen := 2, who := .any } h s x ∧ x.staged = [.ensSetSlew (hdr0 h 4) r, .claspSetSwap (hdr0 h 8) p d] ∧ h.fn = 0 ∧ s.paired = false ∧ 1 ≤ r ∧ r ≤ 10000 ∧ 90 < p :=
  ⟨hd 2, inTxn [.ensSetSlew (hd 4) 7, .claspSetSwap (hd 8) 91 5], { id := 9, staged := [.ensSetSlew (hd 4) 7, .claspSetSwap (hd 8) 91 5] }, 7, 91, 5, by decide⟩

theorem wit_TransactionCommands_7 : ∃ (h : CmdHdr) (s : State) (n : Nat), ready { op := 0x0404, plen := 1, who := .any } h s ∧ n < 64 ∧ (((s.fn h.fn).sems.look {} n).st = .free ∨ ((s.fn h.fn).sems.look {} n).st = .abandoned) :=
  ⟨hd 1, base, 63, by decide⟩

theorem wit_TransactionCommands_8 : ∃ (h : CmdHdr) (s : State) (n : Nat), ready { op := 0x0404, plen := 1, who := .any } h s ∧ n < 64 ∧ ((s.fn h.fn).sems.look {} n).st = .held :=
  ⟨hd 1, { base with mbx := { base.mbx with fns := [(0, { fnOne with sems := [(5, { st := .held })] })] } }, 5, by decide⟩

theorem wit_TransactionCommands_9 : ∃ (h : CmdHdr) (s : State) (n g : Nat), ready { op := 0x0405, plen := 4, who := .any } h s ∧ n < 64 ∧ (s.fn h.fn).sems.look {} n = { st := .held, owner := h.queue, gen := g } :=
  ⟨hd 4, { base with mbx := { base.mbx with fns := [(0, { fnOne with sems := [(5, { st := .held, gen := 8 }), (6, { st := .held })] })] } }, 5, 8, by decide⟩

theorem wit_TransactionCommands_10 : ∃ (h : CmdHdr) (s : State) (n g : Nat), ready { op := 0x0405, plen := 4, who := .any } h s ∧ n < 64 ∧ ((((s.fn h.fn).sems.look {} n).st ≠ .held ∨ ((s.fn h.fn).sems.look {} n).owner ≠ h.queue ∨ ((s.fn h.fn).sems.look {} n).gen ≠ g)) :=
  ⟨hd 4, base, 5, 0, by decide⟩

theorem wit_FaultLogAndStoreCommands_1 : ∃ (h : CmdHdr) (s : State) (w : Nat) (m : BitVec 32), ready { op := 0x4101, plen := 8, action := true } h s ∧ w < 16 :=
  ⟨hd 8, { base with fault := { base.fault with sticky := [(15, 7)], live := [(15, 2)], logged := [(15, 7)] } }, 15, 6, by decide⟩

theorem wit_FaultLogAndStoreCommands_2 : ∃ (h : CmdHdr) (s : State), ready { op := 0x4141, xbOut := true } h s ∧ 128 ≤ h.xlen :=
  ⟨hx 0, base, by decide⟩

theorem wit_FaultLogAndStoreCommands_3 : ∃ (h : CmdHdr) (s : State) (a m : Nat), ready { op := 0x4241, plen := 8, xbOut := true } h s ∧ ((s.mgmt.log.filter fun e => decide (a ≤ e.lseq)).take m).length * 64 ≤ h.xlen ∧ (s.mgmt.log.all fun e => decide (e.detail.bits ≤ 192)) = true :=
  ⟨hx 8, { base with mgmt := { base.mgmt with log := [{ lseq := 3 }, { lseq := 4, detail := [fld 16 5] }] } }, 4, 10, by decide⟩

theorem wit_FaultLogAndStoreCommands_4 : ∃ (h : CmdHdr) (s : State), ready { op := 0x4242 } h s :=
  ⟨hd 0, base, by decide⟩

theorem wit_FaultLogAndStoreCommands_5 : ∃ (h : CmdHdr) (s : State) (c : Nat), ready { op := 0x4301, plen := 4, action := true } h s ∧ c = s.mbx.epoch ^^^ 0x43464721 :=
  ⟨hd 4, base, 0x43464720, by decide⟩

theorem wit_FaultLogAndStoreCommands_6 : ∃ (h : CmdHdr) (s : State) (c : Nat), ready { op := 0x4301, plen := 4, action := true } h s ∧ c ≠ s.mbx.epoch ^^^ 0x43464721 :=
  ⟨hd 4, base, 5, by decide⟩

theorem wit_FaultLogAndStoreCommands_7 : ∃ (h : CmdHdr) (s : State), ready { op := 0x4341, xbOut := true } h s ∧ 40 + 16 * s.mgmt.recs.length ≤ h.xlen :=
  ⟨hx 0, { base with mgmt := { base.mgmt with recs := [(5, {})] } }, by decide⟩

theorem wit_StateAndLoupeCommands_1 : ∃ (h : CmdHdr) (s : State), ready { op := 0x0341, plen := 8, who := .any, xbOut := true } h s ∧ h.fn = 0 ∧ 16 ≤ h.xlen :=
  ⟨hx 8, { base with pwr := { base.pwr with latch := 5, tcount := 7 } }, by decide⟩

theorem wit_StateAndLoupeCommands_2 : ∃ (h : CmdHdr) (s : State) (i k n : Nat), ready { op := 0x0341, plen := 8, who := .any, xbOut := true } h s ∧ h.fn = 0 ∧ 16 ≤ h.xlen ∧ resourceOf i = some (k, n) :=
  ⟨hx 8, base, 97, 1, 0, by decide⟩

theorem wit_StateAndLoupeCommands_3 : ∃ (h : CmdHdr) (s : State) (i n : Nat) (x : Block), ready { op := 0x0341, plen := 8, who := .any, xbOut := true } h s ∧ h.fn = 0 ∧ i < 20 ∧ i ≠ 2 ∧ s.blocks[i]? = some x :=
  ⟨hx 8, base, 0, 5, .timeCore base.tc, by decide⟩

theorem wit_StateAndLoupeCommands_4 : ∃ (h : CmdHdr) (s : State), ready { op := 0x0342, who := .any, xbOut := true } h s :=
  ⟨hx 0, base, by decide⟩

theorem wit_StateAndLoupeCommands_5 : ∃ (h : CmdHdr) (s : State) (b z : Nat), ready { op := 0x4001, plen := 4 } h s ∧ b < 320 ∧ loupeGrantable s b z = true ∧ (((s.loupe.banks.look {} b).grantee = none ∨ (s.loupe.banks.look {} b).grantee = some z)) :=
  ⟨hd 4, { base with bez := { base.bez with portOwner := [(5, 7)] } }, 5, 7, by decide⟩

theorem wit_StateAndLoupeCommands_6 : ∃ (h : CmdHdr) (s : State) (b z : Nat), ready { op := 0x4001, plen := 4 } h s ∧ b < 320 ∧ loupeGrantable s b z = true :=
  ⟨hd 4, { base with loupe := { base.loupe with banks := [(319, { grantee := some 63 })], armed := [(10208, {}), (5, {})] } }, 319, 63, by decide⟩

theorem wit_StateAndLoupeCommands_7 : ∃ (h : CmdHdr) (s : State) (b m w : Nat), ready { op := 0x4002, plen := 8 } h s ∧ b < 320 ∧ m ≤ 2 ∧ ((m = 0 ∨ 1 ≤ w ∧ w ≤ 10000)) ∧ ((m = 1 → b < 256)) ∧ ((m = 2 → 256 ≤ b)) :=
  ⟨hd 8, { base with loupe := { base.loupe with ctr := [(24, 7), (31, 8)] } }, 0, 1, 10000, by decide⟩

theorem wit_StateAndLoupeCommands_8 : ∃ (h : CmdHdr) (s : State) (c q v x : Nat), ready { op := 0x4003, plen := 16, who := .granted, action := true } h s ∧ c < 10240 ∧ q ≤ 1 ∧ v < 64 ∧ x < 2 ^ 48 ∧ loupePresetOwn h s c = true ∧ ((24 ≤ c % 32 → (s.loupe.banks.look {} (c / 32)).mode = 0)) :=
  ⟨hd 16, base, 10239, 1, 63, 2 ^ 48 - 1, by decide⟩

theorem wit_StateAndLoupeCommands_9 : ∃ (h : CmdHdr) (s : State) (a n : Nat), ready { op := 0x4041, plen := 4, who := .granted, xbOut := true } h s ∧ 1 ≤ n ∧ n ≤ 1024 ∧ a + n ≤ 10240 ∧ ((h.fn = 0 ∨ ((List.range n).all fun i => decide ((s.loupe.banks.look {} ((a + i) / 32)).grantee = some h.fn)) = true)) ∧ 8 * n ≤ h.xlen :=
  ⟨hx 4, { base with loupe := { base.loupe with ctr := [(10239, 9)] } }, 10238, 2, by decide⟩

theorem wit_StateAndLoupeCommands_10 : ∃ (s : State) (b : Nat) (k : LoupeBank), s.alive = true ∧ s.loupe.banks.look {} b = k ∧ k.mode = 1 ∧ k.window ≠ 0 ∧ (s.tc.snap.sec * 1000 + s.tc.snap.ns / 1000000) % k.window = 0 :=
  ⟨{ base with loupe := { base.loupe with banks := [(255, { mode := 1, window := 10, windows := 3, acc := [(0, 5), (3, 6)] })], ctr := [(8188, 4), (8189, 9)] }, tc := { base.tc with snap := { base.tc.snap with sec := 7, ns := 20000000 } } }, 255, { mode := 1, window := 10, windows := 3, acc := [(0, 5), (3, 6)] }, by decide⟩

theorem wit_StateAndLoupeCommands_11 : ∃ (s : State) (k : LoupeBank), s.alive = true ∧ s.loupe.banks.look {} 256 = k ∧ k.mode = 2 ∧ k.window ≠ 0 ∧ (s.tc.snap.sec * 1000 + s.tc.snap.ns / 1000000) % k.window = 0 :=
  ⟨{ base with loupe := { base.loupe with banks := [(256, { mode := 2, window := 7, acc := [(1, 5), (3, 6), (4, 9)] })] }, tc := { base.tc with snap := { base.tc.snap with sec := 7, ns := 0 } } }, { mode := 2, window := 7, acc := [(1, 5), (3, 6), (4, 9)] }, by decide⟩

theorem wit_StateAndLoupeCommands_12 : ∃ (s : State) (b : Nat), s.alive = true ∧ (((s.loupe.banks.look {} b).mode = 0 ∨ (s.loupe.banks.look {} b).window = 0 ∨ (s.tc.snap.sec * 1000 + s.tc.snap.ns / 1000000) % (s.loupe.banks.look {} b).window ≠ 0)) :=
  ⟨{ base with loupe := { base.loupe with banks := [(255, { mode := 1, window := 10 })] }, tc := { base.tc with snap := { base.tc.snap with sec := 7, ns := 1000000 } } }, 255, by decide⟩

theorem wit_StepRunsFrontCommand_1 : ∃ (c : Instr) (r : List Instr) (s : State), s.pending = c :: r :=
  ⟨.claimChange, [.moscLoss], { base with pending := [.claimChange, .moscLoss] }, by decide⟩

theorem wit_IdleStepIsOneTimeClockCycle_1 : ∃ (s : State), s.pending = [] ∧ s.alive = true ∧ s.tc.mtc.running = true ∧ s.tc.step = none ∧ s.tc.mtc.slew = none ∧ s.tc.mtc.units + 2 ^ 22 < 2 ^ 48 * unitsPerSec ∧ s.tc.mtc.freq.natAbs ≤ 2 ^ 47 ∧ s.tc.mtc.res.natAbs < 343597383680 :=
  ⟨{ base with tc := { base.tc with mtc := { base.tc.mtc with freq := -140737488355328, res := -343597383679, k := 2 } } }, by decide⟩

theorem wit_IdleStepIsOneTimeClockCycle_2 : ∃ (s : State), s.pending = [] ∧ (s.tc.mtc.running = false ∨ s.alive = false) :=
  ⟨State.reset, by decide⟩

theorem wit_IdleStepIsOneTimeClockCycle_3 : ∃ (s : State) (p : PendStep), s.pending = [] ∧ s.tc.step = some p ∧ p.due * unitsPerSec ≤ s.tc.mtc.units :=
  ⟨{ base with tc := { base.tc with step := some { sec := 1, due := 1000 } } }, { sec := 1, due := 1000 }, by decide⟩

theorem wit_StepKeepsTheInvariant_1 : ∃ (s t : State), Inv s ∧ step s = .next t :=
  ⟨{ base with pending := [.imageHashCheck true] }, base, by repeat (first | apply And.intro | decide +kernel | exact rfl)⟩

theorem wit_WhatNoCommandChanges_1 : ∃ (c : Instr) (s t : State), exec c s = .next t :=
  ⟨.imageHashCheck true, base, base, by repeat (first | apply And.intro | decide +kernel | exact rfl)⟩

theorem wit_WhatNoCommandChanges_2 : ∃ (c : Instr) (s t : State), exec c s = .next t :=
  ⟨.imageHashCheck true, base, base, by repeat (first | apply And.intro | decide +kernel | exact rfl)⟩

theorem wit_WhatNoCommandChanges_3 : ∃ (c : Instr) (s t : State), exec c s = .next t ∧ s.isSealed = true :=
  ⟨.imageHashCheck true, { base with pwr := { base.pwr with fuses := 2 } }, { base with pwr := { base.pwr with fuses := 2 } }, by repeat (first | apply And.intro | decide +kernel | exact rfl)⟩

theorem wit_WhatNoCommandChanges_4 : ∃ (c : Instr) (s t : State), exec c s = .next t ∧ movesTime c = false :=
  ⟨.imageHashCheck true, base, base, by repeat (first | apply And.intro | decide +kernel | exact rfl)⟩

theorem wit_LifeOfACommand_1 : ∃ (i : Instr) (s : State) (h : CmdHdr) (m : CmdMeta) (j : Judged), judged i s = some (h, m, j) ∧ j.effects = false ∧ ((s.fn h.fn).q h.queue).inflight = [] :=
  ⟨.ensSetSlew (hd 4) 0, base, hd 4, { op := 0x1207, plen := 4, mirrored := true }, { status := .arg }, by decide⟩

theorem wit_LifeOfACommand_2 : ∃ (i : Instr) (s : State) (h : CmdHdr) (m : CmdMeta) (j : Judged), judged i s = some (h, m, j) ∧ s.bezelServes h.fn = true ∧ (s.fn h.fn).frozen = true :=
  ⟨.sysReadInfo (hd 0), { base with mbx := { base.mbx with fns := [(0, { fnOne with frozen := true })] } }, hd 0, { op := 0x0141, who := .any }, { status := .frozen }, by decide⟩

theorem wit_LifeOfACommand_3 : ∃ (i : Instr) (s : State) (h : CmdHdr) (m : CmdMeta) (j : Judged) (x : Txn), judged i s = some (h, m, j) ∧ j.effects = true ∧ staging m h s = true ∧ ((s.fn h.fn).q h.queue).inflight = [] ∧ ((s.fn h.fn).q h.queue).txn = some x ∧ x.staged.length < 64 :=
  ⟨.ensSetSlew (hd 4) 7, inTxn [.ensSetSlew (hd 4) 5], hd 4, { op := 0x1207, plen := 4, mirrored := true }, {}, { id := 9, staged := [.ensSetSlew (hd 4) 5] }, by decide⟩

theorem wit_LifeOfACommand_4 : ∃ (i : Instr) (s : State) (h : CmdHdr) (m : CmdMeta) (j : Judged), judged i s = some (h, m, j) ∧ j.effects = true ∧ staging m h s = false ∧ m.mirrored = true ∧ s.clasp.st = .active ∧ ((s.fn h.fn).q h.queue).inflight = [] :=
  ⟨.ensSetSlew (hd 4) 7, { base with clasp := { base.clasp with st := .active, mirror := [{}] } }, hd 4, { op := 0x1207, plen := 4, mirrored := true }, {}, by decide⟩

theorem wit_CommitTakesTheShadowAtEntryZero_1 : ∃ (h : CmdHdr) (s : State), ready { op := 0x2503, mirrored := true, action := true } h s ∧ s.sta.commit = false :=
  ⟨hd 0, { base with sta := { base.sta with shadow := { owner := [(3, 5)] } } }, by decide⟩

theorem wit_CommitTakesTheShadowAtEntryZero_2 : ∃ (s : State), s.alive = true ∧ s.sta.commit = true ∧ s.sta.pointer = 511 :=
  ⟨{ base with sta := { base.sta with shadow := { owner := [(3, 5)] }, commit := true, pointer := 511, counter := [(5, 9)] } }, by decide⟩

theorem wit_CommitTakesTheShadowAtEntryZero_3 : ∃ (s : State) (n : Nat), s.alive = true ∧ s.sta.commit = true ∧ s.sta.pointer + n < 512 :=
  ⟨{ base with sta := { base.sta with shadow := { owner := [(3, 5)] }, commit := true, pointer := 500 } }, 11, by decide⟩

theorem wit_CommitTakesTheShadowAtEntryZero_4 : ∃ (s : State), s.alive = true ∧ s.sta.commit = true ∧ s.sta.pointer = 0 :=
  ⟨{ base with sta := { base.sta with shadow := { owner := [(3, 5)] }, commit := true } }, by decide⟩

theorem wit_CommitTakesTheShadowAtEntryZero_5 : ∃ (h : CmdHdr) (s : State), ready { op := 0x2503, mirrored := true, action := true } h s ∧ s.sta.commit = true :=
  ⟨hd 0, { base with sta := { base.sta with commit := true } }, by decide⟩

theorem wit_RandomBytesFromLK_1 : ∃ (h : CmdHdr) (s : State) (n : Nat), ready { op := 0x2243, plen := 2, who := .any, xbOut := true } h s ∧ 1 ≤ n ∧ n ≤ 256 ∧ n ≤ h.xlen ∧ (s.keys.drbgs.look {} 0).error = false :=
  ⟨hx 2, base, 256, by decide⟩

theorem wit_RandomBytesFromLK_2 : ∃ (h : CmdHdr) (s : State) (n : Nat), ready { op := 0x2243, plen := 2, who := .any, xbOut := true } h s ∧ (n = 0 ∨ 256 < n) :=
  ⟨hx 2, base, 257, by decide⟩

end Sys2Proof.Tests
end

section
/-! SUPPORT. Which operations leave the Time Core alone, one lemma per operation of the model, in the order of the model. -/

namespace Sys2Proof.Machine

@[simp] theorem ite_tc (c : Prop) [Decidable c] (a b : State) : (if c then a else b).tc = if c then a.tc else b.tc := apply_ite _ _ _ _

/-- A fold whose every step keeps the Time Core keeps it. -/
@[simp] theorem foldl_tc {α : Type} (l : List α) (g : State → α → State) (s : State) (hg : ∀ t x, (g t x).tc = t.tc) : (l.foldl g s).tc = s.tc := by
  induction l generalizing s with
  | nil => rfl
  | cons x r ih => rw [List.foldl_cons, ih, hg]

theorem Quiet.tc {s t : State} (h : Quiet s t) : t.tc = s.tc := by rw [h.rest]

@[simp] theorem store_value_tc (s : State) (k i : Nat) (o : Option NvValue) : (s.store k i o).tc = s.tc := (rfl)

@[simp] theorem logPartner_detail_tc (s : State) (c q v : Nat) (d : Rec) : (s.logPartner c q v d).tc = s.tc := by rw [logPartner_rest]

/-! ### Machine/CmdFlow -/

@[simp] theorem completeOne_tc (b q : Nat) (seq tag : Nat) (status : Status) (staged : Bool) (result xb : Rec) (s : State) : (completeOne b q seq tag status staged result xb s).tc = s.tc := by simp [completeOne]

/-! ### Machine/Flags -/

@[simp] theorem reportFreeze_tc (s : State) (b kind index row object : Nat) : (s.reportFreeze b kind index row object).tc = s.tc := (reportFreeze_quiet s b kind index row object).tc

/-! ### Machine/Ops -/

@[simp] theorem onBezel_tc (s : State) (b : Nat) (f : BezelRow → BezelRow) : (s.onBezel b f).tc = s.tc := (rfl)

/-! ### Machine/Flags -/

@[simp] theorem freezeMaster_tc (s : State) (b kind index row : Nat) (object : Nat) : (s.freezeMaster b kind index row object).tc = s.tc := by simp [State.freezeMaster]

/-! ### Machine/TmOps -/

@[simp] theorem onPring_tc (s : State) (hd : Nat) (f : PortRing → PortRing) : (s.onPring hd f).tc = s.tc := (rfl)

@[simp] theorem backDesc_tc (s : State) (hd place : Nat) (b : DescBack) : (s.backDesc hd place b).tc = s.tc := by
  unfold State.backDesc
  split <;> simp

@[simp] theorem backFrame_tc (s : State) (f : TxFrame) (status : Nat) : (s.backFrame f status).tc = s.tc := by
  unfold State.backFrame
  split <;> simp

@[simp] theorem onShaper_tc (s : State) (kind i : Nat) (f : Shaper → Shaper) : (s.onShaper kind i f).tc = s.tc := (rfl)

@[simp] theorem setPhase_tc (s : State) (kind i : Nat) (ph : ShaperPhase) : (s.setPhase kind i ph).tc = s.tc := by simp [State.setPhase]

@[simp] theorem followShapers_tc (s : State) (p : Nat) (f : TxFrame) : (s.followShapers p f).tc = s.tc := by simp [State.followShapers]

@[simp] theorem onSvcQ_tc (s : State) (p c : Nat) (f : SvcQueue → SvcQueue) : (s.onSvcQ p c f).tc = s.tc := (rfl)

@[simp] theorem onTmBez_tc (s : State) (b : Nat) (f : TmBezel → TmBezel) : (s.onTmBez b f).tc = s.tc := (rfl)

@[simp] theorem takeCells_tc (s : State) (b n : Nat) : (s.takeCells b n).tc = s.tc := (rfl)

@[simp] theorem enqueue_tc (s : State) (p : Nat) (f : TxFrame) : (s.enqueue p f).tc = s.tc := by
  unfold State.enqueue
  split <;> simp

/-! ### Machine/PortOps -/

@[simp] theorem takeDesc_tc (s : State) (hd : Nat) : (s.takeDesc hd).tc = s.tc := by
  unfold State.takeDesc
  dsimp only
  (repeat' split) <;> simp

/-! ### Machine/StaOps -/

@[simp] theorem passEntry_tc (s : State) : (s.passEntry).tc = s.tc := (rfl)

@[simp] theorem applyCommit_tc (s : State) : (s.applyCommit).tc = s.tc := (rfl)

/-! ### Machine/Sta -/

@[simp] theorem onKey_tc (s : State) (k : Nat) (f : KeySlot → KeySlot) : (s.onKey k f).tc = s.tc := (rfl)

@[simp] theorem retireKey_tc (s : State) (k : Nat) (st : SlotKeyState) : (s.retireKey k st).tc = s.tc := (rfl)

@[simp] theorem useKey_tc (s : State) (k : Nat) : (s.useKey k).tc = s.tc := by simp [State.useKey]

/-! ### Machine/Key -/

@[simp] theorem draw_tc (s : State) (unit : Nat) : (s.draw unit).tc = s.tc := (rfl)

/-! ### Machine/Flags -/

@[simp] theorem derive_tc (s : State) (bank mode pos n : Nat) : (s.derive bank mode pos n).tc = s.tc := by simp [State.derive]

@[simp] theorem freezeFn_tc (s : State) (b row : Nat) (object : Nat) : (s.freezeFn b row object).tc = s.tc := by simp [State.freezeFn]

@[simp] theorem setPower_tc (s : State) (p : PowerState) : (s.setPower p).tc = s.tc := by simp [State.setPower]

@[simp] theorem followHealth_tc (s : State) : (s.followHealth).tc = s.tc := by simp [State.followHealth]

@[simp] theorem replaceN_tc (s : State) : (s.replaceN).tc = s.tc := (rfl)

@[simp] theorem icuTake_tc (s : State) (target : Nat) : (s.icuTake target).tc = s.tc := by
  unfold State.icuTake
  split <;> simp

@[simp] theorem setPin_tc (s : State) (word bitNo : Nat) (wiring : Bool) : (s.setPin word bitNo wiring).tc = s.tc := (rfl)

@[simp] theorem clearPin_tc (s : State) (word bitNo : Nat) : (s.clearPin word bitNo).tc = s.tc := (rfl)

@[simp] theorem fireMp_tc (s : State) : (s.fireMp).tc = s.tc := by simp [State.fireMp]

@[simp] theorem addCause_tc (s : State) (code : Nat) (replace : Bool) : (s.addCause code replace).tc = s.tc := by simp [State.addCause]

@[simp] theorem dropCause_tc (s : State) (code : Nat) : (s.dropCause code).tc = s.tc := by simp [State.dropCause]

@[simp] theorem hallDue_tc (s : State) (ps : List Nat) : (s.hallDue ps).tc = s.tc := (rfl)

@[simp] theorem hallWiden_tc (s : State) (ps : List Nat) : (s.hallWiden ps).tc = s.tc := (rfl)

@[simp] theorem hallDueAll_tc (s : State) : (s.hallDueAll).tc = s.tc := (rfl)

@[simp] theorem writeBoot_tc (s : State) (old : Option NvValue) : (s.writeBoot old).tc = s.tc := (rfl)

/-! ### Machine/CmdFlow -/

@[simp] theorem fetchEntry_tc (e : CmdEntry) (s : State) : (fetchEntry e s).tc = s.tc := (rfl)

@[simp] theorem settle_tc (b q n : Nat) (s : State) : (settle b q n s).tc = s.tc := by
  induction n generalizing s with
  | zero => rfl
  | succ n ih =>
    unfold settle
    split
    · rfl
    · simp [ih]

@[simp] theorem complete_tc (b q : Nat) (seq tag : Nat) (status : Status) (staged : Bool) (result xb : Rec) (s : State) : (complete b q seq tag status staged result xb s).tc = s.tc := by simp [complete]

@[simp] theorem mirrorItem_tc (h : CmdHdr) (asSet : Bool) (cmds : List Instr) (seq : Nat) (o : CmdOut) (s : State) : (mirrorItem h asSet cmds seq o s).tc = s.tc := (rfl)

/-! ### Machine/RefOps -/

@[simp] theorem onIn_tc (s : State) (r : Nat) (f : RefIn → RefIn) : (s.onIn r f).tc = s.tc := (rfl)

@[simp] theorem onPps_tc (s : State) (n : Nat) (f : PpsIn → PpsIn) : (s.onPps n f).tc = s.tc := (rfl)

@[simp] theorem onTci_tc (s : State) (n : Nat) (f : TcIn → TcIn) : (s.onTci n f).tc = s.tc := (rfl)

@[simp] theorem onNref_tc (s : State) (n : Nat) (f : NrefIn → NrefIn) : (s.onNref n f).tc = s.tc := (rfl)

@[simp] theorem onPend_tc (s : State) (n : Nat) (f : PendIn → PendIn) : (s.onPend n f).tc = s.tc := (rfl)

@[simp] theorem countRef_tc (s : State) (r cause n : Nat) : (s.countRef r cause n).tc = s.tc := (rfl)

@[simp] theorem raiseMosc_tc (s : State) (old : InState) : (s.raiseMosc old).tc = s.tc := (rfl)

@[simp] theorem setIn_tc (s : State) (r : Nat) (st : InState) : (s.setIn r st).tc = s.tc := by simp [State.setIn]

@[simp] theorem rejectIn_tc (s : State) (r : Nat) : (s.rejectIn r).tc = s.tc := by
  unfold State.rejectIn
  dsimp only
  (repeat' split) <;> simp

@[simp] theorem loseIn_tc (s : State) (r : Nat) : (s.loseIn r).tc = s.tc := by
  unfold State.loseIn
  dsimp only
  (repeat' split) <;> simp

@[simp] theorem goodIn_tc (s : State) (r need : Nat) : (s.goodIn r need).tc = s.tc := by
  unfold State.goodIn
  dsimp only
  (repeat' split) <;> simp

@[simp] theorem configureIn_tc (s : State) (r : Nat) : (s.configureIn r).tc = s.tc := by simp [State.configureIn]

@[simp] theorem deconfigureIn_tc (s : State) (r : Nat) : (s.deconfigureIn r).tc = s.tc := by simp [State.deconfigureIn]

@[simp] theorem missIn_tc (s : State) (r : Nat) : (s.missIn r).tc = s.tc := by simp [State.missIn]

@[simp] theorem checkIndicated_tc (s : State) (source : Nat) (i : LeapInd) : (s.checkIndicated source i).tc = s.tc := by simp [State.checkIndicated]

@[simp] theorem ppsEdge_tc (s : State) (n : Nat) (t : Int) (coarse : Bool) : (s.ppsEdge n t coarse).tc = s.tc := by
  unfold State.ppsEdge
  dsimp only
  (repeat' split) <;> simp

@[simp] theorem steerPend_tc (s : State) (n : Nat) (y : Int) : (s.steerPend n y).tc = s.tc := by simp [State.steerPend]

@[simp] theorem pendMalformed_tc (s : State) (n : Nat) : (s.pendMalformed n).tc = s.tc := by simp [State.pendMalformed]

@[simp] theorem pendHealth_tc (s : State) (n : Nat) (b : List (BitVec 8)) : (s.pendHealth n b).tc = s.tc := by simp [State.pendHealth]

@[simp] theorem pendAck_tc (s : State) (n : Nat) (b : List (BitVec 8)) : (s.pendAck n b).tc = s.tc := by simp [State.pendAck]

/-! ### Machine/Bound -/

@[simp] theorem onRa_tc (s : State) (r : Nat) (f : RefAssay → RefAssay) : (s.onRa r f).tc = s.tc := (rfl)

@[simp] theorem resetModel_tc (s : State) (r : Nat) : (s.resetModel r).tc = s.tc := (rfl)

@[simp] theorem followRow_tc (s : State) (r : Nat) : (s.followRow r).tc = s.tc := by simp [State.followRow]

@[simp] theorem checkSteer_tc (s : State) (n : Nat) : (s.checkSteer n).tc = s.tc := by simp [State.checkSteer]

/-! ### Machine/FilOps -/

@[simp] theorem onChan_tc (s : State) (c : Nat) (f : FilChan → FilChan) : (s.onChan c f).tc = s.tc := (rfl)

@[simp] theorem onRing_tc (s : State) (r : Nat) (f : FilRing → FilRing) : (s.onRing r f).tc = s.tc := (rfl)

@[simp] theorem onEng_tc (s : State) (d : Nat) (f : DiffEng → DiffEng) : (s.onEng d f).tc = s.tc := (rfl)

@[simp] theorem countChan_tc (s : State) (c k : Nat) : (s.countChan c k).tc = s.tc := (rfl)

@[simp] theorem countEng_tc (s : State) (d k n : Nat) : (s.countEng d k n).tc = s.tc := (rfl)

@[simp] theorem join_tc (s : State) (c : Nat) (u : FilUser) : (s.join c u).tc = s.tc := by simp [State.join]

@[simp] theorem leave_tc (s : State) (c : Nat) (u : FilUser) : (s.leave c u).tc = s.tc := (rfl)

@[simp] theorem moveReader_tc (s : State) (c : Nat) (u : FilUser) (pos : Nat) : (s.moveReader c u pos).tc = s.tc := (rfl)

/-! ### Machine/OutOps -/

@[simp] theorem onLoop_tc (s : State) (l : Nat) (f : OutLoop → OutLoop) : (s.onLoop l f).tc = s.tc := (rfl)

@[simp] theorem onPin_tc (s : State) (key : Nat) (f : OutPin → OutPin) : (s.onPin key f).tc = s.tc := (rfl)

@[simp] theorem followPin_tc (s : State) (key : Nat) : (s.followPin key).tc = s.tc := by simp [State.followPin]

@[simp] theorem followPins_tc (s : State) : s.followPins.tc = s.tc := foldl_tc _ _ _ fun _ _ => followPin_tc _ _

@[simp] theorem setLoop_tc (s : State) (l : Nat) (st : LoopState) : (s.setLoop l st).tc = s.tc := by simp [State.setLoop]

@[simp] theorem loseLoop_tc (s : State) (l cause : Nat) : (s.loseLoop l cause).tc = s.tc := by simp [State.loseLoop]

@[simp] theorem startLoops_tc (s : State) : s.startLoops.tc = s.tc := foldl_tc _ _ _ fun t l => by simp

@[simp] theorem moveTarget_tc (s : State) (key : Nat) (d : Rat) : (s.moveTarget key d).tc = s.tc := by simp [State.moveTarget]

@[simp] theorem offsetEffect_tc (s : State) (key : Nat) : (s.offsetEffect key).tc = s.tc := by
  unfold State.offsetEffect
  dsimp only
  (repeat' split) <;> simp

@[simp] theorem stepPins_tc (s : State) (d : Rat) : (s.stepPins d).tc = s.tc := foldl_tc _ _ _ fun t k => by simp

/-! ### Machine/LaOps -/

@[simp] theorem onTap_tc (s : State) (t : Nat) (f : LaTap → LaTap) : (s.onTap t f).tc = s.tc := (rfl)

@[simp] theorem onSlot_tc (s : State) (n : Nat) (f : LaSlot → LaSlot) : (s.onSlot n f).tc = s.tc := (rfl)

@[simp] theorem countTap_tc (s : State) (t k : Nat) : (s.countTap t k).tc = s.tc := (rfl)

@[simp] theorem countSlot_tc (s : State) (n k : Nat) : (s.countSlot n k).tc = s.tc := (rfl)

@[simp] theorem setTap_tc (s : State) (n : Nat) (st : TapState) : (s.setTap n st).tc = s.tc := by simp [State.setTap]

@[simp] theorem deliver_tc (s : State) (n : Nat) (l : List LaRecord) : (s.deliver n l).tc = s.tc := (rfl)

@[simp] theorem emitLa_tc (s : State) (n : Nat) (x : LaRecord) : (s.emitLa n x).tc = s.tc := by simp [State.emitLa]

@[simp] theorem slotAt_tc (s : State) (n : Nat) (m : LaModel) (st : TapState) (quarter : Nat) : (s.slotAt n m st quarter).tc = s.tc := by simp [State.slotAt]

@[simp] theorem checkOne_tc (n : Nat) (m : LaModel) (s : State) (x : FiredEvent) : (State.checkOne n m s x).tc = s.tc := by simp [State.checkOne]

@[simp] theorem checkFired_tc (s : State) (tap n : Nat) (m : LaModel) : (s.checkFired tap n m).tc = s.tc := by simp [State.checkFired]

@[simp] theorem slotsAt_tc (s : State) (n : Nat) : (s.slotsAt n).tc = s.tc := by
  unfold State.slotsAt
  dsimp only
  (repeat' split) <;> simp

@[simp] theorem releaseLa_tc (s : State) (n : Nat) : (s.releaseLa n).tc = s.tc := by simp [State.releaseLa]

/-! ### Machine/TmOps -/

@[simp] theorem onPort_tc (s : State) (p : Nat) (f : PortSt → PortSt) : (s.onPort p f).tc = s.tc := (rfl)

@[simp] theorem onMeter_tc (s : State) (kind i : Nat) (f : Meter → Meter) : (s.onMeter kind i f).tc = s.tc := (rfl)

@[simp] theorem meet_tc (s : State) (kind i b : Nat) (pre : Colour) (len : Nat) : (s.meet kind i b pre len).2.tc = s.tc := by
  unfold State.meet
  dsimp only
  (repeat' split) <;> simp

@[simp] theorem freeCells_tc (s : State) (b n : Nat) : (s.freeCells b n).tc = s.tc := (rfl)

@[simp] theorem dropFrame_tc (s : State) (f : TxFrame) : (s.dropFrame f).tc = s.tc := (rfl)

@[simp] theorem purge_tc (s : State) (p : Nat) (out : TxFrame → Bool) (act : TxFrame → State → State) (h : ∀ f t, (act f t).tc = t.tc) :
    (s.purge p out act).tc = s.tc := by
  refine foldl_tc _ _ _ fun t c => ?_
  dsimp only
  split
  · rfl
  · exact foldl_tc _ _ _ fun u f => by simp [h]

@[simp] theorem slotRetired_tc (s : State) (pipe b : Nat) : (s.slotRetired pipe b).tc = s.tc := by simp [State.slotRetired]

@[simp] theorem slotWasted_tc (s : State) (b : Nat) : (s.slotWasted b).tc = s.tc := by simp [State.slotWasted]

/-! ### Machine/PortOps -/

@[simp] theorem countDrop_tc (s : State) (p k : Nat) : (s.countDrop p k).tc = s.tc := (rfl)

@[simp] theorem narrowNow_tc (s : State) (p kind : Nat) : (s.narrowNow p kind).tc = s.tc := by simp [State.narrowNow]

@[simp] theorem narrow_tc (s : State) (p kind : Nat) : (s.narrow p kind).tc = s.tc := by simp [State.narrow]

@[simp] theorem stamped_tc (s : State) (p : Nat) : (s.stamped p).tc = s.tc := by simp [State.stamped]

@[simp] theorem portCause_tc (s : State) (p : Nat) : (s.portCause p).tc = s.tc := by simp [State.portCause]

@[simp] theorem launchMiss_tc (s : State) (p : Nat) (f : TxFrame) : (s.launchMiss p f).tc = s.tc := by simp [State.launchMiss]

@[simp] theorem setPort_tc (s : State) (p : Nat) (st : PortState) : (s.setPort p st).tc = s.tc := by simp [State.setPort]

@[simp] theorem enterUp_tc (s : State) (p : Nat) : (s.enterUp p).tc = s.tc := by simp [State.enterUp]

@[simp] theorem followPort_tc (s : State) (p : Nat) : (s.followPort p).tc = s.tc := by
  unfold State.followPort
  dsimp only
  (repeat' split) <;> simp

@[simp] theorem failPort_tc (s : State) (p : Nat) : (s.failPort p).tc = s.tc := by simp [State.failPort]

@[simp] theorem facetRunEnd_tc (s : State) (p : Nat) (tx : Bool) (first : Nat) (hits : List Nat) : (s.facetRunEnd p tx first hits).tc = s.tc := by simp [State.facetRunEnd]

@[simp] theorem facetChange_tc (s : State) (p : Nat) (tx : Bool) (f : Interp → Interp) : (s.facetChange p tx f).tc = s.tc := by simp [State.facetChange]

@[simp] theorem feed_tc (s : State) (hd fuel : Nat) : (s.feed hd fuel).tc = s.tc := by
  induction fuel generalizing s with
  | zero => rfl
  | succ n ih =>
    unfold State.feed
    (repeat' split) <;> simp [ih]

@[simp] theorem releaseRing_tc (s : State) (hd : Nat) : (s.releaseRing hd).1.tc = s.tc := by
  unfold State.releaseRing
  (repeat' split) <;> simp

@[simp] theorem closeRing_tc (s : State) (hd : Nat) : (s.closeRing hd).tc = s.tc := by
  unfold State.closeRing
  split <;> simp

@[simp] theorem flushPort_tc (s : State) (p : Nat) : (s.flushPort p).tc = s.tc := by simp [State.flushPort]

@[simp] theorem startTx_tc (s : State) (p : Nat) : (s.startTx p).tc = s.tc := by
  unfold State.startTx
  dsimp only
  (repeat' split) <;> simp

@[simp] theorem abortTx_tc (s : State) (p : Nat) (f : TxFrame) (status : Nat) : (s.abortTx p f status).tc = s.tc := by simp [State.abortTx]

@[simp] theorem countTx_tc (s : State) (p len : Nat) : (s.countTx p len).tc = s.tc := by simp [State.countTx]

/-! ### Machine/FaultOps -/

@[simp] theorem squelchStart_tc (s : State) : s.squelchStart.tc = s.tc := by
  refine (foldl_tc _ _ _ fun t q => ?_).trans (by simp)
  split <;> simp

@[simp] theorem latchFatal_tc (s : State) : s.latchFatal.tc = s.tc := by simp [State.latchFatal]

@[simp] theorem declareFatal_tc (s : State) : s.declareFatal.tc = s.tc := by simp [State.declareFatal]

@[simp] theorem heartbeat_tc (s : State) : (s.heartbeat).tc = s.tc := (rfl)

@[simp] theorem notice_tc (s : State) (word bitNo : Nat) : (s.notice word bitNo).tc = s.tc := (rfl)

/-! ### Machine/Port -/

@[simp] theorem onLinkUp_tc (port : Nat) (sgmiiMatch : Bool) (s : State) : (onLinkUp port sgmiiMatch s).tc = s.tc := by simp [onLinkUp]

@[simp] theorem onLinkDown_tc (port : Nat) (s : State) : (onLinkDown port s).tc = s.tc := by simp [onLinkDown]

@[simp] theorem onLinkFailedTimeout_tc (port : Nat) (s : State) : (onLinkFailedTimeout port s).tc = s.tc := by simp [onLinkFailedTimeout]

@[simp] theorem onCalibrationDue_tc (port : Nat) (s : State) : (onCalibrationDue port s).tc = s.tc := by simp [onCalibrationDue]

@[simp] theorem onLoopbackRunStart_tc (port : Nat) (s : State) : (onLoopbackRunStart port s).tc = s.tc := by simp [onLoopbackRunStart]

@[simp] theorem onLoopbackRunEnd_tc (port : Nat) (obs : LoopbackObs) (s : State) : (onLoopbackRunEnd port obs s).tc = s.tc := by simp [onLoopbackRunEnd]

@[simp] theorem onPortTemperatureRead_tc (port : Nat) (temp : Rat) (s : State) : (onPortTemperatureRead port temp s).tc = s.tc := by simp [onPortTemperatureRead]

@[simp] theorem onAsymmetryEffect_tc (port : Nat) (s : State) : (onAsymmetryEffect port s).tc = s.tc := by
  unfold onAsymmetryEffect
  split <;> simp

@[simp] theorem onPauseFrame_tc (port quanta : Nat) (forUs fcsOk : Bool) (s : State) : (onPauseFrame port quanta forUs fcsOk s).tc = s.tc := by simp [onPauseFrame]

@[simp] theorem onPauseEnd_tc (port : Nat) (s : State) : (onPauseEnd port s).tc = s.tc := (rfl)

@[simp] theorem onPauseWatchdog_tc (port : Nat) (s : State) : (onPauseWatchdog port s).tc = s.tc := by simp [onPauseWatchdog]

@[simp] theorem onPauseHoldoffEnd_tc (port : Nat) (s : State) : (onPauseHoldoffEnd port s).tc = s.tc := (rfl)

@[simp] theorem onCollision_tc (port : Nat) (late : Bool) (s : State) : (onCollision port late s).tc = s.tc := by
  unfold onCollision
  dsimp only
  (repeat' split) <;> simp

@[simp] theorem onBackoffExpiry_tc (port : Nat) (s : State) : (onBackoffExpiry port s).tc = s.tc := by
  unfold onBackoffExpiry
  dsimp only
  (repeat' split) <;> simp

@[simp] theorem onLpiEntry_tc (port : Nat) (s : State) : (onLpiEntry port s).tc = s.tc := by simp [onLpiEntry]

@[simp] theorem onLpiWake_tc (port : Nat) (s : State) : (onLpiWake port s).tc = s.tc := by simp [onLpiWake]

@[simp] theorem onLpiWakeComplete_tc (port : Nat) (s : State) : (onLpiWakeComplete port s).tc = s.tc := by simp [onLpiWakeComplete]

@[simp] theorem onTransmitStart_tc (port : Nat) (s : State) : (onTransmitStart port s).tc = s.tc := by simp [onTransmitStart]

@[simp] theorem onTransmitComplete_tc (port tb : Nat) (s : State) : (onTransmitComplete port tb s).tc = s.tc := by
  unfold onTransmitComplete
  dsimp only
  (repeat' split) <;> simp

@[simp] theorem onPringDb_tc (fn handle tail : Nat) (descs : List TxDesc) (s : State) : (onPringDb fn handle tail descs s).tc = s.tc := by
  unfold onPringDb
  dsimp only
  (repeat' split) <;> simp

/-! ### Machine/StaOps -/

@[simp] theorem onEng16_tc (s : State) (n : Nat) (f : SigEngine → SigEngine) : (s.onEng16 n f).tc = s.tc := (rfl)

@[simp] theorem isolate_tc (s : State) : (s.isolate).tc = s.tc := by simp [State.isolate]

@[simp] theorem weighReservations_tc (s : State) : (s.weighReservations).tc = s.tc := by simp [State.weighReservations]

@[simp] theorem addJob_tc (s : State) (j : SigJob) : (s.addJob j).tc = s.tc := (rfl)

@[simp] theorem dropJob_tc (s : State) (j : SigJob) : (s.dropJob j).tc = s.tc := (rfl)

@[simp] theorem chargeJob_tc (s : State) (j : SigJob) (how : Nat) : (s.chargeJob j how).tc = s.tc := by simp [State.chargeJob]

@[simp] theorem chargeBeats_tc (s : State) (r beats : Nat) : (s.chargeBeats r beats).tc = s.tc := by simp [State.chargeBeats]

@[simp] theorem giveHints_tc (s : State) (engine : Nat) : (s.giveHints engine).tc = s.tc := by simp [State.giveHints]

@[simp] theorem passEntries_tc (s : State) (n : Nat) : (s.passEntries n).tc = s.tc := by
  induction n generalizing s with
  | zero => rfl
  | succ n ih => simp [State.passEntries, ih]

/-! ### Machine/TseOps -/

@[simp] theorem onSvc_tc (s : State) (n : Nat) (f : Service → Service) : (s.onSvc n f).tc = s.tc := (rfl)

@[simp] theorem countSvc_tc (s : State) (n k : Nat) : (s.countSvc n k).tc = s.tc := (rfl)

@[simp] theorem bumpRct_tc (s : State) (p : Nat) : (s.bumpRct p).tc = s.tc := (rfl)

@[simp] theorem hand_tc (s0 : State) (p : Nat) (f : TxFrame) : (s0.hand p f).tc = s0.tc := by
  unfold State.hand
  dsimp only
  (repeat' split) <;> simp

@[simp] theorem issue_tc (s : State) (pipe : Nat) (e : TseIn) : (s.issue pipe e).tc = s.tc := by simp [State.issue]

@[simp] theorem freeRx_tc (s : State) (e : TseIn) : (s.freeRx e).tc = s.tc := (rfl)

@[simp] theorem onGrant_tc (s : State) (n : Nat) (f : Grant → Grant) : (s.onGrant n f).tc = s.tc := (rfl)

@[simp] theorem endGrant_tc (s : State) (n types : Nat) : (s.endGrant n types).tc = s.tc := (rfl)

@[simp] theorem nextJob_tc (s : State) (w : Work) : (s.nextJob w).tc = s.tc := by
  unfold State.nextJob
  split <;> simp

@[simp] theorem dropWork_tc (s : State) (w : Work) : (s.dropWork w).tc = s.tc := by simp [State.dropWork]

@[simp] theorem signal_tc (s : State) (p svc client code seq : Nat) : (s.signal p svc client code seq).tc = s.tc := by
  unfold State.signal
  split <;> simp

@[simp] theorem place_tc (s0 : State) (p : Nat) (f : TxFrame) : (s0.place p f).tc = s0.tc := by simp [State.place]

/-! ### Machine/FrameIn -/

@[simp] theorem prpKeep_tc (s : State) (p : Nat) (f : RxFrame) : (s.prpKeep p f).2.tc = s.tc := by
  unfold State.prpKeep
  dsimp only
  (repeat' split) <;> simp

@[simp] theorem toRing_tc (s : State) (p i hd : Nat) (f : RxFrame) (trunc : Bool) : (s.toRing p i hd f trunc).tc = s.tc := by
  unfold State.toRing
  dsimp only
  (repeat' split) <;> simp

@[simp] theorem toTse_tc (s : State) (p b : Nat) (f : RxFrame) (trunc : Bool) (c : Colour) : (s.toTse p b f trunc c).tc = s.tc := by simp [State.toTse]

@[simp] theorem onFrameReceived_tc (port : Nat) (f : RxFrame) (s : State) : (onFrameReceived port f s).tc = s.tc := by
  unfold onFrameReceived
  dsimp only
  (repeat' split) <;> simp

theorem pull_tc {s t : State} {port pipe : Nat} {kind : RxFrame → Bool} {e : TseIn} (h : s.pull port kind = some (pipe, e, t)) : t.tc = s.tc := by
  unfold State.pull at h
  obtain ⟨q, -, hq⟩ := List.exists_of_findSome?_eq_some h
  obtain ⟨x, -, hx⟩ := Option.map_eq_some_iff.1 hq
  obtain ⟨rfl, rfl, rfl⟩ := hx
  simp

/-! ### Machine/Tse -/

@[simp] theorem answerPlain_tc (s : State) (port : Nat) (kind : RxFrame → Bool) (k : TxKind) (len : TseIn → Nat) :
    (s.answerPlain port kind k len).tc = s.tc := by
  unfold State.answerPlain
  split
  · rfl
  · next h => simp [pull_tc h]

@[simp] theorem onArpRequest_tc (port address : Nat) (s : State) : (onArpRequest port address s).tc = s.tc := by simp [onArpRequest]

@[simp] theorem onNeighbourSolicitation_tc (port address : Nat) (s : State) : (onNeighbourSolicitation port address s).tc = s.tc := by
  unfold onNeighbourSolicitation
  split
  · split
    · rfl
    · next h => simp [pull_tc h]
  · simp

@[simp] theorem onEchoRequest_tc (port address : Nat) (s : State) : (onEchoRequest port address s).tc = s.tc := by
  unfold onEchoRequest
  dsimp only
  split
  · rfl
  · next h => simp [pull_tc h]

@[simp] theorem onMembershipQuery_tc (port group : Nat) (s : State) : (onMembershipQuery port group s).tc = s.tc := by
  unfold onMembershipQuery
  dsimp only
  split
  · simp
  · split
    · rfl
    · next h => simp [pull_tc h]

@[simp] theorem refuse_tc (s : State) (e : TseIn) (row client : Nat) (pos : Option Nat) : (s.refuse e row client pos).tc = s.tc := by
  unfold State.refuse
  split <;> simp

@[simp] theorem fail_tc (s : State) (w : Work) (row client : Nat) (pos : Option Nat) : (s.fail w row client pos).tc = s.tc := by
  unfold State.fail
  split <;> simp

@[simp] theorem police_tc (s : State) (port sub cls b : Nat) (c : Colour) (len : Nat) : (s.police port sub cls b c len).2.tc = s.tc := by
  unfold State.police
  dsimp only
  (repeat' split) <;> simp

@[simp] theorem freshCookies_tc (s : State) (w : Work) (k : SealTok) (n : Nat) : (s.freshCookies w k n).2.tc = s.tc := by
  induction n generalizing s with
  | zero => rfl
  | succ n ih => simp [State.freshCookies, ih]

@[simp] theorem buildGrant_tc (s : State) (w : Work) (q : UnicastReq) (signed : Bool) : (s.buildGrant w q signed).2.tc = s.tc := by
  unfold State.buildGrant
  split <;> simp

@[simp] theorem buildNtp_tc (s0 : State) (w : Work) (m : NtpReq) : (s0.buildNtp w m).2.tc = s0.tc := by
  unfold State.buildNtp
  dsimp only
  (repeat' split) <;> simp

@[simp] theorem endWork_tc (s : State) (w : Work) : (s.endWork w).tc = s.tc := by simp [State.endWork]

@[simp] theorem putWork_tc (s : State) (w : Work) : (s.putWork w).tc = s.tc := (rfl)

@[simp] theorem stampStage_tc (s : State) (w : Work) (f : TxFrame) : (s.stampStage w f).tc = s.tc := by simp [State.stampStage]

@[simp] theorem advance_tc (s : State) (w : Work) : (s.advance w).tc = s.tc := by
  unfold State.advance
  dsimp only
  (repeat' split) <;> simp

@[simp] theorem begin_tc (s : State) (w : Work) : (s.begin w).tc = s.tc := by simp [State.begin]

@[simp] theorem ptpParse_tc (s : State) (port : Nat) (m : PtpMsg) (k : Nat → TseIn → Nat → Service → Nat → Colour → State → State)
    (hk : ∀ a b c d e f t, (k a b c d e f t).tc = t.tc) : (s.ptpParse port m k).tc = s.tc := by
  unfold State.ptpParse
  split
  · rfl
  · next h =>
    dsimp only
    (repeat' split) <;> simp [pull_tc h, hk]

@[simp] theorem ptpAsk_tc (s : State) (peer : Bool) (port : Nat) (m : PtpMsg) : (s.ptpAsk peer port m).tc = s.tc := by
  refine ptpParse_tc _ _ _ _ fun _ _ _ _ _ _ t => ?_
  dsimp only
  (repeat' split) <;> simp

@[simp] theorem onDelayReq_tc (port : Nat) (m : PtpMsg) (s : State) : (onDelayReq port m s).tc = s.tc := by simp [onDelayReq]

@[simp] theorem onPdelayReq_tc (port : Nat) (m : PtpMsg) (s : State) : (onPdelayReq port m s).tc = s.tc := by simp [onPdelayReq]

@[simp] theorem onRequestUnicastTransmission_tc (port : Nat) (q : UnicastReq) (s : State) : (onRequestUnicastTransmission port q s).tc = s.tc := by
  refine ptpParse_tc _ _ _ _ fun _ _ _ _ _ _ t => ?_
  dsimp only
  (repeat' split) <;> simp

@[simp] theorem originate_tc (s : State) (p n : Nat) (f : TxFrame) (key : Nat) : (s.originate p n f key).tc = s.tc := by simp [State.originate]

@[simp] theorem onCancelUnicastTransmission_tc (port client msgTypes : Nat) (s : State) : (onCancelUnicastTransmission port client msgTypes s).tc = s.tc := by
  unfold onCancelUnicastTransmission
  split
  · rfl
  · next h =>
    dsimp only
    (repeat' split) <;> simp [pull_tc h]

@[simp] theorem onAcknowledgeCancel_tc (port client : Nat) (s : State) : (onAcknowledgeCancel port client s).tc = s.tc := by
  unfold onAcknowledgeCancel
  split
  · rfl
  · next h =>
    dsimp only
    (repeat' split) <;> simp [pull_tc h]

@[simp] theorem onForeignAnnounce_tc (port : Nat) (s : State) : (onForeignAnnounce port s).tc = s.tc := by
  unfold onForeignAnnounce
  split
  · rfl
  · next h =>
    dsimp only
    (repeat' split) <;> simp [pull_tc h]

@[simp] theorem nak_tc (s : State) (w : Work) (m : NtpReq) : (s.nak w m).tc = s.tc := by simp [State.nak]

@[simp] theorem onNtpRequest_tc (port : Nat) (m : NtpReq) (s : State) : (onNtpRequest port m s).tc = s.tc := by
  unfold onNtpRequest
  split
  · rfl
  · next h =>
    dsimp only
    (repeat' split) <;> simp [pull_tc h]

@[simp] theorem afterOpen_tc (s : State) (w : Work) (k : SealTok) (kind : Nat) (bad : State → State) (rest : List (SigStep × Nat × Nat))
    (hb : ∀ t, (bad t).tc = t.tc) : (s.afterOpen w k kind bad rest).tc = s.tc := by simp [State.afterOpen, hb]

@[simp] theorem sealBad_tc (s : State) (w : Work) : (s.sealBad w).tc = s.tc := by
  unfold State.sealBad
  split <;> simp

@[simp] theorem stepOk_tc (s : State) (w : Work) : (s.stepOk w).tc = s.tc := by
  unfold State.stepOk
  dsimp only
  (repeat' split) <;> simp

@[simp] theorem stepBad_tc (s : State) (w : Work) : (s.stepBad w).tc = s.tc := by
  unfold State.stepBad
  split <;> simp

/-! ### Machine/TseOut -/

@[simp] theorem endLaunch_tc (s : State) (f : TxFrame) : (s.endLaunch f).tc = s.tc := by
  unfold State.endLaunch
  split
  · rfl
  · split <;> simp

@[simp] theorem onNtpLaunch_tc (port : Nat) (usable : Bool) (stampError : Rat) (s : State) : (onNtpLaunch port usable stampError s).tc = s.tc := by
  unfold onNtpLaunch
  dsimp only
  (repeat' split) <;> simp

@[simp] theorem onLaunchWaitEligible_tc (pipeline bezel : Nat) (s : State) : (onLaunchWaitEligible pipeline bezel s).tc = s.tc := by
  unfold onLaunchWaitEligible
  dsimp only
  (repeat' split) <;> simp

@[simp] theorem originateAll_tc (s : State) (n p kind type : Nat) (v : Service) (mk : Nat → Nat → Nat → Nat → Bool → TxFrame) : (s.originateAll n p kind type v mk).tc = s.tc := by simp [State.originateAll]

@[simp] theorem onSyncOriginate_tc (service port : Nat) (s : State) : (onSyncOriginate service port s).tc = s.tc := by
  unfold onSyncOriginate
  split <;> simp

@[simp] theorem onAnnounceOriginate_tc (service port : Nat) (s : State) : (onAnnounceOriginate service port s).tc = s.tc := by
  unfold onAnnounceOriginate
  split <;> simp

@[simp] theorem followOn_tc (s : State) (port : Nat) (k up : TxKind) (seq : Nat) : (s.followOn port k up seq).tc = s.tc := by
  unfold State.followOn
  dsimp only
  (repeat' split) <;> simp

@[simp] theorem onFollowUpSend_tc (port seq : Nat) (s : State) : (onFollowUpSend port seq s).tc = s.tc := by simp [onFollowUpSend]

@[simp] theorem onPdelayRespFollowUpSend_tc (port seq : Nat) (s : State) : (onPdelayRespFollowUpSend port seq s).tc = s.tc := by simp [onPdelayRespFollowUpSend]

@[simp] theorem onGrantExpiry_tc (entry : Nat) (s : State) : (onGrantExpiry entry s).tc = s.tc := by simp [onGrantExpiry]

@[simp] theorem onCancelTimeout_tc (entry : Nat) (s : State) : (onCancelTimeout entry s).tc = s.tc := by simp [onCancelTimeout]

/-! ### Machine/Sta -/

@[simp] theorem orphan_tc (s : State) (k : Nat) : (s.orphan k).tc = s.tc := by simp [State.orphan]

@[simp] theorem tagFailed_tc (s : State) (k : Nat) : (s.tagFailed k).tc = s.tc := by simp [State.tagFailed]

@[simp] theorem jobLost_tc (s : State) (j : SigJob) (nokey : Bool) : (s.jobLost j nokey).tc = s.tc := by
  unfold State.jobLost
  dsimp only
  (repeat' split) <;> simp

@[simp] theorem dropFrozenJobs_tc (s : State) : (s.dropFrozenJobs).tc = s.tc := by simp [State.dropFrozenJobs]

@[simp] theorem onSignetDispatch_tc (engine : Nat) (s0 : State) : (onSignetDispatch engine s0).tc = s0.tc := by
  unfold onSignetDispatch
  dsimp only
  (repeat' split) <;> simp

@[simp] theorem engineResult_tc (s : State) (engine : Nat) (j : SigJob) : (s.engineResult engine j).tc = s.tc := by simp [State.engineResult]

@[simp] theorem onSignetJobComplete_tc (engine : Nat) (result : JobResult) (s : State) : (onSignetJobComplete engine result s).tc = s.tc := by
  unfold onSignetJobComplete
  dsimp only
  (repeat' split) <;> simp

@[simp] theorem onStaPointerAdvance_tc (entries : Nat) (s : State) : (onStaPointerAdvance entries s).tc = s.tc := by simp [onStaPointerAdvance]

@[simp] theorem onStaCommitEffect_tc (s : State) : (onStaCommitEffect s).tc = s.tc := by simp [onStaCommitEffect]

@[simp] theorem engineOut_tc (s : State) (n : Nat) : (s.engineOut n).tc = s.tc := by
  unfold State.engineOut
  dsimp only
  (repeat' split) <;> simp

@[simp] theorem onKnownAnswerTest_tc (engine : Nat) (pass : Bool) (s : State) : (onKnownAnswerTest engine pass s).tc = s.tc := by simp [onKnownAnswerTest]

/-! ### Machine/Svc -/

@[simp] theorem cancelGrant_tc (s : State) (n : Nat) : (s.cancelGrant n).tc = s.tc := by simp [State.cancelGrant]

@[simp] theorem cancelGrants_tc (s : State) (n : Nat) : (s.cancelGrants n).tc = s.tc := by simp [State.cancelGrants]

/-! ### Machine/Tm -/

@[simp] theorem onQueueSample_tc (port : Nat) (s : State) : (onQueueSample port s).tc = s.tc := by
  unfold onQueueSample
  dsimp only
  split
  · rfl
  · rw [foldl_tc _ _ _ fun t sub => onTm_tc t _]
    exact foldl_tc _ _ _ fun t c => onTm_tc t _

/-! ### Machine/Key -/

@[simp] theorem fillKey_tc (s : State) (k : Nat) (x : KeySlot) : (s.fillKey k x).tc = s.tc := (rfl)

@[simp] theorem makeFixed_tc (s : State) (k b alg usage parent : Nat) : (s.makeFixed k b alg usage parent).tc = s.tc := (rfl)

@[simp] theorem makeRoots_tc (s : State) (b : Nat) : (s.makeRoots b).tc = s.tc := by rw [State.makeRoots, onTse_tc]; simp only [makeFixed_tc]

@[simp] theorem freeKey_tc (s : State) (k : Nat) : (s.freeKey k).tc = s.tc := (rfl)

@[simp] theorem onPkOperationComplete_tc (pk : Nat) (ok : Bool) (s : State) : (onPkOperationComplete pk ok s).tc = s.tc := by simp [onPkOperationComplete]

@[simp] theorem entropyDead_tc (s : State) : (s.entropyDead).tc = s.tc := by simp [State.entropyDead]

@[simp] theorem onEntropyHealthFailure_tc (s : State) : (onEntropyHealthFailure s).tc = s.tc := by simp [onEntropyHealthFailure]

@[simp] theorem onEntropyStartupEnd_tc (pass : Bool) (s : State) : (onEntropyStartupEnd pass s).tc = s.tc := by simp [onEntropyStartupEnd]

@[simp] theorem onDrbgReseed_tc (inst : Nat) (s : State) : (onDrbgReseed inst s).tc = s.tc := by simp [onDrbgReseed]

@[simp] theorem onDrbgErrorTimeout_tc (inst : Nat) (s : State) : (onDrbgErrorTimeout inst s).tc = s.tc := by simp [onDrbgErrorTimeout]

@[simp] theorem onSlotExpiry_tc (slot : Nat) (s : State) : (onSlotExpiry slot s).tc = s.tc := by simp [onSlotExpiry]

@[simp] theorem onSlotScrub_tc (slot : Nat) (tagGood : Bool) (s : State) : (onSlotScrub slot tagGood s).tc = s.tc := by simp [onSlotScrub]

@[simp] theorem onSealKeyRotation_tc (bezel : Nat) (s : State) : (onSealKeyRotation bezel s).tc = s.tc := by simp [onSealKeyRotation]

/-! ### Machine/Ke -/

@[simp] theorem keSend_tc (s : State) (p b client len : Nat) (body : Rec) (seals : List SealTok) : (s.keSend p b client len body seals).tc = s.tc := by simp [State.keSend]

@[simp] theorem endConn_tc (s : State) (n : Nat) : (s.endConn n).tc = s.tc := by
  unfold State.endConn
  dsimp only
  (repeat' split) <;> simp

@[simp] theorem keAnswer_tc (s : State) (k b client : Nat) (refused : Bool) : (s.keAnswer k b client refused).tc = s.tc := by simp [State.keAnswer]

@[simp] theorem keClose_tc (s : State) (n : Nat) (c : KeConn) (k : Nat) (alert : Bool) : (s.keClose n c k alert).tc = s.tc := by simp [State.keClose]

@[simp] theorem keReset_tc (s : State) (p b client k : Nat) : (s.keReset p b client k).tc = s.tc := by simp [State.keReset]

@[simp] theorem onTcpSegment_tc (port : Nat) (seg : TcpSeg) (s : State) : (onTcpSegment port seg s).tc = s.tc := by
  unfold onTcpSegment
  split
  · rfl
  · next h =>
    dsimp only
    (repeat' split) <;> simp [pull_tc h]

@[simp] theorem sealed_tc (s : State) (b : Nat) (k : SealTok) (n : Nat) : (s.sealed b k n).2.tc = s.tc := by
  induction n generalizing s with
  | zero => rfl
  | succ n ih => simp [State.sealed, ih]

@[simp] theorem keReply_tc (s : State) (n : Nat) (c : KeConn) (a : KeAnswer) : (s.keReply n c a).tc = s.tc := by
  unfold State.keReply
  dsimp only
  (repeat' split) <;> simp

@[simp] theorem onTlsRecord_tc (n : Nat) (r : TlsRec) (s : State) : (onTlsRecord n r s).tc = s.tc := by
  unfold onTlsRecord
  dsimp only
  (repeat' split) <;> simp

@[simp] theorem onHandshakeTimeout_tc (n : Nat) (s : State) : (onHandshakeTimeout n s).tc = s.tc := by
  unfold onHandshakeTimeout
  split <;> simp

@[simp] theorem onConnectionIdleTimeout_tc (n : Nat) (s : State) : (onConnectionIdleTimeout n s).tc = s.tc := by
  unfold onConnectionIdleTimeout
  split <;> simp

@[simp] theorem onNtsKeClientExchange_tc (nref : Nat) (success : Bool) (s : State) : (onNtsKeClientExchange nref success s).tc = s.tc := by simp [onNtsKeClientExchange]

/-! ### Machine/Loupe -/

@[simp] theorem loupeRevoke_tc (s : State) (bank : Nat) : (s.loupeRevoke bank).tc = s.tc := (rfl)

@[simp] theorem onLoupeWindowEnd_tc (bank : Nat) (s : State) : (onLoupeWindowEnd bank s).tc = s.tc := by simp [onLoupeWindowEnd]

/-! ### Machine/Mbx -/

@[simp] theorem ignore_tc (s : State) (b : Nat) : (s.ignore b).tc = s.tc := (rfl)

@[simp] theorem onMbxCmdDb_tc (fn queue tail : Nat) (s : State) : (onMbxCmdDb fn queue tail s).tc = s.tc := by simp [onMbxCmdDb]

@[simp] theorem onMbxCplDb_tc (fn head : Nat) (s : State) : (onMbxCplDb fn head s).tc = s.tc := by simp [onMbxCplDb]

@[simp] theorem onMbxEvtDb_tc (fn head : Nat) (s : State) : (onMbxEvtDb fn head s).tc = s.tc := by simp [onMbxEvtDb]

@[simp] theorem onCmdQueueEnable_tc (fn queue : Nat) (s : State) : (onCmdQueueEnable fn queue s).tc = s.tc := by simp [onCmdQueueEnable]

@[simp] theorem rollback_tc (s : State) (fn queue : Nat) : (s.rollback fn queue).tc = s.tc := by
  unfold State.rollback
  split <;> simp

@[simp] theorem abandon_tc (s : State) (fn : Nat) (mine : Nat → Bool) : (s.abandon fn mine).tc = s.tc := (rfl)

@[simp] theorem onCmdQueueDisable_tc (fn queue : Nat) (s : State) : (onCmdQueueDisable fn queue s).tc = s.tc := by simp [onCmdQueueDisable]

@[simp] theorem onCplQueueEnable_tc (fn : Nat) (s : State) : (onCplQueueEnable fn s).tc = s.tc := by simp [onCplQueueEnable]

@[simp] theorem onCplQueueDisable_tc (fn : Nat) (s : State) : (onCplQueueDisable fn s).tc = s.tc := by simp [onCplQueueDisable]

@[simp] theorem onEvtQueueEnable_tc (fn : Nat) (s : State) : (onEvtQueueEnable fn s).tc = s.tc := by simp [onEvtQueueEnable]

@[simp] theorem onEvtQueueDisable_tc (fn : Nat) (s : State) : (onEvtQueueDisable fn s).tc = s.tc := by simp [onEvtQueueDisable]

@[simp] theorem onMsixVectorMask_tc (fn vector : Nat) (_inWindow : Bool) (s : State) : (onMsixVectorMask fn vector _inWindow s).tc = s.tc := by simp [onMsixVectorMask]

@[simp] theorem onMsixVectorUnmask_tc (fn vector : Nat) (s : State) : (onMsixVectorUnmask fn vector s).tc = s.tc := by simp [onMsixVectorUnmask]

@[simp] theorem onMmioViolation_tc (fn address : Nat) (s : State) : (onMmioViolation fn address s).tc = s.tc := by simp [onMmioViolation]

@[simp] theorem onCommandFetch_tc (fn queue : Nat) (entry : CmdEntry) (s : State) : (onCommandFetch fn queue entry s).tc = s.tc := by simp [onCommandFetch]

@[simp] theorem onEventWrite_tc (fn : Nat) (s : State) : (onEventWrite fn s).tc = s.tc := by
  unfold onEventWrite
  dsimp only
  (repeat' split) <;> simp

@[simp] theorem onHoldOffEnd_tc (fn vector : Nat) (s : State) : (onHoldOffEnd fn vector s).tc = s.tc := (rfl)

@[simp] theorem onTxnIdleTimeout_tc (fn queue : Nat) (s : State) : (onTxnIdleTimeout fn queue s).tc = s.tc := by
  unfold onTxnIdleTimeout
  split <;> simp

@[simp] theorem onVfEnable_tc (enable : Bool) (numVfs : Nat) (s : State) : (onVfEnable enable numVfs s).tc = s.tc := (rfl)

/-! ### Machine/Bezel -/

@[simp] theorem dropRing_tc (s : State) (hd : Nat) : (s.dropRing hd).tc = s.tc := by
  unfold State.dropRing
  split <;> simp

@[simp] theorem stopStream_tc (s : State) (b index : Nat) : (s.stopStream b index).tc = s.tc := (rfl)

@[simp] theorem stopStreams_tc (s : State) (b : Nat) : (s.stopStreams b).tc = s.tc := (rfl)

@[simp] theorem expireSlots_tc (s : State) (mine : KeySlot → Bool) : (s.expireSlots mine).tc = s.tc := by simp [State.expireSlots]

@[simp] theorem resetFn_tc (s : State) (b : Nat) : (s.resetFn b).tc = s.tc := by
  unfold State.resetFn
  dsimp only
  rw [onFn_tc, expireSlots_tc, abandon_tc, foldl_tc _ _ _ fun _ _ => rollback_tc _ _ _, stopStreams_tc, foldl_tc _ _ _ fun _ _ => dropRing_tc _ _,
    onClasp_tc, onFn_tc]

@[simp] theorem clearServices_tc (s : State) (b : Nat) : (s.clearServices b).tc = s.tc := by simp [State.clearServices]

@[simp] theorem clearPort_tc (s : State) (p : Nat) : (s.clearPort p).tc = s.tc := (rfl)

@[simp] theorem cmdOut_st (s : State) (r x : Rec) : (cmdOut s r x).st = s := rfl

@[simp] theorem ite_st (c : Prop) [Decidable c] (a b : CmdOut) : (if c then a else b).st = if c then a.st else b.st := apply_ite _ _ _ _

@[simp] theorem cmdPortSetMode_tc (h : CmdHdr) (p mode half an : Nat) (s : State) : ((cmdPortSetMode h p mode half an).2.act s).st.tc = s.tc := by
  simp [cmdPortSetMode]

@[simp] theorem deleteBezel_tc (s : State) (b : Nat) : (s.deleteBezel b).tc = s.tc := by
  unfold State.deleteBezel
  extract_lets s1 s2 s3 s4 s5 s6 s7 s8 s9 s10 s11 s12
  have h1 : s1.tc = s.tc := by simp [s1]
  have h2 : s2.tc = s1.tc := foldl_tc _ _ _ fun t hd => closeRing_tc t hd
  have h3 : s3.tc = s2.tc := foldl_tc _ _ _ fun t q => cancelGrant_tc t _
  have h4 : s4.tc = s3.tc := foldl_tc _ _ _ fun t q => by simp
  have h5 : s5.tc = s4.tc := (foldl_tc _ _ _ fun t q => freeKey_tc t _).trans (orphan_tc _ _)
  have h6 : s6.tc = s5.tc := (foldl_tc _ _ _ fun t p => by simp).trans (clearServices_tc _ _)
  have h7 : s7.tc = s6.tc := by simp [s7]
  have h8 : s8.tc = s7.tc := foldl_tc (List.range 320) _ s7 fun t k => by simp
  have h9 : s9.tc = s8.tc := (onFil_tc _ _).trans <| (foldl_tc (List.range 64) _ _ fun t c => leave_tc t c _).trans (stopStreams_tc _ _)
  have h10 : s10.tc = s9.tc := by simp [s10]
  have h11 : s11.tc = s10.tc := (onFn_tc _ _ _).trans <| foldl_tc _ _ _ fun t q => rollback_tc t b q
  have h12 : s12.tc = s11.tc := onKeys_tc _ _
  rw [weighReservations_tc, onBez_tc, h12, h11, h10, h9, h8, h7, h6, h5, h4, h3, h2, h1]

@[simp] theorem releaseMaster_tc (s : State) (b kind index : Nat) : (s.releaseMaster b kind index).tc = s.tc := by simp [State.releaseMaster]

@[simp] theorem flrFn_tc (s : State) (fn : Nat) : (s.flrFn fn).tc = s.tc := by simp [State.flrFn]

@[simp] theorem onFlr_tc (fn : Nat) (s : State) : (onFlr fn s).tc = s.tc := by simp [onFlr]

@[simp] theorem onHotReset_tc (s : State) : (onHotReset s).tc = s.tc := foldl_tc _ _ _ fun _ _ => flrFn_tc _ _

/-! ### Machine/Moved -/

@[simp] theorem stepFrame_tc (d : Int) (s : State) : (State.stepFrame d s).tc = s.tc := (rfl)

/-! ### Machine/Pair -/

@[simp] theorem adoptKey_tc (s : State) (i : KeyImage) : (s.adoptKey i).tc = s.tc := by simp [State.adoptKey]

@[simp] theorem adoptGrant_tc (s : State) (i : GrantImage) : (s.adoptGrant i).tc = s.tc := by simp [State.adoptGrant]

@[simp] theorem adoptSeal_tc (s : State) (q : Nat × Nat) : (s.adoptSeal q).tc = s.tc := by simp [State.adoptSeal]

/-! ### Machine/Clasp -/

@[simp] theorem setPair_tc (s : State) (p : PairState) : (s.setPair p).tc = s.tc := by simp [State.setPair]

@[simp] theorem setRole_tc (s : State) (r : Bool) : (s.setRole r).tc = s.tc := by simp [State.setRole]

@[simp] theorem sendClaim_tc (s : State) : (s.sendClaim).tc = s.tc := (rfl)

@[simp] theorem reclaim_tc (s : State) : s.reclaim.tc = s.tc := by simp [State.reclaim]

@[simp] theorem ackMirror_tc (n : Nat) (s : State) : (ackMirror n s).tc = s.tc := by
  refine (foldl_tc _ _ _ fun t x => ?_).trans (onClasp_tc _ _)
  split <;> simp

@[simp] theorem partnerGone_tc (s : State) : s.partnerGone.tc = s.tc := by
  have h (t : State) : (if t.clasp.st = .alone then t.setRole true else t).reclaim.tc = t.tc := by simp
  unfold State.partnerGone
  refine (h _).trans ?_
  split <;> simp

@[simp] theorem pairFaulted_tc (s : State) : s.pairFaulted.tc = s.tc := by simp [State.pairFaulted]

@[simp] theorem partnerFirmware_tc (s : State) (changed : Bool) : (s.partnerFirmware changed).tc = s.tc := by simp [State.partnerFirmware]

@[simp] theorem partnerPublished_tc (s : State) (fit : Bool) : (s.partnerPublished fit).tc = s.tc := by simp [State.partnerPublished]

@[simp] theorem onLaneLoss_tc (lane : Nat) (lost : Bool) (s : State) : (onLaneLoss lane lost s).tc = s.tc := by simp [onLaneLoss]

@[simp] theorem onPartnerLost_tc (s : State) : (onPartnerLost s).tc = s.tc := by simp [onPartnerLost]

@[simp] theorem deriveTransport_tc (s : State) : (s.deriveTransport).tc = s.tc := by
  unfold State.deriveTransport
  split <;> simp

@[simp] theorem onPartnerAuthenticated_tc (p : PartnerInfo) (s : State) : (onPartnerAuthenticated p s).tc = s.tc := by simp [onPartnerAuthenticated]

@[simp] theorem onPairWaitTimeout_tc (s : State) : (onPairWaitTimeout s).tc = s.tc := by simp [onPairWaitTimeout]

@[simp] theorem onTransferTimeout_tc (s : State) : (onTransferTimeout s).tc = s.tc := by simp [onTransferTimeout]

@[simp] theorem onClaimFrame_tc (codeOk : Bool) (claim : BitVec 16) (flags check : BitVec 4) (s : State) : (onClaimFrame codeOk claim flags check s).tc = s.tc := by simp [onClaimFrame]

@[simp] theorem onClaimSilence_tc (s : State) : (onClaimSilence s).tc = s.tc := by simp [onClaimSilence]

@[simp] theorem onClaimChange_tc (s : State) : (onClaimChange s).tc = s.tc := by simp [onClaimChange]

@[simp] theorem onClaimDeafRecovery_tc (s : State) : (onClaimDeafRecovery s).tc = s.tc := by
  unfold onClaimDeafRecovery
  split <;> simp

@[simp] theorem onPairMeasurementsReceived_tc (m : PairMeas) (s : State) : (onPairMeasurementsReceived m s).tc = s.tc := (rfl)

@[simp] theorem onPairMeasurementTimeout_tc (s : State) : (onPairMeasurementTimeout s).tc = s.tc := by simp [onPairMeasurementTimeout]

@[simp] theorem diverge_tc (setDigest stateDigest : Nat) (s : State) : (diverge setDigest stateDigest s).tc = s.tc := by simp [diverge]

@[simp] theorem onDigestReceived_tc (setDigest stateDigest : Nat) (s : State) : (onDigestReceived setDigest stateDigest s).tc = s.tc := by simp [onDigestReceived]

@[simp] theorem onDigestTimeout_tc (s : State) : (onDigestTimeout s).tc = s.tc := by simp [onDigestTimeout]

@[simp] theorem onRecomputeComplete_tc (differs partnerFaulty : Bool) (s : State) : (onRecomputeComplete differs partnerFaulty s).tc = s.tc := by simp [onRecomputeComplete]

@[simp] theorem onSwapDue_tc (s : State) : (onSwapDue s).tc = s.tc := by simp [onSwapDue]

@[simp] theorem onSwapHandover_tc (s : State) : (onSwapHandover s).tc = s.tc := by
  unfold onSwapHandover
  split <;> simp

/-! ### Machine/Assay -/

@[simp] theorem vote_tc (s : State) : s.vote.tc = s.tc := by
  refine foldl_tc _ _ _ fun t r => ?_
  split <;> simp

@[simp] theorem testTime_tc (s : State) (r : Nat) (pred : Rat) : (s.testTime r pred).tc = s.tc := by
  unfold State.testTime
  split <;> simp

@[simp] theorem testFreq_tc (s : State) (r : Nat) (z : Rat) : (s.testFreq r z).tc = s.tc := (rfl)

@[simp] theorem gradeAll_tc (s : State) : (s.gradeAll).tc = s.tc := by simp [State.gradeAll]

@[simp] theorem assignSlots_tc (s : State) : s.assignSlots.tc = s.tc := foldl_tc _ _ _ fun _ _ => rfl

@[simp] theorem weigh_tc (s : State) : (s.weigh).tc = s.tc := by
  unfold State.weigh
  dsimp only
  (repeat' split) <;> simp

@[simp] theorem useWeights_tc (s : State) (w : List (Nat × Rat)) (keep : Bool) : (s.useWeights w keep).tc = s.tc := by
  unfold State.useWeights
  dsimp only
  rw [onEns_tc]
  exact foldl_tc _ _ _ fun t r => onRa_tc t r _

@[simp] theorem keepOffset_tc (s : State) (k : Nat) : (s.keepOffset k).tc = s.tc := by
  unfold State.keepOffset
  split <;> simp

@[simp] theorem assayFlag_tc (s0 : State) (pred : Rat) (k : Nat) : (s0.assayFlag pred k).tc = s0.tc := by
  unfold State.assayFlag
  dsimp only
  (repeat' split) <;> simp

@[simp] theorem assay_tc (s : State) : s.assay.tc = s.tc := by
  unfold State.assay
  dsimp only
  rw [assayFlag_tc, assayFlag_tc, assignSlots_tc, gradeAll_tc]
  refine (foldl_tc _ _ _ fun t r => ?_).trans ((foldl_tc _ _ _ fun t r => ?_).trans (vote_tc s))
  · (repeat' split) <;> simp
  · simp

/-! ### Machine/Ens -/

@[simp] theorem onSteer_tc (s : State) (n : Nat) (f : SteerCfg → SteerCfg) : (s.onSteer n f).tc = s.tc := (rfl)

@[simp] theorem nrefWindow_tc (s : State) (n : Nat) : (s.nrefWindow n).tc = s.tc := by simp [State.nrefWindow]

@[simp] theorem latchNref_tc (s : State) (n : Nat) : (s.latchNref n).tc = s.tc := (rfl)

@[simp] theorem latchAll_tc (s : State) : s.latchAll.tc = s.tc := by
  unfold State.latchAll
  dsimp only
  rw [foldl_tc _ _ _ latchNref_tc, foldl_tc _ _ _ fun t n => onPps_tc t n _]
  exact foldl_tc _ _ _ fun t r => onIn_tc t r _

@[simp] theorem creditAll_tc (s : State) : s.creditAll.tc = s.tc := foldl_tc _ _ _ fun _ _ => rfl

@[simp] theorem sendMeas_tc (s : State) : (s.sendMeas).tc = s.tc := by simp [State.sendMeas]

@[simp] theorem stampFree_tc (s : State) : (s.stampFree).tc = s.tc := by simp [State.stampFree]

@[simp] theorem learnRates_tc (s : State) (p : Posterior) : (s.learnRates p).tc = s.tc := by simp [State.learnRates]

@[simp] theorem runFilter_tc (s : State) (apply : Bool) : (s.runFilter apply).tc = s.tc := by simp [State.runFilter]

@[simp] theorem freshDrift_tc (s : State) (kept : Bool) : (s.freshDrift kept).tc = s.tc := by simp [State.freshDrift]

@[simp] theorem entryWeights_tc (s : State) : s.entryWeights.tc = s.tc := by simp [State.entryWeights]

@[simp] theorem holdMembers_tc (s : State) : (s.holdMembers).tc = s.tc := by simp [State.holdMembers]

@[simp] theorem weights_tc (s : State) : (s.weights).tc = s.tc := by simp [State.weights]

@[simp] theorem saveModels_tc (s : State) : (s.saveModels).tc = s.tc := (rfl)

@[simp] theorem enterHoldover_tc (s : State) : (s.enterHoldover).tc = s.tc := (rfl)

@[simp] theorem steerPendant_tc (s : State) (n : Nat) : (s.steerPendant n).tc = s.tc := by simp [State.steerPendant]

@[simp] theorem stampChain_tc (s : State) : s.stampChain.tc = s.tc := by
  unfold State.stampChain
  split
  · exact stampFree_tc _
  · exact stampFree_tc _
  all_goals exact onHall_tc _ _

@[simp] theorem digests_tc (s : State) : s.digests.tc = s.tc := by
  unfold State.digests
  rw [ite_tc, onClasp_tc, ite_self]

@[simp] theorem endUpdate_tc (s : State) : s.endUpdate.tc = s.tc := by
  unfold State.endUpdate
  dsimp only
  rw [onEns_tc]
  exact foldl_tc _ _ _ fun t r => onIn_tc t r _

@[simp] theorem onModelLearning_tc (sec : Nat) (s : State) : (onModelLearning sec s).tc = s.tc := by simp [onModelLearning]

@[simp] theorem onModelSave_tc (s : State) : (onModelSave s).tc = s.tc := by simp [onModelSave]

@[simp] theorem steerOff_tc (s : State) (n : Nat) : (s.steerOff n).tc = s.tc := (rfl)

/-! ### Machine/Gnss -/

@[simp] theorem onStrm_tc (s : State) (n : Nat) (f : GnssStream → GnssStream) : (s.onStrm n f).tc = s.tc := (rfl)

@[simp] theorem onGch_tc (s : State) (c : Nat) (f : GnssChan → GnssChan) : (s.onGch c f).tc = s.tc := (rfl)

@[simp] theorem onAnt_tc (s : State) (a : Nat) (f : Antenna → Antenna) : (s.onAnt a f).tc = s.tc := (rfl)

@[simp] theorem idleChannels_tc (s : State) (stream : Nat) : (s.idleChannels stream).tc = s.tc := (rfl)

@[simp] theorem setStream_tc (s : State) (n : Nat) (st : StreamState) : (s.setStream n st).tc = s.tc := by simp [State.setStream]

@[simp] theorem configureGnss_tc (s : State) (a : Nat) : (s.configureGnss a).tc = s.tc := by simp [State.configureGnss]

@[simp] theorem onGnssStreamLost_tc (n : Nat) (s : State) : (onGnssStreamLost n s).tc = s.tc := by simp [onGnssStreamLost]

@[simp] theorem onGnssStreamClockReturn_tc (n : Nat) (s : State) : (onGnssStreamClockReturn n s).tc = s.tc := by simp [onGnssStreamClockReturn]

@[simp] theorem onGnssStreamAligned_tc (n : Nat) (s : State) : (onGnssStreamAligned n s).tc = s.tc := by simp [onGnssStreamAligned]

@[simp] theorem missedSolution_tc (s : State) (a : Nat) : (s.missedSolution a).tc = s.tc := by simp [State.missedSolution]

@[simp] theorem missedSolutions_tc (s : State) : (s.missedSolutions).tc = s.tc := by simp [State.missedSolutions]

@[simp] theorem onGnssEpochLatch_tc (obs : EpochObs) (s : State) : (onGnssEpochLatch obs s).tc = s.tc := by simp [onGnssEpochLatch]

@[simp] theorem onChannelAllocation_tc (sats : List SatDemand) (s : State) : (onChannelAllocation sats s).tc = s.tc := by
  refine (foldl_tc _ _ _ fun t w => ?_).trans (onGnss_tc _ _)
  split
  · rfl
  · split <;> simp

@[simp] theorem onChannelDetection_tc (ch : Nat) (d : Detection) (s : State) : (onChannelDetection ch d s).tc = s.tc := by simp [onChannelDetection]

@[simp] theorem onChannelLock_tc (ch : Nat) (s : State) : (onChannelLock ch s).tc = s.tc := by simp [onChannelLock]

@[simp] theorem onPullInTimeout_tc (ch : Nat) (s : State) : (onPullInTimeout ch s).tc = s.tc := by simp [onPullInTimeout]

@[simp] theorem onChannelLockLoss_tc (ch : Nat) (s : State) : (onChannelLockLoss ch s).tc = s.tc := by simp [onChannelLockLoss]

@[simp] theorem onReacquireTimeout_tc (ch : Nat) (s : State) : (onReacquireTimeout ch s).tc = s.tc := by simp [onReacquireTimeout]

@[simp] theorem onNotVisibleExpiry_tc (sys sv ant : Nat) (s : State) : (onNotVisibleExpiry sys sv ant s).tc = s.tc := (rfl)

@[simp] theorem setSpoof_tc (s : State) (a : Nat) (st : SpoofState) : (s.setSpoof a st).tc = s.tc := by simp [State.setSpoof]

@[simp] theorem respoof_tc (s : State) (a : Nat) (top : Bool) : (s.respoof a top).tc = s.tc := by simp [State.respoof]

@[simp] theorem dualTest_tc (s : State) (e : Epoch) (o : SolutionObs) : (s.dualTest e o).tc = s.tc := by simp [State.dualTest]

@[simp] theorem judgeGnss_tc (s : State) (a sec : Nat) (ok : Bool) (o : Solution) : (s.judgeGnss a sec ok o).tc = s.tc := by simp [State.judgeGnss]

@[simp] theorem markExcluded_tc (s : State) (a : Nat) (ex : List (Nat × Nat)) : (s.markExcluded a ex).tc = s.tc := (rfl)

@[simp] theorem checkBroadcast_tc (s : State) (a : Nat) (e : Epoch) (o : SolutionObs) : (s.checkBroadcast a e o).tc = s.tc := by simp [State.checkBroadcast]

@[simp] theorem onGnssSolution_tc (a : Nat) (o : SolutionObs) (s : State) : (onGnssSolution a o s).tc = s.tc := by
  unfold onGnssSolution
  dsimp only
  (repeat' split) <;> simp

@[simp] theorem setNav_tc (s : State) (sv : Nat) (n : NavAuth) : (s.setNav sv n).tc = s.tc := (rfl)

@[simp] theorem failNav_tc (s : State) (a sv : Nat) : (s.failNav a sv).tc = s.tc := by simp [State.failNav]

@[simp] theorem passNav_tc (s : State) (sv adkd : Nat) : (s.passNav sv adkd).tc = s.tc := by simp [State.passNav]

@[simp] theorem onOsnmaMessage_tc (sv : Nat) (p : OsnmaPage) (s : State) : (onOsnmaMessage sv p s).tc = s.tc := by
  unfold onOsnmaMessage
  dsimp only
  (repeat' split) <;> simp

@[simp] theorem onPowerBaselineLearned_tc (stream : Nat) (level : Int) (s : State) : (onPowerBaselineLearned stream level s).tc = s.tc := by simp [onPowerBaselineLearned]

@[simp] theorem onSurveyComplete_tc (a : Nat) (x y z : Int) (cov : Cov3) (s : State) : (onSurveyComplete a x y z cov s).tc = s.tc := by simp [onSurveyComplete]

@[simp] theorem onGnssAlmanacWrite_tc (s : State) : (onGnssAlmanacWrite s).tc = s.tc := by simp [onGnssAlmanacWrite]

/-! ### Machine/Nv -/

@[simp] theorem bankOut_tc (s : State) (n : Nat) : (s.bankOut n).tc = s.tc := by simp [State.bankOut]

@[simp] theorem revert_tc (s : State) (v : NvValue) : (s.revert v).tc = s.tc := by cases v <;> rfl

@[simp] theorem cutWrite_tc (s : State) : s.cutWrite.tc = s.tc := by
  unfold State.cutWrite
  split
  · rfl
  · dsimp only
    split
    · simp
    · split <;> simp

@[simp] theorem readStore_tc (s : State) : (s.readStore).tc = s.tc := (rfl)

@[simp] theorem cutSeal_tc (s : State) : (s.cutSeal).tc = s.tc := by simp [State.cutSeal]

/-! ### Machine/Regs -/

@[simp] theorem stopMp_tc (s : State) : (s.stopMp).tc = s.tc := (rfl)

/-! ### Machine/Mgmt -/

@[simp] theorem onMpLockstepMismatch_tc (s : State) : (onMpLockstepMismatch s).tc = s.tc := by simp [onMpLockstepMismatch]

@[simp] theorem busyHeads_tc (s : State) : s.busyHeads.tc = s.tc := by
  refine foldl_tc _ _ _ fun t b => foldl_tc _ _ _ fun u q => ?_
  split <;> simp

@[simp] theorem onMpRestartComplete_tc (inTime : Bool) (s : State) : (onMpRestartComplete inTime s).tc = s.tc := by simp [onMpRestartComplete]

@[simp] theorem tpCoreOut_tc (s : State) (core : Nat) : (s.tpCoreOut core).tc = s.tc := by simp [State.tpCoreOut]

@[simp] theorem onTpHeartbeatTimeout_tc (core : Nat) (s : State) : (onTpHeartbeatTimeout core s).tc = s.tc := by simp [onTpHeartbeatTimeout]

@[simp] theorem onMpHeartbeat_tc (s : State) : (onMpHeartbeat s).tc = s.tc := by simp [onMpHeartbeat]

@[simp] theorem onHeartbeatTimeout_tc (s : State) : (onHeartbeatTimeout s).tc = s.tc := by simp [onHeartbeatTimeout]

@[simp] theorem onInterruptSourceFire_tc (src : Nat) (s : State) : (onInterruptSourceFire src s).tc = s.tc := by simp [onInterruptSourceFire]

@[simp] theorem onEndOfInterrupt_tc (src : Nat) (s : State) : (onEndOfInterrupt src s).tc = s.tc := by
  unfold onEndOfInterrupt
  dsimp only
  (repeat' split) <;> simp

@[simp] theorem tempUpdate_tc (s : State) (id : Nat) (r : SensorReading) : (s.tempUpdate id r).tc = s.tc := by simp [State.tempUpdate]

@[simp] theorem railUpdate_tc (s : State) (id : Nat) (r : SensorReading) : (s.railUpdate id r).tc = s.tc := by
  unfold State.railUpdate
  dsimp only
  (repeat' split) <;> simp

@[simp] theorem onSensorUpdate_tc (id : Nat) (reading : SensorReading) (s : State) : (onSensorUpdate id reading s).tc = s.tc := by
  unfold onSensorUpdate
  dsimp only
  (repeat' split) <;> simp

@[simp] theorem onTemperatureHoursWrite_tc (s : State) : (onTemperatureHoursWrite s).tc = s.tc := (rfl)

@[simp] theorem onLogFlush_tc (s : State) : (onLogFlush s).tc = s.tc := by
  have h (l : List LogEntry) (t : State) : (l.foldl (fun t e => t.logPut e) t).tc = t.tc := foldl_tc _ _ _ fun _ _ => rfl
  simp [onLogFlush, h]

@[simp] theorem onFirmwareConfirm_tc (s : State) : (onFirmwareConfirm s).tc = s.tc := by simp [onFirmwareConfirm]

@[simp] theorem onFswPoll_tc (s : State) : (onFswPoll s).tc = s.tc := by simp [onFswPoll]

/-! ### Machine/Out -/

@[simp] theorem planOffset_tc (s : State) (key : Nat) (f : Int) : (s.planOffset key f).tc = s.tc := (rfl)

@[simp] theorem onLoopLockAchieved_tc (l : Nat) (s : State) : (onLoopLockAchieved l s).tc = s.tc := by simp [onLoopLockAchieved]

@[simp] theorem onLoopPhaseError_tc (l : Nat) (s : State) : (onLoopPhaseError l s).tc = s.tc := by simp [onLoopPhaseError]

@[simp] theorem onLoopAcquireTimeout_tc (l : Nat) (s : State) : (onLoopAcquireTimeout l s).tc = s.tc := by simp [onLoopAcquireTimeout]

@[simp] theorem onLoopHoldoverCause_tc (l : Nat) (s : State) : (onLoopHoldoverCause l s).tc = s.tc := by simp [onLoopHoldoverCause]

@[simp] theorem onLoopCauseCleared_tc (l : Nat) (s : State) : (onLoopCauseCleared l s).tc = s.tc := by simp [onLoopCauseCleared]

@[simp] theorem onLoopTuningLimit_tc (l : Nat) (s : State) : (onLoopTuningLimit l s).tc = s.tc := by simp [onLoopTuningLimit]

@[simp] theorem onOffsetRampEnd_tc (l : Nat) (s : State) : (onOffsetRampEnd l s).tc = s.tc := (rfl)

@[simp] theorem onOutputRelease_tc (kind index : Nat) (s : State) : (onOutputRelease kind index s).tc = s.tc := by simp [onOutputRelease]

@[simp] theorem onOffsetChangeEffect_tc (kind index : Nat) (s : State) : (onOffsetChangeEffect kind index s).tc = s.tc := by simp [onOffsetChangeEffect]

@[simp] theorem onOutputAligned_tc (kind index : Nat) (s : State) : (onOutputAligned kind index s).tc = s.tc := by simp [onOutputAligned]

@[simp] theorem onBeadFrameBuild_tc (tco : Nat) (s : State) : (onBeadFrameBuild tco s).tc = s.tc := by simp [onBeadFrameBuild]

@[simp] theorem onIrigFrameBuild_tc (tco : Nat) (s : State) : (onIrigFrameBuild tco s).tc = s.tc := by simp [onIrigFrameBuild]

@[simp] theorem onLockmonPeriod_tc (s : State) : (onLockmonPeriod s).tc = s.tc := (rfl)

/-! ### Machine/ErrorPins -/

@[simp] theorem loopsHold_tc (s : State) : s.loopsHold.tc = s.tc := foldl_tc _ _ _ fun _ _ => onLoopHoldoverCause_tc _ _

@[simp] theorem quadDown_tc (s : State) (q : Nat) : (s.quadDown q).tc = s.tc := foldl_tc _ _ _ fun t i => by simp

@[simp] theorem contain_tc (s : State) (word bitNo : Nat) : (s.contain word bitNo).tc = s.tc := by simp [State.contain]

/-! ### Machine/Fil -/

@[simp] theorem unhook_tc (s : State) (de : Nat) : (s.unhook de).tc = s.tc := by simp [State.unhook]

@[simp] theorem onStream_tc (s : State) (b ch : Nat) (f : FilStream → FilStream) : (s.onStream b ch f).tc = s.tc := (rfl)

@[simp] theorem onFiligreeEdge_tc (ch cycle fine : Nat) (falling : Bool) (s : State) : (onFiligreeEdge ch cycle fine falling s).tc = s.tc := by simp [onFiligreeEdge]

@[simp] theorem loopMeasure_tc (s : State) (ch t : Nat) : (s.loopMeasure ch t).tc = s.tc := by
  unfold State.loopMeasure
  dsimp only
  (repeat' split) <;> simp

@[simp] theorem feedInput_tc (s : State) (ch : Nat) (t : Int) (r : RawStamp) : (s.feedInput ch t r).tc = s.tc := by simp [State.feedInput]

@[simp] theorem feedEngine_tc (s : State) (d ch : Nat) (x : StampRec) : (s.feedEngine d ch x).tc = s.tc := by simp [State.feedEngine]

@[simp] theorem onStampDrain_tc (ch : Nat) (tslew : Bool) (s : State) : (onStampDrain ch tslew s).tc = s.tc := by
  unfold onStampDrain
  split <;> simp

@[simp] theorem onFilRingChangeEffect_tc (ring : Nat) (s : State) : (onFilRingChangeEffect ring s).tc = s.tc := by
  unfold onFilRingChangeEffect
  split <;> simp

@[simp] theorem dropA_tc (s : State) (d : Nat) (low : Int) : (s.dropA d low).tc = s.tc := (rfl)

@[simp] theorem recordDiff_tc (s : State) (d : Nat) (a b : StampRec) : (s.recordDiff d a b).tc = s.tc := (rfl)

@[simp] theorem onDiffMatch_tc (d : Nat) (s : State) : (onDiffMatch d s).tc = s.tc := by
  unfold onDiffMatch
  dsimp only
  (repeat' split) <;> simp

@[simp] theorem onDiffWaitTimeout_tc (d : Nat) (s : State) : (onDiffWaitTimeout d s).tc = s.tc := by
  unfold onDiffWaitTimeout
  dsimp only
  (repeat' split) <;> simp

@[simp] theorem onDiffGateEnd_tc (d : Nat) (s : State) : (onDiffGateEnd d s).tc = s.tc := by simp [onDiffGateEnd]

@[simp] theorem onFilStreamWrite_tc (bezel ch : Nat) (s : State) : (onFilStreamWrite bezel ch s).tc = s.tc := by
  unfold onFilStreamWrite
  dsimp only
  (repeat' split) <;> simp

@[simp] theorem filRunEnd_tc (s : State) (ch first : Nat) (hits : List Nat) : (s.filRunEnd ch first hits).tc = s.tc := by
  unfold State.filRunEnd
  dsimp only
  (repeat' split) <;> simp

/-! ### Machine/La -/

@[simp] theorem tapOff_tc (s : State) (n : Nat) : (s.tapOff n).tc = s.tc := by simp [State.tapOff]

@[simp] theorem startTapck_tc (s : State) (ck : Nat) : (s.startTapck ck).tc = s.tc := by simp [State.startTapck]

@[simp] theorem onLaStreams_tc (s : State) (p : LaStream → Bool) (f : LaStream → LaStream) : (s.onLaStreams p f).tc = s.tc := (rfl)

@[simp] theorem pushWord_tc (s : State) (tap at_ w : Nat) : (s.pushWord tap at_ w).tc = s.tc := (rfl)

@[simp] theorem onTapFirstValidSample_tc (tap : Nat) (s : State) : (onTapFirstValidSample tap s).tc = s.tc := by
  unfold onTapFirstValidSample
  split
  · rfl
  · split <;> simp

@[simp] theorem onTapSample_tc (tap : Nat) (density : Rat) (stuck : Bool) (s : State) : (onTapSample tap density stuck s).tc = s.tc := by simp [onTapSample]

@[simp] theorem fillMissing_tc (s : State) (tap sps : Nat) (last : Int) (n : Nat) : (s.fillMissing tap sps last n).tc = s.tc := by simp [State.fillMissing]

@[simp] theorem svSampleAt_tc (s : State) (tap : Nat) (a : VtapArgs) (rx : Nat) (synchOk : Bool) (x : SvAsdu) : (s.svSampleAt tap a rx synchOk x).tc = s.tc := by simp [State.svSampleAt]

@[simp] theorem onSvFrame_tc (vtap : Nat) (f : SvFrame) (s : State) : (onSvFrame vtap f s).tc = s.tc := by
  unfold onSvFrame
  dsimp only
  (repeat' split) <;> simp

@[simp] theorem writeRecords_tc (s : State) (tap : Nat) : (s.writeRecords tap).tc = s.tc := by simp [State.writeRecords]

@[simp] theorem onLaStreamWrite_tc (tap : Nat) (s : State) : (onLaStreamWrite tap s).tc = s.tc := by
  refine (foldl_tc _ _ _ fun u x => ?_).trans (writeRecords_tc _ _)
  split <;> simp

@[simp] theorem onLaEstimate_tc (n : Nat) (x : LaFit) (s : State) : (onLaEstimate n x s).tc = s.tc := by
  unfold onLaEstimate
  dsimp only
  split
  · rfl
  · split <;> simp

@[simp] theorem onPhasorReport_tc (n : Nat) (x : LaFit) (s : State) : (onPhasorReport n x s).tc = s.tc := by
  unfold onPhasorReport
  dsimp only
  (repeat' split) <;> simp

@[simp] theorem tapSeek_tc (s : State) (n : Nat) : (s.tapSeek n).tc = s.tc := by simp [State.tapSeek]

@[simp] theorem onTransientTimeout_tc (n : Nat) (s : State) : (onTransientTimeout n s).tc = s.tc := by simp [onTransientTimeout]

@[simp] theorem onPredictHoldLimit_tc (n : Nat) (s : State) : (onPredictHoldLimit n s).tc = s.tc := by simp [onPredictHoldLimit]

@[simp] theorem onArmWindowClose_tc (slot : Nat) (s : State) : (onArmWindowClose slot s).tc = s.tc := by
  unfold onArmWindowClose
  split <;> simp

/-! ### Machine/Facet -/

@[simp] theorem onCalibrationRunEnd_tc (unit : CalUnit) (firstCode : Nat) (hits : List Nat) (s : State) : (onCalibrationRunEnd unit firstCode hits s).tc = s.tc := by
  unfold onCalibrationRunEnd
  split <;> simp

@[simp] theorem onInterpolatorSwap_tc (unit : CalUnit) (s : State) : (onInterpolatorSwap unit s).tc = s.tc := by
  unfold onInterpolatorSwap
  split <;> simp

@[simp] theorem onSurvivorCalibrationStart_tc (unit : CalUnit) (s : State) : (onSurvivorCalibrationStart unit s).tc = s.tc := by
  unfold onSurvivorCalibrationStart
  split <;> simp

@[simp] theorem fireAction_tc (s : State) (n : Nat) : (s.fireAction n).tc = s.tc := by
  unfold State.fireAction
  dsimp only
  (repeat' split) <;> simp

@[simp] theorem onScheduledEventFire_tc (slot : Nat) (s : State) : (onScheduledEventFire slot s).tc = s.tc := by simp [onScheduledEventFire]

/-! ### Machine/Hall -/

@[simp] theorem releasePort_tc (s : State) (p : Nat) : (s.releasePort p).tc = s.tc := by simp [State.releasePort]

@[simp] theorem releaseMoves_tc (s : State) (p : Nat) : (s.releaseMoves p).tc = s.tc := by simp [State.releaseMoves]

@[simp] theorem coverOffset_tc (s : State) (p : Nat) : (s.coverOffset p).tc = s.tc := by
  unfold State.coverOffset
  split <;> simp

@[simp] theorem releaseAfter_tc (s : State) (p : Nat) : (s.releaseAfter p).tc = s.tc := by simp [State.releaseAfter]

@[simp] theorem narrowAfter_tc (s : State) (p : Nat) : (s.narrowAfter p).tc = s.tc := by simp [State.narrowAfter]

@[simp] theorem publish_tc (s : State) (p : Nat) : (s.publish p).tc = s.tc := by simp [State.publish]

@[simp] theorem onHallmarkPublish_tc (points : List Nat) (s : State) : (onHallmarkPublish points s).tc = s.tc := by simp [onHallmarkPublish]

@[simp] theorem onHallmarkWindowExpiry_tc (point : Nat) (s : State) : (onHallmarkWindowExpiry point s).tc = s.tc := by simp [onHallmarkWindowExpiry]

@[simp] theorem onAsymSettleEnd_tc (port : Nat) (s : State) : (onAsymSettleEnd port s).tc = s.tc := by simp [onAsymSettleEnd]

@[simp] theorem onPairSettleEnd_tc (s : State) : (onPairSettleEnd s).tc = s.tc := by simp [onPairSettleEnd]

/-! ### Machine/Boot -/

@[simp] theorem runSet_tc (s : State) (n : Nat) : (s.runSet n).tc = s.tc := (rfl)

@[simp] theorem restrict_tc (s : State) : (s.restrict).tc = s.tc := by simp [State.restrict]

@[simp] theorem selectSet_tc (s : State) : (s.selectSet).tc = s.tc := by simp [State.selectSet]

@[simp] theorem orphanAll_tc (s : State) : (s.orphanAll).tc = s.tc := (rfl)

@[simp] theorem newVault_tc (s : State) : (s.newVault).tc = s.tc := by simp [State.newVault]

@[simp] theorem bootVault_tc (s : State) : (s.bootVault).tc = s.tc := by simp [State.bootVault]

/-! ### Machine/Power -/

@[simp] theorem onVbatApplied_tc (s : State) : (onVbatApplied s).tc = s.tc := by simp [onVbatApplied]

@[simp] theorem onMbxReady_tc (s : State) : (onMbxReady s).tc = s.tc := by simp [onMbxReady]

@[simp] theorem enterRun_tc (s : State) : (s.enterRun).tc = s.tc := by simp [State.enterRun]

@[simp] theorem onRunEntry_tc (s : State) : (onRunEntry s).tc = s.tc := by simp [onRunEntry]

@[simp] theorem onBootTimeout_tc (s : State) : (onBootTimeout s).tc = s.tc := by simp [onBootTimeout]

@[simp] theorem zeroise_tc (s : State) : (s.zeroise).tc = s.tc := (rfl)

@[simp] theorem onTamperStrobe_tc (sample : BitVec 4) (s : State) : (onTamperStrobe sample s).tc = s.tc := by simp [onTamperStrobe]

/-! ### Machine/Ref -/

@[simp] theorem onPpsiWindowEnd_tc (input : Nat) (s : State) : (onPpsiWindowEnd input s).tc = s.tc := by simp [onPpsiWindowEnd]

@[simp] theorem nextGate_tc (s : State) (r : Nat) : (s.nextGate r).tc = s.tc := (rfl)

@[simp] theorem onFrequencyGateEnd_tc (r sec ns : Nat) (s : State) : (onFrequencyGateEnd r sec ns s).tc = s.tc := by
  unfold onFrequencyGateEnd
  dsimp only
  (repeat' split) <;> simp

@[simp] theorem onClockMonitorLoss_tc (clk : ClockInput) (s : State) : (onClockMonitorLoss clk s).tc = s.tc := by
  unfold onClockMonitorLoss
  split <;> simp

@[simp] theorem onClockMonitorGood_tc (clk : ClockInput) (s : State) : (onClockMonitorGood clk s).tc = s.tc := (rfl)

@[simp] theorem tciSecond_tc (s : State) (n sec : Nat) : (s.tciSecond n sec).tc = s.tc := by
  unfold State.tciSecond
  dsimp only
  (repeat' split) <;> simp

@[simp] theorem tciMiss_tc (s : State) (n : Nat) : (s.tciMiss n).tc = s.tc := by simp [State.tciMiss]

@[simp] theorem onIrigFrame_tc (tci : Nat) (f : IrigObs) (s : State) : (onIrigFrame tci f s).tc = s.tc := by simp [onIrigFrame]

@[simp] theorem onSerialTodMessage_tc (tci : Nat) (m : TodMsg) (s : State) : (onSerialTodMessage tci m s).tc = s.tc := by simp [onSerialTodMessage]

@[simp] theorem onMissingFrame_tc (tci : Nat) (s : State) : (onMissingFrame tci s).tc = s.tc := by simp [onMissingFrame]

@[simp] theorem nrefHold_tc (s : State) (n : Nat) : (s.nrefHold n).tc = s.tc := by simp [State.nrefHold]

@[simp] theorem nrefChanged_tc (s : State) (n : Nat) : (s.nrefChanged n).tc = s.tc := by
  unfold State.nrefChanged
  dsimp only
  (repeat' split) <;> simp

@[simp] theorem nrefSample_tc (s : State) (n : Nat) (m : Rat × Rat) : (s.nrefSample n m).tc = s.tc := by
  unfold State.nrefSample
  dsimp only
  (repeat' split) <;> simp

@[simp] theorem onNrefMessage_tc (n : Nat) (m : NrefMsg) (s : State) : (onNrefMessage n m s).tc = s.tc := by
  unfold onNrefMessage
  dsimp only
  split
  · rfl
  · split
    · simp
    · split <;> simp

@[simp] theorem onNrefRequestSend_tc (n : Nat) (s : State) : (onNrefRequestSend n s).tc = s.tc := by simp [onNrefRequestSend]

@[simp] theorem onNrefLossTimeout_tc (n : Nat) (s : State) : (onNrefLossTimeout n s).tc = s.tc := by
  unfold onNrefLossTimeout
  dsimp only
  (repeat' split) <;> simp

@[simp] theorem onPendantFrame_tc (n noise : Nat) (frame : List (BitVec 8)) (s : State) : (onPendantFrame n noise frame s).tc = s.tc := by
  unfold onPendantFrame
  dsimp only
  (repeat' split) <;> simp

@[simp] theorem onPendantByteGap_tc (n : Nat) (s : State) : (onPendantByteGap n s).tc = s.tc := by simp [onPendantByteGap]

@[simp] theorem onPendantHealthTimeout_tc (n : Nat) (s : State) : (onPendantHealthTimeout n s).tc = s.tc := by simp [onPendantHealthTimeout]

@[simp] theorem onPendantSteerResend_tc (n : Nat) (s : State) : (onPendantSteerResend n s).tc = s.tc := by simp [onPendantSteerResend]

/-! ### Machine/RegWrite -/

@[simp] theorem writeQctrlFields_tc (fn value : Nat) (s : State) : (writeQctrlFields fn value s).tc = s.tc := by simp [writeQctrlFields]

@[simp] theorem writeQctrl_tc (fn value : Nat) (s : State) : (writeQctrl fn value s).tc = s.tc := by simp [writeQctrl]

@[simp] theorem writeMsix_tc (fn offset size value : Nat) (s : State) : (writeMsix fn offset size value s).tc = s.tc := by
  unfold writeMsix
  dsimp only
  (repeat' split) <;> simp

@[simp] theorem onRegisterWrite_tc (fn bar offset size : Nat) (w : RegData) (s : State) : (onRegisterWrite fn bar offset size w s).tc = s.tc := by simp [onRegisterWrite]

/-! ### Machine/Steps -/

@[simp] theorem stepDrop_tc (p : Nat) (s : State) (f : TxFrame) : (State.stepDrop p s f).tc = s.tc := by simp [State.stepDrop]

@[simp] theorem stepPort_tc (s : State) (p : Nat) : (s.stepPort p).tc = s.tc := by
  unfold State.stepPort
  dsimp only
  refine (foldl_tc _ _ _ fun _ _ => countBezel_tc _ _ _).trans ((foldl_tc _ _ _ fun _ _ => stepDrop_tc _ _ _).trans ?_)
  rw [onPort_tc]
  exact purge_tc _ _ _ _ fun f t => by simp

@[simp] theorem stepTse_tc (s : State) : (s.stepTse).tc = s.tc := by simp [State.stepTse]

end Sys2Proof.Machine
end

section
/-! SUPPORT. Operations that change the Time Core but not the counter. -/

namespace Sys2Proof.Machine

@[simp] theorem ite_mtc (c : Prop) [Decidable c] (a b : TcSt) : (if c then a else b).mtc = if c then a.mtc else b.mtc := apply_ite _ _ _ _

theorem foldl_mtc {α : Type} (l : List α) (g : State → α → State) (s : State) (hg : ∀ t x, (g t x).tc.mtc = t.tc.mtc) :
    (l.foldl g s).tc.mtc = s.tc.mtc := by
  induction l generalizing s with
  | nil => rfl
  | cons x r ih => rw [List.foldl_cons, ih, hg]

@[simp] theorem pushHist_mtc (s : State) : s.pushHist.tc.mtc = s.tc.mtc := (rfl)

@[simp] theorem snapAt_mtc (s : State) (a b : Nat) : (s.snapAt a b).tc.mtc = s.tc.mtc := by rw [snapAt_frame]

@[simp] theorem latchRate_mtc (top : Nat) (c : TcSt) : (c.latchRate top).mtc = c.mtc := (rfl)

@[simp] theorem adoptEns_mtc (s : State) (i : EnsImage) : (s.adoptEns i).tc.mtc = s.tc.mtc := by
  have h (l : List RefImage) (t : State) : (l.foldl (fun (t : State) x => t.onRa x.ref fun a => adoptRef x a) t).tc = t.tc :=
    foldl_tc _ _ _ fun t x => onRa_tc t _ _
  simp [State.adoptEns, h]

@[simp] theorem takeImage_mtc (s : State) (f : LaneFrame) : (s.takeImage f).tc.mtc = s.tc.mtc := by
  have h : (f.seals.foldl State.adoptSeal (f.keys.foldl State.adoptKey (f.grants.foldl State.adoptGrant s))).tc = s.tc := by
    rw [foldl_tc _ _ _ adoptSeal_tc, foldl_tc _ _ _ adoptKey_tc, foldl_tc _ _ _ adoptGrant_tc]
  unfold State.takeImage
  split
  · split <;> simp [h]
  · rfl

@[simp] theorem reannounce_mtc (s : State) : s.reannounce.tc.mtc = s.tc.mtc := by simp [State.reannounce]

@[simp] theorem onLeapTableEffect_mtc (s : State) : (onLeapTableEffect s).tc.mtc = s.tc.mtc := by
  unfold onLeapTableEffect
  split <;> simp

@[simp] theorem onLeapAnnouncement_mtc (s : State) : (onLeapAnnouncement s).tc.mtc = s.tc.mtc := reannounce_mtc s

@[simp] theorem onLocalOffsetChange_mtc (s : State) : (onLocalOffsetChange s).tc.mtc = s.tc.mtc := by
  unfold onLocalOffsetChange
  split <;> simp

@[simp] theorem onEnsembleLatch_mtc (sec : Nat) (s : State) : (onEnsembleLatch sec s).tc.mtc = s.tc.mtc := by
  have h : ((List.range 16).foldl State.nrefWindow s).tc = s.tc := foldl_tc _ _ _ nrefWindow_tc
  simp [onEnsembleLatch, h]

@[simp] theorem setTiming_mtc (s : State) (t : TimingState) : (s.setTiming t).tc.mtc = s.tc.mtc := by simp [State.setTiming]

@[simp] theorem countTriggers_mtc (s : State) : s.countTriggers.tc.mtc = s.tc.mtc := by
  unfold State.countTriggers
  split <;> simp

@[simp] theorem initialSet_mtc (s : State) : s.initialSet.tc.mtc = s.tc.mtc := by simp [State.initialSet]

@[simp] theorem acquireEnd_mtc (s : State) : s.acquireEnd.tc.mtc = s.tc.mtc := by simp [State.acquireEnd]

@[simp] theorem onImageHashCheck_mtc (good : Bool) (s : State) : (onImageHashCheck good s).tc.mtc = s.tc.mtc := by
  have h : (s.bezels.foldl (fun t b => (List.range 4).foldl (fun u q => u.rollback b q) t) s).tc = s.tc :=
    foldl_tc _ _ _ fun t b => foldl_tc _ _ _ fun u q => rollback_tc u b q
  simp [onImageHashCheck, h]

@[simp] theorem onMoscLoss_mtc (s : State) : (onMoscLoss s).tc.mtc = s.tc.mtc := by simp [onMoscLoss]

@[simp] theorem onMoscGood_mtc (s : State) : (onMoscGood s).tc.mtc = s.tc.mtc := by simp [onMoscGood]

@[simp] theorem onErrorPinRaised_mtc (word bitNo : Nat) (r : PinReport) (s : State) : (onErrorPinRaised word bitNo r s).tc.mtc = s.tc.mtc := by
  unfold onErrorPinRaised
  dsimp only
  split
  · rfl
  · split <;> simp

@[simp] theorem onErrorPinCleared_mtc (word bitNo : Nat) (s : State) : (onErrorPinCleared word bitNo s).tc.mtc = s.tc.mtc := by simp [onErrorPinCleared]

/-- The effect of a mailbox command does not move the counter. -/
def CmdBody.KeepsMtc (b : CmdBody) : Prop := ∀ s, (b.act s).st.tc.mtc = s.tc.mtc

end Sys2Proof.Machine
end

section
/-! SUPPORT. The effect of every mailbox command leaves the counter alone (R26, R69). -/

namespace Sys2Proof.Machine

@[simp] theorem cmdPortSetMac_tc (h : CmdHdr) (port pauseRx maxLen watchdog holdoff : Nat) (s : State) : ((cmdPortSetMac h port pauseRx maxLen watchdog holdoff).2.act s).st.tc = s.tc := by simp [cmdPortSetMac]

@[simp] theorem cmdPortSetEee_tc (h : CmdHdr) (port enable idle tw : Nat) (s : State) : ((cmdPortSetEee h port enable idle tw).2.act s).st.tc = s.tc := by simp [cmdPortSetEee]

@[simp] theorem cmdPortCalibrate_tc (h : CmdHdr) (port : Nat) (s : State) : ((cmdPortCalibrate h port).2.act s).st.tc = s.tc := by simp [cmdPortCalibrate]

@[simp] theorem cmdPortSetAsym_tc (h : CmdHdr) (port : Nat) (asym : Int) (unc : Nat) (s : State) : ((cmdPortSetAsym h port asym unc).2.act s).st.tc = s.tc := by simp [cmdPortSetAsym]

@[simp] theorem cmdPortOpenRing_tc (h : CmdHdr) (port dir n vector base : Nat) (s : State) : ((cmdPortOpenRing h port dir n vector base).2.act s).st.tc = s.tc := by
  dsimp only [cmdPortOpenRing]
  split <;> simp

@[simp] theorem cmdPortCloseRing_tc (h : CmdHdr) (handle : Nat) (s : State) : ((cmdPortCloseRing h handle).2.act s).st.tc = s.tc := by simp [cmdPortCloseRing]

@[simp] theorem cmdPortSetFilter_tc (h : CmdHdr) (port index kind value handle : Nat) (s : State) : ((cmdPortSetFilter h port index kind value handle).2.act s).st.tc = s.tc := by simp [cmdPortSetFilter]

@[simp] theorem cmdPortReadStatus_tc (h : CmdHdr) (port : Nat) (s : State) : ((cmdPortReadStatus h port).2.act s).st.tc = s.tc := by simp [cmdPortReadStatus]

@[simp] theorem cmdStaSetReserve_tc (h : CmdHdr) (bezel beats : Nat) (s : State) : ((cmdStaSetReserve h bezel beats).2.act s).st.tc = s.tc := by simp [cmdStaSetReserve]

@[simp] theorem cmdStaSetWeight_tc (h : CmdHdr) (bezel weight : Nat) (s : State) : ((cmdStaSetWeight h bezel weight).2.act s).st.tc = s.tc := by simp [cmdStaSetWeight]

@[simp] theorem cmdStaCommit_tc (h : CmdHdr) (s : State) : ((cmdStaCommit h).2.act s).st.tc = s.tc := by simp [cmdStaCommit]

@[simp] theorem cmdStaReadTable_tc (h : CmdHdr) (s : State) : ((cmdStaReadTable h).2.act s).st.tc = s.tc := by simp [cmdStaReadTable]

@[simp] theorem cmdSvcSetService_tc (h : CmdHdr) (a : ServiceArgs) (s : State) : ((cmdSvcSetService h a).2.act s).st.tc = s.tc := by
  dsimp only [cmdSvcSetService]
  split
  · split <;> simp
  · simp

@[simp] theorem cmdSvcSetAddress_tc (h : CmdHdr) (port index family vlan pcp address : Nat) (s : State) : ((cmdSvcSetAddress h port index family vlan pcp address).2.act s).st.tc = s.tc := by simp [cmdSvcSetAddress]

@[simp] theorem cmdSvcSetLaunch_tc (h : CmdHdr) (port margin : Nat) (s : State) : ((cmdSvcSetLaunch h port margin).2.act s).st.tc = s.tc := by simp [cmdSvcSetLaunch]

@[simp] theorem cmdSvcSetPrp_tc (h : CmdHdr) (portA portB join forget : Nat) (s : State) : ((cmdSvcSetPrp h portA portB join forget).2.act s).st.tc = s.tc := by simp [cmdSvcSetPrp]

@[simp] theorem cmdSvcCancelGrant_tc (h : CmdHdr) (entry : Nat) (s : State) : ((cmdSvcCancelGrant h entry).2.act s).st.tc = s.tc := by simp [cmdSvcCancelGrant]

@[simp] theorem cmdSvcSetSeal_tc (h : CmdHdr) (lifetime : Nat) (s : State) : ((cmdSvcSetSeal h lifetime).2.act s).st.tc = s.tc := by simp [cmdSvcSetSeal]

@[simp] theorem cmdSvcReadStatus_tc (h : CmdHdr) (service : Nat) (s : State) : ((cmdSvcReadStatus h service).2.act s).st.tc = s.tc := by
  dsimp only [cmdSvcReadStatus]
  split <;> simp

@[simp] theorem cmdSvcReadGrant_tc (h : CmdHdr) (entry : Nat) (s : State) : ((cmdSvcReadGrant h entry).2.act s).st.tc = s.tc := by simp [cmdSvcReadGrant]

@[simp] theorem cmdTmSetSubscriberRule_tc (h : CmdHdr) (index kind pfxLen subscriber address : Nat) (s : State) : ((cmdTmSetSubscriberRule h index kind pfxLen subscriber address).2.act s).st.tc = s.tc := by simp [cmdTmSetSubscriberRule]

@[simp] theorem cmdTmSetMeter_tc (h : CmdHdr) (a : MeterArgs) (s : State) : ((cmdTmSetMeter h a).2.act s).st.tc = s.tc := by simp [cmdTmSetMeter]

@[simp] theorem cmdTmSetBuffer_tc (h : CmdHdr) (bezel reserve cap : Nat) (s : State) : ((cmdTmSetBuffer h bezel reserve cap).2.act s).st.tc = s.tc := by simp [cmdTmSetBuffer]

@[simp] theorem cmdTmSetQueue_tc (h : CmdHdr) (port cls limit yellow : Nat) (s : State) : ((cmdTmSetQueue h port cls limit yellow).2.act s).st.tc = s.tc := by simp [cmdTmSetQueue]

@[simp] theorem cmdTmSetShaper_tc (h : CmdHdr) (kind index rate high : Nat) (low : Int) (s : State) : ((cmdTmSetShaper h kind index rate high low).2.act s).st.tc = s.tc := by simp [cmdTmSetShaper]

@[simp] theorem cmdTmSetSample_tc (h : CmdHdr) (port period window : Nat) (s : State) : ((cmdTmSetSample h port period window).2.act s).st.tc = s.tc := by simp [cmdTmSetSample]

@[simp] theorem cmdTmReadQueue_tc (h : CmdHdr) (kind index : Nat) (s : State) : ((cmdTmReadQueue h kind index).2.act s).st.tc = s.tc := by simp [cmdTmReadQueue]

@[simp] theorem cmdTmAudit_tc (h : CmdHdr) (s : State) : ((cmdTmAudit h).2.act s).st.tc = s.tc := by simp [cmdTmAudit]

@[simp] theorem cmdKeyGenerate_tc (h : CmdHdr) (a : GenKeyArgs) (s : State) : ((cmdKeyGenerate h a).2.act s).st.tc = s.tc := by
  dsimp only [cmdKeyGenerate]
  split <;> simp

@[simp] theorem cmdKeyImport_tc (h : CmdHdr) (parent target : Nat) (blob : KeyBlob) (s : State) : ((cmdKeyImport h parent target blob).2.act s).st.tc = s.tc := by
  dsimp only [cmdKeyImport]
  split <;> simp

@[simp] theorem cmdKeyProvisionOwner_tc (h : CmdHdr) (blob : KeyBlob) (s : State) : ((cmdKeyProvisionOwner h blob).2.act s).st.tc = s.tc := by simp [cmdKeyProvisionOwner]

@[simp] theorem cmdKeyDestroy_tc (h : CmdHdr) (slot confirm : Nat) (s : State) : ((cmdKeyDestroy h slot confirm).2.act s).st.tc = s.tc := by simp [cmdKeyDestroy]

@[simp] theorem cmdKeyFree_tc (h : CmdHdr) (slot : Nat) (s : State) : ((cmdKeyFree h slot).2.act s).st.tc = s.tc := by simp [cmdKeyFree]

@[simp] theorem cmdKeySetTls_tc (h : CmdHdr) (signSlot clientAuth anchors chainLen : Nat) (s : State) : ((cmdKeySetTls h signSlot clientAuth anchors chainLen).2.act s).st.tc = s.tc := by simp [cmdKeySetTls]

@[simp] theorem cmdKeyReadSlot_tc (h : CmdHdr) (slot : Nat) (s : State) : ((cmdKeyReadSlot h slot).2.act s).st.tc = s.tc := by simp [cmdKeyReadSlot]

@[simp] theorem cmdKeyReadIdentity_tc (h : CmdHdr) (s : State) : ((cmdKeyReadIdentity h).2.act s).st.tc = s.tc := by simp [cmdKeyReadIdentity]

@[simp] theorem cmdKeyRandom_tc (h : CmdHdr) (len : Nat) (s : State) : ((cmdKeyRandom h len).2.act s).st.tc = s.tc := by simp [cmdKeyRandom]

@[simp] theorem cmdKeyReadStatus_tc (h : CmdHdr) (s : State) : ((cmdKeyReadStatus h).2.act s).st.tc = s.tc := by simp [cmdKeyReadStatus]

@[simp] theorem cmdLoupeGrantBank_tc (h : CmdHdr) (bank bezel grant : Nat) (s : State) : ((cmdLoupeGrantBank h bank bezel grant).2.act s).st.tc = s.tc := by simp [cmdLoupeGrantBank]

@[simp] theorem cmdLoupeSetBank_tc (h : CmdHdr) (bank mode window : Nat) (s : State) : ((cmdLoupeSetBank h bank mode window).2.act s).st.tc = s.tc := by simp [cmdLoupeSetBank]

@[simp] theorem cmdLoupePreset_tc (h : CmdHdr) (counter irq vector value : Nat) (s : State) : ((cmdLoupePreset h counter irq vector value).2.act s).st.tc = s.tc := by simp [cmdLoupePreset]

@[simp] theorem cmdLoupeRead_tc (h : CmdHdr) (first count : Nat) (s : State) : ((cmdLoupeRead h first count).2.act s).st.tc = s.tc := by simp [cmdLoupeRead]

@[simp] theorem cmdBezelCreate_tc (h : CmdHdr) (bezel subBase subCount : Nat) (s : State) : ((cmdBezelCreate h bezel subBase subCount).2.act s).st.tc = s.tc := by simp [cmdBezelCreate]

@[simp] theorem cmdBezelDelete_tc (h : CmdHdr) (bezel : Nat) (s : State) : ((cmdBezelDelete h bezel).2.act s).st.tc = s.tc := by simp [cmdBezelDelete]

@[simp] theorem cmdBezelAssignPort_tc (h : CmdHdr) (port bezel : Nat) (s : State) : ((cmdBezelAssignPort h port bezel).2.act s).st.tc = s.tc := by simp [cmdBezelAssignPort]

@[simp] theorem cmdBezelSetQuota_tc (h : CmdHdr) (bezel grants poolSlots rules subBase subCount : Nat) (s : State) : ((cmdBezelSetQuota h bezel grants poolSlots rules subBase subCount).2.act s).st.tc = s.tc := by simp [cmdBezelSetQuota]

@[simp] theorem cmdBezelSetDmaWindow_tc (h : CmdHdr) (bezel index base size : Nat) (s : State) : ((cmdBezelSetDmaWindow h bezel index base size).2.act s).st.tc = s.tc := by simp [cmdBezelSetDmaWindow]

@[simp] theorem cmdBezelSetFlags_tc (h : CmdHdr) (bezel flags : Nat) (s : State) : ((cmdBezelSetFlags h bezel flags).2.act s).st.tc = s.tc := by simp [cmdBezelSetFlags]

@[simp] theorem cmdBezelRelease_tc (h : CmdHdr) (bezel kind index : Nat) (s : State) : ((cmdBezelRelease h bezel kind index).2.act s).st.tc = s.tc := by simp [cmdBezelRelease]

@[simp] theorem cmdBezelReadStatus_tc (h : CmdHdr) (bezel : Nat) (s : State) : ((cmdBezelReadStatus h bezel).2.act s).st.tc = s.tc := by simp [cmdBezelReadStatus]

@[simp] theorem cmdClaspSetPair_tc (h : CmdHdr) (enable dPps pairWait : Nat) (ports : List Nat) (s : State) : ((cmdClaspSetPair h enable dPps pairWait ports).2.act s).st.tc = s.tc := by simp [cmdClaspSetPair]

@[simp] theorem cmdClaspSetSwap_tc (h : CmdHdr) (period second : Nat) (s : State) : ((cmdClaspSetSwap h period second).2.act s).st.tc = s.tc := by simp [cmdClaspSetSwap]

@[simp] theorem cmdClaspSwapNow_tc (h : CmdHdr) (s : State) : ((cmdClaspSwapNow h).2.act s).st.tc = s.tc := by simp [cmdClaspSwapNow]

@[simp] theorem cmdClaspResync_tc (h : CmdHdr) (s : State) : ((cmdClaspResync h).2.act s).st.tc = s.tc := by simp [cmdClaspResync]

@[simp] theorem cmdClaspReadStatus_tc (h : CmdHdr) (s : State) : ((cmdClaspReadStatus h).2.act s).st.tc = s.tc := by simp [cmdClaspReadStatus]

@[simp] theorem cmdEnsSetLeapTable_mtc (h : CmdHdr) (force count : Nat) (entries : List LeapEntry) (s : State) : ((cmdEnsSetLeapTable h force count entries).2.act s).st.tc.mtc = s.tc.mtc := by simp [cmdEnsSetLeapTable]

@[simp] theorem cmdEnsSetLocalOffset_mtc (h : CmdHdr) (count : Nat) (offset : Int) (entries : List LocalChange) (s : State) : ((cmdEnsSetLocalOffset h count offset entries).2.act s).st.tc.mtc = s.tc.mtc := by simp [cmdEnsSetLocalOffset]

@[simp] theorem cmdEnsSetAcquire_mtc (h : CmdHdr) (a : AcquireArgs) (s : State) : ((cmdEnsSetAcquire h a).2.act s).st.tc.mtc = s.tc.mtc := by simp [cmdEnsSetAcquire]

@[simp] theorem cmdEnsForceState_mtc (h : CmdHdr) (force : Nat) (s : State) : ((cmdEnsForceState h force).2.act s).st.tc.mtc = s.tc.mtc := by simp [cmdEnsForceState]

@[simp] theorem cmdEnsReleaseLost_mtc (h : CmdHdr) (s : State) : ((cmdEnsReleaseLost h).2.act s).st.tc.mtc = s.tc.mtc := by simp [cmdEnsReleaseLost]

@[simp] theorem cmdEnsStepTime_mtc (h : CmdHdr) (sec ns frac : Int) (s : State) : ((cmdEnsStepTime h sec ns frac).2.act s).st.tc.mtc = s.tc.mtc := by simp [cmdEnsStepTime]

@[simp] theorem cmdEnsSetSlew_mtc (h : CmdHdr) (rate : Nat) (s : State) : ((cmdEnsSetSlew h rate).2.act s).st.tc.mtc = s.tc.mtc := by simp [cmdEnsSetSlew]

@[simp] theorem cmdEnsSetMember_tc (h : CmdHdr) (r ceiling mode : Nat) (s : State) : ((cmdEnsSetMember h r ceiling mode).2.act s).st.tc = s.tc := by simp [cmdEnsSetMember]

@[simp] theorem cmdEnsSetBandwidth_tc (h : CmdHdr) (final : Nat) (s : State) : ((cmdEnsSetBandwidth h final).2.act s).st.tc = s.tc := by simp [cmdEnsSetBandwidth]

@[simp] theorem cmdEnsSetHoldover_tc (h : CmdHdr) (horizon ageLimit : Nat) (s : State) : ((cmdEnsSetHoldover h horizon ageLimit).2.act s).st.tc = s.tc := by simp [cmdEnsSetHoldover]

@[simp] theorem cmdEnsSetDrift_tc (h : CmdHdr) (enable : Nat) (s : State) : ((cmdEnsSetDrift h enable).2.act s).st.tc = s.tc := by simp [cmdEnsSetDrift]

@[simp] theorem cmdEnsSetSteer_tc (h : CmdHdr) (pend policy tau interval : Nat) (s : State) : ((cmdEnsSetSteer h pend policy tau interval).2.act s).st.tc = s.tc := by simp [cmdEnsSetSteer]

@[simp] theorem cmdEnsResetModel_tc (h : CmdHdr) (r : Nat) (s : State) : ((cmdEnsResetModel h r).2.act s).st.tc = s.tc := by simp [cmdEnsResetModel]

@[simp] theorem cmdEnsReadStatus_tc (h : CmdHdr) (s : State) : ((cmdEnsReadStatus h).2.act s).st.tc = s.tc := by simp [cmdEnsReadStatus]

@[simp] theorem cmdEnsReadModel_tc (h : CmdHdr) (r : Nat) (s : State) : ((cmdEnsReadModel h r).2.act s).st.tc = s.tc := by simp [cmdEnsReadModel]

@[simp] theorem cmdGnssSetStream_tc (h : CmdHdr) (a : StreamArgs) (s : State) : ((cmdGnssSetStream h a).2.act s).st.tc = s.tc := by simp [cmdGnssSetStream]

@[simp] theorem cmdGnssSetSignals_tc (h : CmdHdr) (systems l1c refSys mask : Nat) (s : State) : ((cmdGnssSetSignals h systems l1c refSys mask).2.act s).st.tc = s.tc := by simp [cmdGnssSetSignals]

@[simp] theorem cmdGnssStart_tc (h : CmdHdr) (kind : Nat) (s : State) : ((cmdGnssStart h kind).2.act s).st.tc = s.tc := by simp [cmdGnssStart]

@[simp] theorem cmdGnssSetEpoch_tc (h : CmdHdr) (rate : Nat) (s : State) : ((cmdGnssSetEpoch h rate).2.act s).st.tc = s.tc := by simp [cmdGnssSetEpoch]

@[simp] theorem cmdGnssSetCable_tc (h : CmdHdr) (stream d u : Nat) (s : State) : ((cmdGnssSetCable h stream d u).2.act s).st.tc = s.tc := by simp [cmdGnssSetCable]

@[simp] theorem cmdGnssSetSurvey_tc (h : CmdHdr) (a : SurveyArgs) (s : State) : ((cmdGnssSetSurvey h a).2.act s).st.tc = s.tc := by simp [cmdGnssSetSurvey]

@[simp] theorem cmdGnssLoadSurvey_tc (h : CmdHdr) (ant : Nat) (rec : SurveyRec) (s : State) : ((cmdGnssLoadSurvey h ant rec).2.act s).st.tc = s.tc := by simp [cmdGnssLoadSurvey]

@[simp] theorem cmdGnssSetOsnma_tc (h : CmdHdr) (root : List Nat) (s : State) : ((cmdGnssSetOsnma h root).2.act s).st.tc = s.tc := by simp [cmdGnssSetOsnma]

@[simp] theorem cmdGnssAssertTime_tc (h : CmdHdr) (time : EtwArg) (u : Nat) (s : State) : ((cmdGnssAssertTime h time u).2.act s).st.tc = s.tc := by simp [cmdGnssAssertTime]

@[simp] theorem cmdGnssSetSpoof_tc (h : CmdHdr) (a : SpoofArgs) (s : State) : ((cmdGnssSetSpoof h a).2.act s).st.tc = s.tc := by simp [cmdGnssSetSpoof]

@[simp] theorem cmdGnssReadEpoch_tc (h : CmdHdr) (epoch : Nat) (s : State) : ((cmdGnssReadEpoch h epoch).2.act s).st.tc = s.tc := by
  dsimp only [cmdGnssReadEpoch]
  split <;> simp

@[simp] theorem cmdGnssReadStatus_tc (h : CmdHdr) (s : State) : ((cmdGnssReadStatus h).2.act s).st.tc = s.tc := by simp [cmdGnssReadStatus]

@[simp] theorem cmdSysReset_tc (h : CmdHdr) (confirm : Nat) (s : State) : ((cmdSysReset h confirm).2.act s).st.tc = s.tc := by simp [cmdSysReset]

@[simp] theorem cmdSysSeal_tc (h : CmdHdr) (confirm code : Nat) (s : State) : ((cmdSysSeal h confirm code).2.act s).st.tc = s.tc := by simp [cmdSysSeal]

@[simp] theorem cmdSysReadInfo_tc (h : CmdHdr) (s : State) : ((cmdSysReadInfo h).2.act s).st.tc = s.tc := by simp [cmdSysReadInfo]

@[simp] theorem cmdSysReadHealth_tc (h : CmdHdr) (s : State) : ((cmdSysReadHealth h).2.act s).st.tc = s.tc := by simp [cmdSysReadHealth]

@[simp] theorem cmdSysReadSensors_tc (h : CmdHdr) (s : State) : ((cmdSysReadSensors h).2.act s).st.tc = s.tc := by simp [cmdSysReadSensors]

@[simp] theorem cmdFwLoadImage_tc (h : CmdHdr) (set : Nat) (blob : FwBlob) (s : State) : ((cmdFwLoadImage h set blob).2.act s).st.tc = s.tc := by simp [cmdFwLoadImage]

@[simp] theorem cmdFwActivate_tc (h : CmdHdr) (set whenCode : Nat) (s : State) : ((cmdFwActivate h set whenCode).2.act s).st.tc = s.tc := by simp [cmdFwActivate]

@[simp] theorem cmdFwReadSets_tc (h : CmdHdr) (s : State) : ((cmdFwReadSets h).2.act s).st.tc = s.tc := by simp [cmdFwReadSets]

@[simp] theorem cmdTxnBegin_tc (h : CmdHdr) (s : State) : ((cmdTxnBegin h).2.act s).st.tc = s.tc := by simp [cmdTxnBegin]

@[simp] theorem cmdTxnAbort_tc (h : CmdHdr) (txnId : Nat) (s : State) : ((cmdTxnAbort h txnId).2.act s).st.tc = s.tc := by simp [cmdTxnAbort]

@[simp] theorem cmdTxnAcquireLock_tc (h : CmdHdr) (sem : Nat) (s : State) : ((cmdTxnAcquireLock h sem).2.act s).st.tc = s.tc := by simp [cmdTxnAcquireLock]

@[simp] theorem cmdTxnReleaseLock_tc (h : CmdHdr) (sem gen : Nat) (s : State) : ((cmdTxnReleaseLock h sem gen).2.act s).st.tc = s.tc := by simp [cmdTxnReleaseLock]

@[simp] theorem cmdFaultClear_tc (h : CmdHdr) (word : Nat) (mask : BitVec 32) (s : State) : ((cmdFaultClear h word mask).2.act s).st.tc = s.tc := by simp [cmdFaultClear]

@[simp] theorem cmdFaultRead_tc (h : CmdHdr) (s : State) : ((cmdFaultRead h).2.act s).st.tc = s.tc := by simp [cmdFaultRead]

@[simp] theorem cmdLogRead_tc (h : CmdHdr) (first max : Nat) (s : State) : ((cmdLogRead h first max).2.act s).st.tc = s.tc := by simp [cmdLogRead]

@[simp] theorem cmdLogReadStatus_tc (h : CmdHdr) (s : State) : ((cmdLogReadStatus h).2.act s).st.tc = s.tc := by simp [cmdLogReadStatus]

@[simp] theorem cmdNvResetConfig_tc (h : CmdHdr) (confirm : Nat) (s : State) : ((cmdNvResetConfig h confirm).2.act s).st.tc = s.tc := by simp [cmdNvResetConfig]

@[simp] theorem cmdNvReadStatus_tc (h : CmdHdr) (s : State) : ((cmdNvReadStatus h).2.act s).st.tc = s.tc := by simp [cmdNvReadStatus]

@[simp] theorem cmdOutSetLoop_tc (h : CmdHdr) (loop enable fl bw : Nat) (s : State) : ((cmdOutSetLoop h loop enable fl bw).2.act s).st.tc = s.tc := by simp [cmdOutSetLoop]

@[simp] theorem cmdOutResetLoop_tc (h : CmdHdr) (loop : Nat) (s : State) : ((cmdOutResetLoop h loop).2.act s).st.tc = s.tc := by simp [cmdOutResetLoop]

@[simp] theorem cmdOutSetOffset_tc (h : CmdHdr) (loop : Nat) (yo : Int) (slope : Nat) (s : State) : ((cmdOutSetOffset h loop yo slope).2.act s).st.tc = s.tc := by simp [cmdOutSetOffset]

@[simp] theorem cmdOutSetSsc_tc (h : CmdHdr) (loop mode depth rate : Nat) (s : State) : ((cmdOutSetSsc h loop mode depth rate).2.act s).st.tc = s.tc := by simp [cmdOutSetSsc]

@[simp] theorem cmdOutSetOutput_tc (h : CmdHdr) (a : OutputArgs) (s : State) : ((cmdOutSetOutput h a).2.act s).st.tc = s.tc := by simp [cmdOutSetOutput]

@[simp] theorem cmdOutSetSlew_tc (h : CmdHdr) (kind index rate : Nat) (s : State) : ((cmdOutSetSlew h kind index rate).2.act s).st.tc = s.tc := by simp [cmdOutSetSlew]

@[simp] theorem cmdOutReadStatus_tc (h : CmdHdr) (s : State) : ((cmdOutReadStatus h).2.act s).st.tc = s.tc := by simp [cmdOutReadStatus]

@[simp] theorem cmdFilSetChannel_tc (h : CmdHdr) (ch enable edge n : Nat) (s : State) : ((cmdFilSetChannel h ch enable edge n).2.act s).st.tc = s.tc := by simp [cmdFilSetChannel]

@[simp] theorem cmdFilSetLoopback_tc (h : CmdHdr) (ch kind index divider : Nat) (s : State) : ((cmdFilSetLoopback h ch kind index divider).2.act s).st.tc = s.tc := by simp [cmdFilSetLoopback]

@[simp] theorem cmdFilGrantChannel_tc (h : CmdHdr) (ch bezel grant : Nat) (s : State) : ((cmdFilGrantChannel h ch bezel grant).2.act s).st.tc = s.tc := by simp [cmdFilGrantChannel]

@[simp] theorem cmdFilSetRing_tc (h : CmdHdr) (ring mode allot : Nat) (s : State) : ((cmdFilSetRing h ring mode allot).2.act s).st.tc = s.tc := by simp [cmdFilSetRing]

@[simp] theorem cmdFilSetDiff_tc (h : CmdHdr) (a : DiffArgs) (s : State) : ((cmdFilSetDiff h a).2.act s).st.tc = s.tc := by simp [cmdFilSetDiff]

@[simp] theorem cmdFilSetStream_tc (h : CmdHdr) (a : FilStreamArgs) (s : State) : ((cmdFilSetStream h a).2.act s).st.tc = s.tc := by simp [cmdFilSetStream]

@[simp] theorem cmdFilAckStream_tc (h : CmdHdr) (ch readIndex : Nat) (s : State) : ((cmdFilAckStream h ch readIndex).2.act s).st.tc = s.tc := by
  unfold cmdFilAckStream
  cases hs : s.filStream h.fn ch with
  | none => simp only [hs]; rfl
  | some t => simp only [hs, cmdOut_st, moveReader_tc, onStream_tc]

@[simp] theorem cmdFilReadStamps_tc (h : CmdHdr) (ch max : Nat) (s : State) : ((cmdFilReadStamps h ch max).2.act s).st.tc = s.tc := by
  dsimp only [cmdFilReadStamps]
  split <;> simp

@[simp] theorem cmdFilReadDiff_tc (h : CmdHdr) (de : Nat) (s : State) : ((cmdFilReadDiff h de).2.act s).st.tc = s.tc := by simp [cmdFilReadDiff]

@[simp] theorem cmdFilReadStatus_tc (h : CmdHdr) (s : State) : ((cmdFilReadStatus h).2.act s).st.tc = s.tc := by simp [cmdFilReadStatus]

@[simp] theorem cmdLaSetTap_tc (h : CmdHdr) (tap : Nat) (a : TapArgs) (dTap : Nat) (s : State) : ((cmdLaSetTap h tap a dTap).2.act s).st.tc = s.tc := by simp [cmdLaSetTap]

@[simp] theorem cmdLaSetVtap_tc (h : CmdHdr) (a : VtapArgs) (s : State) : ((cmdLaSetVtap h a).2.act s).st.tc = s.tc := by simp [cmdLaSetVtap]

@[simp] theorem cmdLaGrantTap_tc (h : CmdHdr) (tap bezel grant : Nat) (s : State) : ((cmdLaGrantTap h tap bezel grant).2.act s).st.tc = s.tc := by simp [cmdLaGrantTap]

@[simp] theorem cmdLaSetEvent_tc (h : CmdHdr) (a : EventArgs) (s : State) : ((cmdLaSetEvent h a).2.act s).st.tc = s.tc := by simp [cmdLaSetEvent]

@[simp] theorem cmdLaCancelEvent_tc (h : CmdHdr) (slot : Nat) (s : State) : ((cmdLaCancelEvent h slot).2.act s).st.tc = s.tc := by simp [cmdLaCancelEvent]

@[simp] theorem cmdLaSetStream_tc (h : CmdHdr) (tap n vector base : Nat) (s : State) : ((cmdLaSetStream h tap n vector base).2.act s).st.tc = s.tc := by simp [cmdLaSetStream]

@[simp] theorem cmdLaAckStream_tc (h : CmdHdr) (tap bseq : Nat) (s : State) : ((cmdLaAckStream h tap bseq).2.act s).st.tc = s.tc := by simp [cmdLaAckStream]

@[simp] theorem cmdLaReadEstimates_tc (h : CmdHdr) (tap kind max : Nat) (s : State) : ((cmdLaReadEstimates h tap kind max).2.act s).st.tc = s.tc := by simp [cmdLaReadEstimates]

@[simp] theorem cmdLaReadStatus_tc (h : CmdHdr) (tap : Nat) (s : State) : ((cmdLaReadStatus h tap).2.act s).st.tc = s.tc := by simp [cmdLaReadStatus]

@[simp] theorem cmdHallSetWindows_tc (h : CmdHdr) (asymWindow pairWindow : Nat) (s : State) : ((cmdHallSetWindows h asymWindow pairWindow).2.act s).st.tc = s.tc := by simp [cmdHallSetWindows]

@[simp] theorem cmdHallReadCurrent_tc (h : CmdHdr) (point : Nat) (s : State) : ((cmdHallReadCurrent h point).2.act s).st.tc = s.tc := by simp [cmdHallReadCurrent]

@[simp] theorem cmdHallVerifyRecord_tc (h : CmdHdr) (r : HallRec) (deviceId : Nat) (s : State) : ((cmdHallVerifyRecord h r deviceId).2.act s).st.tc = s.tc := by simp [cmdHallVerifyRecord]

@[simp] theorem cmdRefSetPps_tc (h : CmdHdr) (a : PpsArgs) (s : State) : ((cmdRefSetPps h a).2.act s).st.tc = s.tc := by simp [cmdRefSetPps]

@[simp] theorem cmdRefSetClock_tc (h : CmdHdr) (a : ClockArgs) (s : State) : ((cmdRefSetClock h a).2.act s).st.tc = s.tc := by simp [cmdRefSetClock]

@[simp] theorem cmdRefSetTimecode_tc (h : CmdHdr) (a : TimecodeArgs) (s : State) : ((cmdRefSetTimecode h a).2.act s).st.tc = s.tc := by simp [cmdRefSetTimecode]

@[simp] theorem cmdRefSetPendant_tc (h : CmdHdr) (a : PendantArgs) (s : State) : ((cmdRefSetPendant h a).2.act s).st.tc = s.tc := by simp [cmdRefSetPendant]

@[simp] theorem cmdRefSetNref_tc (h : CmdHdr) (a : NrefArgs) (s : State) : ((cmdRefSetNref h a).2.act s).st.tc = s.tc := by simp [cmdRefSetNref]

@[simp] theorem cmdRefClearFault_tc (h : CmdHdr) (r : Nat) (s : State) : ((cmdRefClearFault h r).2.act s).st.tc = s.tc := by simp [cmdRefClearFault]

@[simp] theorem cmdRefReadStatus_tc (h : CmdHdr) (r : Nat) (s : State) : ((cmdRefReadStatus h r).2.act s).st.tc = s.tc := by simp [cmdRefReadStatus]

@[simp] theorem cmdStateReadObject_tc (h : CmdHdr) (cls index : Nat) (s : State) : ((cmdStateReadObject h cls index).2.act s).st.tc = s.tc := by
  dsimp only [cmdStateReadObject]
  split <;> simp

@[simp] theorem cmdStateListClasses_tc (h : CmdHdr) (s : State) : ((cmdStateListClasses h).2.act s).st.tc = s.tc := by simp [cmdStateListClasses]

@[simp] theorem cmdTxnCommit_tc (h : CmdHdr) (txnId : Nat) (s : State) : ((cmdTxnCommit h txnId).2.act s).st.tc = s.tc := by simp [cmdTxnCommit]

end Sys2Proof.Machine
end

section
/-! SUPPORT. Running, staging, mirroring and committing commands leave the counter alone (R433, R464). -/

namespace Sys2Proof.Machine

theorem cmdOf_keepsMtc {i : Instr} {s : State} {h : CmdHdr} {m : CmdMeta} {b : CmdBody} (hc : cmdOf i s = some (h, m, b)) : b.KeepsMtc := by
  intro u
  cases i <;> simp only [cmdOf, Option.some.injEq, Prod.mk.injEq, reduceCtorEq] at hc <;> (obtain ⟨-, -, rfl⟩ := hc; simp)

/-- A mailbox command is run by `runCommand` over its own body. -/
theorem exec_of_cmdOf {i : Instr} {s : State} {h : CmdHdr} {m : CmdMeta} {b : CmdBody} (hc : cmdOf i s = some (h, m, b)) :
    exec i s = .next (runCommand State.accepted m h i b s) := by
  cases i <;> simp only [cmdOf, Option.some.injEq, Prod.mk.injEq, reduceCtorEq] at hc <;> (obtain ⟨rfl, rfl, rfl⟩ := hc; rfl)

theorem takeUp_tc {m : CmdMeta} {h : CmdHdr} {s t : State} {n : Nat} (ht : takeUp m h s = some (t, n)) : t.tc = s.tc := by
  unfold takeUp at ht
  split at ht
  · split at ht
    · cases ht; rfl
    · cases ht
  · split at ht
    · cases ht; exact fetchEntry_tc _ _
    · cases ht

theorem takeOver_mtc {b : CmdBody} (hb : b.KeepsMtc) (m : CmdMeta) (t : Nat × Nat × Nat) (i : Instr) (s : State) :
    (takeOver m t i b s).tc.mtc = s.tc.mtc := by
  simp [takeOver, hb s]

theorem runChecked_mtc {b : CmdBody} (hb : b.KeepsMtc) (acc : State → State) (m : CmdMeta) (h : CmdHdr) (i : Instr) (busy : Bool) (seq : Nat) (s : State) :
    (runChecked acc m h i b busy seq s).tc.mtc = s.tc.mtc := by
  have hm : mirroring m s = false → ((if mirroring m s = true then b.over acc else b).act s).st.tc.mtc = s.tc.mtc := fun hm => by
    rw [hm]
    exact hb s
  unfold runChecked
  dsimp only
  generalize (if mirroring m s = true then b.over acc else b) = c at hm ⊢
  split
  · simp
  · split
    · split <;> simp
    · split
      · (repeat' split) <;> simp
      · split
        · simp
        · next hn => simp [hm (Bool.eq_false_iff.2 hn)]

theorem runCommand_mtc {b : CmdBody} (hb : b.KeepsMtc) (acc : State → State) (m : CmdMeta) (h : CmdHdr) (i : Instr) (s : State) :
    (runCommand acc m h i b s).tc.mtc = s.tc.mtc := by
  unfold runCommand
  split
  · split
    · exact takeOver_mtc hb _ _ _ _
    · rfl
  · split
    · rfl
    · next ht => rw [runChecked_mtc hb, takeUp_tc ht]

@[simp] theorem applyAll_mtc (s : State) (l : List Instr) : (s.applyAll l).tc.mtc = s.tc.mtc := by
  refine foldl_mtc _ _ _ fun t i => ?_
  split
  · next hc => exact cmdOf_keepsMtc hc t
  · rfl

@[simp] theorem applySet_mtc (s : State) (l : List Instr) : (s.applySet l).tc.mtc = s.tc.mtc := by simp [State.applySet]

/-- A deferred change is judged at the instant of its acceptance, and the counter goes on from where it stands. -/
@[simp] theorem applyMirrored_mtc (s : State) (x : MirrorItem) : (s.applyMirrored x).tc.mtc = s.tc.mtc := by
  unfold State.applyMirrored
  by_cases hl : x.cmds.any defers = true
  · simp [hl]
  · by_cases hs : x.asSet = true <;> simp [hl, hs]

@[simp] theorem accepted_mtc (s : State) : s.accepted.tc.mtc = s.tc.mtc := foldl_mtc _ _ _ applyMirrored_mtc

@[simp] theorem onMirroredChangeEffect_mtc (s : State) : (onMirroredChangeEffect s).tc.mtc = s.tc.mtc := foldl_mtc _ _ _ applyMirrored_mtc

@[simp] theorem commit_mtc (s : State) (h : CmdHdr) (seq : Nat) (t : Txn) : (s.commit h seq t).tc.mtc = s.tc.mtc := by
  unfold State.commit
  dsimp only
  split
  · split <;> simp
  · split <;> simp

theorem cmdTxnCommit_keepsMtc (h : CmdHdr) (n : Nat) : (cmdTxnCommit h n).2.KeepsMtc := fun s => by simp

theorem execTxnCommit_mtc {h : CmdHdr} {n : Nat} {s t : State} (ht : execTxnCommit h n s = .next t) : t.tc.mtc = s.tc.mtc := by
  obtain rfl := Host.Outcome.next.inj ht
  split
  · rfl
  · next s1 seq hu =>
    have hu : takeUp (cmdTxnCommit h n).1 h s = some (s1, seq) := by
      split at hu
      · cases hu
      · exact hu
    split
    · split
      · rw [commit_mtc, takeUp_tc hu]
      · rw [runChecked_mtc (cmdTxnCommit_keepsMtc h n), takeUp_tc hu]
    · rw [runChecked_mtc (cmdTxnCommit_keepsMtc h n), takeUp_tc hu]

end Sys2Proof.Machine
end

section
/-! SUPPORT. What moves the counter leaves it a time word: cycles, slews, the step cycle, the join step and resets (R14, R28, R52, R68, R69). -/

namespace Sys2Proof.Machine

theorem setUnits_normal (m : Mtc) (u : Nat) : (m.setUnits u).Normal :=
  ⟨Nat.mod_lt _ (by decide), Nat.mod_lt _ (by decide), Nat.mod_lt _ (by decide)⟩

theorem cycle_normal (f : Int) (m : Mtc) : (m.cycle f).Normal := setUnits_normal m _

theorem cycles_normal (f : Int) (n : Nat) (m : Mtc) : (m.cycles f n).Normal := setUnits_normal m _

theorem tick_normal (m : Mtc) : m.tick.Normal := by
  unfold Mtc.tick
  split
  · exact cycle_normal _ _
  · split
    · exact cycle_normal _ _
    · exact cycle_normal _ _

theorem run_normal (n : Nat) (m : Mtc) : (m.run n).Normal := by
  unfold Mtc.run
  split
  · exact cycles_normal _ _ _
  · dsimp only
    split
    · exact cycles_normal _ _ _
    · exact cycles_normal _ _ _

theorem add_normal (m : Mtc) (sec ns frac : Int) : (m.add sec ns frac).Normal := setUnits_normal m _

theorem Inv.of_mtc {s t : State} (hi : Inv s) (h : t.tc.mtc = s.tc.mtc) : Inv t := by
  unfold Inv
  rw [h]
  exact hi

theorem Inv.of_tc {s t : State} (hi : Inv s) (h : t.tc = s.tc) : Inv t := hi.of_mtc (congrArg TcSt.mtc h)

theorem runClock_inv {s : State} (hi : Inv s) (n : Nat) : Inv (s.runClock n) := by
  by_cases h : s.alive = false ∨ s.tc.mtc.running = false
  · rw [runClock_stopped s n h]
    exact hi
  · rw [not_or, Bool.not_eq_false, Bool.not_eq_false] at h
    rw [runClock_frame s n h.1 h.2]
    exact run_normal _ _

theorem idleCycle_inv {s : State} (hi : Inv s) : Inv s.idleCycle := by
  unfold State.idleCycle
  extract_lets a s1
  split
  · exact hi
  · unfold Inv
    rw [snapAt_mtc]
    exact tick_normal _

theorem joinStep_inv {s : State} (hi : Inv s) (t : Nat × Nat × Nat) (gen : Nat) : Inv (joinStep t gen s) := by
  unfold joinStep
  split
  · next h =>
    simp only [Bool.and_eq_true, decide_eq_true_eq] at h
    obtain ⟨⟨⟨-, hsec⟩, hns⟩, hfrac⟩ := h
    unfold Inv
    rw [onHall_tc, onClasp_tc, stepFrame_tc, pushHist_mtc, onTc_tc]
    exact ⟨hns, hfrac, hsec⟩
  · exact hi

theorem onLaneFrame_inv {s : State} (hi : Inv s) (f : LaneFrame) : Inv (onLaneFrame f s) := by
  unfold onLaneFrame
  extract_lets s1 s0 s2
  have h1 : Inv s1 := hi.of_tc (ackMirror_tc _ _)
  have h0 : Inv s0 := by
    unfold s0
    split
    · exact h1
    · exact joinStep_inv h1 _ _
  have h2 : Inv s2 := h0.of_mtc (by simp [s2])
  split
  · exact hi.of_tc (by simp)
  · split
    · exact h2
    · exact h2.of_tc (by simp)

theorem onSnapshotUpdate_inv {s : State} (hi : Inv s) (n : Nat) : Inv (onSnapshotUpdate n s) := runClock_inv hi n

theorem onSlewComplete_inv {s : State} (hi : Inv s) : Inv (onSlewComplete s) := by
  unfold onSlewComplete
  split
  · exact hi
  · exact runClock_inv hi _

/-! ### Steering writes the frequency word and the slew, never the reading (R53, R68) -/

theorem pushHist_inv {s : State} (hi : Inv s) : Inv s.pushHist := hi.of_mtc (pushHist_mtc s)

theorem writeWord_inv {s : State} (hi : Inv s) (y : Rat) : Inv (s.writeWord y) := by
  unfold State.writeWord
  extract_lets w f g s1 s2
  have h1 : Inv s1 := hi
  have h2 : Inv s2 := h1.of_tc (by simp [s2])
  exact pushHist_inv h2

theorem slewBy_inv {s : State} (hi : Inv s) (c : Rat) : Inv (s.slewBy c) := pushHist_inv (s := s.onTc _) hi

theorem steerTime_inv {s : State} (hi : Inv s) : Inv s.steerTime := by
  unfold State.steerTime
  extract_lets a g x s1 s2 s3
  have h1 : Inv s1 := hi
  have h2 : Inv s2 := by
    unfold s2
    split
    · exact h1
    · exact slewBy_inv h1 _
  have h3 : Inv s3 := writeWord_inv h2 _
  split <;> exact h3

theorem steerHold_inv {s : State} (hi : Inv s) : Inv s.steerHold := by
  unfold State.steerHold
  exact writeWord_inv (s := s.onEns _) hi _

theorem enterAcquiring_inv {s : State} (hi : Inv s) (b : Bool) : Inv (s.enterAcquiring b) := by
  unfold State.enterAcquiring
  refine steerTime_inv (Inv.of_mtc ?_ (initialSet_mtc _))
  exact hi

theorem conduct_inv {s : State} (hi : Inv s) (old : TimingState) : Inv (s.conduct old) := by
  unfold State.conduct
  split
  case h_1 =>
    split
    · exact hi
    · exact pushHist_inv (s := (s.onTc _).onEns _) hi
  case h_2 =>
    split
    · exact steerTime_inv hi
    · exact enterAcquiring_inv hi _
  case h_3 =>
    split
    · exact slewBy_inv (s := s.onEns _) hi _
    · exact steerTime_inv hi
  case h_4 =>
    refine steerHold_inv ?_
    split
    · exact hi
    · exact hi.of_tc (by simp)
  case h_5 => exact hi

theorem onEnsembleUpdate_inv {s : State} (hi : Inv s) : Inv (onEnsembleUpdate s) := by
  unfold onEnsembleUpdate
  split
  · exact hi
  · extract_lets old u s1 s2 s3 s4 s5 s6 s7 s8
    have h1 : Inv s1 := hi.of_mtc (by
      have h (t : State) : ((List.range 4).foldl (fun t n => t.followRow (refPend n)) t).tc = t.tc := foldl_tc _ _ _ fun t n => followRow_tc t _
      simp [s1, u, h])
    have h2 : Inv s2 := by
      unfold s2
      split
      · exact h1.of_mtc (setTiming_mtc _ _)
      · exact h1
    have h3 : Inv s3 := h2.of_mtc (by simp [s3])
    have h4 : Inv s4 := h3.of_tc (by simp [s4])
    have h5 : Inv s5 := h4.of_tc (by simp [s5])
    have h6 : Inv s6 := h5.of_mtc (by simp [s6])
    have h7 : Inv s7 := conduct_inv h6 _
    have h8 : Inv s8 := by
      unfold s8
      split
      · exact h7.of_tc (foldl_tc (List.range 4) _ _ steerPendant_tc)
      · exact h7
    exact h8.of_tc (by simp)

theorem onMtcStart_inv {s : State} (hi : Inv s) : Inv (onMtcStart s) := by
  unfold onMtcStart
  split
  · exact hi
  · refine Inv.of_tc (s := State.pushHist _) (pushHist_inv (s := s.onTc _) ?_) (by simp; rfl)
    exact hi

/-! ### A reset puts the counter at zero (R52, R550, R553) -/

theorem zero_inv {s : State} (h : (s.tc.mtc.sec, s.tc.mtc.ns, s.tc.mtc.frac) = (0, 0, 0)) : Inv s := by
  simp only [Prod.mk.injEq] at h
  obtain ⟨hs, hn, hf⟩ := h
  unfold Inv Mtc.Normal
  rw [hs, hn, hf]
  decide

theorem dark_inv (s : State) : Inv s.dark := zero_inv rfl

theorem deviceReset_inv (s : State) (cause : Nat) (q : Bool) (pins : BootPins) : Inv (s.deviceReset cause q pins) := by
  unfold State.deviceReset
  extract_lets good opened absent s1 s2 s3 s4 s5
  have h2 : Inv s2 := zero_inv rfl
  have h3 : Inv s3 := h2
  have h4 : Inv s4 := h3.of_tc (by simp [s4])
  have h5 : Inv s5 := h4.of_tc ((foldl_tc _ _ _ fun t k => log_tc t _ _ _ _).trans (foldl_tc _ _ _ fun t x => log_tc t _ _ _ _))
  exact h5.of_tc (by simp)

theorem onPowerOnReset_inv (pins : BootPins) (s : State) : Inv (onPowerOnReset pins s) := deviceReset_inv _ _ _ _

theorem onSystemReset_inv (pins : BootPins) (s : State) : Inv (onSystemReset pins s) := deviceReset_inv _ _ _ _

theorem onCommandReset_inv {s : State} (hi : Inv s) (pins : BootPins) : Inv (onCommandReset pins s) := by
  unfold onCommandReset
  split
  · exact hi
  · split
    · exact hi
    · exact deviceReset_inv _ _ _ _

theorem onZeroisationReset_inv {s : State} (hi : Inv s) (pins : BootPins) : Inv (onZeroisationReset pins s) := by
  unfold onZeroisationReset
  split
  · exact deviceReset_inv _ _ _ _
  · exact hi

theorem onMainRailsLost_inv {s : State} (hi : Inv s) : Inv (onMainRailsLost s) := by
  unfold onMainRailsLost
  split
  · exact hi
  · exact (dark_inv s.cutSeal.cutWrite).of_tc (by simp)

theorem onPowerLost_inv {s : State} (hi : Inv s) : Inv (onPowerLost s) := by
  unfold onPowerLost
  refine Inv.of_tc (s := if s.alive then s.cutSeal.cutWrite.dark else s) ?_ (by simp)
  split
  · exact dark_inv _
  · exact hi

/-! ### The step cycle (R69) -/

theorem stepped_normal (p : PendStep) (c : TcSt) : (c.stepped p).mtc.Normal := add_normal c.mtc p.sec p.ns p.frac

theorem onStepCycle_inv {s : State} (hi : Inv s) : Inv (onStepCycle s) := by
  unfold onStepCycle
  split
  · exact hi
  · next p hp =>
    extract_lets d ps s0 s1 s2 s4 s5
    have h0 : Inv (s0.onTc fun c => c.stepped p) := stepped_normal p s0.tc
    have h1 : Inv s1 := idleCycle_inv (pushHist_inv h0)
    have h2 : Inv s2 := h1.of_tc (by simp [s2])
    have h4 : Inv s4 := h2.of_tc (onGnss_tc _ _)
    have h5 : Inv s5 := h4.of_tc ((foldl_tc _ _ _ stepPort_tc).trans (stepTse_tc _))
    refine h5.of_tc ((stepPins_tc _ _).trans (foldl_tc _ _ _ fun t k => ?_))
    simp

end Sys2Proof.Machine
end

section
/-! SUPPORT. Every command and every event keeps the invariant. -/

namespace Sys2Proof.Machine

/-- A row that runs only while the device lives keeps the counter where its effect does. -/
theorem alive_mtc {s t u : State} (h : (Host.Outcome.next (if s.alive = true then u else s) : Host.Outcome State Fault Refusal) = .next t)
    (hu : u.tc.mtc = s.tc.mtc) : t.tc.mtc = s.tc.mtc := by
  obtain rfl := Host.Outcome.next.inj h
  split
  · exact hu
  · rfl

theorem alive_inv {s t u : State} (h : (Host.Outcome.next (if s.alive = true then u else s) : Host.Outcome State Fault Refusal) = .next t)
    (hs : Inv s) (hu : Inv u) : Inv t := by
  obtain rfl := Host.Outcome.next.inj h
  split
  · exact hu
  · exact hs

theorem exec_cmd_inv {i : Instr} {s t : State} {h : CmdHdr} {m : CmdMeta} {b : CmdBody} (hc : cmdOf i s = some (h, m, b)) (hi : Inv s)
    (ht : exec i s = .next t) : Inv t := by
  rw [exec_of_cmdOf hc] at ht
  obtain rfl := Host.Outcome.next.inj ht
  exact hi.of_mtc (runCommand_mtc (cmdOf_keepsMtc hc) _ _ _ _ _)

theorem exec_event_inv {i : Instr} {s t : State} (hc : cmdOf i s = none) (hi : Inv s) (ht : exec i s = .next t) : Inv t := by
  cases i <;> simp only [cmdOf, reduceCtorEq] at hc
  case stateReadObject h c n => exact hi.of_mtc ((Host.Outcome.next.inj ht) ▸ runCommand_mtc (fun _ => by simp) _ _ _ _ _)
  case stateListClasses h => exact hi.of_mtc ((Host.Outcome.next.inj ht) ▸ runCommand_mtc (fun _ => by simp) _ _ _ _ _)
  case txnCommit h n => exact hi.of_mtc (execTxnCommit_mtc ht)
  case snapshotUpdate n => exact alive_inv ht hi (onSnapshotUpdate_inv hi n)
  case slewComplete => exact alive_inv ht hi (onSlewComplete_inv hi)
  case stepCycle => exact alive_inv ht hi (onStepCycle_inv hi)
  case laneFrame f => exact alive_inv ht hi (onLaneFrame_inv hi f)
  case ensembleUpdate => exact alive_inv ht hi (onEnsembleUpdate_inv hi)
  case mtcStart => exact alive_inv ht hi (onMtcStart_inv hi)
  case powerOnReset p => exact Host.Outcome.next.inj ht ▸ onPowerOnReset_inv p s
  case systemReset p => exact alive_inv ht hi (onSystemReset_inv p s)
  case commandReset p => exact alive_inv ht hi (onCommandReset_inv hi p)
  case zeroisationReset p => exact alive_inv ht hi (onZeroisationReset_inv hi p)
  case mainRailsLost => exact Host.Outcome.next.inj ht ▸ onMainRailsLost_inv hi
  case powerLost => exact Host.Outcome.next.inj ht ▸ onPowerLost_inv hi
  case vbatApplied => exact hi.of_tc (Host.Outcome.next.inj ht ▸ onVbatApplied_tc s)
  case tamperStrobe x => exact hi.of_tc (Host.Outcome.next.inj ht ▸ onTamperStrobe_tc x s)
  all_goals exact hi.of_mtc (alive_mtc ht (by simp))

end Sys2Proof.Machine
end

section
/-! The invariant of the machine: the counter holds a time word in every state that a step answers. -/

namespace Sys2Proof.Machine

theorem exec_inv {i : Instr} {s t : State} (hi : Inv s) (ht : exec i s = .next t) : Inv t := by
  cases hc : cmdOf i s with
  | none => exact exec_event_inv hc hi ht
  | some c => exact exec_cmd_inv hc hi ht

theorem step_inv {s t : State} (hi : Inv s) (ht : step s = .next t) : Inv t := by
  unfold step at ht
  split at ht
  · exact Host.Outcome.next.inj ht ▸ idleCycle_inv hi
  · next c r hp => exact exec_inv (s := { s with pending := r }) hi ht

/-- Settles O55: the reset state is the default of every block. -/
theorem resetMeetsTheInvariant : Obligations.ResetMeetsTheInvariant :=
  ⟨zero_inv rfl, rfl, rfl, rfl, rfl, fun _ _ => ⟨rfl, rfl, rfl⟩, fun _ => rfl, fun _ => rfl, rfl, fun _ => rfl, rfl⟩

/-- Settles O56: an idle cycle normalises the counter, and every command leaves the reading alone or writes a time word. -/
theorem stepKeepsTheInvariant : Obligations.StepKeepsTheInvariant := fun _ _ hi ht => step_inv hi ht

end Sys2Proof.Machine
end

section

/-! The fourth clause of `LifeOfACommand` fails. At the ACTIVE unit of a pair a mirrored command is judged as of the changes accepted so far
(R207, R433), `judged` judges it on the state as it stands: the two differ while a change waits for the partner. -/

namespace Sys2Proof.Machine

open Sys2Proof.Tests

/-- An ACTIVE unit at which one `sta.commit` has been accepted and still waits for the partner. -/
def commitWaiting : State :=
  { base with clasp := { base.clasp with st := .active, mirror := [{ cmds := [.staCommit (hd 0)] }] } }

/-- On the state as it stands no commit waits, so a second one would take effect. -/
theorem judged_commit_of_commitWaiting :
    judged (.staCommit (hd 0)) commitWaiting = some (hd 0, { op := 0x2503, mirrored := true, action := true }, {}) := by
  decide

/-- As of the accepted changes a commit waits: the second completes with E_BUSY (R392), and nothing new waits for the partner. -/
theorem exec_commit_of_commitWaiting_mirror :
    (match exec (.staCommit (hd 0)) commitWaiting with
     | .next t => t.clasp.mirror.length
     | _ => 0) = 1 := by
  decide

/-- Refutes O58: at an ACTIVE unit whose first `sta.commit` still waits for the partner, the checks on the state as it stands accept a second
one, which the fourth clause then has wait as well; the model judges it as of the accepted first and completes it with E_BUSY. -/
theorem not_lifeOfACommand : ¬ Obligations.LifeOfACommand := by
  intro h
  obtain ⟨-, -, -, waits⟩ := h
  obtain ⟨t, hexec, -, hmirror, -⟩ :=
    waits _ _ _ _ _ judged_commit_of_commitWaiting rfl (by decide) rfl rfl (by decide)
  have hone : t.clasp.mirror.length = 1 := by
    simpa only [hexec] using exec_commit_of_commitWaiting_mirror
  have htwo : t.clasp.mirror.length = 2 := by
    simpa [commitWaiting] using congrArg List.length hmirror
  omega

end Sys2Proof.Machine
end

section

/-! ### What a write to one function or one queue of the mailboxes leaves (R449-R452) -/

namespace Sys2Proof.Machine

/-- A row whose effect is an update of one function changes that function and nothing else. -/
theorem Does.onFn {i : Instr} {s : State} {b : Nat} {f : FnSt → FnSt} (h : exec i s = .next (s.onFn b f)) :
    Does i s fun t => t = { s with mbx := t.mbx } ∧ t.fn b = f (s.fn b) ∧ (∀ k, k ≠ b → t.fn k = s.fn k) :=
  ⟨_, h, rfl, onFn_fn_self _ _ _, fun _ hk => onFn_fn_other _ _ hk.symm⟩

/-- A row whose effect is an update of one command queue changes that queue and nothing else. -/
theorem Does.onQueue {i : Instr} {s : State} {b q : Nat} {f : CmdQueue → CmdQueue} (h : exec i s = .next (s.onQueue b q f)) :
    Does i s fun t => t = { s with mbx := t.mbx } ∧ (t.fn b).q q = f ((s.fn b).q q) ∧ (∀ j, j ≠ q → (t.fn b).q j = (s.fn b).q j) ∧
      (∀ k, k ≠ b → t.fn k = s.fn k) :=
  ⟨_, h, rfl, onQueue_self _ _ _ _, fun _ hj => onQueue_other _ _ _ hj.symm, fun _ hk => onFn_fn_other _ _ hk.symm⟩

/-- An effect of which less is asked. -/
theorem Does.imp {i : Instr} {s : State} {P Q : State → Prop} (h : Does i s P) (hPQ : ∀ t, P t → Q t) : Does i s Q := by
  obtain ⟨t, ht, hP⟩ := h
  exact ⟨t, ht, hPQ t hP⟩

/-- An effect that stands for another row's. -/
theorem Does.congr {i k : Instr} {s : State} {P : State → Prop} (h : Does i s P) (hik : exec k s = exec i s) : Does k s P := by
  obtain ⟨t, ht, hP⟩ := h
  exact ⟨t, hik.trans ht, hP⟩

/-- An event that fell due for one bezel is the last one due there (R486). -/
theorem raise_due_getLast (s : State) (b c : Nat) (d : Rec) (v : Nat) :
    ((s.raise [b] c d v).fn b).due.getLast? = some { code := c, time := s.now, detail := d } := by
  have hfn : (s.raise [b] c d v).fn b = (s.dueFor b { code := c, time := s.now, detail := d }).fn b := by
    simp [State.raise, State.fn, List.eraseDups_cons]
  rw [hfn, State.dueFor, onFn_fn_self]
  exact List.getLast?_concat

/-- An abandoned owner holds no semaphore (R462). -/
theorem abandon_sems (s : State) (b : Nat) (mine : Nat → Bool) :
    (((s.abandon b mine).fn b).sems.all fun e => !(e.2.st = .held && mine e.2.owner)) = true := by
  rw [State.abandon, onFn_fn_self, List.all_eq_true]
  intro e he
  obtain ⟨p, -, rfl⟩ := List.mem_map.mp he
  by_cases hp : (p.2.st = .held && mine p.2.owner) = true
  · simp [hp]
  · simp only [hp, if_false, Bool.false_eq_true]
    rfl

/-- A queue with no open transaction has nothing to roll back (R465). -/
theorem rollback_of_txn_none {s : State} {b q : Nat} (h : ((s.fn b).q q).txn = none) : s.rollback b q = s := by
  unfold State.rollback
  rw [h]

/-! ### Doorbells (R449, R451, R452, R585) -/

section
variable {s : State} {b q w v : Nat} {l : List TxDesc}

theorem exec_mbxCmdDb (ha : s.alive = true) : exec (.mbxCmdDb b q w) s = .next (onMbxCmdDb b q w s) :=
  congrArg Host.Outcome.next (if_pos ha)

theorem onMbxCmdDb_of_within (hf : s.fnEnabled b = true) (hq : q < 4) (hr : s.mbx.ready = true) (hen : ((s.fn b).q q).en = true) (hw : w < 65536)
    (hlo : (((s.fn b).q q).tail + 65536 - ((s.fn b).q q).done) % 65536 ≤ (w + 65536 - ((s.fn b).q q).done) % 65536)
    (hhi : (w + 65536 - ((s.fn b).q q).done) % 65536 ≤ 256) :
    onMbxCmdDb b q w s = s.onQueue b q fun x => { x with tail := w } := by
  simp [onMbxCmdDb, hf, hq, hr, hen, Nat.mod_eq_of_lt hw, Nat.not_lt.mpr hlo, Nat.not_lt.mpr hhi]

theorem onMbxCmdDb_of_beyond (hf : s.fnEnabled b = true) (hq : q < 4) (hr : s.mbx.ready = true) (hen : ((s.fn b).q q).en = true) (hw : w < 65536)
    (hhi : 256 < (w + 65536 - ((s.fn b).q q).done) % 65536) :
    onMbxCmdDb b q w s = (s.ignore b).raise [b] 0x0402 [fld 8 q, fld 16 w] := by
  simp [onMbxCmdDb, hf, hq, hr, hen, Nat.mod_eq_of_lt hw, hhi]

theorem onMbxCmdDb_of_disabled (hf : s.fnEnabled b = true) (hq : q < 4) (hen : ((s.fn b).q q).en = false) : onMbxCmdDb b q w s = s.ignore b := by
  simp [onMbxCmdDb, hf, hq, hen]

/-- A doorbell out of bounds moves no index; it is counted and its event falls due (R451). -/
theorem mbxCmdDb_beyond (ha : s.alive = true) (hf : s.fnEnabled b = true) (hq : q < 4) (hr : s.mbx.ready = true) (hen : ((s.fn b).q q).en = true)
    (hw : w < 65536) (hhi : 256 < (w + 65536 - ((s.fn b).q q).done) % 65536) :
    Does (.mbxCmdDb b q w) s fun t => (t.fn b).q q = (s.fn b).q q ∧ (t.fn b).ignored = (s.fn b).ignored + 1 ∧
      ((t.fn b).due.getLast?.map fun e => (e.code, e.detail)) = some (0x0402, [fld 8 q, fld 16 w]) ∧ t = { s with mbx := t.mbx, mgmt := t.mgmt } := by
  refine ⟨_, (exec_mbxCmdDb ha).trans (congrArg _ (onMbxCmdDb_of_beyond hf hq hr hen hw hhi)), ?_, ?_, ?_, ?_⟩
  · rw [(raise_quiet _ _ _ _ _).fns b, State.ignore, onFn_fn_self]
    rfl
  · rw [(raise_quiet _ _ _ _ _).fns b, State.ignore, onFn_fn_self]
  · rw [raise_due_getLast]
    rfl
  · rw [raise_rest]
    rfl

theorem exec_mbxCplDb_of_within (ha : s.alive = true) (hf : s.fnEnabled b = true) (hen : (s.fn b).cplEn = true) (hw : w < 65536)
    (hn : (w + 65536 - (s.fn b).cplHead) % 65536 ≤ ((s.fn b).cplPut + 65536 - (s.fn b).cplHead) % 65536) :
    exec (.mbxCplDb b w) s =
      .next (s.onFn b fun x => { x with cplHead := w, cplQ := x.cplQ.drop ((w + 65536 - (s.fn b).cplHead) % 65536) }) :=
  congrArg Host.Outcome.next ((if_pos ha).trans (by simp [onMbxCplDb, hf, hen, Nat.mod_eq_of_lt hw, Nat.not_lt.mpr hn]))

theorem exec_mbxEvtDb_of_within (ha : s.alive = true) (hf : s.fnEnabled b = true) (hen : (s.fn b).evtEn = true) (hw : w < 65536)
    (hn : (w + 65536 - (s.fn b).evtHead) % 65536 ≤ ((s.fn b).evtPut + 65536 - (s.fn b).evtHead) % 65536) :
    exec (.mbxEvtDb b w) s =
      .next (s.onFn b fun x => { x with evtHead := w, evtQ := x.evtQ.drop ((w + 65536 - (s.fn b).evtHead) % 65536) }) :=
  congrArg Host.Outcome.next ((if_pos ha).trans (by simp [onMbxEvtDb, hf, hen, Nat.mod_eq_of_lt hw, Nat.not_lt.mpr hn]))

/-! ### Queue enables (R450, R462, R587) -/

theorem exec_cmdQueueEnable_of_placeOk (ha : s.alive = true) (hf : s.fnEnabled b = true) (hq : q < 4) (hen : ((s.fn b).q q).en = false)
    (hp : queuePlaceOk s b ((s.fn b).q q).base 16384 = true) :
    exec (.cmdQueueEnable b q) s =
      .next (s.onQueue b q fun x => { x with en := true, err := 0, tail := 0, fetched := 0, done := (65536 - x.inflight.length) % 65536 }) :=
  congrArg Host.Outcome.next ((if_pos ha).trans (by simp [onCmdQueueEnable, hf, hq, hen, hp]))

theorem exec_cmdQueueEnable_of_misplaced (ha : s.alive = true) (hf : s.fnEnabled b = true) (hq : q < 4) (hen : ((s.fn b).q q).en = false)
    (hp : queuePlaceOk s b ((s.fn b).q q).base 16384 = false) :
    exec (.cmdQueueEnable b q) s = .next (s.onQueue b q fun x => { x with err := Status.arg.code }) :=
  congrArg Host.Outcome.next ((if_pos ha).trans (by simp [onCmdQueueEnable, hf, hq, hen, hp]))

/-- A disabled queue with no open transaction abandons its semaphores, and nothing else of the device changes (R462, R587). -/
theorem cmdQueueDisable_of_txn_none (ha : s.alive = true) (hf : s.fnEnabled b = true) (hen : ((s.fn b).q q).en = true) (ht : ((s.fn b).q q).txn = none) :
    Does (.cmdQueueDisable b q) s fun t => t = { s with mbx := t.mbx } ∧ (t.fn b).q q = { (s.fn b).q q with en := false } ∧
      (∀ j, j ≠ q → (t.fn b).q j = (s.fn b).q j) ∧ ((t.fn b).sems.all fun e => !(e.2.st = .held && e.2.owner = q)) = true ∧
      (∀ k, k ≠ b → t.fn k = s.fn k) := by
  have hqueue : ∀ j, (((s.onQueue b q fun x => { x with en := false }).abandon b (· = q)).fn b).q j
      = ((s.onQueue b q fun x => { x with en := false }).fn b).q j := by
    intro j
    rw [State.abandon, onFn_fn_self]
    rfl
  have hroll : onCmdQueueDisable b q s = (s.onQueue b q fun x => { x with en := false }).abandon b (· = q) := by
    rw [onCmdQueueDisable, if_neg (by simp [hf, hen])]
    exact rollback_of_txn_none (by rw [hqueue, onQueue_self]; exact ht)
  refine ⟨_, congrArg Host.Outcome.next ((if_pos ha).trans hroll), rfl, ?_, fun j hj => ?_, abandon_sems _ _ _, fun k hk => ?_⟩
  · rw [hqueue, onQueue_self]
  · rw [hqueue, onQueue_other _ _ _ hj.symm]
  · rw [State.abandon, onFn_fn_other _ _ hk.symm, State.onQueue, onFn_fn_other _ _ hk.symm]

theorem exec_cplQueueEnable_of_placeOk (ha : s.alive = true) (hf : s.fnEnabled b = true) (hen : (s.fn b).cplEn = false)
    (hp : queuePlaceOk s b (s.fn b).cplBase 65536 = true) :
    exec (.cplQueueEnable b) s = .next (s.onFn b fun x => { x with cplEn := true, qErr := 0, cplPut := 0, cplHead := 0, cplQ := [] }) :=
  congrArg Host.Outcome.next ((if_pos ha).trans (by simp [onCplQueueEnable, hf, hen, hp]))

theorem exec_cplQueueDisable_of_enabled (ha : s.alive = true) (hf : s.fnEnabled b = true) (hen : (s.fn b).cplEn = true) :
    exec (.cplQueueDisable b) s = .next (s.onFn b fun x =>
      if ((s.fn b).queues.any fun p => p.2.en) = true then { x with ignored := x.ignored + 1 } else { x with cplEn := false }) := by
  refine congrArg Host.Outcome.next ((if_pos ha).trans ?_)
  cases hany : (s.fn b).queues.any fun p => p.2.en <;> simp [onCplQueueDisable, State.ignore, hf, hen, hany]

theorem exec_evtQueueEnable_of_placeOk (ha : s.alive = true) (hf : s.fnEnabled b = true) (hen : (s.fn b).evtEn = false) (hlo : 6 ≤ (s.fn b).evtSize)
    (hhi : (s.fn b).evtSize ≤ 12) (hp : queuePlaceOk s b (s.fn b).evtBase (64 * 2 ^ (s.fn b).evtSize) = true) :
    exec (.evtQueueEnable b) s = .next (s.onFn b fun x => { x with evtEn := true, qErr := 0, evtPut := 0, evtHead := 0, evtQ := [] }) :=
  congrArg Host.Outcome.next ((if_pos ha).trans (by simp [onEvtQueueEnable, hf, hen, hlo, hhi, hp]))

theorem exec_evtQueueDisable (ha : s.alive = true) (hf : s.fnEnabled b = true) :
    exec (.evtQueueDisable b) s = .next (s.onFn b fun x => { x with evtEn := false }) :=
  congrArg Host.Outcome.next ((if_pos ha).trans (by simp [onEvtQueueDisable, hf]))

/-! ### Interrupt vectors (R466) -/

theorem exec_msixVectorMask (w : Bool) (ha : s.alive = true) (hf : s.fnEnabled b = true) (hv : v < 64) :
    exec (.msixVectorMask b v w) s = .next (s.onFn b fun x => { x with vecs := x.vecs.upd {} v fun e => { e with mask := true } }) :=
  congrArg Host.Outcome.next ((if_pos ha).trans (by simp [onMsixVectorMask, hf, hv]))

/-- A pending vector that is unmasked has sent one message more (R466). -/
theorem msixVectorUnmask_of_pending (ha : s.alive = true) (hf : s.fnEnabled b = true) (hv : v < 64) (hm : ((s.fn b).vecs.look {} v).mask = true)
    (hp : ((s.fn b).vecs.look {} v).pend = true) :
    Does (.msixVectorUnmask b v) s fun t => t = { s with mbx := t.mbx } ∧ (t.fn b).vecs.look {} v = { (s.fn b).vecs.look {} v with
      mask := false, pend := false, sent := ((s.fn b).vecs.look {} v).sent + 1, holding := decide (0 < ((s.fn b).vecs.look {} v).hold), more := false } := by
  refine ⟨onMsixVectorUnmask b v s, congrArg Host.Outcome.next (if_pos ha), ?_, ?_⟩ <;> simp only [onMsixVectorUnmask, hf, hv]
  · rfl
  · simp [hm, hp]

/-! ### Register writes (R449, R583-R587) -/

theorem exec_registerWrite {r o n : Nat} (ha : s.alive = true) :
    exec (.registerWrite b r o n { value := v, descs := l }) s = .next (onRegisterWrite b r o n { value := v, descs := l } s) :=
  congrArg Host.Outcome.next (if_pos ha)

/-- A write outside BAR0, or one that is not an aligned access of 4 or 8 bytes, is ignored and counted (R449). -/
theorem onRegisterWrite_of_misaligned {r o n : Nat} (hf : s.fnEnabled b = true)
    (h : r ≠ 0 ∨ (n = 4 ∧ o % 4 ≠ 0) ∨ (n = 8 ∧ o % 8 ≠ 0) ∨ (n ≠ 4 ∧ n ≠ 8)) :
    onRegisterWrite b r o n { value := v, descs := l } s = s.ignore b := by
  have hbad : (r != 0 || !((n = 4 && o % 4 = 0) || (n = 8 && o % 8 = 0))) = true := by
    by_contra hgood
    simp only [Bool.or_eq_true, bne_iff_ne, Bool.not_eq_true', Bool.and_eq_true, decide_eq_true_eq, not_or, not_not, Bool.not_eq_false] at hgood
    omega
  rw [onRegisterWrite, if_neg (by simp [hf]), if_pos hbad]

/-- The command doorbells stand at the first four 8-byte places of BAR0 (R585). -/
theorem onRegisterWrite_doorbell (hf : s.fnEnabled b = true) (hq : q < 4) :
    onRegisterWrite b 0 (8 * q) 4 { value := v, descs := l } s = onMbxCmdDb b q (v % 65536) s := by
  have hoff : 8 * q < 0x20 := by omega
  have hal : 8 * q % 4 = 0 := by omega
  simp [onRegisterWrite, hf, hoff, hal]

/-- The bases of the command queues stand from 0x1000 on (R586). -/
theorem onRegisterWrite_base (hf : s.fnEnabled b = true) (hq : q < 4) (hen : ((s.fn b).q q).en = false) :
    onRegisterWrite b 0 (0x1000 + 8 * q) 8 { value := v, descs := l } s =
      s.onQueue b q fun k => { k with base := v % 2 ^ 64 / 4096 * 4096 } := by
  have hal : (0x1000 + 8 * q) % 8 = 0 := by omega
  have hdb : ¬ 0x1000 + 8 * q < 0x20 := by omega
  have hcpl : ¬ 0x1000 + 8 * q = 0x20 := by omega
  have hevt : ¬ 0x1000 + 8 * q = 0x28 := by omega
  have hlo : 0x1000 ≤ 0x1000 + 8 * q := by omega
  have hhi : 0x1000 + 8 * q < 0x1020 := by omega
  have hidx : (0x1000 + 8 * q - 0x1000) / 8 = q := by omega
  rw [onRegisterWrite]
  simp only [hidx]
  rw [if_neg (by simp [hf]), if_neg (by simp [hal]), if_neg (by simp [hdb]), if_neg hcpl, if_neg hevt, if_pos (by simp [hhi]), if_neg (by simp [hen])]
  rfl

/-- The test register is closed on a sealed device (R562). -/
theorem onRegisterWrite_test_of_sealed (hs : s.isSealed = true) : onRegisterWrite 0 0 0x10F0 4 { value := v, descs := l } s = s := by
  simp [onRegisterWrite, State.fnEnabled, hs]

theorem onRegisterWrite_test_of_open (hs : s.isSealed = false) :
    onRegisterWrite 0 0 0x10F0 4 { value := v, descs := l } s =
      { s with mbx := { s.mbx with testDis := nbit v 0, boardTag := v / 256 % 256 } } := by
  simp [onRegisterWrite, State.fnEnabled, hs, State.onMbx]

/-! ### Register reads (R18, R586) -/

/-- Doorbells and port rings are write-only: their places read as zero. -/
theorem readRegister_bar0_writeOnly {o : Nat} (h : o < 0x30 ∨ 0x8000 ≤ o) : s.readRegister b 0 o 4 = 0 := by
  have hword : s.bar0Word b o = 0 := by
    unfold State.bar0Word
    simp only [Bool.and_eq_true, decide_eq_true_eq]
    repeat rw [if_neg (by omega)]
  unfold State.readRegister
  simp [hword]

/-- The two words of a 64-bit value are the value. -/
theorem wordOf_low_add_high {x : Nat} (hx : x < 2 ^ 64) : wordOf x 0 + 2 ^ 32 * wordOf x 4 = x := by
  unfold wordOf
  omega

/-- An 8-byte read of a queue's base gives the base (R586). -/
theorem readRegister_base (hq : q < 4) (hb : ((s.fn b).q q).base < 2 ^ 64) : s.readRegister b 0 (0x1000 + 8 * q) 8 = ((s.fn b).q q).base := by
  have hword : ∀ k, k < 8 → s.bar0Word b (0x1000 + 8 * q + k) = wordOf ((s.fn b).q q).base k := by
    intro k hk
    have hhi : 0x1000 + 8 * q + k < 0x1020 := by omega
    have hlo : 0x1000 ≤ 0x1000 + 8 * q + k := by omega
    have hidx : (0x1000 + 8 * q + k - 0x1000) / 8 = q := by omega
    have hoff : (0x1000 + 8 * q + k) % 8 = k := by omega
    rw [State.bar0Word]
    simp only [hidx, hoff]
    rw [if_pos (by simp [hlo, hhi])]
  have hal : (0x1000 + 8 * q) % 8 = 0 := by omega
  have h0 := hword 0 (by omega)
  have h4 := hword 4 (by omega)
  rw [Nat.add_zero] at h0
  unfold State.readRegister
  simp only [h0, h4, hal]
  exact wordOf_low_add_high hb

end

/-! ### The values BAR2 shows once the MP has stopped (R531, R593): no operation of a fatal fault writes over them -/

@[simp] theorem ite_held (c : Prop) [Decidable c] (a b : State) :
    (if c then a else b).mgmt.held = if c then a.mgmt.held else b.mgmt.held := apply_ite (fun t : State => t.mgmt.held) _ _ _

/-- A fold whose every step keeps the held values keeps them. -/
theorem foldl_held {α : Type} (l : List α) (g : State → α → State) (s : State) (hg : ∀ t x, (g t x).mgmt.held = t.mgmt.held) :
    (l.foldl g s).mgmt.held = s.mgmt.held := by
  induction l generalizing s with
  | nil => rfl
  | cons x r ih => rw [List.foldl_cons, ih, hg]

theorem Quiet.held {s t : State} (h : Quiet s t) : t.mgmt.held = s.mgmt.held := by rw [h.mgmt]

@[simp] theorem raiseAll_held (s : State) (c : Nat) (d : Rec) : (s.raiseAll c d).mgmt.held = s.mgmt.held := (raiseAll_quiet _ _ _).held

@[simp] theorem setPin_held (s : State) (w n : Nat) (x : Bool) : (s.setPin w n x).mgmt.held = s.mgmt.held := (rfl)

@[simp] theorem icuTake_held (s : State) (target : Nat) : (s.icuTake target).mgmt.held = s.mgmt.held := by
  unfold State.icuTake
  split
  · rfl
  · dsimp only
    (repeat' split) <;> rfl

@[simp] theorem fireMp_held (s : State) : s.fireMp.mgmt.held = s.mgmt.held := icuTake_held _ _

@[simp] theorem setPower_held (s : State) (p : PowerState) : (s.setPower p).mgmt.held = s.mgmt.held := by
  simp [State.setPower, State.onPwr]

@[simp] theorem followHealth_held (s : State) : s.followHealth.mgmt.held = s.mgmt.held := by simp [State.followHealth]

@[simp] theorem addCause_held (s : State) (code : Nat) (replace : Bool) : (s.addCause code replace).mgmt.held = s.mgmt.held := by
  simp [State.addCause, State.replaceN]

@[simp] theorem followPin_held (s : State) (key : Nat) : (s.followPin key).mgmt.held = s.mgmt.held := by
  simp [State.followPin, State.hallDue, State.onPin, State.onOut]

@[simp] theorem followPins_held (s : State) : s.followPins.mgmt.held = s.mgmt.held := by
  unfold State.followPins
  exact foldl_held outKeys _ s followPin_held

@[simp] theorem setPhase_held (s : State) (kind i : Nat) (ph : ShaperPhase) : (s.setPhase kind i ph).mgmt.held = s.mgmt.held := by
  simp [State.setPhase, State.onShaper, State.onTm]

@[simp] theorem backDesc_held (s : State) (hd place : Nat) (d : DescBack) : (s.backDesc hd place d).mgmt.held = s.mgmt.held := by
  unfold State.backDesc
  split
  · rfl
  · simp [State.onPring, State.onPorts]

@[simp] theorem backFrame_held (s : State) (f : TxFrame) (status : Nat) : (s.backFrame f status).mgmt.held = s.mgmt.held := by
  unfold State.backFrame
  split
  · rfl
  · exact backDesc_held _ _ _ _

@[simp] theorem abortTx_held (s : State) (p : Nat) (f : TxFrame) (status : Nat) : (s.abortTx p f status).mgmt.held = s.mgmt.held := by
  rw [State.abortTx, backFrame_held, State.followShapers, setPhase_held, setPhase_held, setPhase_held]
  rfl

@[simp] theorem squelchStart_held (s : State) : s.squelchStart.mgmt.held = s.mgmt.held := by
  unfold State.squelchStart
  dsimp only
  rw [foldl_held]
  · rw [followPins_held]
    rfl
  · intro t q
    split
    · rw [abortTx_held]
      rfl
    · rfl

@[simp] theorem latchFatal_held (s : State) : s.latchFatal.mgmt.held = s.mgmt.held := by simp [State.latchFatal]

/-- A missed heartbeat leaves BAR2 showing what it showed when the MP stopped (R527, R593). -/
theorem onHeartbeatTimeout_bar2 (s : State) : (onHeartbeatTimeout s).bar2 = s.bar2 := by
  have hheld : (onHeartbeatTimeout s).mgmt.held = some s.bar2 := by simp [onHeartbeatTimeout, State.stopMp, State.onMgmt]
  rw [State.bar2, hheld]
  rfl

/-- Apart from the epoch and the sticky words, BAR2 is what its view shows (R593). -/
theorem bar2Word_of_bar2 {s t : State} {b o : Nat} (h : t.bar2 = s.bar2) (he : o < 0x200 ∨ 0x204 ≤ o) (hk : o < 0x400 ∨ 0x440 ≤ o) :
    t.bar2Word b o = s.bar2Word b o := by
  have hne : o ≠ 0x200 := by omega
  have hns : (decide (0x400 ≤ o) && decide (o < 0x440)) = false := by
    simp only [Bool.and_eq_false_iff, decide_eq_false_iff_not]
    omega
  simp only [State.bar2Word, h, hne, hns, if_false, Bool.false_eq_true]

theorem readRegister_bar2_of_bar2 {s t : State} {b o n : Nat} (h : t.bar2 = s.bar2) (he : o < 0x200 ∨ 0x208 ≤ o) (hk : o < 0x400 ∨ 0x440 ≤ o) :
    t.readRegister b 2 o n = s.readRegister b 2 o n := by
  have hlow : t.bar2Word b o = s.bar2Word b o := bar2Word_of_bar2 h (by omega) hk
  by_cases hal : o % 8 = 0
  · have hhigh : t.bar2Word b (o + 4) = s.bar2Word b (o + 4) := bar2Word_of_bar2 h (by omega) (by omega)
    simp [State.readRegister, hlow, hhigh]
  · simp [State.readRegister, hlow, hal]

/-- Settles O35: every clause is the row's one update of a function or a queue, read through the rules above. -/
theorem mailboxWrites : Obligations.MailboxWrites := by
  unfold Obligations.MailboxWrites
  refine ⟨fun s b q w ha hf hq hr hen hw hlo hhi => ?doorbell, fun s b q w ha hf hq hr hen hw hhi => mbxCmdDb_beyond ha hf hq hr hen hw hhi,
    fun s b q w ha hf hq hen => ?disabledDoorbell, fun s b w ha hf hen hw hn => Does.onFn (exec_mbxCplDb_of_within ha hf hen hw hn),
    fun s b w ha hf hen hw hn => Does.onFn (exec_mbxEvtDb_of_within ha hf hen hw hn),
    fun s b q ha hf hq hen hp => Does.onQueue (exec_cmdQueueEnable_of_placeOk ha hf hq hen hp), fun s b q ha hf hq hen hp => ?misplaced,
    fun s b q ha hf hen ht => cmdQueueDisable_of_txn_none ha hf hen ht,
    fun s b ha hf hen hp => Does.onFn (exec_cplQueueEnable_of_placeOk ha hf hen hp),
    fun s b ha hf hen => Does.onFn (exec_cplQueueDisable_of_enabled ha hf hen),
    fun s b ha hf hen hlo hhi hp => Does.onFn (exec_evtQueueEnable_of_placeOk ha hf hen hlo hhi hp),
    fun s b ha hf => Does.onFn (exec_evtQueueDisable ha hf), fun s b v w ha hf hv => ?masked,
    fun s b v ha hf hv hm hp => msixVectorUnmask_of_pending ha hf hv hm hp, fun s b r o n v l ha hf hbad => ?misaligned, fun s b q v l ha hf hq => ?doorbellOffset,
    fun s b q v l ha hf hq hen => ?base, fun s v l ha hs => ?sealedTest, fun s v l ha hs => ?openTest, fun s e n ha => ?vfEnable,
    fun s b o ho => readRegister_bar0_writeOnly ho, fun s b q v l ha hf hq hen => ?baseReads, fun s b o n ha _ he hk => ?bar2Held⟩
  case doorbell => exact Does.onQueue ((exec_mbxCmdDb ha).trans (congrArg _ (onMbxCmdDb_of_within hf hq hr hen hw hlo hhi)))
  case disabledDoorbell => exact Does.onFn ((exec_mbxCmdDb ha).trans (congrArg _ (onMbxCmdDb_of_disabled hf hq hen)))
  case misplaced =>
    exact (Does.onQueue (exec_cmdQueueEnable_of_misplaced ha hf hq hen hp)).imp fun _ ⟨hrest, hself, _, _⟩ => ⟨hrest, hself⟩
  case masked =>
    refine (Does.onFn (exec_msixVectorMask w ha hf hv)).imp fun t ⟨hrest, hself, _⟩ => ⟨hrest, ?_, by rw [hself], fun j hj => ?_⟩
    · rw [hself, Tab.look_upd_self]
    · rw [hself, Tab.look_upd_other _ _ _ hj.symm]
  case misaligned => exact Does.onFn ((exec_registerWrite ha).trans (congrArg _ (onRegisterWrite_of_misaligned hf hbad)))
  case doorbellOffset =>
    exact ⟨_, (exec_registerWrite ha).trans (congrArg _ (onRegisterWrite_doorbell hf hq)), _, exec_mbxCmdDb ha, rfl⟩
  case base =>
    exact (Does.onQueue ((exec_registerWrite ha).trans (congrArg _ (onRegisterWrite_base hf hq hen)))).imp
      fun _ ⟨hrest, hself, hother, _⟩ => ⟨hrest, hself, hother⟩
  case sealedTest => exact ⟨_, (exec_registerWrite ha).trans (congrArg _ (onRegisterWrite_test_of_sealed hs)), rfl⟩
  case openTest => exact ⟨_, (exec_registerWrite ha).trans (congrArg _ (onRegisterWrite_test_of_open hs)), rfl⟩
  case vfEnable => exact ⟨_, congrArg Host.Outcome.next (if_pos ha), rfl⟩
  case baseReads =>
    refine (Does.onQueue ((exec_registerWrite ha).trans (congrArg _ (onRegisterWrite_base hf hq hen)))).imp fun t ⟨_, hself, _, _⟩ => ?_
    have hbase : ((t.fn b).q q).base = v % 2 ^ 64 / 4096 * 4096 := by rw [hself]
    rw [readRegister_base hq (by omega), hbase]
  case bar2Held => exact ⟨_, congrArg Host.Outcome.next (if_pos ha), readRegister_bar2_of_bar2 (onHeartbeatTimeout_bar2 s) he hk⟩

end Sys2Proof.Machine
end

section

/-! ### A ready command whose checks refuse it (R23, R456) -/

namespace Sys2Proof.Machine

/-- A ready command whose payload breaks its own rules, and which no earlier code turns away, gets E_ARG. -/
theorem ready_verdict_of_argBad {m : CmdMeta} {h : CmdHdr} {b : CmdBody} {s : State} (hr : ready m h s = true)
    (ha : b.argOk (s.fetchedFor m h) = false) (he : (b.early (s.fetchedFor m h)).status = .ok) :
    verdict m h b false (s.fetchedFor m h) = { status := .arg } := by
  have hpass := ready_verdict m h { argOk := fun _ => true, act := cmdOut } s hr rfl rfl
  unfold verdict at hpass ⊢
  dsimp only at hpass ⊢
  cases hserve : (s.fetchedFor m h).bezelServes h.fn
  · simp [hserve] at hpass
  cases hfrozen : ((s.fetchedFor m h).fn h.fn).frozen
  swap
  · simp [hserve, hfrozen] at hpass
  cases hissuer : issuerOk m h
  · simp [hserve, hfrozen, hissuer] at hpass
  cases hstate : stateAccepts m h (s.fetchedFor m h)
  · cases hentry : entryOk m h (s.fetchedFor m h) <;> simp [hserve, hfrozen, hissuer, hstate, hentry, Status.rank] at hpass
  simp [ha, he]

/-- A ready command that its checks turn away completes at once with their code. -/
theorem runCommand_refused {acc : State → State} {m : CmdMeta} {h : CmdHdr} {i : Instr} {b : CmdBody} {s : State} (st : Status)
    (hr : ready m h s = true) (hv : verdict m h b false (s.fetchedFor m h) = { status := st })
    (hst : ({ status := st } : Judged).effects = false) (hx : m.xbOut = false) :
    runCommand acc m h i b s = complete h.fn h.queue ((s.fn h.fn).q h.queue).fetchSeq h.tag st false [] [] (s.fetchedFor m h) := by
  obtain ⟨-, -, -, -, -, -, -, -, -, -, -, -, -, -, -, -, -, hmir, -, -, -, -, -, -, -, hlane⟩ := (ready_iff m h s).1 hr
  have hmirroring : mirroring m (s.fetchedFor m h) = false := by
    unfold mirroring
    cases hm : m.mirrored
    · rfl
    · have hpaired := hmir hm
      simp only [State.paired, Bool.or_eq_false_iff, decide_eq_false_iff_not] at hpaired
      simp [hpaired.1]
  have hfree : (!m.reads && reservedElsewhere h (objsOf i) (s.fetchedFor m h)) = false := by rw [ready_unreserved m h s hr, Bool.and_false]
  unfold runCommand
  rw [hlane]
  dsimp only
  rw [ready_takeUp m h s hr]
  simp [hfree, runChecked, hmirroring, hv, hst, xbRefused, xbShort, hx]

/-- What stands in the mailboxes once the completion of a fetched command is written: its queue, and its function otherwise. -/
theorem fetchedFor_written_q {m : CmdMeta} {h : CmdHdr} {s : State} (seq tag : Nat) (status : Status) (result xb : Rec)
    (hidle : ((s.fn h.fn).q h.queue).inflight = []) :
    (((s.fetchedFor m h).written h.fn h.queue seq tag status false result xb).fn h.fn).q h.queue = { (s.fn h.fn).q h.queue with
      fetched := (((s.fn h.fn).q h.queue).fetched + 1) % 65536, fetchSeq := (((s.fn h.fn).q h.queue).fetchSeq + 1) % 2 ^ 32,
      done := (((s.fn h.fn).q h.queue).done + 1) % 65536, doneSeq := (seq + 1) % 2 ^ 32, inflight := [] } := by
  unfold State.written
  dsimp only
  rw [onQueue_self, onFn_fn_self]
  change { ((s.fetchedFor m h).fn h.fn).q h.queue with
    done := (((s.fetchedFor m h).fn h.fn).q h.queue).done.succ % 65536, doneSeq := (seq + 1) % 2 ^ 32,
    inflight := (((s.fetchedFor m h).fn h.fn).q h.queue).inflight.drop 1 } = _
  rw [fetchedFor_q]
  simp [hidle]

theorem fetchedFor_written_fn {m : CmdMeta} {h : CmdHdr} {s : State} (status : Status) (result xb : Rec) :
    let w := (s.fetchedFor m h).written h.fn h.queue ((s.fn h.fn).q h.queue).fetchSeq h.tag status false result xb
    (w.fn h.fn).cplQ = (s.fn h.fn).cplQ ++ [completionOf h s status result xb] ∧ (w.fn h.fn).cplPut = ((s.fn h.fn).cplPut + 1) % 65536 := by
  unfold State.written
  dsimp only [State.onQueue]
  rw [onFn_fn_self, onFn_fn_self, fetchedFor_fn]
  exact ⟨rfl, rfl⟩

/-- A completion on a queue that held nothing else is all that happens there: the entry written, announced and counted. -/
theorem complete_fetchedFor_quiet {m : CmdMeta} {h : CmdHdr} {s : State} (seq tag : Nat) (status : Status) (result xb : Rec)
    (hidle : ((s.fn h.fn).q h.queue).inflight = []) :
    Quiet ((s.fetchedFor m h).written h.fn h.queue seq tag status false result xb)
      (complete h.fn h.queue seq tag status false result xb (s.fetchedFor m h)) := by
  have hone := completeOne_written h.fn h.queue seq tag status false result xb (s.fetchedFor m h)
  have hempty : (((completeOne h.fn h.queue seq tag status false result xb (s.fetchedFor m h)).fn h.fn).q h.queue).inflight = [] := by
    have hq := congrArg (fun f : FnSt => (f.q h.queue).inflight) (hone.fns h.fn)
    exact hq.trans (congrArg CmdQueue.inflight (fetchedFor_written_q seq tag status result xb hidle))
  unfold complete
  dsimp only
  rw [hempty]
  exact hone

/-- A command that completes with the state as it was fetched answers with that completion. -/
theorem complete_fetchedFor_answers {m : CmdMeta} {h : CmdHdr} {s : State} (status : Status) (result xb : Rec)
    (hidle : ((s.fn h.fn).q h.queue).inflight = []) :
    Answers h s (complete h.fn h.queue ((s.fn h.fn).q h.queue).fetchSeq h.tag status false result xb (s.fetchedFor m h)) status result xb := by
  have hquiet := complete_fetchedFor_quiet (m := m) ((s.fn h.fn).q h.queue).fetchSeq h.tag status result xb hidle
  have hqueue := fetchedFor_written_q (m := m) ((s.fn h.fn).q h.queue).fetchSeq h.tag status result xb hidle
  obtain ⟨hcplQ, hcplPut⟩ := fetchedFor_written_fn (m := m) (h := h) (s := s) status result xb
  generalize complete h.fn h.queue ((s.fn h.fn).q h.queue).fetchSeq h.tag status false result xb (s.fetchedFor m h) = t at *
  have hq : (t.fn h.fn).q h.queue = _ := (congrArg (fun f : FnSt => f.q h.queue) (hquiet.fns h.fn)).trans hqueue
  refine ⟨(congrArg State.pending hquiet.rest).trans rfl, ?_, ?_, ?_, ?_, ?_⟩
  · rw [hquiet.fns h.fn]
    exact hcplQ
  · rw [hquiet.fns h.fn]
    exact hcplPut
  all_goals rw [hq]

/-- Of the management subsystem a completion touches the log staging alone. -/
theorem complete_fetchedFor_nvReset {m : CmdMeta} {h : CmdHdr} {s : State} (seq tag : Nat) (status : Status) (result xb : Rec)
    (hidle : ((s.fn h.fn).q h.queue).inflight = []) :
    (complete h.fn h.queue seq tag status false result xb (s.fetchedFor m h)).mgmt.nvReset = s.mgmt.nvReset := by
  rw [(complete_fetchedFor_quiet seq tag status result xb hidle).mgmt]
  rfl

/-! ### The lengths of the records of these commands (R474, R502, R504) -/

theorem bits_append (r q : Rec) : Rec.bits (r ++ q) = Rec.bits r + Rec.bits q := by simp [Rec.bits]

theorem bits_flatMap {α : Type} (l : List α) (g : α → Rec) (n : Nat) (hg : ∀ x ∈ l, Rec.bits (g x) = n) : Rec.bits (l.flatMap g) = n * l.length := by
  induction l with
  | nil => rfl
  | cons x r ih =>
    rw [List.flatMap_cons, bits_append, hg x List.mem_cons_self, ih fun y hy => hg y (List.mem_cons_of_mem _ hy), List.length_cons]
    ring

/-- A log entry takes 64 bytes where its detail takes no more than 24 (R504). -/
theorem logRecord_bits {e : LogEntry} (he : e.detail.bits ≤ 192) : (logRecord e).bits = 512 := by
  unfold logRecord
  split
  · rfl
  · simp only [bits_append, padTo]
    have hpad : Rec.bits [rsv (8 * 24 - e.detail.bits)] = 192 - e.detail.bits := by simp [Rec.bits, rsv]
    have hetw : Rec.bits (etwRec e.time) = 128 := rfl
    have hhead : Rec.bits [fld 32 e.lseq, fld 32 e.epoch] = 64 := rfl
    have hmid : Rec.bits [fld 16 e.code, fld 8 e.severity, rsv 8, fld 32 e.count, fld 32 e.subject] = 96 := rfl
    rw [hpad, hetw, hhead, hmid]
    have hcrc : ∀ n, Rec.bits [fld 32 n] = 32 := fun _ => rfl
    rw [hcrc]
    omega

theorem flatMap_logRecord_bytes {l : List LogEntry} (hl : ∀ e ∈ l, e.detail.bits ≤ 192) : Rec.bytes (l.flatMap logRecord) = 64 * l.length := by
  rw [Rec.bytes, bits_flatMap l logRecord 512 fun e he => logRecord_bits (hl e he)]
  omega

/-- What nv.read_status writes (R502). -/
def nvStatusRec (s : State) : Rec :=
  ((List.range 4).flatMap fun i => [fld 8 (b01 (s.mgmt.banks.look {} i).readOnly), rsv 24, fld 32 (s.mgmt.banks.look {} i).wear]) ++
    [fld 32 s.mgmt.boot.c0.gen, fld 32 s.mgmt.boot.c1.gen] ++ (s.mgmt.recs.flatMap fun p => [fld 64 p.1, fld 32 p.2.c0.gen, fld 32 p.2.c1.gen])

theorem nvStatusRec_bytes (s : State) : (nvStatusRec s).bytes = 40 + 16 * s.mgmt.recs.length := by
  have hbanks : Rec.bits ((List.range 4).flatMap fun i =>
      [fld 8 (b01 (s.mgmt.banks.look {} i).readOnly), rsv 24, fld 32 (s.mgmt.banks.look {} i).wear]) = 256 := rfl
  have hboot : Rec.bits [fld 32 s.mgmt.boot.c0.gen, fld 32 s.mgmt.boot.c1.gen] = 64 := rfl
  rw [Rec.bytes, nvStatusRec, bits_append, bits_append, hbanks, hboot, bits_flatMap _ _ 128 fun _ _ => rfl]
  omega

/-! ### The commands -/

/-- The extended buffer of the last completion is the one it answered with. -/
theorem Answers.lastXb {h : CmdHdr} {s t : State} {status : Status} {result xb : Rec} (ha : Answers h s t status result xb) : lastXb h t = xb := by
  obtain ⟨-, hcplQ, -⟩ := ha
  rw [Machine.lastXb, hcplQ, List.getLast?_concat]
  rfl

/-- A read with its answer: it completes with what it read, and nothing of the state it read changes. -/
theorem runCommand_reads {acc : State → State} {m : CmdMeta} {h : CmdHdr} {i : Instr} {b : CmdBody} {s : State} {result xb : Rec}
    (hr : ready m h s = true) (ha : b.argOk (s.fetchedFor m h) = true) (hc : (b.check (s.fetchedFor m h)).status = .ok)
    (ho : b.act (s.fetchedFor m h) = { st := s.fetchedFor m h, result := result, xb := xb }) (hlen : m.xbOut = true → xb.bytes ≤ h.xlen) :
    ∃ t, (Host.Outcome.next (runCommand acc m h i b s) : Host.Outcome State Fault Refusal) = .next t ∧ Completes h s s t result xb :=
  runCommand_does (s.fetchedFor m h) hr ha hc ho hlen (Calm.refl _) rfl fun _ hcompletes => hcompletes.of hcompletes.2.2.2.2

/-- The fault words after the bits of a mask are cleared in one of them, where no source reads an error (R520). -/
def FaultSt.cleared (f : FaultSt) (w : Nat) (m : BitVec 32) : FaultSt :=
  { f with sticky := f.sticky.upd 0 w fun x => x &&& ~~~(m &&& ~~~(f.live.look 0 w))
           logged := f.logged.upd 0 w fun x => x &&& ~~~(m &&& ~~~(f.live.look 0 w)) }

theorem FaultSt.cleared_sticky_self (f : FaultSt) (w : Nat) (m : BitVec 32) :
    (f.cleared w m).sticky.look 0 w = f.sticky.look 0 w &&& ~~~(m &&& ~~~(f.live.look 0 w)) := by
  rw [FaultSt.cleared, Tab.look_upd_self]

theorem FaultSt.cleared_sticky_other (f : FaultSt) {w k : Nat} (m : BitVec 32) (h : k ≠ w) : (f.cleared w m).sticky.look 0 k = f.sticky.look 0 k := by
  rw [FaultSt.cleared, Tab.look_upd_other _ _ _ h.symm]

/-- fault.clear clears those bits and completes. -/
theorem faultClear_clears {h : CmdHdr} {s : State} {w : Nat} {m : BitVec 32} (hr : ready { op := 0x4101, plen := 8, action := true } h s = true)
    (hw : w < 16) :
    ∃ t, exec (.faultClear h w m) s = .next t ∧ Completes h s { s with fault := s.fault.cleared w m } t [] [] := by
  refine runCommand_does ((s.fetchedFor (cmdFaultClear h w m).1 h).onFault (·.cleared w m)) hr (decide_eq_true hw) rfl rfl (fun hx => nomatch hx)
    ((Calm.refl _).onFault _) rfl fun t hcompletes => ?_
  exact hcompletes.of hcompletes.2.2.2.2

/-- nv.reset_config with its code sets the request and completes (R503). -/
theorem nvResetConfig_of_confirmed {h : CmdHdr} {s : State} {c : Nat} (hr : ready { op := 0x4301, plen := 4, action := true } h s = true)
    (hcode : c = s.mbx.epoch ^^^ 0x43464721) :
    ∃ t, exec (.nvResetConfig h c) s = .next t ∧ Completes h { s with mgmt := { s.mgmt with nvReset := true } }
      { s with mgmt := { s.mgmt with nvReset := true } } t [] [] := by
  have hok : (cmdNvResetConfig h c).2.argOk (s.fetchedFor (cmdNvResetConfig h c).1 h) = true := decide_eq_true hcode
  have hrun := runCommand_ready State.accepted (cmdNvResetConfig h c).1 h (.nvResetConfig h c) (cmdNvResetConfig h c).2 s hr hok rfl rfl
  generalize hs' : { s with mgmt := { s.mgmt with nvReset := true } } = s'
  have hr' : ready (cmdNvResetConfig h c).1 h s' = true := by
    subst hs'
    exact hr
  have hrun' := runCommand_ready State.accepted (cmdNvResetConfig h c).1 h (.nvResetConfig h c) { argOk := fun _ => true, act := cmdOut } s' hr' rfl rfl rfl
  obtain ⟨t, ht, hcompletes⟩ := runCommand_reads (acc := State.accepted) (i := .nvResetConfig h c)
    (b := { argOk := fun _ => true, act := cmdOut }) hr' rfl rfl rfl (fun hx => nomatch hx)
  have hact : ((cmdNvResetConfig h c).2.act (s.fetchedFor (cmdNvResetConfig h c).1 h)).st = s'.fetchedFor (cmdNvResetConfig h c).1 h := by
    subst hs'
    rfl
  have hfn : s'.fn h.fn = s.fn h.fn := by
    subst hs'
    rfl
  refine ⟨t, ?_, hcompletes⟩
  rw [exec_of_cmdOf (s := s) (i := .nvResetConfig h c) rfl, ← ht, hrun, hrun', hact, hfn]
  rfl

/-- nv.reset_config with another code completes with E_ARG and sets nothing. -/
theorem nvResetConfig_of_unconfirmed {h : CmdHdr} {s : State} {c : Nat} (hr : ready { op := 0x4301, plen := 4, action := true } h s = true)
    (hcode : c ≠ s.mbx.epoch ^^^ 0x43464721) :
    Does (.nvResetConfig h c) s fun t => Answers h s t .arg [] [] ∧ t.mgmt.nvReset = s.mgmt.nvReset := by
  obtain ⟨-, -, -, -, -, -, -, -, -, -, -, -, hidle, -⟩ := (ready_iff _ h s).1 hr
  have hbad : (cmdNvResetConfig h c).2.argOk (s.fetchedFor (cmdNvResetConfig h c).1 h) = false := decide_eq_false hcode
  have hv := ready_verdict_of_argBad (b := (cmdNvResetConfig h c).2) hr hbad rfl
  refine ⟨_, (exec_of_cmdOf rfl).trans (congrArg _ (runCommand_refused .arg hr hv rfl rfl)), ?_⟩
  exact ⟨complete_fetchedFor_answers _ _ _ hidle, complete_fetchedFor_nvReset _ _ _ _ _ hidle⟩

/-- Settles O51: the reads answer with the state as it stands, and each of the two writes changes its own words. -/
theorem faultLogAndStoreCommands : Obligations.FaultLogAndStoreCommands := by
  unfold Obligations.FaultLogAndStoreCommands
  refine ⟨fun h s w m hr hw => ?clear, fun h s hr hx => ?read, fun h s a m hr hx hl => ?log, fun h s hr => ?range, fun h s c hr hcode => ?reset,
    fun h s c hr hcode => nvResetConfig_of_unconfirmed hr hcode, fun h s hr hx => ?status⟩
  case clear =>
    obtain ⟨t, ht, hcompletes⟩ := faultClear_clears (m := m) hr hw
    have hfault : t.fault = s.fault.cleared w m := congrArg State.fault hcompletes.2.2.2.2
    refine ⟨t, ht, ?_, ?_, ?_, fun k hk => ?_⟩ <;> rw [hfault]
    · exact hcompletes
    · rfl
    · exact FaultSt.cleared_sticky_self _ _ _
    · exact FaultSt.cleared_sticky_other _ _ hk
  case read =>
    have hbytes : Rec.bytes (((List.range 16).map fun i => fld 32 (s.fault.sticky.look 0 i).toNat) ++
        ((List.range 16).map fun i => fld 32 (s.fault.live.look 0 i).toNat)) = 128 := by
      simp [Rec.bytes, Rec.bits, fld, Function.comp_def]
    exact runCommand_reads hr rfl rfl rfl fun _ => hbytes.trans_le hx
  case log =>
    have hbits : ∀ e ∈ (s.mgmt.log.filter fun e => decide (a ≤ e.lseq)).take m, e.detail.bits ≤ 192 := fun e he =>
      of_decide_eq_true (List.all_eq_true.1 hl e (List.mem_filter.1 (List.mem_of_mem_take he)).1)
    refine runCommand_reads hr rfl rfl ?_ fun _ => ?_
    · cases hlast : ((s.mgmt.log.filter fun e => decide (a ≤ e.lseq)).take m).getLast? <;> simp [cmdLogRead, cmdOut, hlast]
    · rw [flatMap_logRecord_bytes hbits, Nat.mul_comm]
      exact hx
  case range => exact runCommand_reads hr rfl rfl rfl (by simp [cmdLogReadStatus])
  case reset =>
    obtain ⟨t, ht, hanswers, hmailbox, hmgmt, hloupe, hrest⟩ := nvResetConfig_of_confirmed hr hcode
    exact ⟨t, ht, hanswers, hmailbox, hloupe, hmgmt, hrest⟩
  case status =>
    obtain ⟨t, ht, hcompletes⟩ := runCommand_reads (acc := State.accepted) (i := .nvReadStatus h) (b := (cmdNvReadStatus h).2) (result := []) (xb := nvStatusRec s)
      hr rfl rfl rfl fun _ => by rwa [nvStatusRec_bytes]
    refine ⟨t, (exec_of_cmdOf rfl).trans ht, ?_, ?_⟩ <;> rw [hcompletes.1.lastXb]
    · exact hcompletes
    · rfl

end Sys2Proof.Machine
end

section

/-! ### The Hallmark commands (R32, R75, R77, R82) -/

namespace Sys2Proof.Machine

/-- A use of a key without a use limit moves its count alone (R351). -/
theorem useKey_of_unlimited {s : State} {k : Nat} (hk : k ≠ sealedKey) (hu : (s.key k).useLimit = 0) :
    s.useKey k = { s with keys := { s.keys with
      slots := s.keys.slots.put k { s.key k with useCtr := min 0xFFFFFFFF ((s.key k).useCtr + 1) } } } := by
  have hz : ((s.key k).useLimit != 0) = false := by simp [hu]
  simp only [State.useKey, if_neg hk, hz, Bool.false_and, Bool.false_eq_true, if_false]
  rfl

/-- A record under a key that is not usable does not verify, and uses no key (R77). -/
theorem cmdHallVerifyRecord_act_of_unusable {h : CmdHdr} {r : HallRec} {d : Nat} {s : State} (hk : s.keyUsable (128 + h.fn) = false) :
    (cmdHallVerifyRecord h r d).2.act s =
      cmdOut s [fld 8 0, fld 8 (if s.recAge r * 10 ≤ 11 * unitsPerSec then 1 else 0)] := by
  simp [cmdHallVerifyRecord, hk, b01]

/-- Under a usable key the record's MAC is compared, and the key is used (R77, R351). -/
theorem cmdHallVerifyRecord_act_of_usable {h : CmdHdr} {r : HallRec} {d : Nat} {s : State} (hk : s.keyUsable (128 + h.fn) = true) :
    (cmdHallVerifyRecord h r d).2.act s =
      cmdOut (s.useKey (128 + h.fn))
        [fld 8 (if hallMac (s.key (128 + h.fn)).material (if d = 0 then s.mgmt.deviceId else d) r = r.mac then 1 else 0),
         fld 8 (if s.recAge r * 10 ≤ 11 * unitsPerSec then 1 else 0)] := by
  simp [cmdHallVerifyRecord, hk, b01]

/-- Settles O3: the setting and the two reads each run as one ready command. -/
theorem hallmarkCommands : Obligations.HallmarkCommands := by
  unfold Obligations.HallmarkCommands
  refine ⟨fun h s a p hr ha ha' hp hp' => ?windows, fun h s p hr hp ho => ?current, fun h s r d hr hk => ?unusable,
    fun h s r d hr hk hu hf => ?usable⟩
  case windows =>
    have hok : (cmdHallSetWindows h a p).2.argOk (s.fetchedFor (cmdHallSetWindows h a p).1 h) = true := by
      simp [cmdHallSetWindows, ha, ha', hp, hp']
    exact runCommand_completes hr hok rfl rfl rfl nofun rfl rfl (((Calm.refl _).onHall _).store _ _)
  case current =>
    have hown : (cmdHallReadCurrent h p).2.check (s.fetchedFor (cmdHallReadCurrent h p).1 h) = judge [] := if_pos (decide_eq_true ho)
    exact runCommand_reads hr hp (congrArg Judged.status hown) rfl nofun
  case unusable =>
    exact runCommand_reads hr rfl rfl (cmdHallVerifyRecord_act_of_unusable (s := s.fetchedFor _ h) hk) nofun
  case usable =>
    have hslot : 128 + h.fn ≠ sealedKey := by unfold sealedKey; omega
    have huse := useKey_of_unlimited (s := s.fetchedFor (cmdHallVerifyRecord h r d).1 h) hslot hu
    have hact := cmdHallVerifyRecord_act_of_usable (r := r) (d := d) (s := s.fetchedFor (cmdHallVerifyRecord h r d).1 h) hk
    rw [huse] at hact
    refine runCommand_does _ hr rfl rfl hact nofun ((Calm.refl _).rest rfl rfl rfl) rfl fun t hcompletes => ?_
    obtain ⟨-, -, -, -, hrest⟩ := id hcompletes
    exact hcompletes.of hrest

end Sys2Proof.Machine
end

section

/-! ### Publication and the ends of windows (R32, R71-R82) -/

namespace Sys2Proof.Machine

/-- A row that runs on a device with power, by what its effect leaves. -/
theorem Does.of_alive {i : Instr} {s u : State} {P : State → Prop} (hi : exec i s = .next (if s.alive = true then u else s))
    (ha : s.alive = true) (hu : P u) : Does i s P :=
  ⟨u, hi.trans (congrArg _ (if_pos ha)), hu⟩

theorem onPort_port_self (s : State) (p : Nat) (f : PortSt → PortSt) : (s.onPort p f).port p = f (s.port p) := Tab.look_upd_self _ _ _ _

theorem onPort_port_other (s : State) {p q : Nat} (f : PortSt → PortSt) (h : p ≠ q) : (s.onPort p f).port q = s.port q :=
  Tab.look_upd_other _ _ _ h

theorem retireKey_rest (s : State) (k : Nat) (st : SlotKeyState) :
    s.retireKey k st = { s with keys := (s.retireKey k st).keys, mbx := (s.retireKey k st).mbx, mgmt := (s.retireKey k st).mgmt } := by
  unfold State.retireKey
  dsimp only
  rw [raise_rest]
  rfl

/-- A use of a key touches the key, and what reports and stores it (R351, R352). -/
theorem useKey_rest (s : State) (k : Nat) :
    s.useKey k = { s with keys := (s.useKey k).keys, mbx := (s.useKey k).mbx, mgmt := (s.useKey k).mgmt } := by
  unfold State.useKey
  split
  · rfl
  · dsimp only
    split
    · rw [retireKey_rest]
      split <;> rfl
    · split <;> rfl

/-- A charge of a requester touches the schedule alone (R389). -/
theorem chargeBeats_rest (s : State) (r beats : Nat) : s.chargeBeats r beats = { s with sta := (s.chargeBeats r beats).sta } := by
  unfold State.chargeBeats State.chargeJob
  split
  · rfl
  · split <;> rfl

/-- Where nothing narrows, a record that is out narrows nothing (R81). -/
theorem narrowAfter_of_none {s : State} {p : Nat} (hw : s.hall.widen = []) (hn : s.hall.narrow = []) (hp : s.hall.narrowPair = false) :
    s.narrowAfter p = s := by
  simp [State.narrowAfter, hw, hn, hp]

/-- Where neither a port nor a channel waits for its record, what goes on after it leaves the Hallmark alone (R81). -/
theorem releaseAfter_hall {s : State} {p : Nat} (hup : (s.port p).toUp = false) (ha : (s.port p).asymNext = none) (hm : s.fil.moves = [])
    (hp : ¬ (0x180 ≤ p ∧ p ≤ 0x18F)) : (s.releaseAfter p).hall = s.hall := by
  unfold State.releaseAfter
  split
  · simp [State.releasePort, ha, hup]
  · rw [if_neg (by simpa using hp)]
    simp only [State.releaseMoves, hm, List.filter_nil, List.foldl_nil]
    unfold State.coverOffset
    split
    · rfl
    · split <;> rfl

theorem narrowAfter_releaseAfter_hall {s : State} {p : Nat} (hup : (s.port p).toUp = false) (ha : (s.port p).asymNext = none)
    (hm : s.fil.moves = []) (hw : s.hall.widen = []) (hn : s.hall.narrow = []) (hnp : s.hall.narrowPair = false)
    (hp : ¬ (0x180 ≤ p ∧ p ≤ 0x18F)) : ((s.releaseAfter p).narrowAfter p).hall = s.hall := by
  have hrelease := releaseAfter_hall hup ha hm hp
  rw [narrowAfter_of_none (by rw [hrelease, hw]) (by rw [hrelease, hn]) (by rw [hrelease, hnp]), hrelease]

/-- The Hallmark after a record of a point for which nothing waits (R71, R76). -/
theorem publish_hall {s : State} {p : Nat} (hup : (s.port p).toUp = false) (ha : (s.port p).asymNext = none) (hm : s.fil.moves = [])
    (hw : s.hall.widen = []) (hn : s.hall.narrow = []) (hnp : s.hall.narrowPair = false) (hp : ¬ (0x180 ≤ p ∧ p ≤ 0x18F)) :
    (s.publish p).hall = { s.hall with
      recs := s.hall.recs.put p (s.freshRec p), due := s.hall.due.filter (· != p), expired := s.hall.expired.filter (· != p)
      snapRewrites := if 0x140 ≤ p && decide (p ≤ 0x17F) then s.hall.snapRewrites.upd 0 (p - 0x140) (· + 1) else s.hall.snapRewrites } := by
  unfold State.publish
  dsimp only
  generalize hs1 : (if s.keyUsable (128 + s.pointOwner p) = true then (s.useKey (128 + s.pointOwner p)).chargeBeats reqTime 2 else s) = s1
  have hrest : s1 = { s with keys := s1.keys, mbx := s1.mbx, mgmt := s1.mgmt, sta := s1.sta } := by
    subst hs1
    split
    · rw [chargeBeats_rest, useKey_rest]
    · rfl
  rw [hrest]
  exact narrowAfter_releaseAfter_hall hup ha hm hw hn hnp hp

theorem hallHead_mac (r : HallRec) (m : Nat) : hallHead { r with mac := m } = hallHead r := rfl

theorem hallMac_congr {key dev : Nat} {r q : HallRec} (h : hallHead r = hallHead q) : hallMac key dev r = hallMac key dev q := by
  rw [hallMac, hallMac, h]

/-- A fresh record signs itself: the MAC is no part of what is signed (R71, R75). -/
theorem freshRec_mac (s : State) (p : Nat) :
    (s.freshRec p).mac = hallMac (s.keys.slots.look {} (128 + s.pointOwner p)).material s.mgmt.deviceId (s.freshRec p) := by
  unfold State.freshRec State.signed
  rw [hallMac_congr (hallHead_mac _ _)]

/-- The device as a publication finds it: what was withdrawn or due for every point is so point by point (R76). -/
def State.publishing (s : State) : State :=
  s.onHall fun h => { h with
    due := if h.dueAll then s.allPoints else h.due, dueAll := false
    expired := if h.withdrawn then s.allPoints else h.expired, withdrawn := false }

theorem onHallmarkPublish_one {s : State} {p : Nat} (hp : p ∈ s.allPoints) : onHallmarkPublish [p] s = s.publishing.publish p := by
  simp [onHallmarkPublish, hp, State.publishing]

/-- The end of a widening of a port whose record with it is out (R82). -/
theorem onAsymSettleEnd_of_widened {s : State} {p : Nat} (hp : p < 256) (hn : (s.port p).asymNext = none) (hw : (s.port p).asymWiden ≠ none)
    (hq : p ∉ s.hall.widen) :
    onAsymSettleEnd p s = (s.onPort p fun y => { y with asymWiden := none }).hallDue [p] := by
  have hsome : (s.port p).asymWiden.isNone = false := by simpa [Option.isSome_iff_ne_none] using hw
  simp [onAsymSettleEnd, State.narrow, State.narrowNow, hn, hsome, hq, Nat.not_le.mpr hp]

/-- Settles O4: the publication by its effect on the Hallmark, the three ends by their one update each. -/
theorem hallmarkEvents : Obligations.HallmarkEvents := by
  unfold Obligations.HallmarkEvents
  refine ⟨fun s p ha hp hup hasym hm hw hn hnp hla => ?publish, fun s p ha hp => ?expiry, fun s p ha hp hn hw hq => ?asym,
    fun s ha hz hw => ?pair⟩
  case publish =>
    have hhall : (s.publishing.publish p).hall = _ := publish_hall hup hasym hm hw hn hnp hla
    have hrec : (s.publishing.publish p).hallRec p = s.publishing.freshRec p := by
      rw [State.hallRec, hhall, Tab.look_put_self]
    refine Does.of_alive rfl ha ?_
    rw [onHallmarkPublish_one hp, hrec, hhall]
    refine ⟨by simp, by simp, rfl, freshRec_mac _ _, rfl, rfl, rfl, rfl, rfl, rfl, rfl, rfl⟩
  case expiry =>
    refine Does.of_alive rfl ha ?_
    simp [onHallmarkWindowExpiry, hp, State.onHall]
  case asym =>
    refine Does.of_alive rfl ha ?_
    rw [onAsymSettleEnd_of_widened hp hn hw hq]
    exact ⟨rfl, onPort_port_self _ _ _, fun q hqp => onPort_port_other _ _ hqp.symm⟩
  case pair =>
    refine Does.of_alive rfl ha ?_
    have hsome : s.clasp.frozenPair.isNone = false := by simpa [Option.isSome_iff_ne_none] using hz
    simp [onPairSettleEnd, hsome, hw, State.hallDue, State.onClasp, State.onHall]

end Sys2Proof.Machine
end

section

/-! ### Steps that repeat -/

namespace Sys2Proof.Machine

/-- What every step of a fold relates, a fold relates. -/
theorem foldl_relates {α : Type} {R : State → State → Prop} (hrefl : ∀ s, R s s) (htrans : ∀ {s t u}, R s t → R t u → R s u)
    {g : State → α → State} (hg : ∀ s x, R s (g s x)) (l : List α) (s : State) : R s (l.foldl g s) := by
  induction l generalizing s with
  | nil => exact hrefl s
  | cons x r ih => exact htrans (hg s x) (ih _)

/-! ### The closing of a ring (R447) -/

/-- Nothing changed but the traffic manager. -/
def TrafficOnly (s t : State) : Prop := t = { s with tm := t.tm }

theorem TrafficOnly.refl (s : State) : TrafficOnly s s := rfl

theorem TrafficOnly.trans {s t u : State} (h : TrafficOnly s t) (k : TrafficOnly t u) : TrafficOnly s u := by
  unfold TrafficOnly at *
  rw [k, h]

theorem setPhase_trafficOnly (s : State) (kind i : Nat) (ph : ShaperPhase) : TrafficOnly s (s.setPhase kind i ph) := by
  unfold State.setPhase
  dsimp only
  split <;> rfl

theorem followShapers_trafficOnly (s : State) (p : Nat) (f : TxFrame) : TrafficOnly s (s.followShapers p f) :=
  ((setPhase_trafficOnly _ _ _ _).trans (setPhase_trafficOnly _ _ _ _)).trans (setPhase_trafficOnly _ _ _ _)

/-- Frames dropped from a port's queues without a report touch the traffic manager alone. -/
theorem purge_trafficOnly (s : State) (p : Nat) (out : TxFrame → Bool) : TrafficOnly s (s.purge p out fun _ t => t) := by
  refine foldl_relates TrafficOnly.refl TrafficOnly.trans (fun t c => ?_) _ s
  dsimp only
  split
  · exact .refl _
  · refine TrafficOnly.trans (t := t.onSvcQ p c fun _ => ((t.svcQ p c).take out).2) rfl ?_
    exact foldl_relates TrafficOnly.refl TrafficOnly.trans (fun u f => TrafficOnly.trans (t := u.dropFrame f) rfl (followShapers_trafficOnly _ _ _)) _ _

/-- A ring that closes touches the ports and the traffic manager; no other ring closes. -/
theorem dropRing_rest (s : State) (hd : Nat) : s.dropRing hd = { s with ports := (s.dropRing hd).ports, tm := (s.dropRing hd).tm } := by
  unfold State.dropRing
  split
  · rfl
  · next r _ =>
    dsimp only
    split
    · rfl
    · generalize hu : State.purge _ _ _ _ = u
      have hrest : TrafficOnly _ u := hu ▸ purge_trafficOnly _ _ _
      rw [hrest]
      rfl

theorem dropRing_rings (s : State) (hd : Nat) : (s.dropRing hd).ports.rings = s.ports.rings.filter fun q => q.1 != hd := by
  unfold State.dropRing
  split
  · next hnone =>
    have hfind : s.ports.rings.find? (fun q => decide (q.1 = hd)) = none := by simpa [State.pring] using hnone
    refine (List.filter_eq_self.2 fun q hq => ?_).symm
    simpa using List.find?_eq_none.1 hfind q hq
  · dsimp only
    split
    · rfl
    · generalize hu : State.purge _ _ _ _ = u
      have hrest : TrafficOnly _ u := hu ▸ purge_trafficOnly _ _ _
      rw [hrest]
      rfl

/-- The rings that stay when a list of handles closes. -/
theorem dropRings_rings (l : List Nat) (s : State) :
    (l.foldl (fun (t : State) hd => t.dropRing hd) s).ports.rings = s.ports.rings.filter fun q => decide (q.1 ∉ l) := by
  induction l generalizing s with
  | nil => simp
  | cons hd r ih =>
    rw [List.foldl_cons, ih, dropRing_rings, List.filter_filter]
    refine List.filter_congr fun q _ => ?_
    by_cases h : q.1 = hd <;> simp [h]

/-! ### What a reset function gives up (R352, R447, R462, R465) -/

/-- Nothing changed but the mailboxes, the store and the keys. -/
def MailboxesAndKeysOnly (s t : State) : Prop := t = { s with mbx := t.mbx, mgmt := t.mgmt, sta := t.sta, keys := t.keys }

theorem MailboxesAndKeysOnly.refl (s : State) : MailboxesAndKeysOnly s s := rfl

theorem MailboxesAndKeysOnly.trans {s t u : State} (h : MailboxesAndKeysOnly s t) (k : MailboxesAndKeysOnly t u) : MailboxesAndKeysOnly s u := by
  unfold MailboxesAndKeysOnly at *
  rw [k, h]

theorem rollback_rest (s : State) (b q : Nat) : MailboxesAndKeysOnly s (s.rollback b q) := by
  unfold State.rollback
  split <;> rfl

/-- A rollback closes the transaction of its queue and counts it (R465). -/
theorem rollback_fn_self (s : State) (b q : Nat) : (s.rollback b q).fn b =
    if ((s.fn b).q q).txn = none then s.fn b
    else { s.fn b with queues := (s.fn b).queues.upd {} q fun x => { x with txn := none }, rollbacks := (s.fn b).rollbacks + 1 } := by
  unfold State.rollback
  split
  · next h => rw [if_pos h]
  · next x h =>
    rw [if_neg (by simp [h])]
    have hlog : ∀ (t : State) c v j d, (t.log c v j d).fn b = t.fn b := fun _ _ _ _ _ => rfl
    rw [hlog, onFn_fn_self, State.onQueue, onFn_fn_self]

theorem rollback_fn_other (s : State) {b c : Nat} (q : Nat) (h : b ≠ c) : (s.rollback b q).fn c = s.fn c := by
  unfold State.rollback
  split
  · rfl
  · have hlog : ∀ (t : State) c' v j d, (t.log c' v j d).fn c = t.fn c := fun _ _ _ _ _ => rfl
    rw [hlog, onFn_fn_other _ _ h, State.onQueue, onFn_fn_other _ _ h]

theorem rollback_txn (s : State) (b q j : Nat) : (((s.rollback b q).fn b).q j).txn = if q = j then none else ((s.fn b).q j).txn := by
  rw [rollback_fn_self]
  by_cases hnone : ((s.fn b).q q).txn = none
  · rw [if_pos hnone]
    split
    · next e => rw [← e, hnone]
    · rfl
  · rw [if_neg hnone]
    simp only [FnSt.q, Tab.look_upd]
    split <;> rfl

/-- What a function shows of its queues when they are stopped: none enabled, nothing in flight. -/
def FnSt.idle (f : FnSt) : Prop := f.cplEn = false ∧ f.evtEn = false ∧ ∀ p ∈ f.queues, p.2.en = false ∧ p.2.inflight = []

theorem rollback_idle {s : State} {b : Nat} (q : Nat) (h : FnSt.idle (s.fn b)) : FnSt.idle ((s.rollback b q).fn b) := by
  rw [rollback_fn_self]
  split
  · exact h
  · obtain ⟨hcpl, hevt, hq⟩ := h
    have hlook : ((s.fn b).q q).en = false ∧ ((s.fn b).q q).inflight = [] :=
      Tab.look_of_forall (fun k : CmdQueue => k.en = false ∧ k.inflight = []) _ _ _ hq ⟨rfl, rfl⟩
    exact ⟨hcpl, hevt, Tab.forall_put (fun k : CmdQueue => k.en = false ∧ k.inflight = []) _ _ _ hq hlook⟩

/-- What rolling back the transactions of these queues of function `b` leaves (R465). -/
structure RolledBack (b : Nat) (l : List Nat) (s t : State) : Prop where
  rest : MailboxesAndKeysOnly s t
  others : ∀ c, c ≠ b → t.fn c = s.fn c
  idle : FnSt.idle (s.fn b) → FnSt.idle (t.fn b)
  frozen : (t.fn b).frozen = (s.fn b).frozen
  vf : t.mbx.vfEnable = s.mbx.vfEnable ∧ t.mbx.numVfs = s.mbx.numVfs
  txn : ∀ j, ((t.fn b).q j).txn = if j ∈ l then none else ((s.fn b).q j).txn

theorem rollback_rolledBack (s : State) (b q : Nat) : RolledBack b [q] s (s.rollback b q) where
  rest := rollback_rest s b q
  others c hc := rollback_fn_other s q hc.symm
  idle := rollback_idle q
  frozen := by
    rw [rollback_fn_self]
    split <;> rfl
  vf := by
    unfold State.rollback
    split <;> exact ⟨rfl, rfl⟩
  txn j := by simp [rollback_txn, eq_comm]

theorem rollbacks_rolledBack (l : List Nat) (s : State) (b : Nat) : RolledBack b l s (l.foldl (fun (t : State) q => t.rollback b q) s) := by
  induction l generalizing s with
  | nil => exact ⟨.refl _, fun _ _ => rfl, id, rfl, ⟨rfl, rfl⟩, fun j => by simp⟩
  | cons q r ih =>
    have h := rollback_rolledBack s b q
    have k := ih (s.rollback b q)
    refine ⟨h.rest.trans k.rest, fun c hc => (k.others c hc).trans (h.others c hc), k.idle ∘ h.idle, k.frozen.trans h.frozen,
      ⟨k.vf.1.trans h.vf.1, k.vf.2.trans h.vf.2⟩, fun j => (k.txn j).trans ?_⟩
    rw [h.txn]
    by_cases hj : j ∈ r <;> by_cases hq : j = q <;> simp [hj, hq]

/-- A slot that is freed, and every key derived from it, is no matter of the mailboxes but for its change count. -/
theorem expireSlots_rest (s : State) (mine : KeySlot → Bool) :
    MailboxesAndKeysOnly s (s.expireSlots mine) ∧ (s.expireSlots mine).mbx = { s.mbx with objGen := (s.expireSlots mine).mbx.objGen } := by
  have horphan : ∀ (t : State) k, t.orphan k = { t with sta := (t.orphan k).sta, keys := (t.orphan k).keys } := by
    intro t k
    refine foldl_relates (R := fun s t => t = { s with sta := t.sta, keys := t.keys }) (fun _ => rfl) (fun h k => by rw [k, h]) (fun _ _ => rfl) _ _
  refine foldl_relates (R := fun s t => MailboxesAndKeysOnly s t ∧ t.mbx = { s.mbx with objGen := t.mbx.objGen }) (fun _ => ⟨rfl, rfl⟩) ?_ ?_ _ s
  · rintro s t u ⟨h, hm⟩ ⟨k, km⟩
    exact ⟨h.trans k, by rw [km, hm]⟩
  · intro t q
    exact ⟨MailboxesAndKeysOnly.trans (t := t.orphan q.1) (by rw [MailboxesAndKeysOnly, horphan]) rfl, by
      show ({ (t.orphan q.1).mbx with objGen := _ } : MbxSt) = _
      rw [horphan]
      rfl⟩

/-! ### The reset of a function (R447) -/

/-- The first step of a reset: the queues of the function stop, and no mirrored change of its completes there any more. -/
def State.stopFn (s : State) (b : Nat) : State :=
  (s.onFn b fun x => { x with queues := x.queues.mapAll fun _ k => k.drop, cplEn := false, evtEn := false, cplRes := 0 }).onClasp
    fun c => { c with mirror := c.mirror.map fun (m : MirrorItem) => match m.done with
      | some (f, _, _, _) => if f = b then { m with done := none } else m
      | none => m }

/-- The second: its rings close and its streams stop. -/
@[irreducible] def State.closeFn (s : State) (b : Nat) : State :=
  (((s.stopFn b).ringsOf b).foldl (fun (t : State) hd => t.dropRing hd) (s.stopFn b)).stopStreams b

/-- The third: its transactions roll back. -/
@[irreducible] def State.rollbackFn (s : State) (b : Nat) : State := (List.range 4).foldl (fun (t : State) q => t.rollback b q) (s.closeFn b)

/-- The fourth: its semaphores are abandoned and its keys that expire at reset freed. -/
@[irreducible] def State.abandonFn (s : State) (b : Nat) : State :=
  ((s.rollbackFn b).abandon b fun _ => true).expireSlots fun x => x.owner = b && !x.locket

theorem resetFn_eq (s : State) (b : Nat) : s.resetFn b = (s.abandonFn b).onFn b fun x => { x with vecs := x.vecs.mapAll fun _ v => v.reset } := by
  unfold State.abandonFn State.rollbackFn State.closeFn
  rfl

theorem closeFn_rest (s : State) (b : Nat) : s.closeFn b =
    { s.stopFn b with ports := (s.closeFn b).ports, tm := (s.closeFn b).tm, fil := (s.closeFn b).fil, la := (s.closeFn b).la } := by
  unfold State.closeFn State.stopStreams
  generalize hu : List.foldl _ _ _ = u
  have hrest : u = { s.stopFn b with ports := u.ports, tm := u.tm } := hu ▸
    foldl_relates (R := fun s t => t = { s with ports := t.ports, tm := t.tm }) (fun _ => rfl) (fun h k => by rw [k, h]) dropRing_rest _ _
  rw [hrest]
  rfl

theorem closeFn_rings (s : State) (b : Nat) : ((s.closeFn b).ports.rings.all fun q => q.2.owner != b) = true := by
  have hrings : (s.closeFn b).ports.rings = s.ports.rings.filter fun q => decide (q.1 ∉ (s.stopFn b).ringsOf b) := by
    unfold State.closeFn
    exact dropRings_rings _ _
  rw [hrings, List.all_eq_true]
  intro q hq
  obtain ⟨hmem, hnot⟩ := List.mem_filter.1 hq
  by_contra hown
  refine of_decide_eq_true hnot (List.mem_map.2 ⟨q, List.mem_filter.2 ⟨hmem, ?_⟩, rfl⟩)
  simpa using hown

theorem closeFn_streams (s : State) (b : Nat) :
    ((s.closeFn b).fil.streams.all fun x => x.bezel != b) = true ∧ ((s.closeFn b).la.streams.all fun x => x.bezel != b) = true := by
  have hall : ∀ {α : Type} (l : List α) (p : α → Bool), (l.filter p).all p = true := fun l p => by simp
  unfold State.closeFn
  exact ⟨hall _ _, hall _ _⟩

theorem stopFn_idle (s : State) (b : Nat) : FnSt.idle ((s.stopFn b).fn b) := by
  have hfn : (s.stopFn b).fn b = { s.fn b with
      queues := (s.fn b).queues.mapAll fun _ k => k.drop, cplEn := false, evtEn := false, cplRes := 0 } := onFn_fn_self s b _
  rw [hfn]
  refine ⟨rfl, rfl, fun p hp => ?_⟩
  obtain ⟨q, -, rfl⟩ := List.mem_map.1 hp
  exact ⟨rfl, rfl⟩

theorem closeFn_mbx (s : State) (b : Nat) : (s.closeFn b).mbx = (s.stopFn b).mbx := by rw [closeFn_rest]

theorem expireSlots_fn (s : State) (mine : KeySlot → Bool) (c : Nat) : (s.expireSlots mine).fn c = s.fn c :=
  (congrArg (fun m : MbxSt => m.fns.look {} c) (expireSlots_rest s mine).2 :)

theorem abandonFn_fn_self (s : State) (b : Nat) :
    (s.abandonFn b).fn b = { (s.rollbackFn b).fn b with sems := ((s.abandonFn b).fn b).sems } := by
  rw [State.abandonFn, expireSlots_fn, State.abandon, onFn_fn_self]

theorem abandonFn_fn_other (s : State) {b c : Nat} (h : c ≠ b) : (s.abandonFn b).fn c = (s.rollbackFn b).fn c := by
  rw [State.abandonFn, expireSlots_fn, State.abandon, onFn_fn_other _ _ h.symm]

theorem abandonFn_sems (s : State) (b : Nat) : (((s.abandonFn b).fn b).sems.all fun e => e.2.st != .held) = true := by
  rw [State.abandonFn, expireSlots_fn]
  have hsems := abandon_sems (s.rollbackFn b) b fun _ => true
  rw [List.all_eq_true] at hsems ⊢
  intro e he
  simpa using hsems e he

theorem rollbackFn_rolledBack (s : State) (b : Nat) : RolledBack b (List.range 4) (s.closeFn b) (s.rollbackFn b) := by
  unfold State.rollbackFn
  exact rollbacks_rolledBack _ _ _

theorem abandonFn_rest (s : State) (b : Nat) : MailboxesAndKeysOnly (s.closeFn b) (s.abandonFn b) := by
  unfold State.abandonFn
  exact (rollbackFn_rolledBack s b).rest.trans
    (MailboxesAndKeysOnly.trans (t := (s.rollbackFn b).abandon b fun _ => true) rfl (expireSlots_rest _ _).1)

theorem resetFn_fn_self (s : State) (b : Nat) : (s.resetFn b).fn b = { (s.rollbackFn b).fn b with
    sems := ((s.abandonFn b).fn b).sems, vecs := ((s.abandonFn b).fn b).vecs.mapAll fun _ v => v.reset } := by
  rw [resetFn_eq, onFn_fn_self]
  rw [abandonFn_fn_self]

/-- The blocks after a reset: rings and streams as they closed, the rest untouched. -/
theorem resetFn_rest (s : State) (b : Nat) : s.resetFn b = { s with
    mbx := (s.resetFn b).mbx, clasp := (s.resetFn b).clasp, ports := (s.closeFn b).ports, tm := (s.resetFn b).tm, fil := (s.closeFn b).fil
    la := (s.closeFn b).la, mgmt := (s.resetFn b).mgmt, sta := (s.resetFn b).sta, keys := (s.resetFn b).keys } := by
  have hlate : MailboxesAndKeysOnly (s.closeFn b) (s.resetFn b) := by
    rw [resetFn_eq]
    exact (abandonFn_rest s b).trans rfl
  have hclose := closeFn_rest s b
  generalize s.resetFn b = t at *
  generalize s.closeFn b = c at *
  rw [hlate, hclose]
  rfl

theorem resetFn_vf (s : State) (b : Nat) : (s.resetFn b).mbx.vfEnable = s.mbx.vfEnable ∧ (s.resetFn b).mbx.numVfs = s.mbx.numVfs := by
  obtain ⟨hvf, hnum⟩ := (rollbackFn_rolledBack s b).vf
  have hm := (expireSlots_rest ((s.rollbackFn b).abandon b fun _ => true) fun x => x.owner = b && !x.locket).2
  rw [closeFn_mbx] at hvf hnum
  rw [resetFn_eq]
  change (s.abandonFn b).mbx.vfEnable = _ ∧ (s.abandonFn b).mbx.numVfs = _
  unfold State.abandonFn
  exact ⟨(congrArg MbxSt.vfEnable hm).trans hvf, (congrArg MbxSt.numVfs hm).trans hnum⟩

/-- What a reset of function `b` leaves (R352, R447, R462, R465); it stays frozen only where `keep`. -/
structure FnReset (b : Nat) (keep : Bool) (s t : State) : Prop where
  idle : FnSt.idle (t.fn b)
  txn : ∀ q, q < 4 → ((t.fn b).q q).txn = none
  vecs : ((t.fn b).vecs.all fun v => v.2.mask && v.2.addr = 0) = true
  sems : ((t.fn b).sems.all fun e => e.2.st != .held) = true
  frozen : (t.fn b).frozen = ((s.fn b).frozen && keep)
  others : ∀ k, k ≠ b → t.fn k = s.fn k

theorem resetFn_resets (s : State) (b : Nat) : FnReset b true s (s.resetFn b) := by
  have hroll := rollbackFn_rolledBack s b
  have hclose : ∀ c, (s.closeFn b).fn c = (s.stopFn b).fn c := fun c => by rw [State.fn, closeFn_mbx]; rfl
  refine ⟨?_, fun q hq => ?_, ?_, ?_, ?_, fun k hk => ?_⟩
  · rw [resetFn_fn_self]
    exact hroll.idle (by rw [hclose]; exact stopFn_idle s b)
  · rw [resetFn_fn_self]
    exact (hroll.txn q).trans (if_pos (List.mem_range.2 hq))
  · rw [resetFn_fn_self, List.all_eq_true]
    intro v hv
    obtain ⟨w, -, rfl⟩ := List.mem_map.1 hv
    rfl
  · rw [resetFn_fn_self]
    exact abandonFn_sems s b
  · rw [resetFn_fn_self, Bool.and_true]
    refine hroll.frozen.trans ?_
    rw [hclose]
    exact (congrArg FnSt.frozen (onFn_fn_self s b _) :)
  · rw [resetFn_eq, onFn_fn_other _ _ hk.symm, abandonFn_fn_other _ hk, hroll.others k hk, hclose]
    exact onFn_fn_other s _ hk.symm

/-! ### Function-level and hot resets (R46, R446, R447) -/

/-- What R447 for a function does beyond its reset: that of physical function 0 releases the frozen masters of BZ00 (R46). -/
def State.releaseOperator (t : State) (b : Nat) : State :=
  if b = 0 then (t.onFn 0 fun x => { x with frozen := false }).onBezel 0 fun z => { z with frozen := [] } else t

theorem flrFn_eq (s : State) (b : Nat) : s.flrFn b = (s.resetFn b).releaseOperator b := by
  unfold State.flrFn State.releaseOperator
  split
  · next h => rw [h]
  · rfl

theorem releaseOperator_fn_self (t : State) (b : Nat) :
    (t.releaseOperator b).fn b = { t.fn b with frozen := (t.fn b).frozen && b != 0 } := by
  unfold State.releaseOperator
  by_cases hb : b = 0
  · subst hb
    rw [bne_self_eq_false, Bool.and_false]
    exact onFn_fn_self t 0 _
  · have hne : (b != 0) = true := by simp [hb]
    rw [if_neg hb, hne, Bool.and_true]

theorem releaseOperator_fn_other (t : State) {b k : Nat} (hk : k ≠ b) : (t.releaseOperator b).fn k = t.fn k := by
  unfold State.releaseOperator
  split
  · next hb => exact onFn_fn_other t _ (hb ▸ hk.symm)
  · rfl

theorem releaseOperator_rest (t : State) (b : Nat) : t.releaseOperator b =
    { t with bez := (t.releaseOperator b).bez, mbx := { t.mbx with fns := (t.releaseOperator b).mbx.fns } } := by
  unfold State.releaseOperator
  split <;> rfl

theorem FnReset.releaseOperator {b : Nat} {s t : State} (h : FnReset b true s t) : FnReset b (b != 0) s (t.releaseOperator b) := by
  obtain ⟨hidle, htxn, hvecs, hsems, hfrozen, hothers⟩ := h
  have hself := releaseOperator_fn_self t b
  have hother := fun k (hk : k ≠ b) => releaseOperator_fn_other t hk
  generalize t.releaseOperator b = u at *
  refine ⟨?_, fun q hq => ?_, ?_, ?_, ?_, fun k hk => (hother k hk).trans (hothers k hk)⟩ <;> rw [hself]
  · exact hidle
  · exact htxn q hq
  · exact hvecs
  · exact hsems
  · rw [hfrozen, Bool.and_true]

theorem flrFn_resets (s : State) (b : Nat) : FnReset b (b != 0) s (s.flrFn b) := by
  rw [flrFn_eq]
  exact (resetFn_resets s b).releaseOperator

/-- Time, power, references and outputs are no matter of a function's reset, nor is which functions are enabled. -/
def FunctionsOnly (s t : State) : Prop :=
  t.tc = s.tc ∧ t.pwr = s.pwr ∧ t.ref = s.ref ∧ t.out = s.out ∧ t.mbx.vfEnable = s.mbx.vfEnable ∧ t.mbx.numVfs = s.mbx.numVfs

theorem FunctionsOnly.refl (s : State) : FunctionsOnly s s := ⟨rfl, rfl, rfl, rfl, rfl, rfl⟩

theorem FunctionsOnly.trans {s t u : State} (h : FunctionsOnly s t) (k : FunctionsOnly t u) : FunctionsOnly s u := by
  obtain ⟨htc, hpwr, href, hout, hvf, hnum⟩ := h
  obtain ⟨ktc, kpwr, kref, kout, kvf, knum⟩ := k
  exact ⟨ktc.trans htc, kpwr.trans hpwr, kref.trans href, kout.trans hout, kvf.trans hvf, knum.trans hnum⟩

theorem resetFn_functionsOnly (s : State) (b : Nat) : FunctionsOnly s (s.resetFn b) := by
  have hrest := resetFn_rest s b
  obtain ⟨hvf, hnum⟩ := resetFn_vf s b
  generalize s.resetFn b = t at *
  exact ⟨by rw [hrest], by rw [hrest], by rw [hrest], by rw [hrest], hvf, hnum⟩

theorem flrFn_functionsOnly (s : State) (b : Nat) : FunctionsOnly s (s.flrFn b) := by
  rw [flrFn_eq]
  have hreset := resetFn_functionsOnly s b
  generalize s.resetFn b = t at *
  refine hreset.trans ?_
  rw [releaseOperator_rest]
  exact ⟨rfl, rfl, rfl, rfl, rfl, rfl⟩

/-- Rings and streams after a reset are as it closed them. -/
theorem flrFn_closed (s : State) (b : Nat) :
    (s.flrFn b).ports.rings = (s.closeFn b).ports.rings ∧ (s.flrFn b).fil.streams = (s.closeFn b).fil.streams ∧
      (s.flrFn b).la.streams = (s.closeFn b).la.streams := by
  rw [flrFn_eq]
  have hrest := resetFn_rest s b
  generalize s.resetFn b = t at *
  rw [releaseOperator_rest, hrest]
  exact ⟨rfl, rfl, rfl⟩

theorem FnSt.idle.queues_all {f : FnSt} (h : f.idle) : (f.queues.all fun q => !q.2.en && q.2.inflight.isEmpty) = true := by
  obtain ⟨-, -, hq⟩ := h
  rw [List.all_eq_true]
  intro p hp
  obtain ⟨hen, hin⟩ := hq p hp
  simp [hen, hin]

/-- Of resets in turn, each function named keeps what any one reset gives it. -/
theorem flrFns_fn {b : Nat} {P : FnSt → Prop} (hP : ∀ u : State, P ((u.flrFn b).fn b)) (l : List Nat) (s : State)
    (h : b ∈ l ∨ P (s.fn b)) : P ((l.foldl (fun (t : State) k => t.flrFn k) s).fn b) := by
  induction l generalizing s with
  | nil => exact h.resolve_left List.not_mem_nil
  | cons k r ih =>
    rw [List.foldl_cons]
    refine ih _ ?_
    by_cases hk : b = k
    · subst hk
      exact .inr (hP s)
    · rw [(flrFn_resets s k).others b hk]
      exact h.imp_left fun hb => (List.mem_cons.1 hb).resolve_left hk

/-- A function that a reset has disabled (R447, R462): physical function 0 is thawed as well (R46). -/
structure FnSt.Disabled (b : Nat) (f : FnSt) : Prop where
  cplEn : f.cplEn = false
  evtEn : f.evtEn = false
  queues : (f.queues.all fun q => !q.2.en && q.2.inflight.isEmpty) = true
  txn : ∀ q, q < 4 → (f.q q).txn = none
  thawed : b = 0 → f.frozen = false

theorem flrFn_disabled (s : State) (b : Nat) : ((s.flrFn b).fn b).Disabled b := by
  obtain ⟨hidle, htxn, -, -, hfrozen, -⟩ := flrFn_resets s b
  generalize (s.flrFn b).fn b = f at *
  refine ⟨hidle.1, hidle.2.1, hidle.queues_all, htxn, fun h0 => ?_⟩
  rw [hfrozen, h0]
  exact Bool.and_false _

theorem onHotReset_disabled (s : State) {b : Nat} (hb : b < 64) : ((onHotReset s).fn b).Disabled b :=
  flrFns_fn (fun u => flrFn_disabled u b) (List.range 64) s (.inl (List.mem_range.2 hb))

theorem onHotReset_functionsOnly (s : State) : FunctionsOnly s (onHotReset s) :=
  foldl_relates FunctionsOnly.refl FunctionsOnly.trans flrFn_functionsOnly (List.range 64) s

/-- Settles O34: a reset of one function by its parts, a hot reset as one of every function in turn. -/
theorem functionResets : Obligations.FunctionResets := by
  unfold Obligations.FunctionResets
  refine ⟨fun s b ha hb => ?flr, fun s b ha hb => ?disabled, fun s ha => ?hot⟩
  case flr =>
    refine Does.of_alive rfl ha ?_
    rw [onFlr, if_pos hb]
    obtain ⟨hcpl, hevt, hq, htxn, hthawed⟩ := flrFn_disabled s b
    obtain ⟨-, -, hvecs, hsems, hfrozen, hothers⟩ := flrFn_resets s b
    obtain ⟨htc, hpwr, href, hout, -, -⟩ := flrFn_functionsOnly s b
    obtain ⟨hrings, hfil, hla⟩ := flrFn_closed s b
    have hringsOff := closeFn_rings s b
    obtain ⟨hfilOff, hlaOff⟩ := closeFn_streams s b
    rw [← hrings] at hringsOff
    rw [← hfil] at hfilOff
    rw [← hla] at hlaOff
    generalize s.flrFn b = t at *
    refine ⟨hcpl, hevt, hq, htxn, hvecs, hsems, hringsOff, hfilOff, hlaOff, fun h0 => h0 ▸ hthawed h0, fun h0 => ?_,
      fun k hk => ?_, htc, hpwr, href, hout⟩
    · rw [hfrozen, bne_iff_ne.2 h0, Bool.and_true]
    · rw [hothers k hk]
      exact ⟨rfl, rfl⟩
  case disabled =>
    refine Does.of_alive rfl ha ?_
    rw [onFlr, if_neg (by simp [hb])]
  case hot =>
    refine Does.of_alive rfl ha ?_
    obtain ⟨htc, hpwr, href, hout, hvf, hnum⟩ := onHotReset_functionsOnly s
    have hoff := fun b (hb : b < 64) => onHotReset_disabled s hb
    generalize onHotReset s = t at *
    refine ⟨hvf, hnum, fun b hb => ?_, (hoff 0 (by decide)).thawed rfl, htc, hpwr, href, hout⟩
    obtain ⟨hcpl, hevt, hq, htxn, -⟩ := hoff b hb
    exact ⟨hcpl, hevt, hq, htxn⟩

end Sys2Proof.Machine
end

section

/-! ### Device resets (R446, R458, R508, R550-R554, R561) -/

namespace Sys2Proof.Machine

/-- What the end of a boot evaluates again: outputs, reservations and isolation, with the events and log entries of each. -/
structure Settles (s t : State) : Prop where
  calm : Calm s t
  rest : t = { s with hall := t.hall, mbx := t.mbx, bez := t.bez, mgmt := t.mgmt, out := t.out, sta := t.sta }

theorem Settles.refl (s : State) : Settles s s := ⟨.refl s, rfl⟩

theorem Settles.trans {s t u : State} (h : Settles s t) (k : Settles t u) : Settles s u := by
  refine ⟨h.calm.trans k.calm, ?_⟩
  rw [k.rest, h.rest]

theorem Settles.of_eq {s t : State} (h : t = { s with hall := t.hall, bez := t.bez, out := t.out, sta := t.sta }) : Settles s t := by
  refine ⟨(Calm.refl s).rest ?_ ?_ ?_, ?_⟩ <;> rw [h]

theorem raise_settles (s : State) (bs : List Nat) (c : Nat) (d : Rec) (v : Nat) : Settles s (s.raise bs c d v) := by
  refine ⟨(Calm.refl s).raise _ _ _ _, ?_⟩
  rw [raise_rest]

theorem raiseAll_settles (s : State) (c : Nat) (d : Rec) : Settles s (s.raiseAll c d) := raise_settles _ _ _ _ _

theorem touch_settles (s : State) (c i : Nat) : Settles s (s.touch c i) := ⟨(Calm.refl s).touch _ _, rfl⟩

theorem log_settles (s : State) (c v j : Nat) (d : Rec) : Settles s (s.log c v j d) := ⟨(Calm.refl s).log _ _ _ _, rfl⟩

theorem followPin_settles (s : State) (key : Nat) : Settles s (s.followPin key) := by
  unfold State.followPin
  extract_lets o held tb gen st cfg o1 s1
  have h1 : Settles s s1 := by
    unfold s1
    split
    · exact .refl s
    · exact .of_eq rfl
  split
  · exact h1
  · exact h1.trans (.of_eq rfl)

theorem setLoop_settles (s : State) (l : Nat) (st : LoopState) : Settles s (s.setLoop l st) := by
  unfold State.setLoop
  split
  · exact .refl s
  · exact Settles.trans (t := s.onLoop l _) (.of_eq rfl) (foldl_relates .refl .trans followPin_settles _ _)

theorem startLoops_settles (s : State) : Settles s s.startLoops := by
  refine foldl_relates .refl .trans (fun t l => ?_) _ _
  split
  · exact setLoop_settles _ _ _
  · exact .refl t

theorem isolate_settles (s : State) : Settles s s.isolate := by
  refine foldl_relates .refl .trans (fun t b => ?_) _ _
  extract_lets f iso was u
  have hu : Settles t u := by
    unfold u
    split
    · exact .refl t
    · exact .of_eq rfl
  split
  · exact hu
  · exact hu.trans (raise_settles _ _ _ _ _)

theorem weighReservations_settles (s : State) : Settles s s.weighReservations := by
  refine .trans (foldl_relates .refl .trans (fun t b => ?_) _ _) (isolate_settles _)
  extract_lets met was
  split
  · exact .refl t
  · exact Settles.trans (t := t.onSta _) (.of_eq rfl) (raise_settles _ _ _ _ _)

/-- What a boot changes on the state it starts from: the choice of the set, the vault, and what the end evaluates. -/
structure Boots (s t : State) : Prop where
  mbx : { t.mbx with fns := s.mbx.fns, objGen := s.mbx.objGen } = s.mbx
  fns : ∀ b, t.fn b = { s.fn b with vecs := (t.fn b).vecs, due := (t.fn b).due }
  loupe : t.loupe = s.loupe
  rest : t = { s with hall := t.hall, mbx := t.mbx, bez := t.bez, pwr := t.pwr, mgmt := t.mgmt, out := t.out, sta := t.sta, keys := t.keys, free := t.free }
  pwr : t.pwr = { s.pwr with st := t.pwr.st, kek := t.pwr.kek, latch := t.pwr.latch, vgen := t.pwr.vgen, tamperHold := t.pwr.tamperHold }
  power : t.pwr.st = s.pwr.st ∨ t.pwr.st = .restricted
  log : t.mgmt.log = s.mgmt.log
  nvReset : t.mgmt.nvReset = s.mgmt.nvReset

theorem Boots.refl (s : State) : Boots s s := ⟨rfl, fun _ => rfl, rfl, rfl, rfl, .inl rfl, rfl, rfl⟩

theorem Boots.trans {s t u : State} (h : Boots s t) (k : Boots t u) : Boots s u := by
  refine ⟨?_, fun b => ?_, k.loupe.trans h.loupe, ?_, ?_, ?_, k.log.trans h.log, k.nvReset.trans h.nvReset⟩
  · exact (congrArg (fun m : MbxSt => { m with fns := s.mbx.fns, objGen := s.mbx.objGen }) k.mbx).trans h.mbx
  · rw [k.fns b, h.fns b]
  · rw [k.rest, h.rest]
  · rw [k.pwr, h.pwr]
  · rcases k.power with hk | hk
    · rw [hk]
      exact h.power
    · exact .inr hk

/-- The log ring and the wait of `nv.reset_config` are no part of the log's staging. -/
theorem MgmtFrame.log {s t : State} (h : MgmtFrame s t) : t.mgmt.log = s.mgmt.log ∧ t.mgmt.nvReset = s.mgmt.nvReset :=
  ⟨(congrArg MgmtSt.log h :), (congrArg MgmtSt.nvReset h :)⟩

theorem Settles.boots {s t : State} (h : Settles s t) : Boots s t := by
  obtain ⟨hcalm, hrest⟩ := h
  obtain ⟨hlog, hreset⟩ := hcalm.mgmt.log
  have hpwr : t.pwr = s.pwr := by rw [hrest]
  refine ⟨hcalm.mbx, hcalm.fns, hcalm.loupe, ?_, ?_, .inl (by rw [hpwr]), hlog, hreset⟩
  · rw [hrest]
  · rw [hpwr]

/-- A change of the sets, of the keys or of the vault boots as well. -/
theorem Boots.of_eq {s t : State} (h : t = { s with mgmt := t.mgmt, keys := t.keys, pwr := t.pwr, free := t.free })
    (hlog : t.mgmt.log = s.mgmt.log) (hreset : t.mgmt.nvReset = s.mgmt.nvReset)
    (hpwr : t.pwr = { s.pwr with kek := t.pwr.kek, latch := t.pwr.latch, vgen := t.pwr.vgen, tamperHold := t.pwr.tamperHold }) : Boots s t := by
  refine ⟨?_, fun b => ?_, ?_, ?_, ?_, .inl (by rw [hpwr]), hlog, hreset⟩
  · rw [h]
  · rw [h]
    rfl
  · rw [h]
  · rw [h]
  · rw [hpwr]

/-- A change of the power state is the new state, its event and its log entry (R552). -/
theorem setPower_settles (s : State) (p : PowerState) : Settles (s.onPwr fun x => { x with st := p }) (s.setPower p) := by
  unfold State.setPower
  split
  · next h =>
    subst h
    exact .refl s
  · extract_lets s1
    split
    · exact .refl s1
    · exact raise_settles _ _ _ _ _

theorem restrict_boots (s : State) : Boots s s.restrict := by
  obtain ⟨hmbx, hfns, hloupe, hrest, hpwr, hpower, hlog, hreset⟩ := (setPower_settles s .restricted).boots
  refine ⟨hmbx, hfns, hloupe, hrest, ?_, ?_, hlog, hreset⟩
  · rw [State.restrict, hpwr]
    rfl
  · exact .inr (hpower.elim id id)

theorem restrict_pwr (s : State) : s.restrict.pwr = { s.pwr with st := .restricted } := by
  rw [State.restrict, (setPower_settles s .restricted).rest]
  rfl

/-- The choice of a set changes no more of the vault than that the device is RESTRICTED (R508). -/
theorem selectSet_boots (s : State) : Boots s s.selectSet ∧ s.selectSet.pwr = { s.pwr with st := s.selectSet.pwr.st } := by
  unfold State.selectSet
  extract_lets n f failed s1 why o g r
  have h1 : Boots s s1 ∧ s1.pwr = s.pwr := by
    unfold s1
    split
    · exact ⟨.of_eq rfl rfl rfl rfl, rfl⟩
    · exact ⟨.refl s, rfl⟩
  obtain ⟨hboots, hpwr⟩ := h1
  have vault {t : State} (h : t.pwr = { s1.pwr with st := t.pwr.st }) : t.pwr = { s.pwr with st := t.pwr.st } := hpwr ▸ h
  split
  · exact ⟨hboots.trans (.of_eq rfl rfl rfl rfl), vault rfl⟩
  · split
    · refine ⟨hboots.trans (.trans (t := (s1.runSet o).onMgmt _) (.of_eq rfl rfl rfl rfl) (raise_settles _ _ _ _ _).boots), vault ?_⟩
      rw [State.raise0, raise_pwr]
      rfl
    · refine ⟨hboots.trans (.trans (t := s1.onMgmt _) (.of_eq rfl rfl rfl rfl) ((restrict_boots _).trans (raise_settles _ _ _ _ _).boots)), vault ?_⟩
      rw [State.raise0, raise_pwr, restrict_pwr]
      rfl

/-- A set that is selected, tested and not bad is run as it stands (R508). -/
theorem selectSet_of_tested {s : State} (ht : s.setTested s.mgmt.selected = true)
    (hc : (s.mgmt.sets.look {} s.mgmt.selected).st = .confirmed) :
    s.selectSet = (s.runSet s.mgmt.selected).onMgmt fun m => { m with fallback := 0 } := by
  simp [State.selectSet, ht, hc]

/-! ### The vault at boot (R561) -/

/-- An absent vault key is made new: its slot holds it, the latches are clear and VGEN has counted (R353, R557). -/
theorem newVault_boots (s : State) : Boots s s.newVault ∧ s.newVault.pwr = { s.pwr with kek := true, latch := 0, vgen := (s.pwr.vgen + 1) % 65536 } ∧
    (s.newVault.key 1).st = .valid := by
  unfold State.newVault
  extract_lets kek s1
  have hkey : Boots s (s1.nextFree.onPwr fun p => { p with kek := true, latch := 0, vgen := (p.vgen + 1) % 65536 }) := .of_eq rfl rfl rfl rfl
  refine ⟨hkey.trans ((touch_settles _ _ _).trans (raiseAll_settles _ _ _)).boots, ?_, ?_⟩
  · rw [State.raiseAll, raise_pwr]
    rfl
  · rw [State.key, State.raiseAll, raise_keys]
    exact congrArg KeySlot.st (Tab.look_put_self _ _ _ _)

theorem bootVault_boots (s : State) : Boots s s.bootVault := by
  unfold State.bootVault
  split
  · exact .refl s
  · split
    · exact .trans (t := s.orphanAll.onPwr _) (.of_eq rfl rfl rfl rfl) (restrict_boots _)
    · exact (newVault_boots s).1

theorem bootVault_of_kek {s : State} (h : s.pwr.kek = true) : s.bootVault = s := by
  rw [State.bootVault, if_pos h]

theorem bootVault_new {s : State} (h : s.pwr.kek = false) (ht : s.isSealed = false ∨ s.pwr.present = 0) : s.bootVault = s.newVault := by
  rw [State.bootVault, if_neg (by simp [h]), if_neg (by rcases ht with ht | ht <;> simp [ht])]

theorem bootVault_tampered {s : State} (h : s.pwr.kek = false) (hs : s.isSealed = true) (ht : s.pwr.present ≠ 0) :
    s.bootVault.pwr = { s.pwr with st := .restricted, tamperHold := true } := by
  rw [State.bootVault, if_neg (by simp [h]), if_pos (by rw [hs, bne_iff_ne.2 ht]; rfl), restrict_pwr]
  rfl

/-! ### The boot (R550, R552) -/

/-- The state a device reset boots from: the stored configuration, the epoch counted and the straps read. -/
def State.reborn (s : State) (cause : Nat) (good : Bool) (pins : BootPins) : State :=
  ((((s.cutSeal.readStore.dark.onMbx fun m => { m with epoch := (m.epoch + 1) % 2 ^ 32 }).writeBoot).onTc fun c =>
      { c with gen := (c.gen + 1) % 65536, mtc := { freq := c.moscCal } }).onPwr fun p =>
    { p with moscGood := good, moscLost := false, cause := cause, pairId := pins.pairId, present := pins.tamper, mosc100 := pins.mosc100 }).onFault
      fun f => { f with backup := !good }

/-- The boot from there: the power state and the log entries of what was cut short. -/
def State.booting (s u : State) : State :=
  let opened := s.mbx.fns.flatMap fun f => (f.2.queues.filterMap fun q => q.2.txn.map fun (t : Txn) => (f.1, q.1, t.id))
  s.absentRecords.foldl (fun (t : State) k => t.log 0x4381 2 k)
    (opened.foldl (fun (t : State) x => t.log 0x0480 1 x.1 [fld 16 x.2.2, fld 8 x.2.1]) (if s.pwr.st = .boot then u else u.setPower .boot))

theorem deviceReset_eq (s : State) (cause : Nat) (q : Bool) (pins : BootPins) : s.deviceReset cause q pins =
    (((s.booting (s.reborn cause (!q && s.timeClockGood) pins)).selectSet.bootVault).startLoops).weighReservations := rfl

theorem cutSeal_rest (s : State) : s.cutSeal = { s with pwr := { s.pwr with fuses := s.cutSeal.pwr.fuses }, free := s.cutSeal.free } := by
  unfold State.cutSeal
  dsimp only
  split <;> rfl

theorem booting_settles (s u : State) : u.pwr.st = s.pwr.st → Settles (u.onPwr fun x => { x with st := .boot }) (s.booting u) := by
  intro h
  unfold State.booting
  extract_lets opened
  refine .trans ?_ ((foldl_relates .refl .trans (fun t x => log_settles t _ _ _ _) opened _).trans
    (foldl_relates .refl .trans (fun t k => log_settles t _ _ _ _) s.absentRecords _))
  split
  · next hb =>
    rw [← hb, ← h]
    exact .refl u
  · exact setPower_settles u _

/-- The state a device reset boots from, in power state BOOT. -/
def State.bootFrom (s : State) (cause : Nat) (q : Bool) (pins : BootPins) : State :=
  (s.reborn cause (!q && s.timeClockGood) pins).onPwr fun x => { x with st := .boot }

theorem reborn_pwr (s : State) (cause : Nat) (good : Bool) (pins : BootPins) : (s.reborn cause good pins).pwr =
    { s.cutSeal.pwr.dark with
        moscGood := good, moscLost := false, cause := cause, pairId := pins.pairId, present := pins.tamper, mosc100 := pins.mosc100 } := rfl

theorem cutSeal_pwr (s : State) : s.cutSeal.pwr = { s.pwr with fuses := s.cutSeal.pwr.fuses } := (congrArg State.pwr (cutSeal_rest s) :)

/-- Up to the choice of the set. -/
theorem booting_bootFrom (s : State) (cause : Nat) (q : Bool) (pins : BootPins) :
    Settles (s.bootFrom cause q pins) (s.booting (s.reborn cause (!q && s.timeClockGood) pins)) := by
  refine booting_settles s _ ?_
  rw [reborn_pwr, cutSeal_pwr]
  rfl

theorem deviceReset_boots (s : State) (cause : Nat) (q : Bool) (pins : BootPins) : Boots (s.bootFrom cause q pins) (s.deviceReset cause q pins) := by
  rw [deviceReset_eq]
  exact (booting_bootFrom s cause q pins).boots.trans ((selectSet_boots _).1.trans ((bootVault_boots _).trans
    ((startLoops_settles _).trans (weighReservations_settles _)).boots))

/-- A mailbox after a reset is empty but for its semaphores and the count of its rollbacks (R446, R458, R462). -/
theorem dark_fn (m : MbxSt) (v : Bool) (b : Nat) : ((m.dark v).fns.look {} b).queues = [] ∧ ((m.dark v).fns.look {} b).cplEn = false ∧
    ((m.dark v).fns.look {} b).evtEn = false ∧ ((m.dark v).fns.look {} b).frozen = false := by
  refine Tab.look_of_forall (fun f : FnSt => f.queues = [] ∧ f.cplEn = false ∧ f.evtEn = false ∧ f.frozen = false) _ _ b (fun p hp => ?_) ⟨rfl, rfl, rfl, rfl⟩
  obtain ⟨f, -, rfl⟩ := List.mem_map.1 hp
  exact ⟨rfl, rfl, rfl, rfl⟩

theorem bootFrom_resetBy (s : State) (cause : Nat) (q : Bool) (pins : BootPins) : ResetBy cause pins s (s.bootFrom cause q pins) := by
  have hrest := cutSeal_rest s
  refine ⟨?_, ?_, rfl, rfl, rfl, rfl, rfl, rfl, .inl rfl, ⟨rfl, rfl, rfl, rfl⟩, rfl, fun b => dark_fn s.cutSeal.mbx s.cutSeal.isSealed b, rfl, ?_, rfl⟩
  · exact (congrArg State.pending hrest :)
  · exact (congrArg (fun u : State => (u.mbx.epoch + 1) % 2 ^ 32) hrest :)
  · exact (congrArg (fun u : State => u.mgmt.log) hrest :)

/-- What a boot leaves alone is what a reset is known by. -/
theorem Boots.resetBy {cause : Nat} {p : BootPins} {s u t : State} (h : Boots u t) (hu : ResetBy cause p s u) (hst : u.pwr.st = .boot) :
    ResetBy cause p s t := by
  obtain ⟨hmbx, hfns, hloupe, hrest, hpwr, hpower, hlog, hreset⟩ := h
  obtain ⟨upend, uepoch, ucause, upair, upresent, ucmd, ufuses, umosc, -, utc, uready, ufns, uctr, ulog, ureset⟩ := hu
  refine ⟨?_, ?_, ?_, ?_, ?_, ?_, ?_, ?_, ?_, ?_, ?_, fun b => ?_, ?_, hlog.trans ulog, hreset.trans ureset⟩
  · exact (congrArg State.pending hrest).trans upend
  · exact (congrArg MbxSt.epoch hmbx).trans uepoch
  · exact (congrArg PwrSt.cause hpwr).trans ucause
  · exact (congrArg PwrSt.pairId hpwr).trans upair
  · exact (congrArg PwrSt.present hpwr).trans upresent
  · exact (congrArg PwrSt.cmdReset hpwr).trans ucmd
  · exact (congrArg PwrSt.fuses hpwr).trans ufuses
  · exact (congrArg PwrSt.mosc100 hpwr).trans umosc
  · rw [← hst]
    exact hpower.imp_left id
  · have htc : t.tc = u.tc := (congrArg State.tc hrest :)
    rw [htc]
    exact utc
  · exact (congrArg MbxSt.ready hmbx).trans uready
  · rw [hfns b]
    exact ufns b
  · rw [hloupe]
    exact uctr

theorem deviceReset_resetBy (s : State) (cause : Nat) (q : Bool) (pins : BootPins) : ResetBy cause pins s (s.deviceReset cause q pins) :=
  (deviceReset_boots s cause q pins).resetBy (bootFrom_resetBy s cause q pins) rfl

/-- MOSC is good after a reset where it was good and is not qualified again, and the collector runs on its backup where it is not (R554, R556). -/
theorem deviceReset_mosc (s : State) (cause : Nat) (q : Bool) (pins : BootPins) :
    (s.deviceReset cause q pins).pwr.moscGood = (!q && s.timeClockGood) ∧ (s.deviceReset cause q pins).fault.backup = !(!q && s.timeClockGood) := by
  have h := deviceReset_boots s cause q pins
  exact ⟨(congrArg PwrSt.moscGood h.pwr :), (congrArg (fun t : State => t.fault.backup) h.rest :)⟩

/-! ### The set and the vault after a power-on reset (R508, R561) -/

/-- The state in which the boot ROM chooses the set. -/
def State.chooses (s : State) (pins : BootPins) : State := s.booting (s.reborn (if pins.porst then 1 else 0) false pins)

theorem onPowerOnReset_settles (s : State) (pins : BootPins) : Settles (s.chooses pins).selectSet.bootVault (onPowerOnReset pins s) :=
  (startLoops_settles _).trans (weighReservations_settles _)

theorem chooses_settles (s : State) (pins : BootPins) : Settles (s.bootFrom (if pins.porst then 1 else 0) true pins) (s.chooses pins) :=
  booting_bootFrom s _ true pins

theorem Settles.pwr {s t : State} (h : Settles s t) : t.pwr = s.pwr := by rw [h.rest]

theorem Settles.keys {s t : State} (h : Settles s t) : t.keys = s.keys := by rw [h.rest]

theorem bootFrom_pwr (s : State) (cause : Nat) (q : Bool) (pins : BootPins) : (s.bootFrom cause q pins).pwr =
    { s.pwr.dark with
        st := .boot, fuses := s.cutSeal.pwr.fuses, moscGood := !q && s.timeClockGood, moscLost := false, cause := cause, pairId := pins.pairId
        present := pins.tamper, mosc100 := pins.mosc100 } := by
  rw [State.bootFrom, State.onPwr, reborn_pwr, cutSeal_pwr]
  rfl

/-- The vault and its inputs as the boot finds them: those of the device, the inputs as they read. -/
theorem selectSet_chooses_vault (s : State) (p : BootPins) :
    (s.chooses p).selectSet.pwr.kek = s.pwr.kek ∧ (s.chooses p).selectSet.isSealed = s.cutSeal.isSealed ∧
      (s.chooses p).selectSet.pwr.present = p.tamper ∧ (s.chooses p).selectSet.pwr.vgen = s.pwr.vgen := by
  have hchosen := (selectSet_boots (s.chooses p)).2
  rw [(chooses_settles s p).pwr, bootFrom_pwr] at hchosen
  exact ⟨(congrArg PwrSt.kek hchosen :), (congrArg (fun x : PwrSt => x.fuses != 0) hchosen :), (congrArg PwrSt.present hchosen :),
    (congrArg PwrSt.vgen hchosen :)⟩

/-- The firmware sets and the one selected are those of the device. -/
theorem chooses_sets (s : State) (p : BootPins) : (s.chooses p).mgmt.sets = s.mgmt.sets ∧ (s.chooses p).mgmt.selected = s.mgmt.selected ∧
    (s.chooses p).mgmt.hwRev = s.mgmt.hwRev := by
  have hframe := (chooses_settles s p).calm.mgmt
  have hcut : s.cutSeal.mgmt = s.mgmt := (congrArg State.mgmt (cutSeal_rest s) :)
  generalize hb : s.bootFrom (if p.porst then 1 else 0) true p = b at hframe
  have hsets : b.mgmt.sets = s.mgmt.sets := by
    rw [← hb, ← hcut]
    rfl
  have hsel : b.mgmt.selected = s.mgmt.selected := by
    rw [← hb, ← hcut]
    rfl
  have hrev : b.mgmt.hwRev = s.mgmt.hwRev := by
    rw [← hb, ← hcut]
    rfl
  exact ⟨(congrArg MgmtSt.sets hframe).trans hsets, (congrArg MgmtSt.selected hframe).trans hsel, (congrArg MgmtSt.hwRev hframe).trans hrev⟩

theorem chooses_setTested (s : State) (p : BootPins) (n : Nat) : (s.chooses p).setTested n = s.setTested n := by
  obtain ⟨hsets, -, hrev⟩ := chooses_sets s p
  simp only [State.setTested, hsets, hrev]

theorem chooses_pwr (s : State) (p : BootPins) : (s.chooses p).pwr = (s.bootFrom (if p.porst then 1 else 0) true p).pwr := (chooses_settles s p).pwr

/-- A device whose selected set is confirmed and tested, and whose vault key is there, runs that set (R508). -/
theorem onPowerOnReset_of_confirmed {s : State} (p : BootPins) (hk : s.pwr.kek = true) (ht : s.setTested s.mgmt.selected = true)
    (hc : (s.mgmt.sets.look {} s.mgmt.selected).st = .confirmed) :
    Settles (((s.chooses p).runSet (s.chooses p).mgmt.selected).onMgmt fun m => { m with fallback := 0 }) (onPowerOnReset p s) := by
  obtain ⟨hsets, hsel, -⟩ := chooses_sets s p
  have hend := onPowerOnReset_settles s p
  rw [selectSet_of_tested (by rw [hsel, chooses_setTested, ht]) (by rw [hsets, hsel, hc]), bootVault_of_kek] at hend
  · exact hend
  · have hkek : (s.chooses p).pwr.kek = s.pwr.kek := by rw [chooses_pwr, bootFrom_pwr]; rfl
    exact hkek.trans hk

theorem Does.of_reset {i : Instr} {s : State} (cause : Nat) (q : Bool) (p : BootPins) (hi : exec i s = .next (s.deviceReset cause q p)) :
    Does i s fun t => ResetBy cause p s t ∧ t.pwr.moscGood = (!q && s.timeClockGood) ∧ t.fault.backup = !(!q && s.timeClockGood) :=
  ⟨_, hi, deviceReset_resetBy s cause q p, deviceReset_mosc s cause q p⟩

theorem exec_systemReset {s : State} (p : BootPins) (ha : s.alive = true) : exec (.systemReset p) s = .next (s.deviceReset 2 false p) :=
  congrArg Host.Outcome.next (if_pos ha)

theorem exec_commandReset {s : State} (p : BootPins) (ha : s.alive = true) : exec (.commandReset p) s = .next (onCommandReset p s) :=
  congrArg Host.Outcome.next (if_pos ha)

theorem exec_zeroisationReset {s : State} (p : BootPins) (ha : s.alive = true) : exec (.zeroisationReset p) s = .next (onZeroisationReset p s) :=
  congrArg Host.Outcome.next (if_pos ha)

theorem onCommandReset_of_some {s : State} (p : BootPins) {c : Nat} (hc : s.pwr.cmdReset = some c) (h5 : c ≠ 5) :
    onCommandReset p s = s.deviceReset c false p := by
  simp only [onCommandReset, hc, if_neg h5]

theorem onCommandReset_of_none {s : State} (p : BootPins) (hc : s.pwr.cmdReset = none ∨ s.pwr.cmdReset = some 5) : onCommandReset p s = s := by
  rcases hc with hc | hc <;> simp [onCommandReset, hc]

/-- Settles O45: every device reset as a boot from one state, and the choice of the set and the vault within it. -/
theorem deviceResets : Obligations.DeviceResets := by
  unfold Obligations.DeviceResets
  refine ⟨fun s p => ?power, fun s p ha => ?system, fun s p c ha hc h5 => ?command, fun s p ha hc => ?unscheduled, fun s p ha hc => ?zeroisation,
    fun s p ha hc => ?notZeroised, fun s p ha => ?dead, fun s p hk hn ht hc => ?set, fun s p hk hv => ?newKey, fun s p hk hv ht => ?tampered⟩
  case power => exact Does.of_reset _ true p rfl
  case system => exact (Does.of_reset 2 false p (exec_systemReset p ha)).imp fun t h => ⟨h.1, h.2.1⟩
  case command =>
    refine (Does.of_reset c false p ?_).imp fun t h => ⟨h.1, h.2.1⟩
    rw [exec_commandReset p ha, onCommandReset_of_some p hc h5]
  case unscheduled => exact ⟨s, by rw [exec_commandReset p ha, onCommandReset_of_none p hc], rfl⟩
  case zeroisation =>
    refine (Does.of_reset 5 false p ?_).imp fun t h => h.1
    rw [exec_zeroisationReset p ha, onZeroisationReset, if_pos hc]
  case notZeroised => exact ⟨s, by rw [exec_zeroisationReset p ha, onZeroisationReset, if_neg hc], rfl⟩
  case dead => exact ⟨s, congrArg Host.Outcome.next (if_neg (show ¬ s.alive = true by simp [ha])), rfl⟩
  case set =>
    refine ⟨onPowerOnReset p s, rfl, ?_⟩
    have hend := onPowerOnReset_of_confirmed p hk ht hc
    have hpwr := hend.pwr
    have hmgmt := hend.calm.mgmt
    obtain ⟨hsets, hsel, -⟩ := chooses_sets s p
    have hvault := chooses_pwr s p
    rw [bootFrom_pwr] at hvault
    generalize onPowerOnReset p s = t at *
    generalize s.chooses p = c at *
    replace hpwr : t.pwr = c.pwr := hpwr
    dsimp only
    rw [hpwr, hvault, ← hsel]
    refine ⟨rfl, (congrArg MgmtSt.running hmgmt :), (congrArg MgmtSt.tested hmgmt :), ?_, hk, rfl, rfl, rfl⟩
    have hall : t.mgmt.sets = c.mgmt.sets.upd {} c.mgmt.selected fun f => { f with st := if f.st = .valid then .trial else f.st, slowBoot := true } :=
      (congrArg MgmtSt.sets hmgmt :)
    rw [hall, Tab.look_upd_self, hsets, hsel, hc]
    rfl
  case newKey =>
    refine ⟨onPowerOnReset p s, rfl, ?_⟩
    have hend := onPowerOnReset_settles s p
    obtain ⟨hkek, hsealed, hpresent, hvgen⟩ := selectSet_chooses_vault s p
    generalize (s.chooses p).selectSet = c at *
    obtain ⟨-, hpwr, hkey⟩ := newVault_boots c
    rw [bootVault_new (hkek.trans hk) (hv.imp hsealed.trans hpresent.trans)] at hend
    dsimp only
    rw [State.key, hend.keys, hend.pwr, hpwr, hvgen]
    exact ⟨rfl, rfl, rfl, hkey⟩
  case tampered =>
    refine ⟨onPowerOnReset p s, rfl, ?_⟩
    have hend := onPowerOnReset_settles s p
    obtain ⟨hkek, hsealed, hpresent, hvgen⟩ := selectSet_chooses_vault s p
    generalize (s.chooses p).selectSet = c at *
    dsimp only
    rw [hend.pwr, bootVault_tampered (hkek.trans hk) (hsealed.trans hv) (hpresent.trans_ne ht), hkek, hvgen, hk]
    exact ⟨rfl, rfl, rfl, rfl⟩

end Sys2Proof.Machine
end

section

/-! ### The fault collector (R517-R530) -/

namespace Sys2Proof.Machine

/-! ### Sticky and live bits (R520) -/

theorem nbit_toNat (x : BitVec 32) (b : Nat) : nbit x.toNat b = x.getLsbD b := by
  rw [nbit, BitVec.getLsbD, Nat.testBit_eq_decide_div_mod_eq]

theorem getLsbD_bitMask (n b : Nat) : (bitMask n).getLsbD b = (decide (b < 32) && decide (b = n)) := by
  rw [bitMask, ← BitVec.twoPow_eq, BitVec.getLsbD_twoPow]
  by_cases hn : b = n
  · subst hn
    simp
  · simp [hn, Ne.symm hn]

theorem nbit_setMask (x : BitVec 32) (n b : Nat) : nbit (x ||| bitMask n).toNat b = (nbit x.toNat b || decide (b < 32) && decide (b = n)) := by
  rw [nbit_toNat, nbit_toNat, BitVec.getLsbD_or, getLsbD_bitMask]

theorem nbit_clearMask (x : BitVec 32) (n b : Nat) : nbit (x &&& ~~~(bitMask n)).toNat b = (nbit x.toNat b && !decide (b = n)) := by
  rw [nbit_toNat, nbit_toNat, BitVec.getLsbD_and, BitVec.getLsbD_not, getLsbD_bitMask]
  by_cases hb : b < 32
  · simp [hb]
  · simp [hb, BitVec.getLsbD_of_ge x b (by omega)]

/-- A bit of a table of words is set. -/
def BitSet (t : Tab (BitVec 32)) (w b : Nat) : Prop := nbit (t.look 0 w).toNat b = true

/-- Every bit of one table is in another. -/
def BitsGrow (t u : Tab (BitVec 32)) : Prop := ∀ w b, BitSet t w b → BitSet u w b

theorem BitsGrow.refl (t : Tab (BitVec 32)) : BitsGrow t t := fun _ _ h => h

theorem BitsGrow.trans {t u v : Tab (BitVec 32)} (h : BitsGrow t u) (k : BitsGrow u v) : BitsGrow t v := fun w b hb => k w b (h w b hb)

theorem bitsGrow_set (t : Tab (BitVec 32)) (w n : Nat) : BitsGrow t (t.upd 0 w (· ||| bitMask n)) := by
  intro v b h
  unfold BitSet at *
  rw [Tab.look_upd]
  split
  · next hv =>
    rw [nbit_setMask, hv, h]
    rfl
  · exact h

theorem bitSet_set (t : Tab (BitVec 32)) (w : Nat) {n : Nat} (h : n < 32) : BitSet (t.upd 0 w (· ||| bitMask n)) w n := by
  rw [BitSet, Tab.look_upd_self, nbit_setMask]
  simp [h]

theorem bitsGrow_clear (t : Tab (BitVec 32)) (w n : Nat) : BitsGrow (t.upd 0 w (· &&& ~~~(bitMask n))) t := by
  intro v b h
  unfold BitSet at *
  rw [Tab.look_upd] at h
  split at h
  · next hv =>
    rw [nbit_clearMask, Bool.and_eq_true] at h
    exact hv ▸ h.1
  · exact h

theorem not_bitSet_clear (t : Tab (BitVec 32)) (w n : Nat) : ¬ BitSet (t.upd 0 w (· &&& ~~~(bitMask n))) w n := by
  rw [BitSet, Tab.look_upd_self, nbit_clearMask]
  simp

/-! ### What an alarm changes (R518-R521, R530) -/

/-- The management subsystem but for its log staging and its interrupts. -/
def Staging (s t : State) : Prop :=
  t.mgmt = { s.mgmt with icu := t.mgmt.icu, staged := t.mgmt.staged, lseq := t.mgmt.lseq, logSec := t.mgmt.logSec, logRate := t.mgmt.logRate, dropped := t.mgmt.dropped }

theorem Staging.trans {s t u : State} (h : Staging s t) (k : Staging t u) : Staging s u := by
  unfold Staging at *
  rw [k, h]

/-- A source is recorded or a cause declared: bits are added, and the power state, interrupts and events follow. -/
structure Alarms (s t : State) : Prop where
  rest : t = { s with mbx := t.mbx, mgmt := t.mgmt, fault := t.fault, pwr := { s.pwr with st := t.pwr.st } }
  staging : Staging s t
  sticky : BitsGrow s.fault.sticky t.fault.sticky
  live : BitsGrow s.fault.live t.fault.live
  fault : t.fault = { s.fault with sticky := t.fault.sticky, live := t.fault.live, wired := t.fault.wired, replace := t.fault.replace, causes := t.fault.causes }

theorem Alarms.trans {s t u : State} (h : Alarms s t) (k : Alarms t u) : Alarms s u := by
  refine ⟨?_, h.staging.trans k.staging, h.sticky.trans k.sticky, h.live.trans k.live, ?_⟩
  · rw [k.rest, h.rest]
  · rw [k.fault, h.fault]

theorem Alarms.refl (s : State) : Alarms s s := ⟨rfl, rfl, .refl _, .refl _, rfl⟩

theorem setPin_alarms (s : State) (w b : Nat) (x : Bool) : Alarms s (s.setPin w b x) := by
  have hgrow : ∀ t : Tab (BitVec 32), BitsGrow t (if x = true then (t.upd 0 w (· ||| bitMask b)).upd 0 15 (· ||| bitMask w) else t.upd 0 w (· ||| bitMask b)) := by
    intro t
    split
    · exact (bitsGrow_set t w b).trans (bitsGrow_set _ _ _)
    · exact bitsGrow_set t w b
  exact ⟨rfl, rfl, hgrow _, hgrow _, rfl⟩

theorem raise_alarms (s : State) (bs : List Nat) (c : Nat) (d : Rec) (v : Nat) : Alarms s (s.raise bs c d v) := by
  have hfault : (s.raise bs c d v).fault = s.fault := raise_fault s bs c d v
  refine ⟨?_, ?_, ?_, ?_, ?_⟩
  · rw [raise_rest]
  · rw [Staging, (raise_quiet s bs c d v).mgmt]
  · rw [hfault]
    exact .refl _
  · rw [hfault]
    exact .refl _
  · rw [hfault]

theorem icuTake_rest (s : State) (n : Nat) :
    s.icuTake n = { s with mgmt := { s.mgmt with icu := (s.icuTake n).mgmt.icu }, mbx := (s.icuTake n).mbx } := by
  unfold State.icuTake
  split
  · rfl
  · extract_lets ok
    split
    · rfl
    · split <;> rfl

theorem fireMp_rest (s : State) : s.fireMp = { s with mgmt := { s.mgmt with icu := s.fireMp.mgmt.icu }, mbx := s.fireMp.mbx } := by
  unfold State.fireMp
  rw [icuTake_rest]
  rfl

theorem fireMp_fault (s : State) : s.fireMp.fault = s.fault := (congrArg State.fault (fireMp_rest s) :)

theorem fireMp_alarms (s : State) : Alarms s s.fireMp := by
  have hrest := fireMp_rest s
  have hfault := fireMp_fault s
  generalize s.fireMp = t at *
  refine ⟨?_, ?_, ?_, ?_, ?_⟩
  · rw [hrest]
  · rw [Staging, hrest]
  · rw [hfault]
    exact .refl _
  · rw [hfault]
    exact .refl _
  · rw [hfault]

theorem setPower_alarms (s : State) (p : PowerState) : Alarms s (s.setPower p) := by
  unfold State.setPower
  split
  · exact .refl s
  · extract_lets s1
    have h1 : Alarms s s1 := ⟨rfl, rfl, .refl _, .refl _, rfl⟩
    split
    · exact h1
    · exact h1.trans (raise_alarms _ _ _ _ _)

theorem followHealth_alarms (s : State) : Alarms s s.followHealth := by
  unfold State.followHealth
  split
  · exact setPower_alarms _ _
  · split
    · exact setPower_alarms _ _
    · exact .refl s

/-- A cause that is declared (R523, R528, R530). -/
theorem addCause_alarms (s : State) (code : Nat) (replace : Bool) : Alarms s (s.addCause code replace) := by
  unfold State.addCause
  extract_lets s1 s0 s2
  have h1 : Alarms s s1 := by
    unfold s1
    split
    · exact ⟨rfl, rfl, .refl _, .refl _, rfl⟩
    · exact .refl s
  have h0 : Alarms s s0 := by
    unfold s0
    split
    · exact h1.trans ((setPin_alarms _ _ _ _).trans (fireMp_alarms _))
    · exact h1
  have h2 : Alarms s s2 := h0.trans ⟨rfl, rfl, .refl _, .refl _, rfl⟩
  split
  · exact h1
  · refine .trans ?_ (followHealth_alarms _)
    split
    · exact h2.trans (raise_alarms _ _ _ _ _)
    · exact h2

theorem followHealth_fault (s : State) : s.followHealth.fault = s.fault := by
  have hpower : ∀ p, (s.setPower p).fault = s.fault := fun p => by
    rw [(setPower_settles s p).rest]
    rfl
  unfold State.followHealth
  split
  · exact hpower _
  · split
    · exact hpower _
    · rfl

/-- A declared cause is in `sys.health` and asserts REPLACE_N. -/
theorem addCause_fault (s : State) (code : Nat) : code ∈ (s.addCause code).fault.causes ∧ (s.addCause code).fault.replace = true := by
  unfold State.addCause
  extract_lets s1 s0 s2
  have h0 : s0.fault.replace = true := by
    unfold s0
    split
    · rw [fireMp_fault]
      rfl
    · rfl
  split
  · next h => exact ⟨h, rfl⟩
  · rw [followHealth_fault]
    split <;> simp [h0, s2, State.onFault, State.raiseAll]

/-! ### What follows from a failure -/

/-- The collector, the power domain and the waiting commands stay; of the management subsystem only interrupts and log staging move. -/
structure Follows (s t : State) : Prop where
  fault : t.fault = s.fault
  pwr : t.pwr = s.pwr
  pending : t.pending = s.pending
  staging : Staging s t

theorem Follows.refl (s : State) : Follows s s := ⟨rfl, rfl, rfl, rfl⟩

theorem Follows.trans {s t u : State} (h : Follows s t) (k : Follows t u) : Follows s u :=
  ⟨k.fault.trans h.fault, k.pwr.trans h.pwr, k.pending.trans h.pending, h.staging.trans k.staging⟩

theorem Quiet.follows {s t : State} (h : Quiet s t) : Follows s t := by
  have hrest := h.rest
  refine ⟨?_, ?_, ?_, ?_⟩
  · rw [hrest]
  · rw [hrest]
  · rw [hrest]
  · rw [Staging, h.mgmt]

theorem followPin_follows (s : State) (key : Nat) : Follows s (s.followPin key) := by
  unfold State.followPin
  extract_lets o held tb gen st cfg o1 s1
  have h1 : Follows s s1 := by
    unfold s1
    split
    · exact .refl s
    · exact ⟨rfl, rfl, rfl, rfl⟩
  split
  · exact h1
  · exact h1.trans ⟨rfl, rfl, rfl, rfl⟩

theorem followPins_follows (s : State) : Follows s s.followPins := foldl_relates .refl .trans followPin_follows _ _

theorem setLoop_follows (s : State) (l : Nat) (st : LoopState) : Follows s (s.setLoop l st) := by
  unfold State.setLoop
  split
  · exact .refl s
  · exact Follows.trans (t := s.onLoop l _) ⟨rfl, rfl, rfl, rfl⟩ (followPins_follows _)

theorem onLoopHoldoverCause_follows (s : State) (l : Nat) : Follows s (onLoopHoldoverCause l s) := by
  unfold onLoopHoldoverCause
  split
  · exact setLoop_follows _ _ _
  · exact .refl s

theorem loopsHold_follows (s : State) : Follows s s.loopsHold :=
  foldl_relates .refl .trans (fun t l => onLoopHoldoverCause_follows t l) _ _

/-! ### A frame that a squelch ends (R525) -/

/-- Ports, traffic manager and mailboxes alone. -/
def SendingOnly (s t : State) : Prop := t = { s with ports := t.ports, tm := t.tm, mbx := t.mbx }

theorem SendingOnly.refl (s : State) : SendingOnly s s := rfl

theorem SendingOnly.trans {s t u : State} (h : SendingOnly s t) (k : SendingOnly t u) : SendingOnly s u := by
  unfold SendingOnly at *
  rw [k, h]

theorem TrafficOnly.sending {s t : State} (h : TrafficOnly s t) : SendingOnly s t := by
  unfold TrafficOnly at h
  unfold SendingOnly
  rw [h]

theorem SendingOnly.follows {s t : State} (h : SendingOnly s t) : Follows s t := by
  unfold SendingOnly at h
  refine ⟨?_, ?_, ?_, ?_⟩
  · rw [h]
  · rw [h]
  · rw [h]
  · rw [Staging, h]

theorem SendingOnly.hall {s t : State} (h : SendingOnly s t) : t.hall = s.hall := by
  unfold SendingOnly at h
  rw [h]

theorem backFrame_sending (s : State) (f : TxFrame) (status : Nat) : SendingOnly s (s.backFrame f status) := by
  unfold State.backFrame
  split
  · rfl
  · unfold State.backDesc
    split
    · rfl
    · extract_lets r0 r1 s1
      split <;> rfl

theorem abortTx_sending (s : State) (p : Nat) (f : TxFrame) (status : Nat) : SendingOnly s (s.abortTx p f status) :=
  (SendingOnly.trans (t := (s.onPort p fun y => { y with wire := none }).dropFrame f) rfl (followShapers_trafficOnly _ p f).sending).trans
    (backFrame_sending _ _ _)

/-- The records withdrawn and CLM_OUT silent (R419, R525). -/
def State.silence (s : State) : State :=
  (s.onHall fun h => { h with withdrawn := true }).onClasp fun c => { c with silentAt := some s.tc.mtc.cyc, frame := none }

theorem silence_follows (s : State) : Follows s s.silence := ⟨rfl, rfl, rfl, rfl⟩

theorem squelchStart_ends (s : State) : SendingOnly s.silence.followPins s.squelchStart := by
  unfold State.squelchStart
  refine foldl_relates .refl .trans (fun t q => ?_) _ _
  split
  · exact SendingOnly.trans (t := t.countDrop q.1 5) rfl (abortTx_sending _ _ _ _)
  · exact .refl t

theorem squelchStart_follows (s : State) : Follows s s.squelchStart :=
  (silence_follows s).trans ((followPins_follows _).trans (squelchStart_ends s).follows)

/-- Records that are withdrawn stay so. -/
def Withdrawn (s t : State) : Prop := t.hall.withdrawn = s.hall.withdrawn

theorem Withdrawn.refl (s : State) : Withdrawn s s := Eq.refl s.hall.withdrawn

theorem Withdrawn.trans {s t u : State} (h : Withdrawn s t) (k : Withdrawn t u) : Withdrawn s u := by
  unfold Withdrawn at *
  exact k.trans h

theorem followPin_withdrawn (s : State) (key : Nat) : Withdrawn s (s.followPin key) := by
  unfold State.followPin
  extract_lets o held tb gen st cfg o1 s1
  have h1 : Withdrawn s s1 := by
    unfold s1
    split
    · exact .refl s
    · exact .refl s
  split
  · exact h1
  · exact h1

theorem followPins_withdrawn (s : State) : Withdrawn s s.followPins := foldl_relates .refl .trans followPin_withdrawn _ _

theorem squelchStart_withdrawn (s : State) : s.squelchStart.hall.withdrawn = true := by
  rw [(squelchStart_ends s).hall]
  exact followPins_withdrawn s.silence

theorem setLoop_withdrawn (s : State) (l : Nat) (st : LoopState) : Withdrawn s (s.setLoop l st) := by
  unfold State.setLoop
  split
  · exact .refl s
  · exact Withdrawn.trans (t := s.onLoop l _) (.refl s) (followPins_withdrawn _)

theorem loopsHold_withdrawn (s : State) : Withdrawn s s.loopsHold := by
  refine foldl_relates .refl .trans (fun t l => ?_) _ _
  unfold onLoopHoldoverCause
  split
  · exact setLoop_withdrawn _ _ _
  · exact .refl t

/-- No time-bearing output drives while the squelch is in force (R213, R526). -/
theorem driverOn_of_squelched {s : State} {k : Nat} (hs : s.squelched = true) (ht : timeBearing (s.pin k).cfg = true) : s.driverOn k = false := by
  have hheld : s.pinHeld (s.pin k) = true := by simp [State.pinHeld, hs, ht]
  simp [State.driverOn, hheld]

/-! ### What stays recorded (R517, R520) -/

/-- No sticky bit is lost, and no leaf of a block; the waiting commands wait on. -/
structure Recorded (s t : State) : Prop where
  sticky : BitsGrow s.fault.sticky t.fault.sticky
  leaves : t.fault.leaves = s.fault.leaves
  pending : t.pending = s.pending

theorem Recorded.refl (s : State) : Recorded s s := ⟨.refl _, rfl, rfl⟩

theorem Recorded.trans {s t u : State} (h : Recorded s t) (k : Recorded t u) : Recorded s u :=
  ⟨h.sticky.trans k.sticky, k.leaves.trans h.leaves, k.pending.trans h.pending⟩

theorem Recorded.of_fault {s t : State} (hf : t.fault = s.fault) (hp : t.pending = s.pending) : Recorded s t :=
  ⟨hf ▸ .refl _, hf ▸ rfl, hp⟩

theorem Follows.recorded {s t : State} (h : Follows s t) : Recorded s t := .of_fault h.fault h.pending

theorem Settles.recorded {s t : State} (h : Settles s t) : Recorded s t := by
  have hrest := h.rest
  refine .of_fault ?_ ?_ <;> rw [hrest]

theorem Alarms.recorded {s t : State} (h : Alarms s t) : Recorded s t :=
  ⟨h.sticky, (congrArg FaultSt.leaves h.fault :), (congrArg State.pending h.rest :)⟩

theorem latchFatal_recorded (s : State) : Recorded s s.latchFatal := by
  have hlatch : Recorded s (s.onFault fun f => { f with fatal := true }) := ⟨.refl _, rfl, rfl⟩
  exact hlatch.trans ((squelchStart_follows _).recorded.trans (addCause_alarms _ _ _).recorded)

theorem declareFatal_recorded (s : State) : Recorded s s.declareFatal :=
  ((setPin_alarms s _ _ _).trans (fireMp_alarms _)).recorded.trans (latchFatal_recorded _)

theorem setPort_follows (s : State) (p : Nat) (st : PortState) : Follows s (s.setPort p st) := by
  unfold State.setPort
  extract_lets x s1 linked s2 s3 s4
  have h1 : Follows s s1 := by
    unfold s1
    split
    · refine .trans (t := x.launches.foldl (fun (t : State) f => t.launchMiss p f) s) ?_ ⟨rfl, rfl, rfl, rfl⟩
      exact foldl_relates .refl .trans (fun t f => Follows.trans (t := t.dropFrame f) ⟨rfl, rfl, rfl, rfl⟩ (countPort_quiet _ _ _).follows) _ _
    · exact .refl s
  have h2 : Follows s s2 := h1.trans ⟨rfl, rfl, rfl, rfl⟩
  have h3 : Follows s s3 := by
    unfold s3
    split
    · exact h2.trans (countPort_quiet _ _ _).follows
    · exact h2
  have h4 : Follows s s4 := h3.trans (raise_quiet _ _ _ _ _).follows
  split
  · exact ⟨rfl, rfl, rfl, rfl⟩
  · split
    · exact h4
    · exact h4.trans ⟨rfl, rfl, rfl, rfl⟩

theorem failPort_recorded (s : State) (p : Nat) : Recorded s (s.failPort p) := by
  unfold State.failPort
  split
  · exact .refl s
  · exact (setPort_follows _ _ _).recorded.trans ((addCause_alarms _ _ _).recorded.trans (log_settles _ _ _ _ _).recorded)

theorem loseLoop_recorded (s : State) (l cause : Nat) : Recorded s (s.loseLoop l cause) := by
  unfold State.loseLoop
  extract_lets s0 s1
  have h0 : Follows s s0 := by
    unfold s0
    split
    · exact .refl s
    · exact ⟨rfl, rfl, rfl, rfl⟩
  have h1 : Follows s s1 := h0.trans ((setLoop_follows _ _ _).trans (raise0_quiet _ _ _).follows)
  split
  · exact h1.recorded.trans (addCause_alarms _ _ _).recorded
  · exact h1.recorded

theorem quadDown_recorded (s : State) (q : Nat) : Recorded s (s.quadDown q) := by
  refine foldl_relates .refl .trans (fun t i => ?_) _ _
  extract_lets p
  split
  · exact (setPort_follows _ _ _).recorded
  · exact .refl t

theorem derive_follows (s : State) (bank mode pos n : Nat) : Follows s (s.derive bank mode pos n) := by
  unfold State.derive
  split
  · exact ⟨rfl, rfl, rfl, rfl⟩
  · exact .refl s

theorem slotWasted_follows (s : State) (b : Nat) : Follows s (s.slotWasted b) := by
  unfold State.slotWasted
  extract_lets s1
  have h1 : Follows s s1 := derive_follows _ _ _ _ _
  split
  · exact h1
  · exact h1.trans (derive_follows _ _ _ _ _)

theorem dropWork_follows (s : State) (w : Work) : Follows s (s.dropWork w) := by
  have hend : Follows s (s.onTse fun x => { x with works := x.works.filter fun (y : Work) => y.id != w.id }) := ⟨rfl, rfl, rfl, rfl⟩
  have hslot := hend.trans (slotWasted_follows _ w.bezel)
  exact hslot.trans ⟨rfl, rfl, rfl, rfl⟩

theorem jobLost_follows (s : State) (j : SigJob) (nokey : Bool) : Follows s (s.jobLost j nokey) := by
  unfold State.jobLost
  extract_lets s1
  have h1 : Follows s s1 := by
    unfold s1
    split
    · exact (countBezel_quiet _ _ _).follows
    · exact .refl s
  split
  · exact h1
  · exact h1.trans (dropWork_follows _ _)

theorem engineResult_follows (s : State) (n : Nat) (j : SigJob) : Follows s (s.engineResult n j) := by
  unfold State.engineResult
  extract_lets s1
  have h1 : Follows s s1 := ⟨rfl, rfl, rfl, rfl⟩
  split
  · exact h1.trans (jobLost_follows _ _ _)
  · exact ⟨rfl, rfl, rfl, rfl⟩

theorem engineOut_recorded (s : State) (n : Nat) : Recorded s (s.engineOut n) := by
  unfold State.engineOut
  split
  · exact .refl s
  · extract_lets first s1 s2 s3
    have h1 : Follows s s1 := ⟨rfl, rfl, rfl, rfl⟩
    have h2 : Follows s s2 := by
      unfold s2
      split
      · exact h1.trans (engineResult_follows _ _ _)
      · exact h1
    have h3 : Recorded s s3 := (h2.trans (raise0_quiet _ _ _).follows).recorded
    refine .trans ?_ (weighReservations_settles _).recorded
    split
    · exact h3
    · exact h3.trans (addCause_alarms _ _ _).recorded

theorem onPkOperationComplete_recorded (s : State) (pk : Nat) (ok : Bool) : Recorded s (onPkOperationComplete pk ok s) := by
  unfold onPkOperationComplete
  split
  · exact .refl s
  · have hout : Follows s (s.onKeys fun x => { x with pkOut := x.pkOut ++ [pk] }) := ⟨rfl, rfl, rfl, rfl⟩
    exact (hout.trans (raise0_quiet _ _ _).follows).recorded.trans (addCause_alarms _ _ _).recorded

theorem entropyDead_recorded (s : State) : Recorded s s.entropyDead := by
  have hout : Follows s (s.onKeys fun x => { x with entropyOut := true, entropyUp := false }) := ⟨rfl, rfl, rfl, rfl⟩
  exact (hout.trans (log_quiet _ _ _ _ _).follows).recorded.trans (addCause_alarms _ _ _).recorded

theorem tpCoreOut_recorded (s : State) (core : Nat) : Recorded s (s.tpCoreOut core) := by
  unfold State.tpCoreOut
  split
  · exact .refl s
  · extract_lets s1
    have hout : Recorded s (s.onMgmt fun m => { m with tpOut := m.tpOut ++ [core] }) := .of_fault rfl rfl
    have h1 : Recorded s s1 := hout.trans (addCause_alarms _ _ _).recorded
    split
    · exact h1.trans (declareFatal_recorded _)
    · exact h1

theorem clearPin_recorded (s : State) (w b : Nat) : Recorded s (s.clearPin w b) := ⟨.refl _, rfl, rfl⟩

theorem onMpLockstepMismatch_recorded (s : State) : Recorded s (onMpLockstepMismatch s) := by
  unfold onMpLockstepMismatch
  split
  · exact .refl s
  · extract_lets second
    refine .trans ?_ (fireMp_alarms _).recorded
    exact ((setPin_alarms s 14 23 false).recorded.trans (clearPin_recorded _ 14 23)).trans (.of_fault rfl rfl)

theorem bankOut_recorded (s : State) (n : Nat) : Recorded s (s.bankOut n) := by
  unfold State.bankOut
  split
  · exact .refl s
  · extract_lets s1
    have hout : Recorded s (s.onMgmt fun m => { m with banks := m.banks.upd {} n fun b => { b with readOnly := true } }) := .of_fault rfl rfl
    have h1 : Recorded s s1 := hout.trans (addCause_alarms _ _ _).recorded
    split
    · exact h1.trans (declareFatal_recorded _)
    · exact h1

theorem contain_recorded (s : State) (w b : Nat) : Recorded s (s.contain w b) := by
  unfold State.contain
  repeat' split
  · exact Recorded.trans (t := s.onLoop b _) (.of_fault rfl rfl) (onLoopHoldoverCause_follows _ _).recorded
  · exact .refl s
  · exact loseLoop_recorded _ _ _
  · exact failPort_recorded _ _
  · exact quadDown_recorded _ _
  · exact engineOut_recorded _ _
  · exact onPkOperationComplete_recorded _ _ _
  · exact .refl s
  · exact entropyDead_recorded _
  · exact tpCoreOut_recorded _ _
  · exact onMpLockstepMismatch_recorded _
  · exact bankOut_recorded _ _
  · exact (addCause_alarms _ _ _).recorded
  · exact .refl s

/-! ### The output loops (R209) -/

/-- The loops are as they were. -/
def LoopsKept (s t : State) : Prop := t.out.loops = s.out.loops

theorem LoopsKept.refl (s : State) : LoopsKept s s := Eq.refl s.out.loops

theorem LoopsKept.trans {s t u : State} (h : LoopsKept s t) (k : LoopsKept t u) : LoopsKept s u := by
  unfold LoopsKept at *
  exact k.trans h

theorem LoopsKept.of_out {s t : State} (h : t.out = s.out) : LoopsKept s t := congrArg OutSt.loops h

theorem LoopsKept.loop {s t : State} (h : LoopsKept s t) (l : Nat) : t.loop l = s.loop l := congrArg (fun x : Tab OutLoop => x.look {} l) h

theorem followPin_loops (s : State) (key : Nat) : LoopsKept s (s.followPin key) := by
  unfold State.followPin
  extract_lets o held tb gen st cfg o1 s1
  have h1 : LoopsKept s s1 := by
    unfold s1
    split
    · exact .refl s
    · exact .refl s
  split
  · exact h1
  · exact h1

theorem followPins_loops (s : State) : LoopsKept s s.followPins := foldl_relates .refl .trans followPin_loops _ _

theorem onLoop_loop (s : State) (l k : Nat) (f : OutLoop → OutLoop) : (s.onLoop l f).loop k = if l = k then f (s.loop l) else s.loop k :=
  Tab.look_upd s.out.loops {} l k f

theorem setLoop_loop (s : State) (l k : Nat) (st : LoopState) : (s.setLoop l st).loop k = if l = k then { s.loop k with st := st } else s.loop k := by
  unfold State.setLoop
  split
  · next h =>
    split
    · next hk => rw [← hk, ← h]
    · rfl
  · rw [(followPins_loops _).loop k, onLoop_loop]
    split
    · next hk => rw [hk]
    · rfl

/-- Of a fold over different loops, a loop shows its own step alone, taken from a state that keeps what the other steps keep. -/
theorem foldl_loop {g : State → Nat → State} {K : State → State → Prop} (hrefl : ∀ s, K s s) (htrans : ∀ {s t u}, K s t → K t u → K s u)
    {l : Nat} (hother : ∀ s k, k ≠ l → K s (g s k) ∧ (g s k).loop l = s.loop l) {L : List Nat} (hL : L.Nodup) (hl : l ∈ L) (s : State) :
    ∃ u, K s u ∧ u.loop l = s.loop l ∧ (L.foldl g s).loop l = (g u l).loop l := by
  have hafter : ∀ (M : List Nat) (t : State), l ∉ M → (M.foldl g t).loop l = t.loop l := by
    intro M
    induction M with
    | nil => exact fun _ _ => rfl
    | cons k r ih =>
      intro t hM
      obtain ⟨hk, hr⟩ := not_or.1 fun h => hM (List.mem_cons.2 h)
      exact (ih _ hr).trans (hother t k (Ne.symm hk)).2
  induction L generalizing s with
  | nil => exact absurd hl List.not_mem_nil
  | cons k r ih =>
    obtain ⟨hkr, hr⟩ := List.nodup_cons.1 hL
    by_cases hk : l = k
    · subst hk
      exact ⟨s, hrefl s, rfl, hafter r _ hkr⟩
    · obtain ⟨hK, hloop⟩ := hother s k (Ne.symm hk)
      obtain ⟨u, hu, huloop, hend⟩ := ih hr ((List.mem_cons.1 hl).resolve_left hk) (g s k)
      exact ⟨u, htrans hK hu, huloop.trans hloop, hend⟩

/-- A loop that was locked or on its way there holds over (R209). -/
theorem loopsHold_loop (s : State) {l : Nat} (hl : l < 8) (h : (s.loop l).st = .locked ∨ (s.loop l).st = .acquiring) :
    (s.loopsHold.loop l).st = .holdover := by
  obtain ⟨u, -, hu, hend⟩ := foldl_loop (g := fun t k => onLoopHoldoverCause k t) (K := fun _ _ => True) (fun _ => trivial) (fun _ _ => trivial)
    (l := l) (fun t k hk => ⟨trivial, by
      unfold onLoopHoldoverCause
      split
      · rw [setLoop_loop, if_neg hk]
      · rfl⟩) List.nodup_range (List.mem_range.2 hl) s
  rw [State.loopsHold, hend, onLoopHoldoverCause, if_pos (by rw [hu]; rcases h with h | h <;> simp [h]), setLoop_loop, if_pos rfl]

end Sys2Proof.Machine
end

section

/-! ### The collector's clock, and what each pin does (R30, R65, R518-R526) -/

namespace Sys2Proof.Machine

/-! ### MOSC is lost (R30, R65, R525) -/

/-- The sources of a loss of MOSC as the collector has recorded them, on its backup oscillator. -/
def State.moscAlarm (s : State) : State :=
  ((((((s.setPin 0 4 false).setPin 0 9 false).fireMp).notice 0 9).onFault fun f => { f with backup := true }).onPwr fun p =>
    { p with moscLost := true }).raiseMosc .valid

/-- The Time Core is LOST and the squelch in force. -/
def State.loseTime (s : State) : State :=
  if s.tc.ts = .lost then s.squelchStart else (s.onTc fun c => { c with lostByMosc := true }).setTiming .lost

theorem onMoscLoss_of_good {s : State} (hg : s.pwr.moscGood = true) (hl : s.pwr.moscLost = false) : onMoscLoss s = s.moscAlarm.loseTime.loopsHold := by
  rw [onMoscLoss, if_neg (by simp [hg, hl])]
  rfl

theorem onMoscLoss_of_lost {s : State} (h : s.pwr.moscGood = false ∨ s.pwr.moscLost = true) : onMoscLoss s = s := by
  rw [onMoscLoss, if_pos (by rcases h with h | h <;> simp [h])]

/-- The sources of a loss of MOSC as they are recorded. -/
def State.moscPins (s : State) : State := (s.setPin 0 4 false).setPin 0 9 false

theorem moscPins_alarms (s : State) : Alarms s s.moscPins := (setPin_alarms s 0 4 false).trans (setPin_alarms _ 0 9 false)

theorem moscPins_bits (s : State) : BitSet s.moscPins.fault.sticky 0 4 ∧ BitSet s.moscPins.fault.live 0 4 := by
  have hgrow := setPin_alarms (s.setPin 0 4 false) 0 9 false
  exact ⟨hgrow.sticky 0 4 (bitSet_set _ 0 (by decide)), hgrow.live 0 4 (bitSet_set _ 0 (by decide))⟩

theorem moscAlarm_fault (s : State) : s.moscAlarm.fault = { s.moscPins.fault with backup := true } := by
  unfold State.moscAlarm State.raiseMosc State.raise0
  rw [raise_fault]
  exact congrArg (fun f : FaultSt => { f with backup := true }) (fireMp_fault s.moscPins)

theorem moscAlarm_pwr (s : State) : s.moscAlarm.pwr = { s.pwr with moscLost := true } := by
  unfold State.moscAlarm State.raiseMosc State.raise0
  rw [raise_pwr]
  exact congrArg (fun u : State => { u.pwr with moscLost := true }) (fireMp_rest s.moscPins)

theorem moscAlarm_out (s : State) : s.moscAlarm.out = s.out := by
  unfold State.moscAlarm State.raiseMosc State.raise0
  rw [raise_out]
  exact (congrArg State.out (fireMp_rest s.moscPins) :)

theorem moscAlarm_pending (s : State) : s.moscAlarm.pending = s.pending := by
  unfold State.moscAlarm State.raiseMosc State.raise0
  rw [raise_pending]
  exact (congrArg State.pending (fireMp_rest s.moscPins) :)

theorem moscAlarm_recorded (s : State) : Recorded s s.moscAlarm := by
  refine ⟨?_, ?_, moscAlarm_pending s⟩
  · rw [moscAlarm_fault]
    exact (moscPins_alarms s).sticky
  · rw [moscAlarm_fault]
    rfl

theorem stampFree_follows (s : State) : Follows s s.stampFree := by
  unfold State.stampFree
  split
  · exact ⟨rfl, rfl, rfl, rfl⟩
  · exact ⟨rfl, rfl, rfl, rfl⟩

theorem stampFree_out (s : State) : s.stampFree.out = s.out := by
  unfold State.stampFree
  split <;> rfl

theorem hallDueAll_follows (s : State) : Follows s s.hallDueAll := ⟨rfl, rfl, rfl, rfl⟩

theorem setTiming_follows (s : State) (t : TimingState) : Follows s (s.setTiming t) := by
  unfold State.setTiming
  split
  · exact .refl s
  · extract_lets s1 s0 s2
    have h1 : Follows s s1 := ⟨rfl, rfl, rfl, rfl⟩
    have h0 : Follows s s0 := by
      unfold s0
      split
      · exact h1.trans (stampFree_follows s1)
      · exact h1
    have h2 : Follows s s2 := h0.trans ((raiseAll_quiet s0 _ _).follows.trans (hallDueAll_follows _))
    split
    · exact h2.trans (squelchStart_follows _)
    · exact h2.trans (followPins_follows _)

theorem loseTime_follows (s : State) : Follows s s.loseTime := by
  unfold State.loseTime
  split
  · exact squelchStart_follows _
  · exact Follows.trans (t := s.onTc _) ⟨rfl, rfl, rfl, rfl⟩ (setTiming_follows _ _)

/-- The way into LOST ends in a squelch of a state that is LOST, its outputs untouched. -/
theorem loseTime_squelched (s : State) : ∃ u : State, s.loseTime = u.squelchStart ∧ u.tc.ts = .lost ∧ u.out = s.out := by
  unfold State.loseTime
  split
  · next h => exact ⟨s, rfl, h, rfl⟩
  · next h =>
    unfold State.setTiming
    rw [if_neg (show ¬ (s.onTc fun c => { c with lostByMosc := true }).tc.ts = .lost from h)]
    extract_lets s1 s0 s2
    have h0 : s0 = s1.stampFree := if_pos rfl
    refine ⟨s2, if_pos rfl, ?_, ?_⟩
    · have htc : s2.tc = s1.tc := (raise_tc s0 _ _ _ 0).trans (h0 ▸ stampFree_tc s1)
      exact congrArg TcSt.ts htc
    · have hout : s2.out = s1.out := (raise_out s0 _ _ _ 0).trans (h0 ▸ stampFree_out s1)
      exact hout

theorem onMoscLoss_recorded (s : State) : Recorded s (onMoscLoss s) := by
  by_cases h : s.pwr.moscGood = true ∧ s.pwr.moscLost = false
  · rw [onMoscLoss_of_good h.1 h.2]
    exact (moscAlarm_recorded s).trans ((loseTime_follows _).trans (loopsHold_follows _)).recorded
  · rw [onMoscLoss_of_lost (by simpa [Classical.or_iff_not_imp_left] using h)]
    exact .refl s

/-! ### MOSC is good again (R30, R209, R494) -/

/-- The sources cleared and MOSC declared good, the collector on its own clock. -/
def State.moscReturn (s : State) : State :=
  (((((s.clearPin 0 4).clearPin 0 9).onFault fun f => { f with backup := false }).onPwr fun p => { p with moscGood := true, moscLost := false }).raiseMosc
    s.moscState).onTc fun c => { c with moscGoodAt := s.upNs }

theorem onMoscGood_of_bad {s : State} (h : s.timeClockGood = false) : onMoscGood s = s.moscReturn.startLoops.followPins := by
  rw [onMoscGood, if_neg (by simp [h])]
  rfl

theorem onMoscGood_of_good {s : State} (h : s.timeClockGood = true) : onMoscGood s = s := if_pos h

theorem moscReturn_fault (s : State) : s.moscReturn.fault = { ((s.clearPin 0 4).clearPin 0 9).fault with backup := false } := by
  unfold State.moscReturn State.raiseMosc State.raise0 State.onTc
  dsimp only
  rw [raise_fault]
  rfl

theorem moscReturn_pwr (s : State) : s.moscReturn.pwr = { s.pwr with moscGood := true, moscLost := false } := by
  unfold State.moscReturn State.raiseMosc State.raise0 State.onTc
  dsimp only
  rw [raise_pwr]
  rfl

theorem moscReturn_tc (s : State) : s.moscReturn.tc = { s.tc with moscGoodAt := s.upNs } := by
  unfold State.moscReturn State.raiseMosc State.raise0 State.onTc
  dsimp only
  rw [raise_tc]
  rfl

theorem moscReturn_out (s : State) : s.moscReturn.out = s.out := by
  unfold State.moscReturn State.raiseMosc State.raise0 State.onTc
  dsimp only
  rw [raise_out]
  rfl

theorem Settles.fault {s t : State} (h : Settles s t) : t.fault = s.fault := by rw [h.rest]

theorem onMoscGood_fault {s : State} (h : s.timeClockGood = false) :
    (onMoscGood s).fault = { ((s.clearPin 0 4).clearPin 0 9).fault with backup := false } := by
  rw [onMoscGood_of_bad h, (followPins_follows _).fault, (startLoops_settles _).fault, moscReturn_fault]

theorem onMoscGood_pwr {s : State} (h : s.timeClockGood = false) : (onMoscGood s).pwr = { s.pwr with moscGood := true, moscLost := false } := by
  rw [onMoscGood_of_bad h, (followPins_follows _).pwr, (startLoops_settles _).pwr, moscReturn_pwr]

theorem onMoscGood_timeCore {s : State} (h : s.timeClockGood = false) : (onMoscGood s).tc = { s.tc with moscGoodAt := s.upNs } := by
  rw [onMoscGood_of_bad h, followPins_tc, startLoops_tc, moscReturn_tc]

/-- An enabled loop in FREE_RUN starts when the time clock is good (R209). -/
theorem startLoops_loop {s : State} (hg : s.timeClockGood = true) {l : Nat} (hl : l < 8) (hen : (s.loop l).en = true) (hst : (s.loop l).st = .freeRun) :
    (s.startLoops.loop l).st = .acquiring := by
  obtain ⟨u, hpwr, hu, hend⟩ := foldl_loop (g := fun t k => if (t.loop k).en && (t.loop k).st = .freeRun && t.timeClockGood then t.setLoop k .acquiring else t)
    (K := fun t u => u.pwr = t.pwr) (fun _ => rfl) (fun h k => k.trans h) (l := l) (fun t k hk => by
      split
      · exact ⟨(setLoop_follows _ _ _).pwr, by rw [setLoop_loop, if_neg hk]⟩
      · exact ⟨rfl, rfl⟩) List.nodup_range (List.mem_range.2 hl) s
  have hgood : u.timeClockGood = true := (congrArg (fun x : PwrSt => x.moscGood && !x.moscLost) hpwr).trans hg
  rw [State.startLoops, hend, if_pos (by simp [hu, hen, hst, hgood]), setLoop_loop, if_pos rfl]

theorem onMoscGood_loop {s : State} (h : s.timeClockGood = false) {l : Nat} (hl : l < 8) (hen : (s.loop l).en = true) (hst : (s.loop l).st = .freeRun) :
    ((onMoscGood s).loop l).st = .acquiring := by
  have hout : s.moscReturn.loop l = s.loop l := (LoopsKept.of_out (moscReturn_out s)).loop l
  have hgood : s.moscReturn.timeClockGood = true := (congrArg (fun x : PwrSt => x.moscGood && !x.moscLost) (moscReturn_pwr s) :)
  rw [onMoscGood_of_bad h, (followPins_loops _).loop l]
  exact startLoops_loop hgood hl (hout ▸ hen) (hout ▸ hst)

/-! ### A pin reads no error again (R520, R526) -/

/-- Live bits may clear; what was recorded, what has latched and the timing state stay. -/
structure Cleared (s t : State) : Prop where
  live : BitsGrow t.fault.live s.fault.live
  sticky : t.fault.sticky = s.fault.sticky
  fatal : t.fault.fatal = s.fault.fatal
  timing : t.tc.ts = s.tc.ts

theorem Cleared.trans {s t u : State} (h : Cleared s t) (k : Cleared t u) : Cleared s u :=
  ⟨k.live.trans h.live, k.sticky.trans h.sticky, k.fatal.trans h.fatal, k.timing.trans h.timing⟩

theorem Cleared.of_fault {s t : State} (hf : t.fault = s.fault) (htc : t.tc.ts = s.tc.ts) : Cleared s t :=
  ⟨hf ▸ .refl _, hf ▸ rfl, hf ▸ rfl, htc⟩

theorem clearPin_cleared (s : State) (w b : Nat) : Cleared s (s.clearPin w b) := by
  refine ⟨?_, rfl, rfl, rfl⟩
  unfold State.clearPin State.onFault
  dsimp only
  split
  · exact bitsGrow_clear _ _ _
  · exact (bitsGrow_clear _ 15 w).trans (bitsGrow_clear _ w b)

theorem clearPin_bit (s : State) (w b : Nat) : ¬ BitSet (s.clearPin w b).fault.live w b := by
  intro h
  unfold State.clearPin State.onFault at h
  dsimp only at h
  split at h
  · exact not_bitSet_clear _ _ _ h
  · exact not_bitSet_clear _ _ _ (bitsGrow_clear _ _ _ _ _ h)

theorem onMoscGood_cleared (s : State) : Cleared s (onMoscGood s) := by
  by_cases h : s.timeClockGood = true
  · rw [onMoscGood_of_good h]
    exact .of_fault rfl rfl
  · rw [Bool.not_eq_true] at h
    obtain ⟨hlive, hsticky, hfatal, -⟩ := (clearPin_cleared s 0 4).trans (clearPin_cleared _ 0 9)
    refine ⟨?_, ?_, ?_, ?_⟩
    · rw [onMoscGood_fault h]
      exact hlive
    · rw [onMoscGood_fault h]
      exact hsticky
    · rw [onMoscGood_fault h]
      exact hfatal
    · rw [onMoscGood_timeCore h]

theorem dropCause_cleared (s : State) (code : Nat) : Cleared s (s.dropCause code) := by
  unfold State.dropCause
  split
  · extract_lets s1 s2
    have h1 : Cleared s s1 := ⟨.refl _, rfl, rfl, rfl⟩
    have h2 : Cleared s s2 := by
      unfold s2
      split
      · exact h1.trans (clearPin_cleared _ _ _)
      · exact h1
    have hraise : Cleared s2 (if s2.fault.causes.isEmpty then s2.raiseAll 0x0101 [fld 8 0, fld 16 code] else s2) := by
      split
      · exact .of_fault (raise_fault _ _ _ _ _) (by rw [State.raiseAll, raise_tc])
      · exact .of_fault rfl rfl
    exact h2.trans (hraise.trans (.of_fault (followHealth_fault _) (by rw [followHealth_tc])))
  · exact .of_fault rfl rfl

/-- The end of an error (R520, R526): the pin's live bit is clear, whatever else the end of this one brings. -/
theorem onErrorPinCleared_cleared {s : State} {w b : Nat} (h : sourceOk w b = true) : Cleared (s.clearPin w b) (onErrorPinCleared w b s) := by
  unfold onErrorPinCleared
  rw [if_neg (by simp [h])]
  extract_lets s1
  split
  · exact onMoscGood_cleared s1
  · split
    · exact ⟨.refl _, rfl, rfl, rfl⟩
    · split
      · exact .of_fault rfl rfl
      · split
        · exact dropCause_cleared s1 _
        · split
          · exact .of_fault rfl rfl
          · exact .of_fault (followPins_follows s1).fault (by rw [followPins_tc])

/-! ### A pin reads error (R518, R522) -/

/-- The leaves a report names, kept with those of its block (R517). -/
def State.noteLeaves (s : State) (w b : Nat) (r : PinReport) : State :=
  if r.leaves.isEmpty then s
  else s.onFault fun f => { f with leaves := f.leaves.upd [] (32 * w + b) fun l => (l ++ r.leaves).eraseDups }

theorem noteLeaves_rest (s : State) (w b : Nat) (r : PinReport) :
    s.noteLeaves w b r = { s with fault := { s.fault with leaves := (s.noteLeaves w b r).fault.leaves } } := by
  unfold State.noteLeaves
  split <;> rfl

/-- The report taken: the leaves of the block, the pin's bits and the MP's interrupt. -/
def State.pinned (s : State) (w b : Nat) (r : PinReport) : State := ((s.noteLeaves w b r).setPin w b r.wiring).fireMp

theorem pinned_rest (s : State) (w b : Nat) (r : PinReport) : s.pinned w b r =
    { s with fault := (s.pinned w b r).fault, mgmt := { s.mgmt with icu := (s.pinned w b r).mgmt.icu }, mbx := (s.pinned w b r).mbx } := by
  unfold State.pinned
  rw [fireMp_rest, setPin_rest]
  have hleaves := noteLeaves_rest s w b r
  generalize s.noteLeaves w b r = u at *
  rw [hleaves]

theorem pinned_kept (s : State) (w b : Nat) (r : PinReport) :
    (s.pinned w b r).tc = s.tc ∧ (s.pinned w b r).pending = s.pending ∧ (s.pinned w b r).ports = s.ports ∧ (s.pinned w b r).mgmt.log = s.mgmt.log := by
  have hrest := pinned_rest s w b r
  generalize s.pinned w b r = u at *
  refine ⟨?_, ?_, ?_, ?_⟩ <;> rw [hrest]

theorem pinned_fault (s : State) (w b : Nat) (r : PinReport) : (s.pinned w b r).fault = ((s.noteLeaves w b r).setPin w b r.wiring).fault := fireMp_fault _

theorem pinned_bits (s : State) {w b : Nat} (r : PinReport) (hb : b < 32) :
    BitSet (s.pinned w b r).fault.sticky w b ∧ BitSet (s.pinned w b r).fault.live w b := by
  rw [pinned_fault]
  have hset : ∀ t : Tab (BitVec 32), BitSet (if r.wiring = true then (t.upd 0 w (· ||| bitMask b)).upd 0 15 (· ||| bitMask w) else t.upd 0 w (· ||| bitMask b)) w b := by
    intro t
    split
    · exact bitsGrow_set _ _ _ _ _ (bitSet_set t w hb)
    · exact bitSet_set t w hb
  exact ⟨hset _, hset _⟩

theorem pinned_wiring (s : State) {w b : Nat} (r : PinReport) (hw : w < 32) (hx : r.wiring = true) : BitSet (s.pinned w b r).fault.sticky 15 w := by
  rw [pinned_fault]
  unfold State.setPin State.onFault
  simp only [hx, if_true]
  exact bitSet_set _ 15 hw

theorem pinned_leaves (s : State) (w b : Nat) (r : PinReport) {k : Nat} (hk : k ∈ r.leaves) : k ∈ (s.pinned w b r).fault.leaves.look [] (32 * w + b) := by
  have hne : r.leaves.isEmpty = false := by
    cases hl : r.leaves with
    | nil => simp [hl] at hk
    | cons _ _ => rfl
  rw [pinned_fault, State.noteLeaves, if_neg (by simp [hne])]
  unfold State.setPin State.onFault
  dsimp only
  rw [Tab.look_upd_self, List.mem_eraseDups]
  exact List.mem_append_right _ hk

theorem pinned_fatal (s : State) (w b : Nat) (r : PinReport) : (s.pinned w b r).fault.fatal = s.fault.fatal ∧ (s.pinned w b r).fault.causes = s.fault.causes := by
  have hleaves := congrArg State.fault (noteLeaves_rest s w b r)
  rw [pinned_fault, setPin_rest, hleaves]
  exact ⟨rfl, rfl⟩

/-- What a report does beyond the record, by its class (R522). -/
def State.react (u : State) (w b : Nat) : State :=
  match severityOf w b with
  | .fatal => u.latchFatal
  | .squelch => onMoscLoss u
  | .notice =>
    let v := u.notice w b
    if w = 15 then v.onPwr fun p => { p with vbatOk := false } else v.onFault fun f => { f with backup := true }
  | .contain => u.contain w b

theorem onErrorPinRaised_of_ok {s : State} {w b : Nat} (r : PinReport) (hok : sourceOk w b = true) (hq : s.leafQuiet w b = false) :
    onErrorPinRaised w b r s = (s.pinned w b r).react w b := by
  rw [onErrorPinRaised, if_neg (by simp [hok, hq])]
  rfl

theorem react_recorded (u : State) (w b : Nat) : Recorded u (u.react w b) := by
  unfold State.react
  split
  · exact latchFatal_recorded u
  · exact onMoscLoss_recorded u
  · extract_lets v
    have hv : Recorded u v := (dueFor_quiet _ _ _).follows.recorded
    split
    · exact hv.trans (.of_fault rfl rfl)
    · exact hv.trans ⟨.refl _, rfl, rfl⟩
  · exact contain_recorded u w b

theorem Alarms.hall {s t : State} (h : Alarms s t) : t.hall = s.hall := by rw [h.rest]

theorem Alarms.ports {s t : State} (h : Alarms s t) : t.ports = s.ports := by rw [h.rest]

theorem Alarms.fatal {s t : State} (h : Alarms s t) : t.fault.fatal = s.fault.fatal := by rw [h.fault]

/-- A fatal fault latches (R522, R525, R528). -/
theorem latchFatal_from (u : State) : FatalFrom u u.latchFatal := by
  have htc := latchFatal_tc u
  have hlatched := (squelchStart_follows (u.onFault fun f => { f with fatal := true })).fault
  have hwithdrawn := squelchStart_withdrawn (u.onFault fun f => { f with fatal := true })
  unfold State.latchFatal at htc ⊢
  generalize (u.onFault fun f => { f with fatal := true }).squelchStart = v at *
  have halarm := addCause_alarms v 0x0F00 true
  obtain ⟨hcauses, hreplace⟩ := addCause_fault v 0x0F00
  have hfatal : (v.addCause 0x0F00).fault.fatal = true := by rw [halarm.fatal, hlatched]; rfl
  refine ⟨hfatal, hreplace, hcauses, by rw [halarm.hall, hwithdrawn], htc, fun k _ ht => driverOn_of_squelched ?_ ht⟩
  rw [State.squelched, hfatal]
  rfl

theorem setPort_st (s : State) (p : Nat) (st : PortState) : ((s.setPort p st).port p).st = st := by
  unfold State.setPort
  extract_lets x s1 linked s2 s3 s4
  have h2 : (s2.port p).st = st := by
    rw [onPort_port_self]
    split <;> rfl
  have h3 : (s3.port p).st = st := by
    unfold s3
    split
    · rw [State.port, countPort_ports]
      exact h2
    · exact h2
  have h4 : (s4.port p).st = st := by
    rw [State.port, raise_ports]
    exact h3
  split
  · next h =>
    rw [onPort_port_self]
    exact h
  · split
    · exact h4
    · exact h4

/-- A port that fails (R261), by its state and what the collector shows. -/
theorem failPort_fails {u : State} {p : Nat} (h : (u.port p).st ≠ .disabled) :
    ((u.failPort p).port p).st = .failed ∧ BitsGrow u.fault.live (u.failPort p).fault.live ∧ (u.failPort p).fault.fatal = u.fault.fatal := by
  unfold State.failPort
  split
  · next hf =>
    have hfailed : (u.port p).st = .failed := by simpa [h] using hf
    exact ⟨hfailed, .refl _, rfl⟩
  · unfold State.portCause
    have hcause := addCause_alarms (u.setPort p .failed) (0x0300 + p) true
    have hport := (setPort_follows u p .failed).fault
    have hlog := (log_settles ((u.setPort p .failed).addCause (0x0300 + p)) 0x2080 2 p []).fault
    refine ⟨?_, ?_, ?_⟩
    · have hports : (((u.setPort p .failed).addCause (0x0300 + p)).log 0x2080 2 p).ports = (u.setPort p .failed).ports := hcause.ports
      rw [State.port, hports]
      exact setPort_st u p .failed
    · rw [hlog, ← hport]
      exact hcause.live
    · rw [hlog, hcause.fatal, hport]

theorem sourceOk_bit {w b : Nat} (h : sourceOk w b = true) : w < 16 ∧ b < 32 := by
  simp only [sourceOk, Bool.or_eq_true, Bool.and_eq_true, decide_eq_true_eq] at h
  omega

/-- The pin of a port is that of its place in FSW04-FSW11 (R519). -/
theorem port_source {p : Nat} (hp : p < 256) : sourceOk (4 + p / 32) (p % 32) = true ∧ severityOf (4 + p / 32) (p % 32) = .contain ∧
    ∀ u : State, u.contain (4 + p / 32) (p % 32) = u.failPort p := by
  have hw : 4 + p / 32 ≤ 11 := by omega
  have hb : p % 32 < 32 := Nat.mod_lt _ (by decide)
  refine ⟨?_, ?_, fun u => ?_⟩
  · simp only [sourceOk, Bool.or_eq_true, Bool.and_eq_true, decide_eq_true_eq]
    omega
  · have h15 : 4 + p / 32 ≠ 15 := by omega
    simp [severityOf, h15]
  · have h1 : 4 + p / 32 ≠ 1 := by omega
    have hplace : 32 * (p / 32) + p % 32 = p := Nat.div_add_mod p 32
    simp [State.contain, h1, hw, hplace]

/-! ### A bank of the MRAM (R502) -/

theorem onFault_staging (s : State) (f : FaultSt → FaultSt) : Staging s (s.onFault f) := Eq.refl s.mgmt

theorem latchFatal_staging (s : State) : Staging s s.latchFatal :=
  (onFault_staging s fun f => { f with fatal := true }).trans ((squelchStart_follows _).staging.trans (addCause_alarms _ _ _).staging)

theorem declareFatal_staging (s : State) : Staging s s.declareFatal :=
  ((setPin_alarms s 15 29 false).trans (fireMp_alarms _)).staging.trans (latchFatal_staging _)

theorem Staging.log {s t : State} (h : Staging s t) : t.mgmt.log = s.mgmt.log := by
  unfold Staging at h
  rw [h]

theorem Staging.banks {s t : State} (h : Staging s t) : t.mgmt.banks = s.mgmt.banks := by
  unfold Staging at h
  rw [h]

/-- A bank whose pin reads error is read-only, and the log ring stays as it is. -/
theorem bankOut_readOnly (s : State) (n : Nat) : ((s.bankOut n).mgmt.banks.look {} n).readOnly = true ∧ (s.bankOut n).mgmt.log = s.mgmt.log := by
  unfold State.bankOut
  split
  · next h => exact ⟨h, rfl⟩
  · extract_lets s1
    have h1 : Staging (s.onMgmt fun m => { m with banks := m.banks.upd {} n fun b => { b with readOnly := true } }) s1 := (addCause_alarms _ _ _).staging
    have hend : ∀ t, Staging s1 t → (t.mgmt.banks.look {} n).readOnly = true ∧ t.mgmt.log = s.mgmt.log := by
      intro t ht
      have hall := h1.trans ht
      refine ⟨?_, hall.log⟩
      rw [hall.banks]
      dsimp only [State.onMgmt]
      rw [Tab.look_upd_self]
    split
    · exact hend _ (declareFatal_staging s1)
    · exact hend _ rfl

theorem bank_source {n : Nat} (hn : n < 4) : sourceOk 14 (25 + n) = true ∧ severityOf 14 (25 + n) = .contain ∧
    ∀ u : State, u.contain 14 (25 + n) = u.bankOut n := by
  refine ⟨?_, ?_, fun u => ?_⟩
  · simp only [sourceOk, Bool.or_eq_true, Bool.and_eq_true, decide_eq_true_eq]
    omega
  · simp [severityOf]
  · have h16 : ¬ 25 + n < 16 := by omega
    have h18 : ¬ 25 + n < 18 := by omega
    have he : ¬ 25 + n = 18 := by omega
    have h23 : ¬ 25 + n < 23 := by omega
    have hmp : ¬ 25 + n = 23 := by omega
    have h28 : 25 + n ≤ 28 := by omega
    simp [State.contain, h16, h18, he, h23, hmp, h28]

theorem react_of_contain {u : State} {w b : Nat} (h : severityOf w b = .contain) : u.react w b = u.contain w b := by
  simp only [State.react, h]

theorem react_of_fatal {u : State} {w b : Nat} (h : severityOf w b = .fatal) : u.react w b = u.latchFatal := by
  simp only [State.react, h]

/-- The pin of VBAT is only noted (R522, R557). -/
theorem react_vbat (u : State) : u.react 15 23 = (u.notice 15 23).onPwr fun p => { p with vbatOk := false } := rfl

theorem SendingOnly.out {s t : State} (h : SendingOnly s t) : t.out = s.out := by
  unfold SendingOnly at h
  rw [h]

theorem squelchStart_loops (s : State) : LoopsKept s s.squelchStart :=
  LoopsKept.trans (t := s.silence) (.of_out rfl) ((followPins_loops _).trans (.of_out (squelchStart_ends s).out))

/-- What MOSC's loss leaves (R30, R65, R525). -/
theorem onMoscLoss_lost {s : State} (hg : s.pwr.moscGood = true) (hl : s.pwr.moscLost = false) :
    (onMoscLoss s).fault = { s.moscPins.fault with backup := true } ∧ (onMoscLoss s).pwr = { s.pwr with moscLost := true } ∧
      (onMoscLoss s).tc.ts = .lost ∧ (onMoscLoss s).hall.withdrawn = true ∧
      ∀ l, l < 8 → (s.loop l).st = .locked ∨ (s.loop l).st = .acquiring → ((onMoscLoss s).loop l).st = .holdover := by
  rw [onMoscLoss_of_good hg hl]
  have hend := (loseTime_follows s.moscAlarm).trans (loopsHold_follows _)
  obtain ⟨u, hu, hts, hout⟩ := loseTime_squelched s.moscAlarm
  have hfault := hend.fault.trans (moscAlarm_fault s)
  have hpwr := hend.pwr.trans (moscAlarm_pwr s)
  have hkept : LoopsKept s u.squelchStart := (LoopsKept.of_out (hout.trans (moscAlarm_out s))).trans (squelchStart_loops u)
  have hwithdrawn := squelchStart_withdrawn u
  have htc := squelchStart_tc u
  rw [hu] at hfault hpwr ⊢
  generalize u.squelchStart = v at *
  refine ⟨hfault, hpwr, ?_, ?_, fun l h8 hst => loopsHold_loop v h8 ?_⟩
  · rw [loopsHold_tc, htc, hts]
  · rw [loopsHold_withdrawn v, hwithdrawn]
  · rw [hkept.loop l]
    exact hst

/-- Settles O44: each report and each end of an error by its class, MOSC by what the collector, the Time Core and the loops do. -/
theorem faultCollector : Obligations.FaultCollector := by
  unfold Obligations.FaultCollector
  refine ⟨fun s w b x l ha hok hm => ?raised, fun s p x l ha hp hst => ?port, fun s n x l ha hn => ?bank, fun s x l ha => ?vbat,
    fun s w b x l ha hok => ?unassigned, fun s w b ha hok => ?cleared, fun s w b ha hok => ?nothing, fun s ha hg hl => ?lost,
    fun s ha h => ?notLost, fun s ha h => ?good, fun s ha hg hl => ?wasGood⟩
  case raised =>
    refine Does.of_alive rfl ha ?_
    have hmtc := onErrorPinRaised_mtc w b { wiring := x, leaves := l } s
    rw [onErrorPinRaised_of_ok _ hok (by simp [State.leafQuiet, hm])] at hmtc ⊢
    obtain ⟨hw, hb⟩ := sourceOk_bit hok
    obtain ⟨hsticky, hleaves, hpending⟩ := react_recorded (s.pinned w b { wiring := x, leaves := l }) w b
    obtain ⟨htcKept, hpendingKept, -, -⟩ := pinned_kept s w b { wiring := x, leaves := l }
    refine ⟨hsticky w b (pinned_bits s _ hb).1, fun hx => hsticky 15 w (pinned_wiring s _ (by omega) hx), fun hf => ?_, hmtc, ?_, fun k hk => ?_⟩
    · obtain ⟨hfatal, hreplace, hcauses, hwithdrawn, htc, hdrivers⟩ := latchFatal_from (s.pinned w b { wiring := x, leaves := l })
      rw [react_of_fatal hf]
      exact ⟨hfatal, hreplace, hcauses, hwithdrawn, htc.trans htcKept, hdrivers⟩
    · exact hpending.trans hpendingKept
    · rw [hleaves]
      exact pinned_leaves s w b _ hk
  case port =>
    refine Does.of_alive rfl ha ?_
    obtain ⟨hok, hsev, hcontain⟩ := port_source hp
    have hquiet : s.leafQuiet (4 + p / 32) (p % 32) = false := by simp [State.leafQuiet]
    rw [onErrorPinRaised_of_ok _ hok hquiet, react_of_contain hsev, hcontain]
    obtain ⟨htc, -, hports, -⟩ := pinned_kept s (4 + p / 32) (p % 32) { wiring := x, leaves := l }
    have hbits := pinned_bits s (w := 4 + p / 32) { wiring := x, leaves := l } (Nat.mod_lt p (by decide))
    have hfatal := (pinned_fatal s (4 + p / 32) (p % 32) { wiring := x, leaves := l }).1
    generalize s.pinned (4 + p / 32) (p % 32) { wiring := x, leaves := l } = u at *
    have hport : u.port p = s.port p := congrArg (fun x : PortsSt => x.ports.look {} p) hports
    obtain ⟨hfailed, hlive, hkept⟩ := failPort_fails (u := u) (p := p) (by rwa [hport])
    exact ⟨hfailed, hlive _ _ hbits.2, hkept.trans hfatal, (failPort_tc u p).trans htc⟩
  case bank =>
    refine Does.of_alive rfl ha ?_
    obtain ⟨hok, hsev, hcontain⟩ := bank_source hn
    have hmtc := onErrorPinRaised_mtc 14 (25 + n) { wiring := x, leaves := l } s
    rw [onErrorPinRaised_of_ok _ hok (by simp [State.leafQuiet]), react_of_contain hsev, hcontain] at hmtc ⊢
    obtain ⟨-, -, -, hlogKept⟩ := pinned_kept s 14 (25 + n) { wiring := x, leaves := l }
    obtain ⟨hreadOnly, hlog⟩ := bankOut_readOnly (s.pinned 14 (25 + n) { wiring := x, leaves := l }) n
    exact ⟨hreadOnly, hlog.trans hlogKept, hmtc⟩
  case vbat =>
    refine Does.of_alive rfl ha ?_
    rw [onErrorPinRaised_of_ok _ rfl (by simp [State.leafQuiet]), react_vbat]
    have hrest := pinned_rest s 15 23 { wiring := x, leaves := l }
    obtain ⟨hfatal, hcauses⟩ := pinned_fatal s 15 23 { wiring := x, leaves := l }
    generalize s.pinned 15 23 { wiring := x, leaves := l } = u at *
    refine ⟨?_, hfatal, hcauses⟩
    rw [hrest]
    rfl
  case unassigned =>
    refine Does.of_alive rfl ha ?_
    rw [onErrorPinRaised, if_pos (by simp [hok])]
  case cleared =>
    refine Does.of_alive rfl ha ?_
    obtain ⟨hlive, hsticky, hfatal, htiming⟩ := (onErrorPinCleared_cleared (s := s) hok)
    have hclear := clearPin_cleared s w b
    refine ⟨?_, hsticky.trans hclear.sticky, hfatal.trans hclear.fatal, htiming.trans hclear.timing, onErrorPinCleared_mtc w b s⟩
    exact Bool.eq_false_of_not_eq_true fun h => clearPin_bit s w b (hlive w b h)
  case nothing =>
    refine Does.of_alive rfl ha ?_
    rw [onErrorPinCleared, if_pos (by simp [hok])]
  case lost =>
    refine Does.of_alive rfl ha ?_
    obtain ⟨hfault, hpwr, hts, hwithdrawn, hloops⟩ := onMoscLoss_lost hg hl
    obtain ⟨hsticky, hlive⟩ := moscPins_bits s
    have hlive' : BitSet (onMoscLoss s).fault.live 0 4 := by
      rw [hfault]
      exact hlive
    refine ⟨hts, onMoscLoss_mtc s, hpwr, ?_, hlive', ?_, hwithdrawn, ?_, hloops, fun k _ ht => driverOn_of_squelched ?_ ht⟩
    · rw [hfault]
    · rw [hfault]
      exact hsticky
    · rw [hfault]
      rfl
    · simp [State.squelched, hts]
  case notLost => exact Does.of_alive rfl ha (onMoscLoss_of_lost h)
  case good =>
    refine Does.of_alive rfl ha ?_
    have hpin := (clearPin_cleared s 0 4).trans (clearPin_cleared _ 0 9)
    have hbit : ¬ BitSet ((s.clearPin 0 4).clearPin 0 9).fault.live 0 4 := fun hset => clearPin_bit s 0 4 ((clearPin_cleared _ 0 9).live _ _ hset)
    refine ⟨onMoscGood_pwr h, ?_, ?_, ?_, onMoscGood_timeCore h, fun l hl hen hst => onMoscGood_loop h hl hen hst⟩
    · rw [onMoscGood_fault h]
    · rw [onMoscGood_fault h]
      exact Bool.eq_false_of_not_eq_true hbit
    · rw [onMoscGood_fault h]
      exact hpin.sticky
  case wasGood => exact Does.of_alive rfl ha (onMoscGood_of_good (by simp [State.timeClockGood, hg, hl]))

end Sys2Proof.Machine
end

section

/-! ### Pair states, lanes and the partner (R413-R440) -/

namespace Sys2Proof.Machine

/-- What moves with the pair state: state, claim, wires and role, outputs and records due, events and their log. -/
structure PairMoves (s t : State) : Prop where
  frame : PairFrame s t
  calm : Calm s t
  clasp : t.clasp = { s.clasp with
    st := t.clasp.st, role := t.clasp.role, frozenPair := t.clasp.frozenPair, fit := t.clasp.fit, partnerFit := t.clasp.partnerFit
    stepRun := t.clasp.stepRun, trim := t.clasp.trim, wires := t.clasp.wires, silentAt := t.clasp.silentAt, claim := t.clasp.claim, frame := t.clasp.frame }

theorem PairMoves.refl (s : State) : PairMoves s s := ⟨rfl, .refl s, rfl⟩

theorem PairFrame.trans {s t u : State} (h : PairFrame s t) (k : PairFrame t u) : PairFrame s u := by
  unfold PairFrame at *
  rw [k, h]

theorem PairMoves.trans {s t u : State} (h : PairMoves s t) (k : PairMoves t u) : PairMoves s u := by
  refine ⟨PairFrame.trans h.frame k.frame, h.calm.trans k.calm, ?_⟩
  rw [k.clasp, h.clasp]

/-- A change of the pair's own state. -/
theorem PairMoves.of_eq {s t : State} (h : t = { s with clasp := t.clasp, hall := t.hall, out := { s.out with pins := t.out.pins }, keys := { s.keys with conns := t.keys.conns } })
    (hc : t.clasp = { s.clasp with
      st := t.clasp.st, role := t.clasp.role, frozenPair := t.clasp.frozenPair, fit := t.clasp.fit, partnerFit := t.clasp.partnerFit
      stepRun := t.clasp.stepRun, trim := t.clasp.trim, wires := t.clasp.wires, silentAt := t.clasp.silentAt, claim := t.clasp.claim, frame := t.clasp.frame }) :
    PairMoves s t := by
  refine ⟨?_, (Calm.refl s).rest ?_ ?_ ?_, hc⟩
  · rw [PairFrame, h]
  · rw [h]
  · rw [h]
  · rw [h]

theorem raise_moves (s : State) (bs : List Nat) (c : Nat) (d : Rec) (v : Nat) : PairMoves s (s.raise bs c d v) := by
  refine ⟨?_, (Calm.refl s).raise _ _ _ _, ?_⟩
  · rw [PairFrame, raise_rest]
  · rw [raise_clasp]

/-- Only events that fall due, vectors, change counts and the log move in the mailboxes (R457, R466). -/
theorem Calm.queuesKept {s t : State} (h : Calm s t) : QueuesKept s t := by
  refine ⟨h.mbx, fun b => ?_⟩
  rw [h.fns b]
  exact ⟨rfl, rfl, rfl, rfl⟩

/-- A change of pair state (R415). -/
theorem setPair_moves (s : State) (p : PairState) : PairMoves s (s.setPair p) := by
  unfold State.setPair
  split
  · exact .refl s
  · extract_lets was s1 s2
    have h2 : PairMoves s s2 := .trans (t := s1) (.of_eq rfl rfl) (raise_moves _ _ _ _ _)
    split
    · exact h2
    · split
      · exact h2.trans (.of_eq rfl rfl)
      · exact h2.trans (.of_eq rfl rfl)

theorem setPair_clasp (s : State) (p : PairState) : (s.setPair p).clasp.st = p ∧ (s.setPair p).clasp.wires = s.clasp.wires ∧
    (s.setPair p).clasp.role = s.clasp.role := by
  unfold State.setPair
  split
  · next h => exact ⟨h, rfl, rfl⟩
  · extract_lets was s1 s2
    have h2 : s2.clasp = { s.clasp with st := p } := raise_clasp s1 _ _ _ _
    split
    · rw [h2]
      exact ⟨rfl, rfl, rfl⟩
    · split
      · simp [State.hallDue, State.onHall, State.onClasp, h2]
      · simp [State.hallWiden, State.hallDue, State.onHall, State.onClasp, h2]

/-- ROLE changes (R420, R437). -/
theorem setRole_moves (s : State) (r : Bool) : PairMoves s (s.setRole r) := by
  unfold State.setRole
  split
  · exact .refl s
  · extract_lets s0 s1
    have h0 : PairMoves s s0 := by
      unfold s0
      split
      · exact .refl s
      · exact .of_eq rfl rfl
    have h1 : PairMoves s s1 := h0.trans (.of_eq rfl rfl)
    exact h1.trans (raise_moves s1 _ _ _ _)

theorem setRole_clasp (s : State) (r : Bool) : (s.setRole r).clasp = { s.clasp with role := r } := by
  unfold State.setRole
  split
  · next h => rw [← h]
  · extract_lets s0 s1
    have h1 : s1.clasp = { s.clasp with role := r } := by
      unfold s1 s0
      split <;> rfl
    exact (raise_clasp s1 _ _ _ _).trans h1

/-! ### The claim (R417-R420) -/

/-- The wires weighed: both records published, and the claims compared. -/
def State.weighClaims (s : State) : State :=
  let u := s.onClasp fun c => { c with fit := c.fit || (s.ownFit && c.partnerFit) }
  u.onClasp fun c => { c with wires := u.wiresHeld, silentAt := if c.wires && !u.wiresHeld then some u.tc.mtc.cyc else c.silentAt }

/-- The pair state and ROLE after the comparison. -/
def State.followWires (s : State) : State :=
  if s.clasp.st = .active && !s.clasp.wires then (s.setPair .standby).setRole false
  else if s.clasp.st = .standby && s.clasp.wires then (s.setPair .active).setRole true
  else if s.clasp.st = .alone || s.clasp.st = .off then s.setRole (s.clasp.wires || s.clasp.st = .off)
  else s.setRole false

/-- The claim of this unit, its outputs and its claim frame follow. -/
def State.announceClaim (s : State) : State :=
  ((s.onClasp fun c => { c with claim := claimWord s.fitness s.clasp.role s.pwr.pairId }).followPins).sendClaim

theorem reclaim_eq (s : State) : s.reclaim = s.weighClaims.followWires.announceClaim := rfl

theorem weighClaims_moves (s : State) : PairMoves s s.weighClaims := .of_eq rfl rfl

theorem weighClaims_clasp (s : State) : s.weighClaims.clasp.st = s.clasp.st ∧
    s.weighClaims.clasp.wires = (s.onClasp fun c => { c with fit := c.fit || (s.ownFit && c.partnerFit) }).wiresHeld := ⟨rfl, rfl⟩

theorem followWires_moves (s : State) : PairMoves s s.followWires := by
  unfold State.followWires
  split
  · exact (setPair_moves _ _).trans (setRole_moves _ _)
  · split
    · exact (setPair_moves _ _).trans (setRole_moves _ _)
    · split
      · exact setRole_moves _ _
      · exact setRole_moves _ _

theorem followPin_moves (s : State) (key : Nat) : PairMoves s (s.followPin key) := by
  unfold State.followPin
  extract_lets o held tb gen st cfg o1 s1
  have h1 : PairMoves s s1 := by
    unfold s1
    split
    · exact .refl s
    · exact .of_eq rfl rfl
  split
  · exact h1
  · exact h1.trans (.of_eq rfl rfl)

theorem followPins_moves (s : State) : PairMoves s s.followPins := foldl_relates .refl .trans followPin_moves _ _

theorem followPin_clasp (s : State) (key : Nat) : (s.followPin key).clasp = s.clasp := by
  unfold State.followPin
  extract_lets o held tb gen st cfg o1 s1
  have h1 : s1.clasp = s.clasp := by
    unfold s1
    split <;> rfl
  split <;> exact h1

theorem followPins_clasp (s : State) : s.followPins.clasp = s.clasp :=
  foldl_relates (R := fun s t => t.clasp = s.clasp) (fun _ => rfl) (fun h k => k.trans h) followPin_clasp _ _

theorem sendClaim_moves (s : State) : PairMoves s s.sendClaim := .of_eq rfl rfl

theorem announceClaim_moves (s : State) : PairMoves s s.announceClaim := by
  have hclaim : PairMoves s (s.onClasp fun c => { c with claim := claimWord s.fitness s.clasp.role s.pwr.pairId }) := .of_eq rfl rfl
  exact hclaim.trans ((followPins_moves _).trans (sendClaim_moves _))

theorem announceClaim_clasp (s : State) : s.announceClaim.clasp.st = s.clasp.st ∧ s.announceClaim.clasp.role = s.clasp.role ∧
    s.announceClaim.clasp.wires = s.clasp.wires := by
  unfold State.announceClaim State.sendClaim
  dsimp only [State.onClasp]
  rw [followPins_clasp]
  exact ⟨rfl, rfl, rfl⟩

theorem reclaim_moves (s : State) : PairMoves s s.reclaim := by
  rw [reclaim_eq]
  exact (weighClaims_moves s).trans ((followWires_moves _).trans (announceClaim_moves _))

/-- A unit that is alone serves where it holds the wires (R415, R420). -/
theorem reclaim_alone {s : State} (h : s.clasp.st = .alone) : s.reclaim.clasp.st = .alone ∧ s.reclaim.clasp.role = s.reclaim.clasp.wires := by
  obtain ⟨hst, hrole, hwires⟩ := announceClaim_clasp s.weighClaims.followWires
  obtain ⟨hold, -⟩ := weighClaims_clasp s
  rw [reclaim_eq, hst, hrole, hwires]
  generalize s.weighClaims = u at *
  have hu : u.clasp.st = .alone := hold.trans h
  have hrole : u.followWires = u.setRole u.clasp.wires := by simp [State.followWires, hu]
  rw [hrole, setRole_clasp]
  exact ⟨hu, rfl⟩

/-- A unit that seeks, transfers or stands by unpaired has no fitness, and so neither wires nor ROLE (R417, R420). -/
theorem reclaim_unfit {s : State} (h : s.clasp.st = .seeking ∨ s.clasp.st = .unpairedStandby ∨ s.clasp.st = .transfer) :
    s.reclaim.clasp.st = s.clasp.st ∧ s.reclaim.clasp.wires = false ∧ s.reclaim.clasp.role = false := by
  obtain ⟨hst, hrole, hwires⟩ := announceClaim_clasp s.weighClaims.followWires
  obtain ⟨hold, hheld⟩ := weighClaims_clasp s
  have hno : s.weighClaims.clasp.wires = false := by
    rw [hheld, State.wiresHeld]
    generalize hu : s.onClasp (fun c => { c with fit := c.fit || (s.ownFit && c.partnerFit) }) = u
    have hust : u.clasp.st = s.clasp.st := by rw [← hu]; rfl
    have hzero : u.fitness = 0 := by rcases h with h | h | h <;> simp [State.fitness, hust, h]
    rcases h with h | h | h <;> simp [hzero, hust, h]
  rw [reclaim_eq, hst, hrole, hwires]
  generalize s.weighClaims = u at *
  have hfollow : u.followWires = u.setRole false := by
    rcases h with h | h | h <;> simp [State.followWires, hold, h]
  rw [hfollow, setRole_clasp]
  exact ⟨hold, hno, rfl⟩

/-- An ACTIVE unit that loses the wires stands by (R420). -/
theorem reclaim_active {s : State} (h : s.clasp.st = .active) : s.reclaim.clasp.st = if s.reclaim.clasp.wires = true then .active else .standby := by
  obtain ⟨hst, -, hwires⟩ := announceClaim_clasp s.weighClaims.followWires
  obtain ⟨hold, -⟩ := weighClaims_clasp s
  rw [reclaim_eq, hst, hwires]
  generalize s.weighClaims = u at *
  have hu : u.clasp.st = .active := hold.trans h
  unfold State.followWires
  cases hw : u.clasp.wires with
  | false =>
    obtain ⟨hp, hkept, -⟩ := setPair_clasp u .standby
    simp [hu, setRole_clasp, hp, hkept, hw]
  | true => simp [hu, setRole_clasp, hw]

end Sys2Proof.Machine
end

section

/-! ### What the partner brings (R413-R416, R433, R440, R442) -/

namespace Sys2Proof.Machine

/-! ### Acknowledged changes (R433) -/

/-- Only mailboxes, log staging and Loupe counters moved, as a completion moves them. -/
def Reports (s t : State) : Prop := t = { s with mbx := t.mbx, mgmt := t.mgmt, loupe := t.loupe }

theorem Reports.refl (s : State) : Reports s s := Eq.refl s

theorem Reports.trans {s t u : State} (h : Reports s t) (k : Reports t u) : Reports s u := by
  unfold Reports at *
  rw [k, h]

theorem Quiet.reports {s t : State} (h : Quiet s t) : Reports s t := h.rest

theorem completeOne_reports (b q seq tag : Nat) (status : Status) (staged : Bool) (result xb : Rec) (s : State) :
    Reports s (completeOne b q seq tag status staged result xb s) := by
  unfold completeOne
  extract_lets f c s1 s2 s3
  have h2 : Reports s s2 := rfl
  have h3 : Reports s s3 := h2.trans (((announce_quiet _ _ _).trans (countBezel_quiet _ _ _)).reports)
  split
  · exact h3
  · exact h3.trans (countBezel_quiet _ _ _).reports

theorem settle_reports (b q n : Nat) (s : State) : Reports s (settle b q n s) := by
  induction n generalizing s with
  | zero => exact .refl s
  | succ k ih =>
    unfold settle
    split
    · exact .refl s
    · split
      · exact (completeOne_reports _ _ _ _ _ _ _ _ _).trans (ih _)
      · exact .refl s

theorem complete_reports (b q seq tag : Nat) (status : Status) (staged : Bool) (result xb : Rec) (s : State) :
    Reports s (complete b q seq tag status staged result xb s) :=
  (completeOne_reports _ _ _ _ _ _ _ _ _).trans (settle_reports _ _ _ _)

/-- A change that the partner has acknowledged, or that no partner need acknowledge any more. -/
def MirrorItem.acknowledge (now : Nat) (x : MirrorItem) : MirrorItem := if x.acked then x else { x with acked := true, ackAt := now }

theorem MirrorItem.acknowledge_acked (now : Nat) (x : MirrorItem) : (x.acknowledge now).acked = true := by
  unfold MirrorItem.acknowledge
  split
  · next h => exact h
  · rfl

theorem MirrorItem.acknowledge_cmds (now : Nat) (x : MirrorItem) : (x.acknowledge now).cmds = x.cmds := by
  unfold MirrorItem.acknowledge
  split <;> rfl

/-- One change of the list as it is acknowledged, with the count of acknowledgements that are left. -/
def ackOne (now : Nat) (acc : Nat × List MirrorItem) (x : MirrorItem) : Nat × List MirrorItem :=
  if x.acked || acc.1 = 0 then (acc.1, acc.2 ++ [x]) else (acc.1 - 1, acc.2 ++ [{ x with acked := true, ackAt := now }])

/-- The acknowledged list of the model. -/
theorem ackMirror_eq (n : Nat) (s : State) : ackMirror n s =
    ((s.clasp.mirror.filter fun x => !x.acked).take n).foldl (fun t x => match x.done with
      | none => t
      | some (b, q, seq, tag) => complete b q seq tag .ok false x.result x.xb t)
      (s.onClasp fun c => { c with mirror := (c.mirror.foldl (ackOne s.upNs) (n, [])).2 }) := rfl

theorem ackAll_foldl (now : Nat) (l : List MirrorItem) (n : Nat) (acc : List MirrorItem) (h : l.length ≤ n) :
    (l.foldl (ackOne now) (n, acc)).2 = acc ++ l.map (MirrorItem.acknowledge now) := by
  induction l generalizing n acc with
  | nil => simp
  | cons x r ih =>
    simp only [List.length_cons] at h
    rw [List.foldl_cons]
    cases hx : x.acked with
    | true =>
      have hone : ackOne now (n, acc) x = (n, acc ++ [x]) := by simp [ackOne, hx]
      rw [hone, ih n _ (by omega)]
      simp [MirrorItem.acknowledge, hx]
    | false =>
      have hn : n ≠ 0 := by omega
      have hone : ackOne now (n, acc) x = (n - 1, acc ++ [{ x with acked := true, ackAt := now }]) := by simp [ackOne, hx, hn]
      rw [hone, ih (n - 1) _ (by omega)]
      simp [MirrorItem.acknowledge, hx]

theorem ackNone_foldl (now : Nat) (l acc : List MirrorItem) : (l.foldl (ackOne now) (0, acc)).2 = acc ++ l := by
  induction l generalizing acc with
  | nil => simp
  | cons x r ih =>
    have hone : ackOne now (0, acc) x = (0, acc ++ [x]) := by simp [ackOne]
    rw [List.foldl_cons, hone, ih]
    simp

/-- No acknowledgement changes nothing. -/
theorem ackMirror_zero (s : State) : ackMirror 0 s = s := by
  rw [ackMirror_eq, List.take_zero, List.foldl_nil, State.onClasp]
  simp only [ackNone_foldl, List.nil_append]

theorem ackMirror_reports (n : Nat) (s : State) :
    Reports (s.onClasp fun c => { c with mirror := (c.mirror.foldl (ackOne s.upNs) (n, [])).2 }) (ackMirror n s) := by
  rw [ackMirror_eq]
  refine foldl_relates .refl .trans (fun t x => ?_) _ _
  split
  · exact .refl t
  · exact complete_reports _ _ _ _ _ _ _ _ _

/-! ### The partner is gone (R415, R433) -/

/-- What is known of the partner ends with it, and every waiting change may take effect. -/
def State.partnerAway (s : State) : State :=
  (ackMirror s.clasp.mirror.length s).onClasp fun c => { c with
    authed := false, pairable := false, matchRun := 0, gotMeas := false, partnerFit := false
    mirror := c.mirror.map fun (x : MirrorItem) => { x with ackAt := 0 } }

theorem partnerAway_reports (s : State) : Reports (s.onClasp fun c => { c with
    authed := false, pairable := false, matchRun := 0, gotMeas := false, partnerFit := false
    mirror := c.mirror.map fun x => { x.acknowledge s.upNs with ackAt := 0 } }) s.partnerAway := by
  have hack := ackMirror_reports s.clasp.mirror.length s
  unfold State.partnerAway
  generalize ackMirror s.clasp.mirror.length s = t at *
  unfold Reports State.onClasp at *
  rw [hack]
  simp only [ackAll_foldl _ _ _ _ (Nat.le_refl _), List.nil_append, List.map_map]
  rfl

theorem partnerAway_clasp (s : State) : s.partnerAway.clasp = { s.clasp with
    authed := false, pairable := false, matchRun := 0, gotMeas := false, partnerFit := false
    mirror := s.clasp.mirror.map fun x => { x.acknowledge s.upNs with ackAt := 0 } } := by
  have h := partnerAway_reports s
  unfold Reports at h
  rw [h]
  rfl

/-- Where no change waits, no command completes. -/
theorem partnerAway_of_none {s : State} (h : s.clasp.mirror = []) :
    s.partnerAway = s.onClasp fun c => { c with authed := false, pairable := false, matchRun := 0, gotMeas := false, partnerFit := false } := by
  unfold State.partnerAway
  rw [h, List.length_nil, ackMirror_zero, State.onClasp, State.onClasp]
  simp only [h, List.map_nil]

/-- A pair dissolves (R415). -/
theorem partnerGone_of_paired {s : State} (h : s.clasp.st = .active ∨ s.clasp.st = .standby) :
    s.partnerGone = ((s.partnerAway.setPair .alone).setRole true).reclaim := by
  have hst := (setPair_clasp s.partnerAway .alone).1
  unfold State.partnerGone
  rcases h with h | h
  · rw [h]
    exact congrArg State.reclaim (if_pos hst)
  · rw [h]
    exact congrArg State.reclaim (if_pos hst)

/-- A transfer ends (R415). -/
theorem partnerGone_of_transfer {s : State} (h : s.clasp.st = .transfer) : s.partnerGone = (s.partnerAway.setPair .seeking).reclaim := by
  have hst := (setPair_clasp s.partnerAway .seeking).1
  unfold State.partnerGone
  rw [h]
  exact congrArg State.reclaim (if_neg (by rw [State.partnerAway] at hst; rw [hst]; decide))

theorem PairMoves.of_onClasp {s t : State} {f : ClaspSt → ClaspSt} (h : PairMoves (s.onClasp f) t) : PairFrame s t ∧ QueuesKept s t :=
  ⟨PairFrame.trans (t := s.onClasp f) rfl h.frame, (((Calm.refl s).onClasp f).trans h.calm).queuesKept⟩

/-- What a dissolved pair leaves. -/
structure Dissolved (s t : State) : Prop where
  st : t.clasp.st = .alone
  role : t.clasp.role = t.clasp.wires
  moves : PairMoves s.partnerAway t

theorem partnerGone_dissolved {s : State} (h : s.clasp.st = .active ∨ s.clasp.st = .standby) : Dissolved s s.partnerGone := by
  rw [partnerGone_of_paired h]
  have hst : ((s.partnerAway.setPair .alone).setRole true).clasp.st = .alone := by
    rw [setRole_clasp]
    exact (setPair_clasp s.partnerAway .alone).1
  obtain ⟨halone, hrole⟩ := reclaim_alone hst
  exact ⟨halone, hrole, (setPair_moves _ _).trans ((setRole_moves _ _).trans (reclaim_moves _))⟩

/-- Time, ports and power are no matter of the pair. -/
theorem PairMoves.kept {s t : State} (h : PairMoves s t) : t.tc = s.tc ∧ t.ports = s.ports ∧ t.pwr = s.pwr := by
  have hframe := h.frame
  refine ⟨?_, ?_, ?_⟩
  · exact (congrArg State.tc hframe :)
  · exact (congrArg State.ports hframe :)
  · exact (congrArg State.pwr hframe :)

theorem partnerAway_kept (s : State) : s.partnerAway.tc = s.tc ∧ s.partnerAway.ports = s.ports ∧ s.partnerAway.pwr = s.pwr := by
  have h := partnerAway_reports s
  unfold Reports at h
  exact ⟨(congrArg State.tc h :), (congrArg State.ports h :), (congrArg State.pwr h :)⟩

theorem Dissolved.kept {s t : State} (h : Dissolved s t) : t.tc = s.tc ∧ t.ports = s.ports ∧ t.pwr = s.pwr := by
  obtain ⟨htc, hports, hpwr⟩ := h.moves.kept
  obtain ⟨ktc, kports, kpwr⟩ := partnerAway_kept s
  exact ⟨htc.trans ktc, hports.trans kports, hpwr.trans kpwr⟩

/-- The partner is no longer authenticated, and every change that waited may take effect alone (R415, R433). -/
theorem Dissolved.clasp {s t : State} (h : Dissolved s t) : t.clasp.authed = false ∧ t.clasp.lane0 = s.clasp.lane0 ∧ t.clasp.lane1 = s.clasp.lane1 ∧
    t.clasp.mirror = s.clasp.mirror.map fun x => { x.acknowledge s.upNs with ackAt := 0 } := by
  rw [h.moves.clasp, partnerAway_clasp]
  exact ⟨rfl, rfl, rfl, rfl⟩

/-- Where no change waits, a dissolved pair moves nothing else. -/
theorem Dissolved.of_none {s t : State} (h : Dissolved s t) (hm : s.clasp.mirror = []) : PairFrame s t ∧ QueuesKept s t := by
  have hmoves := h.moves
  rw [partnerAway_of_none hm] at hmoves
  exact hmoves.of_onClasp

/-! ### The join step (R28, R440) -/

/-- A sparse table keeps what each of its entries keeps. -/
theorem Tab.look_mapAll_of {α β : Type} (g : α → β) {f : Nat → α → α} (h : ∀ i a, g (f i a) = g a) (t : Tab α) (d : α) (i : Nat) :
    g ((t.mapAll f).look d i) = g (t.look d i) := by
  induction t with
  | nil => rfl
  | cons p r ih =>
    obtain ⟨j, a⟩ := p
    change g (if j = i then f j a else (Tab.mapAll r f).look d i) = g (if j = i then a else Tab.look r d i)
    split
    · exact h j a
    · exact ih

/-- A lane frame that brings a join time alone is the join step alone (R440). -/
theorem onLaneFrame_join (s : State) (l g : Nat) (j : Nat × Nat × Nat) : onLaneFrame { lane := l, joinTime := some j, gen := g } s = joinStep j g s := by
  have himage : ∀ u : State, u.takeImage { lane := l, joinTime := some j, gen := g } = u := fun u => by simp [State.takeImage]
  unfold onLaneFrame
  simp only [Bool.not_true, Bool.false_eq_true, if_false, ackMirror_zero, himage]
  simp [State.partnerFirmware, State.partnerPublished]

/-- A lane frame that brings the partner's state alone (R415). -/
theorem onLaneFrame_state (s : State) (l n : Nat) : onLaneFrame { lane := l, partnerState := some n } s =
    (if pairStateOf n = .off || pairStateOf n = .pairFault then (s.onClasp fun c => { c with partner := pairStateOf n }).partnerGone
    else if s.clasp.st = .alone && s.clasp.authed && pairStateOf n = .standby then
      ((s.onClasp fun c => { c with partner := pairStateOf n }).setPair .active).reclaim
    else s.onClasp fun c => { c with partner := pairStateOf n }) := by
  have himage : ∀ u : State, u.takeImage { lane := l, partnerState := some n } = u := fun u => by simp [State.takeImage]
  unfold onLaneFrame
  simp only [Bool.not_true, Bool.false_eq_true, if_false, ackMirror_zero, himage]
  simp [State.partnerFirmware, State.partnerPublished, State.onClasp]

/-- A join time moves the counter, and what is kept of its readings, once (R28, R440). -/
theorem joinStep_of_transfer {s : State} (hst : s.clasp.st = .transfer) (hj : s.clasp.joined = false) {a b c : Nat} (g : Nat) (ha : a < 2 ^ 48)
    (hb : b < 1000000000) (hc : c < 1048576) : joinStep (a, b, c) g s =
    { s with
        tc := { s.tc with mtc := s.tc.mtc.jump { s.tc.mtc with sec := a, ns := b, frac := c }, gen := g, hist := (joinStep (a, b, c) g s).tc.hist }
        clasp := { s.clasp with joined := true }, hall := { s.hall with withdrawn := true, dueAll := true }
        ref := (joinStep (a, b, c) g s).ref, ens := (joinStep (a, b, c) g s).ens, la := (joinStep (a, b, c) g s).la } := by
  have hcond : (s.clasp.st = .transfer && !s.clasp.joined && decide (a < 2 ^ 48) && decide (b < 1000000000) && decide (c < 1048576)) = true := by
    simp only [hst, hj, ha, hb, hc]
    decide
  rw [joinStep, if_pos hcond]
  rfl

theorem stepFrame_inp (d : Int) (s : State) (r : Nat) : ((State.stepFrame d s).inp r).st = (s.inp r).st :=
  Tab.look_mapAll_of RefIn.st (f := fun k x => if isFreqRef k then x else RefIn.stepped (unitsPs d) x)
    (fun k x => by split <;> rfl) s.ref.ins {} r

theorem joinStep_inp (s : State) (j : Nat × Nat × Nat) (g r : Nat) : ((joinStep j g s).inp r).st = (s.inp r).st := by
  unfold joinStep
  split
  · extract_lets src n s1 s2
    exact stepFrame_inp _ s1 r
  · rfl

theorem joinStep_refused {s : State} (h : s.clasp.st ≠ .transfer ∨ s.clasp.joined = true) (j : Nat × Nat × Nat) (g : Nat) : joinStep j g s = s := by
  rw [joinStep, if_neg (by rcases h with h | h <;> simp [h])]

/-! ### Lanes (R416) -/

/-- A lane goes up or down. -/
def State.setLane (s : State) (l : Nat) (up : Bool) : State := s.onClasp fun c => if l = 0 then { c with lane0 := up } else { c with lane1 := up }

theorem setLane_clasp (s : State) (l : Nat) (up : Bool) :
    (s.setLane l up).clasp = { s.clasp with lane0 := (s.setLane l up).clasp.lane0, lane1 := (s.setLane l up).clasp.lane1 } ∧
      (if l = 0 then (s.setLane l up).clasp.lane0 else (s.setLane l up).clasp.lane1) = up := by
  unfold State.setLane State.onClasp
  by_cases hl : l = 0 <;> simp [hl]

theorem onLaneLoss_of_change {s : State} {l : Nat} {x : Bool} (hx : (if l = 0 then s.clasp.lane0 else s.clasp.lane1) = x) :
    onLaneLoss l x s = (s.setLane l (!x)).raise0 0x3006 [fld 8 l, fld 8 (b01 (!x))] := by
  rw [onLaneLoss, if_neg (by rw [hx]; cases x <;> decide)]
  rfl

theorem logPartner_mgmt (s : State) (code partner : Nat) : s.logPartner code partner = { s with mgmt := (s.logPartner code partner).mgmt } ∧
    (s.logPartner code partner).mgmt.recs = s.mgmt.recs := by
  unfold State.logPartner
  extract_lets mine
  split
  · exact ⟨rfl, rfl⟩
  · split
    · exact ⟨rfl, rfl⟩
    · exact ⟨rfl, by
        change (State.logPut _ _).mgmt.recs = _
        rw [(logPut_quiet s _).mgmt]⟩

/-- An event for BZ00 alone: what it changes, and that it is the last one due there. -/
theorem raise0_event (s : State) (c : Nat) (d : Rec) : s.raise0 c d = { s with mbx := (s.raise0 c d).mbx, mgmt := (s.raise0 c d).mgmt } ∧
    QueuesKept s (s.raise0 c d) ∧ (((s.raise0 c d).fn 0).due.getLast?.map fun e => (e.code, e.detail)) = some (c, d) := by
  refine ⟨raise_rest _ _ _ _ _, ((Calm.refl s).raise0 c d).queuesKept, ?_⟩
  rw [State.raise0, raise_due_getLast]
  rfl

/-! ### The pairability checks (R413, R416, R442) -/

/-- The key that a pair derives is a free Locket slot or the one it holds: no other slot changes (R347, R416). -/
theorem deriveTransport_rest (s : State) : s.deriveTransport =
    { s with keys := { s.keys with slots := s.deriveTransport.keys.slots }, clasp := { s.clasp with transport := s.deriveTransport.clasp.transport }
             free := s.deriveTransport.free } := by
  unfold State.deriveTransport
  split <;> rfl

theorem deriveTransport_key (s : State) (k : Nat) : (s.deriveTransport.clasp.transport = some k →
      ((s.deriveTransport.keys.slots.look {} k).st, (s.deriveTransport.keys.slots.look {} k).usage, (s.deriveTransport.keys.slots.look {} k).len,
        (s.deriveTransport.keys.slots.look {} k).locket) = (.valid, 0x0030, 32, true)) ∧
    (s.deriveTransport.clasp.transport ≠ some k → s.deriveTransport.keys.slots.look {} k = s.keys.slots.look {} k) := by
  unfold State.deriveTransport
  split
  · next h => exact ⟨fun hk => absurd h (by simp [hk]), fun _ => rfl⟩
  · next j h =>
    dsimp only [State.onKeys, State.onClasp, State.nextFree, State.onFree]
    refine ⟨fun hk => ?_, fun hk => ?_⟩
    · obtain rfl : j = k := Option.some.inj hk
      rw [Tab.look_upd_self]
    · exact Tab.look_upd_other _ _ _ fun hj => hk (congrArg some hj)

/-- The partner as it is authenticated (R416). -/
def State.knowPartner (s : State) (p : PartnerInfo) (ok : Bool) : State :=
  s.onClasp fun c => { c with authed := true, pairable := ok, partner := pairStateOf p.state, idConflict := false }

/-- A unit that seeks or is alone takes a pairable partner to whom it yields through TRANSFER (R415, R442). -/
theorem onPartnerAuthenticated_pairable {s : State} {p : PartnerInfo} (hst : s.clasp.st = .seeking ∨ s.clasp.st = .alone) (hid : p.pairId ≠ s.pwr.pairId)
    (hcert : p.certOk = true) (hroot : s.rootProved p = true) (hset : s.setsPair p = true) (hclaim : s.clasp.claim < p.claim) :
    onPartnerAuthenticated p s =
      ((((s.knowPartner p true).deriveTransport).setPair .transfer).onClasp fun c => { c with joined := false, matchRun := 0 }).reclaim := by
  unfold onPartnerAuthenticated
  rw [if_neg (by rcases hst with hst | hst <;> simp [hst]), if_neg hid, if_neg (by simp [hcert, hroot])]
  simp only [hset, hclaim]
  simp [State.knowPartner]

/-- One that is not pairable stands by unpaired. -/
theorem onPartnerAuthenticated_unpairable {s : State} {p : PartnerInfo} (hst : s.clasp.st = .seeking ∨ s.clasp.st = .alone)
    (hid : p.pairId ≠ s.pwr.pairId) (hcert : p.certOk = true) (hroot : s.rootProved p = true) (hset : s.setsPair p = false)
    (hclaim : s.clasp.claim < p.claim) : onPartnerAuthenticated p s = ((s.knowPartner p false).setPair .unpairedStandby).reclaim := by
  unfold onPartnerAuthenticated
  rw [if_neg (by rcases hst with hst | hst <;> simp [hst]), if_neg hid, if_neg (by simp [hcert, hroot])]
  simp only [hset, hclaim]
  simp [State.knowPartner]

/-- A pairable partner that is joined, and the state it is joined from. -/
structure Joined (u t : State) : Prop where
  frame : PairFrame u t
  calm : Calm u t
  st : t.clasp.st = .transfer
  wires : t.clasp.wires = false
  role : t.clasp.role = false
  authed : t.clasp.authed = u.clasp.authed
  pairable : t.clasp.pairable = u.clasp.pairable
  transport : t.clasp.transport = u.clasp.transport
  joined : t.clasp.joined = false
  matchRun : t.clasp.matchRun = 0

theorem transfer_joined (u : State) : Joined u (((u.setPair .transfer).onClasp fun c => { c with joined := false, matchRun := 0 }).reclaim) := by
  have hmoves := setPair_moves u .transfer
  have hst := (setPair_clasp u .transfer).1
  generalize u.setPair .transfer = v at *
  obtain ⟨ht, hwires, hrole⟩ := reclaim_unfit (s := v.onClasp fun c => { c with joined := false, matchRun := 0 }) (.inr (.inr hst))
  have hend := reclaim_moves (v.onClasp fun c => { c with joined := false, matchRun := 0 })
  generalize (v.onClasp fun c => { c with joined := false, matchRun := 0 }).reclaim = t at *
  refine ⟨PairFrame.trans hmoves.frame hend.of_onClasp.1, hmoves.calm.trans (((Calm.refl v).onClasp _).trans hend.calm), ht.trans hst, hwires, hrole,
    ?_, ?_, ?_, ?_, ?_⟩
  · exact (congrArg ClaspSt.authed hend.clasp).trans (congrArg ClaspSt.authed hmoves.clasp :)
  · exact (congrArg ClaspSt.pairable hend.clasp).trans (congrArg ClaspSt.pairable hmoves.clasp :)
  · exact (congrArg ClaspSt.transport hend.clasp).trans (congrArg ClaspSt.transport hmoves.clasp :)
  · exact (congrArg ClaspSt.joined hend.clasp :)
  · exact (congrArg ClaspSt.matchRun hend.clasp :)

/-- Settles O38: each row as a change of pair state weighed by the claims, or as the join step, or as an event alone. -/
theorem pairLanesAndTransfer : Obligations.PairLanesAndTransfer := by
  unfold Obligations.PairLanesAndTransfer
  refine ⟨fun s l n j p g ha => ?badFrame, fun s l g a b c ha hst hj h1 h2 h3 => ?join, fun s l g j ha h => ?joined, fun s l n ha hst hn => ?left,
    fun s l ha hst hau => ?standby, fun s l x ha hx => ?lane, fun s ha hst => ?lost, fun s ha hst => ?lostInTransfer,
    fun s p ha hst hid => ?sameId, fun s p ha hst hid hno => ?untrusted, fun s p ha hst hid hc hr hs hclaim => ?pairable,
    fun s p ha hst hid hc hr hs hclaim => ?unpairable, fun s p ha h1 h2 => ?busy, fun s hp hst hau => ?waited, fun s ha h => ?notWaiting,
    fun s ha hst => ?tooLong, fun s ha hst => ?notInTransfer, fun s l x ha hx => ?sameLane⟩
  case badFrame =>
    refine Does.of_alive rfl ha ?_
    obtain ⟨hrest, hrecs⟩ := logPartner_mgmt (s.onClasp fun c => { c with badLanes := c.badLanes + 1 }) 0x3080 l
    exact ⟨hrest, hrecs⟩
  case join =>
    refine Does.of_alive rfl ha ?_
    rw [onLaneFrame_join]
    have hjoin := joinStep_of_transfer hst hj g h1 h2 h3
    have hinp := joinStep_inp s (a, b, c) g
    generalize joinStep (a, b, c) g s = t at *
    refine ⟨?_, ?_, hinp⟩
    · rw [hjoin]
    · rw [hjoin]
      rfl
  case joined =>
    refine Does.of_alive rfl ha ?_
    rw [onLaneFrame_join, joinStep_refused h]
    exact ⟨rfl, rfl⟩
  case left =>
    refine Does.of_alive rfl ha ?_
    rw [onLaneFrame_state, if_pos (by rcases hn with rfl | rfl <;> rfl)]
    have hgone := partnerGone_dissolved (s := s.onClasp fun c => { c with partner := pairStateOf n }) hst
    obtain ⟨htc, hports, -⟩ := hgone.kept
    obtain ⟨hauthed, -⟩ := hgone.clasp
    exact ⟨hgone.st, hauthed, hgone.role, htc, hports⟩
  case standby =>
    refine Does.of_alive rfl ha ?_
    rw [onLaneFrame_state, show pairStateOf 5 = .standby from rfl, if_neg (by decide), if_pos (by rw [hst, hau]; rfl)]
    have hactive := reclaim_active (setPair_clasp (s.onClasp fun c => { c with partner := .standby }) .active).1
    have hmoves := (setPair_moves (s.onClasp fun c => { c with partner := .standby }) .active).trans (reclaim_moves _)
    exact ⟨(congrArg ClaspSt.partner hmoves.clasp :), hactive, hmoves.of_onClasp⟩
  case lane =>
    refine Does.of_alive rfl ha ?_
    rw [onLaneLoss_of_change hx]
    obtain ⟨hclasp, hlane⟩ := setLane_clasp s l (!x)
    have hrest : s.setLane l (!x) = { s with clasp := (s.setLane l (!x)).clasp } := rfl
    generalize s.setLane l (!x) = u at *
    obtain ⟨hraise, hqueues, hevent⟩ := raise0_event u 0x3006 [fld 8 l, fld 8 (b01 (!x))]
    generalize u.raise0 0x3006 [fld 8 l, fld 8 (b01 (!x))] = t at *
    have htclasp : t.clasp = u.clasp := (congrArg State.clasp hraise :)
    refine ⟨?_, ?_, ?_, hevent⟩
    · rw [htclasp, ← hclasp, hraise, hrest]
    · rw [hrest] at hqueues
      exact hqueues
    · rw [htclasp]
      exact hlane
  case lost =>
    refine Does.of_alive rfl ha ?_
    have hgone := partnerGone_dissolved (s := s.onClasp fun c => { c with lane0 := false, lane1 := false }) hst
    obtain ⟨htc, hports, hpwr⟩ := hgone.kept
    obtain ⟨hauthed, hlane0, hlane1, hmirror⟩ := hgone.clasp
    unfold onPartnerLost
    refine ⟨hgone.st, hlane0, hlane1, hauthed, hgone.role, ?_, ?_, htc, hports, hpwr, fun hm => ?_⟩
    · rw [hmirror, List.all_map, List.all_eq_true]
      intro x _
      simp [MirrorItem.acknowledge_acked]
    · rw [hmirror, List.map_map]
      exact List.map_congr_left fun x _ => x.acknowledge_cmds _
    · obtain ⟨hframe, hqueues⟩ := hgone.of_none hm
      exact ⟨PairFrame.trans (t := s.onClasp _) rfl hframe, hqueues⟩
  case lostInTransfer =>
    refine Does.of_alive rfl ha ?_
    rw [onPartnerLost, partnerGone_of_transfer (s := s.onClasp fun c => { c with lane0 := false, lane1 := false }) hst]
    have haway := (partnerAway_kept (s.onClasp fun c => { c with lane0 := false, lane1 := false })).1
    generalize (s.onClasp fun c => { c with lane0 := false, lane1 := false }).partnerAway = u at *
    have hseek := (setPair_clasp u .seeking).1
    obtain ⟨ht, hwires, hrole⟩ := reclaim_unfit (.inl hseek)
    exact ⟨ht.trans hseek, hwires, hrole, ((setPair_moves u .seeking).trans (reclaim_moves _)).kept.1.trans haway⟩
  case sameId =>
    refine Does.of_alive rfl ha ?_
    rw [onPartnerAuthenticated, if_neg (by rcases hst with hst | hst <;> simp [hst]), if_pos hid]
    exact raise0_event (s.onClasp fun c => { c with idConflict := true }) 0x3005 []
  case untrusted =>
    refine Does.of_alive rfl ha ?_
    rw [onPartnerAuthenticated, if_neg (by rcases hst with hst | hst <;> simp [hst]), if_neg hid,
      if_pos (by rcases hno with hno | hno <;> simp [hno])]
    exact logPartner_mgmt s 0x3081 0
  case pairable =>
    refine Does.of_alive rfl ha ?_
    rw [onPartnerAuthenticated_pairable hst hid hc hr hs hclaim]
    have hrest := deriveTransport_rest (s.knowPartner p true)
    have hkey := deriveTransport_key (s.knowPartner p true)
    generalize (s.knowPartner p true).deriveTransport = u at *
    obtain ⟨hframe, hcalm, ht, hwires, hrole, hauthed, hpairable, htransport, hjoined, hrun⟩ := transfer_joined u
    generalize (((u.setPair .transfer).onClasp fun c => { c with joined := false, matchRun := 0 }).reclaim) = t at *
    have hslots : t.keys.slots = u.keys.slots := (congrArg (fun x : State => x.keys.slots) hframe :)
    have huclasp := congrArg State.clasp hrest
    have hcalmu : Calm s u := by
      refine (Calm.refl s).rest ?_ ?_ ?_ <;> rw [hrest] <;> rfl
    refine ⟨ht, ?_, ?_, hjoined, hrun, hwires, hrole, ?_, (hcalmu.trans hcalm).queuesKept, fun k _ hk => ?_, fun k _ hk => ?_⟩
    · rw [hauthed, huclasp]
      rfl
    · rw [hpairable, huclasp]
      rfl
    · unfold PairFrame at hframe ⊢
      rw [hframe, hrest]
      rfl
    · rw [hslots]
      exact (hkey k).1 (htransport ▸ hk)
    · rw [hslots]
      exact (hkey k).2 (htransport ▸ hk)
  case unpairable =>
    refine Does.of_alive rfl ha ?_
    rw [onPartnerAuthenticated_unpairable hst hid hc hr hs hclaim]
    have hp := (setPair_clasp (s.knowPartner p false) .unpairedStandby).1
    have hmoves := (setPair_moves (s.knowPartner p false) .unpairedStandby).trans (reclaim_moves _)
    obtain ⟨ht, hwires, -⟩ := reclaim_unfit (.inr (.inl hp))
    exact ⟨ht.trans hp, (congrArg ClaspSt.authed hmoves.clasp :), (congrArg ClaspSt.pairable hmoves.clasp :), hwires, hmoves.of_onClasp⟩
  case busy =>
    refine Does.of_alive rfl ha ?_
    rw [onPartnerAuthenticated, if_pos (by simp [h1, h2])]
  case waited =>
    have ha : s.alive = true := by rcases hp with hp | hp <;> simp [State.alive, hp]
    refine Does.of_alive rfl ha ?_
    rw [onPairWaitTimeout, if_pos (by rcases hp with hp | hp <;> simp [hst, hau, hp])]
    have halone : ((s.setPair .alone).setRole true).clasp.st = .alone := by
      rw [setRole_clasp]
      exact (setPair_clasp s .alone).1
    obtain ⟨ht, hrole⟩ := reclaim_alone halone
    have hmoves := (setPair_moves s .alone).trans ((setRole_moves _ true).trans (reclaim_moves _))
    exact ⟨ht, hrole, hmoves.frame, hmoves.calm.queuesKept⟩
  case notWaiting =>
    refine Does.of_alive rfl ha ?_
    rw [onPairWaitTimeout, if_neg (by rcases h with h | h <;> simp [h])]
  case tooLong =>
    refine Does.of_alive rfl ha ?_
    rw [onTransferTimeout, if_pos hst]
    have hseek := (setPair_clasp s .seeking).1
    obtain ⟨ht, hwires, -⟩ := reclaim_unfit (.inl hseek)
    have hmoves := (setPair_moves s .seeking).trans (reclaim_moves _)
    exact ⟨ht.trans hseek, hwires, hmoves.frame, hmoves.calm.queuesKept⟩
  case notInTransfer =>
    refine Does.of_alive rfl ha ?_
    rw [onTransferTimeout, if_neg hst]
  case sameLane =>
    refine Does.of_alive rfl ha ?_
    rw [onLaneLoss, if_pos hx]

end Sys2Proof.Machine
end

section

/-! ### Reads of the state (R47, R476, R514, R557) -/

namespace Sys2Proof.Machine

/-- No transaction is open while a command is ready, and none opens with its fetch (R463). -/
theorem fetchedFor_no_txn {m : CmdMeta} {h : CmdHdr} {s : State} (hr : ready m h s = true) :
    ∀ p ∈ (s.fetchedFor m h).mbx.fns, ∀ q ∈ p.2.queues, q.2.txn = none := by
  obtain ⟨-, -, -, -, -, -, -, -, -, -, -, -, -, -, -, htx, -⟩ := (ready_iff m h s).1 hr
  let P : FnSt → Prop := fun f => ∀ q ∈ f.queues, q.2.txn = none
  have hnew : P {} := fun q hq => by cases hq
  have hfn : P (s.fn h.fn) := Tab.look_of_forall P _ _ _ htx hnew
  have hreserved : ∀ p ∈ (s.onFn h.fn fun x => { x with cplRes := x.cplRes + 1, order := x.order + 1 }).mbx.fns, P p.2 := Tab.forall_put P _ _ _ htx hfn
  have hown := Tab.look_of_forall P _ {} h.fn hreserved hnew
  have hqueue := Tab.look_of_forall (fun k : CmdQueue => k.txn = none) _ {} h.queue hown rfl
  exact Tab.forall_put P _ _ _ hreserved (Tab.forall_put (fun k : CmdQueue => k.txn = none) _ _ _ hown hqueue)

theorem resourceReserved_of_no_txn {s : State} (h : ∀ p ∈ s.mbx.fns, ∀ q ∈ p.2.queues, q.2.txn = none) (k : Nat) : s.resourceReserved k = false := by
  unfold State.resourceReserved
  rw [List.any_eq_false]
  intro p hp
  rw [Bool.not_eq_true, List.any_eq_false]
  intro q hq
  rw [h p hp q hq]
  exact Bool.false_ne_true

theorem fetchedFor_holder (m : CmdMeta) (h : CmdHdr) (s : State) (k n : Nat) : (s.fetchedFor m h).holder k n = s.holder k n := rfl

theorem fetchedFor_ownershipRecord {m : CmdMeta} {h : CmdHdr} {s : State} (hr : ready m h s = true) (k n : Nat) :
    (s.fetchedFor m h).ownershipRecord k n = s.ownershipRecord k n := by
  obtain ⟨-, -, -, -, -, -, -, -, -, -, -, -, -, -, -, htx, -⟩ := (ready_iff m h s).1 hr
  have hold := resourceReserved_of_no_txn htx
  have hnew := resourceReserved_of_no_txn (fetchedFor_no_txn hr)
  unfold State.ownershipRecord
  rw [fetchedFor_holder]
  dsimp only
  rw [hold, hnew]
  rfl

/-- A read of an object that exists, by one who may read it (R47, R476). -/
theorem stateReadObject_reads {h : CmdHdr} {s : State} {cls n g : Nat} {r : Rec} (hr : ready { op := 0x0341, plen := 8, who := .any, xbOut := true } h s = true)
    (ho : (s.fetchedFor { op := 0x0341, plen := 8, who := .any, xbOut := true } h).stateObject h.fn cls n = some (true, g, r)) (hlen : r.bytes ≤ h.xlen) :
    Does (.stateReadObject h cls n) s fun t => Completes h s s t [fld 32 g] r := by
  refine runCommand_reads (acc := State.accepted) (i := .stateReadObject h cls n) (b := (cmdStateReadObject h cls n).2) hr ?_ ?_ ?_ fun _ => hlen
  · simp [cmdStateReadObject, ho]
  · simp only [cmdStateReadObject, ho]
    rfl
  · simp only [cmdStateReadObject, ho, cmdOut]

theorem powerRecord_bytes (s : State) : s.powerRecord.bytes = 16 := by
  simp [State.powerRecord, Rec.bytes, Rec.bits, fld, bit, rsv]

theorem ownershipRecord_bytes (s : State) (k n : Nat) : (s.ownershipRecord k n).bytes = 16 := by
  have hfour : ∀ (l : List Nat) (g : Nat → Nat), Rec.bits (((l ++ [0xFF, 0xFF, 0xFF, 0xFF]).take 4).map fun c => fld 8 (g c)) = 32 := by
    intro l g
    have hlen : ((l ++ [0xFF, 0xFF, 0xFF, 0xFF]).take 4).length = 4 := by simp
    simp only [Rec.bits, fld, List.map_map, Function.comp_def, List.map_const', hlen, List.sum_replicate]
    rfl
  unfold State.ownershipRecord
  dsimp only
  rw [Rec.bytes, bits_append, hfour]
  simp [Rec.bits, fld, bit, rsv]

/-- The blocks but the mailboxes are the same after a fetch. -/
theorem fetchedFor_blocks {m : CmdMeta} {h : CmdHdr} {s : State} {i : Nat} (h2 : i ≠ 2) : (s.fetchedFor m h).blocks[i]? = s.blocks[i]? := by
  have hset : (s.fetchedFor m h).blocks = s.blocks.set 2 (.mailboxes (s.fetchedFor m h).mbx) := rfl
  rw [hset, List.getElem?_set_ne h2.symm]

theorem blockRecord_bytes (n v : Nat) : Rec.bytes [fld (8 * n) v] = n := by simp [Rec.bytes, Rec.bits, fld]

theorem stateClasses_bytes : Rec.bytes (stateClasses.flatMap fun c => [fld 16 c.1, fld 16 c.2.1, fld 32 c.2.2]) = 8 * stateClasses.length := by
  rw [Rec.bytes, bits_flatMap _ _ 64 fun _ _ => rfl]
  omega

/-- The first block of a class is the one its class names. -/
theorem find_blockClass {i : Nat} (hi : i < 20) (hfirst : ∀ j, j < i → Config.blockClass j ≠ Config.blockClass i) :
    ((List.range 20).find? fun j => Config.blockClass j = Config.blockClass i) = some i := by
  rw [List.find?_eq_some_iff_getElem]
  refine ⟨decide_eq_true rfl, i, by simpa using hi, by simp, fun j hj => ?_⟩
  simpa using hfirst j hj

/-! ### Reads of counters (R536) -/

theorem countersRec_bytes (n : Nat) (g : Nat → Nat) : Rec.bytes ((List.range n).map fun i => [fld 48 (g i), rsv 16]).flatten = 8 * n := by
  have hbits : Rec.bits ((List.range n).flatMap fun i => [fld 48 (g i), rsv 16]) = 64 * n := by
    rw [bits_flatMap _ _ 64 fun _ _ => rfl, List.length_range]
  change Rec.bits ((List.range n).flatMap fun i => [fld 48 (g i), rsv 16]) / 8 = _
  omega

theorem loupeRead_reads {h : CmdHdr} {s : State} {a n : Nat} (hr : ready { op := 0x4041, plen := 4, who := .granted, xbOut := true } h s = true)
    (h1 : 1 ≤ n) (h2 : n ≤ 1024) (h3 : a + n ≤ 10240)
    (hown : h.fn = 0 ∨ ((List.range n).all fun i => decide ((s.loupe.banks.look {} ((a + i) / 32)).grantee = some h.fn)) = true) (hlen : 8 * n ≤ h.xlen) :
    Does (.loupeRead h a n) s fun t => Completes h s s t [] ((List.range n).map fun i => [fld 48 (s.loupe.ctr.look 0 (a + i)), rsv 16]).flatten := by
  refine runCommand_reads (acc := State.accepted) (i := .loupeRead h a n) (b := (cmdLoupeRead h a n).2) hr ?_ ?_ rfl fun _ => ?_
  · simp [cmdLoupeRead, h1, h2, h3]
  · have hall : (decide (h.fn = 0) || (List.range n).all fun i => decide ((s.loupe.banks.look {} ((a + i) / 32)).grantee = some h.fn)) = true := by
      rcases hown with hown | hown
      · simp [hown]
      · rw [hown, Bool.or_true]
    change (judgeOwned (decide (h.fn = 0) || (List.range n).all fun i => decide ((s.loupe.banks.look {} ((a + i) / 32)).grantee = some h.fn)) true 3 []).status = .ok
    rw [hall]
    rfl
  · rw [countersRec_bytes]
    exact hlen

/-! ### Writes of the Loupe (R540-R543) -/

/-- Armed interrupts stay but for that of one counter, which may go. -/
def ArmedBut (i : Nat) (s t : State) : Prop := t.loupe.armed = s.loupe.armed ∨ t.loupe.armed = s.loupe.armed.filter fun p => p.1 != i

/-- A count disarms no interrupt but that of its own counter (R542). -/
theorem countRaw_armed (s : State) (i n : Nat) : ArmedBut i s (s.countRaw i n) := by
  unfold State.countRaw
  extract_lets v s1
  split
  · exact .inl rfl
  · split
    · exact .inl rfl
    · refine .inr ?_
      change (State.raise _ _ _ _ 0).loupe.armed = _
      rw [raise_loupe]
      rfl

theorem countBezel_armed (s : State) (b n : Nat) : ArmedBut ((256 + b) * 32 + n) s (s.countBezel b n) := by
  unfold State.countBezel State.countN
  split
  · exact .inl rfl
  · exact countRaw_armed _ _ _

theorem completeOne_armed (b q seq tag : Nat) (staged : Bool) (result xb : Rec) (o : State) :
    ArmedBut ((256 + b) * 32 + 28) o (completeOne b q seq tag .ok staged result xb o) :=
  countBezel_armed (State.announce _ b (o.fn b).cplVec) b 28

/-- On a queue that holds nothing else, the completion of its entry is one. -/
theorem complete_eq_completeOne {b q : Nat} {o : State} (hidle : ((o.fn b).q q).inflight.drop 1 = []) (seq tag : Nat) (status : Status) (staged : Bool)
    (result xb : Rec) : complete b q seq tag status staged result xb o = completeOne b q seq tag status staged result xb o := by
  have hempty : (((completeOne b q seq tag status staged result xb o).fn b).q q).inflight = [] := by
    rw [(completeOne_written b q seq tag status staged result xb o).fns b]
    change (((o.written b q seq tag status staged result xb).fn b).q q).inflight = []
    unfold State.written
    dsimp only
    rw [onQueue_self, onFn_fn_self]
    exact hidle
  unfold complete
  dsimp only
  rw [hempty]
  rfl

/-- A ready command whose effect is a change of the Loupe and what stores it completes with OK; its own count may disarm that counter's interrupt. -/
theorem runCommand_loupe {acc : State → State} {m : CmdMeta} {h : CmdHdr} {i : Instr} {b : CmdBody} {s o : State} (f : LoupeSt → LoupeSt)
    (hr : ready m h s = true) (ha : b.argOk (s.fetchedFor m h) = true) (hc : (b.check (s.fetchedFor m h)).status = .ok)
    (ho : b.act (s.fetchedFor m h) = { st := o }) (hx : m.xbOut = false) (hk : Calm ((s.onLoupe f).fetchedFor m h) o) (hup : o.pending = s.pending) :
    ∃ t, (Host.Outcome.next (runCommand acc m h i b s) : Host.Outcome State Fault Refusal) = .next t ∧ Completes h (s.onLoupe f) o t [] [] ∧
      ArmedBut ((256 + h.fn) * 32 + 28) (s.onLoupe f) t := by
  have hshort : xbShort m h (b.act (s.fetchedFor m h)) = false := by simp [xbShort, hx]
  have hrun := runCommand_ready acc m h i b s hr ha hc hshort
  rw [ho] at hrun
  obtain ⟨t, ht, hcompletes⟩ := runCommand_calm (acc := acc) (i := i) (b := { argOk := fun _ => true, act := fun _ => { st := o } }) (s := s.onLoupe f)
    (result := []) (xb := []) hr rfl rfl rfl (by simp [hx]) hk hup
  have hrun' := runCommand_ready acc m h i { argOk := fun _ => true, act := fun _ => { st := o } } (s.onLoupe f) hr rfl rfl (by simp [xbShort, hx])
  have ht' : t = complete h.fn h.queue ((s.fn h.fn).q h.queue).fetchSeq h.tag .ok false [] [] o := (Host.Outcome.next.inj ht).symm.trans hrun'
  have hidle : ((o.fn h.fn).q h.queue).inflight.drop 1 = [] := by
    obtain ⟨-, -, -, -, -, -, -, -, -, -, -, -, hinf, -⟩ := (ready_iff m h s).1 hr
    rw [hk.fns h.fn]
    change ((((s.onLoupe f).fetchedFor m h).fn h.fn).q h.queue).inflight.drop 1 = []
    rw [fetchedFor_q]
    change (((s.fn h.fn).q h.queue).inflight ++ _).drop 1 = []
    rw [hinf]
    rfl
  refine ⟨t, by rw [hrun, ht'], hcompletes, ?_⟩
  have harmed := completeOne_armed h.fn h.queue ((s.fn h.fn).q h.queue).fetchSeq h.tag false [] [] o
  rw [← complete_eq_completeOne hidle, ← ht', ArmedBut, hk.loupe] at harmed
  exact harmed

/-- What a completed change of the Loupe leaves, but for the bezel's own count. -/
structure Rewrites (h : CmdHdr) (f : LoupeSt → LoupeSt) (s t : State) : Prop where
  answers : Answers h s t .ok [] []
  mailbox : MailboxFrame h s t
  mgmt : MgmtFrame s t
  rest : t = { s with loupe := t.loupe, mbx := t.mbx, mgmt := t.mgmt }
  banks : t.loupe.banks = (f s.loupe).banks
  ctr : ∀ i, i ≠ (256 + h.fn) * 32 + 28 → t.loupe.ctr.look 0 i = (f s.loupe).ctr.look 0 i
  armed : t.loupe.armed = (f s.loupe).armed ∨ t.loupe.armed = (f s.loupe).armed.filter fun p => p.1 != (256 + h.fn) * 32 + 28

theorem runCommand_rewrites {acc : State → State} {m : CmdMeta} {h : CmdHdr} {i : Instr} {b : CmdBody} {s o : State} (f : LoupeSt → LoupeSt)
    (hr : ready m h s = true) (ha : b.argOk (s.fetchedFor m h) = true) (hc : (b.check (s.fetchedFor m h)).status = .ok)
    (ho : b.act (s.fetchedFor m h) = { st := o }) (hx : m.xbOut = false) (hk : Calm ((s.onLoupe f).fetchedFor m h) o)
    (hrest : o = { s with loupe := o.loupe, mbx := o.mbx, mgmt := o.mgmt }) :
    ∃ t, (Host.Outcome.next (runCommand acc m h i b s) : Host.Outcome State Fault Refusal) = .next t ∧ Rewrites h f s t := by
  obtain ⟨t, ht, ⟨hanswers, hmailbox, hmgmt, ⟨hbanks, hctr⟩, hend⟩, harmed⟩ := runCommand_loupe (acc := acc) (i := i) f hr ha hc ho hx hk (congrArg State.pending hrest :)
  refine ⟨t, ht, hanswers, hmailbox, hmgmt, ?_, hbanks, hctr, harmed⟩
  rw [hend, hrest]

theorem loupeGrantBank_argOk {s : State} {b z g : Nat} (h : CmdHdr) (hb : b < 320) (hg : g ≤ 1) (hz : loupeGrantable s b z = true) :
    (cmdLoupeGrantBank h b z g).2.argOk s = true := by
  simp [cmdLoupeGrantBank, loupeBankOk, hb, hg, hz]

theorem loupeGrantBank_free {s : State} {b z : Nat} (h : CmdHdr)
    (hfree : (s.loupe.banks.look {} b).grantee = none ∨ (s.loupe.banks.look {} b).grantee = some z) :
    ((cmdLoupeGrantBank h b z 1).2.check s).status = .ok := by
  rcases hfree with hfree | hfree <;> simp [cmdLoupeGrantBank, State.loupeBank, judge, hfree]

theorem loupeGrant_rewrites {h : CmdHdr} {s : State} {b z : Nat} (hr : ready { op := 0x4001, plen := 4 } h s = true) (hb : b < 320)
    (hz : loupeGrantable s b z = true) (hfree : (s.loupe.banks.look {} b).grantee = none ∨ (s.loupe.banks.look {} b).grantee = some z) :
    ∃ t, exec (.loupeGrantBank h b z 1) s = .next t ∧
      Rewrites h (fun l => { l with banks := l.banks.upd {} b fun k => { k with grantee := some z } }) s t :=
  runCommand_rewrites (b := (cmdLoupeGrantBank h b z 1).2) _ hr (loupeGrantBank_argOk h hb (Nat.le_refl 1) hz) (loupeGrantBank_free h hfree) rfl rfl
    ((Calm.refl _).store _ _) rfl

theorem loupeRevoke_rewrites {h : CmdHdr} {s : State} {b z : Nat} (hr : ready { op := 0x4001, plen := 4 } h s = true) (hb : b < 320)
    (hz : loupeGrantable s b z = true) : ∃ t, exec (.loupeGrantBank h b z 0) s = .next t ∧
      Rewrites h (fun l => { l with
        banks := l.banks.upd {} b fun k => { k with grantee := none }, armed := l.armed.filter fun p => p.1 / 32 != b }) s t :=
  runCommand_rewrites (b := (cmdLoupeGrantBank h b z 0).2) _ hr (loupeGrantBank_argOk h hb (Nat.zero_le 1) hz) rfl rfl rfl ((Calm.refl _).store _ _) rfl

/-- The counters of a bank whose mode changes: its derived positions are zero (R543). -/
def LoupeSt.setBank (l : LoupeSt) (b m w : Nat) : LoupeSt :=
  { l with
    banks := l.banks.upd {} b fun k => if k.mode = m then { k with window := w } else { k with mode := m, window := w, acc := [], windows := 0 }
    ctr := if (l.banks.look {} b).mode = m then l.ctr else (List.range 8).foldl (fun t i => t.put (b * 32 + 24 + i) 0) l.ctr }

theorem loupeSetBank_rewrites {h : CmdHdr} {s : State} {b m w : Nat} (hr : ready { op := 0x4002, plen := 8 } h s = true) (hb : b < 320) (hm : m ≤ 2)
    (hw : m = 0 ∨ 1 ≤ w ∧ w ≤ 10000) (h1 : m = 1 → b < 256) (h2 : m = 2 → 256 ≤ b) :
    ∃ t, exec (.loupeSetBank h b m w) s = .next t ∧ Rewrites h (fun l => l.setBank b m w) s t := by
  refine runCommand_rewrites (b := (cmdLoupeSetBank h b m w).2) _ hr ?_ rfl rfl rfl ((Calm.refl _).store _ _) rfl
  simp only [cmdLoupeSetBank, loupeBankOk, hb, hm]
  have hwindow : (decide (m = 0) || (decide (1 ≤ w) && decide (w ≤ 10000))) = true := by simpa using hw
  have hports : (decide (m = 1) && decide (256 ≤ b)) = false := by
    simp only [Bool.and_eq_false_iff, decide_eq_false_iff_not]
    omega
  have hbezels : (decide (m = 2) && decide (b < 256)) = false := by
    simp only [Bool.and_eq_false_iff, decide_eq_false_iff_not]
    omega
  rw [hwindow, hports, hbezels]
  rfl

/-- A counter written and its interrupt armed or disarmed (R542). -/
def LoupeSt.preset (l : LoupeSt) (fn c q v x : Nat) : LoupeSt :=
  { l with ctr := l.ctr.put c x, armed := (l.armed.filter fun p => p.1 != c) ++ (if q = 1 then [(c, { fn := fn, vector := v })] else []) }

theorem loupePreset_allowed {h : CmdHdr} {s : State} {c : Nat} (q v x : Nat) (hown : loupePresetOwn h s c = true)
    (hmode : 24 ≤ c % 32 → (s.loupe.banks.look {} (c / 32)).mode = 0) : ((cmdLoupePreset h c q v x).2.check s).status = .ok := by
  by_cases h24 : 24 ≤ c % 32
  · simp [cmdLoupePreset, hown, State.loupeBank, hmode h24, judge]
  · simp [cmdLoupePreset, hown, h24, judge]

theorem loupePreset_rewrites {h : CmdHdr} {s : State} {c q v x : Nat} (hr : ready { op := 0x4003, plen := 16, who := .granted, action := true } h s = true)
    (hc : c < 10240) (hq : q ≤ 1) (hv : v < 64) (hx : x < 2 ^ 48) (hown : loupePresetOwn h s c = true)
    (hmode : 24 ≤ c % 32 → (s.loupe.banks.look {} (c / 32)).mode = 0) :
    ∃ t, exec (.loupePreset h c q v x) s = .next t ∧ Rewrites h (fun l => l.preset h.fn c q v x) s t := by
  refine runCommand_rewrites (b := (cmdLoupePreset h c q v x).2) _ hr ?_ (loupePreset_allowed q v x hown hmode) rfl rfl (Calm.refl _) rfl
  simp only [cmdLoupePreset, hc, hq, hv, hx]
  rfl

/-! ### Runs of counters, and the end of a window (R543-R545) -/

/-- Counters written one after another from a place on. -/
theorem look_putRange (t : Tab Nat) (base n : Nat) (g : Nat → Nat) (j : Nat) :
    ((List.range n).foldl (fun t i => t.put (base + i) (g i)) t).look 0 j = if base ≤ j ∧ j < base + n then g (j - base) else t.look 0 j := by
  induction n with
  | zero =>
    rw [if_neg (by omega)]
    rfl
  | succ n ih =>
    rw [List.range_succ, List.foldl_append, List.foldl_cons, List.foldl_nil, Tab.look_put, ih]
    by_cases hj : base + n = j
    · rw [if_pos hj, if_pos (by omega), ← hj, Nat.add_sub_cancel_left]
    · rw [if_neg hj]
      by_cases hin : base ≤ j ∧ j < base + n
      · rw [if_pos hin, if_pos (by omega)]
      · rw [if_neg hin, if_neg (by omega)]

theorem look_putRange_in (t : Tab Nat) {base n i : Nat} (g : Nat → Nat) (hi : i < n) :
    ((List.range n).foldl (fun t i => t.put (base + i) (g i)) t).look 0 (base + i) = g i := by
  rw [look_putRange, if_pos (by omega), Nat.add_sub_cancel_left]

theorem look_putRange_out (t : Tab Nat) {base n j : Nat} (g : Nat → Nat) (hj : j < base ∨ base + n ≤ j) :
    ((List.range n).foldl (fun t i => t.put (base + i) (g i)) t).look 0 j = t.look 0 j := by
  rw [look_putRange, if_neg (by omega)]

/-- The bank at the end of its window: the values written, the next window begun. -/
def LoupeSt.endWindow (l : LoupeSt) (b : Nat) (v : List Nat) : LoupeSt :=
  { l with
    ctr := (List.range 8).foldl (fun t i => t.put (b * 32 + 24 + i) (v.getD i 0 % 2 ^ 48)) l.ctr
    banks := l.banks.upd {} b fun x => { x with acc := [], windows := x.windows + 1 } }

theorem endWindow_ctr (l : LoupeSt) (b : Nat) (v : List Nat) {i : Nat} (hi : i < 8) :
    (l.endWindow b v).ctr.look 0 (b * 32 + 24 + i) = v.getD i 0 % 2 ^ 48 :=
  look_putRange_in l.ctr (fun i => v.getD i 0 % 2 ^ 48) hi

theorem endWindow_ctr_other (l : LoupeSt) (b : Nat) (v : List Nat) {j : Nat} (hj : j < b * 32 + 24 ∨ b * 32 + 32 ≤ j) :
    (l.endWindow b v).ctr.look 0 j = l.ctr.look 0 j := look_putRange_out l.ctr (fun i => v.getD i 0 % 2 ^ 48) (by omega)

theorem endWindow_bank (l : LoupeSt) (b : Nat) (v : List Nat) :
    (l.endWindow b v).banks.look {} b = { l.banks.look {} b with acc := [], windows := (l.banks.look {} b).windows + 1 } := by
  unfold LoupeSt.endWindow
  dsimp only
  rw [Tab.look_upd_self]

/-- A window that is due ends (R543): positions that a bank of another kind does not derive in MODE 2 are zero. -/
theorem onLoupeWindowEnd_of_due {s : State} {b : Nat} (hm : (s.loupe.banks.look {} b).mode = 1 ∨ (s.loupe.banks.look {} b).mode = 2 ∧ b = 256)
    (hw : (s.loupe.banks.look {} b).window ≠ 0)
    (ht : (s.tc.snap.sec * 1000 + s.tc.snap.ns / 1000000) % (s.loupe.banks.look {} b).window = 0) :
    onLoupeWindowEnd b s = s.onLoupe fun l => l.endWindow b (loupeWindowValues (s.loupe.banks.look {} b) (fun i => s.loupe.ctr.look 0 (b * 32 + 24 + i))
      (s.tc.snap.sec * 1000 + s.tc.snap.ns / 1000000) (300000 * (s.loupe.banks.look {} b).window)) := by
  unfold onLoupeWindowEnd State.loupeBank
  generalize s.loupe.banks.look {} b = k at *
  have hrun : ¬ (decide (k.mode = 0) || decide (k.window = 0) ||
      (s.tc.snap.sec * 1000 + s.tc.snap.ns / 1000000) % k.window != 0) = true := by
    rcases hm with hm | ⟨hm, -⟩ <;> simp [hm, hw, ht]
  have hkind : ¬ (decide (k.mode = 2) && b != 256) = true := by
    rcases hm with hm | ⟨-, hb⟩
    · simp [hm]
    · simp [hb]
  dsimp only
  rw [if_neg hrun, if_neg hkind]
  rfl

theorem onLoupeWindowEnd_of_not_due {s : State} {b : Nat} (h : (s.loupe.banks.look {} b).mode = 0 ∨ (s.loupe.banks.look {} b).window = 0 ∨
    (s.tc.snap.sec * 1000 + s.tc.snap.ns / 1000000) % (s.loupe.banks.look {} b).window ≠ 0) : onLoupeWindowEnd b s = s := by
  unfold onLoupeWindowEnd State.loupeBank
  generalize s.loupe.banks.look {} b = k at *
  exact if_pos (by rcases h with h | h | h <;> simp [h])

theorem setBank_bank (l : LoupeSt) (b m w : Nat) : ((l.setBank b m w).banks.look {} b).mode = m ∧ ((l.setBank b m w).banks.look {} b).window = w ∧
    ((l.setBank b m w).banks.look {} b).grantee = (l.banks.look {} b).grantee := by
  unfold LoupeSt.setBank
  dsimp only
  rw [Tab.look_upd_self]
  split
  · next h => exact ⟨h, rfl, rfl⟩
  · exact ⟨rfl, rfl, rfl⟩

theorem setBank_ctr_derived (l : LoupeSt) {b m i : Nat} (w : Nat) (h : (l.banks.look {} b).mode ≠ m) (hi : i < 8) :
    (l.setBank b m w).ctr.look 0 (b * 32 + 24 + i) = 0 := by
  unfold LoupeSt.setBank
  dsimp only
  rw [if_neg h]
  exact look_putRange_in l.ctr (fun _ => 0) hi

theorem setBank_ctr_other (l : LoupeSt) {b i : Nat} (m w : Nat) (h : i / 32 ≠ b ∨ i % 32 < 24) : (l.setBank b m w).ctr.look 0 i = l.ctr.look 0 i := by
  unfold LoupeSt.setBank
  dsimp only
  split
  · rfl
  · exact look_putRange_out l.ctr (fun _ => 0) (by omega)

theorem preset_armed (l : LoupeSt) (fn c q v x : Nat) :
    ((l.preset fn c q v x).armed.find? fun p => p.1 = c) = if q = 1 then some (c, { fn := fn, vector := v }) else none := by
  have hnone : ((l.armed.filter fun p => p.1 != c).find? fun p => decide (p.1 = c)) = none := by
    rw [List.find?_eq_none]
    intro p hp
    simpa using (List.mem_filter.1 hp).2
  unfold LoupeSt.preset
  dsimp only
  rw [List.find?_append, hnone]
  split <;> simp

/-- Another counter's interrupt is found as before. -/
theorem find_filter_other (l : List (Nat × LoupeArm)) {c k : Nat} (h : c ≠ k) :
    ((l.filter fun p => p.1 != k).find? fun p => decide (p.1 = c)) = l.find? fun p => decide (p.1 = c) := by
  rw [List.find?_filter]
  refine congrArg (fun g => List.find? g l) (funext fun p => ?_)
  by_cases hp : p.1 = c
  · simp [hp, h]
  · simp [hp]

/-- A row that always answers a next state, by what holds of it under a condition on the state. -/
theorem Does.of_imp {i : Instr} {s : State} {C : Prop} {P : State → Prop} (hnext : ∃ u, exec i s = .next u) (h : C → Does i s P) :
    Does i s fun t => C → P t := by
  obtain ⟨u, hnext⟩ := hnext
  refine ⟨u, hnext, fun hC => ?_⟩
  obtain ⟨t, ht, hP⟩ := h hC
  exact Host.Outcome.next.inj (hnext.symm.trans ht) ▸ hP

/-- Settles O52: reads answer with the state as it is fetched, writes change the Loupe alone, and a window that is due writes its eight values. -/
theorem stateAndLoupeCommands : Obligations.StateAndLoupeCommands := by
  unfold Obligations.StateAndLoupeCommands
  refine ⟨fun h s hr h0 hx => ?power, fun h s i k n hr h0 hx hres => ?ownership, fun h s i n x hr h0 hi h2 hblock => ?block, fun h s hr => ?classes,
    fun h s b z hr hb hz hfree => ?grant, fun h s b z hr hb hz => ?revoke, fun h s b m w hr hb hm hw h1 h2 => ?setBank,
    fun h s c q v x hr hc hq hv hx hown hmode => ?preset, fun h s a n hr h1 h2 h3 hown hx => loupeRead_reads hr h1 h2 h3 hown hx,
    fun s b k ha hk hm hw ht => ?window, fun s k ha hk hm hw ht => ?slots, fun s b ha h => ?notDue⟩
  case power =>
    refine stateReadObject_reads (r := s.powerRecord) hr ?_ (by rwa [powerRecord_bytes])
    rw [State.stateObject, if_pos rfl, if_pos rfl, h0]
    rfl
  case ownership =>
    refine Does.of_imp ⟨_, rfl⟩ fun hne => stateReadObject_reads hr ?_ (by rwa [ownershipRecord_bytes])
    simp [State.stateObject, hne, hres, h0, State.mayReadResource, fetchedFor_holder, fetchedFor_ownershipRecord hr]
  case block =>
    refine Does.of_imp ⟨_, rfl⟩ fun hn => Does.of_imp ⟨_, rfl⟩ fun hlen => Does.of_imp ⟨_, rfl⟩ fun hp => Does.of_imp ⟨_, rfl⟩ fun ho =>
      Does.of_imp ⟨_, rfl⟩ fun hfirst => stateReadObject_reads hr ?_ (by rwa [blockRecord_bytes])
    simp [State.stateObject, hp, ho, find_blockClass hi hfirst, hn, fetchedFor_blocks h2, hblock, h0]
  case classes =>
    exact Does.of_imp ⟨_, rfl⟩ fun hx => runCommand_reads (b := (cmdStateListClasses h).2) hr rfl rfl rfl fun _ => by rwa [stateClasses_bytes]
  case grant =>
    obtain ⟨t, ht, hanswers, hmailbox, hmgmt, hrest, hbanks, -, -⟩ := loupeGrant_rewrites hr hb hz hfree
    refine ⟨t, ht, hanswers, hmailbox, hmgmt, hrest, ?_, fun k hk => ?_⟩
    · rw [hbanks]
      dsimp only
      rw [Tab.look_upd_self]
    · rw [hbanks]
      dsimp only
      rw [Tab.look_upd_other _ _ _ hk.symm]
  case revoke =>
    obtain ⟨t, ht, hanswers, hmailbox, hmgmt, -, hbanks, -, harmed⟩ := loupeRevoke_rewrites hr hb hz
    refine ⟨t, ht, hanswers, hmailbox, hmgmt, ?_, ?_, fun k hk => ?_⟩
    · rw [hbanks]
      dsimp only
      rw [Tab.look_upd_self]
    · rw [List.all_eq_true]
      intro p hp
      rcases harmed with harmed | harmed <;> rw [harmed] at hp
      · exact (List.mem_filter.1 hp).2
      · exact (List.mem_filter.1 (List.mem_filter.1 hp).1).2
    · rw [hbanks]
      dsimp only
      rw [Tab.look_upd_other _ _ _ hk.symm]
  case setBank =>
    obtain ⟨t, ht, hanswers, hmailbox, hmgmt, hrest, hbanks, hctr, -⟩ := loupeSetBank_rewrites hr hb hm hw h1 h2
    have hbank := setBank_bank s.loupe b m w
    rw [← hbanks] at hbank
    obtain ⟨hmode, hwindow, hgrantee⟩ := hbank
    refine ⟨t, ht, hanswers, hmailbox, hmgmt, hrest, hmode, hwindow, hgrantee, fun hne i hi hcount => ?_, fun i hi hcount => ?_⟩
    · rw [hctr _ hcount, setBank_ctr_derived _ _ hne hi]
    · rw [hctr _ hcount, setBank_ctr_other _ _ _ hi]
  case preset =>
    obtain ⟨t, ht, hanswers, hmailbox, hmgmt, hrest, hbanks, hctr, harmed⟩ := loupePreset_rewrites hr hc hq hv hx hown hmode
    refine ⟨t, ht, hanswers, hmailbox, hmgmt, hrest, hbanks, fun hcount => ?_, fun hcount => ?_, fun i hi hcount => ?_⟩
    · rw [hctr _ hcount]
      exact Tab.look_put_self _ _ _ _
    · rw [← preset_armed s.loupe h.fn c q v x]
      rcases harmed with harmed | harmed <;> rw [harmed]
      exact find_filter_other _ hcount
    · rw [hctr _ hcount]
      exact Tab.look_put_other _ _ _ hi.symm
  case window =>
    refine Does.of_alive rfl ha ?_
    subst hk
    rw [onLoupeWindowEnd_of_due (.inl hm) hw ht]
    refine ⟨rfl, ?_, fun i hi => ?_, ?_, ?_, ?_, fun i hi => endWindow_ctr_other _ _ _ hi⟩
    · exact endWindow_bank _ _ _
    · rw [State.onLoupe, endWindow_ctr _ _ _ (by omega), loupeWindowValues, if_pos hm]
      interval_cases i <;> rfl
    · rw [State.onLoupe, endWindow_ctr _ _ _ (i := 4) (by decide), loupeWindowValues, if_pos hm]
      rfl
    · rw [State.onLoupe, endWindow_ctr _ _ _ (i := 6) (by decide), loupeWindowValues, if_pos hm]
      rfl
    · rw [State.onLoupe, endWindow_ctr _ _ _ (i := 7) (by decide), loupeWindowValues, if_pos hm]
      exact Nat.mod_mod _ _
  case slots =>
    refine Does.of_alive rfl ha ?_
    subst hk
    rw [onLoupeWindowEnd_of_due (.inr ⟨hm, rfl⟩) hw ht]
    have hone : ¬ (s.loupe.banks.look {} 256).mode = 1 := by simp [hm]
    rw [loupeWindowValues, if_neg hone]
    refine ⟨endWindow_ctr _ 256 _ (i := 0) (by decide), endWindow_ctr _ 256 _ (i := 1) (by decide), endWindow_ctr _ 256 _ (i := 3) (by decide), ?_⟩
    exact (endWindow_ctr _ 256 _ (i := 2) (by decide)).trans (congrArg (· % 2 ^ 48) tsub_min)
  case notDue => exact Does.of_alive rfl ha (onLoupeWindowEnd_of_not_due h)

end Sys2Proof.Machine
end

section

/-! ### The counter as one number (R52, R69) -/

namespace Sys2Proof.Machine

theorem setUnits_units {m : Mtc} {u : Nat} (hu : u < 2 ^ 48 * unitsPerSec) : (m.setUnits u).units = u := by
  have hsplit : u / unitsPerSec = u / 1048576 / 1000000000 := by rw [Nat.div_div_eq_div_mul, unitsPerSec, Nat.mul_comm]
  unfold unitsPerSec at hu
  simp only [Mtc.setUnits, Mtc.units, hsplit]
  omega

/-- The counter adds an offset that leaves it within its range. -/
theorem add_units {m : Mtc} {sec ns frac : Int} (hlo : 0 ≤ (m.units : Int) + (sec * 1000000000 + ns) * 1048576 + frac)
    (hhi : (m.units : Int) + (sec * 1000000000 + ns) * 1048576 + frac < 2 ^ 48 * 1000000000 * 1048576) :
    ((m.add sec ns frac).units : Int) = (m.units : Int) + (sec * 1000000000 + ns) * 1048576 + frac := by
  unfold Mtc.add
  extract_lets u
  have hmod : u % ((2 ^ 48 * unitsPerSec : Nat) : Int) = u := Int.emod_eq_of_lt hlo (by unfold unitsPerSec; omega)
  rw [hmod, setUnits_units (by unfold unitsPerSec; omega)]
  omega

/-- The carry of the residue in one cycle is small beside the cycle's own units (R52, R53). -/
theorem carry_small {res f : Int} (hr : res.natAbs < 343597383680) (hf : f.natAbs ≤ 2 ^ 47) :
    ((res + f).tdiv 343597383680).natAbs ≤ 411 := by
  rw [Int.natAbs_tdiv]
  change (res + f).natAbs / 343597383680 ≤ 411
  omega

theorem cycle_units {m : Mtc} {f : Int} (hm : m.units + 2 ^ 22 < 2 ^ 48 * unitsPerSec) (hr : m.res.natAbs < 343597383680)
    (hf : f.natAbs ≤ 2 ^ 47) :
    ((m.cycle f).units : Int) = m.units + (if (m.k + 1) % 5 < 3 then 1677722 else 1677721) + 8 * ((m.res + f).tdiv 343597383680) := by
  have hcarry := carry_small hr hf
  generalize hq : (m.res + f).tdiv 343597383680 = q at hcarry ⊢
  generalize hinc : (if (m.k + 1) % 5 < 3 then 1677722 else 1677721 : Int) = inc
  have hlong : inc = 1677722 ∨ inc = 1677721 := by
    rw [← hinc]
    exact ite_eq_or_eq _ _ _
  have hlt : ((m.units : Int) + (inc + 8 * q)).toNat < 2 ^ 48 * unitsPerSec := by
    unfold unitsPerSec at *
    omega
  have hunits : (m.cycle f).units = ((m.units : Int) + (inc + 8 * q)).toNat := by
    rw [← setUnits_units (m := m) hlt, ← hinc, ← hq]
    rfl
  omega

theorem cycle_res (m : Mtc) (f : Int) : (m.cycle f).res = (m.res + f).tmod 343597383680 := by
  rw [Int.tmod_def, Int.mul_comm]
  rfl

/-! ### The clock where no step is pending (R52, R56, R601) -/

theorem cyclesToStep_of_none {s : State} (h : s.tc.step = none) (n : Nat) : s.cyclesToStep n = n := by
  unfold State.cyclesToStep
  rw [h]

theorem cyclesToStep_of_due {s : State} {p : PendStep} (h : s.tc.step = some p) (hdue : p.due * unitsPerSec ≤ s.tc.mtc.units) (n : Nat) :
    s.cyclesToStep n = 0 := by
  unfold State.cyclesToStep
  simp only [h, if_pos hdue]

/-- One cycle of a running counter with no step pending. -/
theorem idleCycle_of_running {s : State} (ha : s.alive = true) (hrun : s.tc.mtc.running = true) (hstep : s.tc.step = none) :
    s.idleCycle = { s with tc := { s.tc with mtc := s.tc.mtc.tick, snap := s.idleCycle.tc.snap } } := by
  unfold State.idleCycle
  simp only [ha, hrun, cyclesToStep_of_none hstep, Bool.not_true, Bool.or_self, Nat.one_ne_zero, decide_false, Bool.false_eq_true, if_false]
  exact snapAt_frame _ _ _

theorem idleCycle_of_stopped {s : State} (h : s.tc.mtc.running = false ∨ s.alive = false) : s.idleCycle = s := by
  unfold State.idleCycle
  rcases h with h | h <;> simp [h]

theorem idleCycle_of_due {s : State} {p : PendStep} (h : s.tc.step = some p) (hdue : p.due * unitsPerSec ≤ s.tc.mtc.units) : s.idleCycle = s := by
  unfold State.idleCycle
  simp [cyclesToStep_of_due h hdue]

theorem step_of_idle {s : State} (h : s.pending = []) : step s = .next s.idleCycle := by
  unfold step
  rw [h]

/-- Settles O54: an idle step is the idle cycle, a running one a tick of the counter. -/
theorem idleStepIsOneTimeClockCycle : Obligations.IdleStepIsOneTimeClockCycle := by
  unfold Obligations.IdleStepIsOneTimeClockCycle
  refine ⟨fun s hp ha hrun hstep hslew hroom hf hr => ?running, fun s hp h => ?stopped, fun s p hp hstep hdue => ?due⟩
  case running =>
    have hframe := idleCycle_of_running ha hrun hstep
    have htick : s.idleCycle.tc.mtc = s.tc.mtc.cycle s.tc.mtc.freq := by
      rw [hframe]
      simp only [Mtc.tick, hslew]
    refine ⟨s.idleCycle, step_of_idle hp, ?_, ?_, ?_, ?_, ?_⟩
    · rw [htick, cycle_units hroom hr hf]
    · rw [htick, cycle_res]
    · rw [htick]
      rfl
    · rw [hframe]
    · rw [hframe]
  case stopped => rw [step_of_idle hp, idleCycle_of_stopped h]
  case due => rw [step_of_idle hp, idleCycle_of_due hstep hdue]

end Sys2Proof.Machine
end

section

/-! ### The commands of the Time Core (R58, R62-R69) -/

namespace Sys2Proof.Machine

theorem schedOk_of_pairwise {l : List LocalChange} (hok : ∀ c ∈ l, c.offset.natAbs ≤ 50400 ∧ c.sec < 2 ^ 48)
    (hinc : l.Pairwise fun a b => a.sec < b.sec) : schedOk l = true := by
  induction l with
  | nil => rfl
  | cons a r ih =>
    have ha := hok a List.mem_cons_self
    obtain ⟨hfirst, hrest⟩ := List.pairwise_cons.1 hinc
    have hr := ih (fun c hc => hok c (List.mem_cons_of_mem _ hc)) hrest
    cases r with
    | nil => simpa [schedOk, localOk] using ha
    | cons b r => simp [schedOk, localOk, ha, hr, hfirst b List.mem_cons_self]

/-- Settles O1: each of the seven runs as one ready command that writes its own words. -/
theorem timeCoreCommands : Obligations.TimeCoreCommands := by
  unfold Obligations.TimeCoreCommands
  refine ⟨fun h s rate hr hlo hhi => ?slew, fun h s a hr hhold hacq hacq' hauto hlock hlock' hlim hlim' hthr hthr' => ?acquire,
    fun h s offset l hr hlen hoff hok hinc => ?localOffset, fun h s force l hr hforce hlen hlen' hok hneed => ?leapTable,
    fun h s force hr hforce => ?force, fun h s hr hlost => ?release, fun h s sec ns frac hr hargs hts hstep => ?stepTime⟩
  case slew =>
    have hargs : (cmdEnsSetSlew h rate).2.argOk (s.fetchedFor (cmdEnsSetSlew h rate).1 h) = true := by simp [cmdEnsSetSlew, hlo, hhi]
    exact runCommand_completes hr hargs rfl rfl rfl nofun rfl rfl (((Calm.refl _).onTc _).store _ _)
  case acquire =>
    have hargs : (cmdEnsSetAcquire h a).2.argOk (s.fetchedFor (cmdEnsSetAcquire h a).1 h) = true := by
      simp [cmdEnsSetAcquire, hhold, hacq, hacq', hauto, hlock, hlock', hlim, hlim', hthr, hthr', hhold.trans hacq]
    exact runCommand_completes hr hargs rfl rfl rfl nofun rfl rfl (((Calm.refl _).onTc _).store _ _)
  case localOffset =>
    have hargs : (cmdEnsSetLocalOffset h l.length offset l).2.argOk (s.fetchedFor (cmdEnsSetLocalOffset h l.length offset l).1 h) = true := by
      simp [cmdEnsSetLocalOffset, localOk, hlen, hoff, schedOk_of_pairwise hok hinc]
    exact runCommand_completes hr hargs rfl rfl rfl nofun rfl rfl (((Calm.refl _).onTc _).store _ _)
  case leapTable =>
    have hargs : (cmdEnsSetLeapTable h force l.length l).2.argOk (s.fetchedFor (cmdEnsSetLeapTable h force l.length l).1 h) = true := by
      simp [cmdEnsSetLeapTable, hforce, hlen, hlen', hok]
    have hstate : (force = 0 && leapNeedsForce s.tc.leap l s.sec) = false := by simpa [State.sec] using hneed
    have hcheck : (cmdEnsSetLeapTable h force l.length l).2.check (s.fetchedFor (cmdEnsSetLeapTable h force l.length l).1 h) = {} := by
      simp [cmdEnsSetLeapTable, judge, hstate]
    exact runCommand_completes hr hargs (congrArg Judged.status hcheck) rfl rfl nofun rfl rfl (((Calm.refl _).onTc _).store _ _)
  case force =>
    have hargs : (cmdEnsForceState h force).2.argOk (s.fetchedFor (cmdEnsForceState h force).1 h) = true := by simpa [cmdEnsForceState] using hforce
    exact runCommand_completes hr hargs rfl rfl rfl nofun rfl rfl (((Calm.refl _).onTc _).touch _ _)
  case release =>
    have hcheck : (cmdEnsReleaseLost h).2.check (s.fetchedFor (cmdEnsReleaseLost h).1 h) = {} := by simp [cmdEnsReleaseLost, judge, hlost]
    exact runCommand_completes hr rfl (congrArg Judged.status hcheck) rfl rfl nofun rfl rfl ((Calm.refl _).rest rfl rfl rfl)
  case stepTime =>
    have hcheck : (cmdEnsStepTime h sec ns frac).2.check (s.fetchedFor (cmdEnsStepTime h sec ns frac).1 h) = {} := by
      simp [cmdEnsStepTime, judge, hts, hstep]
    exact runCommand_completes hr hargs (congrArg Judged.status hcheck) rfl rfl nofun rfl rfl ((Calm.refl _).rest rfl rfl rfl)

end Sys2Proof.Machine
end

section

/-! ### The running clock, leap seconds and local time (R52-R62, R68, R601) -/

namespace Sys2Proof.Machine

/-- Where the counter passes no millisecond instant, the snapshot stays. -/
theorem snapAt_of_same {s : State} {a b : Nat} (h : a / unitsPerMs = b / unitsPerMs) : s.snapAt a b = s := by
  simp [State.snapAt, h]

/-- The snapshot of the last millisecond instant passed, two counts for each of them. -/
theorem snapAt_of_passed {s : State} {a b : Nat} (h : a / unitsPerMs < b / unitsPerMs) :
    (s.snapAt a b).tc.snap = {
      seq := (s.tc.snap.seq + 2 * (b / unitsPerMs - a / unitsPerMs)) % 2 ^ 32, sec := b / unitsPerMs / 1000 % 2 ^ 48, ns := b / unitsPerMs % 1000 * 1000000
      taiUtc := leapOffset s.tc.leap (b / unitsPerMs / 1000 % 2 ^ 48), leap61 := leap61At s.tc.leap (b / unitsPerMs / 1000 % 2 ^ 48)
      leap59 := leap59At s.tc.leap (b / unitsPerMs / 1000 % 2 ^ 48), table := !s.tc.leap.isEmpty, state := s.tc.ts.code, loc := s.tc.localOff } := by
  unfold State.snapAt
  dsimp only
  rw [if_neg (by omega)]
  rfl

/-- A running clock with no step pending, by the cycles and the instants they pass. -/
theorem runClock_of_running {s : State} {n : Nat} (ha : s.alive = true) (hrun : s.tc.mtc.running = true) (hstep : s.tc.step = none)
    (hup : s.tc.mtc.units ≤ (s.tc.mtc.run n).units) :
    s.runClock n = (s.onTc fun c => { c with mtc := c.mtc.run n }).snapAt s.tc.mtc.units (s.tc.mtc.run n).units := by
  unfold State.runClock
  simp only [ha, hrun, cyclesToStep_of_none hstep, Bool.not_true, Bool.or_self, Bool.false_eq_true, if_false, onTc_tc, ge_iff_le, hup, if_true,
    Nat.add_sub_cancel' hup]

/-- Where a slew is in progress, as many cycles as it needs end it (R68). -/
theorem run_slew_ends {m : Mtc} {sl : Slew} (h : m.slew = some sl) : (m.run (max 1 sl.left)).slew = none := by
  unfold Mtc.run
  simp [h]

theorem onSlewComplete_of_some {s : State} {sl : Slew} (h : s.tc.mtc.slew = some sl) : onSlewComplete s = s.runClock (max 1 sl.left) := by
  unfold onSlewComplete
  rw [h]

/-- Of an announcement that starts or ends: the flags follow the table, and fresh records fall due (R60, R76). -/
structure Announces (s t : State) : Prop where
  rest : t = { s with tc := t.tc, hall := t.hall }
  tc : t.tc = { s.tc with ann61 := leap61At s.tc.leap s.tc.mtc.sec, ann59 := leap59At s.tc.leap s.tc.mtc.sec }
  hall : t.hall = { s.hall with dueAll := t.hall.dueAll }
  due : t.tc ≠ s.tc → t.hall.dueAll = true
  keeps : s.hall.dueAll = true → t.hall.dueAll = true

theorem reannounce_announces (s : State) : Announces s s.reannounce := by
  unfold State.reannounce
  extract_lets a b
  split
  case isTrue h =>
    obtain ⟨ha, hb⟩ : a = s.tc.ann61 ∧ b = s.tc.ann59 := by simpa using h
    have htc : s.tc = { s.tc with ann61 := a, ann59 := b } := by rw [ha, hb]
    exact ⟨rfl, htc, rfl, fun hne => absurd rfl hne, id⟩
  case isFalse => exact ⟨rfl, rfl, rfl, fun _ => rfl, fun _ => rfl⟩

/-- The awaited table in force, its change of the offset counted (R58). -/
def State.takeTable (s : State) (p : PendLeap) : State :=
  let t := s.onTc fun c => { c with leap := p.entries, leapNext := none, gen := if p.genInc then (c.gen + 1) % 65536 else c.gen }
  if p.genInc then t.hallDueAll else t

theorem takeTable_rest (s : State) (p : PendLeap) : s.takeTable p = { s with tc := (s.takeTable p).tc, hall := (s.takeTable p).hall } := by
  unfold State.takeTable
  split <;> rfl

theorem takeTable_tc (s : State) (p : PendLeap) :
    (s.takeTable p).tc = { s.tc with leap := p.entries, leapNext := none, gen := if p.genInc then (s.tc.gen + 1) % 65536 else s.tc.gen } := by
  unfold State.takeTable
  split <;> rfl

theorem takeTable_hall (s : State) (p : PendLeap) : (s.takeTable p).hall = { s.hall with dueAll := p.genInc || s.hall.dueAll } := by
  unfold State.takeTable
  split
  · next h => rw [h]; rfl
  · next h => rw [Bool.not_eq_true] at h; rw [h]; rfl

theorem onLeapTableEffect_of_due {s : State} {p : PendLeap} (h : s.tc.leapNext = some p) (hdue : p.due ≤ s.tc.mtc.sec) :
    onLeapTableEffect s = (s.takeTable p).reannounce := by
  unfold onLeapTableEffect
  have hnow : ¬ s.sec < p.due := Nat.not_lt.2 hdue
  simp only [h, if_neg hnow]
  rfl

/-- Settles O2: the clock by its cycles, a table by its entry into force and the announcement that follows. -/
theorem timeCoreEvents : Obligations.TimeCoreEvents := by
  unfold Obligations.TimeCoreEvents
  refine ⟨fun s n ha hrun hstep hup => ?snapshot, fun s sl ha hrun hstep hslew => ?slew, fun s p ha hnext hdue => ?table, fun s ha => ?announcement,
    fun s c r ha hsched => ?localOffset⟩
  case snapshot =>
    have hframe := runClock_frame s n ha hrun
    rw [cyclesToStep_of_none hstep] at hframe
    have hrunning := runClock_of_running ha hrun hstep hup
    refine Does.of_alive rfl ha ⟨?_, ?_, fun hsame => ?_, fun hpassed => ?_⟩ <;> unfold onSnapshotUpdate
    · rw [hframe]
    · rw [hframe]
    · rw [hrunning, snapAt_of_same hsame]
      rfl
    · rw [hrunning, snapAt_of_passed hpassed]
      rfl
  case slew =>
    have hframe := runClock_frame s (max 1 sl.left) ha hrun
    rw [cyclesToStep_of_none hstep] at hframe
    refine Does.of_alive rfl ha ?_
    rw [onSlewComplete_of_some hslew, hframe]
    exact ⟨rfl, rfl, run_slew_ends hslew⟩
  case table =>
    have htake := onLeapTableEffect_of_due hnext hdue
    obtain ⟨hrest, htc, hhall, -, hkeeps⟩ := reannounce_announces (s.takeTable p)
    rw [takeTable_tc] at htc
    refine Does.of_alive rfl ha ?_
    rw [htake]
    refine ⟨?_, htc, fun hgen => hkeeps ?_, ?_⟩
    · rw [hrest, takeTable_rest]
    · rw [takeTable_hall, hgen]
      rfl
    · rw [hhall, takeTable_hall]
  case announcement =>
    obtain ⟨hrest, htc, hhall, hdue, -⟩ := reannounce_announces s
    exact Does.of_alive rfl ha ⟨hrest, htc, hhall, hdue⟩
  case localOffset =>
    refine Does.of_alive rfl ha ?_
    unfold onLocalOffsetChange
    rw [hsched]
    rfl

end Sys2Proof.Machine
end

section

/-! ### What a step makes of the output pins (R219-R222) -/

namespace Sys2Proof.Machine

/-- The output pins alone, and the records that fall due with them. -/
def PinsOnly (s t : State) : Prop := t = { s with out := t.out, hall := { s.hall with due := t.hall.due } }

theorem PinsOnly.refl (s : State) : PinsOnly s s := rfl

theorem PinsOnly.trans {s t u : State} (h : PinsOnly s t) (k : PinsOnly t u) : PinsOnly s u := by
  unfold PinsOnly at *
  rw [k, h]

theorem foldl_pinsOnly {α : Type} {g : State → α → State} (hg : ∀ s x, PinsOnly s (g s x)) (l : List α) (s : State) : PinsOnly s (l.foldl g s) :=
  foldl_relates .refl .trans hg l s

theorem onPin_pinsOnly (s : State) (key : Nat) (f : OutPin → OutPin) : PinsOnly s (s.onPin key f) := rfl

theorem followPin_pinsOnly (s : State) (key : Nat) : PinsOnly s (s.followPin key) := by
  unfold State.followPin
  extract_lets o held tb gen st cfg o1 s1
  have h1 : PinsOnly s s1 := by
    unfold s1
    split
    · exact .refl s
    · exact onPin_pinsOnly _ _ _
  split
  · exact h1
  · exact h1.trans rfl

theorem moveTarget_pinsOnly (s : State) (key : Nat) (d : Rat) : PinsOnly s (s.moveTarget key d) := by
  unfold State.moveTarget
  extract_lets o
  split
  · exact .refl s
  · exact (onPin_pinsOnly _ _ _).trans (followPin_pinsOnly _ _)

theorem offsetEffect_pinsOnly (s : State) (key : Nat) : PinsOnly s (s.offsetEffect key) := by
  unfold State.offsetEffect
  extract_lets o
  split
  · exact .refl s
  · split
    · exact .refl s
    · split
      · exact .refl s
      · exact (onPin_pinsOnly _ _ _).trans (moveTarget_pinsOnly _ _ _)

theorem stepPins_pinsOnly (s : State) (d : Rat) : PinsOnly s (s.stepPins d) := by
  refine PinsOnly.trans (t := s.onOut _) rfl (foldl_pinsOnly (fun t k => ?_) _ _)
  dsimp only
  split
  · exact (onPin_pinsOnly _ _ _).trans (moveTarget_pinsOnly _ _ _)
  · exact .refl t

/-! ### The frames a step discards (R69, R331) -/

/-- Frames go: the ports, the traffic manager, the mailboxes, the log and the counters move. -/
def FramesOnly (s t : State) : Prop := t = { s with ports := t.ports, tm := t.tm, mbx := t.mbx, mgmt := t.mgmt, loupe := t.loupe }

theorem FramesOnly.refl (s : State) : FramesOnly s s := rfl

theorem FramesOnly.trans {s t u : State} (h : FramesOnly s t) (k : FramesOnly t u) : FramesOnly s u := by
  unfold FramesOnly at *
  rw [k, h]

theorem foldl_framesOnly {α : Type} {g : State → α → State} (hg : ∀ s x, FramesOnly s (g s x)) (l : List α) (s : State) : FramesOnly s (l.foldl g s) :=
  foldl_relates .refl .trans hg l s

theorem SendingOnly.framesOnly {s t : State} (h : SendingOnly s t) : FramesOnly s t := by
  unfold SendingOnly at h
  unfold FramesOnly
  rw [h]

theorem Reports.framesOnly {s t : State} (h : Reports s t) : FramesOnly s t := by
  unfold Reports at h
  unfold FramesOnly
  rw [h]

theorem countBezel_framesOnly (s : State) (b pos : Nat) : FramesOnly s (s.countBezel b pos) := (countBezel_quiet _ _ _).reports.framesOnly

theorem onPort_framesOnly (s : State) (p : Nat) (f : PortSt → PortSt) : FramesOnly s (s.onPort p f) := rfl

theorem freeRx_framesOnly (s : State) (e : TseIn) : FramesOnly s (s.freeRx e) := rfl

theorem dropFrame_framesOnly (s : State) (f : TxFrame) : FramesOnly s (s.dropFrame f) := rfl

theorem followShapers_framesOnly (s : State) (p : Nat) (f : TxFrame) : FramesOnly s (s.followShapers p f) :=
  (followShapers_trafficOnly _ _ _).sending.framesOnly

theorem stepDrop_framesOnly (p : Nat) (s : State) (f : TxFrame) : FramesOnly s (State.stepDrop p s f) :=
  (((countBezel_framesOnly _ _ _).trans (dropFrame_framesOnly _ _)).trans (followShapers_framesOnly _ _ _)).trans (backFrame_sending _ _ _).framesOnly

theorem purge_framesOnly (s : State) (p : Nat) (out : TxFrame → Bool) {act : TxFrame → State → State} (hact : ∀ f t, FramesOnly t (act f t)) :
    FramesOnly s (s.purge p out act) := by
  refine foldl_framesOnly (fun t c => ?_) _ _
  dsimp only
  split
  · exact .refl t
  · refine FramesOnly.trans (t := t.onSvcQ p c _) rfl (foldl_framesOnly (fun u f => ?_) _ _)
    exact ((dropFrame_framesOnly u f).trans (hact _ _)).trans (followShapers_framesOnly _ _ _)

theorem stepPort_framesOnly (s : State) (p : Nat) : FramesOnly s (s.stepPort p) := by
  unfold State.stepPort
  dsimp only
  refine FramesOnly.trans ?_ (foldl_framesOnly (fun t e => countBezel_framesOnly _ _ _) _ _)
  refine FramesOnly.trans ?_ (foldl_framesOnly (stepDrop_framesOnly p) _ _)
  refine FramesOnly.trans ?_ (onPort_framesOnly _ _ _)
  exact purge_framesOnly _ _ _ fun f t => (countBezel_framesOnly _ _ _).trans (backFrame_sending _ _ _).framesOnly

/-- As `FramesOnly`, and what the TSE holds. -/
def ServiceOnly (s t : State) : Prop := t = { s with ports := t.ports, tm := t.tm, mbx := t.mbx, mgmt := t.mgmt, loupe := t.loupe, tse := t.tse }

theorem ServiceOnly.refl (s : State) : ServiceOnly s s := rfl

theorem ServiceOnly.trans {s t u : State} (h : ServiceOnly s t) (k : ServiceOnly t u) : ServiceOnly s u := by
  unfold ServiceOnly at *
  rw [k, h]

theorem foldl_serviceOnly {α : Type} {g : State → α → State} (hg : ∀ s x, ServiceOnly s (g s x)) (l : List α) (s : State) : ServiceOnly s (l.foldl g s) :=
  foldl_relates .refl .trans hg l s

theorem FramesOnly.serviceOnly {s t : State} (h : FramesOnly s t) : ServiceOnly s t := by
  unfold FramesOnly at h
  unfold ServiceOnly
  rw [h]

theorem derive_framesOnly (s : State) (bank mode pos n : Nat) : FramesOnly s (s.derive bank mode pos n) := by
  unfold State.derive
  split <;> rfl

theorem slotWasted_framesOnly (s : State) (b : Nat) : FramesOnly s (s.slotWasted b) := by
  unfold State.slotWasted
  dsimp only
  split
  · exact derive_framesOnly _ _ _ _ _
  · exact (derive_framesOnly _ _ _ _ _).trans (derive_framesOnly _ _ _ _ _)

theorem onTse_serviceOnly (s : State) (f : TseSt → TseSt) : ServiceOnly s (s.onTse f) := rfl

theorem dropWork_serviceOnly (s : State) (w : Work) : ServiceOnly s (s.dropWork w) :=
  (ServiceOnly.trans (t := s.onTse fun x => { x with works := x.works.filter fun y => y.id != w.id }) rfl
    (slotWasted_framesOnly _ _).serviceOnly).trans rfl

/-- A request not yet taken up goes: its cells are freed and its slot is lost. -/
theorem dropAsk_serviceOnly (s : State) (e : TseIn) : ServiceOnly s (((s.countBezel e.bezel 25).freeRx e).slotWasted e.bezel) :=
  (((countBezel_framesOnly _ _ _).trans (freeRx_framesOnly _ _)).trans (slotWasted_framesOnly _ _)).serviceOnly

theorem stepTse_serviceOnly (s : State) : ServiceOnly s s.stepTse := by
  unfold State.stepTse
  dsimp only
  refine ServiceOnly.trans ?_ (onTse_serviceOnly _ _)
  refine ServiceOnly.trans ?_ (foldl_serviceOnly (fun t q => foldl_serviceOnly dropAsk_serviceOnly _ _) _ _)
  refine ServiceOnly.trans ?_ (foldl_serviceOnly (fun t w => ?_) _ _)
  · exact foldl_serviceOnly (fun t q => foldl_serviceOnly (fun u e => (stepDrop_framesOnly _ _ _).serviceOnly) _ _) _ _
  · refine ServiceOnly.trans ?_ (dropWork_serviceOnly _ _)
    split
    · exact .refl t
    · exact (countBezel_framesOnly _ _ _).serviceOnly

theorem stepTse_waits (s : State) : s.stepTse.tse.waits = [] := rfl

/-! ### The step cycle, part by part (R69) -/

/-- The counter takes the offset and its cycle, an OFFSET change due at the same second with it. -/
def State.stepClock (s : State) (p : PendStep) : State :=
  ((outKeys.foldl State.offsetEffect s).onTc fun c => c.stepped p).pushHist.idleCycle

/-- The records are withdrawn, and what is kept of the counter's readings moves with it. -/
def State.stepReadings (s : State) (p : PendStep) : State :=
  ((s.onHall fun h => { h with withdrawn := true }).hallDueAll.stepFrame p.units).onGnss fun g => { g with stepAt := some p.due }

/-- Frames that bear the old time go. -/
def State.stepFrames (s : State) : State := (s.ports.ports.map (·.1)).foldl State.stepPort s.stepTse

/-- OFFSET changes that still wait are put off, and every running output moves by the offset. -/
def State.stepOutputs (s : State) (p : PendStep) : State :=
  (outKeys.foldl (fun (t : State) k => if (t.pin k).next.isSome then t.onPin k fun o => o.putOff (t.topAfter 2000000) else t) s).stepPins
    ((p.units : Rat) * 1000 / 1048576)

theorem stepDue_of_due {s : State} {p : PendStep} (h : s.tc.step = some p) (hrun : s.tc.mtc.running = true)
    (hdue : p.due * unitsPerSec ≤ s.tc.mtc.units) : s.stepDue = some p := by
  unfold State.stepDue
  simp [h, hrun, hdue]

theorem stepDue_of_stopped {s : State} (h : s.tc.step = none ∨ s.tc.mtc.running = false) : s.stepDue = none := by
  unfold State.stepDue
  rcases h with h | h
  · rw [h]
  · split
    · rfl
    · simp [h]

theorem stepDue_of_early {s : State} {p : PendStep} (h : s.tc.step = some p) (hdue : s.tc.mtc.units < p.due * unitsPerSec) : s.stepDue = none := by
  unfold State.stepDue
  simp [h, hdue]

theorem onStepCycle_of_due {s : State} {p : PendStep} (h : s.stepDue = some p) :
    onStepCycle s = (((s.stepClock p).stepReadings p).stepFrames).stepOutputs p := by
  unfold onStepCycle State.stepOutputs State.stepFrames State.stepReadings State.stepClock
  simp only [h]

theorem onStepCycle_of_none {s : State} (h : s.stepDue = none) : onStepCycle s = s := by
  unfold onStepCycle
  rw [h]

/-- The Time Core after the step cycle's own cycle. -/
theorem stepClock_frame {s : State} {p : PendStep} (ha : s.alive = true) (hrun : s.tc.mtc.running = true) :
    s.stepClock p = { s with
      tc := { s.tc.stepped p with mtc := (s.tc.stepped p).mtc.tick, hist := (s.stepClock p).tc.hist, snap := (s.stepClock p).tc.snap }
      out := (s.stepClock p).out, hall := { s.hall with due := (s.stepClock p).hall.due } } := by
  have hpins := foldl_pinsOnly offsetEffect_pinsOnly outKeys s
  unfold State.stepClock
  generalize outKeys.foldl State.offsetEffect s = u at hpins ⊢
  unfold PinsOnly at hpins
  have halive : (u.onTc fun c => c.stepped p).pushHist.alive = true := by
    rw [← ha, hpins]
    rfl
  have hrunning : (u.onTc fun c => c.stepped p).pushHist.tc.mtc.running = true := by
    rw [← hrun, hpins]
    rfl
  rw [idleCycle_of_running halive hrunning rfl, hpins]
  rfl

theorem stepClock_tc {s : State} {p : PendStep} (ha : s.alive = true) (hrun : s.tc.mtc.running = true) : (s.stepClock p).tc =
    { s.tc.stepped p with mtc := (s.tc.stepped p).mtc.tick, hist := (s.stepClock p).tc.hist, snap := (s.stepClock p).tc.snap } :=
  congrArg State.tc (stepClock_frame ha hrun)

theorem stepClock_kept {s : State} {p : PendStep} (ha : s.alive = true) (hrun : s.tc.mtc.running = true) :
    (s.stepClock p).ref = s.ref ∧ (s.stepClock p).ens = s.ens ∧ (s.stepClock p).pwr = s.pwr ∧ (s.stepClock p).bez = s.bez ∧
      (s.stepClock p).pending = s.pending := by
  rw [stepClock_frame ha hrun]
  exact ⟨rfl, rfl, rfl, rfl, rfl⟩

theorem stepFrames_serviceOnly (s : State) : ServiceOnly s s.stepFrames :=
  (stepTse_serviceOnly s).trans (foldl_framesOnly stepPort_framesOnly _ _).serviceOnly

theorem stepFrames_waits (s : State) : s.stepFrames.tse.waits = [] := by
  have h : FramesOnly s.stepTse s.stepFrames := foldl_framesOnly stepPort_framesOnly _ _
  unfold FramesOnly at h
  rw [h]
  exact stepTse_waits s

theorem stepOutputs_pinsOnly (s : State) (p : PendStep) : PinsOnly s (s.stepOutputs p) := by
  refine PinsOnly.trans (foldl_pinsOnly (fun t k => ?_) _ _) (stepPins_pinsOnly _ _)
  split
  · exact onPin_pinsOnly _ _ _
  · exact .refl t

/-- The last in-window edge of every PPSI moves with the counter (R88). -/
theorem stepFrame_pps_last (s : State) (d : Int) (k : Nat) : ((State.stepFrame d s).pps k).last = (s.pps k).last.map (· + d) := by
  change ((s.ref.pps.mapAll fun _ x => PpsIn.stepped d x).look {} k).last = (s.ref.pps.look {} k).last.map (· + d)
  induction s.ref.pps with
  | nil => rfl
  | cons e r ih =>
    obtain ⟨j, x⟩ := e
    change (if j = k then PpsIn.stepped d x else (Tab.mapAll r fun _ x => PpsIn.stepped d x).look {} k).last =
      (if j = k then x else Tab.look r {} k).last.map (· + d)
    split
    · rfl
    · exact ih

/-- What the step cycle leaves, from the state after the counter's own cycle. -/
structure Stepped (p : PendStep) (u t : State) : Prop where
  tc : t.tc = u.tc
  withdrawn : t.hall.withdrawn = true
  due : t.hall.dueAll = true
  waits : t.tse.waits = []
  last : ∀ k, (t.pps k).last = (u.pps k).last.map (· + p.units)
  offset : t.ens.post.x = u.ens.post.x + unitsPs p.units
  kept : t.pwr = u.pwr ∧ t.bez = u.bez ∧ t.pending = u.pending

theorem stepped_of_parts (p : PendStep) (u : State) : Stepped p u ((u.stepReadings p).stepFrames.stepOutputs p) := by
  have hwaits := stepFrames_waits (u.stepReadings p)
  have hframes := stepFrames_serviceOnly (u.stepReadings p)
  have houts := stepOutputs_pinsOnly (u.stepReadings p).stepFrames p
  unfold ServiceOnly at hframes
  unfold PinsOnly at houts
  refine ⟨?_, ?_, ?_, ?_, fun k => ?_, ?_, ?_, ?_, ?_⟩
  · rw [houts, hframes]
    rfl
  · rw [houts, hframes]
    rfl
  · rw [houts, hframes]
    rfl
  · rw [houts]
    exact hwaits
  · have href : ((u.stepReadings p).stepFrames.stepOutputs p).ref = (u.stepReadings p).ref := by rw [houts, hframes]
    exact (congrArg (fun x : RefSt => (x.pps.look {} k).last) href).trans (stepFrame_pps_last _ _ k)
  all_goals
    rw [houts, hframes]
    rfl

/-- Settles O48: the counter by its jump and one cycle, the rest by what each part of the cycle leaves alone. -/
theorem stepCycle : Obligations.StepCycle := by
  unfold Obligations.StepCycle
  refine ⟨fun s p ha hstep hrun hdue => ?due, fun s ha h => ?stopped, fun s p ha hstep hearly => ?early, fun m a b c hlo hhi => add_units hlo hhi⟩
  case due =>
    obtain ⟨href, hens, hpwr', hbez', hpending'⟩ := stepClock_kept (p := p) ha hrun
    obtain ⟨htc, hwithdrawn, hdueAll, hwaits, hlast, hoffset, hpwr, hbez, hpending⟩ := stepped_of_parts p (s.stepClock p)
    refine Does.of_alive rfl ha ?_
    rw [onStepCycle_of_due (stepDue_of_due hstep hrun hdue), htc, stepClock_tc ha hrun, hoffset, hens]
    refine ⟨rfl, rfl, rfl, rfl, rfl, rfl, rfl, rfl, hwithdrawn, hdueAll, hwaits, fun k => ?_, rfl, hpwr.trans hpwr', hbez.trans hbez',
      hpending.trans hpending'⟩
    rw [hlast k, State.pps, href]
    rfl
  case stopped => exact Does.of_alive rfl ha (onStepCycle_of_none (stepDue_of_stopped h))
  case early => exact Does.of_alive rfl ha (onStepCycle_of_none (stepDue_of_early hstep hearly))

end Sys2Proof.Machine
end

section

/-! ### Each place of a table written once -/

namespace Sys2Proof.Machine

theorem foldl_onIn_inp (f : RefIn → RefIn) {l : List Nat} (hl : l.Nodup) (s : State) (q : Nat) :
    (l.foldl (fun t r => t.onIn r f) s).inp q = if q ∈ l then f (s.inp q) else s.inp q := by
  induction l generalizing s with
  | nil => rfl
  | cons r l ih =>
    obtain ⟨hr, hl⟩ := List.nodup_cons.1 hl
    rw [List.foldl_cons, ih hl, onIn_inp]
    by_cases hq : r = q
    · subst hq
      simp [hr]
    · simp [hq, Ne.symm hq]

theorem onRa_ra (s : State) (r q : Nat) (f : RefAssay → RefAssay) : (s.onRa r f).ra q = if r = q then f (s.ra r) else s.ra q :=
  Tab.look_upd _ _ _ _ _

theorem foldl_onRa_ra (f : RefAssay → RefAssay) {l : List Nat} (hl : l.Nodup) (s : State) (q : Nat) :
    (l.foldl (fun t r => t.onRa r f) s).ra q = if q ∈ l then f (s.ra q) else s.ra q := by
  induction l generalizing s with
  | nil => rfl
  | cons r l ih =>
    obtain ⟨hr, hl⟩ := List.nodup_cons.1 hl
    rw [List.foldl_cons, ih hl, onRa_ra]
    by_cases hq : r = q
    · subst hq
      simp [hr]
    · simp [hq, Ne.symm hq]

theorem look_mapPair {α : Type} (g : Nat → α) (d : α) {l : List Nat} {r : Nat} (hr : r ∈ l) :
    Tab.look (l.map fun q => (q, g q)) d r = g r := by
  induction l with
  | nil => cases hr
  | cons q l ih =>
    change (if q = r then g q else Tab.look (l.map fun q => (q, g q)) d r) = g r
    split
    · next h => rw [h]
    · next h => exact ih ((List.mem_cons.1 hr).resolve_left (Ne.symm h))

theorem allRefs_nodup : allRefs.Nodup := by decide

theorem mem_allRefs {r : Nat} (h : refOk r = true) : r ∈ allRefs := by
  simp only [refOk, Bool.or_eq_true, Bool.and_eq_true, decide_eq_true_eq] at h
  simp only [allRefs, List.mem_append, List.mem_range, List.mem_map]
  rcases h with h | ⟨hlo, hhi⟩
  · exact .inl (by omega)
  · exact .inr ⟨r - 32, by omega, by omega⟩

end Sys2Proof.Machine
end

section

/-! ### The latch (R85, R98, R99, R170) -/

namespace Sys2Proof.Machine

/-- The inputs other than network references stay. -/
def LocalInputsKept (s t : State) : Prop := ∀ r, r ≤ 16 → t.inp r = s.inp r

theorem LocalInputsKept.refl (s : State) : LocalInputsKept s s := fun _ _ => rfl

theorem LocalInputsKept.trans {s t u : State} (h : LocalInputsKept s t) (k : LocalInputsKept t u) : LocalInputsKept s u :=
  fun r hr => (k r hr).trans (h r hr)

theorem LocalInputsKept.of_ref {s t : State} (h : t.ref.ins = s.ref.ins) : LocalInputsKept s t := fun r _ => congrArg (fun x : Tab RefIn => x.look {} r) h

theorem foldl_keepsLocal {α : Type} {g : State → α → State} (hg : ∀ s x, LocalInputsKept s (g s x)) (l : List α) (s : State) :
    LocalInputsKept s (l.foldl g s) := foldl_relates .refl .trans hg l s

theorem onIn_keepsLocal (s : State) (n : Nat) (f : RefIn → RefIn) : LocalInputsKept s (s.onIn (refNref n) f) := fun r hr =>
  onIn_inp_other _ _ (by unfold refNref; omega)

theorem setIn_keepsLocal (s : State) (n : Nat) (st : InState) : LocalInputsKept s (s.setIn (refNref n) st) := fun r hr => by
  rw [setIn_inp, if_neg (by unfold refNref; omega)]

theorem goodIn_keepsLocal (s : State) (n need : Nat) : LocalInputsKept s (s.goodIn (refNref n) need) := by
  unfold State.goodIn
  extract_lets x s0
  have h0 : LocalInputsKept s s0 := onIn_keepsLocal _ _ _
  split
  · exact (h0.trans (setIn_keepsLocal _ _ _)).trans (onIn_keepsLocal _ _ _)
  · exact (h0.trans (setIn_keepsLocal _ _ _)).trans (onIn_keepsLocal _ _ _)
  · split
    · exact (h0.trans (onIn_keepsLocal _ _ _)).trans (setIn_keepsLocal _ _ _)
    · exact h0.trans (onIn_keepsLocal _ _ _)
  · exact h0
  · exact .refl s
  · exact .refl s

theorem nrefWindow_keepsLocal (s : State) (n : Nat) : LocalInputsKept s (s.nrefWindow n) := by
  unfold State.nrefWindow
  extract_lets r x st q o h jump s1 j t s2 s3
  have hnref : ∀ (u : State) f, LocalInputsKept u (u.onNref n f) := fun u f => .of_ref rfl
  split
  · exact .refl s
  · split
    · split
      · split
        · exact (setIn_keepsLocal s n _).trans (hnref _ _)
        · exact hnref _ _
      · exact hnref _ _
    · have h1 : LocalInputsKept s s1 := hnref _ _
      have h2 : LocalInputsKept s1 s2 := by
        unfold s2
        split
        · split
          · exact .of_ref rfl
          · exact .of_ref rfl
        · exact .refl s1
      exact ((h1.trans h2).trans (goodIn_keepsLocal _ _ _)).trans (onIn_keepsLocal _ _ _)

/-- Each input as the latch holds it (R85). -/
def RefIn.hold (x : RefIn) : RefIn :=
  { x with latched := x.st, latchedMeas := x.meas, latchedVar := x.var, latchedFreq := x.freq, meas := none, freq := none }

theorem onPps_keepsLocal (s : State) (n : Nat) (f : PpsIn → PpsIn) : LocalInputsKept s (s.onPps n f) := .of_ref rfl

theorem latchNref_keepsLocal (s : State) (n : Nat) : LocalInputsKept s (s.latchNref n) := .of_ref rfl

theorem onSteer_keepsLocal (s : State) (n : Nat) (f : SteerCfg → SteerCfg) : LocalInputsKept s (s.onSteer n f) := .of_ref rfl

theorem latchAll_inp (s : State) {r : Nat} (hr : r ≤ 16) : s.latchAll.inp r = (s.inp r).hold := by
  unfold State.latchAll
  dsimp only
  rw [foldl_keepsLocal latchNref_keepsLocal _ _ r hr, foldl_keepsLocal (fun t n => onPps_keepsLocal t n _) _ _ r hr]
  exact (foldl_onIn_inp RefIn.hold allRefs_nodup s r).trans (if_pos (mem_allRefs (by simp [refOk, hr])))

theorem creditAll_keepsLocal (s : State) : LocalInputsKept s s.creditAll := foldl_keepsLocal (fun _ _ => onSteer_keepsLocal _ _ _) _ _

theorem sendMeas_eq (s : State) : s.sendMeas = { s with clasp := { s.clasp with sent := s.sendMeas.clasp.sent } } := by
  unfold State.sendMeas
  split <;> rfl

/-- Every reference as the latch finds it, its window ended and its correction credited. -/
def State.heldForUpdate (s : State) : State := ((List.range 16).foldl State.nrefWindow s).latchAll.creditAll

theorem heldForUpdate_tc (s : State) : s.heldForUpdate.tc = s.tc :=
  (creditAll_tc _).trans ((latchAll_tc _).trans (foldl_tc _ _ _ nrefWindow_tc))

theorem heldForUpdate_inp (s : State) {r : Nat} (hr : r ≤ 16) : s.heldForUpdate.inp r = (s.inp r).hold := by
  rw [State.heldForUpdate, creditAll_keepsLocal _ r hr, latchAll_inp _ hr, foldl_keepsLocal nrefWindow_keepsLocal _ _ r hr]

/-- The latch of a second, taken in that second. -/
theorem onEnsembleLatch_now (s : State) : onEnsembleLatch s.tc.mtc.sec s =
    (((s.heldForUpdate.onEns fun e => { e with latched := true, moscMeas := (s.inp 0).meas }).onTc fun c => c.latchRate s.topNs).onClasp
      fun c => { c with roleAtLatch := c.role, gotMeas := false, partnerRefs := [], unpaired := false }).sendMeas := by
  rw [onEnsembleLatch, if_neg (by simp [State.sec])]
  rfl

theorem onEnsembleLatch_otherwise {s : State} {n : Nat} (h : s.tc.mtc.sec ≠ n) : onEnsembleLatch n s = s := by
  simp [onEnsembleLatch, State.sec, h]

end Sys2Proof.Machine
end

section

/-! ### What Assay, the weights and the filter leave alone (R145-R162) -/

namespace Sys2Proof.Machine

/-- What the ensemble holds of the references and of its estimate, the ASSAY flags and what is sent to the partner may change; the steady word and the
count of updates do not. -/
structure Weighs (s t : State) : Prop where
  rest : t = { s with ens := t.ens, gnss := t.gnss, clasp := t.clasp }
  ys : t.ens.ys = s.ens.ys
  updates : t.ens.updates = s.ens.updates

theorem Weighs.refl (s : State) : Weighs s s := ⟨rfl, rfl, rfl⟩

theorem Weighs.tc {s t : State} (h : Weighs s t) : t.tc = s.tc := by rw [h.rest]

theorem Weighs.pwr {s t : State} (h : Weighs s t) : t.pwr = s.pwr := by rw [h.rest]

theorem Weighs.trans {s t u : State} (h : Weighs s t) (k : Weighs t u) : Weighs s u := by
  refine ⟨?_, k.ys.trans h.ys, k.updates.trans h.updates⟩
  rw [k.rest, h.rest]

theorem foldl_weighs {α : Type} {g : State → α → State} (hg : ∀ s x, Weighs s (g s x)) (l : List α) (s : State) : Weighs s (l.foldl g s) :=
  foldl_relates .refl .trans hg l s

theorem onEns_weighs (s : State) {f : EnsSt → EnsSt} (hys : (f s.ens).ys = s.ens.ys) (hup : (f s.ens).updates = s.ens.updates) :
    Weighs s (s.onEns f) := ⟨rfl, hys, hup⟩

theorem onRa_weighs (s : State) (r : Nat) (f : RefAssay → RefAssay) : Weighs s (s.onRa r f) := ⟨rfl, rfl, rfl⟩

theorem sendMeas_weighs (s : State) : Weighs s s.sendMeas := by
  rw [sendMeas_eq]
  exact ⟨rfl, rfl, rfl⟩

theorem resetModel_weighs (s : State) (r : Nat) : Weighs s (s.resetModel r) := (onRa_weighs _ _ _).trans (onEns_weighs _ rfl rfl)

theorem followRow_weighs (s : State) (r : Nat) : Weighs s (s.followRow r) := by
  unfold State.followRow
  split
  · exact resetModel_weighs _ _
  · split
    · exact onRa_weighs _ _ _
    · exact .refl s

theorem vote_weighs (s : State) : Weighs s s.vote := by
  refine foldl_weighs (fun t r => ?_) _ _
  split
  · exact onRa_weighs _ _ _
  · exact .refl t

theorem testTime_weighs (s : State) (r : Nat) (pred : Rat) : Weighs s (s.testTime r pred) := by
  unfold State.testTime
  split
  · exact .refl s
  · split
    · exact onRa_weighs _ _ _
    · exact onRa_weighs _ _ _

theorem testFreq_weighs (s : State) (r : Nat) (z : Rat) : Weighs s (s.testFreq r z) := onRa_weighs _ _ _

theorem gradeAll_weighs (s : State) : Weighs s s.gradeAll := by
  refine foldl_weighs (fun t r => ?_) _ _
  split
  · exact onRa_weighs _ _ _
  · exact onRa_weighs _ _ _

theorem assignSlots_weighs (s : State) : Weighs s s.assignSlots := foldl_weighs (fun _ _ => onRa_weighs _ _ _) _ _

theorem onGnss_weighs (s : State) (f : GnssSt → GnssSt) : Weighs s (s.onGnss f) := ⟨rfl, rfl, rfl⟩

theorem keepOffset_weighs (s : State) (k : Nat) : Weighs s (s.keepOffset k) := by
  unfold State.keepOffset
  split
  · exact .refl s
  · exact onRa_weighs _ _ _

theorem assayFlag_weighs (s0 : State) (pred : Rat) (k : Nat) : Weighs s0 (s0.assayFlag pred k) := by
  unfold State.assayFlag
  extract_lets s r setFlag excess raise
  have hs : Weighs s0 s := keepOffset_weighs _ _
  split
  · exact hs.trans ((onRa_weighs _ _ _).trans (onGnss_weighs _ _))
  · split
    · exact hs
    · extract_lets clean run s2
      have h2 : Weighs s0 s2 := hs.trans (onRa_weighs _ _ _)
      split
      · exact h2.trans (onGnss_weighs _ _)
      · split
        · exact h2.trans (onGnss_weighs _ _)
        · exact h2

theorem assay_weighs (s : State) : Weighs s s.assay := by
  unfold State.assay
  extract_lets pred s1 s2 s3 s4
  have h1 : Weighs s s1 := vote_weighs s
  have h2 : Weighs s1 s2 := by
    refine foldl_weighs (fun t r => ?_) _ _
    split
    · exact testTime_weighs _ _ _
    · exact .refl t
  have h3 : Weighs s2 s3 := by
    refine foldl_weighs (fun t0 r => ?_) _ _
    dsimp only
    split
    · split
      · exact (onRa_weighs _ _ _).trans (testFreq_weighs _ _ _)
      · split
        · exact (onRa_weighs _ _ _).trans (onRa_weighs _ _ _)
        · exact onRa_weighs _ _ _
    · exact onRa_weighs _ _ _
  have h4 : Weighs s3 s4 := (gradeAll_weighs _).trans (assignSlots_weighs _)
  exact (((h1.trans h2).trans h3).trans h4).trans ((assayFlag_weighs _ _ _).trans (assayFlag_weighs _ _ _))

theorem useWeights_weighs (s : State) (w : List (Nat × Rat)) (keep : Bool) : Weighs s (s.useWeights w keep) := by
  unfold State.useWeights
  dsimp only
  refine Weighs.trans (foldl_weighs (fun _ _ => onRa_weighs _ _ _) _ _) (onEns_weighs _ ?_ ?_)
  · dsimp only
    split <;> rfl
  · dsimp only
    split <;> rfl

theorem weigh_weighs (s : State) : Weighs s s.weigh := by
  unfold State.weigh
  dsimp only
  split
  · exact .refl s
  · exact (foldl_weighs (fun _ _ => onRa_weighs _ _ _) _ _).trans (onEns_weighs _ rfl rfl)

theorem holdMembers_weighs (s : State) : Weighs s s.holdMembers := by
  unfold State.holdMembers
  extract_lets now
  split
  · exact .refl s
  · exact useWeights_weighs _ _ _

theorem weights_weighs (s : State) : Weighs s s.weights := by
  unfold State.weights
  split
  · exact holdMembers_weighs s
  · exact (((onEns_weighs _ rfl rfl).trans (weigh_weighs _)).trans (useWeights_weighs _ _ _)).trans (onEns_weighs _ rfl rfl)

theorem entryWeights_weighs (s : State) : Weighs s s.entryWeights := (onEns_weighs _ rfl rfl).trans (useWeights_weighs _ _ _)

theorem learnRates_weighs (s : State) (p : Posterior) : Weighs s (s.learnRates p) := by
  refine foldl_weighs (fun t r => ?_) _ _
  dsimp only
  split
  · exact onRa_weighs _ _ _
  · split
    · exact (onRa_weighs _ _ _).trans (resetModel_weighs _ _)
    · exact onRa_weighs _ _ _

theorem runFilter_weighs (s : State) (apply : Bool) : Weighs s (s.runFilter apply) := by
  unfold State.runFilter
  extract_lets i p s1 s2 s3
  have h1 : Weighs s s1 := onEns_weighs _ rfl rfl
  have h2 : Weighs s1 s2 := by
    unfold s2
    split
    · exact .refl s1
    · exact onEns_weighs _ rfl rfl
  exact ((h1.trans h2).trans (learnRates_weighs _ _)).trans (onEns_weighs _ rfl rfl)

theorem freshDrift_weighs (s : State) (kept : Bool) : Weighs s (s.freshDrift kept) := by
  unfold State.freshDrift
  split
  · exact .refl s
  · exact onEns_weighs _ rfl rfl

end Sys2Proof.Machine
end

section

/-! ### The parts of an update (R65, R66, R145) -/

namespace Sys2Proof.Machine

theorem followPins_pinsOnly (s : State) : PinsOnly s s.followPins := foldl_pinsOnly followPin_pinsOnly _ _

theorem followPins_ens (s : State) : s.followPins.ens = s.ens := by rw [followPins_pinsOnly s]

theorem SendingOnly.ens {s t : State} (h : SendingOnly s t) : t.ens = s.ens := by
  unfold SendingOnly at h
  rw [h]

theorem squelchStart_ens (s : State) : s.squelchStart.ens = s.ens := (squelchStart_ends s).ens.trans (followPins_ens s.silence)

theorem stampFree_ens (s : State) : s.stampFree.ens = s.ens := by
  unfold State.stampFree
  split <;> rfl

/-- A timing state entered starts its counts anew (R65). -/
theorem setTiming_tc (s : State) (t : TimingState) : (s.setTiming t).tc =
    if s.tc.ts = t then s.tc else { s.tc with ts := t, lockRun := 0, freeRun := 0, relockRun := 0, agreeRun := 0 } := by
  unfold State.setTiming
  extract_lets s1 s0 s2
  have h0 : s0.tc = s1.tc := by
    unfold s0
    split
    · exact stampFree_tc _
    · rfl
  have h2 : s2.tc = s1.tc := (raiseAll_tc _ _ _).trans h0
  split
  · rfl
  · split
    · exact (squelchStart_tc _).trans h2
    · exact (followPins_tc _).trans h2

theorem setTiming_ens (s : State) (t : TimingState) : (s.setTiming t).ens = s.ens := by
  unfold State.setTiming
  extract_lets s1 s0 s2
  have h0 : s0.ens = s.ens := by
    unfold s0
    split
    · exact stampFree_ens _
    · rfl
  have h2 : s2.ens = s.ens := (raiseAll_ens _ _ _).trans h0
  split
  · rfl
  · split
    · exact (squelchStart_ens _).trans h2
    · exact (followPins_ens _).trans h2

/-- The references followed and graded (R146-R157). -/
def State.weighed (s : State) : State := ((List.range 4).foldl (fun t n => t.followRow (refPend n)) s.sendMeas).assay

theorem weighed_weighs (s : State) : Weighs s s.weighed :=
  ((sendMeas_weighs s).trans (foldl_weighs (fun _ _ => followRow_weighs _ _) _ _)).trans (assay_weighs _)

/-- In LOCKED and LOST no trigger of R65 counts updates. -/
theorem countTriggers_of_uncounted {s : State} (h : s.tc.ts = .locked ∨ s.tc.ts = .lost) : s.countTriggers = s := by
  unfold State.countTriggers
  rcases h with h | h <;> rw [h]

/-- The transition of an update, a release being used up by it (R66). -/
def State.enters (s : State) (t : TimingState) : State :=
  (s.setTiming t).onTc fun c => { c with releaseReq := false, lostByMosc := c.lostByMosc && c.ts = .lost }

/-- The Time Core in the state entered. -/
def TcSt.entered (c : TcSt) (t : TimingState) : TcSt :=
  { c with
    ts := t, lockRun := 0, freeRun := 0, relockRun := 0, agreeRun := 0, releaseReq := false, lostByMosc := c.lostByMosc && t = .lost }

theorem enters_tc {s : State} {t : TimingState} (h : s.tc.ts ≠ t) : (s.enters t).tc = s.tc.entered t := by
  rw [State.enters, onTc_tc, setTiming_tc, if_neg h]
  rfl

theorem enters_ens (s : State) (t : TimingState) : (s.enters t).ens = s.ens := setTiming_ens s t

/-- The end of an update: Pendants in LOCKED, SRC and CHAIN, digests, and the measurements used up. -/
def State.concludes (s : State) : State :=
  (if s.tc.ts = .locked then (List.range 4).foldl State.steerPendant s else s).stampChain.digests.endUpdate

theorem concludes_of_unlocked {s : State} (h : s.tc.ts ≠ .locked) : s.concludes = s.stampChain.digests.endUpdate := by
  rw [State.concludes, if_neg h]

/-- An update that makes a transition by itself, from a state other than ACQUIRING. -/
theorem onEnsembleUpdate_of_transition {s : State} {t : TimingState} (hlatch : s.ens.latched = true) (hrun : s.tc.mtc.running = true)
    (hold : s.tc.ts ≠ .acquiring) (ht : s.weighed.countTriggers.transition = some t) :
    ∃ u, Weighs (s.weighed.countTriggers.enters t) u ∧ onEnsembleUpdate s = (u.conduct s.tc.ts).concludes := by
  unfold onEnsembleUpdate
  rw [if_neg (by simp [hlatch, hrun])]
  extract_lets old u s1 s2 s3 s4 s5 s6 s7 s8
  have h3 : s3 = s.weighed.countTriggers.enters t := by
    have h2 : s2 = s.weighed.countTriggers.setTiming t := by
      unfold s2
      split
      · next x hx => rw [Option.some.inj (hx.symm.trans ht)]; rfl
      · next hx => cases hx.symm.trans ht
    unfold s3
    rw [h2]
    rfl
  have h4 : Weighs s3 s4 := by
    unfold s4
    split
    · exact entryWeights_weighs _
    · exact weights_weighs _
  have h5 : Weighs s3 s5 := (h4.trans (runFilter_weighs _ _)).trans (freshDrift_weighs _ _)
  have h6 : s6 = s5 := if_neg hold
  have h7 : s7 = s5.conduct s.tc.ts := congrArg (fun x : State => x.conduct s.tc.ts) h6
  rw [h3] at h5
  refine ⟨s5, h5, ?_⟩
  rw [← h7]
  rfl

/-! ### The end of an update -/

theorem stampChain_eq (s : State) : s.stampChain = { s with hall := s.stampChain.hall, free := s.stampChain.free } := by
  have hfree (u : State) : u.stampFree = { u with hall := u.stampFree.hall, free := u.stampFree.free } := by
    unfold State.stampFree
    split <;> rfl
  have hhall (f : HallSt → HallSt) : s.onHall f = { s with hall := (s.onHall f).hall, free := (s.onHall f).free } := rfl
  unfold State.stampChain
  split
  · exact hfree s
  · exact hfree s
  all_goals exact hhall _

theorem stampChain_of_freeRun {s : State} (h : s.tc.ts = .freeRun) : s.stampChain = s.onHall fun x => { x with src := 7, chain := 0 } := by
  unfold State.stampChain
  simp only [h]
  rw [State.stampFree, if_neg (by simp [h])]

theorem digests_eq (s : State) : s.digests = { s with clasp := s.digests.clasp } := by
  unfold State.digests
  split <;> rfl

/-- Inputs written in turn leave the rest of the state. -/
theorem foldl_onIn_rest (f : RefIn → RefIn) (l : List Nat) (s : State) :
    l.foldl (fun t r => t.onIn r f) s = { s with ref := (l.foldl (fun t r => t.onIn r f) s).ref } := by
  induction l generalizing s with
  | nil => rfl
  | cons r l ih => rw [List.foldl_cons, ih]; rfl

theorem endUpdate_eq (s : State) : s.endUpdate = { s with
    ref := s.endUpdate.ref
    ens := { s.ens with latched := false, updates := s.ens.updates + 1, learnAge := s.ens.learnAge + b01 (s.tc.ts = .locked), saveAge := s.ens.saveAge + 1
                        devBound := s.deviceBound } } := by
  unfold State.endUpdate
  dsimp only
  rw [foldl_onIn_rest]
  rfl

/-- The update is over: counted, its latch used up, its state kept. -/
theorem concludes_frame {s : State} (h : s.tc.ts ≠ .locked) :
    s.concludes.tc = s.tc ∧ s.concludes.hall = s.stampChain.hall ∧ s.concludes.ens.latched = false ∧ s.concludes.ens.updates = s.ens.updates + 1 ∧
      s.concludes.ens.holdEntry = s.ens.holdEntry ∧ s.concludes.ens.ysHold = s.ens.ysHold := by
  rw [concludes_of_unlocked h, endUpdate_eq, digests_eq, stampChain_eq]
  exact ⟨rfl, rfl, rfl, rfl, rfl, rfl⟩

/-! ### Entry to FREE_RUN and to HOLDOVER (R65, R66, R172) -/

theorem conduct_of_freeRun {s : State} {old : TimingState} (h : s.tc.ts = .freeRun) (hold : old ≠ .freeRun) :
    s.conduct old = ((s.onTc fun c => { c with mtc := { c.mtc with freq := c.moscCal } }).onEns fun e => { e with word := s.tc.moscCal }).pushHist := by
  unfold State.conduct
  simp only [h, if_neg hold]

theorem conduct_of_holdover {s : State} {old : TimingState} (h : s.tc.ts = .holdover) (hold : old ≠ .holdover) :
    s.conduct old = s.enterHoldover.steerHold := by
  unfold State.conduct
  simp only [h, if_neg hold]

theorem writeWord_kept (s : State) (y : Rat) : (s.writeWord y).tc.ts = s.tc.ts ∧ (s.writeWord y).ens.holdEntry = s.ens.holdEntry ∧
    (s.writeWord y).ens.ysHold = s.ens.ysHold ∧ (s.writeWord y).ens.updates = s.ens.updates := by
  unfold State.writeWord
  dsimp only
  split <;> exact ⟨rfl, rfl, rfl, rfl⟩

/-- HOLDOVER is counted from the update's latch, with the steering word it is entered with (R172, R173). -/
theorem enterHoldover_steerHold (s : State) : s.enterHoldover.steerHold.tc.ts = s.tc.ts ∧ s.enterHoldover.steerHold.ens.holdEntry = s.tc.lastLatch ∧
    s.enterHoldover.steerHold.ens.ysHold = s.ens.ys ∧ s.enterHoldover.steerHold.ens.updates = s.ens.updates := by
  unfold State.steerHold
  obtain ⟨hts, hentry, hys, hup⟩ := writeWord_kept _ _
  exact ⟨hts, hentry, hys, hup⟩

/-- Out of LOST by a release, where MOSC has not been good for 1 s (R66). -/
theorem transition_of_release {s : State} (hts : s.tc.ts = .lost) (hrel : s.tc.releaseReq = true) (hmosc : s.moscGood1s = false) :
    s.transition = some .freeRun := by
  simp [State.transition, hts, hrel, hmosc]

/-- Out of LOCKED by the forced state (R66). -/
theorem transition_of_force {s : State} (hts : s.tc.ts = .locked) (hforce : s.tc.force = true) : s.transition = some .holdover := by
  simp [State.transition, hts, hforce]

theorem moscGood1s_congr {s t : State} (htc : t.tc = s.tc) (hpwr : t.pwr = s.pwr) : t.moscGood1s = s.moscGood1s := by
  unfold State.moscGood1s State.upNs
  rw [htc, hpwr]

theorem onEnsembleUpdate_of_unlatched {s : State} (h : s.ens.latched = false) : onEnsembleUpdate s = s := by
  simp [onEnsembleUpdate, h]

/-- An update that has entered FREE_RUN takes MOSC's calibration word as steady word (R65, R73). -/
theorem conduct_concludes_freeRun {u : State} {old : TimingState} (hts : u.tc.ts = .freeRun) (hold : old ≠ .freeRun) :
    (u.conduct old).concludes.tc.ts = .freeRun ∧ (u.conduct old).concludes.tc.mtc.freq = u.tc.moscCal ∧
      (u.conduct old).concludes.tc.releaseReq = u.tc.releaseReq ∧ (u.conduct old).concludes.hall.src = 7 ∧ (u.conduct old).concludes.hall.chain = 0 ∧
      (u.conduct old).concludes.ens.latched = false ∧ (u.conduct old).concludes.ens.updates = u.ens.updates + 1 := by
  rw [conduct_of_freeRun hts hold]
  generalize hv : ((u.onTc fun c => { c with mtc := { c.mtc with freq := c.moscCal } }).onEns fun e => { e with word := u.tc.moscCal }).pushHist = v
  obtain ⟨hvts, hfreq, hrel, hups⟩ : v.tc.ts = u.tc.ts ∧ v.tc.mtc.freq = u.tc.moscCal ∧ v.tc.releaseReq = u.tc.releaseReq ∧
      v.ens.updates = u.ens.updates := by
    subst hv
    exact ⟨rfl, rfl, rfl, rfl⟩
  have hfree : v.tc.ts = .freeRun := hvts.trans hts
  obtain ⟨htc, hhall, hlatched, hupdates, -, -⟩ := concludes_frame (s := v) (by rw [hfree]; nofun)
  rw [stampChain_of_freeRun hfree] at hhall
  rw [htc, hhall, hupdates, hups]
  exact ⟨hfree, hfreq, hrel, rfl, rfl, hlatched, rfl⟩

/-- An update that has entered HOLDOVER keeps the steering word it is entered with, and counts from its latch (R172, R173). -/
theorem conduct_concludes_holdover {u : State} {old : TimingState} (hts : u.tc.ts = .holdover) (hold : old ≠ .holdover) :
    (u.conduct old).concludes.tc.ts = .holdover ∧ (u.conduct old).concludes.ens.holdEntry = u.tc.lastLatch ∧
      (u.conduct old).concludes.ens.ysHold = u.ens.ys ∧ (u.conduct old).concludes.ens.latched = false ∧
      (u.conduct old).concludes.ens.updates = u.ens.updates + 1 := by
  rw [conduct_of_holdover hts hold]
  obtain ⟨hvts, hentry, hys, hups⟩ := enterHoldover_steerHold u
  generalize u.enterHoldover.steerHold = v at *
  have hhold : v.tc.ts = .holdover := hvts.trans hts
  obtain ⟨htc, -, hlatched, hupdates, hcentry, hcys⟩ := concludes_frame (s := v) (by rw [hhold]; nofun)
  rw [htc, hcentry, hcys, hupdates, hups]
  exact ⟨hhold, hentry, hys, hlatched, rfl⟩

/-- A transition that needs no count of updates, as far as it leaves the Time Core and the steering word. -/
theorem onEnsembleUpdate_of_uncounted {s : State} {t : TimingState} (hlatch : s.ens.latched = true) (hrun : s.tc.mtc.running = true)
    (hts : s.tc.ts = .locked ∨ s.tc.ts = .lost) (hne : s.tc.ts ≠ t) (ht : s.weighed.transition = some t) :
    ∃ u : State, u.tc = s.tc.entered t ∧ u.ens.ys = s.ens.ys ∧ u.ens.updates = s.ens.updates ∧ onEnsembleUpdate s = (u.conduct s.tc.ts).concludes := by
  have hw := weighed_weighs s
  have hcount : s.weighed.countTriggers = s.weighed := countTriggers_of_uncounted (by rwa [hw.tc])
  have hold : s.tc.ts ≠ .acquiring := by rcases hts with h | h <;> rw [h] <;> nofun
  have ht : s.weighed.countTriggers.transition = some t := by rw [hcount, ht]
  obtain ⟨u, hu, heq⟩ := onEnsembleUpdate_of_transition hlatch hrun hold ht
  rw [hcount] at hu
  refine ⟨u, ?_, ?_, ?_, heq⟩
  · rw [hu.tc, enters_tc (by rwa [hw.tc]), hw.tc]
  · rw [hu.ys, enters_ens, hw.ys]
  · rw [hu.updates, enters_ens, hw.updates]

/-- A release from LOST enters FREE_RUN with MOSC's calibration word. -/
theorem onEnsembleUpdate_release {s : State} (hlatch : s.ens.latched = true) (hrun : s.tc.mtc.running = true) (hts : s.tc.ts = .lost)
    (hrel : s.tc.releaseReq = true) (hmosc : s.moscGood1s = false) :
    (onEnsembleUpdate s).tc.ts = .freeRun ∧ (onEnsembleUpdate s).tc.mtc.freq = s.tc.moscCal ∧ (onEnsembleUpdate s).tc.releaseReq = false ∧
      (onEnsembleUpdate s).hall.src = 7 ∧ (onEnsembleUpdate s).hall.chain = 0 ∧ (onEnsembleUpdate s).ens.latched = false ∧
      (onEnsembleUpdate s).ens.updates = s.ens.updates + 1 := by
  have hw := weighed_weighs s
  have ht : s.weighed.transition = some .freeRun :=
    transition_of_release (by rwa [hw.tc]) (by rwa [hw.tc]) (by rwa [moscGood1s_congr hw.tc hw.pwr])
  obtain ⟨u, htc, -, hups, heq⟩ := onEnsembleUpdate_of_uncounted hlatch hrun (.inr hts) (by rw [hts]; nofun) ht
  obtain ⟨hfree, hfreq, hrelease, hsrc, hchain, hlatched, hupdates⟩ :=
    conduct_concludes_freeRun (u := u) (old := s.tc.ts) (congrArg TcSt.ts htc) (by rw [hts]; nofun)
  rw [htc] at hfreq hrelease
  rw [heq]
  exact ⟨hfree, hfreq, hrelease, hsrc, hchain, hlatched, by rw [hupdates, hups]⟩

/-- The forced state out of LOCKED enters HOLDOVER with the steering word in force. -/
theorem onEnsembleUpdate_force {s : State} (hlatch : s.ens.latched = true) (hrun : s.tc.mtc.running = true) (hts : s.tc.ts = .locked)
    (hforce : s.tc.force = true) :
    (onEnsembleUpdate s).tc.ts = .holdover ∧ (onEnsembleUpdate s).ens.holdEntry = s.tc.lastLatch ∧ (onEnsembleUpdate s).ens.ysHold = s.ens.ys ∧
      (onEnsembleUpdate s).ens.latched = false ∧ (onEnsembleUpdate s).ens.updates = s.ens.updates + 1 := by
  have hw := weighed_weighs s
  have ht : s.weighed.transition = some .holdover := transition_of_force (by rwa [hw.tc]) (by rwa [hw.tc])
  obtain ⟨u, htc, hys, hups, heq⟩ := onEnsembleUpdate_of_uncounted hlatch hrun (.inl hts) (by rw [hts]; nofun) ht
  obtain ⟨hhold, hentry, hysHold, hlatched, hupdates⟩ :=
    conduct_concludes_holdover (u := u) (old := s.tc.ts) (congrArg TcSt.ts htc) (by rw [hts]; nofun)
  rw [htc] at hentry
  rw [heq]
  exact ⟨hhold, hentry, hysHold.trans hys, hlatched, by rw [hupdates, hups]⟩

end Sys2Proof.Machine
end

section

/-! ### The latch, the update, learning and saving (R85, R145, R162, R163) -/

namespace Sys2Proof.Machine

theorem onModelLearning_of_not_due {s : State} {n : Nat} (h : s.tc.mtc.sec ≠ n ∨ s.tc.ts ≠ .locked ∨ s.ens.learnAge < 3600) :
    onModelLearning n s = s := by
  rw [onModelLearning, if_pos]
  simpa [State.sec, or_assoc] using h

theorem onModelLearning_of_due {s : State} (hts : s.tc.ts = .locked) (hage : 3600 ≤ s.ens.learnAge) :
    onModelLearning s.tc.mtc.sec s = (s.freqMembers.foldl (fun t r => t.onRa r RefAssay.learn) s).onEns fun e => { e with learnAge := 0 } := by
  rw [onModelLearning, if_neg]
  simp [State.sec, hts, hage]

theorem foldl_onRa_rest (f : RefAssay → RefAssay) (l : List Nat) (s : State) :
    l.foldl (fun t r => t.onRa r f) s = { s with ens := (l.foldl (fun t r => t.onRa r f) s).ens } := by
  induction l generalizing s with
  | nil => rfl
  | cons r l ih => rw [List.foldl_cons, ih]; rfl

/-- A save writes the stored set and its record, and nothing else (R163). -/
theorem saveModels_rest (s : State) : s.saveModels = { s with
    ens := { s.ens with saved := s.saveModels.ens.saved, saveAge := 0 }, mbx := s.saveModels.mbx, mgmt := s.saveModels.mgmt } := by
  unfold State.saveModels
  generalize (allRefs.map fun _ => _) = l
  rfl

/-- What is saved of a reference (R163). -/
def State.modelToSave (s : State) (r : Nat) : SavedModel :=
  { model := (s.ra r).model, row := (s.ra r).row, history := (s.ra r).history, on := (s.inp r).st != .off, cfg := s.refCfg r }

theorem saveModels_saved (s : State) {r : Nat} (hr : refOk r = true) : s.saveModels.ens.saved.look {} r = s.modelToSave r :=
  look_mapPair s.modelToSave {} (mem_allRefs hr)

/-- Settles O12: the latch by what it holds, the update by its transition, learning and saving by their one write each. -/
theorem ensembleEvents : Obligations.EnsembleEvents := by
  unfold Obligations.EnsembleEvents
  refine ⟨fun s ha => ?latch, fun s ha h => ?unlatched, fun s ha hl hrun hts hrel hmosc => ?release, fun s ha hl hrun hts hforce => ?force,
    fun s n ha h => ?notLearning, fun s ha hts hage hnodup => ?learning, fun s ha hage => ?notSaving, fun s ha hage => ?saving,
    fun s n ha hn => ?otherSecond⟩
  case latch =>
    refine Does.of_alive rfl ha ?_
    have htc := heldForUpdate_tc s
    have hinp := fun r (hr : r ≤ 16) => heldForUpdate_inp s hr
    rw [onEnsembleLatch_now, sendMeas_eq]
    generalize s.heldForUpdate = u at htc hinp ⊢
    refine ⟨rfl, rfl, ?_, fun r hr => ?_, rfl⟩
    · change u.tc.latchRate s.topNs = { s.tc with
        lastLatch := s.topNs, adv := (u.tc.latchRate s.topNs).adv, advCyc := s.tc.mtc.cyc, ctrl := (u.tc.latchRate s.topNs).ctrl }
      rw [htc]
      rfl
    · have hheld : u.inp r = (s.inp r).hold := hinp r hr
      exact ⟨congrArg RefIn.latched hheld, congrArg RefIn.latchedMeas hheld, congrArg RefIn.meas hheld⟩
  case unlatched => exact Does.of_alive rfl ha (onEnsembleUpdate_of_unlatched h)
  case release => exact Does.of_alive rfl ha (onEnsembleUpdate_release hl hrun hts hrel hmosc)
  case force => exact Does.of_alive rfl ha (onEnsembleUpdate_force hl hrun hts hforce)
  case notLearning => exact Does.of_alive rfl ha (onModelLearning_of_not_due h)
  case learning =>
    refine Does.of_alive rfl ha ?_
    rw [onModelLearning_of_due hts hage]
    have hra := foldl_onRa_ra RefAssay.learn hnodup s
    refine ⟨?_, rfl, fun r hr => (hra r).trans (if_pos hr), fun r hr => (hra r).trans (if_neg hr)⟩
    rw [foldl_onRa_rest]
    rfl
  case notSaving => exact Does.of_alive rfl ha (if_pos hage)
  case saving =>
    refine Does.of_alive rfl ha ?_
    rw [onModelSave, if_neg (Nat.not_lt.2 hage)]
    refine ⟨saveModels_rest s, fun r hr => ?_⟩
    rw [saveModels_saved s hr]
    exact ⟨rfl, rfl, rfl⟩
  case otherSecond => exact Does.of_alive rfl ha (onEnsembleLatch_otherwise hn)

end Sys2Proof.Machine
end

section

/-! ### What a change of one reference input leaves alone (R86, R87, R605) -/

namespace Sys2Proof.Machine

/-- The change touches the references, events, the log and stored records alone, and of the inputs only this one. -/
structure InputOnly (r : Nat) (s t : State) : Prop where
  calm : Calm s t
  rest : t = { s with ref := t.ref, mbx := t.mbx, mgmt := t.mgmt }
  others : ∀ q, q ≠ r → t.inp q = s.inp q

section
variable {r : Nat} {s t u : State}

theorem inp_congr (h : t.ref = u.ref) (q : Nat) : t.inp q = u.inp q := congrArg (fun x : RefSt => x.ins.look {} q) h

theorem pps_congr (h : t.ref = u.ref) (n : Nat) : t.pps n = u.pps n := congrArg (fun x : RefSt => x.pps.look {} n) h

theorem tci_congr (h : t.ref = u.ref) (n : Nat) : t.tci n = u.tci n := congrArg (fun x : RefSt => x.tci.look {} n) h

theorem nrefIn_congr (h : t.ref = u.ref) (n : Nat) : t.nrefIn n = u.nrefIn n := congrArg (fun x : RefSt => x.nref.look {} n) h

theorem pend_congr (h : t.ref = u.ref) (n : Nat) : t.pend n = u.pend n := congrArg (fun x : RefSt => x.pend.look {} n) h

theorem InputOnly.refl (r : Nat) (s : State) : InputOnly r s s := ⟨.refl s, rfl, fun _ _ => rfl⟩

theorem InputOnly.trans (h : InputOnly r s t) (k : InputOnly r t u) : InputOnly r s u := by
  refine ⟨h.calm.trans k.calm, ?_, fun q hq => (k.others q hq).trans (h.others q hq)⟩
  rw [k.rest, h.rest]

/-- A write of the tables beside the inputs touches no input. -/
theorem InputOnly.onRef (h : InputOnly r s t) (f : RefSt → RefSt) (hf : (f t.ref).ins = t.ref.ins := by rfl) : InputOnly r s (t.onRef f) :=
  h.trans ⟨(Calm.refl t).onRef f, rfl, fun q _ => congrArg (fun x : Tab RefIn => x.look {} q) hf⟩

theorem InputOnly.onIn (h : InputOnly r s t) (f : RefIn → RefIn) : InputOnly r s (t.onIn r f) :=
  h.trans ⟨onIn_calm (.refl t) r f, rfl, fun _ hq => onIn_inp_other t f hq.symm⟩

theorem InputOnly.setIn (h : InputOnly r s t) (st : InState) : InputOnly r s (t.setIn r st) :=
  h.trans ⟨setIn_calm t r st, setIn_rest t r st, fun q hq => by rw [setIn_inp, if_neg hq.symm]⟩

theorem InputOnly.store (h : InputOnly r s t) (k i : Nat) : InputOnly r s (t.store k i) :=
  h.trans ⟨(Calm.refl t).store k i, rfl, fun _ _ => rfl⟩

theorem InputOnly.touch (h : InputOnly r s t) (k i : Nat) : InputOnly r s (t.touch k i) :=
  h.trans ⟨(Calm.refl t).touch k i, rfl, fun _ _ => rfl⟩

end

theorem configureIn_inputOnly (s : State) (r : Nat) : InputOnly r s (s.configureIn r) :=
  ⟨configureIn_calm (.refl s) r, configureIn_rest s r, fun _ hq => configureIn_inp_other s hq⟩

theorem deconfigureIn_inputOnly (s : State) (r : Nat) : InputOnly r s (s.deconfigureIn r) :=
  ⟨deconfigureIn_calm (.refl s) r, deconfigureIn_rest s r, fun _ hq => deconfigureIn_inp_other s hq⟩

theorem countRef_inp_self (s : State) (r c k : Nat) : (s.countRef r c k).inp r = { s.inp r with cnt := (s.inp r).cnt.upd 0 c (· + k) } :=
  onIn_inp_self _ _ _

theorem store_inp (s : State) (k i r : Nat) : (s.store k i).inp r = s.inp r := rfl

theorem store_pps (s : State) (k i n : Nat) : (s.store k i).pps n = s.pps n := rfl

theorem store_tci (s : State) (k i n : Nat) : (s.store k i).tci n = s.tci n := rfl

theorem store_nrefIn (s : State) (k i n : Nat) : (s.store k i).nrefIn n = s.nrefIn n := rfl

theorem store_pend (s : State) (k i n : Nat) : (s.store k i).pend n = s.pend n := rfl

theorem touch_inp (s : State) (k i r : Nat) : (s.touch k i).inp r = s.inp r := rfl

theorem setIn_st (s : State) (r : Nat) (st : InState) : ((s.setIn r st).inp r).st = st := by
  rw [setIn_inp, if_pos rfl]
  split
  · next h => exact h
  · rfl

/-- A ready command whose effect is on one reference input completes with OK, and leaves the references as its effect does. -/
theorem runCommand_inputOnly {acc : State → State} {m : CmdMeta} {h : CmdHdr} {i : Instr} {b : CmdBody} {s u : State} {r : Nat} {P : State → Prop}
    (hr : ready m h s = true) (ha : b.argOk (s.fetchedFor m h) = true) (hc : (b.check (s.fetchedFor m h)).status = .ok)
    (ho : b.act (s.fetchedFor m h) = cmdOut u) (hx : m.xbOut = false) (hu : InputOnly r (s.fetchedFor m h) u) (hP : ∀ t, t.ref = u.ref → P t) :
    ∃ t, (Host.Outcome.next (runCommand acc m h i b s) : Host.Outcome State Fault Refusal) = .next t ∧
      Completes h s { s with ref := t.ref } t [] [] ∧ (∀ q, q ≠ r → t.inp q = s.inp q) ∧ P t := by
  have hpending := congrArg State.pending hu.rest
  refine runCommand_does u hr ha hc ho (fun hb => absurd hb (by simp [hx])) hu.calm hpending fun t hcompletes => ?_
  obtain ⟨-, -, -, -, hrest⟩ := id hcompletes
  have href := congrArg State.ref hrest
  refine ⟨hcompletes.of ?_, fun q hq => (inp_congr href q).trans (hu.others q hq), hP t href⟩
  rw [hrest, hu.rest]
  rfl

end Sys2Proof.Machine
end

section

/-! ### The ref commands (R83-R101, R477, R605, R606) -/

namespace Sys2Proof.Machine

theorem configureIn_pps (s : State) (r n : Nat) : (s.configureIn r).pps n = s.pps n := by
  rw [State.pps, configureIn_tables]
  rfl

theorem putGate_inp (s : State) (k r : Nat) (g : FreqGate) : (s.onRef fun x => { x with gates := x.gates.put k g }).inp r = s.inp r := rfl

theorem putClock_inp (s : State) (n k r : Nat) (c : ClkIn) (g : FreqGate) :
    (s.onRef fun x => { x with clk := x.clk.put n c, gates := x.gates.put k g }).inp r = s.inp r := rfl

theorem putGate_pend (s : State) (k n : Nat) (g : FreqGate) : (s.onRef fun x => { x with gates := x.gates.put k g }).pend n = s.pend n := rfl

/-! ### What each of them does -/

theorem cmdRefSetPps_act_of_off {h : CmdHdr} {a : PpsArgs} (hoff : a.enable = false) (s : State) :
    (cmdRefSetPps h a).2.act s = cmdOut (((s.deconfigureIn (refPpsi a.input)).onPps a.input fun _ => {}).store 0x10 (refPpsi a.input)) := by
  simp [cmdRefSetPps, hoff]

theorem cmdRefSetPps_act_of_on {h : CmdHdr} {a : PpsArgs} (hon : a.enable = true) (s : State) :
    (cmdRefSetPps h a).2.act s = cmdOut (((s.configureIn (refPpsi a.input)).onPps a.input fun p => { p with
      falling := a.falling, w := a.w, cable := a.cable, u := a.u, next := if a.todSec = 0 then none else some a.todSec
      label := if a.todSec = 0 then none else p.label }).store 0x10 (refPpsi a.input)) := by
  simp [cmdRefSetPps, hon]

theorem cmdRefSetClock_act_of_off {h : CmdHdr} {a : ClockArgs} (hoff : a.enable = 0) (s : State) :
    (cmdRefSetClock h a).2.act s = cmdOut ((s.deconfigureIn (refCki a.input)).store 0x10 (refCki a.input)) := if_pos hoff

theorem cmdRefSetClock_act_of_on {h : CmdHdr} {a : ClockArgs} (hon : a.enable ≠ 0) (s : State) :
    (cmdRefSetClock h a).2.act s = cmdOut (((s.configureIn (refCki a.input)).onRef fun x => { x with
      clk := x.clk.put a.input { fN := a.fN, stampRate := a.stampRate, wF := a.wF }
      gates := x.gates.put (refCki a.input) {} }).store 0x10 (refCki a.input)) := if_neg hon

theorem cmdRefSetTimecode_act_of_off {h : CmdHdr} {a : TimecodeArgs} (hoff : a.kind = 0) (s : State) :
    (cmdRefSetTimecode h a).2.act s = cmdOut (((s.deconfigureIn (refTci a.input)).onTci a.input fun _ => {}).store 0x10 (refTci a.input)) :=
  if_pos hoff

theorem cmdRefSetTimecode_act_of_on {h : CmdHdr} {a : TimecodeArgs} (hon : a.kind ≠ 0) (s : State) :
    (cmdRefSetTimecode h a).2.act s = cmdOut (((s.configureIn (refTci a.input)).onTci a.input fun _ =>
      { kind := a.kind, format := a.format, scale := a.scale, ieee1344 := a.ieee1344, previous := a.previous }).store 0x10 (refTci a.input)) :=
  if_neg hon

theorem cmdRefSetPendant_act_of_on {h : CmdHdr} {a : PendantArgs} (hon : a.freq ≠ 0xFF) (s : State) :
    (cmdRefSetPendant h a).2.act s = cmdOut ((((s.configureIn (refPend a.pend)).onPend a.pend fun p => { p with
      cfg := a, failed := false, waiting := none, sends := 0
      health := if a.baud = 0xFF then .none else if p.health = .none then .stale else p.health
      seq := if a.baud = 0xFF then none else p.seq }).onRef fun x => { x with gates := x.gates.put (refPend a.pend) {} }).store 0x10
        (refPend a.pend)) := if_neg hon

theorem cmdRefSetNref_act_of_on {h : CmdHdr} {a : NrefArgs} (hon : a.enable ≠ 0) (s : State) :
    (cmdRefSetNref h a).2.act s = cmdOut (((s.configureIn (refNref a.nref)).onNref a.nref fun _ => { cfg := a }).store 0x10 (refNref a.nref)) :=
  if_neg hon

/-- What ref.read_status writes: the shared state and counters, and of a Pendant its health and steering (R86, R477, R539). -/
def refStatusRec (s : State) (r : Nat) : Rec :=
  [fld 8 (s.refState r).code, fld 8 (s.inp r).run, fld 8 (s.inp r).fails, fld 8 (s.inp r).missRun] ++
    ((List.range 32).flatMap fun i => [fld 48 ((s.inp r).cnt.look 0 i), rsv 16]) ++
    (if 1 ≤ r && decide (r ≤ 4) then
      [fld 8 (s.pend (r - 1)).health.code, fld 8 (s.pend (r - 1)).cfg.steer, bit (s.pend (r - 1)).failed, rsv 15, (64, (s.pend (r - 1)).applied)] else [])

theorem refStatusRec_bytes (s : State) (r : Nat) : (refStatusRec s r).bytes ≤ 304 := by
  have hhead : Rec.bits [fld 8 (s.refState r).code, fld 8 (s.inp r).run, fld 8 (s.inp r).fails, fld 8 (s.inp r).missRun] = 32 := rfl
  have hcounters : Rec.bits ((List.range 32).flatMap fun i => [fld 48 ((s.inp r).cnt.look 0 i), rsv 16]) = 2048 := bits_flatMap _ _ 64 fun _ _ => rfl
  rw [Rec.bytes, refStatusRec, bits_append, bits_append, hhead, hcounters]
  split
  · have hpendant : ∀ a b c d, Rec.bits [fld 8 a, fld 8 b, bit c, rsv 15, (64, d)] = 96 := fun _ _ _ _ => rfl
    rw [hpendant]
    omega
  · decide

/-- Settles O5: each setting by what configuring or deconfiguring its one input leaves, the reading by its record. -/
theorem refCommands : Obligations.RefCommands := by
  unfold Obligations.RefCommands
  refine ⟨fun h s a hr hn hw hw' hcable htod => ?pps, fun h s a hr hn hen hf hf' hrate hrate' hdiv hwF hwF' => ?clock,
    fun h s a hr hn hkind hsame => ?timecode,
    fun h s a hr hn hfreq hbaud hsteer hg hg' hm hcmin hcmax hpfx hspi hsck hsck' hto hto' hrate hrate' hdiv => ?pendant,
    fun h s a hr hn hen hauth hport hprofile haddr hacc hacc' hloss hloss' hsync hsync' hdelay hdelay' hann hann' howner hused => ?nref,
    fun h s r hr href hfault => ?clearFault, fun h s r hr href hx => ?readStatus⟩
  case pps =>
    have hargs : (cmdRefSetPps h a).2.argOk (s.fetchedFor (cmdRefSetPps h a).1 h) = true := by
      simpa [cmdRefSetPps, hn, hw, hw', hcable] using Or.inr htod
    cases hen : a.enable with
    | true =>
      refine runCommand_inputOnly hr hargs rfl (cmdRefSetPps_act_of_on hen _) rfl
        (((configureIn_inputOnly _ _).onRef _).store _ _) fun t ht => ?_
      obtain ⟨hst, hrun⟩ := configureIn_inp (s.fetchedFor (cmdRefSetPps h a).1 h) (refPpsi a.input)
      refine ⟨fun _ => ?_, nofun⟩
      rw [inp_congr ht, pps_congr ht, store_inp, onPps_inp, store_pps, onPps_pps_self, configureIn_pps]
      exact ⟨hst, hrun, rfl⟩
    | false =>
      refine runCommand_inputOnly hr hargs rfl (cmdRefSetPps_act_of_off hen _) rfl
        (((deconfigureIn_inputOnly _ _).onRef _).store _ _) fun t ht => ?_
      obtain ⟨hst, hmeas⟩ := deconfigureIn_inp (s.fetchedFor (cmdRefSetPps h a).1 h) (refPpsi a.input)
      refine ⟨nofun, fun _ => ?_⟩
      rw [inp_congr ht, pps_congr ht, store_inp, onPps_inp, store_pps, onPps_pps_self]
      exact ⟨hst, hmeas, rfl⟩
  case clock =>
    have hargs : (cmdRefSetClock h a).2.argOk (s.fetchedFor (cmdRefSetClock h a).1 h) = true := by
      simp [cmdRefSetClock, hn, hen, hf, hf', hrate, hrate', hdiv, hwF, hwF']
    obtain hoff | hon : a.enable = 0 ∨ a.enable = 1 := by omega
    · refine runCommand_inputOnly hr hargs rfl (cmdRefSetClock_act_of_off hoff _) rfl ((deconfigureIn_inputOnly _ _).store _ _) fun t ht => ?_
      refine ⟨fun hon => by omega, fun _ => ?_⟩
      rw [inp_congr ht, store_inp]
      exact (deconfigureIn_inp _ _).1
    · have hne : ¬ a.enable = 0 := by omega
      refine runCommand_inputOnly hr hargs rfl (cmdRefSetClock_act_of_on hne _) rfl
        (((configureIn_inputOnly _ _).onRef _).store _ _) fun t ht => ?_
      refine ⟨fun _ => ?_, fun hoff => absurd hoff hne⟩
      rw [inp_congr ht, ht, store_inp, putClock_inp, store_ref, onRef_ref, Tab.look_put_self]
      exact ⟨(configureIn_inp _ _).1, rfl⟩
  case timecode =>
    have hargs : (cmdRefSetTimecode h a).2.argOk (s.fetchedFor (cmdRefSetTimecode h a).1 h) = true := by
      have hle : a.kind ≤ 2 := by omega
      simpa [cmdRefSetTimecode, hn, hle, and_assoc, or_assoc] using hkind
    have hfree : (a.kind != 0 && (s.tci a.input).kind != 0 && (s.tci a.input).kind != a.kind) = false := by
      rcases hsame with hunused | hsame
      · simp [hunused]
      · simp [hsame]
    have hcheck : (cmdRefSetTimecode h a).2.check (s.fetchedFor (cmdRefSetTimecode h a).1 h) = judge [(false, .conflict)] :=
      congrArg (fun b => judge [(b, .conflict)]) hfree
    by_cases hoff : a.kind = 0
    · refine runCommand_inputOnly hr hargs (congrArg Judged.status hcheck) (cmdRefSetTimecode_act_of_off hoff _) rfl
        (((deconfigureIn_inputOnly _ _).onRef _).store _ _) fun t ht => ?_
      refine ⟨fun hon => absurd hoff hon, fun _ => ?_⟩
      rw [inp_congr ht, tci_congr ht, store_inp, onTci_inp, store_tci, onTci_tci_self]
      exact ⟨(deconfigureIn_inp _ _).1, rfl⟩
    · refine runCommand_inputOnly hr hargs (congrArg Judged.status hcheck) (cmdRefSetTimecode_act_of_on hoff _) rfl
        (((configureIn_inputOnly _ _).onRef _).store _ _) fun t ht => ?_
      refine ⟨fun _ => ?_, fun h0 => absurd h0 hoff⟩
      rw [inp_congr ht, tci_congr ht, store_inp, onTci_inp, store_tci, onTci_tci_self]
      exact ⟨(configureIn_inp _ _).1, rfl⟩
  case pendant =>
    have hargs : (cmdRefSetPendant h a).2.argOk (s.fetchedFor (cmdRefSetPendant h a).1 h) = true := by
      simpa [cmdRefSetPendant, hn, hfreq, hbaud, hsteer, hg, hcmin, hpfx, hspi, hsck, hsck', hto, hto', hrate, hrate', hdiv] using
        Or.inr ⟨⟨hg', hm⟩, hcmax⟩
    have hon : ¬ a.freq = 0xFF := by omega
    refine runCommand_inputOnly hr hargs rfl (cmdRefSetPendant_act_of_on hon _) rfl
      ((((configureIn_inputOnly _ _).onRef _).onRef _).store _ _) fun t ht => ?_
    rw [inp_congr ht, pend_congr ht, store_inp, store_pend, putGate_inp, putGate_pend, onPend_inp, onPend_pend_self]
    exact ⟨(configureIn_inp _ _).1, rfl, rfl, rfl⟩
  case nref =>
    have hcode : a.profile ≤ 6 ∨ a.profile = 8 := by omega
    have hpok : profileOk a.profile = true := by simpa [profileOk] using hcode
    have hdl : a.delay ≤ 2 := by omega
    have hiff : a.profile = 8 ↔ a.delay = 2 := by omega
    have hargs : (cmdRefSetNref h a).2.argOk (s.fetchedFor (cmdRefSetNref h a).1 h) = true := by
      simp [cmdRefSetNref, hn, hen, hauth, hport, hpok, hdl, hiff, haddr, hacc, hacc', hloss, hloss', hsync, hsync', hdelay, hdelay', hann, hann']
    have hfree : (decide (a.enable = 1) && (s.portOwner a.port != 0 || s.portUsed .nref a.port)) = false := by simp [howner, hused]
    have hown : (!(decide (a.enable = 1) && decide (a.auth = 1)) || s.keyOwned h.fn a.key) = true := by simp [hauth]
    have hcheck : (cmdRefSetNref h a).2.check (s.fetchedFor (cmdRefSetNref h a).1 h) = judge [(false, .conflict)] :=
      (if_pos hown).trans (congrArg (fun b => judge [(b, .conflict)]) hfree)
    have hon : ¬ a.enable = 0 := by omega
    refine runCommand_inputOnly hr hargs (congrArg Judged.status hcheck) (cmdRefSetNref_act_of_on hon _) rfl
      (((configureIn_inputOnly _ _).onRef _).store _ _) fun t ht => ?_
    rw [inp_congr ht, nrefIn_congr ht, store_inp, onNref_inp, store_nrefIn, onNref_nref_self]
    exact ⟨(configureIn_inp _ _).1, rfl⟩
  case clearFault =>
    have hcheck : (cmdRefClearFault h r).2.check (s.fetchedFor (cmdRefClearFault h r).1 h) = judge [(false, .state)] :=
      congrArg (fun b => judge [(b, .state)]) (by simp [hfault] : (!decide ((s.inp r).st = .fault)) = false)
    refine runCommand_inputOnly hr href (congrArg Judged.status hcheck) rfl rfl ((((InputOnly.refl r _).setIn _).onIn _).touch _ _) fun t ht => ?_
    have hinp := (inp_congr ht r).trans ((touch_inp _ _ _ r).trans (onIn_inp_self _ _ _))
    rw [hinp]
    exact ⟨setIn_st _ _ _, rfl, rfl⟩
  case readStatus =>
    obtain ⟨t, ht, hcompletes⟩ := runCommand_reads (acc := State.accepted) (i := .refReadStatus h r) (b := (cmdRefReadStatus h r).2)
      (result := [fld 8 (s.refState r).code]) (xb := refStatusRec s r) hr href rfl rfl fun _ => (refStatusRec_bytes s r).trans hx
    refine ⟨t, ht, ?_, ?_⟩ <;> rw [hcompletes.1.lastXb]
    · exact hcompletes
    · rfl

end Sys2Proof.Machine
end

section

/-! ### What a pulse, a gate or a second does to a VALID input (R87, R88, R92, R95) -/

namespace Sys2Proof.Machine

section
variable {s : State} {r : Nat}

theorem setIn_inp_of_ne {st : InState} (h : (s.inp r).st ≠ st) : (s.setIn r st).inp r = { s.inp r with
    st := st, meas := if st = .valid then (s.inp r).meas else none, freq := if st = .valid then (s.inp r).freq else none } := by
  rw [setIn_inp, if_pos rfl, if_neg h]

theorem goodIn_of_valid (h : (s.inp r).st = .valid) (need : Nat) : s.goodIn r need = s.onIn r fun y => { y with missRun := 0 } := by
  simp only [State.goodIn, h]

theorem rejectIn_of_valid (h : (s.inp r).st = .valid) : s.rejectIn r = (s.setIn r .qualifying).onIn r fun y => { y with run := 0 } := by
  simp only [State.rejectIn, h]

theorem loseIn_of_valid (h : (s.inp r).st = .valid) : s.loseIn r = (s.setIn r .absent).onIn r fun y => { y with run := 0 } := by
  simp only [State.loseIn, h]

theorem rejectIn_inputOnly (h : (s.inp r).st = .valid) : InputOnly r s (s.rejectIn r) := by
  rw [rejectIn_of_valid h]
  exact ((InputOnly.refl r s).setIn _).onIn _

theorem loseIn_inputOnly (h : (s.inp r).st = .valid) : InputOnly r s (s.loseIn r) := by
  rw [loseIn_of_valid h]
  exact ((InputOnly.refl r s).setIn _).onIn _

/-- A VALID input that is rejected qualifies anew (R87). -/
theorem rejectIn_inp (h : (s.inp r).st = .valid) :
    (s.rejectIn r).inp r = { s.inp r with st := .qualifying, meas := none, freq := none, run := 0 } := by
  rw [rejectIn_of_valid h, onIn_inp_self, setIn_inp_of_ne (by simp [h])]
  rfl

/-- A VALID input that is lost is ABSENT (R87, R605). -/
theorem loseIn_inp (h : (s.inp r).st = .valid) : (s.loseIn r).inp r = { s.inp r with st := .absent, meas := none, freq := none, run := 0 } := by
  rw [loseIn_of_valid h, onIn_inp_self, setIn_inp_of_ne (by simp [h])]
  rfl

end

/-- A VALID input after one more missing pulse or frame (R88, R95). -/
def RefIn.missed (x : RefIn) : RefIn := { x with missRun := x.missRun + 1, meas := none, cnt := x.cnt.upd 0 0 (· + 1) }

/-- The device with that pulse or frame counted, before a loss is judged. -/
def State.countMiss (s : State) (r : Nat) : State :=
  (s.countRef r 0 1).onIn r fun y => { y with missRun := (s.inp r).missRun + 1, meas := none, run := if y.st = .qualifying then 0 else y.run }

theorem countMiss_inp {s : State} {r : Nat} (h : (s.inp r).st = .valid) : (s.countMiss r).inp r = (s.inp r).missed := by
  rw [State.countMiss, onIn_inp_self, State.countRef, onIn_inp_self]
  simp [RefIn.missed, h]

theorem countMiss_inputOnly (s : State) (r : Nat) : InputOnly r s (s.countMiss r) := ((InputOnly.refl r s).onIn _).onIn _

theorem missIn_of_more {s : State} {r : Nat} (h : (s.inp r).missRun ≠ 2) : s.missIn r = s.countMiss r :=
  if_neg fun h3 => h (Nat.succ.inj h3)

theorem missIn_of_third {s : State} {r : Nat} (h : (s.inp r).missRun = 2) : s.missIn r = (s.countMiss r).loseIn r :=
  if_pos (by rw [h])

/-! ### PPS seconds -/

/-- A second without an in-window edge is a missing pulse; an input that this loses forgets its last edge (R88). -/
theorem onPpsiWindowEnd_of_unseen {s : State} {n : Nat} (hn : n < 4) (hv : (s.inp (refPpsi n)).st = .valid) (hs : (s.pps n).seen = false) :
    onPpsiWindowEnd n s = if ((s.missIn (refPpsi n)).inp (refPpsi n)).st = .absent
      then (s.missIn (refPpsi n)).onPps n fun p => { p with last := none } else s.missIn (refPpsi n) := by
  simp [onPpsiWindowEnd, Nat.not_le.2 hn, hv, hs]

theorem onPpsiWindowEnd_of_miss {s : State} {n : Nat} (hn : n < 4) (hv : (s.inp (refPpsi n)).st = .valid) (hs : (s.pps n).seen = false)
    (hm : (s.inp (refPpsi n)).missRun ≠ 2) : onPpsiWindowEnd n s = s.countMiss (refPpsi n) := by
  have hvalid : (s.countMiss (refPpsi n)).inp (refPpsi n) = (s.inp (refPpsi n)).missed := countMiss_inp hv
  rw [onPpsiWindowEnd_of_unseen hn hv hs, missIn_of_more hm, hvalid, if_neg]
  simp [RefIn.missed, hv]

theorem onPpsiWindowEnd_of_loss {s : State} {n : Nat} (hn : n < 4) (hv : (s.inp (refPpsi n)).st = .valid) (hs : (s.pps n).seen = false)
    (hm : (s.inp (refPpsi n)).missRun = 2) :
    onPpsiWindowEnd n s = ((s.countMiss (refPpsi n)).loseIn (refPpsi n)).onPps n fun p => { p with last := none } := by
  have hvalid : ((s.countMiss (refPpsi n)).inp (refPpsi n)).st = .valid := by rw [countMiss_inp hv]; exact hv
  rw [onPpsiWindowEnd_of_unseen hn hv hs, missIn_of_third hm, if_pos (by rw [loseIn_inp hvalid])]

theorem onPpsiWindowEnd_of_seen {s : State} {n : Nat} (hn : n < 4) (hv : (s.inp (refPpsi n)).st = .valid) (hs : (s.pps n).seen = true) :
    onPpsiWindowEnd n s = s.onPps n fun p => { p with seen := false } := by
  simp [onPpsiWindowEnd, Nat.not_le.2 hn, hv, hs]

/-! ### Frequency gates -/

theorem rabs_eq_abs (q : Rat) : rabs q = |q| := by
  unfold rabs
  split
  · next h => exact (abs_of_nonneg h).symm
  · next h => exact (abs_of_neg (not_le.1 h)).symm

/-- A gate of a CKI or Pendant that has come due is judged by its window (R92). -/
theorem onFrequencyGateEnd_judged {s : State} {r n : Nat} {f : Rat} {c : Bool} (hn : n ≤ s.tc.mtc.ns) (hr : 1 ≤ r) (hr' : r ≤ 8)
    (hg : s.gateValue r = some (f, c)) : onFrequencyGateEnd r s.tc.mtc.sec n s =
      if rabs f ≤ s.gateWindow r then
        ((s.nextGate r).goodIn r 10).onIn r fun x => { x with meas := if c || x.st != .valid then none else some f, var := gateVar }
      else ((s.nextGate r).rejectIn r).onIn r fun x => { x with meas := none } := by
  have hz : r ≠ 0 := by omega
  simp [onFrequencyGateEnd, State.sec, Nat.not_lt.2 hr', Nat.not_lt.2 hn, hg, hz]

theorem onFrequencyGateEnd_of_within {s : State} {r n : Nat} {f : Rat} {c : Bool} (hn : n ≤ s.tc.mtc.ns) (hr : 1 ≤ r) (hr' : r ≤ 8)
    (hv : (s.inp r).st = .valid) (hg : s.gateValue r = some (f, c)) (hle : rabs f ≤ s.gateWindow r) :
    onFrequencyGateEnd r s.tc.mtc.sec n s = ((s.nextGate r).onIn r fun y => { y with missRun := 0 }).onIn r fun x =>
      { x with meas := if c || x.st != .valid then none else some f, var := gateVar } := by
  rw [onFrequencyGateEnd_judged hn hr hr' hg, if_pos hle, goodIn_of_valid (s := s.nextGate r) hv]

theorem onFrequencyGateEnd_of_outside {s : State} {r n : Nat} {f : Rat} {c : Bool} (hn : n ≤ s.tc.mtc.ns) (hr : 1 ≤ r) (hr' : r ≤ 8)
    (hg : s.gateValue r = some (f, c)) (hlt : s.gateWindow r < rabs f) :
    onFrequencyGateEnd r s.tc.mtc.sec n s = ((s.nextGate r).rejectIn r).onIn r fun x => { x with meas := none } := by
  rw [onFrequencyGateEnd_judged hn hr hr' hg, if_neg (not_le.2 hlt)]

/-! ### Clock monitors -/

/-- The device with the status of one clock monitor's sensor set (R494). -/
def State.onMonitor (s : State) (c : ClockInput) (status : Nat) : State :=
  s.onMgmt fun m => { m with sensors := m.sensors.upd {} (clockSensor c) fun x => { x with status := status } }

theorem onMonitor_status (s : State) (c : ClockInput) (k : Nat) : ((s.onMonitor c k).mgmt.sensors.look {} (clockSensor c)).status = k := by
  rw [State.onMonitor, onMgmt_mgmt, Tab.look_upd_self]

theorem onClockMonitorLoss_cki {s : State} {n : Nat} (hn : n < 4) :
    onClockMonitorLoss (.cki n) s = (s.onMonitor (.cki n) 2).loseIn (refCki n) := by
  simp only [onClockMonitorLoss, clockRef, if_pos hn]
  rfl

/-- Raising events and storing records leaves the sensors alone. -/
theorem Calm.sensors {s t : State} (h : Calm s t) : t.mgmt.sensors = s.mgmt.sensors := by
  have hsensors := congrArg MgmtSt.sensors h.mgmt
  exact hsensors

/-! ### Time codes -/

/-- Nothing changed but the references. -/
def RefOnly (s t : State) : Prop := t = { s with ref := t.ref }

theorem RefOnly.refl (s : State) : RefOnly s s := rfl

theorem RefOnly.onRef {s t : State} (h : RefOnly s t) (f : RefSt → RefSt) : RefOnly s (t.onRef f) := by
  unfold RefOnly at h ⊢
  rw [h]
  rfl

theorem checkIndicated_of_agrees {s : State} {i : LeapInd} (source : Nat) (h : s.leapDisagrees i = false) : s.checkIndicated source i = s := by
  rw [State.checkIndicated, h]
  rfl

theorem leapDisagrees_of_empty {s : State} (h : s.tc.leap = []) (i : LeapInd) : s.leapDisagrees i = false := by
  simp [State.leapDisagrees, h]

theorem onTci_pps (s : State) (n k : Nat) (f : TcIn → TcIn) : (s.onTci n f).pps k = s.pps k := rfl

/-- On a VALID time-code input the second after its last counts as good (R95). -/
theorem tciSecond_of_next {s : State} {n sec : Nat} (hv : (s.inp (refTci n)).st = .valid) (hsec : 1 ≤ sec) (hl : (s.tci n).last = some (sec - 1)) :
    s.tciSecond n sec = (s.onTci n fun x => { x with last := some sec }).onIn (refTci n) fun y => { y with missRun := 0 } := by
  have hgood := goodIn_of_valid (s := s.onTci n fun x => { x with last := some sec }) hv 3
  have hne : ¬ (s.inp (refTci n)).st = .absent := by simp [hv]
  simp only [State.tciSecond, if_neg hne, hl, hgood]
  rw [if_pos (by omega)]

theorem tciMiss_of_absent {s : State} {n : Nat} (h : (s.inp (refTci n)).st = .absent) : s.tciMiss n = s.countRef (refTci n) 0 1 := by
  simp [State.tciMiss, h]

/-- A good frame whose second follows the last measures by the stamp of the Pr it began with (R94, R95). -/
theorem onIrigFrame_of_next {s : State} {n : Nat} {f : IrigObs} {p : Int} {c : Bool} (hn : n < 2) (hk : (s.tci n).kind = 1)
    (hv : (s.inp (refTci n)).st = .valid) (hw : f.widthOk = true) (hm : f.markersOk = true) (hp : f.parityOk = true)
    (hf : irigFieldsOk (s.tci n).format f = true) (hleap : s.leapDisagrees ((s.tci n).indicated f) = false) (hpr : (s.tci n).pr = some (p, c))
    (hsec : 1 ≤ s.irigSecond (s.tci n) f) (hl : (s.tci n).last = some (s.irigSecond (s.tci n) f - 1)) :
    onIrigFrame n f s = (((s.onTci n fun x => { x with last := some (s.irigSecond (s.tci n) f) }).onIn (refTci n) fun y => { y with missRun := 0 }).onTci n
        fun x => { x with pr := none, ext := if (s.tci n).ieee1344 && f.ext.isSome then f.ext else x.ext }).onIn (refTci n) fun x => { x with
          var := stampVar, meas := if x.st = .valid && !c then some (unitsPs (p - (s.irigSecond (s.tci n) f : Int) * secUnits)) else none } := by
  have hne : ¬ (s.inp (refTci n)).st = .fault := by simp [hv]
  simp only [onIrigFrame, Nat.not_le.2 hn, hk, hne, hw, hm, hp, hf, hpr, checkIndicated_of_agrees _ hleap, tciSecond_of_next hv hsec hl]
  simp

/-- A frame with a parity error on an ABSENT input is counted as discarded and as missing (R95). -/
theorem onIrigFrame_of_badParity {s : State} {n : Nat} {f : IrigObs} (hn : n < 2) (hk : (s.tci n).kind = 1) (ha : (s.inp (refTci n)).st = .absent)
    (hp : f.parityOk = false) : onIrigFrame n f s = (s.countRef (refTci n) 2 1).countRef (refTci n) 0 1 := by
  have habsent : ((s.countRef (refTci n) 2 1).inp (refTci n)).st = .absent := by
    rw [State.countRef, onIn_inp_self]
    exact ha
  simp [onIrigFrame, Nat.not_le.2 hn, hk, ha, hp, tciMiss_of_absent habsent]

theorem onSerialTodMessage_of_bad {s : State} {n : Nat} {m : TodMsg} (hn : n < 2) (hk : (s.tci n).kind = 2) (hf : (s.inp (refTci n)).st ≠ .fault)
    (hg : m.good = false) : onSerialTodMessage n m s = s.countRef (refTci n) 2 1 := by
  simp [onSerialTodMessage, Nat.not_le.2 hn, hk, hf, hg]

/-- A good message that names the previous edge labels it, and by it the second that follows the last is measured (R96). -/
theorem onSerialTodMessage_of_next {s : State} {n : Nat} {m : TodMsg} {e : Int} (hn : n < 2) (hk : (s.tci n).kind = 2) (hsc : (s.tci n).scale = 1)
    (hprev : (s.tci n).previous = true) (hv : (s.inp (refTci n)).st = .valid) (hmk : m.kind = 1) (hgood : m.good = true) (hexp : m.expected = true)
    (hvalid : m.valid = true) (haft : 10 ≤ m.afterMs) (haft' : m.afterMs ≤ 990) (hseen : (s.tci n).seen = false) (hlast : (s.pps n).last = some e)
    (hcoarse : (s.pps n).coarse = false) (hleap : s.tc.leap = []) (hsec : 1 ≤ m.sec) (hl : (s.tci n).last = some (m.sec - 1)) :
    onSerialTodMessage n m s = ((((s.onPps n fun q => { q with serial := q.last.map fun e => (e, m.sec) }).onTci n fun x => { x with seen := true }).onTci n
        fun x => { x with last := some m.sec }).onIn (refTci n) fun y => { y with missRun := 0 }).onIn (refTci n) fun x => { x with
          var := stampVar, meas := if x.st = .valid then some (unitsPs (e - (m.sec : Int) * secUnits) - ((s.pps n).cable : Rat)) else none } := by
  have hne : ¬ (s.inp (refTci n)).st = .fault := by simp [hv]
  generalize hu : (s.onPps n fun q => { q with serial := q.last.map fun e => (e, m.sec) }).onTci n (fun x => { x with seen := true }) = u
  have huv : (u.inp (refTci n)).st = .valid := by rw [← hu]; exact hv
  have hul : (u.tci n).last = some (m.sec - 1) := by rw [← hu, onTci_tci_self]; exact hl
  have hagree : ∀ i, (u.tciSecond n m.sec).checkIndicated (refTci n) i = u.tciSecond n m.sec := fun i =>
    checkIndicated_of_agrees _ (leapDisagrees_of_empty (by rw [tciSecond_tc, ← hu]; exact hleap) i)
  have hago : ¬ m.afterMs < 10 ∧ ¬ 990 < m.afterMs := ⟨Nat.not_lt.2 haft, Nat.not_lt.2 haft'⟩
  rw [← tciSecond_of_next huv hsec hul]
  simp [onSerialTodMessage, Nat.not_le.2 hn, hk, hne, hgood, hexp, hmk, hsc, hvalid, hago, hseen, hlast, hprev, hcoarse, hu, hagree]

/-- It labels the previous edge, and the input measures that edge against its label (R96). -/
theorem onSerialTodMessage_labels {s : State} {n : Nat} {m : TodMsg} {e : Int} (hn : n < 2) (hk : (s.tci n).kind = 2) (hsc : (s.tci n).scale = 1)
    (hprev : (s.tci n).previous = true) (hv : (s.inp (refTci n)).st = .valid) (hmk : m.kind = 1) (hgood : m.good = true) (hexp : m.expected = true)
    (hvalid : m.valid = true) (haft : 10 ≤ m.afterMs) (haft' : m.afterMs ≤ 990) (hseen : (s.tci n).seen = false) (hlast : (s.pps n).last = some e)
    (hcoarse : (s.pps n).coarse = false) (hleap : s.tc.leap = []) (hsec : 1 ≤ m.sec) (hl : (s.tci n).last = some (m.sec - 1)) :
    RefOnly s (onSerialTodMessage n m s) ∧ ((onSerialTodMessage n m s).pps n).serial = some (e, m.sec) ∧
      ((onSerialTodMessage n m s).tci n).last = some m.sec ∧ ((onSerialTodMessage n m s).tci n).seen = true ∧
      ((onSerialTodMessage n m s).inp (refTci n)).meas = some (unitsPs (e - (m.sec : Int) * secUnits) - ((s.pps n).cable : Rat)) := by
  rw [onSerialTodMessage_of_next hn hk hsc hprev hv hmk hgood hexp hvalid haft haft' hseen hlast hcoarse hleap hsec hl]
  refine ⟨(((((RefOnly.refl s).onRef _).onRef _).onRef _).onRef _).onRef _, ?_, ?_⟩
  · rw [onIn_pps, onIn_pps, onTci_pps, onTci_pps, onPps_pps_self, hlast]
    rfl
  · rw [onIn_tci, onIn_tci, onTci_tci_self, onTci_tci_self, onIn_inp_self, onIn_inp_self, onTci_inp, onTci_inp, onPps_inp]
    exact ⟨rfl, rfl, if_pos hv⟩

theorem onMissingFrame_of_absent {s : State} {n : Nat} (hn : n < 2) (hk : (s.tci n).kind ≠ 0) (ha : (s.inp (refTci n)).st = .absent) :
    onMissingFrame n s = s.countRef (refTci n) 0 1 := by
  simp [onMissingFrame, Nat.not_le.2 hn, hk, tciMiss_of_absent ha]

/-- Settles O6: each row by the one change it makes of its input. -/
theorem refInputEvents : Obligations.RefInputEvents := by
  unfold Obligations.RefInputEvents
  refine ⟨fun s n ha hn hv hs hm => ?miss, fun s n ha hn hv hs hm => ?third, fun s n ha hn hv hs => ?seen,
    fun s r f c n ha hn hr hr' hv hg hhi hlo => ?within, fun s r f c n ha hn hr hr' hv hg hhi => ?outside, fun s n ha hn hv => ?clockLoss,
    fun s c ha => ?clockGood, fun s n f p c ha hn hk hv hw hm hp hf hleap hpr hsec hl => ?irig, fun s n f ha hn hk hst hp => ?badIrig,
    fun s n m ha hn hk hf hg => ?badTod,
    fun s n m e ha hn hk hsc hprev hv hmk hgood hexp hvalid haft haft' hseen hlast hcoarse hleap hsec hl => ?tod, fun s n ha hn hk hst => ?missing⟩
  case miss =>
    refine Does.of_alive rfl ha ?_
    rw [onPpsiWindowEnd_of_miss hn hv hs hm]
    exact ⟨rfl, countMiss_inp hv, (countMiss_inputOnly _ _).others⟩
  case third =>
    refine Does.of_alive rfl ha ?_
    have hmiss := countMiss_inp hv
    have hvalid : ((s.countMiss (refPpsi n)).inp (refPpsi n)).st = .valid := by rw [hmiss]; exact hv
    rw [onPpsiWindowEnd_of_loss hn hv hs hm, onPps_inp, loseIn_inp hvalid, hmiss]
    exact ⟨rfl, congrArg (· + 1) hm, rfl, ((countMiss_inputOnly _ _).trans (loseIn_inputOnly hvalid)).others⟩
  case seen =>
    refine Does.of_alive rfl ha ?_
    rw [onPpsiWindowEnd_of_seen hn hv hs]
    exact ⟨rfl, onPps_pps_self _ _ _, fun _ => rfl⟩
  case within =>
    have hle : rabs f ≤ s.gateWindow r := by
      rw [rabs_eq_abs]
      exact abs_le.2 ⟨hlo, hhi⟩
    refine Does.of_alive rfl ha ?_
    rw [onFrequencyGateEnd_of_within hn hr hr' hv hg hle]
    refine ⟨rfl, ?_, ((((InputOnly.refl r s).onRef _).onIn _).onIn _).others⟩
    rw [onIn_inp_self, onIn_inp_self]
    have hgate : (s.nextGate r).inp r = s.inp r := rfl
    simp [hgate, hv]
  case outside =>
    have hlt : s.gateWindow r < rabs f := by
      rw [rabs_eq_abs]
      exact hhi.trans_le (le_abs_self f)
    have hgate : InputOnly r s (s.nextGate r) := (InputOnly.refl r s).onRef _
    refine Does.of_alive rfl ha ?_
    rw [onFrequencyGateEnd_of_outside hn hr hr' hg hlt, onIn_inp_self, rejectIn_inp (s := s.nextGate r) hv]
    exact ⟨rfl, rfl, rfl, ((hgate.trans (rejectIn_inputOnly hv)).onIn _).others⟩
  case clockLoss =>
    have hlose := loseIn_inputOnly (s := s.onMonitor (.cki n) 2) hv
    refine Does.of_alive rfl ha ?_
    rw [onClockMonitorLoss_cki hn, loseIn_inp (s := s.onMonitor (.cki n) 2) hv, hlose.calm.sensors]
    exact ⟨rfl, onMonitor_status s (.cki n) 2, hlose.others⟩
  case clockGood => exact Does.of_alive rfl ha ⟨rfl, onMonitor_status s c 0⟩
  case irig =>
    refine Does.of_alive rfl ha ?_
    rw [onIrigFrame_of_next hn hk hv hw hm hp hf hleap hpr hsec hl, onIn_tci, onTci_tci_self, onIn_tci, onTci_tci_self, onIn_inp_self, onTci_inp,
      onIn_inp_self, onTci_inp]
    refine ⟨((((RefOnly.refl s).onRef _).onRef _).onRef _).onRef _, rfl, hv, ?_⟩
    cases c <;> simp [hv]
  case badIrig =>
    refine Does.of_alive rfl ha ?_
    rw [onIrigFrame_of_badParity hn hk hst hp, countRef_inp_self, countRef_inp_self]
    refine ⟨rfl, ?_, hst, rfl⟩
    simp [Tab.look_upd]
  case badTod =>
    refine Does.of_alive rfl ha ?_
    rw [onSerialTodMessage_of_bad hn hk hf hg]
    exact ⟨rfl, countRef_inp_self _ _ _ _⟩
  case tod =>
    exact Does.of_alive rfl ha
      (onSerialTodMessage_labels hn hk hsc hprev hv hmk hgood hexp hvalid haft haft' hseen hlast hcoarse hleap hsec hl)
  case missing =>
    refine Does.of_alive rfl ha ?_
    rw [onMissingFrame_of_absent hn hk hst]
    exact ⟨rfl, countRef_inp_self _ _ _ _⟩

end Sys2Proof.Machine
end

section

/-! ### Network references (R97-R102) -/

namespace Sys2Proof.Machine

theorem countRef_nrefIn (s : State) (r c k n : Nat) : (s.countRef r c k).nrefIn n = s.nrefIn n := rfl

theorem onNrefMessage_of_fault {s : State} {n c : Nat} {m : NrefMsg} (hn : n < 16) (hst : (s.inp (refNref n)).st ≠ .off)
    (hf : s.nrefFault n m = some c) : onNrefMessage n m s = (s.countRef (refNref n) (8 + c) 1).logPartner 0x1080 (refNref n) := by
  simp only [onNrefMessage, hf]
  rw [if_neg]
  simp [Nat.not_le.2 hn, hst]

/-- The device with this message's master noted as the one heard last. -/
def State.heard (s : State) (n : Nat) (m : NrefMsg) : State := s.onNref n fun y => { y with ident := some m.ident }

theorem heard_nrefIn {s : State} {n : Nat} {m : NrefMsg} (hid : (s.nrefIn n).ident = some m.ident) : (s.heard n m).nrefIn n = s.nrefIn n := by
  rw [State.heard, onNref_nref_self, ← hid]

/-- A plain sample from the master already heard changes nothing of the input before it reaches the servo (R99, R100). -/
theorem onNrefMessage_of_sample {s : State} {n : Nat} {m : NrefMsg} {v : Rat × Rat} (hn : n < 16) (hst : (s.inp (refNref n)).st ≠ .off)
    (hf : s.nrefFault n m = none) (hq : m.seqId = none) (hresp : m.response = false) (hhall : m.hallmark = none) (hs : m.sample = some v)
    (hid : (s.nrefIn n).ident = some m.ident) :
    onNrefMessage n m s = (s.heard n m).nrefSample n v := by
  simp only [onNrefMessage, hf]
  rw [if_neg (by simp [Nat.not_le.2 hn, hst])]
  cases (s.nrefIn n).hall <;> simp [State.heard, hq, hresp, hhall, hs, hid]

/-- A sample far from the servo's prediction is an outlier (R101). -/
def NrefIn.outlier (x : NrefIn) (now : Nat) (v : Rat × Rat) : Prop := (x.cfg.accept : Rat) * 1000 < rabs (v.1 - x.predict now)

theorem nrefSample_of_outlier {s : State} {n : Nat} {v : Rat × Rat} (hv : (s.inp (refNref n)).st = .valid) (ho : (s.nrefIn n).outlier s.upNs v) :
    s.nrefSample n v = (s.countRef (refNref n) 4 1).onNref n fun y => { y with outliers := y.outliers + 1 } := by
  unfold NrefIn.outlier at ho
  simp [State.nrefSample, hv, ho]

theorem nrefSample_of_accepted {s : State} {n : Nat} {v : Rat × Rat} (hv : (s.inp (refNref n)).st = .valid) (ho : ¬ (s.nrefIn n).outlier s.upNs v) :
    s.nrefSample n v = s.onNref n fun y => { y with samples := y.samples ++ [v] } := by
  unfold NrefIn.outlier at ho
  simp [State.nrefSample, hv, ho]

theorem onNref_nrefIn_other (s : State) {n k : Nat} (f : NrefIn → NrefIn) (h : k ≠ n) : (s.onNref n f).nrefIn k = s.nrefIn k :=
  Tab.look_upd_other _ _ _ h.symm

theorem onNrefRequestSend_of_plain {s : State} {n : Nat} (hn : n < 16) (hst : (s.inp (refNref n)).st ≠ .off) (hauth : (s.nrefIn n).cfg.auth ≠ 2) :
    onNrefRequestSend n s = s.onNref n fun x => { x with outstanding := x.outstanding + 1, reqSeq := (x.reqSeq + 1) % 65536,
                                                         cookies := if x.cfg.auth = 2 then x.cookies - 1 else x.cookies } := by
  simp [onNrefRequestSend, Nat.not_le.2 hn, hst, hauth]

theorem onNrefLossTimeout_of_valid {s : State} {n : Nat} (hn : n < 16) (hv : (s.inp (refNref n)).st = .valid) :
    onNrefLossTimeout n s = (s.countRef (refNref n) 5 1).nrefHold n := by
  simp only [onNrefLossTimeout, hv]
  exact if_neg (Nat.not_le.2 hn)

/-! ### Pendants (R104-R110) -/

/-- A malformed frame is counted and logged, and a health channel in use is STALE (R42, R106). -/
theorem pendMalformed_of_used {s : State} {n : Nat} (hh : (s.pend n).health ≠ .none) :
    s.pendMalformed n = { s with ref := (s.pendMalformed n).ref, mgmt := (s.pendMalformed n).mgmt } ∧
    (s.pendMalformed n).pend n = { s.pend n with health := .stale } ∧
    (s.pendMalformed n).inp (refPend n) = { s.inp (refPend n) with cnt := (s.inp (refPend n)).cnt.upd 0 17 (· + 1) } := by
  have href : (s.pendMalformed n).ref =
      ((s.countRef (refPend n) 17 1).onPend n fun p => { p with health := if p.health = .none then .none else .stale }).ref := logPartner_ref _ _ _
  refine ⟨?_, ?_, (inp_congr href _).trans (countRef_inp_self _ _ _ _)⟩
  · unfold State.pendMalformed
    rw [logPartner_rest]
    rfl
  · refine (pend_congr href n).trans ((onPend_pend_self _ _ _).trans ?_)
    have hpend : (s.countRef (refPend n) 17 1).pend n = s.pend n := rfl
    rw [hpend, if_neg hh]

theorem onPendantFrame_of_malformed {s : State} {n k : Nat} {f : List (BitVec 8)} (hn : n < 4) (hh : (s.pend n).health ≠ .none)
    (hf : parseFrame f = none) : onPendantFrame n k f s = (s.countRef (refPend n) 16 k).pendMalformed n := by
  simp [onPendantFrame, Nat.not_le.2 hn, hh, hf]

theorem onPendantByteGap_of_used {s : State} {n : Nat} (hn : n < 4) (hh : (s.pend n).health ≠ .none) : onPendantByteGap n s = s.pendMalformed n := by
  simp [onPendantByteGap, Nat.not_le.2 hn, hh]

theorem onPendantHealthTimeout_of_used {s : State} {n : Nat} (hn : n < 4) (hh : (s.pend n).health ≠ .none) :
    onPendantHealthTimeout n s = s.onPend n fun p => { p with health := .stale } := by
  simp [onPendantHealthTimeout, Nat.not_le.2 hn, hh]

/-- An unanswered steer command is sent again until it was sent three times, and then steering is FAILED (R110). -/
theorem onPendantSteerResend_of_waiting {s : State} {n : Nat} (hn : n < 4) (hw : (s.pend n).waiting ≠ none) (hf : (s.pend n).failed = false) :
    onPendantSteerResend n s =
      if (s.pend n).sends < 3 then (s.countRef (refPend n) 23 1).onPend n fun q =>
        { q with sends := q.sends + 1, txd := steerFrame ((s.pend n).waiting.getD 0) q.steerSeq }
      else (s.onPend n fun q => { q with failed := true, waiting := none }).raise0 0x1002 [fld 8 n] := by
  simp [onPendantSteerResend, Nat.not_le.2 hn, hw, hf]

/-- Settles O7: the network rows by what they do to the servo, the Pendant rows by what they do to its health and steering. -/
theorem networkAndPendantEvents : Obligations.NetworkAndPendantEvents := by
  unfold Obligations.NetworkAndPendantEvents
  refine ⟨fun s n c m ha hn hst hf => ?faulty, fun s n m v ha hn hv hf hq hresp hhall hs hid hhi hlo => ?accepted,
    fun s n m v ha hn hv hf hq hresp hhall hs hid hhi => ?outlier, fun s n ha hn hst hauth => ?request, fun s n ha hn hv => ?silent,
    fun s n k f ha hn hh hf => ?frame, fun s n ha hn hh => ?gap, fun s n ha hn hh => ?health, fun s n ha hn hw hf => ?steer⟩
  case faulty =>
    refine Does.of_alive rfl ha ?_
    have href := logPartner_ref (s.countRef (refNref n) (8 + c) 1) 0x1080 (refNref n)
    rw [onNrefMessage_of_fault hn hst hf]
    have hnref := congrArg RefSt.nref href
    refine ⟨?_, (inp_congr href _).trans (countRef_inp_self _ _ _ _), hnref⟩
    rw [logPartner_rest]
    rfl
  case accepted =>
    have hst : (s.inp (refNref n)).st ≠ .off := by simp [hv]
    have hsame := heard_nrefIn hid
    have hnear : ¬ (s.nrefIn n).outlier s.upNs v := by
      rw [NrefIn.outlier, rabs_eq_abs, not_lt]
      exact abs_le.2 ⟨hlo, hhi⟩
    refine Does.of_alive rfl ha ?_
    rw [onNrefMessage_of_sample hn hst hf hq hresp hhall hs hid, nrefSample_of_accepted (s := s.heard n m) hv (by rw [hsame]; exact hnear), onNref_nref_self, hsame]
    exact ⟨rfl, rfl, fun _ => rfl⟩
  case outlier =>
    have hst : (s.inp (refNref n)).st ≠ .off := by simp [hv]
    have hsame := heard_nrefIn hid
    have hfar : (s.nrefIn n).outlier s.upNs v := by
      rw [NrefIn.outlier, rabs_eq_abs]
      exact hhi.trans_le (le_abs_self _)
    refine Does.of_alive rfl ha ?_
    rw [onNrefMessage_of_sample hn hst hf hq hresp hhall hs hid, nrefSample_of_outlier (s := s.heard n m) hv (by rw [hsame]; exact hfar), onNref_nref_self, onNref_inp,
      countRef_inp_self, countRef_nrefIn, hsame]
    exact ⟨rfl, rfl, rfl, Tab.look_upd_self _ _ _ _, hv⟩
  case request =>
    refine Does.of_alive rfl ha ?_
    rw [onNrefRequestSend_of_plain hn hst hauth]
    refine ⟨rfl, ?_, fun q hq => onNref_nrefIn_other s _ hq⟩
    rw [onNref_nref_self, if_neg hauth]
  case silent =>
    have hcounted : ((s.countRef (refNref n) 5 1).inp (refNref n)).st ≠ .held := by
      rw [countRef_inp_self]
      simp [hv]
    refine Does.of_alive rfl ha ?_
    rw [onNrefLossTimeout_of_valid hn hv, State.nrefHold, onNref_inp, onNref_nref_self, setIn_inp_of_ne hcounted, countRef_inp_self]
    exact ⟨rfl, rfl, Tab.look_upd_self _ _ _ _⟩
  case frame =>
    obtain ⟨hrest, hpend, hinp⟩ := pendMalformed_of_used (s := s.countRef (refPend n) 16 k) (n := n) hh
    refine Does.of_alive rfl ha ?_
    rw [onPendantFrame_of_malformed hn hh hf, hpend, hinp, countRef_inp_self]
    refine ⟨hrest, rfl, ?_, ?_⟩ <;> simp [Tab.look_upd]
  case gap =>
    obtain ⟨hrest, hpend, hinp⟩ := pendMalformed_of_used hh
    refine Does.of_alive rfl ha ?_
    rw [onPendantByteGap_of_used hn hh, hpend, hinp]
    exact ⟨hrest, rfl, Tab.look_upd_self _ _ _ _⟩
  case health =>
    refine Does.of_alive rfl ha ?_
    rw [onPendantHealthTimeout_of_used hn hh]
    exact ⟨rfl, onPend_pend_self _ _ _, fun _ => rfl⟩
  case steer =>
    refine Does.of_alive rfl ha ?_
    rw [onPendantSteerResend_of_waiting hn hw hf]
    refine ⟨fun hlt => ?_, fun hge => ?_⟩
    · rw [if_pos hlt, onPend_pend_self, onPend_inp, countRef_inp_self]
      exact ⟨rfl, rfl, Tab.look_upd_self _ _ _ _⟩
    · rw [if_neg (Nat.not_lt.2 hge)]
      refine ⟨(pend_congr (raise0_ref _ _ _) n).trans (onPend_pend_self _ _ _), ?_⟩
      unfold State.raise0
      rw [raise_rest]
      rfl

end Sys2Proof.Machine
end

section

/-! ### The tables of the baseband -/

namespace Sys2Proof.Machine

/-- A rule that leaves the unlisted default alone reads as the rule on every entry of the table. -/
theorem Tab.look_mapAll {α : Type} {f : Nat → α → α} {d : α} (hd : ∀ i, f i d = d) (t : Tab α) (i : Nat) :
    (t.mapAll f).look d i = f i (t.look d i) := by
  induction t with
  | nil => exact (hd i).symm
  | cons p r ih =>
    obtain ⟨j, a⟩ := p
    change (if j = i then f j a else (Tab.mapAll r f).look d i) = f i (if j = i then a else Tab.look r d i)
    split
    · next h => rw [h]
    · exact ih

section
variable {s t u : State}

theorem strm_congr (h : t.gnss = u.gnss) (n : Nat) : t.strm n = u.strm n := congrArg (fun g : GnssSt => g.streams.look {} n) h

theorem gch_congr (h : t.gnss = u.gnss) (c : Nat) : t.gch c = u.gch c := congrArg (fun g : GnssSt => g.chans.look {} c) h

theorem ant_congr (h : t.gnss = u.gnss) (a : Nat) : t.ant a = u.ant a := congrArg (fun g : GnssSt => g.ants.look {} a) h

end

theorem onStrm_strm (s : State) (n k : Nat) (f : GnssStream → GnssStream) : (s.onStrm n f).strm k = if n = k then f (s.strm n) else s.strm k :=
  Tab.look_upd _ _ _ _ _

@[simp] theorem onStrm_strm_self (s : State) (n : Nat) (f : GnssStream → GnssStream) : (s.onStrm n f).strm n = f (s.strm n) :=
  Tab.look_upd_self _ _ _ _

theorem onStrm_strm_other (s : State) {n k : Nat} (f : GnssStream → GnssStream) (h : k ≠ n) : (s.onStrm n f).strm k = s.strm k :=
  Tab.look_upd_other _ _ _ h.symm

@[simp] theorem onAnt_ant_self (s : State) (a : Nat) (f : Antenna → Antenna) : (s.onAnt a f).ant a = f (s.ant a) := Tab.look_upd_self _ _ _ _

theorem onAnt_ant_other (s : State) {a b : Nat} (f : Antenna → Antenna) (h : b ≠ a) : (s.onAnt a f).ant b = s.ant b :=
  Tab.look_upd_other _ _ _ h.symm

@[simp] theorem onAnt_inp (s : State) (a r : Nat) (f : Antenna → Antenna) : (s.onAnt a f).inp r = s.inp r := rfl
@[simp] theorem onIn_ant (s : State) (r a : Nat) (f : RefIn → RefIn) : (s.onIn r f).ant a = s.ant a := rfl

theorem store_strm (s : State) (k i n : Nat) : (s.store k i).strm n = s.strm n := rfl

theorem store_gch (s : State) (k i c : Nat) : (s.store k i).gch c = s.gch c := rfl

/-! ### A stream that enters a state, and the reference of its antenna (R115, R116, R134) -/

theorem idleChannels_gch (s : State) (n c : Nat) : (s.idleChannels n).gch c = if (s.gch c).stream = n then {} else s.gch c :=
  Tab.look_mapAll (f := fun _ (x : GnssChan) => if x.stream = n then {} else x) (fun _ => ite_self _) s.gnss.chans c

theorem setStream_rest (s : State) (n : Nat) (st : StreamState) : s.setStream n st = s.onGnss fun _ => (s.setStream n st).gnss := by
  unfold State.setStream
  dsimp only
  split <;> rfl

theorem setStream_strm (s : State) (n k : Nat) (st : StreamState) :
    (s.setStream n st).strm k = if n = k then { s.strm n with st := st } else s.strm k := by
  have hset : (s.setStream n st).strm k = (s.onStrm n fun x => { x with st := st }).strm k := by
    unfold State.setStream
    dsimp only
    split <;> rfl
  exact hset.trans (onStrm_strm _ _ _ _)

/-- Out of UP no channel of the stream is in use (R116, R119). -/
theorem setStream_gch_st {s : State} {n c : Nat} {st : StreamState} (hst : st ≠ .up) (hc : ((s.setStream n st).gch c).stream = n) :
    ((s.setStream n st).gch c).st = .idle := by
  have hgch : (s.setStream n st).gch c = if (s.gch c).stream = n then {} else s.gch c := by
    rw [State.setStream, if_neg hst, idleChannels_gch]
    rfl
  rw [hgch] at hc ⊢
  split at hc
  · next h => rw [if_pos h]
  · next h => exact absurd hc h

theorem configureIn_gnss (s : State) (r : Nat) : (s.configureIn r).gnss = s.gnss := (congrArg State.gnss (configureIn_rest s r) :)

theorem deconfigureIn_gnss (s : State) (r : Nat) : (s.deconfigureIn r).gnss = s.gnss := (congrArg State.gnss (deconfigureIn_rest s r) :)

/-- A change of the baseband and the references alone, with what reports and stores it. -/
structure BasebandOnly (s t : State) : Prop where
  calm : Calm s t
  rest : t = { s with gnss := t.gnss, ref := t.ref, mbx := t.mbx, mgmt := t.mgmt }

section
variable {s t u : State}

theorem BasebandOnly.refl (s : State) : BasebandOnly s s := ⟨.refl s, rfl⟩

theorem BasebandOnly.trans (h : BasebandOnly s t) (k : BasebandOnly t u) : BasebandOnly s u := by
  refine ⟨h.calm.trans k.calm, ?_⟩
  rw [k.rest, h.rest]

theorem BasebandOnly.onGnss (h : BasebandOnly s t) (f : GnssSt → GnssSt) : BasebandOnly s (t.onGnss f) := h.trans ⟨(Calm.refl t).onGnss f, rfl⟩

theorem BasebandOnly.onAnt (h : BasebandOnly s t) (a : Nat) (f : Antenna → Antenna) : BasebandOnly s (t.onAnt a f) := h.onGnss _

theorem BasebandOnly.store (h : BasebandOnly s t) (k i : Nat) : BasebandOnly s (t.store k i) := h.trans ⟨(Calm.refl t).store k i, rfl⟩

end

theorem setStream_basebandOnly (s : State) (n : Nat) (st : StreamState) : BasebandOnly s (s.setStream n st) := by
  rw [setStream_rest]
  exact (BasebandOnly.refl s).onGnss _

theorem configureIn_basebandOnly (s : State) (r : Nat) : BasebandOnly s (s.configureIn r) :=
  ⟨configureIn_calm (.refl s) r, by rw [configureIn_gnss]; exact configureIn_rest s r⟩

theorem deconfigureIn_basebandOnly (s : State) (r : Nat) : BasebandOnly s (s.deconfigureIn r) :=
  ⟨deconfigureIn_calm (.refl s) r, by rw [deconfigureIn_gnss]; exact deconfigureIn_rest s r⟩

/-- The reference of an antenna follows whether one of its streams is enabled (R87, R113). -/
def State.followStreams (s : State) (a : Nat) : State :=
  if (s.strm (a * 2)).cfg.enable = 1 || (s.strm (a * 2 + 1)).cfg.enable = 1 then s.configureGnss a else s.deconfigureIn (refGnss a)

theorem followStreams_basebandOnly (s : State) (a : Nat) : BasebandOnly s (s.followStreams a) := by
  unfold State.followStreams
  split
  · exact (configureIn_basebandOnly s _).onAnt _ _
  · exact deconfigureIn_basebandOnly s _

theorem followStreams_strm (s : State) (a n : Nat) : (s.followStreams a).strm n = s.strm n := by
  unfold State.followStreams
  split
  · exact strm_congr (configureIn_gnss s _) n
  · exact strm_congr (deconfigureIn_gnss s _) n

theorem followStreams_gch (s : State) (a c : Nat) : (s.followStreams a).gch c = s.gch c := by
  unfold State.followStreams
  split
  · exact gch_congr (configureIn_gnss s _) c
  · exact gch_congr (deconfigureIn_gnss s _) c

theorem followStreams_inp_other (s : State) {a q : Nat} (hq : q ≠ refGnss a) : (s.followStreams a).inp q = s.inp q := by
  unfold State.followStreams
  split
  · exact configureIn_inp_other s hq
  · exact deconfigureIn_inp_other s hq

theorem followStreams_inp_of_enabled {s : State} {n : Nat} (hen : (s.strm n).cfg.enable = 1) :
    ((s.followStreams (n / 2)).inp (refGnss (n / 2))).st = if (s.inp (refGnss (n / 2))).st = .off then .absent else .qualifying := by
  have hused : (s.strm (n / 2 * 2)).cfg.enable = 1 ∨ (s.strm (n / 2 * 2 + 1)).cfg.enable = 1 := by
    rcases Nat.mod_two_eq_zero_or_one n with hmod | hmod
    · exact .inl (by rwa [show n / 2 * 2 = n by omega])
    · exact .inr (by rwa [show n / 2 * 2 + 1 = n by omega])
  rw [State.followStreams, if_pos (by simpa using hused)]
  exact (configureIn_inp s _).1

end Sys2Proof.Machine
end

section

/-! ### The gnss commands (R111-R140, R478) -/

namespace Sys2Proof.Machine

/-- The stream with its new configuration, realigning or off (R115). -/
def State.putStream (s : State) (a : StreamArgs) : State :=
  (s.onStrm a.stream fun x => { x with cfg := a }).setStream a.stream (if a.enable = 1 then .align else .off)

theorem putStream_strm (s : State) (a : StreamArgs) (n : Nat) :
    (s.putStream a).strm n = if a.stream = n then { s.strm n with cfg := a, st := if a.enable = 1 then .align else .off } else s.strm n := by
  rw [State.putStream, setStream_strm, onStrm_strm_self]
  split
  · next h => rw [h]
  · next h => exact onStrm_strm_other _ _ (Ne.symm h)

theorem putStream_basebandOnly (s : State) (a : StreamArgs) : BasebandOnly s (s.putStream a) :=
  ((BasebandOnly.refl s).onGnss _).trans (setStream_basebandOnly _ _ _)

theorem putStream_inp (s : State) (a : StreamArgs) (q : Nat) : (s.putStream a).inp q = s.inp q :=
  inp_congr (congrArg State.ref (setStream_rest (s.onStrm a.stream fun x => { x with cfg := a }) _ _)) q

/-- A ready command on the baseband and the references completes with OK, and leaves both as its effect does. -/
theorem runCommand_baseband {acc : State → State} {m : CmdMeta} {h : CmdHdr} {i : Instr} {b : CmdBody} {s u : State} {P : State → Prop}
    (hr : ready m h s = true) (ha : b.argOk (s.fetchedFor m h) = true) (hc : (b.check (s.fetchedFor m h)).status = .ok)
    (ho : b.act (s.fetchedFor m h) = cmdOut u) (hx : m.xbOut = false) (hu : BasebandOnly (s.fetchedFor m h) u)
    (hP : ∀ t, t.gnss = u.gnss → t.ref = u.ref → P t) :
    ∃ t, (Host.Outcome.next (runCommand acc m h i b s) : Host.Outcome State Fault Refusal) = .next t ∧
      Completes h s { s with gnss := t.gnss, ref := t.ref } t [] [] ∧ P t := by
  have hpending := congrArg State.pending hu.rest
  refine runCommand_does u hr ha hc ho (fun hb => absurd hb (by simp [hx])) hu.calm hpending fun t hcompletes => ?_
  obtain ⟨-, -, -, -, hrest⟩ := id hcompletes
  refine ⟨hcompletes.of ?_, hP t (congrArg State.gnss hrest :) (congrArg State.ref hrest :)⟩
  rw [hrest, hu.rest]
  rfl

/-- The baseband that a command left is the one it was to leave. -/
theorem Completes.gnss {h : CmdHdr} {s u t : State} {result xb : Rec} (c : Completes h s u t result xb) (hu : u = { s with gnss := u.gnss }) :
    Completes h s { s with gnss := t.gnss } t result xb ∧ t.gnss = u.gnss := by
  obtain ⟨-, -, -, -, hrest⟩ := id c
  have hgnss : t.gnss = u.gnss := (congrArg State.gnss hrest :)
  rw [hgnss, ← hu]
  exact ⟨c, rfl⟩

/-- gnss.set_stream sets the stream, and the reference of its antenna follows (R113, R115). -/
theorem cmdGnssSetStream_act (h : CmdHdr) (a : StreamArgs) (s : State) :
    (cmdGnssSetStream h a).2.act s = cmdOut (((s.putStream a).followStreams (a.stream / 2)).store 0x11 a.stream) := rfl

theorem cmdGnssSetStream_argOk {h : CmdHdr} {a : StreamArgs} (hn : a.stream < 4) (hen : a.enable ≤ 1) (hsense : a.sense ≤ 1) (hcko : a.cko < 32)
    (hfs : 20000 ≤ a.fs) (hfs' : a.fs ≤ 100000) (hband : a.ifHz.natAbs + (if a.stream % 2 = 0 then 2046000 else 10230000) ≤ 400 * a.fs) (s : State) :
    (cmdGnssSetStream h a).2.argOk s = true := by
  have hfits : bandFits a = true := by
    unfold bandFits
    rw [decide_eq_true hfs, decide_eq_true hfs', decide_eq_true hband]
    rfl
  simp [cmdGnssSetStream, hn, hen, hsense, hcko, hfits]

/-- The survey of an antenna that gnss.set_survey names starts, that of another one stays (R131). -/
def startSurvey (a : SurveyArgs) (sec n : Nat) (l : Tab Antenna) : Tab Antenna :=
  if nbit a.ant n then
    l.upd {} n fun x => { x with survey := { x.survey with
      running := true, duration := a.duration, start := sec, seed := if a.seed = 1 then some (a.x, a.y, a.z) else none } }
  else l

theorem startSurvey_look_self (a : SurveyArgs) (sec n : Nat) (l : Tab Antenna) :
    (startSurvey a sec n l).look {} n = if nbit a.ant n = true then { l.look {} n with survey := { (l.look {} n).survey with
      running := true, duration := a.duration, start := sec, seed := if a.seed = 1 then some (a.x, a.y, a.z) else none } } else l.look {} n := by
  unfold startSurvey
  split
  · exact Tab.look_upd_self _ _ _ _
  · rfl

theorem startSurvey_look_other (a : SurveyArgs) (sec : Nat) {n k : Nat} (l : Tab Antenna) (h : n ≠ k) :
    (startSurvey a sec n l).look {} k = l.look {} k := by
  unfold startSurvey
  split
  · exact Tab.look_upd_other _ _ _ h
  · rfl

theorem cmdGnssSetSurvey_act (h : CmdHdr) (a : SurveyArgs) (s : State) : (cmdGnssSetSurvey h a).2.act s =
    cmdOut ((s.onGnss fun g => { g with ants := startSurvey a s.sec 1 (startSurvey a s.sec 0 g.ants) }).store 0x11 10) := by
  unfold startSurvey
  cases h0 : nbit a.ant 0 <;> cases h1 : nbit a.ant 1 <;> simp [cmdGnssSetSurvey, h0, h1] <;> rfl

theorem cmdGnssSetSpoof_act_of_set {h : CmdHdr} {a : SpoofArgs} (ha : a.action = 0) (hv : a.baselineValid = 1) (s : State) :
    (cmdGnssSetSpoof h a).2.act s =
      cmdOut ((s.onGnss fun g => { g with powerTh := a.powerTh, vector := some (a.east, a.north, a.up) }).store 0x11 12) := by
  simp [cmdGnssSetSpoof, ha, hv]

theorem cmdGnssSetSpoof_act_of_learn {h : CmdHdr} {a : SpoofArgs} (ha : a.action = 1) (s : State) :
    (cmdGnssSetSpoof h a).2.act s = cmdOut ((s.onGnss fun g => { g with learning := [0, 1, 2, 3] }).touch 0x11 12) := if_pos ha

theorem cmdGnssReadEpoch_act {h : CmdHdr} {s : State} {n : Nat} {e : Epoch} (he : s.epochOf n = some e) :
    (cmdGnssReadEpoch h n).2.act s = cmdOut s [fld 8 e.recs.length] (epochLayout e) := by
  simp [cmdGnssReadEpoch, he]

/-- What gnss.read_status writes of an antenna and its reference (R126, R131, R135). -/
def State.antStatusRec (s : State) (a : Nat) : Rec :=
  [fld 8 (s.inp (refGnss a)).st.code, bit (s.ant a).valid, bit (s.ant a).dual, bit (s.ant a).assay, bit s.gnss.inconsistent, bit s.gnss.collapsed,
    rsv 3, fld 8 (s.ant a).spoof.code, bit (s.ant a).survey.running, bit (s.ant a).survey.pos.isSome, bit (s.antPower a), rsv 5, fld 32 (s.ant a).u,
    fld 48 (s.ant a).exclusions, rsv 16, fld 48 (s.ant a).navFails, rsv 16] ++ ((s.ant a).sol.getD {}).status

/-- What it writes of a stream (R112, R127, R539). -/
def State.streamStatusRec (s : State) (n : Nat) : Rec :=
  [fld 8 (s.strm n).st.code, fld 48 (s.strm n).slips, fld 48 (s.strm n).clips, rsv 24, fld 32 (s.strm n).d, fld 32 (s.strm n).u]

/-- What it writes as a whole (R126, R131, R135, R136, R539). -/
def State.gnssStatusRec (s : State) : Rec :=
  (List.range 2).flatMap s.antStatusRec ++ s.osnmaSummary ++ ((List.range 4).map fun n => fld 16 (s.gnss.weeks.look 0 n)) ++
    (List.range 4).flatMap s.streamStatusRec ++ s.gnss.root.map (fld 8)

theorem cmdGnssReadStatus_act (h : CmdHdr) (s : State) : (cmdGnssReadStatus h).2.act s = cmdOut s [] s.gnssStatusRec := by
  unfold cmdGnssReadStatus State.gnssStatusRec State.antStatusRec State.streamStatusRec
  rfl

theorem Solution.status_bits (o : Solution) : o.status.bits = 352 := by
  simp [Solution.status, Rec.bits, fld, List.range_succ]

theorem antStatusRec_bits (s : State) (a : Nat) : (s.antStatusRec a).bits = 544 := by
  rw [State.antStatusRec, bits_append, Solution.status_bits]
  simp [Rec.bits, fld, bit, rsv]

theorem gnssStatusRec_bytes (s : State) : s.gnssStatusRec.bytes = 244 + s.gnss.root.length := by
  have hants : Rec.bits ((List.range 2).flatMap s.antStatusRec) = 1088 := bits_flatMap _ _ 544 fun a _ => antStatusRec_bits s a
  have hsummary : s.osnmaSummary.bits = 32 := rfl
  have hweeks : Rec.bits ((List.range 4).map fun n => fld 16 (s.gnss.weeks.look 0 n)) = 64 := rfl
  have hstreams : Rec.bits ((List.range 4).flatMap s.streamStatusRec) = 768 := bits_flatMap _ _ 192 fun _ _ => rfl
  have hroot : Rec.bits (s.gnss.root.map (fld 8)) = 8 * s.gnss.root.length := by
    simp [Rec.bits, fld, Function.comp_def, Nat.mul_comm]
  rw [Rec.bytes, State.gnssStatusRec, bits_append, bits_append, bits_append, bits_append, hants, hsummary, hweeks, hstreams, hroot]
  omega

/-- Settles O8: each setting as a ready command that writes its own words, the stream with the reference that follows it, the readings by their records. -/
theorem gnssCommands : Obligations.GnssCommands := by
  unfold Obligations.GnssCommands
  refine ⟨fun h s a hr hn hen hsense hcko hfs hfs' hband hpin hmoves => ?enable, fun h s a hr hn hen hsense hcko hfs hfs' hband => ?disable,
    fun h s sys l1c rs mask hr hsys hl1c hrs hbit hmask => ?signals, fun h s k hr hk => ?start, fun h s r hr hrate => ?epochRate,
    fun h s n d u hr hn hd => ?cable, fun h s a hr hant hseed hlo hhi => ?survey, fun h s n r hr hn hhw => ?loadSurvey, fun h s root hr => ?osnma,
    fun h s e u hr he hu => ?assertTime, fun h s a hr haction hth hth' hvalid hlo hhi => ?spoof, fun h s a hr haction => ?learn,
    fun h s n e hr he hx => ?readEpoch, fun h s hr hx => ?readStatus⟩
  case enable =>
    have hcheck : (cmdGnssSetStream h a).2.check (s.fetchedFor (cmdGnssSetStream h a).1 h) = {} := by
      have hpin' : ((s.fetchedFor (cmdGnssSetStream h a).1 h).pin a.cko).on = false := hpin
      have hmoves' : (s.fetchedFor (cmdGnssSetStream h a).1 h).loopMoves ((s.fetchedFor (cmdGnssSetStream h a).1 h).pin a.cko).cfg.loop = false := hmoves
      simp only [cmdGnssSetStream] at hpin' hmoves' ⊢
      simp [judge, hpin', hmoves']
    refine runCommand_baseband hr (cmdGnssSetStream_argOk hn hen.le hsense hcko hfs hfs' hband _) (congrArg Judged.status hcheck)
      (cmdGnssSetStream_act h a _) rfl (((putStream_basebandOnly _ a).trans (followStreams_basebandOnly _ _)).store _ _) fun t hg hf => ?_
    have hstrm : ∀ n, t.strm n = if a.stream = n then { s.strm n with cfg := a, st := .align } else s.strm n := fun n => by
      rw [strm_congr hg, store_strm, followStreams_strm, putStream_strm, if_pos hen]
      rfl
    refine ⟨?_, ?_, fun n hne => ?_, fun c hc => ?_, ?_⟩
    · rw [hstrm, if_pos rfl]
    · rw [hstrm, if_pos rfl]
    · rw [hstrm, if_neg hne.symm]
    · rw [gch_congr hg, store_gch, followStreams_gch] at hc ⊢
      exact setStream_gch_st (by simp [hen]) hc
    · rw [inp_congr hf, store_inp, followStreams_inp_of_enabled (by rw [putStream_strm, if_pos rfl]; exact hen), putStream_inp]
      rfl
  case disable =>
    have hcheck : (cmdGnssSetStream h a).2.check (s.fetchedFor (cmdGnssSetStream h a).1 h) = {} := by simp [cmdGnssSetStream, judge, hen]
    refine runCommand_baseband hr (cmdGnssSetStream_argOk hn (by omega) hsense hcko hfs hfs' hband _) (congrArg Judged.status hcheck)
      (cmdGnssSetStream_act h a _) rfl (((putStream_basebandOnly _ a).trans (followStreams_basebandOnly _ _)).store _ _) fun t hg hf => ?_
    have hoff : a.enable ≠ 1 := by simp [hen]
    have hstrm : ∀ n, t.strm n = if a.stream = n then { s.strm n with cfg := a, st := .off } else s.strm n := fun n => by
      rw [strm_congr hg, store_strm, followStreams_strm, putStream_strm, if_neg hoff]
      rfl
    refine ⟨?_, ?_, fun n hne => ?_, fun q hq => ?_⟩
    · rw [hstrm, if_pos rfl]
    · rw [hstrm, if_pos rfl]
    · rw [hstrm, if_neg hne.symm]
    · rw [inp_congr hf, store_inp, followStreams_inp_other _ hq, putStream_inp]
      rfl
  case signals =>
    have hargs : (cmdGnssSetSignals h sys l1c rs mask).2.argOk (s.fetchedFor (cmdGnssSetSignals h sys l1c rs mask).1 h) = true := by
      simp [cmdGnssSetSignals, hsys, hl1c, hrs, hbit, hmask]
    exact runCommand_completes hr hargs rfl rfl rfl nofun rfl rfl (((Calm.refl _).onGnss _).store _ _)
  case start =>
    obtain ⟨t, ht, hcompletes⟩ := runCommand_completes (acc := State.accepted) (i := .gnssStart h k) (b := (cmdGnssStart h k).2)
      (u := { s with gnss := ((cmdGnssStart h k).2.act s).st.gnss }) hr (decide_eq_true hk) rfl rfl rfl nofun rfl rfl (((Calm.refl _).onGnss _).touch _ _)
    obtain ⟨hdone, hgnss⟩ := hcompletes.gnss rfl
    refine ⟨t, ht, hdone, ?_⟩
    rw [hgnss]
    exact ⟨rfl, rfl, rfl, rfl, rfl⟩
  case epochRate => exact runCommand_completes hr (decide_eq_true hrate) rfl rfl rfl nofun rfl rfl (((Calm.refl _).onGnss _).store _ _)
  case cable =>
    have hargs : (cmdGnssSetCable h n d u).2.argOk (s.fetchedFor (cmdGnssSetCable h n d u).1 h) = true := by simp [cmdGnssSetCable, hn, hd]
    obtain ⟨t, ht, hcompletes⟩ := runCommand_completes (acc := State.accepted) (i := .gnssSetCable h n d u) (b := (cmdGnssSetCable h n d u).2)
      (u := s.onStrm n fun x => { x with cableNext := some (d, u, s.tc.mtc.sec + 1) }) hr hargs rfl rfl rfl nofun rfl rfl (((Calm.refl _).onGnss _).store _ _)
    obtain ⟨hdone, hgnss⟩ := hcompletes.gnss rfl
    refine ⟨t, ht, hdone, ?_, fun k hk => ?_⟩
    · exact (strm_congr hgnss n).trans (onStrm_strm_self _ _ _)
    · exact (strm_congr hgnss k).trans (onStrm_strm_other _ _ hk)
  case survey =>
    have hargs : (cmdGnssSetSurvey h a).2.argOk (s.fetchedFor (cmdGnssSetSurvey h a).1 h) = true := by
      simp [cmdGnssSetSurvey, hant, hseed, hlo, hhi]
    obtain ⟨t, ht, hcompletes⟩ := runCommand_does (acc := State.accepted) (i := .gnssSetSurvey h a) _ hr hargs rfl (cmdGnssSetSurvey_act h a _) nofun
      (((Calm.refl _).onGnss _).store _ _) rfl fun t hcompletes => hcompletes.of (u := { s with gnss := { s.gnss with
        ants := startSurvey a s.tc.mtc.sec 1 (startSurvey a s.tc.mtc.sec 0 s.gnss.ants) } }) hcompletes.2.2.2.2
    obtain ⟨hdone, hgnss⟩ := hcompletes.gnss rfl
    refine ⟨t, ht, hdone, fun n hn => ?_⟩
    have hants : t.ant n = (startSurvey a s.tc.mtc.sec 1 (startSurvey a s.tc.mtc.sec 0 s.gnss.ants)).look {} n :=
      congrArg (fun g : GnssSt => g.ants.look {} n) hgnss
    rw [hants]
    obtain rfl | rfl : n = 0 ∨ n = 1 := by omega
    · rw [startSurvey_look_other _ _ _ (by decide), startSurvey_look_self]
      rfl
    · rw [startSurvey_look_self, startSurvey_look_other _ _ _ (by decide)]
      rfl
  case loadSurvey =>
    have hcheck : (cmdGnssLoadSurvey h n r).2.check (s.fetchedFor (cmdGnssLoadSurvey h n r).1 h) = {} := by simp [cmdGnssLoadSurvey, judge, hhw]
    obtain ⟨t, ht, hcompletes⟩ := runCommand_completes (acc := State.accepted) (i := .gnssLoadSurvey h n r) (b := (cmdGnssLoadSurvey h n r).2)
      (u := s.onAnt n fun x => { x with survey := { x.survey with pos := some r, running := false } }) hr (decide_eq_true hn)
      (congrArg Judged.status hcheck) rfl rfl nofun rfl rfl (((Calm.refl _).onGnss _).store _ _)
    obtain ⟨hdone, hgnss⟩ := hcompletes.gnss rfl
    refine ⟨t, ht, hdone, ?_, fun k hk => ?_⟩
    · exact (ant_congr hgnss n).trans (onAnt_ant_self _ _ _)
    · exact (ant_congr hgnss k).trans (onAnt_ant_other _ _ hk)
  case osnma => exact runCommand_completes hr rfl rfl rfl rfl nofun rfl rfl (((Calm.refl _).onGnss _).store _ _)
  case assertTime =>
    have hargs : (cmdGnssAssertTime h e u).2.argOk (s.fetchedFor (cmdGnssAssertTime h e u).1 h) = true := by simp [cmdGnssAssertTime, he, hu]
    exact runCommand_completes hr hargs rfl rfl rfl nofun rfl rfl (((Calm.refl _).onGnss _).touch _ _)
  case spoof =>
    have hargs : (cmdGnssSetSpoof h a).2.argOk (s.fetchedFor (cmdGnssSetSpoof h a).1 h) = true := by
      simp [cmdGnssSetSpoof, vectorOk, haction, hth, hth', hvalid, hlo, hhi]
    exact runCommand_does _ hr hargs rfl (cmdGnssSetSpoof_act_of_set haction hvalid _) nofun (((Calm.refl _).onGnss _).store _ _) rfl
      fun t hcompletes => hcompletes.of hcompletes.2.2.2.2
  case learn =>
    have hargs : (cmdGnssSetSpoof h a).2.argOk (s.fetchedFor (cmdGnssSetSpoof h a).1 h) = true := by simp [cmdGnssSetSpoof, haction]
    exact runCommand_does _ hr hargs rfl (cmdGnssSetSpoof_act_of_learn haction _) nofun (((Calm.refl _).onGnss _).touch _ _) rfl
      fun t hcompletes => hcompletes.of hcompletes.2.2.2.2
  case readEpoch =>
    have hheld : (s.fetchedFor (cmdGnssReadEpoch h n).1 h).epochOf n = some e := he
    exact runCommand_reads hr (congrArg Option.isSome hheld) rfl (cmdGnssReadEpoch_act hheld) fun _ => hx
  case readStatus =>
    obtain ⟨t, ht, hcompletes⟩ := runCommand_reads (acc := State.accepted) (i := .gnssReadStatus h) (b := (cmdGnssReadStatus h).2) hr rfl rfl
      (cmdGnssReadStatus_act h _) fun _ => (gnssStatusRec_bytes _).trans_le hx
    refine ⟨t, ht, ?_, ?_⟩ <;> rw [hcompletes.1.lastXb]
    · exact hcompletes
    · rfl

end Sys2Proof.Machine
end

section

/-! ### Epochs and solutions (R122-R135) -/

namespace Sys2Proof.Machine

theorem getLast?_keepLast {α : Type} (l : List α) (e : α) {k : Nat} (hk : k ≤ l.length) : ((l ++ [e]).drop k).getLast? = some e := by
  rw [List.drop_append_of_le_length hk, List.getLast?_concat]

/-- A latch between the tops of seconds, at two epochs a second, with no step and no change of rate pending (R122-R125). -/
theorem onGnssEpochLatch_between {s : State} {o : EpochObs} (hstep : s.gnss.stepAt = none) (hnext : s.gnss.rateNext = none) (hrate : s.gnss.rate = 1)
    (hlo : 500000000 ≤ s.tc.mtc.ns) (hhi : s.tc.mtc.ns < 1000000000) : ∃ e : Epoch,
    (e.num, e.latch, e.rate, e.step, e.rateChange, e.calChange, e.recs.length) =
      (s.gnss.epoch, { sec := s.tc.mtc.sec, ns := 500000000, frac := 0, scale := .tai }, 1, false, false, false,
        ((List.range 192).filter fun c => (s.gch c).reports s.tc.mtc.cyc).length) ∧
    onGnssEpochLatch o s = { s with gnss := (onGnssEpochLatch o s).gnss } ∧
    (onGnssEpochLatch o s).gnss.epoch = (s.gnss.epoch + 1) % 2 ^ 32 ∧ (onGnssEpochLatch o s).gnss.rate = 1 ∧
    (onGnssEpochLatch o s).gnss.calSeq = s.gnss.calSeq ∧
    (onGnssEpochLatch o s).gnss.store = (s.gnss.store ++ [e]).drop (s.gnss.store.length + 1 - 64) := by
  unfold onGnssEpochLatch
  extract_lets g sec step period top rateDue rate cal s1 s2 s3 calSeq recs ns week e failed
  have hsec : sec = s.tc.mtc.sec := by simp [sec, g, hstep, State.sec]
  have hnostep : step = false := by simp [step, g, hstep]
  have hperiod : period = 500000000 := by simp [period, g, hrate, rateHz]
  have htop : top = false := by simp [top, hnostep, hperiod, hlo]
  have hnodue : rateDue = false := by simp [rateDue, htop]
  have hsame : rate = 1 := by simp [rate, g, hnext, hrate]
  have hnocal : cal = false := by simp [cal, htop]
  have hs1 : s1 = s := if_neg (by simp [htop])
  have hs2 : s2 = s := by simp [s2, hnodue, hs1]
  have hs3 : s3 = { s with gnss := { s.gnss with ants := s3.gnss.ants } } := by
    unfold s3
    rw [hs2]
    rfl
  have hchans : ∀ c, s3.gch c = s.gch c := fun c => by rw [hs3]; rfl
  have hns : ns = 500000000 := by
    simp only [ns, htop, hperiod, Bool.false_eq_true, if_false]
    omega
  have hcalSeq : calSeq = s.gnss.calSeq := by simp [calSeq, hnocal, g]
  have hgnss : s3.gnss = { s.gnss with ants := s3.gnss.ants } := (congrArg State.gnss hs3 :)
  refine ⟨e, ?_, ?_, ?_, hsame, hcalSeq, ?_⟩
  · simp [e, g, recs, hsec, hns, hsame, hnostep, hnodue, hnocal, hchans]
  · rw [hs3]
    rfl
  · rw [onGnss_gnss, hgnss]
  · rw [onGnss_gnss, hgnss]

/-! ### What a solution does where nothing else moves -/

theorem resolveWeeks_nil (s : State) : s.resolveWeeks [] = s.gnss.weeks := rfl

theorem dualTest_of_no_baseline {s : State} (hv : s.gnss.vector = none) (e : Epoch) (o : SolutionObs) : s.dualTest e o = s := by
  simp [State.dualTest, hv]

theorem checkBroadcast_of_none {o : SolutionObs} (ho : o.broadcast = []) (s : State) (a : Nat) (e : Epoch) : s.checkBroadcast a e o = s := by
  simp [State.checkBroadcast, ho]

theorem setSpoof_ref (s : State) (a : Nat) (st : SpoofState) : (s.setSpoof a st).ref = s.ref := by
  unfold State.setSpoof
  dsimp only
  split
  · rfl
  · rw [raise0_ref]
    rfl

/-- Of the antenna a change of its spoofing state leaves all but that state and its hold-off. -/
theorem setSpoof_ant (s : State) (a : Nat) (st : SpoofState) : (s.setSpoof a st).ant a =
    { s.ant a with spoof := ((s.setSpoof a st).ant a).spoof, holdOff := ((s.setSpoof a st).ant a).holdOff } := by
  unfold State.setSpoof
  dsimp only
  split
  · rfl
  · rw [ant_congr (raise0_gnss _ _ _), onAnt_ant_self]

theorem respoof_ref (s : State) (a : Nat) (top : Bool) : (s.respoof a top).ref = s.ref := by
  unfold State.respoof
  dsimp only
  split
  · exact setSpoof_ref _ _ _
  · split
    · rfl
    · split
      · rfl
      · split
        · exact setSpoof_ref _ _ _
        · rfl

theorem respoof_ant (s : State) (a : Nat) (top : Bool) : (s.respoof a top).ant a =
    { s.ant a with spoof := ((s.respoof a top).ant a).spoof, holdOff := ((s.respoof a top).ant a).holdOff } := by
  unfold State.respoof
  dsimp only
  split
  · exact setSpoof_ant _ _ _
  · split
    · rw [onAnt_ant_self]
    · split
      · rfl
      · split
        · exact setSpoof_ant _ _ _
        · rw [onAnt_ant_self]

/-- The solution as the antenna holds it before it is judged: what was excluded is marked (R125, R132). -/
def State.putSolution (s : State) (a : Nat) (e : Epoch) (o : SolutionObs) : State :=
  (s.markExcluded a (s.solution a e o).excluded).onAnt a fun x => { x with
    sol := some (s.solution a e o), valid := s.solves a (s.solution a e o), dual := solDual (s.solution a e o)
    u := if s.solves a (s.solution a e o) then s.gnssU a (s.solution a e o) else x.u
    exclusions := x.exclusions + (s.solution a e o).excluded.length }

theorem putSolution_ant (s : State) (a : Nat) (e : Epoch) (o : SolutionObs) : (s.putSolution a e o).ant a = { s.ant a with
    sol := some (s.solution a e o), valid := s.solves a (s.solution a e o), dual := solDual (s.solution a e o)
    u := if s.solves a (s.solution a e o) then s.gnssU a (s.solution a e o) else (s.ant a).u
    exclusions := (s.ant a).exclusions + (s.solution a e o).excluded.length } := onAnt_ant_self _ _ _

/-- That solution judged for its reference (R134, R135). -/
def State.judgeSolution (s : State) (a : Nat) (e : Epoch) (o : SolutionObs) : State :=
  (s.putSolution a e o).judgeGnss a e.latch.sec (s.solves a (s.solution a e o)) (s.solution a e o)

/-- The solution of a top-of-second epoch, without a baseline and with nothing broadcast of weeks or leap seconds, is judged and moves the spoofing
state (R128-R141). -/
theorem onGnssSolution_of_top {s : State} {a : Nat} {o : SolutionObs} {e : Epoch} (ha : a < 2) (he : s.gnss.store.getLast? = some e)
    (htop : e.latch.ns = 0) (hw : o.weeks = []) (hb : o.broadcast = []) (hv : (s.judgeSolution a e o).gnss.vector = none) :
    onGnssSolution a o s = (s.judgeSolution a e o).respoof a true := by
  have hweeks : (s.onGnss fun g => { g with
      weeks := s.resolveWeeks (o.weeks.filter fun w => e.recs.any fun r => r.chan.sys = w.1 && r.chan.st = .track) }) = s := by
    rw [hw, List.filter_nil, resolveWeeks_nil]
    rfl
  unfold onGnssSolution
  rw [if_neg (Nat.not_le.2 ha)]
  simp only [he, hweeks, checkBroadcast_of_none hb, htop, decide_true, if_true]
  change (if (true && decide (a = 0)) = true then (s.judgeSolution a e o).dualTest e o else s.judgeSolution a e o).respoof a true = _
  rw [dualTest_of_no_baseline hv, ite_self]

/-- A first missing solution takes the measurement away (R134). -/
theorem judgeGnss_of_missed {s : State} {a sec : Nat} {v : Solution} (hf : v.fault = false) (hm : (s.ant a).missing = 0) :
    s.judgeGnss a sec false v = (s.onAnt a fun x => { x with missing := 1, judged := true, valid := false }).onIn (refGnss a) fun y => { y with
      meas := none, freq := none, run := if y.st = .qualifying then 0 else y.run } := by
  simp [State.judgeGnss, State.missedSolution, hf, hm]

/-- A valid solution of a VALID reference whose clock filter restarts is delivered (R134, R135). -/
theorem judgeGnss_of_valid {s : State} {a sec : Nat} {v : Solution} (hv : (s.inp (refGnss a)).st = .valid) (hr : (s.ant a).restart = true) :
    s.judgeGnss a sec true v =
      (((s.onAnt a fun x => { x with missing := 0, last := some sec, prev := some v.offset, prevFreq := v.freq, restart := false, judged := true }).onIn
        (refGnss a) fun y => { y with missRun := 0 }).onIn (refGnss a) fun y => { y with
          meas := if y.st = .valid then some v.offset else none, var := v.var, freq := if y.st = .valid then some (v.freq, v.freqVar) else none }) := by
  simp [State.judgeGnss, hr, goodIn_of_valid, hv]

end Sys2Proof.Machine
end

section

/-! ### Navigation messages (R136-R138), and settling O10 -/

namespace Sys2Proof.Machine

theorem onOsnmaMessage_of_unknownTime {s : State} {p : OsnmaPage} (ha : p.ant < 2) (hk : s.gstKnown = false) (sv : Nat) :
    onOsnmaMessage sv p s = s.setNav sv .pending := by
  simp [onOsnmaMessage, Nat.not_le.2 ha, hk]

/-- A tag under a supported chain with a public-key engine left is judged by its key and MAC (R136). -/
theorem onOsnmaMessage_of_tag {s : State} {a adkd : Nat} {data tag key : List Nat} {steps : List (List Nat)} {c : OsnmaChain} (ha : a < 2)
    (hk : s.gstKnown = true) (hpk : s.keys.pkOut.length < 2) (hc : s.gnss.chain = some c) (hu : c.unsupported = false) (sv : Nat) :
    onOsnmaMessage sv { ant := a, msg := .tag adkd data tag key steps } s =
      if c.tagOk data tag key steps = true then (s.onGnss fun g => { g with chain := some { c with last := key } }).passNav sv adkd
      else s.failNav a sv := by
  simp [onOsnmaMessage, Nat.not_le.2 ha, Nat.not_le.2 hpk, hk, hc, hu]

theorem failNav_gnss (s : State) (a sv : Nat) : (s.failNav a sv).gnss =
    (((s.setNav sv .failed).onGnss fun g => { g with verified := g.verified.put sv (false, false) }).onAnt a fun x => { x with
      navFails := x.navFails + 1 }).gnss :=
  logPartner_gnss _ _ _

theorem failNav_rest (s : State) (a sv : Nat) : s.failNav a sv = { s with gnss := (s.failNav a sv).gnss, mgmt := (s.failNav a sv).mgmt } := by
  unfold State.failNav
  rw [logPartner_rest]
  rfl

/-- The tag of ADKD 4 completes what verified of a satellite whose navigation data verified before (R138). -/
theorem passNav_of_complete {s : State} {sv : Nat} (hv : s.gnss.verified.look (false, false) sv = (true, false)) :
    s.passNav sv 4 = (s.onGnss fun g => { g with verified := g.verified.put sv (true, true) }).setNav sv .authenticated := by
  simp [State.passNav, hv]

theorem setNav_nav (s : State) (sv : Nat) (n : NavAuth) : (s.setNav sv n).gnss.nav.look .none sv = n := Tab.look_put_self _ _ _ _

theorem onPowerBaselineLearned_of_learning {s : State} {n : Nat} (hn : n ∈ s.gnss.learning) (l : Int) : onPowerBaselineLearned n l s =
    ((s.onStrm n fun x => { x with baseline := some l }).onGnss fun g => { g with learning := g.learning.filter (· != n) }).store 0x11 12
      (some (.baseline n (s.strm n).baseline)) := if_pos hn

theorem onSurveyComplete_of_running {s : State} {a : Nat} (hr : (s.ant a).survey.running = true) (x y z : Int) (c : Cov3) :
    onSurveyComplete a x y z c s = (s.onAnt a fun v => { v with survey := { v.survey with
      running := false, pos := some { x := x, y := y, z := z, cov := c, date := s.sec } } }).store 0x11 (24 + a) (some (.survey a (s.ant a).survey.pos)) :=
  if_pos hr

/-- Settles O10: the latch by the epoch it stores, a solution by how it is judged, the other rows by their one write each. -/
theorem gnssEpochsAndSolutions : Obligations.GnssEpochsAndSolutions := by
  unfold Obligations.GnssEpochsAndSolutions
  refine ⟨fun s o ha hstep hnext hrate hlo hhi hlen => ?latch, fun s a o e ha hant he htop hw hno hf hst hm hvec hb => ?missed,
    fun s a o e ha hant he htop hw hok hst hr hvec hb => ?solved, fun s a sv v ha hant hk => ?unknownTime,
    fun s a sv adkd data tag key steps c ha hant hk hpk hc hu hbad => ?failed, fun s n l ha hn => ?learned, fun s a x y z c ha hr => ?survey,
    fun s ha => ?almanac, fun s a sv adkd data tag key steps c ha hant hk hpk hc hu hok hv => ?verified⟩
  case latch =>
    refine Does.of_alive rfl ha ?_
    obtain ⟨e, hhead, hrest, hepoch, hrate', hcal, hstore⟩ := onGnssEpochLatch_between (o := o) hstep hnext hrate hlo hhi
    refine ⟨hrest, hepoch, ?_, ?_, hrate', hcal⟩
    · rw [hstore]
      simp only [List.length_drop, List.length_append, List.length_singleton]
      omega
    · rw [hstore, getLast?_keepLast _ _ (by omega), Option.map_some, hhead]
  case missed =>
    have hmissing : ((s.putSolution a e o).ant a).missing = 0 := by
      rw [putSolution_ant]
      exact hm
    have hjudge := judgeGnss_of_missed (sec := e.latch.sec) hf hmissing
    have hrun := onGnssSolution_of_top hant he htop hw hb (by rw [State.judgeSolution, hno, hjudge]; exact hvec)
    refine Does.of_alive rfl ha ?_
    rw [hrun, State.judgeSolution, hno, hjudge, respoof_ant, inp_congr (respoof_ref _ _ _), onIn_inp_self, onIn_ant, onAnt_ant_self]
    exact ⟨rfl, rfl, hst, rfl⟩
  case solved =>
    have hrestart : ((s.putSolution a e o).ant a).restart = true := by
      rw [putSolution_ant]
      exact hr
    have hjudge := judgeGnss_of_valid (s := s.putSolution a e o) (sec := e.latch.sec) (v := s.solution a e o) hst hrestart
    have hrun := onGnssSolution_of_top hant he htop hw hb (by rw [State.judgeSolution, hok, hjudge]; exact hvec)
    refine Does.of_alive rfl ha ?_
    rw [hrun, State.judgeSolution, hok, hjudge, respoof_ant, inp_congr (respoof_ref _ _ _), onIn_inp_self, onIn_inp_self, onIn_ant, onIn_ant,
      onAnt_ant_self, putSolution_ant]
    exact ⟨rfl, hok, if_pos hst, rfl, rfl⟩
  case unknownTime =>
    refine Does.of_alive rfl ha ?_
    rw [onOsnmaMessage_of_unknownTime hant hk]
    exact ⟨rfl, setNav_nav _ _ _⟩
  case failed =>
    refine Does.of_alive rfl ha ?_
    rw [onOsnmaMessage_of_tag hant hk hpk hc hu, if_neg (by simp [hbad]), ant_congr (failNav_gnss _ _ _), onAnt_ant_self]
    refine ⟨failNav_rest _ _ _, ?_, rfl⟩
    rw [failNav_gnss]
    exact setNav_nav _ _ _
  case learned =>
    refine Does.of_alive rfl ha ?_
    rw [onPowerBaselineLearned_of_learning hn]
    exact ⟨rfl, onStrm_strm_self s n fun x => { x with baseline := some l }, by simp [State.store]⟩
  case survey =>
    refine Does.of_alive rfl ha ?_
    rw [onSurveyComplete_of_running hr]
    have hant := onAnt_ant_self s a fun v => { v with survey := { v.survey with
      running := false, pos := some { x := x, y := y, z := z, cov := c, date := s.sec } } }
    exact ⟨rfl, congrArg (fun v : Antenna => v.survey.running) hant, congrArg (fun v : Antenna => v.survey.pos) hant⟩
  case almanac =>
    refine Does.of_alive rfl ha ⟨fun h0 h1 => ?_, fun h0 => ?_⟩
    · exact if_pos (by simp [h0, h1])
    · rw [onGnssAlmanacWrite, if_neg (by simp [h0])]
      exact ⟨rfl, rfl⟩
  case verified =>
    refine Does.of_alive rfl ha ?_
    rw [onOsnmaMessage_of_tag hant hk hpk hc hu, if_pos hok, passNav_of_complete (s := s.onGnss fun g => { g with chain := some { c with last := key } }) hv]
    exact ⟨rfl, setNav_nav _ _ _, rfl⟩

end Sys2Proof.Machine
end

section

/-! ### The reset of a member's model (R161, R163)

The sixth clause of `EnsembleCommands` names the row of the model after `ens.reset_model` by `State.modelRow`, the row the model is drawn from before it.
The reset ends the wait of a restored row and draws from `State.rowOf`: the MOSC row, while the Pendant has sent no health frame. -/

namespace Sys2Proof.Machine

open Sys2Proof.Tests

theorem resetModel_model (s : State) (r : Nat) : ((s.resetModel r).ra r).model = defaultModel (s.rowOf r) := by
  simp only [State.ra, State.resetModel, State.onRa, onEns_ens, Tab.look_upd_self]

theorem cmdEnsResetModel_check (h : CmdHdr) (r : Nat) {s : State} (hts : s.tc.ts ≠ .holdover) : (cmdEnsResetModel h r).2.check s = {} := by
  simp [cmdEnsResetModel, judge, hts]

/-- ens.reset_model draws the model anew from the row of the health frames received, whatever row was restored (R161, R163). -/
theorem ensResetModel_model {h : CmdHdr} {s : State} {r : Nat}
    (hr : ready { op := 0x120D, plen := 1, mirrored := true, action := true } h s = true) (href : refOk r = true) (hts : s.tc.ts ≠ .holdover) :
    Does (.ensResetModel h r) s fun t => (t.ra r).model = defaultModel (s.rowOf r) := by
  have hcalm : Calm (s.fetchedFor (cmdEnsResetModel h r).1 h) (((s.fetchedFor (cmdEnsResetModel h r).1 h).resetModel r).touch 0x12 (512 + r)) :=
    (((Calm.refl _).onEns _).onEns _).touch _ _
  have hcheck := cmdEnsResetModel_check h r (s := s.fetchedFor (cmdEnsResetModel h r).1 h) hts
  refine runCommand_does _ hr href (congrArg Judged.status hcheck) rfl nofun hcalm rfl fun t hcompletes => ?_
  obtain ⟨-, -, -, -, hrest⟩ := hcompletes
  have hens : t.ens = (s.resetModel r).ens := (congrArg State.ens hrest :)
  exact (congrArg (fun e : EnsSt => (e.refs.look {} r).model) hens).trans (resetModel_model s r)

/-- A device after a reset: Pendant 0 has its health channel enabled and has sent no frame yet, and its saved rubidium model is restored (R163). -/
def rubidiumRestored : State :=
  { base with
    ref := { base.ref with pend := [(0, { health := .stale })] }
    ens := { base.ens with refs := [(1, RefAssay.restore {} { model := defaultModel 1, row := 1 })] } }

/-- Refutes O11: with the rubidium row restored, ens.reset_model leaves the MOSC model, not the default model of the restored row. -/
theorem not_ensembleCommands : ¬ Obligations.EnsembleCommands := by
  unfold Obligations.EnsembleCommands
  intro ⟨_, _, _, _, _, reset, _, _⟩
  have hready : ready { op := 0x120D, plen := 1, mirrored := true, action := true } (hd 1) rubidiumRestored = true := by decide
  have hts : rubidiumRestored.tc.ts ≠ .holdover := by decide
  obtain ⟨t, hexec, -, hstated, -⟩ := reset (hd 1) rubidiumRestored 1 hready rfl hts
  obtain ⟨t', hexec', hmosc⟩ := ensResetModel_model (r := 1) hready rfl hts
  obtain rfl : t = t' := Host.Outcome.next.inj (hexec.symm.trans hexec')
  have hrow : rubidiumRestored.modelRow 1 = 1 := rfl
  have hreceived : rubidiumRestored.rowOf 1 = 0 := rfl
  rw [hrow] at hstated
  rw [hreceived, hstated] at hmosc
  exact absurd (congrArg NoiseModel.qw hmosc) (by decide)

end Sys2Proof.Machine
end

section

/-! ### The tables of Filigree (R179, R196, R200, R202) -/

namespace Sys2Proof.Machine

section
variable {t u : State}

theorem chan_congr (h : t.fil = u.fil) (c : Nat) : t.chan c = u.chan c := congrArg (fun x : FilSt => x.chans.look {} c) h

theorem ring_congr (h : t.fil = u.fil) (r : Nat) : t.ring r = u.ring r := congrArg (fun x : FilSt => x.rings.look (ringDefault r) r) h

theorem eng_congr (h : t.fil = u.fil) (d : Nat) : t.eng d = u.eng d := congrArg (fun x : FilSt => x.engines.look {} d) h

theorem filStream_congr (h : t.fil = u.fil) (b c : Nat) : t.filStream b c = u.filStream b c :=
  congrArg (fun x : FilSt => x.streams.find? fun y : FilStream => y.bezel = b && y.cfg.ch = c) h

end

@[simp] theorem onChan_chan_self (s : State) (c : Nat) (f : FilChan → FilChan) : (s.onChan c f).chan c = f (s.chan c) := Tab.look_upd_self _ _ _ _

theorem onChan_chan_other (s : State) {c k : Nat} (f : FilChan → FilChan) (h : k ≠ c) : (s.onChan c f).chan k = s.chan k :=
  Tab.look_upd_other _ _ _ h.symm

@[simp] theorem onRing_ring_self (s : State) (r : Nat) (f : FilRing → FilRing) : (s.onRing r f).ring r = f (s.ring r) := Tab.look_upd_self _ _ _ _

theorem onRing_ring_other (s : State) {r k : Nat} (f : FilRing → FilRing) (h : k ≠ r) : (s.onRing r f).ring k = s.ring k :=
  Tab.look_put_other _ _ _ h.symm

theorem onEng_eng (s : State) (d k : Nat) (f : DiffEng → DiffEng) : (s.onEng d f).eng k = if d = k then f (s.eng d) else s.eng k :=
  Tab.look_upd _ _ _ _ _

@[simp] theorem onEng_eng_self (s : State) (d : Nat) (f : DiffEng → DiffEng) : (s.onEng d f).eng d = f (s.eng d) := Tab.look_upd_self _ _ _ _

theorem onEng_eng_other (s : State) {d k : Nat} (f : DiffEng → DiffEng) (h : k ≠ d) : (s.onEng d f).eng k = s.eng k :=
  Tab.look_upd_other _ _ _ h.symm

@[simp] theorem onEng_ring (s : State) (d r : Nat) (f : DiffEng → DiffEng) : (s.onEng d f).ring r = s.ring r := rfl

@[simp] theorem countEng_eng_self (s : State) (d k n : Nat) :
    (s.countEng d k n).eng d = { s.eng d with cnt := (s.eng d).cnt.upd 0 k (· + n) } := onEng_eng_self _ _ _

theorem countEng_eng_other (s : State) {d e : Nat} (k n : Nat) (h : e ≠ d) : (s.countEng d k n).eng e = s.eng e := onEng_eng_other _ _ h

/-- The change touches Filigree alone. -/
def FilOnly (s t : State) : Prop := t = { s with fil := t.fil }

theorem FilOnly.trans {s t u : State} (h : FilOnly s t) (k : FilOnly t u) : FilOnly s u := by
  unfold FilOnly at *
  rw [k, h]

theorem onFil_filOnly (s : State) (f : FilSt → FilSt) : FilOnly s (s.onFil f) := rfl

/-! ### Consumers of a ring (R181) -/

section
variable {s : State} {c k : Nat} {u v : FilUser}

@[simp] theorem join_chan (s : State) (c k : Nat) (u : FilUser) : (s.join c u).chan k = s.chan k := by
  unfold State.join
  split <;> rfl

@[simp] theorem join_eng (s : State) (c d : Nat) (u : FilUser) : (s.join c u).eng d = s.eng d := by
  unfold State.join
  split <;> rfl

@[simp] theorem leave_chan (s : State) (c k : Nat) (u : FilUser) : (s.leave c u).chan k = s.chan k := rfl

theorem join_of_reader (h : ((s.ring c).reader u).isSome = true) : s.join c u = s := if_pos h

/-- A consumer that joins has a place in the ring, and no consumer loses its own. -/
theorem join_reader (s : State) (c : Nat) (u : FilUser) : (((s.join c u).ring c).reader u).isSome = true := by
  unfold State.join
  split
  · next h => exact h
  · simp [FilRing.reader]

theorem join_keeps_reader (h : ((s.ring k).reader v).isSome = true) : (((s.join c u).ring k).reader v).isSome = true := by
  unfold State.join
  split
  · exact h
  · by_cases hk : k = c
    · subst hk
      rw [onRing_ring_self]
      simp only [FilRing.reader, List.find?_append, Option.isSome_or] at h ⊢
      rw [h]
      rfl
    · rw [onRing_ring_other _ _ hk]
      exact h

/-- A consumer that leaves has no place in the ring, and no consumer gains one by it. -/
theorem leave_reader (s : State) (c : Nat) (u : FilUser) : ((s.leave c u).ring c).reader u = none := by
  simp [State.leave, FilRing.reader, FilRing.free]

theorem leave_keeps_absent (h : (s.ring k).reader v = none) : ((s.leave c u).ring k).reader v = none := by
  by_cases hk : k = c
  · subst hk
    simp only [State.leave, onRing_ring_self, FilRing.reader, FilRing.free, List.find?_eq_none, List.mem_filter] at h ⊢
    exact fun x hx => h x hx.1
  · rw [State.leave, onRing_ring_other _ _ hk]
    exact h

end

/-! ### Host streams (R200) -/

/-- Updating the elements that a test selects, so that they still pass it, updates the one it finds. -/
theorem find?_map_selected {α : Type} {p : α → Bool} {f : α → α} (hf : ∀ x, p x = true → p (f x) = true) (l : List α) :
    (l.map fun x => if p x = true then f x else x).find? p = (l.find? p).map f := by
  induction l with
  | nil => rfl
  | cons x l ih =>
    rw [List.map_cons]
    by_cases hx : p x = true
    · rw [if_pos hx, List.find?_cons_of_pos (hf x hx), List.find?_cons_of_pos hx]
      rfl
    · rw [if_neg hx, List.find?_cons_of_neg hx, List.find?_cons_of_neg hx, ih]

/-- An update of a stream that keeps its bezel and its channel is what is read of it afterwards. -/
theorem onStream_filStream (s : State) (b c : Nat) {f : FilStream → FilStream} (hf : ∀ x, (f x).bezel = x.bezel ∧ (f x).cfg = x.cfg) :
    (s.onStream b c f).filStream b c = (s.filStream b c).map f := by
  refine find?_map_selected (fun x hx => ?_) _
  rw [(hf x).1, (hf x).2]
  exact hx

end Sys2Proof.Machine
end

section

/-! ### A run of a pair of interpolators (R187-R189, R604) -/

namespace Sys2Proof.Machine

section
variable {p : Interp} {f : Nat} {l : List Nat}

theorem runEnd_good (hg : calGood f l = true) : (p.runEnd f l).2 = .good := by
  unfold Interp.runEnd
  dsimp only
  rw [if_pos hg]
  split <;> rfl

/-- The table of a good run waits for the swap where both interpolators have theirs. -/
theorem runEnd_of_good (hg : calGood f l = true) (hst : p.st = .normal) (hx : p.tabX.isSome = true) (hy : p.tabY.isSome = true) :
    p.runEnd f l = ({ p with fresh := some { first := f, hits := l }, fails := 0 }, .good) := by
  have hx' : p.tabX.isNone = false := by rw [← Option.not_isSome, hx]; rfl
  have hy' : p.tabY.isNone = false := by rw [← Option.not_isSome, hy]; rfl
  simp [Interp.runEnd, Interp.newTable, hg, hst, hx', hy']

theorem runEnd_of_bad (hg : calGood f l = false) (hf : p.fails < 2) :
    p.runEnd f l = ({ p with failed := p.failed + 1, fails := p.fails + 1 }, .failed) := by
  have hthree : p.fails + 1 < 3 := by omega
  simp [Interp.runEnd, hg, hthree]

theorem runEnd_of_third_in_normal (hg : calGood f l = false) (hf : p.fails = 2) (hst : p.st = .normal) :
    p.runEnd f l = ({ p with failed := p.failed + 1, fails := p.fails + 1 }.survive, .single) := by
  simp [Interp.runEnd, hg, hf, hst]

theorem runEnd_of_third_in_single (hg : calGood f l = false) (hf : p.fails = 2) (hst : p.st = .single) :
    p.runEnd f l = ({ p with failed := p.failed + 1, fails := 0, st := .out }, .out) := by
  simp [Interp.runEnd, hg, hf, hst]

end

/-! ### Channels (R187-R189) -/

section
variable {s : State} {c f : Nat} {l : List Nat}

theorem onCalibrationRunEnd_fil (hc : c < 64) : onCalibrationRunEnd (.fil c) f l s = s.filRunEnd c f l := if_neg (by omega)

theorem filRunEnd_of_good (h : ((s.chan c).interp.runEnd f l).2 = .good) :
    s.filRunEnd c f l = s.onChan c fun x => { x with interp := ((s.chan c).interp.runEnd f l).1 } := by
  unfold State.filRunEnd
  simp only [h]

theorem filRunEnd_of_failed (h : ((s.chan c).interp.runEnd f l).2 = .failed) :
    s.filRunEnd c f l = s.onChan c fun x => { x with interp := ((s.chan c).interp.runEnd f l).1 } := by
  unfold State.filRunEnd
  simp only [h]

theorem filRunEnd_of_single (h : ((s.chan c).interp.runEnd f l).2 = .single) :
    s.filRunEnd c f l = ((s.onChan c fun x => { x with interp := ((s.chan c).interp.runEnd f l).1 }).addCause (0x0100 + c)).raise0 0x1501 [fld 8 c, fld 8 1] := by
  unfold State.filRunEnd
  simp only [h]

theorem onInterpolatorSwap_fil (hc : c < 64) :
    onInterpolatorSwap (.fil c) s = s.onChan c fun x => { x with interp := x.interp.swap (x.dead s.tc.mtc.cyc) } := if_neg (by omega)

theorem onSurvivorCalibrationStart_fil (hc : c < 64) :
    onSurvivorCalibrationStart (.fil c) s = s.onChan c fun x => { x with interp := x.interp.survStart } := if_neg (by omega)

end

/-! ### What a change of a port's state leaves (R261) -/

/-- Of the ports only this one changes, and its interpolators stay. -/
structure PortOnly (p : Nat) (s t : State) : Prop where
  others : ∀ q, q ≠ p → t.port q = s.port q
  rxPair : (t.port p).rxPair = (s.port p).rxPair
  txPair : (t.port p).txPair = (s.port p).txPair

section
variable {p : Nat} {s t u : State}

theorem port_congr (h : t.ports = u.ports) (q : Nat) : t.port q = u.port q := congrArg (fun x : PortsSt => x.ports.look {} q) h

theorem PortOnly.of_ports (h : t.ports = s.ports) : PortOnly p s t :=
  ⟨fun q _ => port_congr h q, congrArg PortSt.rxPair (port_congr h p), congrArg PortSt.txPair (port_congr h p)⟩

theorem PortOnly.trans (h : PortOnly p s t) (k : PortOnly p t u) : PortOnly p s u :=
  ⟨fun q hq => (k.others q hq).trans (h.others q hq), k.rxPair.trans h.rxPair, k.txPair.trans h.txPair⟩

theorem onPort_portOnly (s : State) (p : Nat) {f : PortSt → PortSt} (hrx : ∀ x, (f x).rxPair = x.rxPair) (htx : ∀ x, (f x).txPair = x.txPair) :
    PortOnly p s (s.onPort p f) := by
  refine ⟨fun q hq => onPort_port_other _ _ hq.symm, ?_, ?_⟩ <;> rw [onPort_port_self]
  · exact hrx _
  · exact htx _

end

theorem setPort_portOnly (s : State) (p : Nat) (st : PortState) : PortOnly p s (s.setPort p st) := by
  unfold State.setPort
  extract_lets x s1 linked s2 s3 s4
  have h1 : PortOnly p s s1 := by
    unfold s1
    split
    · refine .trans ?_ (onPort_portOnly _ p (fun _ => rfl) fun _ => rfl)
      refine foldl_relates (R := PortOnly p) (fun _ => .of_ports rfl) .trans (fun t f => .of_ports ?_) _ _
      exact countPort_ports _ _ _
    · exact .of_ports rfl
  have h2 : PortOnly p s s2 := h1.trans (onPort_portOnly _ p (fun _ => by split <;> rfl) fun _ => by split <;> rfl)
  have h3 : PortOnly p s s3 := by
    unfold s3
    split
    · exact h2.trans (.of_ports (countPort_ports _ _ _))
    · exact h2
  have h4 : PortOnly p s s4 := h3.trans (.of_ports (raise_ports _ _ _ _ _))
  split
  · exact onPort_portOnly _ p (fun _ => rfl) fun _ => rfl
  · split
    · exact h4
    · exact h4.trans (.of_ports rfl)

/-! ### Facets (R187, R189, R279) -/

theorem portCause_ports (s : State) (p : Nat) : (s.portCause p).ports = s.ports := (addCause_alarms s (0x0300 + p) true).ports

theorem portCause_causes (s : State) (p : Nat) : 0x0300 + p ∈ (s.portCause p).fault.causes := (addCause_fault s (0x0300 + p)).1

theorem canTime_of_txPair {x : PortSt} (h : x.txPair.times = false) : x.canTime = false := by simp [PortSt.canTime, h]

theorem followPort_of_disabled {s : State} {p : Nat} (h : (s.port p).st = .disabled) : s.followPort p = s := by
  unfold State.followPort
  simp only [h]

/-- A port in UP whose facet can no longer time goes on without timing. -/
theorem followPort_of_untimed {s : State} {p : Nat} (h : (s.port p).st = .up) (ht : (s.port p).canTime = false) :
    s.followPort p = s.setPort p .upUntimed := by
  unfold State.followPort
  simp only [h, ht, Bool.false_eq_true, if_false]

section
variable {s : State} {p f : Nat} {x : Bool} {l : List Nat} {g : Interp → Interp}

theorem onCalibrationRunEnd_facet (hp : p < 256) : onCalibrationRunEnd (.facet p x) f l s = s.facetRunEnd p x f l :=
  if_neg (by simp [portOk, hp])

theorem onInterpolatorSwap_facet (hp : p < 256) : onInterpolatorSwap (.facet p x) s = s.facetChange p x (Interp.swap false) :=
  if_neg (by simp [portOk, hp])

theorem onSurvivorCalibrationStart_facet (hp : p < 256) : onSurvivorCalibrationStart (.facet p x) s = s.facetChange p x Interp.survStart :=
  if_neg (by simp [portOk, hp])

/-- Where the port is DISABLED, a good run leaves its pair as the pair's own rule says, and nothing follows. -/
theorem facetRunEnd_of_good (hst : (s.port p).st = .disabled) (hg : calGood f l = true) :
    s.facetRunEnd p x f l = s.onPort p fun y => if x then { y with txPair := ((s.port p).txPair.runEnd f l).1 }
      else { y with rxPair := ((s.port p).rxPair.runEnd f l).1 } := by
  have hstays : ∀ g : PortSt → PortSt, (g (s.port p)).st = (s.port p).st → (s.onPort p g).followPort p = s.onPort p g := fun g hkeep =>
    followPort_of_disabled (by rw [onPort_port_self, hkeep, hst])
  unfold State.facetRunEnd
  cases x with
  | false => simpa [runEnd_good hg] using hstays _ rfl
  | true => simpa [runEnd_good hg] using hstays _ rfl

/-- A transmit pair that goes OUT is a cause of DEGRADED and takes its port out of UP. -/
theorem facetRunEnd_of_out {q : Interp} (hst : (s.port p).st = .up) (hr : (s.port p).txPair.runEnd f l = (q, .out)) (hq : q.times = false) :
    s.facetRunEnd p true f l = ((s.onPort p fun y => { y with txPair := q }).portCause p).setPort p .upUntimed := by
  have hport : ((s.onPort p fun y => { y with txPair := q }).portCause p).port p = { s.port p with txPair := q } := by
    rw [port_congr (portCause_ports _ _), onPort_port_self]
  have hfollow : s.facetRunEnd p true f l = ((s.onPort p fun y => { y with txPair := q }).portCause p).followPort p := by
    simp [State.facetRunEnd, hr]
  rw [hfollow, followPort_of_untimed (by rw [hport]; exact hst) (by rw [hport]; exact canTime_of_txPair hq)]

theorem facetChange_of_disabled (hst : (s.port p).st = .disabled) :
    s.facetChange p false g = s.onPort p fun y => { y with rxPair := g y.rxPair } :=
  followPort_of_disabled (by rw [onPort_port_self]; exact hst)

theorem facetChange_of_untimed (hst : (s.port p).st = .up) (hg : (g (s.port p).txPair).times = false) :
    s.facetChange p true g = (s.onPort p fun y => { y with txPair := g y.txPair }).setPort p .upUntimed :=
  followPort_of_untimed (by rw [onPort_port_self]; exact hst) (by rw [onPort_port_self]; exact canTime_of_txPair hg)

end

/-- Settles O22: each row by what the run, the swap or the start makes of the one pair, and a port in UP by the state it goes to. -/
theorem facetCalibrationEvents : Obligations.FacetCalibrationEvents := by
  unfold Obligations.FacetCalibrationEvents
  refine ⟨fun s c f l b ha hc hg hst hy hx hy' => ?good, fun s c f l ha hc hg hf => ?bad, fun s c f l ha hc hg hf hst => ?third,
    fun s p f x l ha hp hst hg => ?facetGood, fun s p f l ha hp hup hg hf hst hl => ?facetOut, fun s c b ha hc hst hy hfresh hdead => ?swap,
    fun s p b ha hp hup hst hy hfresh => ?facetSwap, fun s c ha hc hst => ?survivor, fun s p ha hp hup hst hl => ?facetSurvivor⟩
  case good =>
    have hrun := runEnd_of_good hg hst (by rw [hx]; rfl) hy'
    have hout := filRunEnd_of_good (s := s) (c := c) (congrArg Prod.snd hrun)
    rw [hrun] at hout
    refine .of_alive rfl ha ?_
    rw [onCalibrationRunEnd_fil hc, hout]
    exact ⟨rfl, onChan_chan_self _ _ _, fun k hk => onChan_chan_other _ _ hk⟩
  case bad =>
    have hrun := runEnd_of_bad hg hf
    have hout := filRunEnd_of_failed (s := s) (c := c) (congrArg Prod.snd hrun)
    rw [hrun] at hout
    refine .of_alive rfl ha ?_
    rw [onCalibrationRunEnd_fil hc, hout]
    exact ⟨rfl, congrArg FilChan.interp (onChan_chan_self _ _ _), fun k hk => onChan_chan_other _ _ hk⟩
  case third =>
    have hrun := runEnd_of_third_in_normal hg hf hst
    have hout := filRunEnd_of_single (s := s) (c := c) (congrArg Prod.snd hrun)
    rw [hrun] at hout
    refine .of_alive rfl ha ?_
    rw [onCalibrationRunEnd_fil (by omega), hout]
    generalize hu : (s.onChan c fun x => { x with interp := { (s.chan c).interp with
      failed := (s.chan c).interp.failed + 1, fails := (s.chan c).interp.fails + 1 }.survive }) = u
    have hfil : ((u.addCause (0x0100 + c)).raise0 0x1501 [fld 8 c, fld 8 1]).fil = u.fil :=
      (raise0_fil _ _ _).trans (congrArg State.fil (addCause_alarms u _ _).rest :)
    have hchan : (((u.addCause (0x0100 + c)).raise0 0x1501 [fld 8 c, fld 8 1]).chan c).interp = { (s.chan c).interp with
        failed := (s.chan c).interp.failed + 1, fails := (s.chan c).interp.fails + 1 }.survive := by
      rw [chan_congr hfil, ← hu, onChan_chan_self]
    refine ⟨?_, ?_, ?_, fun k hk => ?_⟩
    · rw [hchan]
      rfl
    · rw [hchan]
      rfl
    · rw [raise0_fault]
      exact (addCause_fault u _).1
    · rw [chan_congr hfil, ← hu, onChan_chan_other _ _ hk]
  case facetGood =>
    refine .of_alive rfl ha ?_
    rw [onCalibrationRunEnd_facet hp, facetRunEnd_of_good hst hg]
    refine ⟨rfl, ?_, ?_, fun k hk => onPort_port_other _ _ hk.symm⟩ <;> rw [onPort_port_self] <;> cases x <;> rfl
  case facetOut =>
    refine .of_alive rfl ha ?_
    rw [onCalibrationRunEnd_facet hp, facetRunEnd_of_out hup (runEnd_of_third_in_single hg hf hst) rfl]
    generalize hu : (s.onPort p fun y => { y with txPair := { (s.port p).txPair with
      failed := (s.port p).txPair.failed + 1, fails := 0, st := .out } }) = u
    have honly := setPort_portOnly (u.portCause p) p .upUntimed
    refine ⟨?_, setPort_st _ _ _, ?_, fun k hk => ?_⟩
    · rw [honly.txPair, port_congr (portCause_ports _ _), ← hu, onPort_port_self]
    · rw [(setPort_follows _ _ _).fault]
      exact portCause_causes u p
    · rw [honly.others k hk, port_congr (portCause_ports _ _), ← hu, onPort_port_other _ _ hk.symm]
  case swap =>
    have hswap : (s.chan c).interp.swap false = { (s.chan c).interp with activeY := true, tabY := some b, fresh := none } := by
      simp [Interp.swap, hfresh, hst, hy]
    refine .of_alive rfl ha ?_
    rw [onInterpolatorSwap_fil hc, onChan_chan_self, hdead, hswap]
    exact ⟨rfl, rfl, rfl, rfl, rfl, fun k hk => onChan_chan_other _ _ hk⟩
  case facetSwap =>
    have hswap : (s.port p).rxPair.swap false = { (s.port p).rxPair with activeY := false, tabX := some b, fresh := none } := by
      simp [Interp.swap, hfresh, hst, hy]
    refine .of_alive rfl ha ?_
    rw [onInterpolatorSwap_facet hp, facetChange_of_disabled hup, onPort_port_self, hswap]
    exact ⟨rfl, rfl, fun k hk => onPort_port_other _ _ hk.symm⟩
  case survivor =>
    have hstart : (s.chan c).interp.survStart = { (s.chan c).interp with surv := true } := if_pos hst
    refine .of_alive rfl ha ?_
    rw [onSurvivorCalibrationStart_fil hc, onChan_chan_self, hstart]
    exact ⟨rfl, rfl, fun k hk => onChan_chan_other _ _ hk⟩
  case facetSurvivor =>
    have hstart : (s.port p).txPair.survStart = { (s.port p).txPair with surv := true } := if_pos hst
    have huntimed : (s.port p).txPair.survStart.times = false := by simp [hstart, Interp.times, hst]
    refine .of_alive rfl ha ?_
    rw [onSurvivorCalibrationStart_facet hp, facetChange_of_untimed hup huntimed]
    have honly := setPort_portOnly (s.onPort p fun y => { y with txPair := y.txPair.survStart }) p .upUntimed
    refine ⟨?_, setPort_st _ _ _, fun k hk => ?_⟩
    · rw [honly.txPair, onPort_port_self, hstart]
    · rw [honly.others k hk, onPort_port_other _ _ hk.symm]

end Sys2Proof.Machine
end

section

/-! ### Stamping and draining (R183-R185, R191-R198) -/

namespace Sys2Proof.Machine

section
variable {s : State} {c cyc code d k : Nat} {f : Bool} {x : StampRec} {l : List Nat}

theorem FilChan.push_of_room {x : FilChan} (h : x.queue.length < 1024) (r : RawStamp) :
    x.push r = { x with seq := (x.seq + 1) % 2 ^ 32, gap := false, queue := x.queue ++ [{ r with gap := x.gap }] } := if_neg (by omega)

theorem FilChan.dead_of_unstamped {x : FilChan} (h : x.last = none) (pos : Rat) : x.dead pos = false := by simp [FilChan.dead, h]

/-- With EDGE 2 both polarities of an enabled TIC channel qualify (R183). -/
theorem edgeCounts_of_both (hc : c < 24) (hen : (s.chan c).en = true) (he : (s.chan c).edge = 2) : s.edgeCounts c f = true := by
  simp [State.edgeCounts, hc, hen, he]

theorem everyNth_of_tic (hc : c < 24) : s.everyNth c = (s.chan c).n := by
  have h28 : ¬ 28 ≤ c := by omega
  have h34 : ¬ 34 ≤ c := by omega
  have h40 : c < 40 := by omega
  simp [State.everyNth, h28, h34, h40]

/-- The stamp of an edge that a calibrated interpolator times (R184, R191). -/
def State.edgeStamp (s : State) (c cyc code : Nat) (f : Bool) (b : BinTable) : RawStamp :=
  { coarse := cyc % 16777216, fine := code % 4096, interp := (s.chan c).interp.activeY, falling := f, i := b.at code, seq := (s.chan c).seq,
    edges := ((s.chan c).edges + 1) % 2 ^ 32, pushed := s.tc.mtc.cyc }

/-- The channel that has stamped it. -/
def FilChan.stamped (x : FilChan) (cyc code : Nat) (b : BinTable) : FilChan :=
  { x with edges := (x.edges + 1) % 2 ^ 32, presc := 0, last := some ((cyc : Rat) + (2 - b.at code)),
           cnt := if b.outside code then x.cnt.upd 0 1 (· + 1) else x.cnt }

theorem onFiligreeEdge_of_undivided {b : BinTable} (hc : c < 24) (hb : (s.chan c).interp.table = some b) (hst : (s.chan c).interp.st ≠ .out)
    (hsurv : (s.chan c).interp.surv = false) (hcounts : s.edgeCounts c f = true) (hn : (s.chan c).n = 1) (hlast : (s.chan c).last = none)
    (harm : s.armNamed c = false) :
    onFiligreeEdge c cyc code f s = s.onChan c fun x => (x.stamped cyc code b).push (s.edgeStamp c cyc code f b) := by
  have h64 : ¬ 64 ≤ c := by omega
  have hlow : ¬ (s.chan c).presc + 1 < (s.chan c).n := by omega
  have hdue : (s.chan c).n ≤ (s.chan c).presc + 1 := by omega
  unfold onFiligreeEdge
  simp only [hb, hsurv, hcounts, harm, hst, everyNth_of_tic hc, FilChan.dead_of_unstamped hlast, h64, hlow, hdue, Option.getD_some, Option.isNone_some,
    Bool.false_and, Bool.not_true, Bool.not_false, Bool.true_and, Bool.or_false, Bool.false_eq_true, decide_false, if_true, if_false]
  rfl

/-! ### The drain (R193, R195, R198, R203) -/

/-- What an engine takes of a drained stamp (R203). -/
def DiffEng.fed (e : DiffEng) (c : Nat) (x : StampRec) : DiffEng :=
  if e.cfg.enable != 1 || !(e.cfg.chA = c || e.cfg.chB = c) then e
  else { e with
    as := if e.cfg.chA = c && (e.cfg.edgeA = 2 || (e.cfg.edgeA = 1) = x.raw.falling) then e.as ++ [x] else e.as
    bs := if e.cfg.chB = c && (e.cfg.edgeB = 2 || (e.cfg.edgeB = 1) = x.raw.falling) then e.bs ++ [(x, false)] else e.bs
    cnt := if x.raw.gap then e.cnt.upd 0 3 (· + 1) else e.cnt }

theorem feedEngine_eng (s : State) (d c k : Nat) (x : StampRec) : (s.feedEngine d c x).eng k = if d = k then (s.eng d).fed c x else s.eng k := by
  unfold State.feedEngine DiffEng.fed
  extract_lets e fits s1 s2
  have h1 : s1.eng k = if d = k then { s.eng d with
      as := if fits e.chA e.edgeA then (s.eng d).as ++ [x] else (s.eng d).as
      bs := if fits e.chB e.edgeB then (s.eng d).bs ++ [(x, false)] else (s.eng d).bs } else s.eng k := onEng_eng _ _ _ _
  have h2 : s2.eng k = if d = k then { s.eng d with
      as := if fits e.chA e.edgeA then (s.eng d).as ++ [x] else (s.eng d).as
      bs := if fits e.chB e.edgeB then (s.eng d).bs ++ [(x, false)] else (s.eng d).bs
      cnt := if x.raw.gap then (s.eng d).cnt.upd 0 3 (· + 1) else (s.eng d).cnt } else s.eng k := by
    unfold s2
    cases x.raw.gap with
    | false => exact h1
    | true =>
      by_cases hk : d = k
      · subst hk
        rw [if_pos rfl] at h1 ⊢
        rw [if_pos rfl, countEng_eng_self, h1]
        rfl
      · rw [if_neg hk] at h1 ⊢
        exact (countEng_eng_other _ _ _ (Ne.symm hk)).trans h1
  by_cases hdeaf : (e.enable != 1 || !(decide (e.chA = c) || decide (e.chB = c))) = true
  · rw [if_pos hdeaf, if_pos hdeaf]
    split
    · next h => rw [h]
    · rfl
  · rw [if_neg hdeaf, if_neg hdeaf]
    exact h2

/-- Engine after engine, each takes of the stamp what is its own. -/
theorem feedEngines_eng (hl : l.Nodup) (s : State) (c k : Nat) (x : StampRec) :
    (l.foldl (fun t d => t.feedEngine d c x) s).eng k = if k ∈ l then (s.eng k).fed c x else s.eng k := by
  induction l generalizing s with
  | nil => rfl
  | cons d l ih =>
    obtain ⟨hd, hl⟩ := List.nodup_cons.1 hl
    rw [List.foldl_cons, ih hl, feedEngine_eng]
    by_cases hk : d = k
    · subst hk
      simp [hd]
    · simp [hk, Ne.symm hk]

/-- An engine that is disabled or on other channels takes nothing. -/
theorem feedEngine_of_deaf (h : (s.eng d).cfg.enable = 1 → (s.eng d).cfg.chA ≠ c ∧ (s.eng d).cfg.chB ≠ c) : s.feedEngine d c x = s := by
  refine if_pos ?_
  by_cases hen : (s.eng d).cfg.enable = 1
  · simp [h hen]
  · simp [hen]

theorem feedEngines_of_deaf (h : ∀ d ∈ l, (s.eng d).cfg.enable = 1 → (s.eng d).cfg.chA ≠ c ∧ (s.eng d).cfg.chB ≠ c) :
    l.foldl (fun t d => t.feedEngine d c x) s = s := by
  induction l with
  | nil => rfl
  | cons d l ih =>
    rw [List.foldl_cons, feedEngine_of_deaf (h d List.mem_cons_self)]
    exact ih fun e he => h e (List.mem_cons_of_mem _ he)

/-- The drain has served the channel: its oldest stamp is off the queue, and the ring has the record. -/
def State.popped (s : State) (c : Nat) (x : StampRec) : State :=
  ((s.onChan c fun y => y.pop s.tc.mtc.cyc).onFil fun y => { y with turn := c }).onRing c fun g => g.write x

theorem popped_chan_self (s : State) (c : Nat) (x : StampRec) : (s.popped c x).chan c = (s.chan c).pop s.tc.mtc.cyc :=
  onChan_chan_self s c fun y => y.pop s.tc.mtc.cyc

theorem popped_chan_other (s : State) {c k : Nat} (x : StampRec) (h : k ≠ c) : (s.popped c x).chan k = s.chan k :=
  onChan_chan_other s (fun y => y.pop s.tc.mtc.cyc) h

theorem onStampDrain_of_tic {ts : Bool} {r : RawStamp} {q : List RawStamp} (hc : c < 24) (hq : (s.chan c).queue = r :: q)
    (hturn : s.drainNext = some c) (hovf : (s.resolve r.coarse).2 = false) :
    onStampDrain c ts s = (List.range 32).foldl (fun t d => t.feedEngine d c { time := s.stampTime r, ch := c, raw := r, ovf := false, tslew := ts })
      (s.popped c { time := s.stampTime r, ch := c, raw := r, ovf := false, tslew := ts }) := by
  have h24 : ¬ 24 ≤ c := by omega
  have h28 : ¬ 28 ≤ c := by omega
  have h32 : ¬ 32 ≤ c := by omega
  have h34 : ¬ 34 ≤ c := by omega
  have h38 : c ≠ 38 := by omega
  have h39 : c ≠ 39 := by omega
  have h40 : ¬ 40 ≤ c := by omega
  unfold onStampDrain
  rw [hq]
  simp [hturn, hovf, State.feedInput, h24, h28, h32, h34, h38, h39, h40, State.popped]

theorem FilChan.pop_of_no_spill {y : FilChan} (h : y.spill = none) (n : Nat) : y.pop n = { y with queue := y.queue.drop 1 } := by
  simp [FilChan.pop, h]

theorem FilChan.pop_of_spill {y : FilChan} {z : RawStamp} (h : y.spill = some z) :
    y.pop z.pushed = { y with queue := y.queue.drop 1 ++ [z], spill := none, gap := false, cnt := y.cnt.upd 0 2 (· - 1) } := by
  simp [FilChan.pop, h]

end

end Sys2Proof.Machine
end

section

/-! ### Difference engines (R203, R204) -/

namespace Sys2Proof.Machine

/-- Where channel b is to be met by a first stamp, and how far off it may be (R203). -/
def DiffEng.target (e : DiffEng) (a : StampRec) : Int := (a.time : Int) + e.cfg.o

def DiffEng.reach (e : DiffEng) : Int := (e.cfg.w : Int) * 1048576

/-- The second stamps in the window of a first one (R203). -/
def DiffEng.within (e : DiffEng) (a : StampRec) : List StampRec :=
  (e.bs.map (·.1)).filter fun (x : StampRec) => decide (e.target a - e.reach ≤ (x.time : Int)) && decide ((x.time : Int) ≤ e.target a + e.reach)

/-- The engine is done with its oldest first stamp (R203). -/
def DiffEng.dropped (e : DiffEng) (low : Int) : DiffEng :=
  { e with as := e.as.drop 1, bs := e.bs.filter fun p => decide (low ≤ (p.1.time : Int)),
           cnt := e.cnt.upd 0 1 (· + ((e.bs.filter fun p => decide ((p.1.time : Int) < low)).filter fun p => !p.2).length) }

section
variable {s : State} {d : Nat} {a b : StampRec} {as : List StampRec}

@[simp] theorem dropA_eng_self (s : State) (d : Nat) (low : Int) : (s.dropA d low).eng d = (s.eng d).dropped low := by
  unfold State.dropA
  dsimp only
  rw [countEng_eng_self, onEng_eng_self]
  rfl

theorem dropA_eng_other (s : State) {d k : Nat} (low : Int) (h : k ≠ d) : (s.dropA d low).eng k = s.eng k :=
  (countEng_eng_other _ _ _ h).trans (onEng_eng_other _ _ h)

/-- What a difference leaves of the engine that records it (R203, R204). -/
theorem recordDiff_eng_self (s : State) (d : Nat) (a b : StampRec) : (s.recordDiff d a b).eng d = { s.eng d with
    seq := ((s.eng d).seq + 1) % 2 ^ 32
    run := if (s.eng d).gateEnd ≤ s.tc.mtc.sec then (s.eng d).run.add ((b.time : Int) - (a.time : Int)) else (s.eng d).run } :=
  onEng_eng_self _ _ _

theorem dropA_filOnly (s : State) (d : Nat) (low : Int) : FilOnly s (s.dropA d low) := rfl

theorem recordDiff_filOnly (s : State) (d : Nat) (a b : StampRec) : FilOnly s (s.recordDiff d a b) := rfl

theorem recordDiff_put (s : State) (d : Nat) (a b : StampRec) : ((s.recordDiff d a b).ring (64 + d)).put = (s.ring (64 + d)).put + 1 := by
  unfold State.recordDiff
  dsimp only
  rw [onEng_ring, onRing_ring_self]
  rfl

/-- A match is looked for once a second stamp later than the window has arrived, and the ring takes a record (R203). -/
structure DiffEng.Due (s : State) (d : Nat) (a : StampRec) (as : List StampRec) : Prop where
  engine : d < 32
  enabled : (s.eng d).cfg.enable = 1
  takes : (s.ring (64 + d)).takes = true
  first : (s.eng d).as = a :: as
  later : ((s.eng d).bs.any fun p => decide ((s.eng d).target a + (s.eng d).reach < (p.1.time : Int))) = true

theorem onDiffMatch_of_unmatched (h : DiffEng.Due s d a as) (hnear : (s.eng d).within a = []) :
    onDiffMatch d s = (s.countEng d 0 1).dropA d ((s.eng d).target a - (s.eng d).reach) := by
  obtain ⟨hd, hen, htakes, has, hlater⟩ := h
  have h32 : ¬ 32 ≤ d := by omega
  unfold DiffEng.within DiffEng.target DiffEng.reach at *
  unfold onDiffMatch
  simp only [has, h32, hen, htakes, hlater, hnear, List.foldl_nil]
  simp

/-- The engine with a second stamp matched (R203). -/
def DiffEng.matched (e : DiffEng) (b : StampRec) : DiffEng := { e with bs := e.bs.map fun p => if p.1 = b then (p.1, true) else p }

theorem onDiffMatch_of_timed (h : DiffEng.Due s d a as) (hnear : (s.eng d).within a = [b]) (ha : a.ovf = false) (hb : b.ovf = false)
    (ham : a.raw.mid = false) (hbm : b.raw.mid = false) :
    onDiffMatch d s = ((s.onEng d fun y => y.matched b).recordDiff d a b).dropA d ((s.eng d).target a - (s.eng d).reach) := by
  obtain ⟨hd, hen, htakes, has, hlater⟩ := h
  have h32 : ¬ 32 ≤ d := by omega
  unfold DiffEng.within DiffEng.target DiffEng.reach at *
  unfold onDiffMatch
  simp only [has, h32, hen, htakes, hlater, hnear, List.foldl_cons, List.foldl_nil, nearer, ha, hb, ham, hbm]
  simp
  rfl

theorem onDiffWaitTimeout_of_late (hd : d < 32) (hen : (s.eng d).cfg.enable = 1) (has : (s.eng d).as = a :: as)
    (hlate : (s.eng d).target a + 2 * (s.eng d).reach ≤ (s.tc.mtc.units : Int)) :
    onDiffWaitTimeout d s = (s.countEng d 0 1).dropA d ((s.eng d).target a - (s.eng d).reach) := by
  have h32 : ¬ 32 ≤ d := by omega
  have hearly : ¬ (s.tc.mtc.units : Int) < (s.eng d).target a + 2 * (s.eng d).reach := by omega
  unfold DiffEng.target DiffEng.reach at *
  unfold onDiffWaitTimeout
  simp [has, h32, hen, hearly]

/-- A gate that ends becomes the last one, but for the first boundary, which only begins a gate (R204). -/
theorem onDiffGateEnd_of_due (hd : d < 32) (hen : (s.eng d).cfg.enable = 1) (hdue : (s.eng d).gateEndMs * 1000000 ≤ s.nowNs) :
    onDiffGateEnd d s = s.onEng d fun y => { y with
      last := if y.gateEndMs = y.gateEnd * 1000 then y.last else y.run, run := {}, gateEndMs := y.gateEndMs + y.cfg.gate } := by
  have h32 : ¬ 32 ≤ d := by omega
  have hearly : ¬ s.nowNs < (s.eng d).gateEndMs * 1000000 := by omega
  unfold onDiffGateEnd
  simp [h32, hen, hearly]

end

/-! ### Host streams (R200) -/

/-- A stream that has written nothing of a ring's one record hands it to the host. -/
theorem onFilStreamWrite_of_first {s : State} {b c : Nat} {x : FilStream} {r : StampRec} (hx : s.filStream b c = some x) (hnext : x.next = 0)
    (hput : (s.ring c).put = 1) (hrecs : (s.ring c).recs = [r]) (hreaders : (s.ring c).readers = [{ user := .bezel b, pos := 0 }])
    (hroom : x.out.length < 2 ^ x.cfg.n) (hfree : s.masterFrozen b 2 c = false) (hfree' : s.masterFrozen b 3 c = false)
    (hreach : s.filReach b c = true) (hbase : s.dmaOk b x.cfg.base (32 * 2 ^ x.cfg.n) = true) (hback : s.dmaOk b x.cfg.writeback 4 = true) :
    onFilStreamWrite b c s =
      (s.onStream b c fun y => { y with put := y.put + 1, next := 1, out := y.out ++ [(0, r)] }).announce b x.cfg.vector := by
  have hroom' : ¬ 2 ^ x.cfg.n ≤ x.out.length := by omega
  have hreader : (s.ring c).reader (.bezel b) = some { user := .bezel b, pos := 0 } := by simp [FilRing.reader, hreaders]
  have hbase0 : (s.ring c).base = 0 := by simp [FilRing.base, hput, hrecs]
  unfold onFilStreamWrite
  simp [hx, hreader, hnext, hbase0, hrecs, hroom', hfree, hfree', hreach, hbase, hback]

/-! ### Ring changes (R199), and settling O14 -/

theorem onFilRingChangeEffect_of_waiting {s : State} {r a : Nat} {m : Bool} (h : (s.ring r).next = some (m, a)) :
    onFilRingChangeEffect r s = s.onRing r fun x => x.change m a := by
  unfold onFilRingChangeEffect
  rw [h]

/-- Settles O14: the edge by the channel that has stamped it, the drain by what its ring and each engine take, the engines by their oldest first stamp,
the stream by the record it hands over. -/
theorem filigreeEvents : Obligations.FiligreeEvents := by
  unfold Obligations.FiligreeEvents
  refine ⟨fun s c cyc code f b ha hc hb hst hsurv hen he hn hlast hqueue harm => ?edge, fun s c ts r q ha hc hq hturn hovf hdeaf => ?drain,
    fun s r m a ha hnext => ?ringChange, fun s d a b ha hd hen htakes has hbs hbeyond => ?unmatched,
    fun s d a b c ha hd hen htakes has hbs ho htime hw hbeyond hao hbo ham hbm => ?matched, fun s d a ha hd hen has hbs hlate => ?timeout,
    fun s d ha hd hen hdue => ?gate, fun s b c x r ha hx hnext hput hrecs hreaders hroom hf2 hf3 hreach hbase hback => ?stream,
    fun s c d ts r q ha hc hd hq hturn hovf hen hchA hedge hchB hgap => ?feed⟩
  case edge =>
    refine .of_alive rfl ha ?_
    rw [onFiligreeEdge_of_undivided hc hb hst hsurv (edgeCounts_of_both hc hen he) hn hlast harm, onChan_chan_self]
    have hroom : ((s.chan c).stamped cyc code b).queue.length < 1024 := by simp [FilChan.stamped, hqueue]
    rw [FilChan.push_of_room hroom]
    refine ⟨rfl, fun k hk => onChan_chan_other _ _ hk, rfl, rfl, ?_, rfl⟩
    simp [FilChan.stamped, hqueue, State.edgeStamp]
  case drain =>
    refine .of_alive rfl ha ?_
    rw [onStampDrain_of_tic hc hq hturn hovf, feedEngines_of_deaf (s := s.popped c _) fun d hd => hdeaf d (List.mem_range.1 hd)]
    generalize ({ time := s.stampTime r, ch := c, raw := r, ovf := false, tslew := ts } : StampRec) = x
    refine ⟨rfl, rfl, fun hspill => ?_, fun y hspill hpushed => ?_, onRing_ring_self _ _ _, fun k hk => ⟨?_, onRing_ring_other _ _ hk⟩⟩
    · rw [popped_chan_self, FilChan.pop_of_no_spill hspill, hq]
      rfl
    · rw [popped_chan_self, ← hpushed, FilChan.pop_of_spill hspill, hq]
      exact ⟨rfl, rfl, Tab.look_upd_self (s.chan c).cnt 0 2 (· - 1)⟩
    · exact popped_chan_other _ _ hk
  case ringChange =>
    refine .of_alive rfl ha ?_
    rw [onFilRingChangeEffect_of_waiting hnext, onRing_ring_self]
    exact ⟨rfl, rfl, rfl, rfl, rfl, fun k hk => onRing_ring_other _ _ hk⟩
  case unmatched =>
    have hpast : (s.eng d).target a + (s.eng d).reach < (b.time : Int) := hbeyond
    have hlater : ((s.eng d).bs.any fun p => decide ((s.eng d).target a + (s.eng d).reach < (p.1.time : Int))) = true := by simp [hbs, hpast]
    have hnear : (s.eng d).within a = [] := by simp [DiffEng.within, hbs, not_le.2 hpast]
    have hkept : (s.eng d).target a - (s.eng d).reach ≤ (b.time : Int) := by
      unfold DiffEng.target DiffEng.reach
      omega
    refine .of_alive rfl ha ?_
    rw [onDiffMatch_of_unmatched ⟨hd, hen, htakes, has, hlater⟩ hnear]
    refine ⟨rfl, ?_, ?_, ?_, fun k hk => (dropA_eng_other _ _ hk).trans (countEng_eng_other _ _ _ hk)⟩ <;> rw [dropA_eng_self, countEng_eng_self]
    · exact congrArg (List.drop 1) has
    · exact (congrArg (List.filter _) hbs).trans (List.filter_cons_of_pos (decide_eq_true hkept))
    · simp [DiffEng.dropped, Tab.look_upd]
  case matched =>
    have htarget : (s.eng d).target a = a.time := by rw [DiffEng.target, ho, add_zero]
    have hreach : 1048576 ≤ (s.eng d).reach := by
      unfold DiffEng.reach
      omega
    have hpast : (s.eng d).target a + (s.eng d).reach < (c.time : Int) := htarget ▸ hbeyond
    have hlo : (s.eng d).target a - (s.eng d).reach ≤ (b.time : Int) := by omega
    have hhi : (b.time : Int) ≤ (s.eng d).target a + (s.eng d).reach := by omega
    have hlater : ((s.eng d).bs.any fun p => decide ((s.eng d).target a + (s.eng d).reach < (p.1.time : Int))) = true := by simp [hbs, hpast]
    have hnear : (s.eng d).within a = [b] := by
      rw [DiffEng.within, hbs, List.map_cons, List.map_cons, List.filter_cons_of_pos (by simp only [hlo, hhi, decide_true, Bool.and_self])]
      simp [not_le.2 hpast]
    refine .of_alive rfl ha ?_
    rw [onDiffMatch_of_timed ⟨hd, hen, htakes, has, hlater⟩ hnear hao hbo ham hbm]
    refine ⟨((onFil_filOnly s _).trans (recordDiff_filOnly _ _ _ _)).trans (dropA_filOnly _ _ _), ?_, ?_, recordDiff_put _ _ _ _, fun hgate => ?_⟩
    all_goals rw [dropA_eng_self, recordDiff_eng_self, onEng_eng_self]
    · exact congrArg (List.drop 1) has
    · rfl
    · have hdiff : (b.time : Int) - (a.time : Int) = 1 := by omega
      simp [DiffEng.dropped, DiffEng.matched, hgate, DiffGate.add, hdiff]
  case timeout =>
    refine .of_alive rfl ha ?_
    rw [onDiffWaitTimeout_of_late hd hen has hlate, dropA_eng_self, countEng_eng_self]
    refine ⟨rfl, congrArg (List.drop 1) has, ?_⟩
    simp [DiffEng.dropped, Tab.look_upd]
  case gate =>
    refine .of_alive rfl ha ?_
    rw [onDiffGateEnd_of_due hd hen hdue, onEng_eng_self]
    exact ⟨rfl, rfl, rfl, rfl⟩
  case stream =>
    have hstream := onStream_filStream s b c (f := fun y => { y with put := y.put + 1, next := 1, out := y.out ++ [(0, r)] }) fun _ => ⟨rfl, rfl⟩
    refine .of_alive rfl ha ?_
    rw [onFilStreamWrite_of_first hx hnext hput hrecs hreaders hroom hf2 hf3 hreach hbase hback, filStream_congr (announce_fil _ _ _), hstream, hx]
    exact ⟨rfl, rfl, rfl⟩
  case feed =>
    refine .of_alive rfl ha ?_
    rw [onStampDrain_of_tic hc hq hturn hovf, feedEngines_eng List.nodup_range, if_pos (List.mem_range.2 hd)]
    have heng : (s.popped c { time := s.stampTime r, ch := c, raw := r, ovf := false, tslew := ts }).eng d = s.eng d := rfl
    rw [heng]
    simp [DiffEng.fed, hen, hchA, hedge, hchB, hgap]

end Sys2Proof.Machine
end

section

/-! ### The fil commands (R180-R183, R196-R204, R480) -/

namespace Sys2Proof.Machine

/-- The change touches Filigree, change counts and stored records alone. -/
structure FiligreeOnly (s t : State) : Prop where
  calm : Calm s t
  rest : t = { s with fil := t.fil, mbx := t.mbx, mgmt := t.mgmt }

section
variable {s t u : State}

theorem FiligreeOnly.refl (s : State) : FiligreeOnly s s := ⟨.refl s, rfl⟩

theorem FiligreeOnly.trans (h : FiligreeOnly s t) (k : FiligreeOnly t u) : FiligreeOnly s u := by
  refine ⟨h.calm.trans k.calm, ?_⟩
  rw [k.rest, h.rest]

theorem FiligreeOnly.onFil (h : FiligreeOnly s t) (f : FilSt → FilSt) : FiligreeOnly s (t.onFil f) := h.trans ⟨(Calm.refl t).onFil f, rfl⟩

theorem FiligreeOnly.onChan (h : FiligreeOnly s t) (c : Nat) (f : FilChan → FilChan) : FiligreeOnly s (t.onChan c f) := h.onFil _

theorem FiligreeOnly.onRing (h : FiligreeOnly s t) (r : Nat) (f : FilRing → FilRing) : FiligreeOnly s (t.onRing r f) := h.onFil _

theorem FiligreeOnly.onEng (h : FiligreeOnly s t) (d : Nat) (f : DiffEng → DiffEng) : FiligreeOnly s (t.onEng d f) := h.onFil _

theorem FiligreeOnly.onStream (h : FiligreeOnly s t) (b c : Nat) (f : FilStream → FilStream) : FiligreeOnly s (t.onStream b c f) := h.onFil _

theorem FiligreeOnly.store (h : FiligreeOnly s t) (k i : Nat) : FiligreeOnly s (t.store k i) := h.trans ⟨(Calm.refl t).store k i, rfl⟩

theorem FiligreeOnly.join (h : FiligreeOnly s t) (c : Nat) (u : FilUser) : FiligreeOnly s (t.join c u) := by
  unfold State.join
  split
  · exact h
  · exact h.onRing _ _

theorem FiligreeOnly.leave (h : FiligreeOnly s t) (c : Nat) (u : FilUser) : FiligreeOnly s (t.leave c u) := h.onRing _ _

theorem FiligreeOnly.moveReader (h : FiligreeOnly s t) (c : Nat) (u : FilUser) (n : Nat) : FiligreeOnly s (t.moveReader c u n) := h.onRing _ _

theorem FiligreeOnly.unhook (h : FiligreeOnly s t) (d : Nat) : FiligreeOnly s (t.unhook d) := by
  unfold State.unhook
  dsimp only
  split
  · exact (h.leave _ _).leave _ _
  · exact h

end

/-- A ready command on Filigree completes with OK, and leaves Filigree as its effect does. -/
theorem runCommand_filigree {acc : State → State} {m : CmdMeta} {h : CmdHdr} {i : Instr} {b : CmdBody} {s u : State} {result xb : Rec} {P : State → Prop}
    (hr : ready m h s = true) (ha : b.argOk (s.fetchedFor m h) = true) (hc : (b.check (s.fetchedFor m h)).status = .ok)
    (ho : b.act (s.fetchedFor m h) = cmdOut u result xb) (hx : m.xbOut = true → xb.bytes ≤ h.xlen) (hu : FiligreeOnly (s.fetchedFor m h) u)
    (hP : ∀ t, t.fil = u.fil → P t) :
    ∃ t, (Host.Outcome.next (runCommand acc m h i b s) : Host.Outcome State Fault Refusal) = .next t ∧
      Completes h s { s with fil := t.fil } t result xb ∧ P t := by
  have hpending := congrArg State.pending hu.rest
  refine runCommand_does u hr ha hc ho hx hu.calm hpending fun t hcompletes => ?_
  obtain ⟨-, -, -, -, hrest⟩ := id hcompletes
  refine ⟨hcompletes.of ?_, hP t (congrArg State.fil hrest :)⟩
  rw [hrest, hu.rest]
  rfl

/-- The change touches Filigree, the records that fall due, change counts and stored records alone. -/
structure FiligreeAndHall (s t : State) : Prop where
  calm : Calm s t
  rest : t = { s with fil := t.fil, hall := t.hall, mbx := t.mbx, mgmt := t.mgmt }

section
variable {s t u : State}

theorem FiligreeAndHall.trans (h : FiligreeAndHall s t) (k : FiligreeAndHall t u) : FiligreeAndHall s u := by
  refine ⟨h.calm.trans k.calm, ?_⟩
  rw [k.rest, h.rest]

theorem FiligreeOnly.andHall (h : FiligreeOnly s t) : FiligreeAndHall s t := by
  refine ⟨h.calm, ?_⟩
  rw [h.rest]

theorem FiligreeAndHall.hallWiden (h : FiligreeAndHall s t) (l : List Nat) : FiligreeAndHall s (t.hallWiden l) :=
  h.trans ⟨((Calm.refl t).onHall _).onHall _, rfl⟩

theorem FiligreeAndHall.store (h : FiligreeAndHall s t) (k i : Nat) : FiligreeAndHall s (t.store k i) :=
  h.trans ((FiligreeOnly.refl t).store k i).andHall

end

/-- The same for a command whose effect is on Filigree and on the records that fall due. -/
theorem runCommand_filigreeAndHall {acc : State → State} {m : CmdMeta} {h : CmdHdr} {i : Instr} {b : CmdBody} {s u : State} {P : State → Prop}
    (hr : ready m h s = true) (ha : b.argOk (s.fetchedFor m h) = true) (hc : (b.check (s.fetchedFor m h)).status = .ok)
    (ho : b.act (s.fetchedFor m h) = cmdOut u) (hx : m.xbOut = false) (hu : FiligreeAndHall (s.fetchedFor m h) u)
    (hP : ∀ t, t.fil = u.fil → t.hall = u.hall → P t) :
    ∃ t, (Host.Outcome.next (runCommand acc m h i b s) : Host.Outcome State Fault Refusal) = .next t ∧
      Completes h s { s with fil := t.fil, hall := t.hall } t [] [] ∧ P t := by
  have hpending := congrArg State.pending hu.rest
  refine runCommand_does u hr ha hc ho (fun hb => absurd hb (by simp [hx])) hu.calm hpending fun t hcompletes => ?_
  obtain ⟨-, -, -, -, hrest⟩ := id hcompletes
  refine ⟨hcompletes.of ?_, hP t (congrArg State.fil hrest :) (congrArg State.hall hrest :)⟩
  rw [hrest, hu.rest]
  rfl

theorem judgeOwned_own (reads : Bool) (row : Nat) (l : List (Bool × Status)) : judgeOwned true reads row l = judge l := rfl

theorem judge_of_no_conflict {b : Bool} (h : b = false) (st : Status) : judge [(b, st)] = {} := by
  subst h
  rfl

@[simp] theorem store_chan (s : State) (k i c : Nat) : (s.store k i).chan c = s.chan c := rfl
@[simp] theorem store_ring (s : State) (k i r : Nat) : (s.store k i).ring r = s.ring r := rfl
@[simp] theorem store_eng (s : State) (k i d : Nat) : (s.store k i).eng d = s.eng d := rfl
@[simp] theorem store_filStream (s : State) (k i b c : Nat) : (s.store k i).filStream b c = s.filStream b c := rfl

/-! ### Channels and loopbacks (R180-R183) -/

/-- A channel as fil.set_channel leaves it: an enable begins its counts anew (R183). -/
def FilChan.configured (x : FilChan) (e g n : Nat) : FilChan :=
  { (if !x.en && e = 1 then { x with edges := 0, seq := 0, last := none } else x) with en := e = 1, edge := g, n := n, presc := 0 }

theorem FilChan.configured_of_enabled {x : FilChan} {e g n : Nat} (hen : x.en = false) (he : e = 1) :
    (x.configured e g n).seq = 0 ∧ (x.configured e g n).edges = 0 := by
  simp [FilChan.configured, hen, he]

section
variable {s : State} {h : CmdHdr}

theorem cmdFilSetChannel_argOk {c e g n : Nat} (hc : c < 64) (he : e ≤ 1) (hg : g ≤ 2) (hn : 1 ≤ n) (hn' : n ≤ 65536) :
    (cmdFilSetChannel h c e g n).2.argOk s = true := by
  simp [cmdFilSetChannel, hc, he, hg, hn, hn']

theorem cmdFilSetChannel_check {c e g n : Nat} (hc : c < 24) : (cmdFilSetChannel h c e g n).2.check s = {} :=
  judge_of_no_conflict (decide_eq_false (Nat.not_le.2 hc)) _

theorem cmdFilSetChannel_act (c e g n : Nat) :
    (cmdFilSetChannel h c e g n).2.act s = cmdOut ((s.onChan c fun x => x.configured e g n).store 0x15 c) := rfl

theorem cmdFilSetLoopback_argOk {c k i d : Nat} (hc : 40 ≤ c) (hc' : c < 64) (hout : outputOk k i = true) (hd : k ≠ 0 ∨ 1 ≤ d ∧ d ≤ 16777216) :
    (cmdFilSetLoopback h c k i d).2.argOk s = true := by
  simp [cmdFilSetLoopback, hc, hc', hout, hd]

theorem cmdFilSetLoopback_check {c k i d : Nat} (hfree : s.loopTaken c (outKey k i) = false) : (cmdFilSetLoopback h c k i d).2.check s = {} :=
  judge_of_no_conflict hfree _

/-- No move of the channel waits. -/
def State.unmoved (s : State) (c : Nat) : State := s.onFil fun x => { x with moves := x.moves.filter fun m => m.1 != c }

theorem cmdFilSetLoopback_act_of_kept {c k i d : Nat} (hk : s.loopTarget c = outKey k i) : (cmdFilSetLoopback h c k i d).2.act s =
    cmdOut (((s.unmoved c).onFil fun x => { x with divider := x.divider.put c d }).store 0x15 c) := by
  simp only [cmdFilSetLoopback, if_pos hk]
  rfl

theorem cmdFilSetLoopback_act_of_moved {c k i d : Nat} (hk : s.loopTarget c ≠ outKey k i) : (cmdFilSetLoopback h c k i d).2.act s =
    cmdOut ((((s.unmoved c).onFil fun x => { x with moves := x.moves ++ [(c, outKey k i, d)] }).hallWiden
      [pointOfKey (s.loopTarget c), pointOfKey (outKey k i)]).store 0x15 c) := by
  simp only [cmdFilSetLoopback, if_neg hk]
  rfl

theorem mem_hallWiden_due {s : State} {l : List Nat} {p : Nat} (hp : p ∈ l) : p ∈ (s.hallWiden l).hall.due :=
  List.mem_eraseDups.2 (List.mem_append_right _ hp)

/-! ### Grants and rings (R180, R181, R196-R199) -/

theorem cmdFilGrantChannel_argOk {c b g : Nat} (hc : c < 64) (hg : g ≤ 1) (hb : b < 64) (hp : (s.bezel b).present = true) :
    (cmdFilGrantChannel h c b g).2.argOk s = true := by
  simp [cmdFilGrantChannel, hc, hg, hb, hp]

theorem cmdFilGrantChannel_check {c b g : Nat} (hroom : g = 1 → ((s.ring c).reader (.bezel b)).isSome = true ∨ s.consumers c < 4) :
    (cmdFilGrantChannel h c b g).2.check s = {} := by
  refine judge_of_no_conflict ?_ _
  by_cases hg : g = 1
  · rcases hroom hg with hreader | hfew
    · simp [← Option.not_isSome, hreader]
    · simp [Nat.not_le.2 hfew]
  · simp [hg]

/-- The channel with the bezel among those granted it (R180). -/
def FilChan.granted (x : FilChan) (b : Nat) : FilChan := { x with grants := if b ∈ x.grants then x.grants else x.grants ++ [b] }

theorem FilChan.mem_granted (x : FilChan) (b : Nat) : b ∈ (x.granted b).grants := by
  unfold FilChan.granted
  dsimp only
  split
  · next hb => exact hb
  · exact List.mem_append_right _ (List.mem_singleton_self b)

/-- The bezel has no host stream on the channel. -/
def State.closeStream (s : State) (b c : Nat) : State :=
  s.onFil fun x => { x with streams := x.streams.filter fun t => !(t.bezel = b && t.cfg.ch = c) }

@[simp] theorem closeStream_chan (s : State) (b c k : Nat) : (s.closeStream b c).chan k = s.chan k := rfl

theorem closeStream_filStream (s : State) (b c : Nat) : (s.closeStream b c).filStream b c = none := by
  refine List.find?_eq_none.2 fun x hx hselected => ?_
  have hkept := (List.mem_filter.1 hx).2
  rw [hselected] at hkept
  cases hkept

/-- A host stream more. -/
def State.openStream (s : State) (x : FilStream) : State := s.onFil fun f => { f with streams := f.streams ++ [x] }

theorem openStream_filStream {x : FilStream} (hnone : s.filStream x.bezel x.cfg.ch = none) :
    (s.openStream x).filStream x.bezel x.cfg.ch = some x := by
  have happ : (s.openStream x).filStream x.bezel x.cfg.ch =
      (s.filStream x.bezel x.cfg.ch).or ([x].find? fun t => t.bezel = x.bezel && t.cfg.ch = x.cfg.ch) := List.find?_append
  rw [happ, hnone]
  simp

theorem cmdFilGrantChannel_act_of_grant (c b : Nat) : (cmdFilGrantChannel h c b 1).2.act s =
    cmdOut (((s.onChan c fun x => x.granted b).join c (.bezel b)).store 0x15 c) := rfl

theorem cmdFilGrantChannel_act_of_withdrawal (c b : Nat) : (cmdFilGrantChannel h c b 0).2.act s =
    cmdOut ((((s.onChan c fun x => { x with grants := x.grants.filter (· != b) }).leave c (.bezel b)).closeStream b c).store 0x15 c) := rfl

theorem cmdFilSetRing_argOk {r m a : Nat} (hr : r < 96) (hset : r < 24 ∨ 64 ≤ r) (hm : m ≤ 1) (ha : 64 ≤ a) (ha' : a % 64 = 0) :
    (cmdFilSetRing h r m a).2.argOk s = true := by
  simp [cmdFilSetRing, ringSettable, hr, hset, hm, ha, ha']

/-- What a ring takes of the store, a change that waits included (R196). -/
def FilRing.claim (r : FilRing) : Nat := match r.next with | some (_, x) => max x r.allot | none => r.allot

theorem cmdFilSetRing_check {r m a : Nat} (hroom : s.allotted - (s.ring r).claim + max a (s.ring r).allot ≤ 131072) :
    (cmdFilSetRing h r m a).2.check s = {} :=
  judge_of_no_conflict (decide_eq_false (Nat.not_lt.2 hroom)) _

theorem cmdFilSetRing_act_of_empty {r : Nat} (m a : Nat) (he : (s.ring r).recs = []) :
    (cmdFilSetRing h r m a).2.act s = cmdOut ((s.onRing r fun x => x.change (m = 1) a).store 0x15 (256 + r)) := by
  simp [cmdFilSetRing, he]

theorem cmdFilSetRing_act_of_held {r : Nat} (m a : Nat) (he : (s.ring r).recs ≠ []) :
    (cmdFilSetRing h r m a).2.act s = cmdOut ((s.onRing r fun x => { x with next := some (decide (m = 1), a) }).store 0x15 (256 + r)) := by
  simp [cmdFilSetRing, he]

/-! ### Engines (R181, R202, R204) -/

/-- An engine as fil.set_diff leaves it, its first gate beginning at a top of the second (R204). -/
def DiffEng.configured (e : DiffEng) (a : DiffArgs) (top : Nat) : DiffEng := { cfg := a, cnt := e.cnt, gateEnd := top, gateEndMs := top * 1000 }

theorem unhook_eng (s : State) (d k : Nat) : (s.unhook d).eng k = s.eng k := by
  unfold State.unhook
  dsimp only
  split <;> rfl

/-- An engine that was enabled has left both its channels. -/
theorem unhook_readers {d : Nat} (hen : (s.eng d).cfg.enable = 1) :
    ((s.unhook d).ring (s.eng d).cfg.chA).reader (.engine d) = none ∧ ((s.unhook d).ring (s.eng d).cfg.chB).reader (.engine d) = none := by
  unfold State.unhook
  dsimp only
  rw [if_pos hen]
  exact ⟨leave_keeps_absent (leave_reader _ _ _), leave_reader _ _ _⟩

/-- Only the rings and the engine itself say what it leaves. -/
theorem unhook_fil_congr {t u : State} (htu : t.fil = u.fil) (d : Nat) : (t.unhook d).fil = (u.unhook d).fil := by
  unfold State.unhook
  dsimp only
  rw [eng_congr htu]
  split
  · simp [State.leave, State.onRing, htu]
  · exact htu

theorem consumers_congr {t u : State} (htu : t.fil = u.fil) (c : Nat) : t.consumers c = u.consumers c := by
  rw [State.consumers, State.consumers, ring_congr htu]

theorem cmdFilSetDiff_argOk_of_enabled {a : DiffArgs} (hd : a.de < 32) (hen : a.enable = 1) (hA : a.chA < 64) (hB : a.chB < 64)
    (heA : a.edgeA ≤ 2) (heB : a.edgeB ≤ 2) (hne : a.chA ≠ a.chB ∨ a.edgeA ≠ a.edgeB) (hw : 1 ≤ a.w) (hw' : a.w ≤ 1000000000) (hg : 1 ≤ a.gate)
    (hg' : a.gate ≤ 1000000) : (cmdFilSetDiff h a).2.argOk s = true := by
  simp [cmdFilSetDiff, hd, hen, hA, hB, heA, heB, hne, hw, hw', hg, hg']

theorem cmdFilSetDiff_argOk_of_disabled {a : DiffArgs} (hd : a.de < 32) (hen : a.enable = 0) : (cmdFilSetDiff h a).2.argOk s = true := by
  simp [cmdFilSetDiff, hd, hen]

theorem cmdFilSetDiff_check {a : DiffArgs} (hroom : a.enable = 1 → (s.unhook a.de).consumers a.chA < 4 ∧ (s.unhook a.de).consumers a.chB < 4) :
    (cmdFilSetDiff h a).2.check s = {} := by
  refine judge_of_no_conflict ?_ _
  by_cases hen : a.enable = 1
  · obtain ⟨hA, hB⟩ := hroom hen
    simp [Nat.not_le.2 hA, Nat.not_le.2 hB]
  · simp [hen]

theorem cmdFilSetDiff_act_of_enabled {a : DiffArgs} (hen : a.enable = 1) : (cmdFilSetDiff h a).2.act s =
    cmdOut (((((s.unhook a.de).join a.chA (.engine a.de)).join a.chB (.engine a.de)).onEng a.de fun e => e.configured a s.nextTop).store 0x15 (512 + a.de)) := by
  simp only [cmdFilSetDiff, if_pos hen]
  rfl

theorem cmdFilSetDiff_act_of_disabled {a : DiffArgs} (hen : a.enable ≠ 1) : (cmdFilSetDiff h a).2.act s =
    cmdOut (((s.unhook a.de).onEng a.de fun e => e.configured a s.nextTop).store 0x15 (512 + a.de)) := by
  simp only [cmdFilSetDiff, if_neg hen]
  rfl

/-! ### Streams and reads (R200, R201, R204, R539) -/

theorem filReach_check {reads : Bool} {row c : Nat} {l : List (Bool × Status)} (hreach : s.filReach h.fn c = true) :
    judgeOwned (s.filReach h.fn c) reads row l = judge l := by rw [hreach, judgeOwned_own]

theorem cmdFilSetStream_argOk_of_open {a : FilStreamArgs} (hc : a.ch < 64) (hn : 8 ≤ a.n) (hn' : a.n ≤ 20) (hv : a.vector < 64)
    (hbase : s.dmaOk h.fn a.base (32 * 2 ^ a.n) = true) (hback : s.dmaOk h.fn a.writeback 4 = true) : (cmdFilSetStream h a).2.argOk s = true := by
  simp [cmdFilSetStream, hc, hn, hn', hv, hbase, hback]

theorem cmdFilSetStream_argOk_of_closed {a : FilStreamArgs} (hc : a.ch < 64) (hn : a.n = 0) : (cmdFilSetStream h a).2.argOk s = true := by
  simp [cmdFilSetStream, hc, hn]

theorem cmdFilSetStream_check {a : FilStreamArgs} (hreach : s.filReach h.fn a.ch = true) (hroom : a.n ≠ 0 → s.filFull h.fn a.ch = false) :
    (cmdFilSetStream h a).2.check s = {} := by
  refine (filReach_check hreach).trans (judge_of_no_conflict ?_ _)
  by_cases hn : a.n = 0
  · simp [hn]
  · simp [hroom hn]

theorem cmdFilSetStream_act_of_open {a : FilStreamArgs} (hn : a.n ≠ 0) : ∃ pos, (cmdFilSetStream h a).2.act s =
    cmdOut (((s.closeStream h.fn a.ch).join a.ch (.bezel h.fn)).openStream { bezel := h.fn, cfg := a, next := pos }) := ⟨_, if_neg hn⟩

theorem cmdFilSetStream_act_of_closed {a : FilStreamArgs} (hn : a.n = 0) : (cmdFilSetStream h a).2.act s = cmdOut (s.closeStream h.fn a.ch) := if_pos hn

theorem join_filStream (s : State) (c b k : Nat) (u : FilUser) : (s.join c u).filStream b k = s.filStream b k := by
  unfold State.join
  split <;> rfl

theorem cmdFilAckStream_argOk {c r : Nat} {x : FilStream} (hc : c < 64) (hx : s.filStream h.fn c = some x)
    (hr : (r + 2 ^ 32 - x.ack) % 2 ^ 32 ≤ x.out.length) : (cmdFilAckStream h c r).2.argOk s = true := by
  simp only [cmdFilAckStream, hx, hc, hr]
  rfl

theorem cmdFilAckStream_check {c : Nat} {x : FilStream} (r : Nat) (hreach : s.filReach h.fn c = true) (hx : s.filStream h.fn c = some x) :
    (cmdFilAckStream h c r).2.check s = {} := (filReach_check hreach).trans (judge_of_no_conflict (by rw [hx]; rfl) _)

theorem cmdFilAckStream_act {c r : Nat} {x : FilStream} (hx : s.filStream h.fn c = some x) : ∃ pos, (cmdFilAckStream h c r).2.act s =
    cmdOut ((s.onStream h.fn c fun y => { y with ack := r, out := x.out.drop ((r + 2 ^ 32 - x.ack) % 2 ^ 32) }).moveReader c (.bezel h.fn) pos) := by
  simp only [cmdFilAckStream, hx]
  exact ⟨_, rfl⟩

theorem cmdFilReadStamps_check {c : Nat} {x : FilReader} (m : Nat) (hreach : s.filReach h.fn c = true) (hx : (s.ring c).reader (.bezel h.fn) = some x) :
    (cmdFilReadStamps h c m).2.check s = {} :=
  (filReach_check hreach).trans (judge_of_no_conflict (by simp [State.filFull, hx]) _)

theorem cmdFilReadStamps_act {c m : Nat} {x : FilReader} (hx : (s.ring c).reader (.bezel h.fn) = some x) :
    let l := ((s.ring c).recs.drop (x.pos - (s.ring c).base)).take m
    (cmdFilReadStamps h c m).2.act s = cmdOut (s.moveReader c (.bezel h.fn) (x.pos + l.length)) [fld 32 l.length, fld 32 x.lost] (l.flatMap stampLayout) := by
  simp [cmdFilReadStamps, join_of_reader (Option.isSome_iff_exists.2 ⟨x, hx⟩), hx, FilRing.unread]

/-- What fil.read_diff writes (R204, R539). -/
def DiffEng.reading (e : DiffEng) : Rec :=
  gateLayout e.last ++ gateLayout e.run ++ (List.range 4).flatMap fun k => [fld 48 (e.cnt.look 0 k), rsv 16]

theorem gateLayout_bits (g : DiffGate) : (gateLayout g).bits = 448 := by simp [gateLayout, Rec.bits, fld, rsv]

theorem DiffEng.reading_bytes (e : DiffEng) : e.reading.bytes = 144 := by
  have hcounters : Rec.bits ((List.range 4).flatMap fun k => [fld 48 (e.cnt.look 0 k), rsv 16]) = 256 := bits_flatMap _ _ 64 fun _ _ => rfl
  rw [Rec.bytes, DiffEng.reading, bits_append, bits_append, gateLayout_bits, gateLayout_bits, hcounters]

/-- What fil.read_status writes of a channel (R189, R539). -/
def FilChan.reading (x : FilChan) : Rec :=
  [fld 2 x.interp.st.code, bit x.interp.activeY, bit x.en, bit x.interp.surv, rsv 11, fld 16 x.queue.length, fld 32 x.seq] ++
    ((List.range 4).flatMap fun k => [fld 48 (x.cnt.look 0 k), rsv 16]) ++ [fld 48 x.interp.failed, rsv 16]

theorem FilChan.reading_bits (x : FilChan) : x.reading.bits = 384 := by
  have hcounters : Rec.bits ((List.range 4).flatMap fun k => [fld 48 (x.cnt.look 0 k), rsv 16]) = 256 := bits_flatMap _ _ 64 fun _ _ => rfl
  rw [FilChan.reading, bits_append, bits_append, hcounters]
  simp [Rec.bits, fld, bit, rsv]

theorem cmdFilReadStatus_act (h : CmdHdr) (s : State) :
    (cmdFilReadStatus h).2.act s = cmdOut s [] ((List.range 64).flatMap fun c => (s.chan c).reading) := rfl

theorem channelReadings_bytes (s : State) : Rec.bytes ((List.range 64).flatMap fun c => (s.chan c).reading) = 3072 := by
  rw [Rec.bytes, bits_flatMap _ _ 384 fun c _ => (s.chan c).reading_bits, List.length_range]

end

/-- Settles O13: each setting as a ready command on Filigree by what its effect leaves, the readings by their records. -/
theorem filigreeCommands : Obligations.FiligreeCommands := by
  unfold Obligations.FiligreeCommands
  refine ⟨fun h s c e g n hr hc he hg hn hn' => ?channel, fun h s c k i d hr hc hc' hout hd hfree => ?loopback,
    fun h s c b hr hc hb hpresent hroom => ?grant, fun h s c b hr hc hb hpresent => ?withdrawal,
    fun h s r m a hr hlt hset hm ha ha' hroom => ?ring,
    fun h s a hr hd hen hA hB heA heB hne hw hw' hg hg' hroomA hroomB => ?engine,
    fun h s a hr hc hn hn' hv hbase hback hreach hroom => ?openStream, fun h s c r x hr hc hreach hx hlen => ?ack,
    fun h s c m x hr hc hreach hx hlen => ?readStamps, fun h s d hr hd hlen => ?readDiff, fun h s hr hlen => ?readStatus,
    fun h s a hr hd hen hwas => ?engineOff, fun h s a hr hc hn hreach => ?closeStream⟩
  case channel =>
    refine runCommand_filigree hr (cmdFilSetChannel_argOk (by omega) he hg hn hn') (congrArg Judged.status (cmdFilSetChannel_check hc))
      (cmdFilSetChannel_act _ _ _ _) nofun (((FiligreeOnly.refl _).onChan _ _).store _ _) fun t ht => ?_
    have hchan : t.chan c = (s.chan c).configured e g n := by
      rw [chan_congr ht, store_chan, onChan_chan_self]
      rfl
    refine ⟨?_, ?_, ?_, ?_, fun hoff hon => ?_, fun k hk => ?_⟩
    · rw [hchan]
      rfl
    · rw [hchan]
      rfl
    · rw [hchan]
      rfl
    · rw [hchan]
      rfl
    · rw [hchan]
      exact FilChan.configured_of_enabled hoff hon
    · rw [chan_congr ht, store_chan, onChan_chan_other _ _ hk]
      rfl
  case loopback =>
    have hargs := cmdFilSetLoopback_argOk (s := s.fetchedFor (cmdFilSetLoopback h c k i d).1 h) (h := h) hc hc' hout hd
    have hcheck := congrArg Judged.status (cmdFilSetLoopback_check (s := s.fetchedFor (cmdFilSetLoopback h c k i d).1 h) (h := h) (d := d) hfree)
    by_cases hk : s.loopTarget c = outKey k i
    · refine runCommand_filigreeAndHall hr hargs hcheck (cmdFilSetLoopback_act_of_kept hk) rfl
        ((((FiligreeOnly.refl _).onFil _).onFil _).store _ _).andHall fun t hfil hhall =>
          ⟨(congrArg FilSt.chans hfil :), (congrArg FilSt.loopOut hfil :), fun _ => ⟨?_, hhall⟩, fun hne => absurd hk hne⟩
      rw [hfil]
      exact Tab.look_put_self _ _ _ _
    · refine runCommand_filigreeAndHall hr hargs hcheck (cmdFilSetLoopback_act_of_moved hk) rfl
        (((((FiligreeOnly.refl _).onFil _).onFil _).andHall.hallWiden _).store _ _) fun t hfil hhall =>
          ⟨(congrArg FilSt.chans hfil :), (congrArg FilSt.loopOut hfil :), fun heq => absurd heq hk, fun _ => ⟨?_, ?_, ?_⟩⟩
      · rw [hfil]
        exact List.mem_append_right _ (List.mem_singleton_self _)
      · rw [hhall]
        exact mem_hallWiden_due List.mem_cons_self
      · rw [hhall]
        exact mem_hallWiden_due (List.mem_cons_of_mem _ List.mem_cons_self)
  case grant =>
    have hcheck : (cmdFilGrantChannel h c b 1).2.check (s.fetchedFor (cmdFilGrantChannel h c b 1).1 h) = {} := cmdFilGrantChannel_check fun _ => hroom
    refine runCommand_filigree hr (cmdFilGrantChannel_argOk hc le_rfl hb hpresent) (congrArg Judged.status hcheck)
      (cmdFilGrantChannel_act_of_grant _ _) nofun ((((FiligreeOnly.refl _).onChan _ _).join _ _).store _ _) fun t ht => ⟨?_, ?_, fun k hk => ?_⟩
    · rw [chan_congr ht, store_chan, join_chan, onChan_chan_self]
      exact FilChan.mem_granted _ _
    · rw [ring_congr ht, store_ring]
      exact join_reader _ _ _
    · rw [chan_congr ht, store_chan, join_chan, onChan_chan_other _ _ hk]
      rfl
  case withdrawal =>
    have hcheck : (cmdFilGrantChannel h c b 0).2.check (s.fetchedFor (cmdFilGrantChannel h c b 0).1 h) = {} :=
      cmdFilGrantChannel_check fun hon => absurd hon (by decide)
    refine runCommand_filigree hr (cmdFilGrantChannel_argOk hc (by decide) hb hpresent) (congrArg Judged.status hcheck)
      (cmdFilGrantChannel_act_of_withdrawal _ _) nofun (((((FiligreeOnly.refl _).onChan _ _).leave _ _).onFil _).store _ _) fun t ht => ⟨?_, ?_, fun k hk => ?_⟩
    · rw [chan_congr ht, store_chan, closeStream_chan, leave_chan, onChan_chan_self]
      simp
    · rw [filStream_congr ht, store_filStream, closeStream_filStream]
    · rw [chan_congr ht, store_chan, closeStream_chan, leave_chan, onChan_chan_other _ _ hk]
      rfl
  case ring =>
    have hargs := cmdFilSetRing_argOk (s := s.fetchedFor (cmdFilSetRing h r m a).1 h) (h := h) hlt hset hm ha ha'
    have hcheck := congrArg Judged.status (cmdFilSetRing_check (s := s.fetchedFor (cmdFilSetRing h r m a).1 h) (h := h) (m := m) hroom)
    by_cases hrecs : (s.ring r).recs = []
    · refine runCommand_filigree hr hargs hcheck (cmdFilSetRing_act_of_empty _ _ hrecs) nofun (((FiligreeOnly.refl _).onRing _ _).store _ _)
        fun t ht => ⟨fun k hk => ?_, fun _ => ?_, fun hne => absurd hrecs hne⟩
      · rw [ring_congr ht, store_ring, onRing_ring_other _ _ hk]
        rfl
      · rw [ring_congr ht, store_ring, onRing_ring_self]
        exact ⟨rfl, rfl⟩
    · refine runCommand_filigree hr hargs hcheck (cmdFilSetRing_act_of_held _ _ hrecs) nofun (((FiligreeOnly.refl _).onRing _ _).store _ _)
        fun t ht => ⟨fun k hk => ?_, fun he => absurd he hrecs, fun _ => ?_⟩
      · rw [ring_congr ht, store_ring, onRing_ring_other _ _ hk]
        rfl
      · rw [ring_congr ht, store_ring, onRing_ring_self]
        rfl
  case engine =>
    have hcheck : (cmdFilSetDiff h a).2.check (s.fetchedFor (cmdFilSetDiff h a).1 h) = {} := by
      have hfil := unhook_fil_congr (fetchedFor_fil (cmdFilSetDiff h a).1 h s) a.de
      exact cmdFilSetDiff_check fun _ => by rw [consumers_congr hfil, consumers_congr hfil]; exact ⟨hroomA, hroomB⟩
    refine runCommand_filigree hr (cmdFilSetDiff_argOk_of_enabled hd hen hA hB heA heB hne hw hw' hg hg') (congrArg Judged.status hcheck)
      (cmdFilSetDiff_act_of_enabled hen) nofun ((((((FiligreeOnly.refl _).unhook _).join _ _).join _ _).onEng _ _).store _ _)
      fun t ht => ⟨?_, ?_, ?_, fun k hk => ?_⟩
    · rw [eng_congr ht, store_eng, onEng_eng_self, join_eng, join_eng, unhook_eng]
      rfl
    · rw [ring_congr ht, store_ring, onEng_ring]
      exact join_keeps_reader (join_reader _ _ _)
    · rw [ring_congr ht, store_ring, onEng_ring]
      exact join_reader _ _ _
    · rw [eng_congr ht, store_eng, onEng_eng_other _ _ hk, join_eng, join_eng, unhook_eng]
      rfl
  case openStream =>
    obtain ⟨pos, hact⟩ := cmdFilSetStream_act_of_open (s := s.fetchedFor (cmdFilSetStream h a).1 h) (h := h) (a := a) (by omega)
    refine runCommand_filigree hr (cmdFilSetStream_argOk_of_open hc hn hn' hv (fetchedFor_dmaOk _ _ _ _ _ _ hbase) (fetchedFor_dmaOk _ _ _ _ _ _ hback))
      (congrArg Judged.status (cmdFilSetStream_check hreach fun _ => hroom)) hact nofun
      ((((FiligreeOnly.refl _).onFil _).join _ _).onFil _) fun t ht => ⟨?_, ?_⟩
    · have hstream := openStream_filStream (s := ((s.fetchedFor (cmdFilSetStream h a).1 h).closeStream h.fn a.ch).join a.ch (.bezel h.fn))
        (x := { bezel := h.fn, cfg := a, next := pos }) (by rw [join_filStream, closeStream_filStream])
      exact congrArg (Option.map FilStream.cfg) ((filStream_congr ht _ _).trans hstream)
    · rw [ring_congr ht]
      exact join_reader _ _ _
  case ack =>
    obtain ⟨pos, hact⟩ := cmdFilAckStream_act (s := s.fetchedFor (cmdFilAckStream h c r).1 h) (h := h) (r := r) hx
    refine runCommand_filigree hr (cmdFilAckStream_argOk hc hx hlen) (congrArg Judged.status (cmdFilAckStream_check r hreach hx)) hact nofun
      (((FiligreeOnly.refl _).onStream _ _ _).moveReader _ _ _) fun t ht => ⟨?_, (congrArg FilSt.chans ht :)⟩
    have hstream : t.filStream h.fn c = (s.filStream h.fn c).map fun y => { y with ack := r, out := x.out.drop ((r + 2 ^ 32 - x.ack) % 2 ^ 32) } :=
      (filStream_congr ht _ _).trans (onStream_filStream _ _ _ fun _ => ⟨rfl, rfl⟩)
    rw [hstream, hx]
    rfl
  case readStamps =>
    obtain ⟨t, ht, hdone, hchans⟩ := runCommand_filigree (acc := State.accepted) (i := .filReadStamps h c m) (P := fun t => t.fil.chans = s.fil.chans) hr
      (decide_eq_true hc) (congrArg Judged.status (cmdFilReadStamps_check m hreach hx)) (cmdFilReadStamps_act hx) (fun _ => hlen)
      ((FiligreeOnly.refl _).moveReader _ _ _) fun t ht => (congrArg FilSt.chans ht :)
    exact ⟨t, ht, hchans, hdone⟩
  case readDiff => exact runCommand_reads hr (decide_eq_true hd) rfl rfl fun _ => (DiffEng.reading_bytes _).trans_le hlen
  case readStatus =>
    obtain ⟨t, ht, hdone⟩ := runCommand_reads (acc := State.accepted) (i := .filReadStatus h) (b := (cmdFilReadStatus h).2) hr rfl rfl
      (cmdFilReadStatus_act h _) fun _ => (channelReadings_bytes _).trans_le hlen
    refine ⟨t, ht, ?_, ?_⟩ <;> rw [hdone.1.lastXb]
    · exact hdone
    · rfl
  case engineOff =>
    have hoff : a.enable ≠ 1 := by omega
    refine runCommand_filigree hr (cmdFilSetDiff_argOk_of_disabled hd hen) (congrArg Judged.status (cmdFilSetDiff_check fun hon => absurd hon hoff))
      (cmdFilSetDiff_act_of_disabled hoff) nofun ((((FiligreeOnly.refl _).unhook _).onEng _ _).store _ _) fun t ht => ?_
    have heng : t.eng a.de = (s.eng a.de).configured a s.nextTop := by
      rw [eng_congr ht, store_eng, onEng_eng_self, unhook_eng]
      rfl
    obtain ⟨hleftA, hleftB⟩ := unhook_readers (s := s.fetchedFor (cmdFilSetDiff h a).1 h) hwas
    refine ⟨congrArg DiffEng.cfg heng, congrArg DiffEng.as heng, congrArg DiffEng.bs heng, ?_, ?_, fun k hk => ?_⟩
    · rw [ring_congr ht, store_ring, onEng_ring]
      exact hleftA
    · rw [ring_congr ht, store_ring, onEng_ring]
      exact hleftB
    · rw [eng_congr ht, store_eng, onEng_eng_other _ _ hk, unhook_eng]
      rfl
  case closeStream =>
    refine runCommand_filigree hr (cmdFilSetStream_argOk_of_closed hc hn) (congrArg Judged.status (cmdFilSetStream_check hreach fun h0 => absurd hn h0))
      (cmdFilSetStream_act_of_closed hn) nofun ((FiligreeOnly.refl _).onFil _) fun t ht => ⟨?_, (congrArg FilSt.rings ht :)⟩
    rw [filStream_congr ht, closeStream_filStream]

end Sys2Proof.Machine
end

section

/-! ### Claim frames, and what the wires decide (R213, R417-R422) -/

namespace Sys2Proof.Machine

/-- A pair that stays one changes which of its units is ACTIVE alone. -/
theorem setPair_clasp_of_paired {s : State} (hs : s.clasp.st = .active ∨ s.clasp.st = .standby) {p : PairState} (hp : p = .active ∨ p = .standby) :
    (s.setPair p).clasp = { s.clasp with st := p } := by
  unfold State.setPair
  split
  · next h => rw [← h]
  · extract_lets was s1 s2
    have h2 : s2.clasp = { s.clasp with st := p } := raise_clasp s1 _ _ _ _
    have hwas : was = true := by rcases hs with hs | hs <;> simp [was, State.paired, hs]
    have hstays : s2.paired = true := by rcases hp with hp | hp <;> simp [State.paired, h2, hp]
    rw [if_pos (hwas.trans hstays.symm), h2]

/-- An ACTIVE unit without the wires becomes STANDBY. -/
theorem followWires_of_lost {s : State} (hst : s.clasp.st = .active) (hw : s.clasp.wires = false) :
    s.followWires.clasp = { s.clasp with st := .standby, role := false } := by
  rw [State.followWires, if_pos (by simp [hst, hw]), setRole_clasp, setPair_clasp_of_paired (.inl hst) (.inr rfl)]

/-- A STANDBY unit with the wires becomes ACTIVE. -/
theorem followWires_of_gained {s : State} (hst : s.clasp.st = .standby) (hw : s.clasp.wires = true) :
    s.followWires.clasp = { s.clasp with st := .active, role := true } := by
  rw [State.followWires, if_neg (by simp [hst]), if_pos (by simp [hst, hw]), setRole_clasp, setPair_clasp_of_paired (.inr hst) (.inl rfl)]

/-- Every other unit keeps its pair state. -/
theorem followWires_of_kept {s : State} (hlost : s.clasp.st = .active → s.clasp.wires = true) (hgained : s.clasp.st = .standby → s.clasp.wires = false) :
    ∃ r, s.followWires.clasp = { s.clasp with role := r } := by
  rw [State.followWires, if_neg (by simpa using hlost), if_neg (by simpa using hgained)]
  split
  · exact ⟨_, setRole_clasp _ _⟩
  · exact ⟨_, setRole_clasp _ _⟩

/-- The wires decide the pair state and ROLE alone (R420). -/
theorem followWires_clasp (s : State) : ∃ p r, s.followWires.clasp = { s.clasp with st := p, role := r } := by
  by_cases hlost : s.clasp.st = .active → s.clasp.wires = true
  · by_cases hgained : s.clasp.st = .standby → s.clasp.wires = false
    · obtain ⟨r, hr⟩ := followWires_of_kept hlost hgained
      exact ⟨_, r, hr⟩
    · obtain ⟨hst, hw⟩ := Classical.not_imp.1 hgained
      exact ⟨_, _, followWires_of_gained hst (eq_true_of_ne_false hw)⟩
  · obtain ⟨hst, hw⟩ := Classical.not_imp.1 hlost
    exact ⟨_, _, followWires_of_lost hst (eq_false_of_ne_true hw)⟩

theorem announceClaim_eq (s : State) : s.announceClaim.clasp =
    { s.clasp with claim := claimWord s.fitness s.clasp.role s.pwr.pairId, frame := s.announceClaim.clasp.frame } := by
  unfold State.announceClaim State.sendClaim
  dsimp only [State.onClasp]
  rw [followPins_clasp]

/-- What a reclaim decides: both records published, the wires by the claims, and the pair state and ROLE by the wires (R417-R420, R441). -/
structure Weighed (s t : State) : Prop where
  fit : t.clasp.fit = (s.clasp.fit || (s.ownFit && s.clasp.partnerFit))
  wires : t.clasp.wires = (s.onClasp fun c => { c with fit := t.clasp.fit }).wiresHeld
  silentAt : t.clasp.silentAt = if s.clasp.wires = true ∧ t.clasp.wires = false then some s.tc.mtc.cyc else s.clasp.silentAt
  lost : s.clasp.st = .active → t.clasp.wires = false → t.clasp.st = .standby ∧ t.clasp.role = false
  gained : s.clasp.st = .standby → t.clasp.wires = true → t.clasp.st = .active ∧ t.clasp.role = true
  kept : s.clasp.st ≠ .active → s.clasp.st ≠ .standby → t.clasp.st = s.clasp.st

theorem reclaim_weighed (s : State) : Weighed s s.reclaim := by
  obtain ⟨p, r, hfollow⟩ := followWires_clasp s.weighClaims
  have hend : s.reclaim.clasp = { s.weighClaims.clasp with
      st := s.weighClaims.followWires.clasp.st, role := s.weighClaims.followWires.clasp.role
      claim := s.reclaim.clasp.claim, frame := s.reclaim.clasp.frame } := by
    rw [reclaim_eq, announceClaim_eq, hfollow]
  have hfit : s.reclaim.clasp.fit = (s.clasp.fit || (s.ownFit && s.clasp.partnerFit)) := congrArg ClaspSt.fit hend
  have hwires : s.reclaim.clasp.wires = s.weighClaims.clasp.wires := (congrArg ClaspSt.wires hend :)
  have hst : s.reclaim.clasp.st = s.weighClaims.followWires.clasp.st := (congrArg ClaspSt.st hend :)
  have hrole : s.reclaim.clasp.role = s.weighClaims.followWires.clasp.role := (congrArg ClaspSt.role hend :)
  refine ⟨hfit, ?_, ?_, fun hact hno => ?_, fun hby hyes => ?_, fun hact hby => ?_⟩
  · rw [hwires, hfit]
    rfl
  · have hsilent : s.reclaim.clasp.silentAt = if s.clasp.wires && !s.reclaim.clasp.wires then some s.tc.mtc.cyc else s.clasp.silentAt := by
      rw [hwires]
      exact congrArg ClaspSt.silentAt hend
    rw [hsilent]
    simp
  · rw [hst, hrole, followWires_of_lost (s := s.weighClaims) hact (hwires.symm.trans hno)]
    exact ⟨rfl, rfl⟩
  · rw [hst, hrole, followWires_of_gained (s := s.weighClaims) hby (hwires.symm.trans hyes)]
    exact ⟨rfl, rfl⟩
  · obtain ⟨r, hr⟩ := followWires_of_kept (s := s.weighClaims) (fun h => absurd h hact) (fun h => absurd h hby)
    rw [hst, hr]
    rfl

/-! ### A claim-deaf unit (R422) -/

theorem fitness_of_deaf {s : State} (h : s.clasp.deaf = true) : s.fitness = 0 := by simp [State.fitness, h]

theorem claimWord_zero_div (role unit : Bool) : claimWord 0 role unit / 4096 = 0 := by cases role <;> cases unit <;> decide

/-- A unit that falls silent now sends no claim frame (R419). -/
theorem announceClaim_frame_of_silent {s : State} (h : s.clasp.silentAt = some s.tc.mtc.cyc) : s.announceClaim.clasp.frame = none := by
  unfold State.announceClaim
  generalize hu : (s.onClasp fun c => { c with claim := claimWord s.fitness s.clasp.role s.pwr.pairId }).followPins = u
  have hsilent : u.clasp.silentAt = some s.tc.mtc.cyc := by rw [← hu, followPins_clasp]; exact h
  have htc : u.tc = s.tc := by rw [← hu, followPins_tc]; rfl
  have hlow : u.claimLow = true := by simp [State.claimLow, hsilent, htc]
  exact if_pos hlow

/-- A unit that becomes claim-deaf while it holds the wires gives them up (R417, R419, R422). -/
theorem reclaim_deaf {s : State} (hdeaf : s.clasp.deaf = true) (hoff : s.clasp.st ≠ .off) (hw : s.clasp.wires = true) :
    s.reclaim.clasp.deaf = true ∧ s.reclaim.clasp.wires = false ∧ s.reclaim.clasp.silentAt = some s.tc.mtc.cyc ∧ s.reclaim.clasp.frame = none ∧
      s.reclaim.clasp.claim / 4096 = 0 ∧ s.reclaim.fitness = 0 := by
  have hweighed := reclaim_weighed s
  have hstill : s.reclaim.clasp.deaf = true := (congrArg ClaspSt.deaf (reclaim_moves s).clasp).trans hdeaf
  have hno : s.reclaim.clasp.wires = false := by
    have hzero : ∀ b, (s.onClasp fun c => { c with fit := b }).fitness = 0 := fun _ => fitness_of_deaf hdeaf
    rw [hweighed.wires, State.wiresHeld, hzero]
    simp [State.onClasp, hoff]
  have hsilent : s.reclaim.clasp.silentAt = some s.tc.mtc.cyc := by rw [hweighed.silentAt, if_pos ⟨hw, hno⟩]
  refine ⟨hstill, hno, hsilent, ?_, ?_, fitness_of_deaf hstill⟩
  · have htc : s.weighClaims.followWires.tc = s.tc := ((weighClaims_moves s).trans (followWires_moves _)).kept.1
    rw [reclaim_eq] at hsilent ⊢
    rw [announceClaim_eq] at hsilent
    exact announceClaim_frame_of_silent (htc ▸ hsilent)
  · have hdeafThen : s.weighClaims.followWires.clasp.deaf = true :=
      (congrArg ClaspSt.deaf ((weighClaims_moves s).trans (followWires_moves _)).clasp).trans hdeaf
    rw [reclaim_eq, announceClaim_eq, fitness_of_deaf hdeafThen]
    exact claimWord_zero_div _ _

/-! ### Claim frames (R418, R419) -/

/-- What a good frame says of the partner, with `run` frames that say it does not hear. -/
def State.takeClaim (s : State) (claim : BitVec 16) (flags : BitVec 4) (run : Nat) : State :=
  let f := flags.toNat
  s.onClasp fun c => { c with
    badRun := 0, partnerClaim := if s.clasp.agreedTo.any (fun x => decide (s.tc.mtc.cyc < x)) then c.partnerClaim else claim.toNat
    partnerDrive := nbit f 0, partnerHear := nbit f 1, partnerSwap := nbit f 2, hear := true, deafRun := run
    stepRun := if nbit f 3 then c.stepRun else 0, hearSince := if nbit f 1 then c.hearSince.or (some s.upNs) else none }

/-- The same, and the log entry where the partner drives on with the lower claim. -/
def State.noteClaim (s : State) (claim : BitVec 16) (flags : BitVec 4) (run : Nat) : State :=
  if s.clasp.wires && nbit flags.toNat 0 && nbit flags.toNat 1 && decide (claim.toNat < s.clasp.claim) then (s.takeClaim claim flags run).logPartner 0x3082 1
  else s.takeClaim claim flags run

theorem onClaimFrame_of_good {s : State} {c : BitVec 16} {f k : BitVec 4} (h : claimGood s.pwr.pairId true c f k = true) {run : Nat}
    (hrun : run = if s.clasp.wires && nbit f.toNat 0 && !nbit f.toNat 1 then s.clasp.deafRun + 1 else 0) : onClaimFrame true c f k s =
      (if run = 2 && !s.clasp.deaf then ((s.noteClaim c f run).onClasp fun x => { x with deaf := true }).raise0 0x3003 [] else s.noteClaim c f run).reclaim := by
  subst hrun
  unfold onClaimFrame State.noteClaim State.takeClaim
  rw [if_pos h]
  cases s.clasp.agreedTo <;> rfl

/-- What a bad frame changes. -/
def State.badClaim (s : State) : State :=
  let run := s.clasp.badRun + 1
  s.onClasp fun c => { c with
    badRun := run, badClaims := c.badClaims + 1, hear := c.hear && decide (run < 2), deafRun := 0, hearSince := none
    partnerClaim := if 16 ≤ run then 0 else c.partnerClaim, partnerDrive := c.partnerDrive && decide (run < 16) }

theorem onClaimFrame_of_bad {s : State} {k : Bool} {c : BitVec 16} {f e : BitVec 4} (h : claimGood s.pwr.pairId k c f e = false) :
    onClaimFrame k c f e s = (if s.clasp.badRun + 1 = 16 then s.badClaim.logPartner 0x3083 1 else s.badClaim).reclaim := by
  unfold onClaimFrame
  rw [if_neg (by simp [h])]
  rfl

/-- The partner's own state and the log alone. -/
def ClaimOnly (s t : State) : Prop := t = { s with clasp := t.clasp, mgmt := t.mgmt }

theorem ClaimOnly.onClasp (s : State) (f : ClaspSt → ClaspSt) : ClaimOnly s (s.onClasp f) := rfl

/-- A log entry that may be written beside a change of the claim. -/
theorem claimOnly_logged {s t : State} (h : ClaimOnly s t) (c : Prop) [Decidable c] (code partner : Nat) :
    ClaimOnly s (if c then t.logPartner code partner else t) ∧ (if c then t.logPartner code partner else t).clasp = t.clasp := by
  split
  · refine ⟨?_, logPartner_clasp _ _ _⟩
    unfold ClaimOnly at *
    rw [(logPartner_mgmt t code partner).1, h]
  · exact ⟨h, rfl⟩

/-- A claim weighed after a change of the partner's leaves configuration, time and queues alone. -/
theorem ClaimOnly.reclaim {s u : State} (h : ClaimOnly s u) : PairFrame s u.reclaim ∧ QueuesKept s u.reclaim := by
  obtain ⟨c, m, rfl⟩ : ∃ c m, u = { s with clasp := c, mgmt := m } := ⟨_, _, h⟩
  have hmoves := reclaim_moves { s with clasp := c, mgmt := m }
  exact ⟨PairFrame.trans (t := { s with clasp := c, mgmt := m }) rfl hmoves.frame, hmoves.calm.queuesKept⟩

theorem noteClaim_claimOnly (s : State) (c : BitVec 16) (f : BitVec 4) (run : Nat) :
    ClaimOnly s (s.noteClaim c f run) ∧ (s.noteClaim c f run).clasp = (s.takeClaim c f run).clasp :=
  claimOnly_logged (.onClasp s _) _ _ _

/-- Settles O39: each row by what it says of the partner, and by what a reclaim makes of that. -/
theorem claimsWiresAndRole : Obligations.ClaimsWiresAndRole := by
  unfold Obligations.ClaimsWiresAndRole
  refine ⟨fun s c f k ha hgood hhear => ?heard, fun s k c f e ha hbad => ?bad, fun s c f k ha hgood hw hdrive hhear hrun hdeaf hoff => ?deaf,
    fun s ha => ?silence, fun s ha => ?change, fun s x ha hdeaf hsince hlong => ?recovered, fun s ha h => ?notDeaf, fun s x ha hsince hshort => ?tooEarly⟩
  case heard =>
    refine Does.of_alive rfl ha ?_
    rw [onClaimFrame_of_good hgood (run := 0) (by simp [hhear]), if_neg (by simp)]
    obtain ⟨honly, hclasp⟩ := noteClaim_claimOnly s c f 0
    have hkept := (reclaim_moves (s.noteClaim c f 0)).clasp
    have hsilent := (reclaim_weighed (s.noteClaim c f 0)).silentAt
    have htc : (s.noteClaim c f 0).tc = s.tc := (congrArg State.tc honly :)
    rw [hclasp] at hkept
    rw [hclasp, htc] at hsilent
    refine ⟨congrArg ClaspSt.partnerClaim hkept, congrArg ClaspSt.partnerDrive hkept, (congrArg ClaspSt.partnerHear hkept).trans hhear,
      congrArg ClaspSt.partnerSwap hkept, congrArg ClaspSt.hear hkept, congrArg ClaspSt.badRun hkept, congrArg ClaspSt.deafRun hkept,
      (congrArg ClaspSt.badClaims hkept :), (congrArg ClaspSt.hearSince hkept).trans (if_pos hhear), hsilent, honly.reclaim⟩
  case bad =>
    refine Does.of_alive rfl ha ?_
    rw [onClaimFrame_of_bad hbad]
    obtain ⟨honly, hclasp⟩ := claimOnly_logged (rfl : ClaimOnly s s.badClaim) (s.clasp.badRun + 1 = 16) 0x3083 1
    generalize (if s.clasp.badRun + 1 = 16 then s.badClaim.logPartner 0x3083 1 else s.badClaim) = u at *
    have hkept := (reclaim_moves u).clasp
    rw [hclasp] at hkept
    refine ⟨congrArg ClaspSt.badClaims hkept, congrArg ClaspSt.badRun hkept, congrArg ClaspSt.partnerClaim hkept, fun hrun => ?_,
      congrArg ClaspSt.hearSince hkept, fun hrun => ?_, honly.reclaim⟩
    · refine (congrArg ClaspSt.hear hkept).trans ?_
      simp [State.badClaim, State.onClasp, Nat.not_lt.2 hrun]
    · refine (congrArg ClaspSt.partnerDrive hkept).trans ?_
      simp [State.badClaim, State.onClasp, Nat.not_lt.2 hrun]
  case deaf =>
    refine Does.of_alive rfl ha ?_
    rw [onClaimFrame_of_good hgood (run := 2) (by simp [hw, hdrive, hhear, hrun]), if_pos (by simp [hdeaf])]
    obtain ⟨honly, hclasp⟩ := noteClaim_claimOnly s c f 2
    have htc : (s.noteClaim c f 2).tc = s.tc := (congrArg State.tc honly :)
    generalize s.noteClaim c f 2 = u at *
    have hu : ((u.onClasp fun x => { x with deaf := true }).raise0 0x3003 []).clasp = { (s.takeClaim c f 2).clasp with deaf := true } := by
      rw [raise0_clasp, onClasp_clasp, hclasp]
    have hutc : ((u.onClasp fun x => { x with deaf := true }).raise0 0x3003 []).tc = s.tc := by rw [raise0_tc, onClasp_tc, htc]
    have hend := reclaim_deaf (s := (u.onClasp fun x => { x with deaf := true }).raise0 0x3003 []) (by rw [hu]) (by rw [hu]; exact hoff) (by rw [hu]; exact hw)
    rw [hutc] at hend
    exact hend
  case silence =>
    refine Does.of_alive rfl ha ?_
    unfold onClaimSilence
    extract_lets s1
    obtain ⟨honly, hclasp⟩ := claimOnly_logged (.onClasp s _ : ClaimOnly s s1) (s.clasp.lane0 || s.clasp.lane1) 0x3083 1
    generalize (if s.clasp.lane0 || s.clasp.lane1 then s1.logPartner 0x3083 1 else s1) = u at *
    have hkept := (reclaim_moves u).clasp
    rw [hclasp] at hkept
    exact ⟨congrArg ClaspSt.partnerClaim hkept, congrArg ClaspSt.partnerDrive hkept, congrArg ClaspSt.hear hkept, congrArg ClaspSt.hearSince hkept,
      congrArg ClaspSt.agreedTo hkept, honly.reclaim⟩
  case change =>
    refine Does.of_alive rfl ha ?_
    rw [onClaimChange]
    have hmoves := reclaim_moves s
    obtain ⟨hfit, hwires, hsilent, hlost, hgained, hst⟩ := reclaim_weighed s
    refine ⟨hfit, fun n _ hn => ?_, hsilent, hlost, hgained, hst, (congrArg ClaspSt.partnerClaim hmoves.clasp :), (congrArg ClaspSt.mirror hmoves.clasp :),
      hmoves.frame, hmoves.calm.queuesKept⟩
    rw [hwires, State.wiresHeld, ← hn, onClasp_clasp, onClasp_pwr]
  case recovered =>
    refine Does.of_alive rfl ha ?_
    have hstep : onClaimDeafRecovery s = (s.onClasp fun c => { c with deaf := false, deafRun := 0 }).reclaim := by
      unfold onClaimDeafRecovery
      rw [hsince]
      exact if_pos (by simp [hdeaf, hlong])
    have hmoves := reclaim_moves (s.onClasp fun c => { c with deaf := false, deafRun := 0 })
    rw [hstep]
    exact ⟨congrArg ClaspSt.deaf hmoves.clasp, congrArg ClaspSt.deafRun hmoves.clasp, hmoves.of_onClasp⟩
  case notDeaf =>
    refine Does.of_alive rfl ha ?_
    unfold onClaimDeafRecovery
    rcases h with h | h
    · simp only [h, Bool.false_and]
      split <;> rfl
    · rw [h]
  case tooEarly =>
    refine Does.of_alive rfl ha ?_
    unfold onClaimDeafRecovery
    rw [hsince]
    exact if_neg (by simp [Nat.not_le.2 hshort])

end Sys2Proof.Machine
end

section

/-! ### Outputs and loops: what following makes of them (R209, R213, R214, R218) -/

namespace Sys2Proof.Machine

theorem pin_congr {s t : State} (h : t.out = s.out) (key : Nat) : t.pin key = s.pin key := congrArg (fun x : OutSt => x.pins.look (pinDefault key) key) h

theorem loop_congr {s t : State} (h : t.out = s.out) (l : Nat) : t.loop l = s.loop l := (LoopsKept.of_out h).loop l

theorem onPin_pin_self (s : State) (key : Nat) (f : OutPin → OutPin) : (s.onPin key f).pin key = f (s.pin key) := Tab.look_upd_self _ _ _ _

theorem onPin_pin_other (s : State) {key k : Nat} (f : OutPin → OutPin) (h : k ≠ key) : (s.onPin key f).pin k = s.pin k :=
  Tab.look_put_other _ _ _ h.symm

theorem onPin_loop (s : State) (key l : Nat) (f : OutPin → OutPin) : (s.onPin key f).loop l = s.loop l := rfl

theorem onLoop_loop_self (s : State) (l : Nat) (f : OutLoop → OutLoop) : (s.onLoop l f).loop l = f (s.loop l) := by rw [onLoop_loop, if_pos rfl]

theorem onLoop_loop_other (s : State) {l k : Nat} (f : OutLoop → OutLoop) (h : k ≠ l) : (s.onLoop l f).loop k = s.loop k := by
  rw [onLoop_loop, if_neg h.symm]

theorem setLoop_loop_self (s : State) (l : Nat) (st : LoopState) : (s.setLoop l st).loop l = { s.loop l with st := st } := by rw [setLoop_loop, if_pos rfl]

theorem setLoop_loop_other (s : State) {l k : Nat} (st : LoopState) (h : k ≠ l) : (s.setLoop l st).loop k = s.loop k := by
  rw [setLoop_loop, if_neg h.symm]

/-- An output after a change of what enables its driver. -/
def State.followed (s : State) (o : OutPin) : OutPin :=
  let gen := if timeBearing o.cfg then o.gen && !s.pinHeld o else !s.pinHeld o
  let st : AlignState :=
    if !timeBearing o.cfg || !o.on then .off
    else if !gen || !s.claimHolds then .squelched
    else if o.rem = 0 then .aligned else .slewing
  if gen then { o with gen := gen, st := st }
  else { o with gen := gen, st := st, rem := 0, cfg := (match o.next with | some (f, _) => { o.cfg with offset := f } | none => o.cfg), next := none }

theorem followPin_pin_self (s : State) (key : Nat) : (s.followPin key).pin key = s.followed (s.pin key) := by
  unfold State.followPin
  extract_lets o held tb gen st cfg o1 s1
  have h1 : s1.pin key = o1 := by
    unfold s1
    split
    · next h => exact h.symm
    · exact onPin_pin_self _ _ _
  split
  · exact h1
  · exact h1

theorem followPin_pin_other (s : State) {key k : Nat} (h : k ≠ key) : (s.followPin key).pin k = s.pin k := by
  unfold State.followPin
  extract_lets o held tb gen st cfg o1 s1
  have h1 : s1.pin k = s.pin k := by
    unfold s1
    split
    · rfl
    · exact onPin_pin_other _ _ h
  split
  · exact h1
  · exact h1

theorem followed_gen (s : State) (o : OutPin) : (s.followed o).gen = if timeBearing o.cfg then o.gen && !s.pinHeld o else !s.pinHeld o := by
  unfold State.followed
  extract_lets gen st
  split <;> rfl

theorem followed_sOut (s : State) (o : OutPin) : (s.followed o).sOut = o.sOut := by
  unfold State.followed
  extract_lets gen st
  split <;> rfl

/-- Where no OFFSET change waits, the configuration stays. -/
theorem followed_cfg {s : State} {o : OutPin} (h : o.next = none) : (s.followed o).cfg = o.cfg := by
  unfold State.followed
  extract_lets gen st
  split
  · rfl
  · rw [h]

theorem pinHeld_congr {s t : State} {o p : OutPin} (hloops : LoopsKept s t) (hsq : t.squelched = s.squelched) (hcfg : p.cfg = o.cfg) :
    t.pinHeld p = s.pinHeld o := by
  simp only [State.pinHeld, OutPin.on, hcfg, hsq, hloops.loop]

/-- Following reads the loops, the squelch and the claim alone. -/
theorem followed_congr {s t : State} (hloops : LoopsKept s t) (hsq : t.squelched = s.squelched) (hclaim : t.claimHolds = s.claimHolds) (o : OutPin) :
    t.followed o = s.followed o := by
  unfold State.followed
  rw [pinHeld_congr hloops hsq rfl, hclaim]

theorem on_of_free {s : State} {o : OutPin} (h : s.pinHeld o = false) : o.on = true := by
  simp only [State.pinHeld, Bool.or_eq_false_iff, Bool.not_eq_false'] at h
  exact h.1.1

/-- A running time-bearing output that nothing but the claim holds: its alignment state by the claim and by what is left to move (R218). -/
theorem followed_of_running {s : State} {o : OutPin} (htb : timeBearing o.cfg = true) (hgen : o.gen = true) (hfree : s.pinHeld o = false) :
    s.followed o = { o with st := if s.claimHolds = true then (if o.rem = 0 then .aligned else .slewing) else .squelched } := by
  have hon := on_of_free hfree
  cases hclaim : s.claimHolds <;> simp [State.followed, htb, hgen, hfree, hon, hclaim]

/-- The same where the claim holds: its driver is enabled. -/
theorem followed_of_driven {s : State} {o : OutPin} (htb : timeBearing o.cfg = true) (hgen : o.gen = true) (hfree : s.pinHeld o = false)
    (hclaim : s.claimHolds = true) : s.followed o = { o with st := if o.rem = 0 then .aligned else .slewing } := by
  rw [followed_of_running htb hgen hfree, if_pos hclaim]

/-! ### What output operations leave alone -/

/-- An operation on outputs: they move with the records due, and as stored settings, events and log entries. -/
structure OutputsOnly (s t : State) : Prop where
  calm : Calm s t
  rest : t = { s with out := t.out, hall := t.hall, mbx := t.mbx, mgmt := t.mgmt }

theorem OutputsOnly.refl (s : State) : OutputsOnly s s := ⟨.refl s, rfl⟩

theorem OutputsOnly.trans {s t u : State} (h : OutputsOnly s t) (k : OutputsOnly t u) : OutputsOnly s u := by
  refine ⟨h.calm.trans k.calm, ?_⟩
  rw [k.rest, h.rest]

theorem PinsOnly.outputs {s t : State} (h : PinsOnly s t) : OutputsOnly s t := by
  unfold PinsOnly at h
  refine ⟨(Calm.refl s).rest ?_ ?_ ?_, ?_⟩ <;> rw [h]

/-- Then nothing but outputs and records moves. -/
theorem PinsOnly.frame {s t : State} (h : PinsOnly s t) : t = { s with out := t.out, hall := t.hall } := by
  unfold PinsOnly at h
  rw [h]

theorem OutputsOnly.store {s t : State} (h : OutputsOnly s t) (k i : Nat) : OutputsOnly s (t.store k i) := h.trans ⟨(Calm.refl t).store k i, rfl⟩

theorem OutputsOnly.touch {s t : State} (h : OutputsOnly s t) (k i : Nat) : OutputsOnly s (t.touch k i) := h.trans ⟨(Calm.refl t).touch k i, rfl⟩

theorem OutputsOnly.hallWiden {s t : State} (h : OutputsOnly s t) (l : List Nat) : OutputsOnly s (t.hallWiden l) :=
  h.trans ⟨((Calm.refl t).onHall _).onHall _, rfl⟩

theorem OutputsOnly.pins {s t u : State} (h : OutputsOnly s t) (k : PinsOnly t u) : OutputsOnly s u := h.trans k.outputs

theorem onLoop_pinsOnly (s : State) (l : Nat) (f : OutLoop → OutLoop) : PinsOnly s (s.onLoop l f) := rfl

theorem setLoop_pinsOnly (s : State) (l : Nat) (st : LoopState) : PinsOnly s (s.setLoop l st) := by
  unfold State.setLoop
  split
  · exact .refl s
  · exact (onLoop_pinsOnly _ _ _).trans (followPins_pinsOnly _)

theorem startLoops_pinsOnly (s : State) : PinsOnly s s.startLoops := by
  refine foldl_pinsOnly (fun t l => ?_) _ _
  split
  · exact setLoop_pinsOnly _ _ _
  · exact .refl t

/-- A loop that enters a state: its outputs follow, and no other loop moves (R209). -/
theorem setLoop_effect (s : State) (l : Nat) (st : LoopState) : s.setLoop l st = { s with out := (s.setLoop l st).out, hall := (s.setLoop l st).hall } ∧
    (s.setLoop l st).loop l = { s.loop l with st := st } ∧ ∀ k, k ≠ l → (s.setLoop l st).loop k = s.loop k :=
  ⟨(setLoop_pinsOnly s l st).frame, setLoop_loop_self s l st, fun _ hk => setLoop_loop_other s st hk⟩

/-- Loops that start: a loop moves out of FREE_RUN alone, and by its state alone. -/
def LoopsStart (s t : State) : Prop := ∀ k, ∃ st, t.loop k = { s.loop k with st := st } ∧ ((s.loop k).st ≠ .freeRun → st = (s.loop k).st)

theorem LoopsStart.refl (s : State) : LoopsStart s s := fun _ => ⟨_, rfl, fun _ => rfl⟩

theorem LoopsStart.trans {s t u : State} (h : LoopsStart s t) (k : LoopsStart t u) : LoopsStart s u := by
  intro l
  obtain ⟨st, hst, hkeep⟩ := h l
  obtain ⟨st', hst', hkeep'⟩ := k l
  rw [hst] at hst' hkeep'
  exact ⟨st', hst', fun hne => (hkeep' (hkeep hne ▸ hne)).trans (hkeep hne)⟩

theorem startLoops_starts (s : State) : LoopsStart s s.startLoops := by
  refine foldl_relates .refl .trans (fun t l => ?_) _ s
  split
  · next h =>
    simp only [Bool.and_eq_true, decide_eq_true_eq] at h
    intro k
    by_cases hk : k = l
    · subst hk
      exact ⟨_, setLoop_loop_self _ _ _, fun hne => absurd h.1.2 hne⟩
    · exact ⟨_, setLoop_loop_other _ _ hk, fun _ => rfl⟩
  · exact .refl t

/-- An output that is set and followed: no loop and no other output moves. -/
theorem setPin_effect (s : State) (key : Nat) (f : OutPin → OutPin) :
    (s.onPin key f).followPin key = { s with out := ((s.onPin key f).followPin key).out, hall := ((s.onPin key f).followPin key).hall } ∧
      ((s.onPin key f).followPin key).out.loops = s.out.loops ∧ (∀ j, j ≠ key → ((s.onPin key f).followPin key).pin j = s.pin j) ∧
      ((s.onPin key f).followPin key).pin key = (s.onPin key f).followed (f (s.pin key)) := by
  refine ⟨((onPin_pinsOnly s key f).trans (followPin_pinsOnly _ _)).frame, followPin_loops _ _, fun j hj => ?_, ?_⟩
  · rw [followPin_pin_other _ hj, onPin_pin_other _ _ hj]
  · rw [followPin_pin_self, onPin_pin_self]

/-- A ready command on outputs completes with OK, and leaves loops and outputs as its effect does. -/
theorem runCommand_outputs {acc : State → State} {m : CmdMeta} {h : CmdHdr} {i : Instr} {b : CmdBody} {s u : State} {result : Rec} {P : State → Prop}
    (hr : ready m h s = true) (ha : b.argOk (s.fetchedFor m h) = true) (hc : (b.check (s.fetchedFor m h)).status = .ok)
    (ho : b.act (s.fetchedFor m h) = cmdOut u result) (hx : m.xbOut = false) (hu : OutputsOnly (s.fetchedFor m h) u) (hP : ∀ t, t.out = u.out → P t) :
    ∃ t, (Host.Outcome.next (runCommand acc m h i b s) : Host.Outcome State Fault Refusal) = .next t ∧
      Completes h s { s with out := t.out, hall := t.hall } t result [] ∧ P t := by
  have hpending := congrArg State.pending hu.rest
  refine runCommand_does u hr ha hc ho (fun hb => absurd hb (by simp [hx])) hu.calm hpending fun t hcompletes => ?_
  obtain ⟨-, -, -, -, hrest⟩ := id hcompletes
  refine ⟨hcompletes.of ?_, hP t (congrArg State.out hrest :)⟩
  rw [hrest, hu.rest]
  rfl

/-- The same for a command that sets a loop and makes no record due. -/
theorem runCommand_loop {acc : State → State} {m : CmdMeta} {h : CmdHdr} {i : Instr} {b : CmdBody} {s : State} {l : Nat} {f : OutLoop → OutLoop}
    (hr : ready m h s = true) (ha : b.argOk (s.fetchedFor m h) = true) (hc : (b.check (s.fetchedFor m h)).status = .ok)
    (ho : b.act (s.fetchedFor m h) = cmdOut (((s.fetchedFor m h).onLoop l f).store 0x14 l)) (hx : m.xbOut = false) :
    ∃ t, (Host.Outcome.next (runCommand acc m h i b s) : Host.Outcome State Fault Refusal) = .next t ∧
      Completes h s { s with out := t.out } t [] [] ∧ t.out.pins = s.out.pins ∧ t.loop l = f (s.loop l) ∧ ∀ k, k ≠ l → t.loop k = s.loop k := by
  refine runCommand_does _ hr ha hc ho (fun hb => absurd hb (by simp [hx])) (((Calm.refl _).onOut _).store _ _) rfl fun t hcompletes => ?_
  obtain ⟨-, -, -, -, hrest⟩ := id hcompletes
  have hout : t.out = (s.onLoop l f).out := (congrArg State.out hrest :)
  refine ⟨hcompletes.of ?_, (congrArg OutSt.pins hout :), ?_, fun k hk => ?_⟩
  · rw [hrest]
    rfl
  · rw [loop_congr hout, onLoop_loop_self]
  · rw [loop_congr hout, onLoop_loop_other _ _ hk]

/-- The same for a command that sets an output, which its enables follow. -/
theorem runCommand_pin {acc : State → State} {m : CmdMeta} {h : CmdHdr} {i : Instr} {b : CmdBody} {s : State} {key : Nat} {f : OutPin → OutPin} {result : Rec}
    (hr : ready m h s = true) (ha : b.argOk (s.fetchedFor m h) = true) (hc : (b.check (s.fetchedFor m h)).status = .ok)
    (ho : b.act (s.fetchedFor m h) = cmdOut ((((s.fetchedFor m h).onPin key f).followPin key).store 0x14 (256 + key)) result) (hx : m.xbOut = false) :
    ∃ t, (Host.Outcome.next (runCommand acc m h i b s) : Host.Outcome State Fault Refusal) = .next t ∧
      Completes h s { s with out := t.out, hall := t.hall } t result [] ∧ t.out.loops = s.out.loops ∧
      t.pin key = (s.onPin key f).followed (f (s.pin key)) ∧ ∀ k, k ≠ key → t.pin k = s.pin k := by
  obtain ⟨-, hloops, hother, hself⟩ := setPin_effect (s.fetchedFor m h) key f
  have hfollowed : ((s.fetchedFor m h).onPin key f).followed (f (s.pin key)) = (s.onPin key f).followed (f (s.pin key)) := followed_congr rfl rfl rfl _
  refine runCommand_outputs hr ha hc ho hx ((PinsOnly.trans (onPin_pinsOnly _ _ _) (followPin_pinsOnly _ _)).outputs.store _ _) fun t ht => ?_
  have hout := ht.trans (store_out _ _ _)
  exact ⟨(congrArg OutSt.loops hout).trans hloops, ((pin_congr hout key).trans hself).trans hfollowed, fun k hk => (pin_congr hout k).trans (hother k hk)⟩

end Sys2Proof.Machine
end

section

/-! ### Loop and output events (R209, R214, R215, R218-R220, R223-R227) -/

namespace Sys2Proof.Machine

/-! ### A loop that goes LOST (R209, R539) -/

/-- A loop that was not LOST counts its entry; a cause other than the DCO's pin declares nothing to `sys.health`. -/
theorem loseLoop_of_running {s : State} {l cause : Nat} (hst : (s.loop l).st ≠ .lost) (hc : cause ≠ 1) : s.loseLoop l cause =
    ((s.onLoop l fun x => { x with cnt := x.cnt.upd 0 1 (· + 1) }).setLoop l .lost).raise0 0x1401 [fld 8 l, fld 8 cause] := by
  unfold State.loseLoop
  rw [if_neg hst, if_neg hc]

theorem loseLoop_effect {s : State} {l cause : Nat} (hst : (s.loop l).st ≠ .lost) (hc : cause ≠ 1) :
    s.loseLoop l cause = { s with out := (s.loseLoop l cause).out, hall := (s.loseLoop l cause).hall, mbx := (s.loseLoop l cause).mbx
                                  mgmt := (s.loseLoop l cause).mgmt } ∧
      (s.loseLoop l cause).loop l = { s.loop l with st := .lost, cnt := (s.loop l).cnt.upd 0 1 (· + 1) } ∧
      ∀ k, k ≠ l → (s.loseLoop l cause).loop k = s.loop k := by
  rw [loseLoop_of_running hst hc]
  obtain ⟨hrest, hself, hother⟩ := setLoop_effect (s.onLoop l fun x => { x with cnt := x.cnt.upd 0 1 (· + 1) }) l .lost
  generalize (s.onLoop l fun x => { x with cnt := x.cnt.upd 0 1 (· + 1) }).setLoop l .lost = u at *
  have hout : (u.raise0 0x1401 [fld 8 l, fld 8 cause]).out = u.out := raise0_out _ _ _
  refine ⟨?_, ?_, fun k hk => ?_⟩
  · rw [State.raise0, raise_rest, hrest]
    rfl
  · rw [loop_congr hout, hself, onLoop_loop_self]
  · rw [loop_congr hout, hother k hk, onLoop_loop_other _ _ hk]

/-! ### OFFSET changes (R219, R220) -/

/-- An OFFSET change takes effect. -/
def OutPin.offsetTo (o : OutPin) (f : Int) : OutPin := { o with cfg := { o.cfg with offset := f }, next := none, cover := none }

/-- The target of a running output moves: what is left of a slew and the move, or a jump. -/
theorem moveTarget_of_running {s : State} {key : Nat} {d : Rat} (hgen : (s.pin key).gen = true) (htb : timeBearing (s.pin key).cfg = true) (hd : d ≠ 0) :
    s.moveTarget key d = (s.onPin key fun p => { p with rem := if p.cfg.align = 0 then s.pinLeft p + d else 0, remAt := s.upNs }).followPin key := by
  unfold State.moveTarget
  rw [if_neg (by simp [hgen, htb, hd])]

theorem offsetEffect_of_due {s : State} {key : Nat} {f : Int} {due : Nat} (hn : (s.pin key).next = some (f, due)) (hc : (s.pin key).cover = some due)
    (hdue : due ≤ s.sec) : s.offsetEffect key = (s.onPin key fun p => p.offsetTo f).moveTarget key (s.offsetMove (s.pin key) f) := by
  unfold State.offsetEffect
  simp only [hn, hc, max_self]
  exact if_neg (Nat.not_lt.2 hdue)

theorem offsetEffect_of_early {s : State} {key : Nat} {f : Int} {due : Nat} (hn : (s.pin key).next = some (f, due)) (hdue : s.sec < due) :
    s.offsetEffect key = s := by
  unfold State.offsetEffect
  simp only [hn]
  cases (s.pin key).cover with
  | none => rfl
  | some c => exact if_pos (lt_max_of_lt_left hdue)

/-- A running output with its new target. -/
def State.retargeted (s : State) (o : OutPin) (f : Int) : OutPin :=
  { o.offsetTo f with rem := if o.cfg.align = 0 then s.pinLeft o + s.offsetMove o f else 0, remAt := s.upNs }

/-- A running output that nothing holds, once its OFFSET change has moved its target. -/
theorem offsetEffect_pin {s : State} {key : Nat} {f : Int} {due : Nat} (hn : (s.pin key).next = some (f, due)) (hc : (s.pin key).cover = some due)
    (hdue : due ≤ s.sec) (hgen : (s.pin key).gen = true) (htb : timeBearing (s.pin key).cfg = true) (hfree : s.pinHeld (s.pin key) = false)
    (hclaim : s.claimHolds = true) (hd : s.offsetMove (s.pin key) f ≠ 0) : (s.offsetEffect key).pin key =
      { s.retargeted (s.pin key) f with st := if (s.retargeted (s.pin key) f).rem = 0 then .aligned else .slewing } := by
  have hpin := onPin_pin_self s key fun p => p.offsetTo f
  rw [offsetEffect_of_due hn hc hdue, moveTarget_of_running (by rw [hpin]; exact hgen) (by rw [hpin]; exact htb) hd, followPin_pin_self,
    onPin_pin_self, hpin]
  exact followed_of_driven (o := s.retargeted (s.pin key) f) htb hgen hfree hclaim

theorem moveTarget_pin_other (s : State) {key k : Nat} (d : Rat) (h : k ≠ key) : (s.moveTarget key d).pin k = s.pin k := by
  unfold State.moveTarget
  extract_lets o
  split
  · rfl
  · rw [followPin_pin_other _ h, onPin_pin_other _ _ h]

theorem moveTarget_loops (s : State) (key : Nat) (d : Rat) : LoopsKept s (s.moveTarget key d) := by
  unfold State.moveTarget
  extract_lets o
  split
  · exact .refl s
  · exact .trans (t := s.onPin key _) rfl (followPin_loops _ _)

theorem offsetEffect_others {s : State} {key : Nat} {f : Int} {due : Nat} (hn : (s.pin key).next = some (f, due)) (hc : (s.pin key).cover = some due)
    (hdue : due ≤ s.sec) : LoopsKept s (s.offsetEffect key) ∧ ∀ k, k ≠ key → (s.offsetEffect key).pin k = s.pin k := by
  rw [offsetEffect_of_due hn hc hdue]
  refine ⟨.trans (t := s.onPin key fun p => p.offsetTo f) rfl (moveTarget_loops _ _ _), fun k hk => ?_⟩
  rw [moveTarget_pin_other _ _ hk, onPin_pin_other _ _ hk]

/-! ### Frames (R223-R226) -/

theorem length_lsbBits (n v : Nat) : (lsbBits n v).length = n := by simp [lsbBits]

/-- Bits with their parity have even parity. -/
theorem foldl_xor_parity (l : List Bool) : (l ++ [l.foldl xor false]).foldl xor false = false := by
  rw [List.foldl_append]
  exact Bool.xor_self _

/-- A bead frame: its length, its second, its bound, and its even parity. -/
theorem beadBits_fields (sec tag : Nat) (r : HallRec) (insert valid : Bool) :
    (beadBits sec tag r insert valid).length = 96 ∧ (beadBits sec tag r insert valid).take 40 = lsbBits 40 sec ∧
      ((beadBits sec tag r insert valid).drop 42).take 32 = lsbBits 32 r.bound ∧ (beadBits sec tag r insert valid).foldl xor false = false := by
  refine ⟨?_, ?_, ?_, ?_⟩
  · simp [beadBits, length_lsbBits]
  · simp only [beadBits, List.append_assoc]
    exact List.take_left' (length_lsbBits _ _)
  · simp only [beadBits, List.append_assoc]
    rw [← List.append_assoc (lsbBits 40 sec), List.drop_left' (by simp [length_lsbBits])]
    exact List.take_left' (length_lsbBits _ _)
  · exact foldl_xor_parity _

/-- The bead frame an output builds now. -/
def State.beadFrame (s : State) (o : OutPin) (key : Nat) : BeadFrame :=
  let t := s.frameSecond o
  let r := s.frameRecord o key
  let ins := (o.cfg.scale = 1 || o.cfg.scale = 3) && insertedAt s.tc.leap t
  let valid := r.bound != 0xFFFFFFFF && (o.cfg.scale = 0 || o.cfg.scale = 2 || !s.tc.leap.isEmpty)
  let bits := beadBits (s.scaleSec (scaleOfTag o.cfg.scale) t) o.cfg.scale r ins valid
  { bits := bits, line := beadLine (o.cfg.polarity = 1) bits }

theorem onBeadFrameBuild_of_running {s : State} {c : Nat} (hc : c < 4) (hmode : (s.pin (40 + c)).cfg.mode = 3) (hgen : (s.pin (40 + c)).gen = true) :
    onBeadFrameBuild c s = s.onPin (40 + c) fun p => { p with bead := some (s.beadFrame (s.pin (40 + c)) (40 + c)) } := by
  unfold onBeadFrameBuild
  extract_lets key o
  exact if_neg (by simp [o, key, hmode, hgen, hc])

theorem beadFrame_bits_of_tai {s : State} {o : OutPin} {key : Nat} (h : o.cfg.scale = 0) :
    (s.beadFrame o key).bits = beadBits (s.frameSecond o) 0 (s.frameRecord o key) false ((s.frameRecord o key).bound != 0xFFFFFFFF) := by
  simp [State.beadFrame, h, scaleOfTag, State.scaleSec]

/-- The IRIG frame an output builds now, before its pulses. -/
def State.irigFrame (s : State) (o : OutPin) (key : Nat) : IrigFrame :=
  let t := s.frameSecond o
  let sec := s.scaleSec (scaleOfTag o.cfg.scale) t
  let day := sec % 86400
  { format := o.cfg.irig
    ss := if (o.cfg.scale = 1 || o.cfg.scale = 3) && insertedAt s.tc.leap t then 60 else day % 60, mm := day / 60 % 60, hh := day / 3600
    day := sec / 86400 - daysToYear (yearOf sec) + 1, year := yearOf sec, sbs := day
    ext := o.cfg.ieee1344 = 1 && decide (o.cfg.irig ∈ [0, 1, 4, 5])
    quality := if (o.cfg.scale = 1 || o.cfg.scale = 3) && s.tc.leap.isEmpty then 15 else qualityOf (s.frameRecord o key).bound
    leap := (leap61At s.tc.leap t || leap59At s.tc.leap t, leap59At s.tc.leap t)
    offset := (s.scaleSec (scaleOfTag o.cfg.scale) t : Int) - s.scaleSec .utc t }

theorem onIrigFrameBuild_of_running {s : State} {c : Nat} (hc : c < 4) (hmode : (s.pin (40 + c)).cfg.mode = 4) (hgen : (s.pin (40 + c)).gen = true) :
    onIrigFrameBuild c s = s.onPin (40 + c) fun p => { p with irig := some { s.irigFrame (s.pin (40 + c)) (40 + c) with
      pulses := (s.irigFrame (s.pin (40 + c)) (40 + c)).widths, low := (s.pin (40 + c)).cfg.polarity = 1 } } := by
  unfold onIrigFrameBuild
  extract_lets key o
  exact if_neg (by simp [o, key, hmode, hgen, hc])

theorem irigFrame_of_tai {s : State} {o : OutPin} {key : Nat} (h : o.cfg.scale = 0) :
    (s.irigFrame o key).hh * 3600 + (s.irigFrame o key).mm * 60 + (s.irigFrame o key).ss = s.frameSecond o % 86400 ∧
      (s.irigFrame o key).sbs = s.frameSecond o % 86400 ∧ (s.irigFrame o key).quality = qualityOf (s.frameRecord o key).bound := by
  have hclock : ∀ t, t % 86400 / 3600 * 3600 + t % 86400 / 60 % 60 * 60 + t % 60 = t % 86400 := by omega
  simp [State.irigFrame, h, scaleOfTag, State.scaleSec, hclock]

/-! ### LOCKMON (R227) -/

theorem lockmonDuty_of_squelched {s : State} (h : s.tc.ts = .lost ∨ s.squelched = true) : s.lockmonDuty = 2 := by
  unfold State.lockmonDuty
  exact if_pos (by rcases h with h | h <;> simp [h])

theorem lockmonDuty_of_freeRun {s : State} (hts : s.tc.ts = .freeRun) (hsq : s.squelched = false)
    (hl : ∀ l, l < 8 → (s.loop l).en = true → (s.loop l).st ≠ .lost) : s.lockmonDuty = 4 := by
  unfold State.lockmonDuty
  extract_lets ls
  have hnone : (ls.any fun l => l.st = .lost) = false := by simpa [ls] using hl
  rw [if_neg (by simp [hts, hsq, hnone]), if_pos hts]

theorem lockmonDuty_locked {s : State} (h : s.lockmonDuty = 14) :
    s.tc.ts = .locked ∧ s.squelched = false ∧ ∀ l, l < 8 → (s.loop l).en = true → (s.loop l).st = .locked := by
  unfold State.lockmonDuty at h
  extract_lets ls at h
  split at h
  · exact absurd h (by decide)
  next hlost =>
  split at h
  · exact absurd h (by decide)
  next hfree =>
  split at h
  · exact absurd h (by decide)
  next hacquiring =>
  split at h
  · exact absurd h (by decide)
  next hholdover =>
  simp only [Bool.or_eq_true, not_or, decide_eq_true_eq, Bool.not_eq_true] at hlost hacquiring hholdover
  obtain ⟨⟨hts, hloops⟩, hsq⟩ := hlost
  obtain ⟨hacqTs, hacqLoops⟩ := hacquiring
  obtain ⟨hholdTs, hholdLoops⟩ := hholdover
  refine ⟨?_, hsq, fun l hl hen => ?_⟩
  · cases hs : s.tc.ts with
    | locked => rfl
    | lost => exact absurd hs hts
    | freeRun => exact absurd hs hfree
    | acquiring => exact absurd hs hacqTs
    | holdover => exact absurd hs hholdTs
  · have hmem : s.loop l ∈ ls := by simpa [ls, hen] using ⟨l, hl, rfl⟩
    have hnotLost := List.any_eq_false.1 hloops _ hmem
    have hstarted := List.any_eq_false.1 hacqLoops _ hmem
    have hdriven := List.any_eq_false.1 hholdLoops _ hmem
    cases hs : (s.loop l).st with
    | locked => rfl
    | lost => simp [hs] at hnotLost
    | freeRun => simp [hs] at hstarted
    | acquiring => simp [hs] at hstarted
    | holdover => simp [hs] at hdriven

/-- Settles O16: each loop row by the entry it makes, each output row by what following makes of the output, the frames by their fields. -/
theorem outputEvents : Obligations.OutputEvents := by
  unfold Obligations.OutputEvents
  refine ⟨fun s l ha hst => ?locked, fun s l ha hst => ?notAcquiring, fun s l ha hst => ?phaseError, fun s l ha hst => ?timeout, fun s l ha hst => ?holds,
    fun s l ha hst hgood htdc => ?cleared, fun s l ha hfree hlost => ?tuning, fun s l ha => ?rampEnd, fun s k i ha hok htb hgen hfree => ?release,
    fun s k i f due ha hn hdue => ?early, fun s k i f due ha hok hn hc hdue hgen htb hfree hclaim hmove => ?effect,
    fun s k i ha hok hgen hrem htb hfree hclaim => ?aligned, fun s c ha hc hmode hscale hgen => ?bead, fun s c ha hc hmode hscale hgen => ?irig,
    fun s ha => ?lockmon⟩
  case locked =>
    refine Does.of_alive rfl ha ?_
    rw [onLoopLockAchieved, if_pos hst]
    exact setLoop_effect _ _ _
  case notAcquiring =>
    refine Does.of_alive rfl ha ?_
    rw [onLoopLockAchieved, if_neg hst]
  case phaseError =>
    refine Does.of_alive rfl ha ?_
    rw [onLoopPhaseError, if_pos hst]
    exact setLoop_effect _ _ _
  case timeout =>
    refine Does.of_alive rfl ha ?_
    rw [onLoopAcquireTimeout, if_pos hst]
    exact loseLoop_effect (by simp [hst]) (by decide)
  case holds =>
    refine Does.of_alive rfl ha ?_
    rw [onLoopHoldoverCause, if_pos (by simpa using hst)]
    exact setLoop_effect _ _ _
  case cleared =>
    refine Does.of_alive rfl ha ?_
    rw [onLoopCauseCleared, if_pos (by simp [hst, hgood, htdc])]
    exact setLoop_effect _ _ _
  case tuning =>
    refine Does.of_alive rfl ha ?_
    rw [onLoopTuningLimit, if_neg (by simp [hfree, hlost])]
    generalize hu : (s.onLoop l fun x => { x with cnt := x.cnt.upd 0 0 (· + Config.clampedWords (x.cnt.look 0 0)) }) = u
    have hclamped : u.loop l = { s.loop l with cnt := (s.loop l).cnt.upd 0 0 (· + Config.clampedWords ((s.loop l).cnt.look 0 0)) } := by
      rw [← hu, onLoop_loop_self]
    obtain ⟨hrest, hself, hother⟩ := loseLoop_effect (s := u) (l := l) (cause := 2) (by rw [hclamped]; exact hlost) (by decide)
    refine ⟨?_, ?_, ?_, ?_, fun k hk => ?_⟩
    · refine hrest.trans ?_
      rw [← hu]
      rfl
    · rw [hself, hclamped]
    · rw [hself, hclamped, Tab.look_upd_self, Tab.look_upd_other _ _ _ (by decide)]
    · rw [hself, hclamped, Tab.look_upd_other _ _ _ (by decide), Tab.look_upd_self]
    · rw [hother k hk, ← hu, onLoop_loop_other _ _ hk]
  case rampEnd => exact Does.of_alive rfl ha ⟨rfl, rfl, onLoop_loop_self _ _ _, fun _ hk => onLoop_loop_other _ _ hk⟩
  case release =>
    refine Does.of_alive rfl ha ?_
    have hstep : onOutputRelease k i s = (s.onPin (outKey k i) fun p => { p with gen := true, rem := 0 }).followPin (outKey k i) :=
      if_neg (by simp [hok, htb, hgen, hfree])
    obtain ⟨hrest, hloops, hother, hself⟩ := setPin_effect s (outKey k i) fun p => { p with gen := true, rem := 0 }
    rw [hstep]
    exact ⟨hrest, hloops, hother, hself.trans (followed_of_running (o := { s.pin (outKey k i) with gen := true, rem := 0 }) htb rfl hfree)⟩
  case early =>
    refine Does.of_alive rfl ha ?_
    rw [onOffsetChangeEffect, offsetEffect_of_early hn hdue, ite_self]
  case effect =>
    refine Does.of_alive rfl ha ?_
    rw [onOffsetChangeEffect, if_pos hok]
    have hself := offsetEffect_pin hn hc hdue hgen htb hfree hclaim hmove
    obtain ⟨hloops, hother⟩ := offsetEffect_others hn hc hdue
    refine ⟨(offsetEffect_pinsOnly s _).frame, hloops, hother, ?_⟩
    rw [hself]
    exact ⟨rfl, rfl, hgen, rfl, fun h => if_neg h, fun h => if_pos h⟩
  case aligned =>
    refine Does.of_alive rfl ha ?_
    have hstep : onOutputAligned k i s = (s.onPin (outKey k i) fun p => { p with rem := 0 }).followPin (outKey k i) := if_neg (by simp [hok, hgen, hrem])
    obtain ⟨hrest, hloops, hother, hself⟩ := setPin_effect s (outKey k i) fun p => { p with rem := 0 }
    rw [hstep]
    exact ⟨hrest, hloops, hself.trans (followed_of_driven (o := { s.pin (outKey k i) with rem := 0 }) htb hgen hfree hclaim), hother⟩
  case bead =>
    refine Does.of_alive rfl ha ?_
    rw [onBeadFrameBuild_of_running hc hmode hgen, onPin_pin_self]
    refine ⟨rfl, rfl, fun j hj => onPin_pin_other _ _ hj, rfl, ?_⟩
    obtain ⟨hlen, hsec, hbound, hparity⟩ := beadBits_fields (s.frameSecond (s.pin (40 + c))) 0 (s.frameRecord (s.pin (40 + c)) (40 + c)) false
      ((s.frameRecord (s.pin (40 + c)) (40 + c)).bound != 0xFFFFFFFF)
    rw [Option.map_some, beadFrame_bits_of_tai hscale, hlen, hsec, hbound, hparity]
  case irig =>
    refine Does.of_alive rfl ha ?_
    rw [onIrigFrameBuild_of_running hc hmode hgen, onPin_pin_self]
    obtain ⟨htime, hsbs, hquality⟩ := irigFrame_of_tai (s := s) (key := 40 + c) hscale
    refine ⟨rfl, rfl, fun j hj => onPin_pin_other _ _ hj, rfl, ?_⟩
    rw [Option.map_some, htime, hsbs, hquality]
    rfl
  case lockmon => exact Does.of_alive rfl ha ⟨rfl, lockmonDuty_of_squelched, lockmonDuty_of_freeRun, lockmonDuty_locked⟩

end Sys2Proof.Machine
end

section

/-! ### The out commands (R206-R221, R480, R539) -/

namespace Sys2Proof.Machine

section
variable {s : State} {h : CmdHdr} {a : OutputArgs}

/-! ### What each of them checks and does -/

theorem cmdOutSetLoop_argOk {l e fl bw : Nat} (hl : l < 8) (he : e ≤ 1) (hlo : 9600000000 * 65536 ≤ fl) (hhi : fl ≤ 11200000000 * 65536)
    (hbw : 10 ≤ bw) (hbw' : bw ≤ 2000) : (cmdOutSetLoop h l e fl bw).2.argOk s = true := by
  simp only [cmdOutSetLoop, hl, he, hlo, hhi, hbw, hbw', decide_true, Bool.and_self]

/-- A loop that keeps its frequency may be set whatever it carries (R208). -/
theorem cmdOutSetLoop_check {l e fl bw : Nat} (hfl : fl = (s.loop l).fl) : (cmdOutSetLoop h l e fl bw).2.check s = {} :=
  judge_of_no_conflict (by simp [hfl]) _

/-- A loop as it is set, before its state follows. -/
def State.loopSet (s : State) (l e fl bw : Nat) : State := s.onLoop l fun x => { x with en := e = 1, fl := fl, bw := bw }

theorem loopSet_pinsOnly (s : State) (l e fl bw : Nat) : PinsOnly s (s.loopSet l e fl bw) := onLoop_pinsOnly _ _ _

theorem cmdOutSetLoop_act_of_disabled {l fl bw : Nat} : (cmdOutSetLoop h l 0 fl bw).2.act s =
    cmdOut ((((s.loopSet l 0 fl bw).setLoop l .freeRun).followPins).store 0x14 l) := rfl

theorem cmdOutSetLoop_act_of_enabled {l fl bw : Nat} : (cmdOutSetLoop h l 1 fl bw).2.act s =
    cmdOut (((s.loopSet l 1 fl bw).startLoops.followPins).store 0x14 l) := rfl

theorem cmdOutSetOffset_argOk {l slope : Nat} {yo : Int} (hl : l < 8) (hyo : yo.natAbs ≤ 1000000000) (hslope : 1 ≤ slope) (hslope' : slope ≤ 1000000)
    (hstep : rabs ((yo : Rat) - s.loopOffset l) ≤ 200000000) (hdco : dcoOk (s.loop l).fl (yo : Rat) (s.loop l).ssc (s.loop l).depth = true) :
    (cmdOutSetOffset h l yo slope).2.argOk s = true := by
  simp only [cmdOutSetOffset, hl, hyo, hslope, hslope', hstep, hdco, decide_true, Bool.and_self]

/-- A loop that carries no time-bearing output, and no front-end reference, may be offset (R217). -/
theorem cmdOutSetOffset_check {l slope : Nat} {yo : Int} (hfree : yo = 0 ∨ s.loopCarries l = false) : (cmdOutSetOffset h l yo slope).2.check s = {} :=
  judge_of_no_conflict (by rcases hfree with hfree | hfree <;> simp [hfree]) _

theorem cmdOutSetSsc_argOk {l m d r : Nat} (hl : l < 8) (hm : m ≤ 2) (hd : d ≤ (if m = 1 then 50 else 25)) (hr : 30000 ≤ r) (hr' : r ≤ 33000)
    (hdco : dcoOk (s.loop l).fl (s.loopOffset l) m d = true) (hdco' : dcoOk (s.loop l).fl ((s.loop l).y1 : Rat) m d = true) :
    (cmdOutSetSsc h l m d r).2.argOk s = true := by
  simp only [cmdOutSetSsc, hl, hm, hd, hr, hr', hdco, hdco', decide_true, Bool.and_self, Bool.or_true]

theorem cmdOutSetSsc_argOk_of_off {l d r : Nat} (hl : l < 8) : (cmdOutSetSsc h l 0 d r).2.argOk s = true := by
  simp [cmdOutSetSsc, hl]

theorem cmdOutSetSsc_check {l m d r : Nat} (hfree : m = 0 ∨ s.loopCarries l = false) : (cmdOutSetSsc h l m d r).2.check s = {} :=
  judge_of_no_conflict (by rcases hfree with hfree | hfree <;> simp [hfree]) _

/-- An output may be set where no field differs that is frozen on an enabled output, and neither its loop nor another user of its pin stands against it
(R206, R211, R217). -/
theorem cmdOutSetOutput_check (hfrozen : ((s.pin (outKey a.kind a.index)).on && frozenFieldsDiffer (s.pin (outKey a.kind a.index)).cfg a) = false)
    (hstill : timeBearing a = false ∨ ((s.loop a.loop).ssc = 0 ∧ (s.loop a.loop).y1 = 0 ∧ s.loopOffset a.loop = 0))
    (hgbb : s.gbbCko (outKey a.kind a.index) = false) (hlae : s.laePin (outKey a.kind a.index) = false) : (cmdOutSetOutput h a).2.check s = {} := by
  have hmoves : (timeBearing a && s.loopMoves a.loop) = false := by
    rcases hstill with htb | ⟨hssc, hy1, hoffset⟩
    · rw [htb, Bool.false_and]
    · simp [State.loopMoves, hssc, hy1, hoffset]
  simp only [cmdOutSetOutput, hfrozen, hgbb, hlae, Bool.or_false, Bool.and_false, hmoves]
  rfl

theorem frozenFieldsDiffer_of_offset {o : OutputArgs} {f : Int} (h : o = { a with offset := f }) : frozenFieldsDiffer o a = false := by
  simp [frozenFieldsDiffer, h]

theorem cmdOutSetOutput_act_of_stopped (hgen : (s.pin (outKey a.kind a.index)).gen = false) : (cmdOutSetOutput h a).2.act s =
    cmdOut (((s.onPin (outKey a.kind a.index) fun p => { p with cfg := a }).followPin (outKey a.kind a.index)).store 0x14
      (256 + outKey a.kind a.index)) [fld 32 0] := by
  simp [cmdOutSetOutput, hgen]

/-- An output as it is set while it runs: a new OFFSET waits (R220). -/
def State.reoffset (s : State) (key : Nat) (a : OutputArgs) : State :=
  ((s.onPin key fun p => { p with cfg := { a with offset := p.cfg.offset } }).planOffset key a.offset).followPin key

theorem cmdOutSetOutput_act_of_running (hgen : (s.pin (outKey a.kind a.index)).gen = true) (htb : timeBearing (s.pin (outKey a.kind a.index)).cfg = true)
    (hen : a.enable = 1) (hoffset : (s.pin (outKey a.kind a.index)).cfg.offset ≠ a.offset) : (cmdOutSetOutput h a).2.act s =
    cmdOut ((s.reoffset (outKey a.kind a.index) a).store 0x14 (256 + outKey a.kind a.index)) [fld 32 (s.topAfter 2030000)] := by
  simp [cmdOutSetOutput, State.reoffset, hgen, htb, hen, hoffset]

theorem cmdOutSetSlew_argOk {k i r : Nat} (hok : outputOk k i = true) (hr : 1 ≤ r) (hr' : r ≤ 10000) : (cmdOutSetSlew h k i r).2.argOk s = true := by
  simp only [cmdOutSetSlew, hok, hr, hr', decide_true, Bool.and_self]

end

/-- What out.read_status writes: loop states and counters, alignment states and last errors (R480, R539). -/
def outStatusRec (s : State) : Rec :=
  ((List.range 8).flatMap fun l => [fld 8 (s.loop l).st.code, bit (s.loop l).en, bit (s.loop l).ramping, rsv 22, (32, (s.loop l).y1),
      fld 48 ((s.loop l).cnt.look 0 0), rsv 16, fld 48 ((s.loop l).cnt.look 0 1), rsv 16]) ++
    (outKeys.flatMap fun k => [fld 8 (s.pin k).st.code, bit (s.pin k).on, bit (s.pin k).gen, bit (s.pin k).trans, rsv 21,
      (32, match (s.pin k).err with | some e => roundHalf e | none => 0)])

theorem outStatusRec_bytes (s : State) : (outStatusRec s).bytes = 544 := by
  rw [outStatusRec, Rec.bytes, bits_append, bits_flatMap _ _ 192 fun _ _ => rfl, bits_flatMap _ _ 64 fun _ _ => rfl]
  rfl

/-! ### Loops as they are set (R208, R209) -/

/-- The loops of a command whose outputs follow are those before they do. -/
theorem loop_of_followed {u t : State} {c i : Nat} (h : t.out = (u.followPins.store c i).out) (l : Nat) : t.loop l = u.loop l :=
  (loop_congr (h.trans (store_out _ _ _)) l).trans ((followPins_loops u).loop l)

/-- A loop that is set: its settings, and its state while it is enabled. -/
theorem startLoops_loopSet {s : State} {l fl bw : Nat} (hl : l < 8) :
    (∃ st, (s.loopSet l 1 fl bw).startLoops.loop l = { s.loop l with en := true, fl := fl, bw := bw, st := st } ∧
      ((s.loop l).st = .freeRun → s.timeClockGood = true → st = .acquiring) ∧ ((s.loop l).st ≠ .freeRun → st = (s.loop l).st)) ∧
    ∀ k, k ≠ l → ∃ st, (s.loopSet l 1 fl bw).startLoops.loop k = { s.loop k with st := st } := by
  have hset : (s.loopSet l 1 fl bw).loop l = { s.loop l with en := true, fl := fl, bw := bw } := onLoop_loop_self _ _ _
  constructor
  · obtain ⟨st, hst, hkeep⟩ := startLoops_starts (s.loopSet l 1 fl bw) l
    rw [hset] at hst hkeep
    refine ⟨st, hst, fun hfree hgood => ?_, hkeep⟩
    have hstart := startLoops_loop (s := s.loopSet l 1 fl bw) hgood hl (by rw [hset]) (by rw [hset]; exact hfree)
    rw [hst] at hstart
    exact hstart
  · intro k hk
    obtain ⟨st, hst, -⟩ := startLoops_starts (s.loopSet l 1 fl bw) k
    exact ⟨st, hst.trans (congrArg (fun x => { x with st := st }) (onLoop_loop_other s _ hk))⟩

/-! ### Outputs as they are set (R211, R219, R220) -/

theorem startTrans_kept (o : OutPin) (key : Nat) (d : Rat) :
    (o.startTrans key d).cfg = o.cfg ∧ (o.startTrans key d).gen = o.gen ∧ (o.startTrans key d).trans = true := by
  unfold OutPin.startTrans
  split
  · next htrans => exact ⟨rfl, rfl, htrans⟩
  · exact ⟨rfl, rfl, rfl⟩

/-- An OFFSET change that waits for its top of the second (R220). -/
theorem planOffset_pin (s : State) (key : Nat) (f : Int) : ((s.planOffset key f).pin key).cfg = (s.pin key).cfg ∧
    ((s.planOffset key f).pin key).gen = (s.pin key).gen ∧ ((s.planOffset key f).pin key).trans = true ∧
    ((s.planOffset key f).pin key).next = some (f, s.topAfter 2030000) := by
  unfold State.planOffset
  extract_lets o old d s1
  have hpin : (s1.hallWiden [pointOfKey key]).pin key = s1.pin key := rfl
  rw [hpin, onPin_pin_self]
  obtain ⟨hcfg, hgen, htrans⟩ := startTrans_kept { s.pin key with moves := if (s.pin key).trans then (s.pin key).moves - rabs old else (s.pin key).moves } key d
  exact ⟨hcfg, hgen, htrans, rfl⟩

theorem planOffset_pin_other (s : State) {key k : Nat} (f : Int) (h : k ≠ key) : (s.planOffset key f).pin k = s.pin k := onPin_pin_other _ _ h

theorem planOffset_loops (s : State) (key : Nat) (f : Int) : LoopsKept s (s.planOffset key f) := rfl

theorem planOffset_outputs (s : State) (key : Nat) (f : Int) : OutputsOnly s (s.planOffset key f) :=
  ((OutputsOnly.refl s).pins (onPin_pinsOnly _ _ _)).hallWiden _

/-- A running output whose new OFFSET waits for its top of the second runs on at the old one. -/
theorem reoffset_pin {s : State} {key : Nat} {a : OutputArgs} {f : Int} (hcfg : (s.pin key).cfg = { a with offset := f }) (htb : timeBearing a = true)
    (hgen : (s.pin key).gen = true) (hfree : s.pinHeld (s.pin key) = false) :
    ((s.reoffset key a).pin key).next = some (a.offset, s.topAfter 2030000) ∧ ((s.reoffset key a).pin key).cfg.offset = f ∧
      ((s.reoffset key a).pin key).gen = true ∧ ((s.reoffset key a).pin key).trans = true := by
  unfold State.reoffset
  generalize hu : s.onPin key (fun p => { p with cfg := { a with offset := p.cfg.offset } }) = u
  have hpin : u.pin key = s.pin key := by
    have hsame : { a with offset := (s.pin key).cfg.offset } = (s.pin key).cfg := by rw [hcfg]
    rw [← hu, onPin_pin_self]
    exact congrArg (fun c => { s.pin key with cfg := c }) hsame
  obtain ⟨hvcfg, hvgen, hvtrans, hvnext⟩ := planOffset_pin u key a.offset
  rw [hpin] at hvcfg hvgen
  have hvfree : (u.planOffset key a.offset).pinHeld ((u.planOffset key a.offset).pin key) = false := by
    rw [← hfree]
    refine pinHeld_congr ?_ ?_ hvcfg <;> rw [← hu] <;> rfl
  rw [followPin_pin_self, followed_of_running (by rw [hvcfg, hcfg]; exact htb) (hvgen.trans hgen) hvfree]
  refine ⟨hvnext.trans (by rw [← hu]; rfl), by rw [hvcfg, hcfg], hvgen.trans hgen, hvtrans⟩

theorem reoffset_outputs (s : State) (key : Nat) (a : OutputArgs) : OutputsOnly s (s.reoffset key a) :=
  ((onPin_pinsOnly _ _ _).outputs.trans (planOffset_outputs _ _ _)).pins (followPin_pinsOnly _ _)

theorem reoffset_loops (s : State) (key : Nat) (a : OutputArgs) : LoopsKept s (s.reoffset key a) := by
  have hset : LoopsKept s (s.onPin key fun p => { p with cfg := { a with offset := p.cfg.offset } }) := rfl
  exact hset.trans ((planOffset_loops _ _ _).trans (followPin_loops _ _))

theorem reoffset_pin_other (s : State) {key k : Nat} (a : OutputArgs) (h : k ≠ key) : (s.reoffset key a).pin k = s.pin k := by
  rw [State.reoffset, followPin_pin_other _ h, planOffset_pin_other _ _ h, onPin_pin_other _ _ h]

/-- Settles O15: each setting by the loop or output it sets and what follows, the reading by its record. -/
theorem outputCommands : Obligations.OutputCommands := by
  unfold Obligations.OutputCommands
  refine ⟨fun h s l e fl bw hr hl he hfl hlo hhi hbw hbw' => ?setLoop, fun h s l hr hl hlost => ?resetLoop,
    fun h s l yo slope hr hl hyo hslope hslope' hstep hdco hfree => ?setOffset,
    fun h s l m d r hr hl hm hm' hd hrate hrate' hdco hdco' hfree => ?setSsc, fun h s l d r hr hl => ?sscOff,
    fun h s a hr hargs hon hgen hnext hstill hgbb hlae => ?setStopped,
    fun h s a f hr hargs hcfg hf hen htb hgen hfree hssc hy1 hoffset hgbb hlae => ?setRunning,
    fun h s k i r hr hok hrate hrate' => ?setSlew, fun h s hr hx => ?readStatus⟩
  case setLoop =>
    have hargs := cmdOutSetLoop_argOk (s := s.fetchedFor (cmdOutSetLoop h l e fl bw).1 h) (h := h) hl he hlo hhi hbw hbw'
    have hcheck := congrArg Judged.status (cmdOutSetLoop_check (s := s.fetchedFor (cmdOutSetLoop h l e fl bw).1 h) (h := h) (e := e) (bw := bw) hfl)
    obtain rfl | rfl : e = 0 ∨ e = 1 := by omega
    · refine runCommand_outputs hr hargs hcheck cmdOutSetLoop_act_of_disabled rfl
        ((((loopSet_pinsOnly _ _ _ _ _).trans (setLoop_pinsOnly _ _ _)).trans (followPins_pinsOnly _)).outputs.store _ _) fun t ht => ?_
      have hloop := loop_of_followed ht
      rw [hloop, setLoop_loop_self, State.loopSet, onLoop_loop_self]
      refine ⟨rfl, rfl, rfl, fun _ => rfl, nofun, nofun, fun k hk => ?_⟩
      rw [hloop, setLoop_loop_other _ _ hk, State.loopSet, onLoop_loop_other _ _ hk]
      exact ⟨rfl, rfl, rfl⟩
    · refine runCommand_outputs hr hargs hcheck cmdOutSetLoop_act_of_enabled rfl
        ((((loopSet_pinsOnly _ _ _ _ _).trans (startLoops_pinsOnly _)).trans (followPins_pinsOnly _)).outputs.store _ _) fun t ht => ?_
      have hloop := loop_of_followed ht
      obtain ⟨⟨st, hself, hstart, hkeep⟩, hother⟩ := startLoops_loopSet (s := s.fetchedFor (cmdOutSetLoop h l 1 fl bw).1 h) (fl := fl) (bw := bw) hl
      rw [hloop, hself]
      refine ⟨rfl, rfl, rfl, nofun, fun _ => hstart, fun _ => hkeep, fun k hk => ?_⟩
      obtain ⟨st', hst'⟩ := hother k hk
      rw [hloop, hst']
      exact ⟨rfl, rfl, rfl⟩
  case resetLoop =>
    refine runCommand_outputs hr (decide_eq_true hl) (congrArg Judged.status (judge_of_no_conflict (bne_eq_false_iff_eq.2 hlost) .state)) rfl rfl
      ((setLoop_pinsOnly _ _ _).outputs.touch _ _) fun t ht => ?_
    refine ⟨(loop_congr ht l).trans (setLoop_loop_self _ _ _), fun k hk => (loop_congr ht k).trans (setLoop_loop_other _ _ hk)⟩
  case setOffset =>
    obtain ⟨t, ht, hdone, hpins, hself, hother⟩ := runCommand_loop (acc := State.accepted) (i := .outSetOffset h l yo slope) hr
      (cmdOutSetOffset_argOk hl hyo hslope hslope' hstep hdco) (congrArg Judged.status (cmdOutSetOffset_check (h := h) (slope := slope) hfree)) rfl rfl
    exact ⟨t, ht, hdone, hpins, hother, hself⟩
  case setSsc =>
    obtain ⟨t, ht, hdone, hpins, hself, hother⟩ := runCommand_loop (acc := State.accepted) (i := .outSetSsc h l m d r) hr
      (cmdOutSetSsc_argOk hl hm' hd hrate hrate' hdco hdco') (congrArg Judged.status (cmdOutSetSsc_check (h := h) (d := d) (r := r) (.inr hfree))) rfl rfl
    exact ⟨t, ht, hdone, hpins, hself, hother⟩
  case sscOff =>
    obtain ⟨t, ht, hdone, hpins, hself, hother⟩ := runCommand_loop (acc := State.accepted) (i := .outSetSsc h l 0 d r) hr
      (cmdOutSetSsc_argOk_of_off hl) (congrArg Judged.status (cmdOutSetSsc_check (h := h) (d := d) (r := r) (.inl rfl))) rfl rfl
    exact ⟨t, ht, hdone, hpins, congrArg OutLoop.ssc hself, hother⟩
  case setStopped =>
    have hcheck := cmdOutSetOutput_check (s := s.fetchedFor (cmdOutSetOutput h a).1 h) (h := h) ((congrArg (· && _) hon).trans (Bool.false_and _)) hstill hgbb hlae
    obtain ⟨t, ht, hdone, hloops, hself, hother⟩ := runCommand_pin (acc := State.accepted) (i := .outSetOutput h a) hr hargs (congrArg Judged.status hcheck)
      (cmdOutSetOutput_act_of_stopped hgen) rfl
    have htgen : (t.pin (outKey a.kind a.index)).gen = _ := (congrArg OutPin.gen hself).trans (followed_gen _ _)
    refine ⟨t, ht, hdone, hloops, (congrArg OutPin.cfg hself).trans (followed_cfg hnext), fun htb => ?_, fun htb => ?_, hother⟩
    · rw [htgen, if_pos htb, hgen, Bool.false_and]
    · refine (htgen.trans (if_neg (by simp [htb]))).trans ?_
      simp [State.pinHeld, OutPin.on, htb, onPin_loop]
  case setRunning =>
    have hcheck := cmdOutSetOutput_check (s := s.fetchedFor (cmdOutSetOutput h a).1 h) (h := h) (Bool.and_eq_false_imp.2 fun _ => frozenFieldsDiffer_of_offset hcfg)
      (.inr ⟨hssc, hy1, hoffset⟩) hgbb hlae
    have htb' : timeBearing (s.pin (outKey a.kind a.index)).cfg = true := by rw [hcfg]; exact htb
    have hf' : (s.pin (outKey a.kind a.index)).cfg.offset ≠ a.offset := by rw [hcfg]; exact hf
    have hpin := reoffset_pin (s := s.fetchedFor (cmdOutSetOutput h a).1 h) hcfg htb hgen hfree
    refine runCommand_outputs hr hargs (congrArg Judged.status hcheck) (cmdOutSetOutput_act_of_running hgen htb' hen hf') rfl
      ((reoffset_outputs _ _ _).store _ _) fun t ht => ?_
    have hout := ht.trans (store_out _ _ _)
    rw [pin_congr hout]
    obtain ⟨hpnext, hpoffset, hpgen, hptrans⟩ := hpin
    exact ⟨(congrArg OutSt.loops hout).trans (reoffset_loops _ _ _), hpnext, hpoffset, hpgen, hptrans,
      fun k hk => (pin_congr hout k).trans (reoffset_pin_other _ _ hk)⟩
  case setSlew =>
    obtain ⟨t, ht, hdone, hloops, hself, hother⟩ := runCommand_pin (acc := State.accepted) (i := .outSetSlew h k i r) (key := outKey k i)
      (f := fun p => { p with sOut := r, rem := s.pinLeft p, remAt := s.upNs }) hr (cmdOutSetSlew_argOk hok hrate hrate') rfl rfl rfl
    refine ⟨t, ht, hdone, (congrArg OutPin.sOut hself).trans (followed_sOut _ _), fun hnext => (congrArg OutPin.cfg hself).trans (followed_cfg hnext),
      fun hgen hfree htb hclaim => hself.trans ?_, hother, hloops⟩
    exact followed_of_driven (o := { s.pin (outKey k i) with sOut := r, rem := s.pinLeft (s.pin (outKey k i)), remAt := s.upNs }) htb hgen hfree hclaim
  case readStatus =>
    obtain ⟨t, ht, hdone⟩ := runCommand_reads (acc := State.accepted) (i := .outReadStatus h) (b := (cmdOutReadStatus h).2) (result := []) (xb := outStatusRec s)
      hr rfl rfl rfl fun _ => (outStatusRec_bytes s).trans_le hx
    refine ⟨t, ht, ?_, ?_⟩ <;> rw [hdone.1.lastXb]
    · exact hdone
    · rfl

end Sys2Proof.Machine
end

section

/-! ### Taps, slots and host streams of the Line-Angle Engine (R230, R242, R247, R254) -/

namespace Sys2Proof.Machine

section
variable {s t u : State} {n k : Nat}

theorem tap_congr (h : t.la = s.la) (k : Nat) : t.tap k = s.tap k := congrArg (fun x : LaSt => x.taps.look {} k) h

theorem slot_congr (h : t.la = s.la) (k : Nat) : t.slot k = s.slot k := congrArg (fun x : LaSt => x.slots.look {} k) h

theorem laStream_congr (h : t.la = s.la) (b k : Nat) : t.laStream b k = s.laStream b k := by rw [State.laStream, State.laStream, h]

theorem onTap_tap_self (s : State) (n : Nat) (f : LaTap → LaTap) : (s.onTap n f).tap n = f (s.tap n) := Tab.look_upd_self _ _ _ _

theorem onTap_tap_other (s : State) (f : LaTap → LaTap) (h : k ≠ n) : (s.onTap n f).tap k = s.tap k := Tab.look_upd_other _ _ _ h.symm

theorem onSlot_slot_self (s : State) (n : Nat) (f : LaSlot → LaSlot) : (s.onSlot n f).slot n = f (s.slot n) := Tab.look_upd_self _ _ _ _

theorem onSlot_slot_other (s : State) (f : LaSlot → LaSlot) (h : k ≠ n) : (s.onSlot n f).slot k = s.slot k := Tab.look_upd_other _ _ _ h.symm

/-- An update of a stream that keeps its bezel and its tap is what is read of it afterwards. -/
theorem onLaStreams_laStream (s : State) (b n : Nat) {f : LaStream → LaStream} (hf : ∀ x, (f x).bezel = x.bezel ∧ (f x).tap = x.tap) :
    (s.onLaStreams (fun y => y.bezel = b && y.tap = n) f).laStream b n = (s.laStream b n).map f := by
  refine find?_map_selected (fun x hx => ?_) _
  rw [(hf x).1, (hf x).2]
  exact hx

/-! ### One tap moves -/

/-- An operation on one tap: of the Line-Angle Engine that tap and the sample clocks move, and records may fall due. -/
structure TapChange (n : Nat) (s t : State) : Prop where
  rest : t = { s with la := { s.la with taps := t.la.taps, tapck := t.la.tapck }, hall := t.hall }
  other : ∀ k, k ≠ n → t.tap k = s.tap k

theorem TapChange.refl (n : Nat) (s : State) : TapChange n s s := ⟨rfl, fun _ _ => rfl⟩

theorem TapChange.trans (h : TapChange n s t) (k : TapChange n t u) : TapChange n s u := by
  refine ⟨?_, fun j hj => (k.other j hj).trans (h.other j hj)⟩
  rw [k.rest, h.rest]

theorem TapChange.frame (h : TapChange n s t) : t = { s with la := t.la, hall := t.hall } := by rw [h.rest]

theorem TapChange.slots (h : TapChange n s t) : t.la.slots = s.la.slots := by rw [h.rest]

theorem TapChange.slot (h : TapChange n s t) (k : Nat) : t.slot k = s.slot k := by rw [State.slot, State.slot, h.slots]

theorem TapChange.streams (h : TapChange n s t) : t.la.streams = s.la.streams := by rw [h.rest]

theorem onTap_change (s : State) (n : Nat) (f : LaTap → LaTap) : TapChange n s (s.onTap n f) := ⟨rfl, fun _ hk => onTap_tap_other _ _ hk⟩

/-- A tap that enters a state other than its own: its products wait for the record that falls due (R246). -/
theorem setTap_of_ne {st : TapState} (h : (s.tap n).st ≠ st) :
    s.setTap n st = (s.onTap n fun t => { t with st := st, await := true }).hallDue [laPoint n] := if_neg h

theorem setTap_change (s : State) (n : Nat) (st : TapState) : TapChange n s (s.setTap n st) := by
  by_cases h : (s.tap n).st = st
  · rw [State.setTap, if_pos h]
    exact .refl n s
  · rw [setTap_of_ne h]
    exact (onTap_change s n _).trans ⟨rfl, fun _ _ => rfl⟩

theorem setTap_tapck (s : State) (n : Nat) (st : TapState) : (s.setTap n st).la.tapck = s.la.tapck := by
  unfold State.setTap
  split <;> rfl

theorem setTap_tap_self (s : State) (n : Nat) (st : TapState) :
    (s.setTap n st).tap n = { s.tap n with st := st, await := (s.tap n).await || (s.tap n).st != st } := by
  by_cases h : (s.tap n).st = st
  · rw [State.setTap, if_pos h, ← h, bne_self_eq_false, Bool.or_false]
  · rw [setTap_of_ne h, bne_iff_ne.2 h, Bool.or_true]
    exact onTap_tap_self _ _ _

/-- TAPCK starts, or runs already (R232): no tap moves. -/
theorem startTapck_change (s : State) (ck n : Nat) : TapChange n s (s.startTapck ck) := by
  unfold State.startTapck
  split
  · exact .refl n s
  · exact ⟨rfl, fun _ _ => rfl⟩

theorem startTapck_tap (s : State) (ck k : Nat) : (s.startTapck ck).tap k = s.tap k := by
  unfold State.startTapck
  split <;> rfl

theorem startTapck_runs (s : State) (ck : Nat) : ((s.startTapck ck).la.tapck.any fun p => p.1 = ck) = true := by
  unfold State.startTapck
  split
  · next h => exact h
  · exact List.any_eq_true.2 ⟨_, Tab.mem_put_self _ _ _, decide_eq_true rfl⟩

/-- A tap takes its configuration; one that was OFF enters its first state (R242). -/
def State.tapOn (s : State) (n : Nat) (st : TapState) (f : LaTap → LaTap) : State :=
  if (s.tap n).st = .off then (s.onTap n f).setTap n st else s.onTap n f

theorem tapOn_change (s : State) (n : Nat) (st : TapState) (f : LaTap → LaTap) : TapChange n s (s.tapOn n st f) := by
  unfold State.tapOn
  split
  · exact (onTap_change s n f).trans (setTap_change _ _ _)
  · exact onTap_change s n f

theorem tapOn_tapck (s : State) (n : Nat) (st : TapState) (f : LaTap → LaTap) : (s.tapOn n st f).la.tapck = s.la.tapck := by
  unfold State.tapOn
  split
  · exact setTap_tapck _ _ _
  · rfl

theorem tapOn_tap_self (s : State) (n : Nat) (st : TapState) {f : LaTap → LaTap} (hf : (f (s.tap n)).st = (s.tap n).st) :
    ∃ w, (s.tapOn n st f).tap n = { f (s.tap n) with st := if (s.tap n).st = .off then st else (s.tap n).st, await := w } := by
  unfold State.tapOn
  split
  · exact ⟨_, by rw [setTap_tap_self, onTap_tap_self]⟩
  · exact ⟨(f (s.tap n)).await, by rw [onTap_tap_self, ← hf]⟩

/-- A tap without its configuration: its counters and grants stay (R242). -/
def LaTap.cleared (t : LaTap) : LaTap := { cnt := t.cnt, grants := t.grants, eseq := t.eseq, await := t.await }

/-- A deconfigured tap, the last of its TAPCK or not (R231, R242). -/
theorem tapOff_cases (s : State) (n : Nat) :
    ∃ ck : LaSt → Tab Nat, s.tapOff n = ((s.setTap n .off).onTap n .cleared).onLa fun x => { x with tapck := ck x } := by
  unfold State.tapOff
  extract_lets s1 ck
  split
  · split
    · exact ⟨LaSt.tapck, rfl⟩
    · exact ⟨_, rfl⟩
  · exact ⟨LaSt.tapck, rfl⟩

theorem tapOff_change (s : State) (n : Nat) : TapChange n s (s.tapOff n) := by
  obtain ⟨ck, hoff⟩ := tapOff_cases s n
  rw [hoff]
  exact ((setTap_change s n .off).trans (onTap_change _ n _)).trans ⟨rfl, fun _ _ => rfl⟩

theorem tapOff_tap_self (s : State) (n : Nat) : ∃ w, (s.tapOff n).tap n = { (s.tap n).cleared with await := w } := by
  obtain ⟨ck, hoff⟩ := tapOff_cases s n
  have hself : (s.tapOff n).tap n = ((s.setTap n .off).onTap n .cleared).tap n := by
    rw [hoff]
    rfl
  rw [hself, onTap_tap_self, setTap_tap_self]
  exact ⟨_, rfl⟩

end

end Sys2Proof.Machine
end

section

/-! ### The la commands (R230-R254, R480) -/

namespace Sys2Proof.Machine

/-! ### Completing a command on the Line-Angle Engine -/

/-- A change as it is noted: counted, and stored where it is a setting (R460, R476). -/
structure Noted (u o : State) : Prop where
  calm : Calm u o
  rest : o = { u with mbx := o.mbx, mgmt := o.mgmt }

theorem store_noted (u : State) (c i : Nat) : Noted u (u.store c i) := ⟨(Calm.refl u).store c i, rfl⟩

theorem touch_noted (u : State) (c i : Nat) : Noted u (u.touch c i) := ⟨(Calm.refl u).touch c i, rfl⟩

section
variable {acc : State → State} {m : CmdMeta} {h : CmdHdr} {i : Instr} {b : CmdBody} {s u o : State} {P : State → Prop}

/-- A ready command on the Line-Angle Engine completes with OK, and leaves the engine as its effect does. -/
theorem runCommand_lineAngleAndHall (hr : ready m h s = true) (ha : b.argOk (s.fetchedFor m h) = true) (hc : (b.check (s.fetchedFor m h)).status = .ok)
    (ho : b.act (s.fetchedFor m h) = cmdOut o) (hx : m.xbOut = false) (hn : Noted u o)
    (hu : u = { s.fetchedFor m h with la := u.la, hall := u.hall }) (hP : ∀ t, t.la = u.la → t.hall = u.hall → P t) :
    ∃ t, (Host.Outcome.next (runCommand acc m h i b s) : Host.Outcome State Fault Refusal) = .next t ∧
      Completes h s { s with la := t.la, hall := t.hall } t [] [] ∧ P t := by
  have hquiet : Calm (s.fetchedFor m h) u := (Calm.refl _).rest (by rw [hu]) (by rw [hu]) (by rw [hu])
  have hpending : o.pending = s.pending := by rw [hn.rest, hu]; rfl
  refine runCommand_does o hr ha hc ho (fun hb => absurd hb (by simp [hx])) (hquiet.trans hn.calm) hpending fun t hcompletes => ?_
  obtain ⟨-, -, -, -, hrest⟩ := id hcompletes
  have hla : t.la = u.la := (congrArg State.la hrest).trans (by rw [hn.rest])
  have hhall : t.hall = u.hall := (congrArg State.hall hrest).trans (by rw [hn.rest])
  refine ⟨hcompletes.of ?_, hP t hla hhall⟩
  rw [hrest, hn.rest, hu]
  rfl

/-- The same for a command that makes no record due. -/
theorem runCommand_lineAngle (hr : ready m h s = true) (ha : b.argOk (s.fetchedFor m h) = true) (hc : (b.check (s.fetchedFor m h)).status = .ok)
    (ho : b.act (s.fetchedFor m h) = cmdOut o) (hx : m.xbOut = false) (hn : Noted u o) (hu : u = { s.fetchedFor m h with la := u.la })
    (hP : ∀ t, t.la = u.la → P t) :
    ∃ t, (Host.Outcome.next (runCommand acc m h i b s) : Host.Outcome State Fault Refusal) = .next t ∧
      Completes h s { s with la := t.la } t [] [] ∧ P t := by
  have hhall : u.hall = s.hall := by rw [hu]; rfl
  obtain ⟨t, ht, hdone, hkept, hPt⟩ := runCommand_lineAngleAndHall (acc := acc) (i := i) (P := fun t => t.hall = s.hall ∧ P t) hr ha hc ho hx hn
    (hu.trans (by rw [hhall]; rfl)) fun t hla hdue => ⟨hdue.trans hhall, hP t hla⟩
  rw [hkept] at hdone
  exact ⟨t, ht, hdone, hPt⟩

/-- The same for a command on host streams. -/
theorem runCommand_laStreams (hr : ready m h s = true) (ha : b.argOk (s.fetchedFor m h) = true) (hc : (b.check (s.fetchedFor m h)).status = .ok)
    (ho : b.act (s.fetchedFor m h) = cmdOut u) (hx : m.xbOut = false)
    (hu : u = { s.fetchedFor m h with la := { s.la with streams := u.la.streams } }) (hP : ∀ t, t.la = u.la → P t) :
    ∃ t, (Host.Outcome.next (runCommand acc m h i b s) : Host.Outcome State Fault Refusal) = .next t ∧
      Completes h s { s with la := { s.la with streams := t.la.streams } } t [] [] ∧ P t := by
  have hstreams : u.la = { s.la with streams := u.la.streams } := by rw [hu]
  obtain ⟨t, ht, hdone, hla, hPt⟩ := runCommand_lineAngle (acc := acc) (i := i) (P := fun t => t.la = u.la ∧ P t) hr ha hc ho hx
    ⟨Calm.refl u, rfl⟩ (hu.trans (by rw [← hstreams])) fun t hla => ⟨hla, hP t hla⟩
  refine ⟨t, ht, ?_, hPt⟩
  rwa [hla, hstreams, ← hla] at hdone

end

/-! ### What each of them checks and does -/

section
variable {s : State} {h : CmdHdr}

theorem cmdLaSetTap_argOk_of_enabled {n d : Nat} {a : TapArgs} (hn : n < 8) (he : a.enable = 1) (ha : tapArgsOk a = true) (hd : d ≤ 1000000) :
    (cmdLaSetTap h n a d).2.argOk s = true := by
  simp [cmdLaSetTap, hn, he, ha, hd]

theorem cmdLaSetTap_argOk_of_disabled {n d : Nat} {a : TapArgs} (hn : n < 8) (he : a.enable = 0) : (cmdLaSetTap h n a d).2.argOk s = true := by
  simp [cmdLaSetTap, hn, he]

theorem cmdLaSetTap_act_of_enabled {n d : Nat} {a : TapArgs} (he : a.enable = 1) : (cmdLaSetTap h n a d).2.act s =
    cmdOut (((s.startTapck (n / 4)).tapOn n .warmup fun t => { t with cfg := a, dTap := d }).store 0x16 n) := by
  simp only [cmdLaSetTap, State.tapOn, startTapck_tap, he, if_neg Nat.one_ne_zero]

theorem cmdLaSetTap_act_of_disabled {n d : Nat} {a : TapArgs} (he : a.enable = 0) :
    (cmdLaSetTap h n a d).2.act s = cmdOut ((s.tapOff n).store 0x16 n) := if_pos he

/-- The ranges of an enabled virtual tap's own fields (R235). -/
structure VtapInRange (a : VtapArgs) : Prop where
  port : a.port < 256
  asdus : 1 ≤ a.noAsdu ∧ a.noAsdu ≤ 8
  synch : a.smpSynch < 4
  rate : 960 ≤ a.sps ∧ a.sps ≤ 15360
  value : a.valueOff + 4 ≤ a.dataLen
  quality : a.qualityOff + 4 ≤ a.dataLen
  delay : a.lPub ≤ 10000
  svid : 1 ≤ a.svid.length ∧ a.svid.length ≤ 129

theorem cmdLaSetVtap_argOk_of_enabled {a : VtapArgs} (hv : a.vtap < 8) (he : a.tap.enable = 1) (ha : tapArgsOk a.tap = true) (hr : VtapInRange a) :
    (cmdLaSetVtap h a).2.argOk s = true := by
  obtain ⟨hport, ⟨hone, height⟩, hsynch, ⟨hslow, hfast⟩, hvalue, hquality, hdelay, ⟨hshort, hlong⟩⟩ := hr
  simp only [cmdLaSetVtap, hv, he, ha, hport, hone, height, hsynch, hslow, hfast, hvalue, hquality, hdelay, hshort, hlong, le_refl, decide_true,
    Bool.and_self, Bool.or_true]

theorem cmdLaSetVtap_argOk_of_disabled {a : VtapArgs} (hv : a.vtap < 8) (he : a.tap.enable = 0) : (cmdLaSetVtap h a).2.argOk s = true := by
  simp [cmdLaSetVtap, hv, he]

/-- A virtual tap may be enabled on a port of BZ00 that no other use has (R235, R273). -/
theorem cmdLaSetVtap_check {a : VtapArgs} (hfree : a.tap.enable = 1 → s.portOwner a.port = 0 ∧ s.portUsed .vtap a.port = false) :
    (cmdLaSetVtap h a).2.check s = {} := by
  refine judge_of_no_conflict ?_ _
  by_cases he : a.tap.enable = 1
  · obtain ⟨howner, hunused⟩ := hfree he
    simp [howner, hunused]
  · simp [he]

/-- A virtual tap as it is configured: the sequence of its samples begins anew (R238). -/
def LaTap.virtual (t : LaTap) (a : VtapArgs) : LaTap := { t with cfg := a.tap, vcfg := some a, lastCnt := none, lastAt := none, accepted := [] }

theorem cmdLaSetVtap_act_of_enabled {a : VtapArgs} (he : a.tap.enable = 1) : (cmdLaSetVtap h a).2.act s =
    cmdOut ((s.tapOn (8 + a.vtap) .seek fun t => t.virtual a).store 0x16 (8 + a.vtap)) := by
  simp only [cmdLaSetVtap, State.tapOn, he, if_neg Nat.one_ne_zero]
  rfl

theorem cmdLaSetVtap_act_of_disabled {a : VtapArgs} (he : a.tap.enable = 0) :
    (cmdLaSetVtap h a).2.act s = cmdOut ((s.tapOff (8 + a.vtap)).store 0x16 (8 + a.vtap)) := if_pos he

theorem cmdLaGrantTap_argOk {n b g : Nat} (hn : n < 16) (hg : g ≤ 1) (hb : b < 64) (hp : (s.bezel b).present = true) :
    (cmdLaGrantTap h n b g).2.argOk s = true := by
  simp [cmdLaGrantTap, hn, hg, hb, hp]

/-- The tap with the bezel among those granted it (R230). -/
def LaTap.granted (t : LaTap) (b : Nat) : LaTap := { t with grants := if b ∈ t.grants then t.grants else t.grants ++ [b] }

theorem LaTap.mem_granted (t : LaTap) (b : Nat) : b ∈ (t.granted b).grants := by
  unfold LaTap.granted
  dsimp only
  split
  · next hb => exact hb
  · exact List.mem_append_right _ (List.mem_singleton_self b)

/-- The tap withdrawn from the bezel (R230). -/
def LaTap.withdrawn (t : LaTap) (b : Nat) : LaTap := { t with grants := t.grants.filter (· != b) }

theorem LaTap.not_mem_withdrawn (t : LaTap) (b : Nat) : b ∉ (t.withdrawn b).grants := by simp [LaTap.withdrawn]

/-- The bezel has no host stream on the tap. -/
def State.closeLaStream (s : State) (b n : Nat) : State :=
  s.onLa fun x => { x with streams := x.streams.filter fun y => !(y.bezel = b && y.tap = n) }

theorem closeLaStream_tap (s : State) (b n k : Nat) : (s.closeLaStream b n).tap k = s.tap k := rfl

theorem closeLaStream_laStream (s : State) (b n : Nat) : (s.closeLaStream b n).laStream b n = none := by
  refine List.find?_eq_none.2 fun x hx hselected => ?_
  have hkept := (List.mem_filter.1 hx).2
  rw [hselected] at hkept
  cases hkept

/-- A host stream more. -/
def State.openLaStream (s : State) (x : LaStream) : State := s.onLa fun y => { y with streams := y.streams ++ [x] }

theorem openLaStream_laStream {x : LaStream} (hnone : s.laStream x.bezel x.tap = none) : (s.openLaStream x).laStream x.bezel x.tap = some x := by
  have happ : (s.openLaStream x).laStream x.bezel x.tap =
      (s.laStream x.bezel x.tap).or ([x].find? fun y => y.bezel = x.bezel && y.tap = x.tap) := List.find?_append
  rw [happ, hnone]
  simp

theorem cmdLaGrantTap_act_of_grant (n b : Nat) : (cmdLaGrantTap h n b 1).2.act s = cmdOut ((s.onTap n fun t => t.granted b).store 0x16 n) := rfl

theorem cmdLaGrantTap_act_of_withdrawal (n b : Nat) : (cmdLaGrantTap h n b 0).2.act s =
    cmdOut (((s.onTap n fun t => t.withdrawn b).closeLaStream b n).store 0x16 n) := rfl

theorem cmdLaSetEvent_argOk {a : EventArgs} (hs : a.slot < 32) (ht : a.tap < 16) (ha : a.action ≤ 2) (hp : a.policy ≤ 1) (hok : targetOk a = true)
    (hw : a.action = 2 → 100 ≤ a.window ∧ a.window ≤ 1000000000) : (cmdLaSetEvent h a).2.argOk s = true := by
  have hwindow : (a.action != 2 || (decide (100 ≤ a.window) && decide (a.window ≤ 1000000000))) = true := by
    by_cases h2 : a.action = 2
    · obtain ⟨hlo, hhi⟩ := hw h2
      simp [hlo, hhi]
    · simp [h2]
  simp only [cmdLaSetEvent, hs, ht, ha, hp, hok, hwindow, decide_true, Bool.and_self]

/-- A slot may be set while no event of it is committed, for a target that is its own (R247, R249). -/
theorem cmdLaSetEvent_check {a : EventArgs} (hst : (s.slot a.slot).st ≠ .committed) (hfree : s.targetTaken a = false) :
    (cmdLaSetEvent h a).2.check s = {} := by
  simp only [cmdLaSetEvent, hst, hfree, decide_false]
  rfl

theorem cmdLaSetStream_argOk_of_open {n e v base : Nat} (hn : n < 16) (he : 4 ≤ e) (he' : e ≤ 16) (hv : v < 64)
    (hbase : s.dmaOk h.fn base (256 * 2 ^ e) = true) : (cmdLaSetStream h n e v base).2.argOk s = true := by
  simp [cmdLaSetStream, hn, he, he', hv, hbase]

theorem cmdLaSetStream_argOk_of_closed {n v base : Nat} (hn : n < 16) : (cmdLaSetStream h n 0 v base).2.argOk s = true := by
  simp [cmdLaSetStream, hn]

/-- What a command on a tap checks where its issuer may read the tap (R230). -/
theorem laReach_check {reads : Bool} {row n : Nat} {l : List (Bool × Status)} (hreach : s.laReach h.fn n = true) :
    judgeOwned (s.laReach h.fn n) reads row l = judge l := by rw [hreach, judgeOwned_own]

theorem cmdLaSetStream_act_of_open {n e v base : Nat} (he : e ≠ 0) : (cmdLaSetStream h n e v base).2.act s =
    cmdOut ((s.closeLaStream h.fn n).openLaStream { bezel := h.fn, tap := n, n := e, vector := v, base := base }) :=
  congrArg (cmdOut ·) (if_neg he)

theorem cmdLaSetStream_act_of_closed (n v base : Nat) : (cmdLaSetStream h n 0 v base).2.act s = cmdOut (s.closeLaStream h.fn n) := rfl

theorem cmdLaAckStream_argOk {n q : Nat} {x : LaStream} (hn : n < 16) (hx : s.laStream h.fn n = some x) (hq : x.returned q ≤ x.out.length) :
    (cmdLaAckStream h n q).2.argOk s = true := by
  simp [cmdLaAckStream, hx, hn, hq]

theorem cmdLaAckStream_check {n : Nat} {x : LaStream} (q : Nat) (hreach : s.laReach h.fn n = true) (hx : s.laStream h.fn n = some x) :
    (cmdLaAckStream h n q).2.check s = {} := (laReach_check hreach).trans (judge_of_no_conflict (by rw [hx]; rfl) _)

/-- The stream with the blocks an acknowledgement returns gone from it (R254). -/
def LaStream.acked (y : LaStream) (q : Nat) : LaStream := { y with out := y.out.drop (y.returned q) }

theorem cmdLaAckStream_act (n q : Nat) : (cmdLaAckStream h n q).2.act s =
    cmdOut (s.onLaStreams (fun y => y.bezel = h.fn && y.tap = n) fun y => y.acked q) := rfl

end

/-! ### What the reads write -/

/-- What la.read_status writes of a slot (R247, R252, R539). -/
def LaSlot.reading (x : LaSlot) : Rec :=
  [fld 2 (match x.st with | .free => 0 | .armed => 1 | .committed => 2), bit x.miss, bit x.cancel, rsv 28, (32, x.diff), fld 128 x.te] ++
    ((List.range 6).map fun i => fld 64 (x.cnt.look 0 i))

/-- What la.read_status writes (R242, R539). -/
def State.laReading (s : State) (n : Nat) : Rec :=
  [fld 8 (s.tap n).st.code, rsv 56] ++ ((List.range 16).map fun i => fld 64 ((s.tap n).cnt.look 0 i)) ++ laSlots.flatMap fun k => (s.slot k).reading

theorem laReading_bytes (s : State) (n : Nat) : (s.laReading n).bytes = 2440 := by
  have hslot : ∀ x : LaSlot, x.reading.bits = 576 := fun x => by simp [LaSlot.reading, Rec.bits, fld, bit, rsv, Function.comp_def]
  have htap : Rec.bits ([fld 8 (s.tap n).st.code, rsv 56] ++ (List.range 16).map fun i => fld 64 ((s.tap n).cnt.look 0 i)) = 1088 := by
    simp [Rec.bits, fld, rsv, Function.comp_def]
  rw [Rec.bytes, State.laReading, bits_append, htap, bits_flatMap _ _ 576 fun _ _ => hslot _, laSlots, List.length_range]

theorem cmdLaReadStatus_act (h : CmdHdr) (n : Nat) (s : State) :
    (cmdLaReadStatus h n).2.act s = cmdOut s [fld 8 (s.tap n).st.code] (s.laReading n) := by
  simp only [cmdLaReadStatus, State.laReading, List.append_assoc]
  rfl

/-- The newest records of a kind, as many as are asked for (R253). -/
theorem cmdLaReadEstimates_act (h : CmdHdr) (n k m : Nat) (s : State) :
    let l := (s.tap n).recs.filter fun x => x.phasor = decide (k = 1)
    (cmdLaReadEstimates h n k m).2.act s = cmdOut s [fld 32 (min m l.length)] ((l.drop (l.length - m)).flatMap (laRecordLayout n)) := by
  intro l
  have hlength : (l.drop (l.length - m)).length = min m l.length := by
    rw [List.length_drop]
    omega
  have hkind : (fun x : LaRecord => decide ((x.phasor = true) = (k = 1))) = fun x => decide (x.phasor = decide (k = 1)) := by
    funext x
    by_cases hk : k = 1 <;> simp [hk]
  rw [← hlength]
  simp only [cmdLaReadEstimates, hkind]
  rfl

/-- Settles O17: the settings of a tap by what configuring or deconfiguring it leaves, the slots and the streams by their one change, the readings by
their records. -/
theorem lineAngleCommands : Obligations.LineAngleCommands := by
  unfold Obligations.LineAngleCommands
  refine ⟨fun h s n a d hr hn he hok hd => ?setTap, fun h s n a d hr hn he => ?tapOff,
    fun h s a hr hv he hok hport hasdu hasdu' hsynch hsps hsps' hvalue hquality hpub hsvid hsvid' howner hunused => ?setVtap,
    fun h s n b hr hn hb hpresent => ?grant, fun h s n b hr hn hb hpresent => ?withdrawal,
    fun h s a hr hslot htap haction hpolicy hok hwindow hst hfree => ?setEvent, fun h s n hr hn => ?cancel,
    fun h s n e v b hr hn he he' hv hbase hreach => ?openStream, fun h s n q x hr hn hreach hx hq => ?ack,
    fun h s n k m hr hn hk hreach hlen => ?readEstimates, fun h s n hr hn hreach hlen => ?readStatus,
    fun h s n e v b hr hn he hreach => ?closeStream, fun h s a hr hv he => ?vtapOff⟩
  case setTap =>
    have hchange := (startTapck_change (s.fetchedFor (cmdLaSetTap h n a d).1 h) (n / 4) n).trans
      (tapOn_change _ n .warmup fun t => { t with cfg := a, dTap := d })
    refine runCommand_lineAngleAndHall hr (cmdLaSetTap_argOk_of_enabled hn he hok hd) rfl (cmdLaSetTap_act_of_enabled he) rfl (store_noted _ _ _)
      hchange.frame fun t hla _ => ?_
    obtain ⟨w, hself⟩ := tapOn_tap_self ((s.fetchedFor (cmdLaSetTap h n a d).1 h).startTapck (n / 4)) n .warmup
      (f := fun t => { t with cfg := a, dTap := d }) rfl
    rw [startTapck_tap] at hself
    have htap := (tap_congr hla n).trans hself
    refine ⟨?_, ?_, ?_, ?_, fun k hk => (tap_congr hla k).trans (hchange.other k hk), ?_, ?_⟩
    · rw [htap]
    · rw [htap]
    · rw [htap]
      rfl
    · rw [hla, tapOn_tapck]
      exact startTapck_runs _ _
    · rw [hla]
      exact hchange.slots
    · rw [hla]
      exact hchange.streams
  case tapOff =>
    have hchange := tapOff_change (s.fetchedFor (cmdLaSetTap h n a d).1 h) n
    refine runCommand_lineAngleAndHall hr (cmdLaSetTap_argOk_of_disabled hn he) rfl (cmdLaSetTap_act_of_disabled he) rfl (store_noted _ _ _)
      hchange.frame fun t hla _ => ?_
    obtain ⟨w, hself⟩ := tapOff_tap_self (s.fetchedFor (cmdLaSetTap h n a d).1 h) n
    rw [(tap_congr hla n).trans hself, hla]
    exact ⟨rfl, rfl, rfl, rfl, fun k hk => (tap_congr hla k).trans (hchange.other k hk), hchange.slots⟩
  case setVtap =>
    have hchange := tapOn_change (s.fetchedFor (cmdLaSetVtap h a).1 h) (8 + a.vtap) .seek fun t => t.virtual a
    refine runCommand_lineAngleAndHall hr
      (cmdLaSetVtap_argOk_of_enabled hv he hok ⟨hport, ⟨hasdu, hasdu'⟩, hsynch, ⟨hsps, hsps'⟩, hvalue, hquality, hpub, ⟨hsvid, hsvid'⟩⟩)
      (congrArg Judged.status (cmdLaSetVtap_check (h := h) fun _ => ⟨howner, hunused⟩)) (cmdLaSetVtap_act_of_enabled he) rfl (store_noted _ _ _)
      hchange.frame fun t hla _ => ?_
    obtain ⟨w, hself⟩ := tapOn_tap_self (s.fetchedFor (cmdLaSetVtap h a).1 h) (8 + a.vtap) .seek (f := fun t => t.virtual a) rfl
    rw [(tap_congr hla (8 + a.vtap)).trans hself]
    exact ⟨rfl, rfl, rfl, fun k hk => (tap_congr hla k).trans (hchange.other k hk)⟩
  case vtapOff =>
    have hchange := tapOff_change (s.fetchedFor (cmdLaSetVtap h a).1 h) (8 + a.vtap)
    refine runCommand_lineAngleAndHall hr (cmdLaSetVtap_argOk_of_disabled hv he)
      (congrArg Judged.status (cmdLaSetVtap_check (h := h) fun hon => absurd (he.symm.trans hon) (by decide))) (cmdLaSetVtap_act_of_disabled he) rfl
      (store_noted _ _ _) hchange.frame fun t hla _ => ?_
    obtain ⟨w, hself⟩ := tapOff_tap_self (s.fetchedFor (cmdLaSetVtap h a).1 h) (8 + a.vtap)
    rw [(tap_congr hla (8 + a.vtap)).trans hself]
    exact ⟨rfl, rfl, rfl, rfl, fun k hk => (tap_congr hla k).trans (hchange.other k hk)⟩
  case grant =>
    refine runCommand_lineAngle hr (cmdLaGrantTap_argOk hn le_rfl hb hpresent) rfl (cmdLaGrantTap_act_of_grant n b) rfl (store_noted _ _ _) rfl
      fun t hla => ?_
    rw [(tap_congr hla n).trans (onTap_tap_self _ _ _), hla]
    exact ⟨LaTap.mem_granted _ _, rfl, fun k hk => (tap_congr hla k).trans (onTap_tap_other _ _ hk), rfl⟩
  case withdrawal =>
    refine runCommand_lineAngle hr (cmdLaGrantTap_argOk hn (Nat.zero_le 1) hb hpresent) rfl (cmdLaGrantTap_act_of_withdrawal n b) rfl
      (store_noted _ _ _) rfl fun t hla => ?_
    rw [tap_congr hla, closeLaStream_tap, onTap_tap_self, laStream_congr hla]
    refine ⟨LaTap.not_mem_withdrawn _ _, closeLaStream_laStream _ _ _, fun k hk => ?_⟩
    rw [tap_congr hla, closeLaStream_tap]
    exact onTap_tap_other _ _ hk
  case setEvent =>
    refine runCommand_lineAngle hr (cmdLaSetEvent_argOk hslot htap haction hpolicy hok hwindow)
      (congrArg Judged.status (cmdLaSetEvent_check (h := h) hst hfree)) rfl rfl (store_noted _ _ _) rfl fun t hla => ?_
    rw [(slot_congr hla a.slot).trans (onSlot_slot_self _ _ _), hla]
    exact ⟨rfl, fun k hk => (slot_congr hla k).trans (onSlot_slot_other _ _ hk), rfl⟩
  case cancel =>
    refine runCommand_lineAngle hr (decide_eq_true hn) rfl rfl rfl (touch_noted _ _ _) rfl fun t hla => ?_
    rw [(slot_congr hla n).trans (onSlot_slot_self _ _ _), hla]
    exact ⟨rfl, fun k hk => (slot_congr hla k).trans (onSlot_slot_other _ _ hk), fun hst => if_pos hst, fun hst => if_neg hst⟩
  case openStream =>
    refine runCommand_laStreams hr (cmdLaSetStream_argOk_of_open hn he he' hv (fetchedFor_dmaOk _ _ _ _ _ _ hbase))
      (congrArg Judged.status (laReach_check hreach)) (cmdLaSetStream_act_of_open (by omega)) rfl rfl fun t hla => ?_
    exact (laStream_congr hla _ _).trans (openLaStream_laStream (closeLaStream_laStream _ _ _))
  case closeStream =>
    subst he
    exact runCommand_laStreams hr (cmdLaSetStream_argOk_of_closed hn) (congrArg Judged.status (laReach_check hreach)) (cmdLaSetStream_act_of_closed n v b) rfl
      rfl fun t hla => (laStream_congr hla _ _).trans (closeLaStream_laStream _ _ _)
  case ack =>
    refine runCommand_laStreams hr (cmdLaAckStream_argOk hn hx hq) (congrArg Judged.status (cmdLaAckStream_check q hreach hx))
      (cmdLaAckStream_act _ _) rfl rfl fun t hla => ?_
    rw [laStream_congr hla, onLaStreams_laStream _ _ _ (f := fun y => y.acked q) fun _ => ⟨rfl, rfl⟩]
    exact congrArg (Option.map _) hx
  case readEstimates =>
    exact runCommand_reads hr (by simp [cmdLaReadEstimates, hn, hk]) (congrArg Judged.status (laReach_check hreach)) (cmdLaReadEstimates_act _ _ _ _ _)
      fun _ => hlen
  case readStatus =>
    obtain ⟨t, ht, hdone⟩ := runCommand_reads (acc := State.accepted) (i := .laReadStatus h n) (b := (cmdLaReadStatus h n).2) hr (decide_eq_true hn)
      (congrArg Judged.status (laReach_check hreach)) (cmdLaReadStatus_act _ _ _) fun _ => (laReading_bytes s n).trans_le (by omega)
    refine ⟨t, ht, ?_, ?_⟩ <;> rw [hdone.1.lastXb]
    · exact hdone
    · rfl

end Sys2Proof.Machine
end

section

/-! ### The events of the Line-Angle Engine (R232-R254) -/

namespace Sys2Proof.Machine

/-! ### Samples of a physical tap (R233, R234, R254) -/

/-- Rounding leaves no interval between whole numbers. -/
theorem roundHalf_mem_Icc {q : Rat} {lo hi : Int} (hlo : (lo : Rat) ≤ q) (hhi : q ≤ hi) : lo ≤ roundHalf q ∧ roundHalf q ≤ hi := by
  have hfloor : ∀ {p : Rat} {a b : Int}, (a : Rat) ≤ p → p ≤ b → a ≤ (p + 1 / 2).floor ∧ (p + 1 / 2).floor ≤ b := by
    intro p a b ha hb
    refine ⟨Rat.le_floor_iff.2 (by linarith), Int.lt_add_one_iff.1 (Rat.floor_lt_iff.2 ?_)⟩
    push_cast
    linarith
  unfold roundHalf
  split
  · exact hfloor hlo hhi
  · obtain ⟨hneg, hneg'⟩ := hfloor (p := -q) (a := -hi) (b := -lo) (by push_cast; linarith) (by push_cast; linarith)
    omega

/-- The value of a sample by the density of ones it was decimated from (R233). -/
def sampleValue (d : Rat) : Int := roundHalf ((d - 1 / 2) * 1048576)

/-- A density that leaves the filter its rounding is not clipped (R234). -/
theorem sampleValue_unclipped {d : Rat} (hlo : 0 ≤ d) (hhi : d ≤ 99999 / 100000) : clampInt (sampleValue d) (-524288) 524287 = sampleValue d := by
  obtain ⟨hmin, hmax⟩ : -524288 ≤ sampleValue d ∧ sampleValue d ≤ 524287 :=
    roundHalf_mem_Icc (by push_cast; linarith) (by push_cast; linarith)
  rw [clampInt, max_eq_right hmin, min_eq_right hmax]

/-- The instant of the sample a tap gives now (R233). -/
def State.sampleInstant (s : State) (n : Nat) : Nat := ((s.tc.mtc.units : Int) - (244925 + (s.tap n).dTap : Nat) * 1048576).toNat

section
variable {s : State} {n : Nat}

theorem onTapFirstValidSample_of_due {c : Nat} (hn : n < 8) (hst : (s.tap n).st = .warmup) (hck : (s.la.tapck.find? fun p => p.1 = n / 4) = some (n / 4, c))
    (hdue : 13894 * 125 ≤ (s.tc.mtc.cyc - c) * 4) : onTapFirstValidSample n s = s.setTap n .seek := by
  simp [onTapFirstValidSample, hn, hst, hck, hdue]

theorem onTapSample_of_unclipped {d : Rat} (hn : n < 8) (hoff : (s.tap n).st ≠ .off) (hwarm : (s.tap n).st ≠ .warmup)
    (hd : clampInt (sampleValue d) (-524288) 524287 = sampleValue d) : onTapSample n d false s =
      (s.onTap n fun x => { x with lastValid := s.sampleInstant n }).pushWord n (s.sampleInstant n) (sampleWord (sampleValue d) true false false) := by
  have hvalue : roundHalf ((d - 1 / 2) * 1048576) = sampleValue d := rfl
  simp only [onTapSample, hn.not_ge, hoff, hwarm, decide_false, Bool.or_self, Bool.false_eq_true, if_false, hvalue, hd, bne_self_eq_false]
  rfl

theorem onTapSample_of_stuck {d : Rat} {v : Int} (hn : n < 8) (hoff : (s.tap n).st ≠ .off) (hwarm : (s.tap n).st ≠ .warmup)
    (hv : clampInt (sampleValue d) (-524288) 524287 = v) : onTapSample n d true s =
      ((s.countTap n 0).onTap n fun x => { x with lastBad := some (s.sampleInstant n) }).pushWord n (s.sampleInstant n)
        (sampleWord v false false (sampleValue d != v)) := by
  subst hv
  simp only [onTapSample, hn.not_ge, hoff, hwarm, decide_false, Bool.or_self, Bool.false_eq_true, if_false, if_true]
  rfl

theorem pushWord_tap (s : State) (n a w k : Nat) : (s.pushWord n a w).tap k = s.tap k := rfl

/-- A word enters the block being filled, which it does not complete (R254). -/
theorem pushWord_streams_of_room {x : LaStream} (hs : s.la.streams = [x]) (hx : x.tap = n) (hne : x.cur.words ≠ [])
    (hroom : x.cur.words.length < 55) (a w : Nat) :
    (s.pushWord n a w).la.streams = [{ x with cur := { x.cur with words := x.cur.words ++ [w] } }] := by
  have hopen : ¬ 56 ≤ (x.cur.words ++ [w]).length := by
    rw [List.length_append, List.length_singleton]
    omega
  simp only [State.pushWord, State.onLaStreams, onLa_la, hs, List.map_cons, List.map_nil, hx, decide_true, if_true, if_neg hopen, List.isEmpty_iff, hne,
    if_false]

end

/-! ### Sampled values (R235-R239) -/

/-- A frame of one sample in the form the virtual tap expects (R235, R239). -/
structure SvFits (f : SvFrame) (a : VtapArgs) (x : SvAsdu) : Prop where
  dest : f.dest = a.dest
  appid : f.appid = a.appid
  svid : f.svid = a.svid
  asdus : f.asdus = [x]
  count : a.noAsdu = 1
  len : x.len = a.dataLen

section
variable {s : State} {v : Nat} {f : SvFrame} {a : VtapArgs} {x : SvAsdu}

theorem onSvFrame_of_late (hv : v < 8) (ha : (s.tap (8 + v)).vcfg = some a) (hst : (s.tap (8 + v)).st ≠ .off) (hf : SvFits f a x)
    (hlate : svLate a f = true) : onSvFrame v f s =
      (s.countTap (8 + v) 2).onTap (8 + v) fun y => y.spoil (svInstant a f.rx x.cnt).toNat := by
  obtain ⟨hdest, happid, hsvid, hasdus, hcount, hlen⟩ := hf
  simp [onSvFrame, ha, hv, hst, hdest, happid, hsvid, hasdus, hcount, hlen, hlate]

/-- The tap once it has accepted the sample of an instant (R236, R238). -/
def LaTap.accept (t : LaTap) (cnt : Nat) (at_ : Int) : LaTap :=
  { t with lastCnt := some cnt, lastAt := some at_, accepted := (t.accepted.filter fun y => decide (at_ - 20 * (unitsPerMs : Int) ≤ y)) ++ [at_] }

theorem onSvFrame_of_accepted (hv : v < 8) (ha : (s.tap (8 + v)).vcfg = some a) (hst : (s.tap (8 + v)).st ≠ .off) (hf : SvFits f a x)
    (hlate : svLate a f = false) (hnew : svInstant a f.rx x.cnt ∉ (s.tap (8 + v)).accepted)
    (hnext : svContinues a.sps (s.tap (8 + v)).lastCnt [x.cnt] = true) (hsynch : f.synch = 2) (hmask : nbit a.smpSynch 1 = true) (hgood : x.good = true) :
    onSvFrame v f s = ((s.onTap (8 + v) fun y => y.accept x.cnt (svInstant a f.rx x.cnt)).onTap (8 + v) fun y => { y with
      lastValid := (svInstant a f.rx x.cnt).toNat }).pushWord (8 + v) (svInstant a f.rx x.cnt).toNat
        (sampleWord (Config.svSample x.value) true false false) := by
  obtain ⟨hdest, happid, hsvid, hasdus, hcount, hlen⟩ := hf
  simp [onSvFrame, ha, hv, hst, hdest, happid, hsvid, hasdus, hcount, hlen, hlate, hnew, hnext, hsynch, hmask, hgood, State.svSampleAt, LaTap.accept]

end

/-! ### Blocks and records to the host (R253, R254, R408) -/

/-- The host stream is the only one, on this tap, and nothing stands against its writes. -/
structure LoneStream (s : State) (n : Nat) (x : LaStream) : Prop where
  only : s.la.streams = [x]
  tap : x.tap = n
  stream : s.masterFrozen x.bezel 2 (256 + n) = false
  agent : s.masterFrozen x.bezel 3 (256 + n) = false
  reach : s.laReach x.bezel n = true
  base : s.dmaOk x.bezel x.base (256 * 2 ^ x.n) = true

section
variable {s : State} {n : Nat} {x : LaStream}

theorem onLaStreams_of_only (hx : LoneStream s n x) (f : LaStream → LaStream) :
    (s.onLaStreams (fun y => y.bezel = x.bezel && y.tap = n) f).la = { s.la with streams := [f x] } := by
  simp [State.onLaStreams, hx.only, hx.tap]

theorem onLaStreamWrite_of_block {b : LaBlock} {r : List LaBlock} (hx : LoneStream s n x) (hwait : x.wait = b :: r) (hrecs : x.recs = [])
    (hroom : x.out.length < 2 ^ x.n) : onLaStreamWrite n s =
      (s.onLaStreams (fun y => y.bezel = x.bezel && y.tap = n) fun y => { y with
        wait := r, out := y.out ++ [b], image := (laBlockLayout n b).toBytes }).announce x.bezel x.vector := by
  have hnone : s.writeRecords n = s := by simp [State.writeRecords, hx.only, hrecs]
  simp [onLaStreamWrite, hnone, hx.only, hx.tap, hwait, hroom.not_ge, hx.stream, hx.agent, hx.reach, hx.base]

theorem onLaStreamWrite_of_records (hx : LoneStream s n x) (hwait : x.wait = []) (hrecs : x.recs ≠ []) : onLaStreamWrite n s =
    (s.onLaStreams (fun y => y.bezel = x.bezel && y.tap = n) fun y => { y with
      recs := [], recImage := y.recImage ++ y.recs.flatMap fun r => (laRecordLayout n r).toBytes }).announce x.bezel x.vector := by
  simp [onLaStreamWrite, State.writeRecords, hx.only, hx.tap, hwait, hrecs, hx.stream, hx.agent, hx.reach, hx.base]

end

/-! ### Estimates and phasors (R240-R246, R252, R253) -/

section
variable {s t : State} {n : Nat} {x : LaFit}

/-- A record produced while the record of a new state is awaited is held back (R246). -/
theorem emitLa_of_awaited (hw : (s.tap n).await = true) (y : LaRecord) : s.emitLa n y =
    (s.onTap n fun t => { t with eseq := (t.eseq + 1) % 2 ^ 32 }).onTap n fun t => { t with held := t.held ++ [{ y with eseq := (s.tap n).eseq }] } :=
  if_pos hw

theorem emitLa_change_of_awaited (hw : (s.tap n).await = true) (y : LaRecord) : TapChange n s (s.emitLa n y) := by
  rw [emitLa_of_awaited hw]
  exact (onTap_change s n _).trans (onTap_change _ n _)

theorem emitLa_tap_of_awaited (hw : (s.tap n).await = true) (y : LaRecord) : (s.emitLa n y).tap n =
    { s.tap n with eseq := ((s.tap n).eseq + 1) % 2 ^ 32, held := (s.tap n).held ++ [{ y with eseq := (s.tap n).eseq }] } := by
  rw [emitLa_of_awaited hw, onTap_tap_self, onTap_tap_self]

theorem emitLa_of_free (hw : (s.tap n).await = false) (y : LaRecord) : s.emitLa n y =
    (s.onTap n fun t => { t with eseq := (t.eseq + 1) % 2 ^ 32 }).deliver n [{ y with eseq := (s.tap n).eseq }] :=
  if_neg (ne_true_of_eq_false hw)

theorem emitLa_rest_of_free (hw : (s.tap n).await = false) (y : LaRecord) : s.emitLa n y = { s with la := (s.emitLa n y).la } := by
  rw [emitLa_of_free hw]
  rfl

/-- A tap with the records it has delivered among those kept for la.read_estimates (R253). -/
def LaTap.delivered (t : LaTap) (l : List LaRecord) : LaTap := { t with recs := (t.recs ++ l).drop ((t.recs ++ l).length - laKeep) }

theorem LaTap.delivered_of_room {t : LaTap} (hroom : t.recs.length < laKeep) (y : LaRecord) : t.delivered [y] = { t with recs := t.recs ++ [y] } := by
  have hkept : (t.recs ++ [y]).length - laKeep = 0 := by
    rw [List.length_append, List.length_singleton]
    omega
  rw [LaTap.delivered, hkept, List.drop_zero]

/-- A record is delivered with the HSEQ of the record of the tap's point (R253). -/
theorem deliver_tap (s : State) (n : Nat) (y : LaRecord) :
    ∃ seq, ∀ k, (s.deliver n [y]).tap k = (s.onTap n fun t => t.delivered [{ y with hseq := seq }]).tap k := ⟨_, fun _ => rfl⟩

theorem emitLa_tap_of_free (hw : (s.tap n).await = false) (hroom : (s.tap n).recs.length < laKeep) (y : LaRecord) : ∃ seq, (s.emitLa n y).tap n =
    { s.tap n with eseq := ((s.tap n).eseq + 1) % 2 ^ 32, recs := (s.tap n).recs ++ [{ y with eseq := (s.tap n).eseq, hseq := seq }] } := by
  obtain ⟨seq, htap⟩ := deliver_tap (s.onTap n fun t => { t with eseq := (t.eseq + 1) % 2 ^ 32 }) n { y with eseq := (s.tap n).eseq }
  refine ⟨seq, ?_⟩
  rw [emitLa_of_free hw, htap n, onTap_tap_self, onTap_tap_self]
  exact LaTap.delivered_of_room (t := { s.tap n with eseq := ((s.tap n).eseq + 1) % 2 ^ 32 }) hroom _

theorem emitLa_tap_other_of_free {k : Nat} (hw : (s.tap n).await = false) (y : LaRecord) (hk : k ≠ n) : (s.emitLa n y).tap k = s.tap k := by
  obtain ⟨seq, htap⟩ := deliver_tap (s.onTap n fun t => { t with eseq := (t.eseq + 1) % 2 ^ 32 }) n { y with eseq := (s.tap n).eseq }
  rw [emitLa_of_free hw, htap k, onTap_tap_other _ _ hk, onTap_tap_other _ _ hk]

/-- No slot of a tap is committed while the record of a new state is awaited (R246). -/
theorem slotsAt_of_awaited (hw : (s.tap n).await = true) : s.slotsAt n = s := by
  unfold State.slotsAt
  dsimp only
  split
  · rfl
  · exact if_pos hw

/-- Where no fired event awaits its check, the checks leave everything but the slots as it is (R252). -/
theorem checkFired_foldl_of_none (n : Nat) (m : LaModel) (l : List Nat) (hl : ∀ k ∈ l, (s.slot k).fired = []) :
    ∃ slots, l.foldl (fun u k => u.checkFired n k m) s = s.onLa fun x => { x with slots := slots } := by
  induction l generalizing s with
  | nil => exact ⟨s.la.slots, rfl⟩
  | cons k r ih =>
    have hnone : s.checkFired n k m = s.onSlot k fun y => { y with fired := y.fired.filter fun x => x.tap != n } := by
      rw [State.checkFired, hl k List.mem_cons_self]
      rfl
    have hrest : ∀ j ∈ r, ((s.checkFired n k m).slot j).fired = [] := fun j hj => by
      have hj' := hl j (List.mem_cons_of_mem _ hj)
      rw [hnone]
      by_cases hjk : j = k
      · rw [hjk] at hj' ⊢
        rw [onSlot_slot_self]
        exact congrArg (List.filter _) hj'
      · rwa [onSlot_slot_other _ _ hjk]
    obtain ⟨slots, hfold⟩ := ih hrest
    refine ⟨slots, hfold.trans ?_⟩
    rw [hnone]
    rfl

/-- The tap in TRACK with a fit as its model (R242). -/
def State.locked (s : State) (n : Nat) (x : LaFit) : State := (s.setTap n .track).onTap n fun y => { y with
  model := some (fitModel x), jump := none, steadySince := if rabs x.r ≤ 1 / 10 then some x.instant else none }

theorem locked_change (s : State) (n : Nat) (x : LaFit) : TapChange n s (s.locked n x) := (setTap_change s n .track).trans (onTap_change _ n _)

theorem locked_tap_self (s : State) (n : Nat) (x : LaFit) : (s.locked n x).tap n = { s.tap n with
    st := .track, model := some (fitModel x), jump := none, steadySince := if rabs x.r ≤ 1 / 10 then some x.instant else none,
    await := (s.tap n).await || (s.tap n).st != .track } := by
  rw [State.locked, onTap_tap_self, setTap_tap_self]

/-- The tap in PREDICT with the model it has, a record due (R242, R246). -/
def State.predicting (s : State) (n : Nat) : State :=
  ((s.setTap n .predict).onTap n fun y => { y with jump := none, steadySince := none }).hallDue [laPoint n]

theorem predicting_change (s : State) (n : Nat) : TapChange n s (s.predicting n) :=
  ((setTap_change s n .predict).trans (onTap_change _ n _)).trans ⟨rfl, fun _ _ => rfl⟩

theorem predicting_tap_self (s : State) (n : Nat) : (s.predicting n).tap n =
    { s.tap n with st := .predict, jump := none, steadySince := none, await := (s.tap n).await || (s.tap n).st != .predict } := by
  refine (onTap_tap_self (s.setTap n .predict) n _).trans ?_
  rw [setTap_tap_self]

/-- A good fit in SEEK: the tap enters TRACK with the fit as its model, and fired events are checked against it (R242, R252). -/
theorem onLaEstimate_of_locked (hn : n < 16) (hst : (s.tap n).st = .seek) (hbad : (s.tap n).lastBad = none) (hmodel : (s.tap n).model = none)
    (htwo : x.two = true) (hlevel : ((s.tap n).cfg.aMin : Rat) ≤ x.level * 1000) (hf : rabs (x.f - ((s.tap n).nominal : Rat)) ≤ 5)
    (hres : x.residual * 1000 ≤ ((s.tap n).cfg.rTh : Rat)) : onLaEstimate n x s =
      (laSlots.foldl (fun u k => u.checkFired n k (fitModel x))
        ((s.locked n x).emitLa n ((s.locked n x).laRecord n (fitModel x) x.instant false false))).slotsAt n := by
  have hafter : ∀ full jumpy, (s.tap n).after full true true true true jumpy = .track := fun full jumpy => by simp [LaTap.after, hst]
  simp [onLaEstimate, hn.not_ge, hst, hbad, hmodel, htwo, hlevel, hf, hres, hafter, onTap_tap_self, State.locked]

/-- A fit without its full window in TRACK: the tap enters PREDICT and keeps its model (R242). -/
theorem onLaEstimate_of_lost {m : LaModel} (hn : n < 16) (hst : (s.tap n).st = .track) (hmodel : (s.tap n).model = some m) (hfull : x.full = false) :
    onLaEstimate n x s = ((s.predicting n).emitLa n ((s.predicting n).laRecord n m x.instant false true)).slotsAt n := by
  have hafter : ∀ two amp fOk res jumpy, (s.tap n).after false two amp fOk res jumpy = .predict := fun two amp fOk res jumpy => by simp [LaTap.after, hst]
  have hkept : ((s.predicting n).tap n).model = some m := by
    rw [predicting_tap_self]
    exact hmodel
  unfold State.predicting at hkept ⊢
  simp [onLaEstimate, hn.not_ge, hst, hmodel, hfull, hafter, hkept]
  rfl

theorem onPhasorReport_of_track (hn : n < 16) (hst : (s.tap n).st = .track) (hat : reportingAt (s.tap n).cfg.reportRate x.instant = true) :
    onPhasorReport n x s = s.emitLa n (s.laRecord n (fitModel x) x.instant true false) := by
  simp [onPhasorReport, hn.not_ge, hst, hat]

/-- A tap that goes back to SEEK (R242). -/
theorem tapSeek_effect (s : State) (n : Nat) :
    s.tapSeek n = { s with la := (s.tapSeek n).la, hall := (s.tapSeek n).hall } ∧ ((s.tapSeek n).tap n).st = .seek ∧ ((s.tapSeek n).tap n).model = none ∧
      ∀ k, k ≠ n → (s.tapSeek n).tap k = s.tap k := by
  have hchange : TapChange n s (s.tapSeek n) := (setTap_change s n .seek).trans (onTap_change _ n _)
  have hself := (onTap_tap_self (s.setTap n .seek) n fun t => { t with model := none, steadySince := none, jump := none })
  rw [setTap_tap_self] at hself
  exact ⟨hchange.frame, congrArg LaTap.st hself, congrArg LaTap.model hself, hchange.other⟩

end

/-! ### Events that fire (R247-R252) -/

/-- A slot whose event has fired: the event awaits its check, and the slot goes on, or is free where it fires once or was cancelled (R247, R248, R252). -/
def LaSlot.passed (y : LaSlot) (f : Rat) : LaSlot :=
  let z : LaSlot := { y with fired := y.fired ++ [{ te := y.te, bound := y.bound, tap := y.cfg.tap, angle := y.cfg.angle }] }
  if y.cancel then { z with st := .free, cancel := false } else z.advance y.te f

theorem LaSlot.passed_cnt (y : LaSlot) (f : Rat) : (y.passed f).cnt = y.cnt := by
  unfold LaSlot.passed LaSlot.advance
  dsimp only
  split
  · rfl
  · split <;> rfl

theorem LaSlot.passed_of_once {y : LaSlot} (hc : y.cancel = false) (hr : y.cfg.rept = 0) (f : Rat) : y.passed f =
    { y with st := .free, fired := y.fired ++ [{ te := y.te, bound := y.bound, tap := y.cfg.tap, angle := y.cfg.angle }] } := by
  simp [LaSlot.passed, LaSlot.advance, hc, hr]

theorem LaSlot.passed_of_cancelled {y : LaSlot} (hc : y.cancel = true) (f : Rat) : y.passed f =
    { y with st := .free, cancel := false, fired := y.fired ++ [{ te := y.te, bound := y.bound, tap := y.cfg.tap, angle := y.cfg.angle }] } := if_pos hc

section
variable {s : State} {n : Nat}

theorem onScheduledEventFire_of_committed (hn : n < 32) (hst : (s.slot n).st = .committed) :
    ∃ f, onScheduledEventFire n s = (s.fireAction n).onSlot n fun y => y.passed f := by
  unfold onScheduledEventFire
  dsimp only
  rw [if_neg (by simp [hn.not_ge, hst])]
  exact ⟨_, rfl⟩

/-- The pin of a slot at the start of a pulse (R249). -/
def State.pulsed (s : State) (n : Nat) : State := s.onPin (pulseKey (s.slot n).cfg.target) fun y => { y with pulse := some (s.slot n).te }

theorem fireAction_of_first (hact : (s.slot n).cfg.action = 0) (hpulse : (s.pin (pulseKey (s.slot n).cfg.target)).pulse = none) :
    s.fireAction n = s.pulsed n := by
  simp [State.fireAction, hact, hpulse, State.pulsed]

/-- A pulse after another: merged into it, dropped while it lasts, or a pulse of its own (R250). -/
theorem fireAction_of_later {t0 : Nat} (hact : (s.slot n).cfg.action = 0) (hpulse : (s.pin (pulseKey (s.slot n).cfg.target)).pulse = some t0) :
    s.fireAction n = if (((s.slot n).te : Int) - (t0 : Int)).natAbs < 838861 then s.countSlot n 2
      else if (s.slot n).te < t0 + (s.pin (pulseKey (s.slot n).cfg.target)).cfg.width * 1048576 then s.countSlot n 3 else s.pulsed n := by
  simp only [State.fireAction, hact, hpulse, if_true, State.pulsed]

theorem fireAction_of_window (hact : (s.slot n).cfg.action = 2) : s.fireAction n =
    s.onSlot n fun y => { y with window := some ((s.slot n).te + (s.slot n).cfg.window * 1048576, (s.slot n).cfg.target) } := by
  simp [State.fireAction, hact]

/-- A counted slot that passes keeps the count. -/
theorem countSlot_passed_cnt (s : State) (n k : Nat) (f : Rat) :
    ((((s.countSlot n k).onSlot n fun y => y.passed f).slot n).cnt.look 0 k) = (s.slot n).cnt.look 0 k + 1 := by
  rw [onSlot_slot_self, LaSlot.passed_cnt, State.countSlot, onSlot_slot_self, Tab.look_upd_self]

theorem onArmWindowClose_of_due {e c : Nat} (hw : (s.slot n).window = some (e, c)) (hdue : e ≤ s.tc.mtc.units) :
    onArmWindowClose n s = s.onSlot n fun x => { x with window := none } := by
  simp [onArmWindowClose, hw, hdue.not_gt]

end

/-- Settles O18: the samples by the tap and the block they enter, the estimates by the state they end in, an event by what its slot and its pin become. -/
theorem lineAngleEvents : Obligations.LineAngleEvents := by
  unfold Obligations.LineAngleEvents
  refine ⟨fun s n c ha hn hst hck hdue => ?firstValid, fun s n d x ha hn hoff hwarm hlo hhi hs hx hne hroom => ?sample,
    fun s n d ha hn hoff hwarm => ?stuck,
    fun s v f a x ha hv hcfg hst hdest happid hsvid hasdus hcount hlen hlate hnew hnext hsynch hmask hgood => ?accepted,
    fun s v f a x ha hv hcfg hst hdest happid hsvid hasdus hcount hlen hlate => ?late,
    fun s n x b r ha hs hx hwait hrecs hroom hf2 hf3 hreach hbase => ?block,
    fun s n x ha hn hst hbad hmodel htwo hlevel hf hres hfired => ?locked, fun s n x m ha hn hst hmodel hfull => ?lost,
    fun s n x ha hn hst hw hat hroom => ?phasor, fun s n ha hst hdue => ?timeout, fun s n ha hearly => ?early, fun s n ha hst hdue => ?limit,
    fun s n e c ha hw hdue => ?window, fun s n ha hn hst hact hrept hcancel hpulse => ?fires, fun s n ha hn hst hact hcancel => ?opens,
    fun s n x ha hs hx hwait hrecs hf2 hf3 hreach hbase => ?records, fun s n t0 ha hn hst hact hpulse => ?again⟩
  case firstValid =>
    refine .of_alive rfl ha ?_
    have hself := setTap_tap_self s n .seek
    rw [hst] at hself
    rw [onTapFirstValidSample_of_due hn hst hck hdue, hself]
    refine ⟨(setTap_change s n .seek).frame, ?_, (setTap_change s n .seek).other⟩
    exact congrArg (fun w => { s.tap n with st := TapState.seek, await := w }) (Bool.or_true _)
  case sample =>
    refine .of_alive rfl ha ?_
    rw [onTapSample_of_unclipped hn hoff hwarm (sampleValue_unclipped hlo hhi)]
    rw [pushWord_tap, onTap_tap_self]
    refine ⟨rfl, rfl, fun k hk => ?_, pushWord_streams_of_room hs hx hne hroom _ _⟩
    rw [pushWord_tap, onTap_tap_other _ _ hk]
  case stuck =>
    refine .of_alive rfl ha ?_
    have hstep := onTapSample_of_stuck (d := d) hn hoff hwarm rfl
    have hself : (onTapSample n d true s).tap n =
        { s.tap n with cnt := (s.tap n).cnt.upd 0 0 (· + 1), lastBad := some (s.sampleInstant n) } := by
      rw [hstep, pushWord_tap, onTap_tap_self, State.countTap, onTap_tap_self]
    rw [hself, hstep]
    refine ⟨rfl, Tab.look_upd_self _ _ _ _, rfl, rfl, fun k hk => ?_⟩
    rw [pushWord_tap, onTap_tap_other _ _ hk, State.countTap, onTap_tap_other _ _ hk]
  case accepted =>
    refine .of_alive rfl ha ?_
    rw [onSvFrame_of_accepted hv hcfg hst ⟨hdest, happid, hsvid, hasdus, hcount, hlen⟩ hlate hnew hnext hsynch hmask hgood]
    refine ⟨rfl, ?_, fun k hk => ?_⟩
    · rw [pushWord_tap, onTap_tap_self, onTap_tap_self]
      rfl
    · rw [pushWord_tap, onTap_tap_other _ _ hk, onTap_tap_other _ _ hk]
  case late =>
    refine .of_alive rfl ha ?_
    rw [onSvFrame_of_late hv hcfg hst ⟨hdest, happid, hsvid, hasdus, hcount, hlen⟩ hlate, onTap_tap_self, State.countTap, onTap_tap_self]
    refine ⟨rfl, rfl, Tab.look_upd_self _ _ _ _, fun k hk => ?_, rfl⟩
    rw [onTap_tap_other _ _ hk, onTap_tap_other _ _ hk]
  case block =>
    refine .of_alive rfl ha ?_
    have hlone : LoneStream s n x := ⟨hs, hx, hf2, hf3, hreach, hbase⟩
    rw [onLaStreamWrite_of_block hlone hwait hrecs hroom]
    exact ⟨rfl, onLaStreams_of_only hlone _⟩
  case records =>
    refine .of_alive rfl ha ?_
    have hlone : LoneStream s n x := ⟨hs, hx, hf2, hf3, hreach, hbase⟩
    rw [onLaStreamWrite_of_records hlone hwait hrecs]
    exact ⟨rfl, onLaStreams_of_only hlone _⟩
  case locked =>
    refine .of_alive rfl ha ?_
    have hawait : ((s.locked n x).tap n).await = true := by
      rw [locked_tap_self, hst]
      exact Bool.or_true _
    have hchange := (locked_change s n x).trans (emitLa_change_of_awaited hawait ((s.locked n x).laRecord n (fitModel x) x.instant false false))
    have hself := emitLa_tap_of_awaited hawait ((s.locked n x).laRecord n (fitModel x) x.instant false false)
    rw [onLaEstimate_of_locked hn hst hbad hmodel htwo hlevel hf hres]
    generalize (s.locked n x).emitLa n ((s.locked n x).laRecord n (fitModel x) x.instant false false) = v at hchange hself ⊢
    obtain ⟨slots, hfold⟩ := checkFired_foldl_of_none (s := v) n (fitModel x) laSlots fun k hk => by
      rw [hchange.slot]
      exact hfired k (List.mem_range.1 hk)
    have htap : ∀ k, (v.onLa fun y => { y with slots := slots }).tap k = v.tap k := fun _ => rfl
    rw [locked_tap_self] at hself hawait
    rw [hfold, slotsAt_of_awaited (by rw [htap, hself]; exact hawait), htap, hself]
    refine ⟨?_, rfl, rfl, hawait, rfl, by simp, fun k hk => (htap k).trans (hchange.other k hk)⟩
    rw [hchange.rest]
    rfl
  case lost =>
    refine .of_alive rfl ha ?_
    have hawait : ((s.predicting n).tap n).await = true := by
      rw [predicting_tap_self, hst]
      exact Bool.or_true _
    have hchange := (predicting_change s n).trans (emitLa_change_of_awaited hawait ((s.predicting n).laRecord n m x.instant false true))
    have hself := emitLa_tap_of_awaited hawait ((s.predicting n).laRecord n m x.instant false true)
    rw [predicting_tap_self] at hself hawait
    rw [onLaEstimate_of_lost hn hst hmodel hfull, slotsAt_of_awaited (by rw [hself]; exact hawait), hself]
    exact ⟨hchange.frame, rfl, hmodel, hchange.other⟩
  case phasor =>
    refine .of_alive rfl ha ?_
    obtain ⟨seq, hself⟩ := emitLa_tap_of_free hw hroom (s.laRecord n (fitModel x) x.instant true false)
    rw [onPhasorReport_of_track hn hst hat, hself]
    refine ⟨emitLa_rest_of_free hw _, rfl, by simp, ?_, fun k hk => emitLa_tap_other_of_free hw _ hk⟩
    rw [List.getLast?_concat]
    rfl
  case timeout =>
    refine .of_alive rfl ha ?_
    rw [onTransientTimeout, if_pos (by simp [hst, hdue])]
    exact tapSeek_effect s n
  case early =>
    refine .of_alive rfl ha ?_
    rw [onTransientTimeout, if_neg (by simp [hearly.not_ge])]
  case limit =>
    refine .of_alive rfl ha ?_
    rw [onPredictHoldLimit, if_pos (by simp [hst, hdue])]
    exact tapSeek_effect s n
  case window =>
    refine .of_alive rfl ha ?_
    rw [onArmWindowClose_of_due hw hdue]
    exact ⟨rfl, onSlot_slot_self _ _ _, rfl, fun k hk => onSlot_slot_other _ _ hk⟩
  case fires =>
    refine .of_alive rfl ha ?_
    obtain ⟨f, hstep⟩ := onScheduledEventFire_of_committed hn hst
    rw [hstep, fireAction_of_first hact hpulse, onSlot_slot_self]
    exact ⟨rfl, LaSlot.passed_of_once hcancel hrept f, fun k hk => onSlot_slot_other _ _ hk, onPin_pin_self _ _ _, rfl⟩
  case opens =>
    refine .of_alive rfl ha ?_
    obtain ⟨f, hstep⟩ := onScheduledEventFire_of_committed hn hst
    rw [hstep, fireAction_of_window hact, onSlot_slot_self, onSlot_slot_self]
    refine ⟨rfl, fun k hk => ?_, LaSlot.passed_of_cancelled
      (y := { s.slot n with window := some ((s.slot n).te + (s.slot n).cfg.window * 1048576, (s.slot n).cfg.target) }) hcancel f⟩
    rw [onSlot_slot_other _ _ hk, onSlot_slot_other _ _ hk]
  case again =>
    refine .of_alive rfl ha ?_
    obtain ⟨f, hstep⟩ := onScheduledEventFire_of_committed hn hst
    rw [hstep, fireAction_of_later hact hpulse]
    by_cases hnear : (((s.slot n).te : Int) - (t0 : Int)).natAbs < 838861
    · rw [if_pos hnear]
      exact ⟨rfl, fun _ _ => rfl, fun _ => ⟨rfl, countSlot_passed_cnt _ _ _ _⟩, fun hfar => absurd hnear hfar.not_gt,
        fun hfar => absurd hnear hfar.not_gt⟩
    · rw [if_neg hnear]
      by_cases hover : (s.slot n).te < t0 + (s.pin (pulseKey (s.slot n).cfg.target)).cfg.width * 1048576
      · rw [if_pos hover]
        exact ⟨rfl, fun _ _ => rfl, fun h => absurd h hnear, fun _ _ => ⟨rfl, countSlot_passed_cnt _ _ _ _⟩, fun _ hafter => absurd hover hafter.not_gt⟩
      · rw [if_neg hover]
        exact ⟨rfl, fun k hk => onPin_pin_other _ _ hk, fun h => absurd h hnear, fun _ h => absurd h hover, fun _ _ => onPin_pin_self _ _ _⟩

end Sys2Proof.Machine
end

section

/-! ### A failed port whose causes are recorded (R261, R530)

The fifth clause of `PortLinkAndCalibrationEvents` has the device out of RUN after the failure. The power state follows `sys.health` only when a cause
is new: where the causes of the port and of its quad stand already, nothing new is added and a device in RUN stays there. -/

namespace Sys2Proof.Machine

open Sys2Proof.Tests

/-- A port of a device in RUN is DOWN with its quad PLL in error, and the causes of both are in `sys.health`. -/
def portAndQuadRecorded : State :=
  { base with
    ports := { base.ports with ports := [(0, { st := .down })] }
    fault := { base.fault with causes := [0x0300, 0x0400], live := [(12, 1#32)] } }

/-- `sys.health` shows nothing new, so the power state follows nothing. -/
theorem onLinkFailedTimeout_of_recorded : (onLinkFailedTimeout 0 portAndQuadRecorded).pwr.st = .run := by decide

/-- Refutes O20: with both causes recorded, the port that fails after LINK_FAILED_TIMEOUT leaves the device in RUN. -/
theorem not_portLinkAndCalibrationEvents : ¬ Obligations.PortLinkAndCalibrationEvents := by
  unfold Obligations.PortLinkAndCalibrationEvents
  intro ⟨_, _, _, _, fails, _⟩
  obtain ⟨t, hexec, -, -, -, -, -, hstated⟩ := fails portAndQuadRecorded 0 (by decide) (by decide) (by decide)
  have hran : t = onLinkFailedTimeout 0 portAndQuadRecorded := (Host.Outcome.next.inj hexec).symm
  exact hstated (hran ▸ onLinkFailedTimeout_of_recorded)

end Sys2Proof.Machine
end

section

/-! ### Ports and rings: what their operations leave (R260, R261, R288-R294) -/

namespace Sys2Proof.Machine

/-! ### Places of a table that is searched -/

/-- What a table that is searched shows after a write, as `Tab.look_put` says it of one that is read. -/
theorem Tab.find?_put {α : Type} (t : Tab α) (i j : Nat) (a : α) :
    ((t.put i a).find? fun x => x.1 = j).map (·.2) = if i = j then some a else (t.find? fun x => x.1 = j).map (·.2) := by
  induction t with
  | nil => by_cases h : i = j <;> simp [Tab.put, h]
  | cons q r ih =>
    obtain ⟨k, b⟩ := q
    unfold Tab.put
    by_cases hk : k = i
    · subst hk
      by_cases h : k = j <;> simp [h]
    · by_cases hlt : i < k
      · rw [if_neg hk, if_pos hlt, List.find?_cons]
        by_cases h : i = j <;> simp [h]
      · by_cases hj : k = j
        · subst hj
          simp [hk, hlt, Ne.symm hk]
        · simpa [hk, hlt, hj] using ih

section
variable {s t u : State} {p : Nat}

theorem pring_congr (h : t.ports = u.ports) (k : Nat) : t.pring k = u.pring k := by rw [State.pring, h]; rfl

@[simp] theorem onPort_pring (s : State) (p k : Nat) (f : PortSt → PortSt) : (s.onPort p f).pring k = s.pring k := rfl
@[simp] theorem fetchedFor_port (m : CmdMeta) (h : CmdHdr) (s : State) (p : Nat) : (s.fetchedFor m h).port p = s.port p := rfl
@[simp] theorem announce_pring (s : State) (b v k : Nat) : (s.announce b v).pring k = s.pring k := rfl
@[simp] theorem store_port (s : State) (c i p : Nat) : (s.store c i).port p = s.port p := rfl
@[simp] theorem touch_pring (s : State) (c i k : Nat) : (s.touch c i).pring k = s.pring k := rfl

theorem onPring_pring (s : State) (k j : Nat) (f : PortRing → PortRing) :
    (s.onPring k f).pring j = if j = k then (s.pring k).map f else s.pring j := by
  unfold State.pring State.onPring
  simp only [onPorts_ports, List.find?_map, Option.map_map]
  by_cases h : j = k
  · subst h
    rw [if_pos rfl]
    have hkeep : ((fun x : Nat × PortRing => decide (x.1 = j)) ∘ fun q : Nat × PortRing => if q.1 = j then (q.1, f q.2) else q) =
        fun x => decide (x.1 = j) := by
      funext q
      by_cases hq : q.1 = j <;> simp [hq]
    rw [hkeep]
    cases hfind : s.ports.rings.find? fun x => decide (x.1 = j) with
    | none => rfl
    | some q =>
      have hq : q.1 = j := by simpa using List.find?_some hfind
      simp [hq]
  · rw [if_neg h]
    have hkeep : ((fun x : Nat × PortRing => decide (x.1 = j)) ∘ fun q : Nat × PortRing => if q.1 = k then (q.1, f q.2) else q) =
        fun x => decide (x.1 = j) := by
      funext q
      by_cases hq : q.1 = k <;> simp [hq]
    rw [hkeep]
    cases hfind : s.ports.rings.find? fun x => decide (x.1 = j) with
    | none => rfl
    | some q =>
      have hq : q.1 = j := by simpa using List.find?_some hfind
      have hk : q.1 ≠ k := fun e => h (hq.symm.trans e)
      simp [hk]

/-- A ring taken from the list is there no more, and the others stay. -/
theorem pring_of_filtered {k : Nat} (h : t.ports.rings = s.ports.rings.filter fun q => q.1 != k) (j : Nat) :
    t.pring j = if j = k then none else s.pring j := by
  unfold State.pring
  rw [h, List.find?_filter]
  by_cases hj : j = k
  · subst hj
    simp
  · have hkeep : (fun q : Nat × PortRing => decide ((q.1 != k) = true ∧ decide (q.1 = j) = true)) = fun q => decide (q.1 = j) := by
      funext q
      by_cases hq : q.1 = j
      · simp [hq, hj]
      · simp [hq]
    rw [hkeep, if_neg hj]

/-! ### One port -/

/-- Of the ports only this one changes, and the rings stay. -/
structure OnePort (p : Nat) (s t : State) : Prop where
  others : ∀ q, q ≠ p → t.port q = s.port q
  rest : t.ports = { s.ports with ports := t.ports.ports }

theorem OnePort.of_ports (h : t.ports = s.ports) : OnePort p s t := ⟨fun q _ => port_congr h q, by rw [h]⟩

theorem OnePort.trans (h : OnePort p s t) (k : OnePort p t u) : OnePort p s u := by
  refine ⟨fun q hq => (k.others q hq).trans (h.others q hq), ?_⟩
  rw [k.rest, h.rest]

theorem OnePort.onPort (h : OnePort p s t) (f : PortSt → PortSt) : OnePort p s (t.onPort p f) :=
  h.trans ⟨fun _ hq => onPort_port_other t f hq.symm, rfl⟩

theorem OnePort.rings (h : OnePort p s t) : t.ports.rings = s.ports.rings := (congrArg PortsSt.rings h.rest :)

/-- What a port becomes when it enters a state (R261, R332). -/
def PortSt.enter (st : PortState) (x : PortSt) : PortSt :=
  if x.st = st then { x with toUp := false }
  else
    let y := if x.st = .up then { x with launches := [], follow := [] } else x
    if st = .up || st = .upUntimed then { y with st := st, toUp := false }
    else { y with st := st, toUp := false, pause := none, holding := false, lpi := .active }

theorem PortSt.enter_st (st : PortState) (x : PortSt) : (x.enter st).st = st := by
  unfold PortSt.enter
  split
  · next h => exact h
  · dsimp only
    split <;> rfl

theorem launchMisses_ports (l : List TxFrame) (s : State) (p : Nat) : (l.foldl (fun (t : State) f => t.launchMiss p f) s).ports = s.ports :=
  foldl_relates (R := fun s t => t.ports = s.ports) (fun _ => rfl) (fun h k => k.trans h) 
    (fun t f => countPort_ports (t.dropFrame f) p 23) _ _

theorem setPort_port_self (s : State) (p : Nat) (st : PortState) : (s.setPort p st).port p = (s.port p).enter st := by
  unfold State.setPort
  extract_lets x s1 linked s2 s3 s4
  have h1 : s1.port p = if x.st = .up then { x with launches := [], follow := [] } else x := by
    unfold s1
    split
    · rw [onPort_port_self, port_congr (launchMisses_ports _ _ _)]
    · rfl
  have h3 : s3.port p = s2.port p := by
    unfold s3
    split
    · exact port_congr (countPort_ports _ _ _) p
    · rfl
  have h4 : s4.port p = s2.port p := (port_congr (raise_ports _ _ _ _ _) p).trans h3
  unfold PortSt.enter
  by_cases hst : x.st = st
  · rw [if_pos hst, if_pos hst, onPort_port_self]
  · rw [if_neg hst, if_neg hst]
    have hend : (if st = .up then s4 else s4.hallDue [p]).port p = s2.port p := by split <;> exact h4
    rw [hend, onPort_port_self, h1]

theorem setPort_onePort (s : State) (p : Nat) (st : PortState) : OnePort p s (s.setPort p st) := by
  unfold State.setPort
  extract_lets x s1 linked s2 s3 s4
  have h1 : OnePort p s s1 := by
    unfold s1
    split
    · exact (OnePort.of_ports (launchMisses_ports _ _ _)).onPort _
    · exact .of_ports rfl
  have h3 : OnePort p s s3 := by
    unfold s3
    split
    · exact (h1.onPort _).trans (.of_ports (countPort_ports _ _ _))
    · exact h1.onPort _
  have h4 : OnePort p s s4 := h3.trans (.of_ports (raise_ports _ _ _ _ _))
  split
  · exact (OnePort.of_ports rfl).onPort _
  · split
    · exact h4
    · exact h4.trans (.of_ports rfl)

theorem failPort_of_disabled (h : (s.port p).st = .disabled) : s.failPort p = s := by simp [State.failPort, h]

/-- A port in CALIBRATING whose facet has not been measured waits there. -/
theorem followPort_of_unmeasured (hst : (s.port p).st = .calibrating) (hheld : (s.port p).held = false) (hrx : (s.port p).rxPair.st ≠ .out)
    (htx : (s.port p).txPair.st ≠ .out) (hout : (s.port p).cal.out = false) (ht : (s.port p).cal.tCal = none) : s.followPort p = s := by
  simp [State.followPort, hst, hheld, hrx, htx, hout, ht]

theorem fetchedFor_masterFrozen (m : CmdMeta) (h : CmdHdr) (s : State) (b kind index : Nat) :
    (s.fetchedFor m h).masterFrozen b kind index = s.masterFrozen b kind index := by
  have hfrozen : ((s.fetchedFor m h).fn b).frozen = (s.fn b).frozen := by
    by_cases hb : b = h.fn
    · rw [hb, fetchedFor_fn]
    · rw [fetchedFor_fn_other m h s hb]
  rw [State.masterFrozen, hfrozen]
  rfl

/-! ### Nothing is queued -/

theorem svcQ_of_empty (h : s.tm.queues = []) (p c : Nat) : s.svcQ p c = {} := by simp [State.svcQ, h]

theorem purge_of_empty (h : s.tm.queues = []) (p : Nat) (out : TxFrame → Bool) (act : TxFrame → State → State) : s.purge p out act = s := by
  unfold State.purge
  refine List.foldlRecOn (motive := (· = s)) classesDown _ rfl fun t ht c _ => ?_
  subst ht
  simp [svcQ_of_empty h, SvcQueue.take, SvcQueue.frames]

theorem flushPort_of_idle (hq : s.tm.queues = []) (hw : (s.port p).wire = none) (hb : (s.port p).backoff = none) (hl : (s.port p).launches = []) :
    s.flushPort p = s.onPort p fun y => { y with wire := none, backoff := none, launches := [], follow := [] } := by
  unfold State.flushPort
  dsimp only
  rw [purge_of_empty hq]
  simp [hw, hb, hl]

/-! ### Descriptors written back (R290, R291, R294) -/

/-- A ring after the write-back of its next descriptor. -/
def PortRing.wrote (r : PortRing) (b : DescBack) : PortRing :=
  let all := r.back ++ [{ b with phase := r.done / 2 ^ r.n % 2 = 0 }]
  { r with done := r.done + 1, back := all.drop (all.length - 2 ^ r.n) }

theorem PortRing.wrote_back_of_none {r : PortRing} (h : r.back = []) (b : DescBack) :
    (r.wrote b).back = [{ b with phase := r.done / 2 ^ r.n % 2 = 0 }] := by
  have hroom : 1 - 2 ^ r.n = 0 := Nat.sub_eq_zero_of_le Nat.one_le_two_pow
  simp [PortRing.wrote, h, hroom]

theorem PortRing.wrote_back_getLast (r : PortRing) (b : DescBack) :
    (r.wrote b).back.getLast? = some { b with phase := r.done / 2 ^ r.n % 2 = 0 } := by
  have hpos : 1 ≤ 2 ^ r.n := Nat.one_le_two_pow
  simpa [PortRing.wrote, List.getLast?_drop] using hpos

/-- A result that is the next in ring order is written back at once and announced. -/
theorem backDesc_of_next {k place : Nat} {r : PortRing} {b : DescBack} (hr : s.pring k = some r) (hd : r.done = place) (hl : r.late = [])
    (hf : s.masterFrozen r.owner 1 k = false) :
    s.backDesc k place b = (s.onPring k fun _ => r.wrote b).announce r.owner r.vector := by
  have hflush : (PortRing.flush { r with late := [(place, b)] } 1) = r.wrote b := by
    simp [PortRing.flush, PortRing.wrote, hd, hl]
  simp [State.backDesc, hr, hf, hl, hflush, PortRing.wrote]

end

end Sys2Proof.Machine
end

section

/-! ### The port commands (R256-R263, R268, R273, R282, R287-R289, R480) -/

namespace Sys2Proof.Machine

/-- The change touches the ports, the records that fall due, events, change counts and stored records alone. -/
structure PortsAndHall (s t : State) : Prop where
  calm : Calm s t
  rest : t = { s with ports := t.ports, hall := t.hall, mbx := t.mbx, mgmt := t.mgmt }

section
variable {s t u : State} {p : Nat}

theorem PortsAndHall.refl (s : State) : PortsAndHall s s := ⟨.refl s, rfl⟩

theorem PortsAndHall.trans (h : PortsAndHall s t) (k : PortsAndHall t u) : PortsAndHall s u := by
  refine ⟨h.calm.trans k.calm, ?_⟩
  rw [k.rest, h.rest]

theorem PortsAndHall.onPorts (h : PortsAndHall s t) (f : PortsSt → PortsSt) : PortsAndHall s (t.onPorts f) :=
  h.trans ⟨(Calm.refl t).onPorts f, rfl⟩

theorem PortsAndHall.onPort (h : PortsAndHall s t) (p : Nat) (f : PortSt → PortSt) : PortsAndHall s (t.onPort p f) := h.onPorts _

theorem PortsAndHall.onPring (h : PortsAndHall s t) (k : Nat) (f : PortRing → PortRing) : PortsAndHall s (t.onPring k f) := h.onPorts _

theorem PortsAndHall.hallDue (h : PortsAndHall s t) (l : List Nat) : PortsAndHall s (t.hallDue l) := h.trans ⟨(Calm.refl t).onHall _, rfl⟩

theorem PortsAndHall.hallWiden (h : PortsAndHall s t) (l : List Nat) : PortsAndHall s (t.hallWiden l) :=
  h.trans ⟨((Calm.refl t).onHall _).onHall _, rfl⟩

theorem PortsAndHall.raise (h : PortsAndHall s t) (bs : List Nat) (c : Nat) (d : Rec) (v : Nat) : PortsAndHall s (t.raise bs c d v) := by
  refine h.trans ⟨(Calm.refl t).raise _ _ _ _, ?_⟩
  rw [raise_rest]

theorem PortsAndHall.announce (h : PortsAndHall s t) (b v : Nat) : PortsAndHall s (t.announce b v) := h.trans ⟨(Calm.refl t).announce _ _, rfl⟩

theorem PortsAndHall.store (h : PortsAndHall s t) (c i : Nat) : PortsAndHall s (t.store c i) := h.trans ⟨(Calm.refl t).store _ _, rfl⟩

theorem PortsAndHall.touch (h : PortsAndHall s t) (c i : Nat) : PortsAndHall s (t.touch c i) := h.trans ⟨(Calm.refl t).touch _ _, rfl⟩

/-- A port without launches that enters a state other than DOWN drops nothing and counts nothing. -/
theorem PortsAndHall.setPort (h : PortsAndHall s t) {st : PortState} (hl : (t.port p).st = .up → (t.port p).launches = []) (hd : st ≠ .down) :
    PortsAndHall s (t.setPort p st) := by
  refine h.trans ?_
  unfold State.setPort
  extract_lets x s1 linked s2 s3 s4
  have h1 : PortsAndHall t s1 := by
    unfold s1
    split
    · next hup =>
      have hnone : x.launches = [] := hl hup
      rw [hnone]
      exact (PortsAndHall.refl t).onPort _ _
    · exact .refl t
  have h3 : PortsAndHall t s3 := by
    unfold s3
    rw [decide_eq_false hd, Bool.and_false]
    exact h1.onPort _ _
  have h4 : PortsAndHall t s4 := h3.raise _ _ _ _
  split
  · exact (PortsAndHall.refl t).onPort _ _
  · split
    · exact h4
    · exact h4.hallDue _

end

section
variable {acc : State → State} {m : CmdMeta} {h : CmdHdr} {i : Instr} {b : CmdBody} {s u : State} {result : Rec} {P : State → Prop}

/-- A ready command on the ports completes with OK, and leaves the ports and the records that fall due as its effect does. -/
theorem runCommand_portsAndHall (hr : ready m h s = true) (ha : b.argOk (s.fetchedFor m h) = true)
    (hc : (b.check (s.fetchedFor m h)).status = .ok) (ho : b.act (s.fetchedFor m h) = cmdOut u result) (hx : m.xbOut = false)
    (hu : PortsAndHall (s.fetchedFor m h) u) (hP : ∀ t, t.ports = u.ports → t.hall = u.hall → P t) :
    ∃ t, (Host.Outcome.next (runCommand acc m h i b s) : Host.Outcome State Fault Refusal) = .next t ∧
      Completes h s { s with ports := t.ports, hall := t.hall } t result [] ∧ P t := by
  have hpending := congrArg State.pending hu.rest
  refine runCommand_does u hr ha hc ho (fun hb => absurd hb (by simp [hx])) hu.calm hpending fun t hcompletes => ?_
  obtain ⟨-, -, -, -, hrest⟩ := id hcompletes
  refine ⟨hcompletes.of ?_, hP t (congrArg State.ports hrest :) (congrArg State.hall hrest :)⟩
  rw [hrest, hu.rest]
  rfl

/-- The same for a command that makes no record due. -/
theorem runCommand_ports (hr : ready m h s = true) (ha : b.argOk (s.fetchedFor m h) = true)
    (hc : (b.check (s.fetchedFor m h)).status = .ok) (ho : b.act (s.fetchedFor m h) = cmdOut u result) (hx : m.xbOut = false)
    (hu : PortsAndHall (s.fetchedFor m h) u) (hhall : u.hall = s.hall) (hP : ∀ t, t.ports = u.ports → P t) :
    ∃ t, (Host.Outcome.next (runCommand acc m h i b s) : Host.Outcome State Fault Refusal) = .next t ∧
      Completes h s { s with ports := t.ports } t result [] ∧ P t := by
  obtain ⟨t, ht, hdone, hkept, hPt⟩ := runCommand_portsAndHall (acc := acc) (i := i) (P := fun t => t.hall = s.hall ∧ P t) hr ha hc ho hx hu
    fun t hports hdue => ⟨hdue.trans hhall, hP t hports⟩
  rw [hkept] at hdone
  exact ⟨t, ht, hdone, hPt⟩

end

/-! ### Modes (R256-R261) -/

section
variable {s : State} {h : CmdHdr} {p m f a : Nat}

theorem cmdPortSetMode_argOk (hp : p < 256) (hm : m ≤ 6) (hf : f ≤ 1) (ha : a ≤ 1) (hhalf : f = 0 ∨ m = 5 ∨ m = 6) (han : a = 0 ∨ m = 3) :
    (cmdPortSetMode h p m f a).2.argOk s = true := by
  simpa [cmdPortSetMode, portOk, hp, hm, hf, ha, or_assoc] using ⟨hhalf, han⟩

theorem cmdPortSetMode_check (hq : (s.quadRates p (PortMode.of m)).length ≤ 2) : ((cmdPortSetMode h p m f a).2.check s).status = .ok := by
  have hfree : decide (2 < (s.quadRates p (PortMode.of m)).length) = false := decide_eq_false (by omega)
  simp [cmdPortSetMode, hfree, judge]

/-- The settings of `port.set_mode` on a port. -/
def PortSt.setMode (m : PortMode) (half an : Bool) (y : PortSt) : PortSt :=
  { y with mode := m, half := half, an := an, eee := y.eee && eeeMode m half }

/-- What `port.set_mode` makes of a port that is set OFF: nothing waits there any more, and it is DISABLED. -/
def State.portOff (s : State) (p m f a : Nat) : State :=
  ((s.onPort p fun y => { y with wire := none, backoff := none, launches := [], follow := [] }).setPort p .disabled).onPort p
    (·.setMode (PortMode.of m) (f = 1) (a = 1))

/-- What it makes of an OFF port that is given a mode: a calibration is due, and the port is in CALIBRATING. -/
def State.portOn (s : State) (p m f a : Nat) : State :=
  (((s.setPort p .disabled).onPort p (·.setMode (PortMode.of m) (f = 1) (a = 1))).onPort p fun y =>
    { y with cal := { y.cal with due := true, running := false, tCal := none } }).setPort p .calibrating

theorem PortMode.of_ne_off (h1 : 1 ≤ m) (h6 : m ≤ 6) : PortMode.of m ≠ .off := by
  obtain rfl | rfl | rfl | rfl | rfl | rfl : m = 1 ∨ m = 2 ∨ m = 3 ∨ m = 4 ∨ m = 5 ∨ m = 6 := by omega
  all_goals decide

theorem laneBad_congr {t : State} (ht : t.fault = s.fault) (p : Nat) : t.laneBad p = s.laneBad p := by rw [State.laneBad, ht]; rfl

theorem portOn_portsAndHall (hst : (s.port p).st = .disabled) : PortsAndHall s (s.portOn p m f a) := by
  have hoff : (s.setPort p .disabled).port p = { s.port p with toUp := false } := by rw [setPort_port_self, PortSt.enter, if_pos hst]
  refine (((PortsAndHall.refl s).setPort ?_ (by decide)).onPort _ _).onPort _ _ |>.setPort ?_ (by decide)
  · simp [hst]
  · rw [onPort_port_self, onPort_port_self, hoff]
    simp [PortSt.setMode, hst]

theorem portOn_port (hst : (s.port p).st = .disabled) : (s.portOn p m f a).port p =
    { (({ s.port p with toUp := false } : PortSt).setMode (PortMode.of m) (f = 1) (a = 1)) with
      cal := { (s.port p).cal with due := true, running := false, tCal := none }
      st := .calibrating, pause := none, holding := false, lpi := .active } := by
  have hoff : (s.setPort p .disabled).port p = { s.port p with toUp := false } := by rw [setPort_port_self, PortSt.enter, if_pos hst]
  rw [State.portOn, setPort_port_self, onPort_port_self, onPort_port_self, hoff]
  simp [PortSt.enter, PortSt.setMode, hst]

theorem cmdPortSetMode_act_of_on (hm : PortMode.of m ≠ .off) (hoff : (s.port p).mode = .off) (hst : (s.port p).st = .disabled)
    (hheld : (s.port p).held = false) (hrx : (s.port p).rxPair.st ≠ .out) (htx : (s.port p).txPair.st ≠ .out) (hout : (s.port p).cal.out = false)
    (hlane : s.laneBad p = false) : (cmdPortSetMode h p m f a).2.act s = cmdOut ((s.portOn p m f a).store 0x20 p) := by
  have hport := portOn_port (m := m) (f := f) (a := a) hst
  have hgood : (s.portOn p m f a).laneBad p = false :=
    (laneBad_congr (congrArg State.fault (portOn_portsAndHall hst).rest :) p).trans hlane
  have hwaits : (s.portOn p m f a).followPort p = s.portOn p m f a := by
    refine followPort_of_unmeasured ?_ ?_ ?_ ?_ ?_ ?_ <;> rw [hport]
    · exact hheld
    · exact hrx
    · exact htx
    · exact hout
  have hact : (cmdPortSetMode h p m f a).2.act s = cmdOut (((if (s.portOn p m f a).laneBad p then (s.portOn p m f a).failPort p
      else s.portOn p m f a).followPort p).store 0x20 p) := by
    simp only [cmdPortSetMode, hoff, hst, hheld, hm, if_true, if_false]
    rfl
  rw [hact, hgood, if_neg Bool.false_ne_true, hwaits]

theorem portOff_portsAndHall : PortsAndHall s (s.portOff p m f a) :=
  (((PortsAndHall.refl s).onPort _ _).setPort (fun _ => by rw [onPort_port_self]) (by decide)).onPort _ _

theorem portOff_st : ((s.portOff p m f a).port p).st = .disabled := by
  rw [State.portOff, onPort_port_self, setPort_port_self]
  exact PortSt.enter_st _ _

theorem portOff_onePort : OnePort p s (s.portOff p m f a) := (((OnePort.of_ports rfl).onPort _).trans (setPort_onePort _ _ _)).onPort _

theorem portOn_onePort : OnePort p s (s.portOn p m f a) :=
  ((((setPort_onePort s p _).onPort _).onPort _).trans (setPort_onePort _ _ _))

theorem cmdPortSetMode_act_of_off (hm : PortMode.of m = .off) (hon : (s.port p).mode ≠ .off) (hfailed : (s.port p).st ≠ .failed)
    (hheld : (s.port p).held = false) (hq : s.tm.queues = []) (hw : (s.port p).wire = none) (hb : (s.port p).backoff = none)
    (hl : (s.port p).launches = []) : (cmdPortSetMode h p m f a).2.act s = cmdOut ((s.portOff p m f a).store 0x20 p) := by
  have hact : (cmdPortSetMode h p m f a).2.act s = cmdOut (((if (s.portOff p m f a).laneBad p then (s.portOff p m f a).failPort p
      else s.portOff p m f a).followPort p).store 0x20 p) := by
    simp only [cmdPortSetMode, hon, hfailed, hheld, hm, flushPort_of_idle hq hw hb hl, if_true, if_false, decide_false, Bool.or_false, Bool.false_eq_true]
    unfold State.portOff
    rw [hm]
    rfl
  have hstays : (if (s.portOff p m f a).laneBad p then (s.portOff p m f a).failPort p else s.portOff p m f a) = s.portOff p m f a := by
    rw [failPort_of_disabled portOff_st, ite_self]
  rw [hact, hstays, followPort_of_disabled portOff_st]

end

/-! ### Rings (R288) -/

section
variable {s : State} {h : CmdHdr} {p k : Nat} {r : PortRing}

/-- A ring handed over: its frames on the wire and in back-off run out unreported. -/
def PortSt.detach (k : Nat) (y : PortSt) : PortSt :=
  let mine : TxFrame → Bool := fun f => match f.desc with | some (n, _) => decide (n = k) | none => false
  { y with
    wire := y.wire.map fun (f : TxFrame) => if mine f then { f with desc := none } else f
    backoff := y.backoff.map fun (f : TxFrame × Nat) => if mine f.1 then ({ f.1 with desc := none }, f.2) else f }

/-- The handle is free, and what the ring has written stays in host memory. -/
def State.removeRing (s : State) (k : Nat) : State :=
  s.onPorts fun y => { y with
    closed := match y.rings.find? (fun q => q.1 = k) with | some q => y.closed.put k q.2.back | none => y.closed
    rings := y.rings.filter fun q => q.1 != k }

theorem removeRing_pring (s : State) (k j : Nat) : (s.removeRing k).pring j = if j = k then none else s.pring j := pring_of_filtered rfl j

theorem removeRing_closed (hr : s.pring k = some r) : (s.removeRing k).ports.closed.look [] k = r.back := by
  obtain ⟨q, hq, rfl⟩ := Option.map_eq_some_iff.1 hr
  simp only [State.removeRing, onPorts_ports]
  rw [hq, Tab.look_put_self]

theorem closeRing_of_rx (hr : s.pring k = some r) (hrx : r.rx = true) (hd : r.descs = []) :
    s.closeRing k = (s.onPort r.port (·.detach k)).removeRing k := by
  unfold State.closeRing
  simp only [hr, hrx, hd, if_true]
  rfl

/-- A transmit ring with nothing queued or in flight and one descriptor outstanding writes that one back FLUSHED. -/
theorem closeRing_of_tx {d : TxDesc} (hr : s.pring k = some r) (hrx : r.rx = false) (hd : r.descs = [d]) (hl : r.late = []) (ht : r.taken = r.done)
    (hq : s.tm.queues = []) (hw : (s.port r.port).wire = none) (hb : (s.port r.port).backoff = none) (hf : s.masterFrozen r.owner 1 k = false) :
    s.closeRing k = ((((s.onPort r.port (·.detach k)).onPring k fun _ => r.wrote { status := 2, cookie := d.cookie }).announce r.owner r.vector).removeRing k) := by
  have hback := backDesc_of_next (s := s.onPort r.port (·.detach k)) (b := { status := 2, cookie := d.cookie }) hr ht.symm hl hf
  rw [← hback]
  unfold State.closeRing
  simp only [hr, hrx, hd, hw, hb, purge_of_empty hq]
  rfl

theorem putRing_pring (s : State) (k j : Nat) (r : PortRing) :
    (s.onPorts fun x => { x with rings := x.rings.put k r }).pring j = if k = j then some r else s.pring j := Tab.find?_put _ _ _ _

theorem ringOwned_of_pring (hr : s.pring k = some r) (ho : r.owner = h.fn) : s.ringOwned h.fn k = true := by simp [State.ringOwned, hr, ho]

end

/-! ### What the other commands check -/

section
variable {s : State} {h : CmdHdr} {p : Nat}

theorem cmdPortSetMac_argOk {r l w o : Nat} (hp : p < 256) (hr : r ≤ 1) (hl : 1522 ≤ l) (hl' : l ≤ 16383) (hw : 1 ≤ w) (hw' : w ≤ 10000)
    (ho : 100 ≤ o) (ho' : o ≤ 60000) : (cmdPortSetMac h p r l w o).2.argOk s = true := by
  simp [cmdPortSetMac, portOk, hp, hr, hl, hl', hw, hw', ho, ho']

theorem cmdPortSetEee_argOk {i w : Nat} (hp : p < 256) (hmode : eeeMode (s.port p).mode (s.port p).half = true) (hi : 1 ≤ i) (hi' : i ≤ 10000)
    (hw : w ≤ 1000) : (cmdPortSetEee h p 1 i w).2.argOk s = true := by
  simp [cmdPortSetEee, portOk, hp, hmode, hi, hi', hw]

theorem cmdPortSetEee_check {e i w : Nat} (hown : s.portOwner p = h.fn) (hnt : (s.bezel h.fn).nonTiming = true) (hn : s.nrefUses p = false)
    (hv : s.vtapUses p = false) : ((cmdPortSetEee h p e i w).2.check s).status = .ok := by
  simp [cmdPortSetEee, judgeOwned, judge, hown, hnt, hn, hv]

theorem cmdPortCalibrate_check (hst : (s.port p).st ≠ .disabled) (hst' : (s.port p).st ≠ .failed) (hrun : (s.port p).cal.running = false) :
    ((cmdPortCalibrate h p).2.check s).status = .ok := by
  simp [cmdPortCalibrate, judge, hst, hst', hrun]

theorem cmdPortSetAsym_argOk {a : Int} {u : Nat} (hp : p < 256) (ha : -10000000 ≤ a) (ha' : a ≤ 10000000) (hu : u ≤ 10000000) :
    (cmdPortSetAsym h p a u).2.argOk s = true := by
  simp [cmdPortSetAsym, portOk, hp, ha, ha', hu]

theorem cmdPortSetAsym_check {a : Int} {u : Nat} (hown : s.portOwner p = h.fn) (hnext : (s.port p).asymNext = none) :
    ((cmdPortSetAsym h p a u).2.check s).status = .ok := by
  simp [cmdPortSetAsym, judgeOwned, judge, hown, hnext]

theorem cmdPortOpenRing_argOk {d n v b : Nat} (hp : p < 256) (hd : d ≤ 1) (hn : 6 ≤ n) (hn' : n ≤ 14) (hv : v < 64)
    (hdma : s.dmaOk h.fn b (32 * 2 ^ n) = true) : (cmdPortOpenRing h p d n v b).2.argOk s = true := by
  simp [cmdPortOpenRing, portOk, hp, hd, hn, hn', hv, hdma]

theorem cmdPortOpenRing_check {d n v b k : Nat} (hown : s.portOwner p = h.fn) (hrings : s.ringsOn p (decide (d = 1)) < 8)
    (hk : s.freeHandle = some k) : ((cmdPortOpenRing h p d n v b).2.check s).status = .ok := by
  simp [cmdPortOpenRing, judgeOwned, judge, hown, hrings, hk]

theorem cmdPortOpenRing_act {d n v b k : Nat} (hk : s.freeHandle = some k) : (cmdPortOpenRing h p d n v b).2.act s =
    cmdOut ((s.onPorts fun x => { x with
      rings := x.rings.put k { port := p, rx := decide (d = 1), n := n, vector := v, base := b, owner := h.fn } }).touch 0x20 (4096 + k)) [fld 16 k] := by
  simp [cmdPortOpenRing, hk]

theorem cmdPortCloseRing_check {k : Nat} {r : PortRing} (hring : s.pring k = some r) (hown : r.owner = h.fn) :
    ((cmdPortCloseRing h k).2.check s).status = .ok := by
  simp [cmdPortCloseRing, judgeOwned, judge, ringOwned_of_pring hring hown]

theorem cmdPortSetFilter_argOk {i k v r : Nat} {q : PortRing} (hp : p < 256) (hi : i < 16) (hk : k ≤ 4) (hv : k = 4 → v < 256)
    (hring : s.pring r = some q) (hrx : q.rx = true) (hport : q.port = p) : (cmdPortSetFilter h p i k v r).2.argOk s = true := by
  by_cases h4 : k = 4
  · simp [cmdPortSetFilter, portOk, hp, hi, h4, hv h4, hring, hrx, hport]
  · simp [cmdPortSetFilter, portOk, hp, hi, hk, h4, hring, hrx, hport]

theorem cmdPortSetFilter_check {i k v r : Nat} {q : PortRing} (hring : s.pring r = some q) (hown : q.owner = h.fn) (hpown : s.portOwner p = h.fn)
    (hfree : s.filterTaken p k v = false) : ((cmdPortSetFilter h p i k v r).2.check s).status = .ok := by
  simp [cmdPortSetFilter, judgeOwned, judge, ringOwned_of_pring hring hown, hpown, hfree]

theorem cmdPortReadStatus_check (hown : h.fn = 0 ∨ s.portOwner p = h.fn) : ((cmdPortReadStatus h p).2.check s).status = .ok := by
  simp [cmdPortReadStatus, judgeOwned, judge, hown]

end

theorem hallWiden_due (s : State) (p : Nat) : p ∈ (s.hallWiden [p]).hall.due := by
  simp [State.hallWiden, State.hallDue]

/-- What port.read_status writes (R480). -/
def portStatusRec (s : State) (p : Nat) : Rec :=
  let x := s.port p
  [fld 8 x.st.code, fld 8 x.mode.code, bit x.half, bit x.an, bit x.held, bit x.eee, bit x.cal.due, bit x.cal.running, bit x.cal.out, rsv 1,
    fld 8 x.rxPair.st.code, fld 8 x.txPair.st.code, rsv 24,
    (32, roundHalf (x.cal.dRx * 1000)), (32, roundHalf (x.cal.dTx * 1000)), (32, roundHalf (x.cal.temp * 1000)), (32, x.asym), fld 32 x.uAsym]
    ++ (List.range 32).map fun i => fld 64 (s.loupe.ctr.look 0 (p * 32 + i))

theorem portStatusRec_bytes (s : State) (p : Nat) : (portStatusRec s p).bytes = 284 := by
  have hctr : Rec.bits ((List.range 32).map fun i => fld 64 (s.loupe.ctr.look 0 (p * 32 + i))) = 2048 := by
    rw [List.map_eq_flatMap, bits_flatMap _ _ 64 fun _ _ => rfl, List.length_range]
  rw [Rec.bytes, portStatusRec, bits_append, hctr]
  simp [Rec.bits, fld, bit, rsv]

/-- Settles O19: the two ways of port.set_mode by the port they leave, the rings by their handles, the other settings by the port written. -/
theorem portCommands : Obligations.PortCommands := by
  unfold Obligations.PortCommands
  refine ⟨fun h s p m f a hr hp hm hm' hf ha hhalf han hq hoff hst hheld hrx htx hout hlane => ?on,
    fun h s p f a hr hp hf ha hq hon hfailed hheld htm hw hb hl => ?off,
    fun h s p r l w o hr hp hpause hl hl' hw hw' ho ho' hown => ?mac,
    fun h s p i w hr hp hmode hi hi' hw hown hnt hnref hvtap => ?eee,
    fun h s p hr hp hst hst' hrun hout => ?calibrate,
    fun h s p a u hr hp ha ha' hu hown hnext => ?asym,
    fun h s p d n v b k hr hp hd hn hn' hv hdma hown hrings hk => ?openRing,
    fun h s k r hr hk hring hown hrx hd => ?closeRx,
    fun h s k r d hr hk hring hown hrx hd hlate htaken hq hw hb hf => ?closeTx,
    fun h s p i k v r q hr hp hi hk hk' hv hring hrx hport hown hpown htaken => ?filter,
    fun h s p hr hp hown hx => ?readStatus⟩
  case on =>
    have hne := PortMode.of_ne_off hm hm'
    have honly := (portOn_portsAndHall (s := s.fetchedFor (cmdPortSetMode h p m f a).1 h) (p := p) (m := m) (f := f) (a := a) hst).store 0x20 p
    have hone := portOn_onePort (s := s.fetchedFor (cmdPortSetMode h p m f a).1 h) (p := p) (m := m) (f := f) (a := a)
    have hport := portOn_port (s := s.fetchedFor (cmdPortSetMode h p m f a).1 h) (m := m) (f := f) (a := a) hst
    refine runCommand_portsAndHall hr (cmdPortSetMode_argOk hp hm' hf ha hhalf han) (cmdPortSetMode_check hq)
      (cmdPortSetMode_act_of_on hne hoff hst hheld hrx htx hout hlane) rfl honly fun t hstored _ => ?_
    have hports := hstored.trans (store_ports _ _ _)
    rw [port_congr hports, hport, hports]
    refine ⟨rfl, rfl, rfl, rfl, rfl, rfl, fun k hk => ?_, hone.rings⟩
    exact (port_congr hports k).trans (hone.others k hk)
  case off =>
    have honly := (portOff_portsAndHall (s := s.fetchedFor (cmdPortSetMode h p 0 f a).1 h) (p := p) (m := 0) (f := f) (a := a)).store 0x20 p
    have hone := portOff_onePort (s := s.fetchedFor (cmdPortSetMode h p 0 f a).1 h) (p := p) (m := 0) (f := f) (a := a)
    refine runCommand_portsAndHall hr (cmdPortSetMode_argOk hp (Nat.zero_le 6) (by omega) (by omega) (.inl hf) (.inl ha)) (cmdPortSetMode_check hq)
      (cmdPortSetMode_act_of_off (rfl : PortMode.of 0 = .off) hon hfailed hheld htm hw hb hl) rfl honly fun t hstored _ => ?_
    have hports := hstored.trans (store_ports _ _ _)
    rw [port_congr hports, hports]
    refine ⟨?_, portOff_st, ?_, fun k hk => (port_congr hports k).trans (hone.others k hk), hone.rings⟩ <;> rw [State.portOff, onPort_port_self]
    · rfl
    · exact Bool.and_false _
  case mac =>
    refine runCommand_ports hr (cmdPortSetMac_argOk hp hpause hl hl' hw hw' ho ho') (congrArg Judged.status (if_pos (decide_eq_true hown))) rfl rfl
      (((PortsAndHall.refl _).onPort _ _).store _ _) rfl fun t hports => ?_
    rw [port_congr hports, hports]
    exact ⟨onPort_port_self _ _ _, fun k hk => (port_congr hports k).trans (onPort_port_other _ _ hk.symm), rfl⟩
  case eee =>
    refine runCommand_ports hr (cmdPortSetEee_argOk hp hmode hi hi' hw) (cmdPortSetEee_check hown hnt hnref hvtap) rfl rfl
      (((PortsAndHall.refl _).onPort _ _).store _ _) rfl fun t hports => ?_
    rw [port_congr hports]
    exact ⟨onPort_port_self _ _ _, fun k hk => (port_congr hports k).trans (onPort_port_other _ _ hk.symm)⟩
  case calibrate =>
    refine runCommand_ports hr (decide_eq_true hp) (cmdPortCalibrate_check hst hst' hrun) rfl rfl ((PortsAndHall.refl _).onPort _ _) rfl
      fun t hports => ⟨?_, fun k hk => (port_congr hports k).trans (onPort_port_other _ _ hk.symm)⟩
    rw [port_congr hports, onPort_port_self, fetchedFor_port, hout]
    rfl
  case asym =>
    refine runCommand_portsAndHall hr (cmdPortSetAsym_argOk hp ha ha' hu) (cmdPortSetAsym_check hown hnext) rfl rfl
      ((((PortsAndHall.refl _).onPort _ _).hallWiden _).store _ _) fun t hports hhall => ?_
    rw [port_congr hports, hhall]
    exact ⟨hallWiden_due _ p, fun k hk => (port_congr hports k).trans (onPort_port_other _ _ hk.symm), onPort_port_self _ _ _⟩
  case openRing =>
    refine runCommand_ports hr (cmdPortOpenRing_argOk hp hd hn hn' hv (fetchedFor_dmaOk _ h s _ _ _ hdma)) (cmdPortOpenRing_check hown hrings hk)
      (cmdPortOpenRing_act hk) rfl (((PortsAndHall.refl _).onPorts _).touch _ _) rfl fun t hports => ?_
    rw [pring_congr hports, touch_pring, putRing_pring, if_pos rfl, hports]
    refine ⟨rfl, fun j hj => ?_, rfl⟩
    rw [pring_congr hports, touch_pring, putRing_pring, if_neg hj.symm]
    rfl
  case closeRx =>
    refine runCommand_ports hr (decide_eq_true hk) (cmdPortCloseRing_check hring hown)
      (congrArg (fun u : State => cmdOut (u.touch 0x20 (4096 + k))) (closeRing_of_rx hring hrx hd)) rfl
      ((((PortsAndHall.refl _).onPort _ _).onPorts _).touch _ _) rfl fun t hports => ?_
    rw [pring_congr hports, touch_pring, removeRing_pring, if_pos rfl]
    refine ⟨rfl, fun j hj => ?_⟩
    rw [pring_congr hports, touch_pring, removeRing_pring, if_neg hj]
    rfl
  case closeTx =>
    have hfree : (s.fetchedFor (cmdPortCloseRing h k).1 h).masterFrozen r.owner 1 k = false := by rw [fetchedFor_masterFrozen, hown, hf]
    refine runCommand_ports hr (decide_eq_true hk) (cmdPortCloseRing_check hring hown)
      (congrArg (fun u : State => cmdOut (u.touch 0x20 (4096 + k))) (closeRing_of_tx hring hrx hd hlate htaken hq hw hb hfree)) rfl
      ((((((PortsAndHall.refl _).onPort _ _).onPring _ _).announce _ _).onPorts _).touch _ _) rfl fun t hports => ?_
    refine ⟨?_, fun j hj => ?_, ?_⟩
    · rw [pring_congr hports, touch_pring, removeRing_pring, if_pos rfl]
    · rw [pring_congr hports, touch_pring, removeRing_pring, if_neg hj, announce_pring, onPring_pring, if_neg hj]
      rfl
    · have hlast : ((((s.fetchedFor (cmdPortCloseRing h k).1 h).onPort r.port (·.detach k)).onPring k fun _ =>
          r.wrote { status := 2, cookie := d.cookie }).announce r.owner r.vector).pring k = some (r.wrote { status := 2, cookie := d.cookie }) := by
        rw [announce_pring, onPring_pring, if_pos rfl, onPort_pring]
        exact congrArg (Option.map _) hring
      rw [hports, touch_ports, removeRing_closed hlast, PortRing.wrote_back_getLast]
      rfl
  case filter =>
    refine runCommand_ports hr (cmdPortSetFilter_argOk hp hi hk' hv hring hrx hport) (cmdPortSetFilter_check hring hown hpown htaken) rfl rfl
      (((PortsAndHall.refl _).onPort _ _).store _ _) rfl fun t hports => ?_
    rw [port_congr hports, store_port, onPort_port_self]
    exact ⟨Tab.look_put_self _ _ _ _, rfl, fun j hj => Tab.look_put_other _ _ _ hj.symm,
      fun j hj => (port_congr hports j).trans (onPort_port_other _ _ hj.symm)⟩
  case readStatus =>
    obtain ⟨t, ht, hcompletes⟩ := runCommand_reads (acc := State.accepted) (i := .portReadStatus h p) (b := (cmdPortReadStatus h p).2)
      (result := [fld 8 (s.port p).st.code]) (xb := portStatusRec s p) hr (decide_eq_true hp) (cmdPortReadStatus_check hown) rfl
      fun _ => by rw [portStatusRec_bytes]; omega
    refine ⟨t, ht, ?_, ?_⟩ <;> rw [hcompletes.1.lastXb]
    · exact hcompletes
    · rfl

end Sys2Proof.Machine
end

section

/-! ### What counting and stamping leave (R82, R278, R281, R534-R545) -/

namespace Sys2Proof.Machine

/-- Nothing changed but counters, log staging, vectors and events that fell due. -/
structure Tallied (s t : State) : Prop where
  rest : t = { s with mbx := t.mbx, mgmt := t.mgmt, loupe := t.loupe }
  fns : ∀ b, t.fn b = { s.fn b with vecs := (t.fn b).vecs, due := (t.fn b).due }

section
variable {s t u : State}

theorem Tallied.refl (s : State) : Tallied s s := ⟨rfl, fun _ => rfl⟩

theorem Tallied.trans (h : Tallied s t) (k : Tallied t u) : Tallied s u := by
  refine ⟨?_, fun b => ?_⟩
  · rw [k.rest, h.rest]
  · rw [k.fns b, h.fns b]

theorem Quiet.tallied (h : Quiet s t) : Tallied s t := ⟨h.rest, h.fns⟩

theorem derive_tallied (s : State) (bank mode pos n : Nat) : Tallied s (s.derive bank mode pos n) := by
  unfold State.derive
  split
  · exact ⟨rfl, fun _ => rfl⟩
  · exact .refl s

theorem Tallied.ports (h : Tallied s t) : t.ports = s.ports := (congrArg State.ports h.rest :)

theorem Tallied.masterFrozen (h : Tallied s t) (b kind index : Nat) : t.masterFrozen b kind index = s.masterFrozen b kind index := by
  have hbez : t.bez = s.bez := (congrArg State.bez h.rest :)
  rw [State.masterFrozen, h.fns b, State.bezel, hbez]
  rfl

theorem Tallied.dmaOk (h : Tallied s t) (b base len : Nat) : t.dmaOk b base len = s.dmaOk b base len := by
  have hbez : t.bez = s.bez := (congrArg State.bez h.rest :)
  rw [State.dmaOk, State.inWindow, h.fns 0, State.bezel, State.bezel, hbez]
  rfl

end

/-- A position below 24, or any of a bank in MODE 0, counts; no other counter moves (R534, R537, R538). -/
theorem countN_ctr {s : State} {bank pos : Nat} (n : Nat) (h : pos < 24 ∨ (s.loupe.banks.look {} bank).mode = 0) (j : Nat) :
    (s.countN bank pos n).loupe.ctr.look 0 j =
      if j = bank * 32 + pos then (s.loupe.ctr.look 0 (bank * 32 + pos) + n) % 2 ^ 48 else s.loupe.ctr.look 0 j := by
  by_cases hj : j = bank * 32 + pos
  · have hcounts : (decide (24 ≤ pos) && (s.loupe.banks.look {} bank).mode != 0) = false := by
      rcases h with h | h
      · rw [decide_eq_false (by omega), Bool.false_and]
      · simp [h]
    subst hj
    rw [if_pos rfl, State.countN, hcounts, if_neg Bool.false_ne_true]
    unfold State.countRaw
    extract_lets v s1
    have h1 : s1.loupe.ctr.look 0 (bank * 32 + pos) = v % 2 ^ 48 := Tab.look_put_self _ _ _ _
    split
    · exact h1
    · split
      · exact h1
      · change (State.raise _ _ _ _ 0).loupe.ctr.look 0 _ = _
        rw [raise_loupe]
        exact h1
  · rw [if_neg hj, countN_other _ _ _ _ _ hj]

theorem countN_counted {s : State} {bank pos : Nat} (n : Nat) (h : pos < 24 ∨ (s.loupe.banks.look {} bank).mode = 0) :
    Counted bank pos n s (s.countN bank pos n) := by
  rw [Counted, countN_ctr n h, if_pos rfl]

theorem countPort_counted {s : State} {p pos : Nat} (h : pos < 24) : Counted p pos 1 s (s.countPort p pos) := countN_counted 1 (.inl h)

theorem derive_ctr (s : State) (bank mode pos n : Nat) : (s.derive bank mode pos n).loupe.ctr = s.loupe.ctr := by
  unfold State.derive
  split <;> rfl

/-! ### Stamps -/

/-- The end of a port's temperature transient leaves its calibration otherwise as it is (R82, R281). -/
structure StampTaken (p : Nat) (s t : State) : Prop where
  one : OnePort p s t
  rest : t = { s with ports := t.ports, hall := t.hall }
  port : t.port p = { s.port p with cal := { (s.port p).cal with hotFrom := (t.port p).cal.hotFrom, hotDone := (t.port p).cal.hotDone } }

theorem StampTaken.refl (p : Nat) (s : State) : StampTaken p s s := ⟨.of_ports rfl, rfl, rfl⟩

theorem narrow_stampTaken (s : State) (p : Nat) : StampTaken p s (s.narrow p 1) := by
  unfold State.narrow
  split
  · split <;> exact ⟨.of_ports rfl, rfl, rfl⟩
  · refine ⟨((OnePort.of_ports rfl).onPort (s := s) _).trans (.of_ports rfl), rfl, ?_⟩
    have hport : (s.narrowNow p 1).port p = { s.port p with cal := { (s.port p).cal with hotFrom := none, hotDone := false } } := onPort_port_self _ _ _
    rw [hport]

theorem stamped_stampTaken (s : State) (p : Nat) : StampTaken p s (s.stamped p) := by
  unfold State.stamped
  split
  · exact narrow_stampTaken s p
  · exact .refl p s

end Sys2Proof.Machine
end

section

/-! ### Received frames (R262-R265, R289, R291, R299-R303, R378) -/

namespace Sys2Proof.Machine

/-! ### The way of a frame -/

/-- What the way of a frame is read from: addresses and filters of ports, redundant pairs, services and taps. -/
structure SameWays (s t : State) : Prop where
  la : t.la = s.la
  tse : t.tse = s.tse
  prp : t.ports.prp = s.ports.prp
  addrs : ∀ q, (t.port q).addrs = (s.port q).addrs
  mac : ∀ q, (t.port q).mac = (s.port q).mac
  filters : ∀ q, (t.port q).filters = (s.port q).filters

section
variable {s t : State} {p : Nat}

theorem StampTaken.sameWays (h : StampTaken p s t) : SameWays s t := by
  have hprp : t.ports.prp = s.ports.prp := (congrArg PortsSt.prp h.one.rest :)
  refine ⟨(congrArg State.la h.rest :), (congrArg State.tse h.rest :), hprp, fun q => ?_, fun q => ?_, fun q => ?_⟩
  all_goals
    by_cases hq : q = p
    · rw [hq, h.port]
    · rw [h.one.others q hq]

theorem Tallied.sameWays (h : Tallied s t) : SameWays s t := by
  have hport := port_congr h.ports
  exact ⟨(congrArg State.la h.rest :), (congrArg State.tse h.rest :), (congrArg PortsSt.prp h.ports :),
    fun q => by rw [hport], fun q => by rw [hport], fun q => by rw [hport]⟩

theorem SameWays.trans {u : State} (h : SameWays s t) (k : SameWays t u) : SameWays s u :=
  ⟨k.la.trans h.la, k.tse.trans h.tse, k.prp.trans h.prp, fun q => (k.addrs q).trans (h.addrs q), fun q => (k.mac q).trans (h.mac q),
    fun q => (k.filters q).trans (h.filters q)⟩

theorem SameWays.accepts (h : SameWays s t) (p : Nat) (f : RxFrame) : t.accepts p f = s.accepts p f := by
  have hhome : t.homePort p = s.homePort p := by rw [State.homePort, State.prpOf, h.prp]; rfl
  have haddrs : t.addrsOf p = s.addrsOf p := by rw [State.addrsOf, hhome, h.addrs]; rfl
  have hown : t.ownAddrs p = s.ownAddrs p := by rw [State.ownAddrs, haddrs, hhome, h.mac]; rfl
  have hptp : ∀ i, t.ptpOver p i = s.ptpOver p i := fun i => by rw [State.ptpOver, State.ptpOn, State.allSvcs, h.tse]; rfl
  rw [State.accepts, hhome, haddrs, hown, h.mac]
  simp only [hptp]
  rfl

theorem SameWays.wayOf (h : SameWays s t) (p : Nat) (f : RxFrame) : t.wayOf p f = s.wayOf p f := by
  have htap : t.forVtap p f = s.forVtap p f := by
    unfold State.forVtap State.tap
    rw [h.la]
  have hfilter : t.filterOf p f = s.filterOf p f := by rw [State.filterOf, h.filters]; rfl
  rw [State.wayOf, htap, hfilter, h.accepts]
  rfl

end

/-! ### A good frame -/

/-- The state after the stamp of a good frame of `len` octets and its count (R262, R537, R544). -/
@[irreducible] def State.arrived (s : State) (p len : Nat) : State :=
  ((((s.stamped p).countN p 0 len).countPort p 1).derive p 1 0 len).derive p 1 2 1

theorem arrived_tallied (s : State) (p len : Nat) : Tallied (s.stamped p) (s.arrived p len) := by
  unfold State.arrived
  exact (((countN_quiet _ _ _ _).trans (countPort_quiet _ _ _)).tallied.trans (derive_tallied _ _ _ _ _)).trans (derive_tallied _ _ _ _ _)

theorem arrived_ctr (s : State) (p len j : Nat) : (s.arrived p len).loupe.ctr.look 0 j =
    if j = p * 32 + 1 then (s.loupe.ctr.look 0 (p * 32 + 1) + 1) % 2 ^ 48
    else if j = p * 32 + 0 then (s.loupe.ctr.look 0 (p * 32 + 0) + len) % 2 ^ 48 else s.loupe.ctr.look 0 j := by
  have hloupe : (s.stamped p).loupe = s.loupe := (congrArg State.loupe (stamped_stampTaken s p).rest :)
  rw [State.arrived, derive_ctr, derive_ctr, State.countPort, countN_ctr 1 (.inl (by decide)) j, countN_ctr len (.inl (by decide)) (p * 32 + 1),
    countN_ctr len (.inl (by decide)) j, hloupe, if_neg (show ¬ p * 32 + 1 = p * 32 + 0 by omega)]

theorem arrived_counted {s t : State} {p len : Nat} (h0 : t.loupe.ctr.look 0 (p * 32 + 0) = (s.arrived p len).loupe.ctr.look 0 (p * 32 + 0))
    (h1 : t.loupe.ctr.look 0 (p * 32 + 1) = (s.arrived p len).loupe.ctr.look 0 (p * 32 + 1)) : Counted p 1 1 s t ∧ Counted p 0 len s t := by
  rw [Counted, Counted, h0, h1, arrived_ctr, arrived_ctr]
  exact ⟨if_pos rfl, by rw [if_neg (by omega), if_pos rfl]⟩

theorem arrived_sameWays (s : State) (p len : Nat) : SameWays s (s.arrived p len) :=
  (stamped_stampTaken s p).sameWays.trans (arrived_tallied s p len).sameWays

theorem arrived_port (s : State) (p len q : Nat) : (s.arrived p len).port q = (s.stamped p).port q := port_congr (arrived_tallied s p len).ports q

theorem stamped_port_st (s : State) (p : Nat) : ((s.stamped p).port p).st = (s.port p).st := by rw [(stamped_stampTaken s p).port]

theorem stamped_rxStamp (s : State) (p tb : Nat) : ((s.stamped p).port p).rxStamp tb = (s.port p).rxStamp tb := by
  rw [(stamped_stampTaken s p).port]
  rfl

theorem arrived_tm (s : State) (p len : Nat) : (s.arrived p len).tm = s.tm :=
  (congrArg State.tm (arrived_tallied s p len).rest :).trans (congrArg State.tm (stamped_stampTaken s p).rest :)

theorem arrived_tse (s : State) (p len : Nat) : (s.arrived p len).tse = s.tse := (arrived_sameWays s p len).tse

theorem arrived_portOwner (s : State) (p len : Nat) : (s.arrived p len).portOwner p = s.portOwner p := by
  have hbez : (s.arrived p len).bez = s.bez :=
    (congrArg State.bez (arrived_tallied s p len).rest :).trans (congrArg State.bez (stamped_stampTaken s p).rest :)
  rw [State.portOwner, hbez]
  rfl

/-! ### Where nothing is held back -/

theorem prpKeep_of_untagged {f : RxFrame} (h : f.rct = none) (s : State) (p : Nat) : s.prpKeep p f = (true, s) := by
  unfold State.prpKeep
  split
  · next hr => rw [h] at hr; cases hr
  · rfl

theorem meet_of_unmetered {s : State} (h : s.tm.bezMeters = []) (b i len : Nat) : s.meet 0 i b .green len = (.green, s) := by
  simp [State.meet, State.meter, h, Meter.fill, Meter.colour]

theorem canTake_of_free {s : State} {n : Nat} (h : s.tm.bezels = []) (hn : n ≤ 64) (b : Nat) : s.canTake b n = true := by
  have hall : n ≤ 65536 := by omega
  have hcap : n ≤ 4096 := by omega
  simp [State.canTake, State.tmBez, State.cellsHeld, State.poolUsed, State.poolSize, TmBezel.shared, h, hall, hcap]

section
variable {s : State} {p : Nat} {f : RxFrame}

/-- A good frame that keeps to the port's length goes its way once it is stamped and counted. -/
theorem onFrameReceived_of_good (hp : p < 256) (hst : (s.port p).st = .up) (hline : lineCheck (s.port p) f = none) (hty : f.etherType ≠ 0x8808)
    (hlen : f.len ≤ (s.port p).maxLen) (hrct : f.rct = none) (hmeters : s.tm.bezMeters = []) :
    onFrameReceived p f s = match s.wayOf p f with
      | .nowhere => (s.arrived p f.len).countPort p 10
      | .badPort => if f.ipBad then ((s.arrived p f.len).countDrop p 0).logPartner 0x2180 (framePeer f) else (s.arrived p f.len).countDrop p 1
      | .vtap => s.arrived p f.len
      | .ring i k => if (s.arrived p f.len).canTake (s.portOwner p) (cellsOf f.len) then (s.arrived p f.len).toRing p i k f false
          else (s.arrived p f.len).countBezel (s.portOwner p) 8
      | .tse => if (s.arrived p f.len).canTake (s.portOwner p) (cellsOf f.len)
          then ((s.arrived p f.len).takeCells (s.portOwner p) (cellsOf f.len)).toTse p (s.portOwner p) f false .green
          else (s.arrived p f.len).countBezel (s.portOwner p) 8 := by
  have hlinked : (s.port p).linked = true := by simp [PortSt.linked, hst]
  have hwhole : ({ f with len := min f.len (s.port p).maxLen } : RxFrame) = f := by rw [Nat.min_eq_left hlen]
  have hlong : decide ((s.port p).maxLen < f.len) = false := decide_eq_false (by omega)
  have harrived : ((((s.stamped p).countN p 0 f.len).countPort p 1).derive p 1 0 f.len).derive p 1 2 1 = s.arrived p f.len := by
    rw [State.arrived]
  have hmeters' : (s.arrived p f.len).tm.bezMeters = [] := by rw [arrived_tm, hmeters]
  simp only [onFrameReceived, portOk, hp, decide_true, hlinked, hline, hty, hlong, harrived, prpKeep_of_untagged hrct, hwhole,
    (arrived_sameWays s p f.len).wayOf, arrived_portOwner, meet_of_unmetered hmeters', Bool.not_true, Bool.or_self, Bool.false_eq_true, if_false]
  cases s.wayOf p f with
  | ring i k => rw [Nat.min_eq_left hlen]; cases (s.arrived p f.len).canTake (s.portOwner p) (cellsOf f.len) <;> rfl
  | tse => rw [Nat.min_eq_left hlen]; cases (s.arrived p f.len).canTake (s.portOwner p) (cellsOf f.len) <;> rfl
  | nowhere | badPort | vtap => rfl

end

/-! ### The two ways of a frame that is served -/

/-- A frame as it waits for the service engine (R302). -/
def State.rxEntry (s : State) (p b : Nat) (f : RxFrame) : TseIn :=
  { port := p, bezel := b, f := f, stamp := (s.port p).rxStamp f.tb, timed := (s.port p).st = .up, colour := .green, trunc := false,
    record := some (s.carried p), at_ := s.pcyc }

/-- A frame for the service engine that finds an empty queue and no reservation joins the queue. -/
theorem toTse_of_free {s : State} {p b : Nat} {f : RxFrame} (hin : s.tse.inputs = []) (hres : ∀ q ∈ s.tm.bezels, q.2.reserve = 0)
    (hip : f.ipBad = false) :
    s.toTse p b f false .green = (s.onTse fun x => { x with inputs := x.inputs.put (pipeOf f) [s.rxEntry p b f] }).countBezel b 0 := by
  have hinput : s.input (pipeOf f) = [] := by rw [State.input, hin]; rfl
  have hzero : (s.tm.bezels.map fun q => q.2.reserve / 16).sum = 0 :=
    List.sum_eq_zero fun n hn => by
      obtain ⟨q, hq, rfl⟩ := List.mem_map.mp hn
      rw [hres q hq, Nat.zero_div]
  have hadmits : s.admits (pipeOf f) b .green = true := by
    simp [State.admits, hinput, hzero]
  unfold State.toTse
  simp only [hip, hadmits, hinput, Bool.not_true, Bool.false_eq_true, if_false]
  rfl

/-- A frame that a filter claims takes the only descriptor of its ring, which is written back with its length and stamp. -/
theorem toRing_of_next {s : State} {p i k : Nat} {f : RxFrame} {r : PortRing} {d : TxDesc} (hr : s.pring k = some r) (hrx : r.rx = true) (hp : r.port = p)
    (hd : r.descs = [d]) (htaken : r.taken = r.done) (hl : r.late = []) (hf : s.masterFrozen r.owner 1 k = false)
    (hdma : s.dmaOk r.owner d.addr d.len = true) (hst : (s.port p).st = .up) :
    s.toRing p i k f false = (((s.onPring k fun x => { x with descs := [], taken := x.taken + 1 }).onPring k fun _ =>
        PortRing.wrote { r with descs := [], taken := r.taken + 1 }
          { len := min (f.len - 4) d.len, trunc := false, shortBuf := decide (d.len < f.len - 4), filter := i, tsv := true,
            ns32 := (ns32Of ((s.port p).rxStamp f.tb)).1, frac := (ns32Of ((s.port p).rxStamp f.tb)).2 }).announce r.owner r.vector) := by
  have htook : (s.onPring k fun x => { x with descs := [], taken := x.taken + 1 }).pring k = some { r with descs := [], taken := r.taken + 1 } := by
    rw [onPring_pring, if_pos rfl, hr]
    rfl
  have hback := fun b => backDesc_of_next (place := r.taken) (b := b) htook htaken.symm hl hf
  unfold State.toRing
  subst hp
  simp only [hr, hrx, hf, hd, hdma, hst, Bool.not_true, bne_self_eq_false, Bool.or_self, Bool.false_eq_true, if_false, decide_true, if_true]
  simpa only [hrx] using hback _

/-! ### The frames of the statement -/

section
variable {s : State} {p : Nat} {f : RxFrame}

theorem onFrameReceived_of_unlinked (h : (s.port p).linked = false) : onFrameReceived p f s = s := by simp [onFrameReceived, h]

theorem onFrameReceived_of_bad {k : Nat} (hp : p < 256) (hst : (s.port p).linked = true) (hline : lineCheck (s.port p) f = some k) :
    onFrameReceived p f s = s.countPort p k := by simp [onFrameReceived, portOk, hp, hst, hline]

theorem PortSt.linked_of_up {x : PortSt} (h : x.st = .up ∨ x.st = .upUntimed) : x.linked = true := by
  rcases h with h | h <;> simp [PortSt.linked, h]

end

end Sys2Proof.Machine
end

section

/-! ### O23 -/

namespace Sys2Proof.Machine

section
variable {s t : State} {p : Nat} {f : RxFrame}

/-- A write of ports and an announcement on top of counts. -/
theorem Tallied.ports_announced {u : State} (h : Tallied s u) (ht : t = { u with ports := t.ports, mbx := t.mbx }) :
    t = { s with ports := t.ports, loupe := t.loupe, mbx := t.mbx, mgmt := t.mgmt } := by
  have hm : t.mgmt = u.mgmt := (congrArg State.mgmt ht :)
  have hl : t.loupe = u.loupe := (congrArg State.loupe ht :)
  rw [hm, hl]
  exact ht.trans (by rw [h.rest])

/-- A write of the engine and of cells between counts. -/
theorem Tallied.served {u w : State} (h : Tallied s u) (hw : w = { u with tse := w.tse, tm := w.tm }) (ht : Tallied w t) :
    t = { s with tse := t.tse, tm := t.tm, loupe := t.loupe, mbx := t.mbx, mgmt := t.mgmt } := by
  rw [ht.rest, hw, h.rest]

theorem PathFree.arrived (h : PathFree s) : (s.arrived p f.len).tm.bezels = [] ∧ s.tm.bezMeters = [] := by
  obtain ⟨-, hbezels, hmeters, -⟩ := h
  exact ⟨by rw [arrived_tm, hbezels], hmeters⟩

/-- A frame nobody accepts is counted. -/
theorem frame_nowhere (hp : p < 256) (hst : (s.port p).st = .up) (hline : lineCheck (s.port p) f = none) (hty : f.etherType ≠ 0x8808)
    (hlen : f.len ≤ (s.port p).maxLen) (hrct : f.rct = none) (hway : s.wayOf p f = .nowhere) (hfree : PathFree s) :
    ∃ t, onFrameReceived p f s = t ∧ t = { s.stamped p with loupe := t.loupe, mbx := t.mbx, mgmt := t.mgmt } ∧ Counted p 10 1 s t ∧ Counted p 1 1 s t := by
  obtain ⟨-, hmeters⟩ := hfree.arrived (p := p) (f := f)
  refine ⟨(s.arrived p f.len).countPort p 10, ?_, ?_, ?_, ?_⟩
  · rw [onFrameReceived_of_good hp hst hline hty hlen hrct hmeters, hway]
  · exact ((arrived_tallied s p f.len).trans (countPort_quiet _ _ _).tallied).rest
  · have hcount := countPort_counted (s := s.arrived p f.len) (p := p) (pos := 10) (by decide)
    rwa [Counted, arrived_ctr, if_neg (by omega), if_neg (by omega)] at hcount
  · exact (arrived_counted (countN_other _ _ _ _ _ (by omega)) (countN_other _ _ _ _ _ (by omega))).1

/-- A frame that the service engine serves waits for it and holds its cells. -/
theorem frame_tse (hp : p < 256) (hst : (s.port p).st = .up) (hline : lineCheck (s.port p) f = none) (hty : f.etherType ≠ 0x8808)
    (hlen : f.len ≤ (s.port p).maxLen) (hrct : f.rct = none) (hway : s.wayOf p f = .tse) (hfree : PathFree s) (hin : s.tse.inputs = [])
    (hcells : cellsOf f.len ≤ 64) (hip : f.ipBad = false) :
    ∃ t, onFrameReceived p f s = t ∧ t = { s.stamped p with tse := t.tse, tm := t.tm, loupe := t.loupe, mbx := t.mbx, mgmt := t.mgmt } ∧
      (t.input (pipeOf f)).map (fun e => (e.port, e.bezel, e.f, e.stamp, e.timed, e.colour)) =
        [(p, s.portOwner p, f, (s.port p).rxStamp f.tb, true, .green)] ∧
      (t.tmBez (s.portOwner p)).held = cellsOf f.len ∧ Counted p 1 1 s t ∧ Counted p 0 f.len s t ∧ Counted (256 + s.portOwner p) 0 1 s t ∧
      t.tse.services = s.tse.services ∧ t.tse.grants = s.tse.grants := by
  obtain ⟨hbezels, hmeters⟩ := hfree.arrived (p := p) (f := f)
  set b := s.portOwner p
  set u := (s.arrived p f.len).takeCells b (cellsOf f.len) with hu
  set w := u.onTse fun x => { x with inputs := x.inputs.put (pipeOf f) [u.rxEntry p b f] } with hw
  have hctr : w.loupe = (s.arrived p f.len).loupe := rfl
  have htse : u.tse = s.tse := arrived_tse s p f.len
  have hheld : u.tmBez b = { ({} : TmBezel) with held := 0 + cellsOf f.len } := by
    rw [hu, State.takeCells, State.onTmBez, State.tmBez, onTm_tm, Tab.look_upd_self, hbezels]
    rfl
  have hres : ∀ q ∈ u.tm.bezels, q.2.reserve = 0 := by
    have hone : u.tm.bezels = [(b, { ({} : TmBezel) with held := 0 + cellsOf f.len })] := by
      rw [hu, State.takeCells, State.onTmBez, onTm_tm, hbezels]
      rfl
    intro q hq
    rw [hone, List.mem_singleton] at hq
    rw [hq]
  have hentry : (u.rxEntry p b f).stamp = (s.port p).rxStamp f.tb ∧ (u.rxEntry p b f).timed = true := by
    have hport : u.port p = (s.stamped p).port p := arrived_port s p f.len p
    constructor
    · change (u.port p).rxStamp f.tb = _
      rw [hport, stamped_rxStamp]
    · change decide ((u.port p).st = .up) = true
      rw [hport, stamped_port_st, hst, decide_eq_true rfl]
  have hsame : ∀ j, j < 256 * 32 → (w.countBezel b 0).loupe.ctr.look 0 j = (s.arrived p f.len).loupe.ctr.look 0 j :=
    fun j hj => countN_other w (256 + b) 0 1 j (by omega)
  have hrun : onFrameReceived p f s = w.countBezel b 0 := by
    rw [onFrameReceived_of_good hp hst hline hty hlen hrct hmeters, hway]
    dsimp only
    rw [if_pos (canTake_of_free hbezels hcells _), toTse_of_free (by rw [htse, hin]) hres hip]
  refine ⟨_, hrun, ?_, ?_, ?_, ?_, ?_, ?_, ?_, ?_⟩
  · exact (arrived_tallied s p f.len).served rfl (countBezel_quiet w b 0).tallied
  · have hinput : (w.countBezel b 0).input (pipeOf f) = [u.rxEntry p b f] := by
      rw [State.input, countBezel_tse]
      exact Tab.look_put_self _ _ _ _
    obtain ⟨hstamp, htimed⟩ := hentry
    rw [hinput, List.map_singleton, hstamp, htimed]
    rfl
  · rw [State.tmBez, countBezel_tm]
    change (u.tmBez b).held = _
    rw [hheld, Nat.zero_add]
  · exact (arrived_counted (hsame _ (by omega)) (hsame _ (by omega))).1
  · exact (arrived_counted (hsame _ (by omega)) (hsame _ (by omega))).2
  · have hcount := countN_counted (s := w) (bank := 256 + b) (pos := 0) 1 (.inl (by decide))
    rwa [Counted, hctr, arrived_ctr, if_neg (by omega), if_neg (by omega)] at hcount
  · rw [countBezel_tse]
    exact (congrArg TseSt.services htse :)
  · rw [countBezel_tse]
    exact (congrArg TseSt.grants htse :)

/-- A frame that a filter claims is in the host ring. -/
theorem frame_ring {i k : Nat} {r : PortRing} {d : TxDesc} (hp : p < 256) (hst : (s.port p).st = .up) (hline : lineCheck (s.port p) f = none)
    (hty : f.etherType ≠ 0x8808) (hlen : f.len ≤ (s.port p).maxLen) (hrct : f.rct = none) (hway : s.wayOf p f = .ring i k) (hfree : PathFree s)
    (hcells : cellsOf f.len ≤ 64) (hr : s.pring k = some r) (hrx : r.rx = true) (hport : r.port = p) (hd : r.descs = [d]) (htaken : r.taken = r.done)
    (hl : r.late = []) (hb : r.back = []) (hf : s.masterFrozen r.owner 1 k = false) (hdma : s.dmaOk r.owner d.addr d.len = true)
    (hfit : f.len - 4 ≤ d.len) :
    ∃ t, onFrameReceived p f s = t ∧ t = { s.stamped p with ports := t.ports, loupe := t.loupe, mbx := t.mbx, mgmt := t.mgmt } ∧
      (t.pring k).map (fun x => (x.descs, x.done)) = some ([], r.done + 1) ∧ t.ports.ports = (s.stamped p).ports.ports ∧
      ((t.pring k).map fun x => x.back.map fun b => (b.status, b.len, b.trunc, b.filter, b.tsv, b.ns32)) =
        some [(0, f.len - 4, false, i, true, (ns32Of ((s.port p).rxStamp f.tb)).1)] ∧ Counted p 1 1 s t := by
  obtain ⟨hbezels, hmeters⟩ := hfree.arrived (p := p) (f := f)
  set u := s.arrived p f.len with hu
  have htal : Tallied (s.stamped p) u := arrived_tallied s p f.len
  have htaken' := stamped_stampTaken s p
  have hring : u.pring k = some r := by
    rw [pring_congr htal.ports, ← hr, State.pring, htaken'.one.rings]
    rfl
  have hfrozen : u.masterFrozen r.owner 1 k = false := by
    rw [htal.masterFrozen, ← hf, htaken'.rest]
    rfl
  have hdmaOk : u.dmaOk r.owner d.addr d.len = true := by
    rw [htal.dmaOk, ← hdma, htaken'.rest]
    rfl
  have hstamp : (u.port p).rxStamp f.tb = (s.port p).rxStamp f.tb := by rw [hu, arrived_port, stamped_rxStamp]
  have hup : (u.port p).st = .up := by rw [hu, arrived_port, stamped_port_st, hst]
  have hrun : onFrameReceived p f s = u.toRing p i k f false := by
    rw [onFrameReceived_of_good hp hst hline hty hlen hrct hmeters, hway]
    exact if_pos (canTake_of_free hbezels hcells _)
  rw [toRing_of_next hring hrx hport hd htaken hl hfrozen hdmaOk hup, hstamp, Nat.min_eq_left hfit] at hrun
  refine ⟨_, hrun, ?_, ?_, ?_, ?_, ?_⟩
  · exact htal.ports_announced rfl
  · rw [announce_pring, onPring_pring, if_pos rfl, onPring_pring, if_pos rfl, hring]
    rfl
  · exact (congrArg PortsSt.ports htal.ports :)
  · rw [announce_pring, onPring_pring, if_pos rfl, onPring_pring, if_pos rfl, hring]
    simp only [Option.map_some, PortRing.wrote_back_of_none (r := { r with descs := [], taken := r.taken + 1 }) hb, List.map_singleton]
  · exact (arrived_counted (s := s) (p := p) (len := f.len) rfl rfl).1

end

/-- Settles O23: a bad frame is one count; a good one is stamped and counted before its way, which those leave as it was. -/
theorem frameReceptionEvents : Obligations.FrameReceptionEvents := by
  unfold Obligations.FrameReceptionEvents
  refine ⟨?_, ?_, ?_, ?_, ?_, ?_⟩
  · intro s p f ha hup huntimed
    refine Does.of_alive rfl ha (onFrameReceived_of_unlinked ?_)
    simp [PortSt.linked, hup, huntimed]
  · intro s p f ha hp hst hcal hfec hcode hfcs
    have hline : lineCheck (s.port p) f = some 4 := by simp [lineCheck, hcal, hfec, hcode, hfcs]
    refine Does.of_alive (u := s.countPort p 4) ?_ ha ?_
    · rw [← onFrameReceived_of_bad hp (PortSt.linked_of_up hst) hline]
      rfl
    · exact ⟨countN_rest s p 4 1, countPort_counted (by decide), countN_other _ _ _ _ _ (by omega)⟩
  · intro s p f ha hp hst hcal hfec hcode hfcs hlen
    have hline : lineCheck (s.port p) f = some 7 := by simp [lineCheck, hcal, hfec, hcode, hfcs, hlen]
    refine Does.of_alive (u := s.countPort p 7) ?_ ha ?_
    · rw [← onFrameReceived_of_bad hp (PortSt.linked_of_up hst) hline]
      rfl
    · exact ⟨countN_rest s p 7 1, countPort_counted (by decide)⟩
  · intro s p f ha hp hst hline hty hlen hrct hway hfree hin hcells hip
    obtain ⟨t, ht, hP⟩ := frame_tse hp hst hline hty hlen hrct hway hfree hin hcells hip
    exact Does.of_alive (u := t) (by rw [← ht]; rfl) ha hP
  · intro s p i k f r d ha hp hst hline hty hlen hrct hway hfree hcells hr hrx hport hd htaken hl hb hf hdma hfit
    obtain ⟨t, ht, hP⟩ := frame_ring hp hst hline hty hlen hrct hway hfree hcells hr hrx hport hd htaken hl hb hf hdma hfit
    exact Does.of_alive (u := t) (by rw [← ht]; rfl) ha hP
  · intro s p f ha hp hst hline hty hlen hrct hway hfree
    obtain ⟨t, ht, hP⟩ := frame_nowhere hp hst hline hty hlen hrct hway hfree
    exact Does.of_alive (u := t) (by rw [← ht]; rfl) ha hP

end Sys2Proof.Machine
end

section

/-! ### Transmission of a port: what its operations leave (R262-R275, R290, R383, R384) -/

namespace Sys2Proof.Machine

/-! ### Shapers -/

/-- Nothing changed but shapers. -/
def ShapersOnly (s t : State) : Prop :=
  t = { s with tm := { s.tm with subShapers := t.tm.subShapers, svcShapers := t.tm.svcShapers, portShapers := t.tm.portShapers } }

section
variable {s t u : State}

theorem ShapersOnly.refl (s : State) : ShapersOnly s s := rfl

theorem ShapersOnly.trans (h : ShapersOnly s t) (k : ShapersOnly t u) : ShapersOnly s u := by
  unfold ShapersOnly at *
  rw [k, h]

theorem ShapersOnly.ports (h : ShapersOnly s t) : t.ports = s.ports := (congrArg State.ports h :)
theorem ShapersOnly.queues (h : ShapersOnly s t) : t.tm.queues = s.tm.queues := (congrArg (fun x : State => x.tm.queues) h :)
theorem ShapersOnly.bezels (h : ShapersOnly s t) : t.tm.bezels = s.tm.bezels := (congrArg (fun x : State => x.tm.bezels) h :)
theorem ShapersOnly.loupe (h : ShapersOnly s t) : t.loupe = s.loupe := (congrArg State.loupe h :)
theorem ShapersOnly.rest (h : ShapersOnly s t) : t = { s with tm := t.tm } := by
  unfold ShapersOnly at h
  rw [h]

theorem onShaper_shapersOnly (s : State) (kind i : Nat) (f : Shaper → Shaper) : ShapersOnly s (s.onShaper kind i f) := by
  unfold State.onShaper ShapersOnly
  rcases kind with - | - | k
  · rfl
  · rfl
  · have h0 : ¬ k + 2 = 0 := by omega
    have h1 : ¬ k + 2 = 1 := by omega
    simp only [h0, h1, if_false]
    rfl

theorem setPhase_shapersOnly (s : State) (kind i : Nat) (ph : ShaperPhase) : ShapersOnly s (s.setPhase kind i ph) := by
  unfold State.setPhase
  dsimp only
  split
  · exact .refl s
  · exact onShaper_shapersOnly _ _ _ _

theorem followShapers_shapersOnly (s : State) (p : Nat) (f : TxFrame) : ShapersOnly s (s.followShapers p f) :=
  ((setPhase_shapersOnly _ _ _ _).trans (setPhase_shapersOnly _ _ _ _)).trans (setPhase_shapersOnly _ _ _ _)

/-- A shaper that was never used stands at no credit (R383). -/
theorem Shaper.run_credit_of_unused {x : Shaper} (hc : x.credit = 0) (hi : x.phase = .idle) (r now : Nat) : (x.run r now).credit = 0 := by
  unfold Shaper.run
  dsimp only
  split
  · rfl
  · rw [hi]
    simp [hc]

theorem credit_of_unused {kind i : Nat} (h : s.shaper kind i = {}) : s.credit kind i = 0 := by
  rw [State.credit, h]
  exact Shaper.run_credit_of_unused rfl rfl _ _

theorem freeCells_held (s : State) (b n : Nat) : ((s.freeCells b n).tmBez b).held = (s.tmBez b).held - n := by
  rw [State.freeCells, State.onTmBez, State.tmBez, onTm_tm, Tab.look_upd_self]
  rfl

/-! ### The choice of the next frame (R384) -/

theorem drr_nil (pass : Flow → Bool) (fuel : Nat) : drr pass fuel [] = none := by cases fuel <;> rfl

/-- A flow of one frame that may send and fits the quantum is served, and goes. -/
theorem drr_single {pass : Flow → Bool} {sub fuel : Nat} {f : TxFrame} (hpass : pass { sub := sub, frames := [f] } = false) (hlen : f.len ≤ 2048) :
    drr pass (fuel + 1) [{ sub := sub, frames := [f] }] = some (f, []) := by
  have hfits : f.len ≤ drrQuantum := hlen
  simp [drr, hpass, hfits]

/-- Where one class alone has an answer, the search of the classes gives it. -/
theorem findSome_classesDown {α : Type} {g : Nat → Option α} {c : Nat} {x : α} (hc : c < 8) (hx : g c = some x) (ho : ∀ k, k ≠ c → g k = none) :
    classesDown.findSome? g = some x := by
  have hmem : c ∈ classesDown := by
    simp only [classesDown, List.mem_cons, List.not_mem_nil]
    omega
  have hsome : (classesDown.findSome? g).isSome := List.findSome?_isSome_iff.mpr ⟨c, hmem, by rw [hx]; rfl⟩
  obtain ⟨y, hy⟩ := Option.isSome_iff_exists.mp hsome
  obtain ⟨k, -, hk⟩ := List.exists_of_findSome?_eq_some hy
  rcases eq_or_ne k c with rfl | hne
  · rw [hy, ← hk, hx]
  · rw [ho k hne] at hk
    cases hk

/-- A flow whose turn passes without a frame. -/
def State.passesTx (s : State) (w : Flow) : Bool :=
  decide (s.credit 0 w.sub < 0) || (s.squelched && (match w.frames with | f :: _ => f.kind.timed | [] => false))

/-- The frame a port sends next, with its class and the flows it leaves (R384). -/
def State.nextTx (s : State) (p : Nat) : Option (Nat × TxFrame × List Flow) :=
  classesDown.findSome? fun c =>
    if s.credit 1 (p * 8 + c) < 0 then none
    else (drr s.passesTx (10 * (s.svcQ p c).flows.length + 10) (s.svcQ p c).flows).map fun r => (c, r)

/-- A port at rest. -/
def PortSt.mayStart (x : PortSt) : Bool := !(!x.linked || x.wire.isSome || x.backoff.isSome || x.pause.isSome || x.cal.running || x.lpi != .active)

theorem startTx_of_busy {p : Nat} (h : (s.port p).mayStart = false) : s.startTx p = s := by
  have hbusy : (!(s.port p).linked || (s.port p).wire.isSome || (s.port p).backoff.isSome || (s.port p).pause.isSome || (s.port p).cal.running ||
      (s.port p).lpi != .active) = true := by simpa only [PortSt.mayStart, Bool.not_eq_false'] using h
  exact if_pos hbusy

theorem startTx_of_atRest {p : Nat} (h : (s.port p).mayStart = true) (hpurge : s.tm.queues = [] ∨ (s.port p).st ≠ .upUntimed) :
    s.startTx p = if s.credit 2 p < 0 then s else match s.nextTx p with
      | none => s
      | some (c, f, flows) => if s.overruns p f.len then s
        else ((s.onSvcQ p c fun q => { q with flows := flows }).onPort p fun y => { y with wire := some { f with attempts := f.attempts + 1 } }).followShapers
          p { f with attempts := f.attempts + 1 } := by
  have hfree : (!(s.port p).linked || (s.port p).wire.isSome || (s.port p).backoff.isSome || (s.port p).pause.isSome || (s.port p).cal.running ||
      (s.port p).lpi != .active) = false := by simpa only [PortSt.mayStart, Bool.not_eq_true'] using h
  have hkept : (if (s.port p).st = .upUntimed then s.purge p (fun f => f.kind.timed) fun f t => (t.countPort p 25).backFrame f 5 else s) = s := by
    rcases hpurge with hq | hst
    · rw [purge_of_empty hq, ite_self]
    · rw [if_neg hst]
  unfold State.startTx
  simp only [hfree, Bool.false_eq_true, if_false, hkept]
  rfl

theorem nextTx_of_empty (h : s.tm.queues = []) (p : Nat) : s.nextTx p = none := by
  refine List.findSome?_eq_none_iff.mpr fun c _ => ?_
  rw [svcQ_of_empty h, drr_nil]
  exact ite_self _

/-- Where nothing is queued, nothing is sent. -/
theorem startTx_of_empty (h : s.tm.queues = []) (p : Nat) : s.startTx p = s := by
  cases hrest : (s.port p).mayStart with
  | false => exact startTx_of_busy hrest
  | true =>
    rw [startTx_of_atRest hrest (.inl h), nextTx_of_empty h]
    exact ite_self _

/-- The only frame of the device, in its flow on port p, is the next of that port when nothing shapes it. -/
theorem nextTx_of_only {p : Nat} {f : TxFrame} (hq : s.tm.queues = [(p * 8 + f.cls, { flows := [{ sub := f.sub, frames := [f] }] })])
    (hsub : s.tm.subShapers = []) (hsvc : s.tm.svcShapers = []) (hc : f.cls < 8) (hlen : f.len ≤ 2048) (hk : f.kind = .host) :
    s.nextTx p = some (f.cls, f, []) := by
  have hcredit0 : s.credit 0 f.sub = 0 := credit_of_unused (by simp [State.shaper, hsub])
  have hcredit1 : ∀ c, s.credit 1 (p * 8 + c) = 0 := fun c => credit_of_unused (by simp [State.shaper, hsvc])
  have hpass : s.passesTx { sub := f.sub, frames := [f] } = false := by simp [State.passesTx, hcredit0, hk, TxKind.timed]
  have hflows : (s.svcQ p f.cls).flows = [{ sub := f.sub, frames := [f] }] := by
    rw [State.svcQ, hq]
    exact congrArg SvcQueue.flows (Tab.look_put_self [] _ _ _)
  refine findSome_classesDown hc ?_ fun k hne => ?_
  · rw [hcredit1, hflows, if_neg (lt_irrefl _), List.length_singleton, drr_single hpass hlen]
    rfl
  · have hnone : (s.svcQ p k).flows = [] := by
      rw [State.svcQ, hq]
      exact congrArg SvcQueue.flows (Tab.look_put_other [] _ _ (by omega))
    rw [hcredit1, hnone, drr_nil]
    rfl

/-! ### Stamps -/

theorem narrowNow_hall (s : State) (p : Nat) : (s.narrowNow p 1).hall = { s.hall with due := (s.hall.due ++ [p]).eraseDups } := rfl

theorem narrowNow_cal (s : State) (p : Nat) : ((s.narrowNow p 1).port p).cal = { (s.port p).cal with hotFrom := none, hotDone := false } :=
  congrArg PortSt.cal (onPort_port_self s p _)

/-- What a stamp does to the emission points depends on the calibration and the points alone (R81, R82). -/
theorem stamped_congr {p : Nat} (hh : t.hall = s.hall) (hc : (t.port p).cal = (s.port p).cal) :
    (t.stamped p).hall = (s.stamped p).hall ∧ ((t.stamped p).port p).cal = ((s.stamped p).port p).cal := by
  unfold State.stamped State.narrow
  rw [hh, hc]
  split
  · split
    · split
      · exact ⟨hh, hc⟩
      · refine ⟨?_, hc⟩
        rw [onHall_hall, onHall_hall, hh]
    · rw [narrowNow_hall, narrowNow_hall, narrowNow_cal, narrowNow_cal, hh, hc]
      exact ⟨rfl, rfl⟩
  · exact ⟨hh, hc⟩

/-- After a good run the first stamp ends the transient, or marks its end where a widening is due. -/
theorem stamped_of_narrowing {p : Nat} (hhot : (s.port p).cal.hotDone = true) (hw : p ∉ s.hall.widen) :
    ((s.stamped p).port p).cal = { (s.port p).cal with hotFrom := none, hotDone := false } ∧ p ∈ (s.stamped p).hall.due := by
  rw [State.stamped, if_pos hhot, State.narrow, if_neg hw, narrowNow_cal, narrowNow_hall]
  exact ⟨rfl, by simp⟩

theorem stamped_of_widening {p : Nat} (hhot : (s.port p).cal.hotDone = true) (hw : p ∈ s.hall.widen) :
    ((s.stamped p).port p).cal = (s.port p).cal ∧ (p, 1) ∈ (s.stamped p).hall.narrow := by
  rw [State.stamped, if_pos hhot, State.narrow, if_pos hw]
  split
  · next hmem => exact ⟨rfl, hmem⟩
  · exact ⟨rfl, by simp⟩

end

end Sys2Proof.Machine
end

section

/-! ### Transmission: the events of a port (R266-R275, R278, R290, R384, R590) -/

namespace Sys2Proof.Machine

section
variable {s t u : State} {p : Nat}

/-- Of the ports only this one changes, as `g` says, and of the rest the traffic manager. -/
structure PortStep (p : Nat) (g : PortSt → PortSt) (s t : State) : Prop where
  one : OnePort p s t
  port : t.port p = g (s.port p)
  rest : t = { s with ports := t.ports, tm := t.tm }

theorem PortStep.loupe {g : PortSt → PortSt} (h : PortStep p g s t) : t.loupe = s.loupe := (congrArg State.loupe h.rest :)

theorem PortStep.free {g : PortSt → PortSt} (h : PortStep p g s t) : t.free = s.free := (congrArg State.free h.rest :)

theorem portStep_onPort (s : State) (p : Nat) (g : PortSt → PortSt) : PortStep p g s (s.onPort p g) :=
  ⟨(OnePort.of_ports rfl).onPort g, onPort_port_self s p g, rfl⟩

/-- Frames taken from or put into the traffic manager leave the step as it is. -/
theorem PortStep.onTm {g : PortSt → PortSt} (h : PortStep p g s t) (f : TmSt → TmSt) : PortStep p g s (t.onTm f) :=
  ⟨h.one.trans (.of_ports rfl), h.port, by rw [h.rest]; rfl⟩

theorem PortStep.dropFrame {g : PortSt → PortSt} (h : PortStep p g s t) (f : TxFrame) : PortStep p g s (t.dropFrame f) :=
  h.onTm fun x => { x with bezels := x.bezels.upd {} f.bezel fun z => { z with held := z.held - cellsOf f.len } }

theorem PortStep.followShapers {g : PortSt → PortSt} (h : PortStep p g s t) (f : TxFrame) : PortStep p g s (t.followShapers p f) := by
  have hs := followShapers_shapersOnly t p f
  refine ⟨h.one.trans (.of_ports hs.ports), (port_congr hs.ports p).trans h.port, ?_⟩
  rw [hs.rest, h.rest]

/-- A port's step after counts leaves what counts and the step leave. -/
theorem PortStep.after_counts {g : PortSt → PortSt} (hs : Tallied s u) (h : PortStep p g u t) :
    t = { s with ports := t.ports, tm := t.tm, loupe := t.loupe, mbx := t.mbx, mgmt := t.mgmt } := by
  rw [h.rest, hs.rest]

theorem PortStep.others_after_counts {g : PortSt → PortSt} (hs : Tallied s u) (h : PortStep p g u t) {k : Nat} (hk : k ≠ p) : t.port k = s.port k :=
  (h.one.others k hk).trans (port_congr hs.ports k)

/-- A count and then a port's own change. -/
theorem Tallied.onPort_rest (h : Tallied s t) (f : PortSt → PortSt) :
    t.onPort p f = { s with ports := (t.onPort p f).ports, loupe := (t.onPort p f).loupe, mbx := (t.onPort p f).mbx, mgmt := (t.onPort p f).mgmt } := by
  have hports : ∀ u : State, u.onPort p f = { u with ports := (u.onPort p f).ports } := fun _ => rfl
  rw [hports, h.rest]

theorem countPort_port (s : State) (p k q : Nat) : (s.countPort p k).port q = s.port q := port_congr (countPort_ports s p k) q

/-! ### PAUSE -/

theorem onPauseFrame_of_good {q : Nat} (hl : (s.port p).linked = true) (hc : (s.port p).cal.running = false) (hh : (s.port p).half = false)
    (hrx : (s.port p).pauseRx = true) (hhold : (s.port p).holding = false) :
    onPauseFrame p q true true s = if q % 65536 = 0 then (s.countPort p 12).onPort p fun y => { y with pause := none }
      else (s.countPort p 12).onPort p fun y => { y with
        pause := some (s.pcyc + pauseCycles (s.port p).mode (q % 65536)), pauseFrom := if y.pause.isSome then y.pauseFrom else s.pcyc } := by
  simp [onPauseFrame, hl, hc, hh, hrx, hhold]

theorem onPauseFrame_of_bad {q : Nat} {forUs : Bool} (hl : (s.port p).linked = true) (hc : (s.port p).cal.running = false) :
    onPauseFrame p q forUs false s = s.countPort p 4 := by
  simp [onPauseFrame, hl, hc]

/-! ### Collisions -/

/-- The frame on the wire ends. -/
def PortSt.unwire (y : PortSt) : PortSt := { y with wire := none }

/-- The frame on the wire waits for its back-off. -/
def PortSt.backOff (f : TxFrame) (r : Nat) (y : PortSt) : PortSt := { y with wire := none, backoff := some (f, r) }

/-- A random number of the MAC's DRBG is drawn (R270). -/
def State.drawn (s : State) : State := s.nextFree.onKeys fun k => { k with drbgs := k.drbgs.upd {} 5 fun d => { d with requests := d.requests + 1 } }

theorem onCollision_of_early {f : TxFrame} (hw : (s.port p).wire = some f) (hh : (s.port p).half = true) (ha : f.attempts < 16) :
    onCollision p false s =
      ((s.countPort p 16).drawn.onPort p (.backOff f (Config.randomBytes 2 s.free % 2 ^ min f.attempts 10))).followShapers p f := by
  have hfew : ¬ 16 ≤ f.attempts := by omega
  simp only [onCollision, hw, hh, hfew, Bool.not_true, Bool.false_eq_true, if_false]
  rfl

theorem onCollision_of_late {f : TxFrame} (hw : (s.port p).wire = some f) (hh : (s.port p).half = true) (hd : f.desc = none) :
    onCollision p true s = ((((s.countPort p 16).countPort p 18).onPort p .unwire).dropFrame f).followShapers p f := by
  simp only [onCollision, hw, hh, Bool.not_true, Bool.false_eq_true, if_false, if_true, State.abortTx, State.backFrame, hd]
  rfl

theorem drawn_rest (h : Tallied s u) {g : PortSt → PortSt} (ht : PortStep p g u.drawn t) :
    t = { s with ports := t.ports, tm := t.tm, keys := t.keys, free := t.free, loupe := t.loupe, mbx := t.mbx, mgmt := t.mgmt } := by
  have hdrawn : u.drawn = { u with keys := u.drawn.keys, free := u.drawn.free } := rfl
  rw [ht.rest, hdrawn, h.rest]

variable {f : TxFrame}

/-- A frame that collides early waits for its back-off. -/
theorem collision_early (hw : (s.port p).wire = some f) (hh : (s.port p).half = true) (ha : f.attempts < 16) :
    ∃ t, onCollision p false s = t ∧ (t.port p).wire = none ∧ (t.port p).backoff.map (·.1) = some f ∧
      ((t.port p).backoff.map fun x => decide (x.2 < 2 ^ min f.attempts 10)) = some true ∧ Counted p 16 1 s t ∧
      t.free = s.free + 1 ∧ (∀ k, k ≠ p → t.port k = s.port k) ∧
      t = { s with ports := t.ports, tm := t.tm, keys := t.keys, free := t.free, loupe := t.loupe, mbx := t.mbx, mgmt := t.mgmt } := by
  have htal : Tallied s (s.countPort p 16) := (countPort_quiet s p 16).tallied
  have hstep := (portStep_onPort (s.countPort p 16).drawn p (.backOff f (Config.randomBytes 2 s.free % 2 ^ min f.attempts 10))).followShapers f
  refine ⟨_, onCollision_of_early hw hh ha, ?_, ?_, ?_, ?_, ?_, ?_, drawn_rest htal hstep⟩
  · rw [hstep.port]
    rfl
  · rw [hstep.port]
    rfl
  · rw [hstep.port]
    exact congrArg some (decide_eq_true (Nat.mod_lt _ (Nat.two_pow_pos _)))
  · rw [Counted, hstep.loupe]
    exact countPort_counted (by decide)
  · rw [hstep.free]
    exact congrArg (· + 1) (countPort_free s p 16)
  · exact fun k hk => (hstep.one.others k hk).trans (countPort_port s p 16 k)

/-- A frame that collides late ends. -/
theorem collision_late (hw : (s.port p).wire = some f) (hh : (s.port p).half = true) (hd : f.desc = none) :
    ∃ t, onCollision p true s = t ∧ (t.port p).wire = none ∧ (t.port p).backoff = (s.port p).backoff ∧ Counted p 16 1 s t ∧ Counted p 18 1 s t ∧
      (∀ k, k ≠ p → t.port k = s.port k) ∧ (t.tmBez f.bezel).held = (s.tmBez f.bezel).held - cellsOf f.len ∧
      t = { s with ports := t.ports, tm := t.tm, loupe := t.loupe, mbx := t.mbx, mgmt := t.mgmt } := by
  have htal : Tallied s ((s.countPort p 16).countPort p 18) := ((countPort_quiet s p 16).trans (countPort_quiet _ p 18)).tallied
  have hstep := ((portStep_onPort ((s.countPort p 16).countPort p 18) p .unwire).dropFrame f).followShapers f
  have h16 : ((s.countPort p 16).countPort p 18).loupe.ctr.look 0 (p * 32 + 16) = (s.countPort p 16).loupe.ctr.look 0 (p * 32 + 16) :=
    countN_other _ p 18 1 _ (by omega)
  have h18 : (s.countPort p 16).loupe.ctr.look 0 (p * 32 + 18) = s.loupe.ctr.look 0 (p * 32 + 18) := countN_other _ p 16 1 _ (by omega)
  refine ⟨_, onCollision_of_late hw hh hd, ?_, ?_, ?_, ?_, fun k hk => hstep.others_after_counts htal hk, ?_, hstep.after_counts htal⟩
  · exact congrArg PortSt.wire hstep.port
  · rw [hstep.port, port_congr htal.ports]
    rfl
  · rw [Counted, hstep.loupe, h16]
    exact countPort_counted (by decide)
  · have hcount := countPort_counted (s := s.countPort p 16) (p := p) (pos := 18) (by decide)
    rw [Counted, hstep.loupe]
    rwa [Counted, h18] at hcount
  · rw [State.tmBez, (followShapers_shapersOnly _ _ _).bezels]
    refine (freeCells_held _ _ _).trans ?_
    have htm : ((s.countPort p 16).countPort p 18).tm = s.tm := by rw [countPort_tm, countPort_tm]
    exact congrArg (fun x : TmSt => (x.bezels.look {} f.bezel).held - cellsOf f.len) htm

end

end Sys2Proof.Machine
end

section

/-! ### Transmission: frames that leave, and the doorbells of rings (R272, R278, R290, R384, R590) -/

namespace Sys2Proof.Machine

section
variable {s t u : State} {p : Nat} {f : TxFrame}

/-! ### The start of a frame -/

/-- The only frame of a class goes on the wire. -/
theorem transmit_start (hst : (s.port p).st = .up) (hw : (s.port p).wire = none) (hb : (s.port p).backoff = none) (hpause : (s.port p).pause = none)
    (hcal : (s.port p).cal.running = false) (hlpi : (s.port p).lpi = .active) (hl : (s.port p).launches = []) (hc : f.cls < 8) (hlen : f.len ≤ 2048)
    (hk : f.kind = .host) (hq : s.tm.queues = [(p * 8 + f.cls, { flows := [{ sub := f.sub, frames := [f] }] })]) (hsub : s.tm.subShapers = [])
    (hsvc : s.tm.svcShapers = []) (hport : s.tm.portShapers = []) :
    ∃ t, onTransmitStart p s = t ∧ t = { s with ports := t.ports, tm := t.tm } ∧
      t.port p = { s.port p with wire := some { f with attempts := f.attempts + 1 } } ∧ (t.svcQ p f.cls).flows = [] ∧
      (∀ k, k ≠ p → t.port k = s.port k) ∧ t.tm.bezels = s.tm.bezels := by
  have hrest : (s.port p).mayStart = true := by simp [PortSt.mayStart, PortSt.linked, hst, hw, hb, hpause, hcal, hlpi]
  have hcredit : s.credit 2 p = 0 := credit_of_unused (by simp [State.shaper, hport])
  have hover : s.overruns p f.len = false := by simp [State.overruns, hl]
  have hrun : onTransmitStart p s = ((s.onSvcQ p f.cls fun q => { q with flows := [] }).onPort p fun y =>
      { y with wire := some { f with attempts := f.attempts + 1 } }).followShapers p { f with attempts := f.attempts + 1 } := by
    rw [onTransmitStart, startTx_of_atRest hrest (.inr (by rw [hst]; decide)), hcredit, if_neg (lt_irrefl _), nextTx_of_only hq hsub hsvc hc hlen hk]
    simp only [hover, Bool.false_eq_true, if_false]
  set u := s.onSvcQ p f.cls fun q => { q with flows := [] } with hu
  have hstep := (portStep_onPort u p fun y => { y with wire := some { f with attempts := f.attempts + 1 } }).followShapers { f with attempts := f.attempts + 1 }
  have hshapers := followShapers_shapersOnly (u.onPort p fun y => { y with wire := some { f with attempts := f.attempts + 1 } }) p
    { f with attempts := f.attempts + 1 }
  refine ⟨_, hrun, ?_, hstep.port, ?_, hstep.one.others, hshapers.bezels⟩
  · rw [hstep.rest]
    rfl
  · rw [State.svcQ, hshapers.queues]
    have hflows : (u.svcQ p f.cls).flows = [] := by
      rw [hu, State.svcQ, State.onSvcQ, onTm_tm, Tab.look_upd_self]
    exact hflows

/-! ### The end of a frame -/

/-- A frame that bears no Follow_Up has left the wire at a stamp. -/
def PortSt.sentAt (f : TxFrame) (octets : List Nat) (stamp : Nat) (y : PortSt) : PortSt :=
  { y with wire := none, sent := some ({ f with octets := octets }, stamp) }

/-- The state after a host frame has left, its cells are free and it is counted, before its stamp (R262, R290). -/
@[irreducible] def State.departed (s : State) (p tb : Nat) (f : TxFrame) : State :=
  (((s.onPort p (.sentAt f (s.octetsOf p f ((s.port p).txStamp tb)) ((s.port p).txStamp tb))).dropFrame f).followShapers p f).countTx p f.len

theorem countTx_tallied (s : State) (p len : Nat) : Tallied s (s.countTx p len) :=
  (((countN_quiet _ _ _ _).trans (countPort_quiet _ _ _)).tallied.trans (derive_tallied _ _ _ _ _)).trans (derive_tallied _ _ _ _ _)

theorem countTx_counted (s : State) (p len : Nat) : Counted p 3 1 s (s.countTx p len) ∧ Counted p 2 len s (s.countTx p len) := by
  rw [Counted, Counted, State.countTx, derive_ctr, derive_ctr, State.countPort, countN_ctr 1 (.inl (by decide)), countN_ctr 1 (.inl (by decide)),
    countN_ctr len (.inl (by decide)), countN_ctr len (.inl (by decide)), if_pos rfl, if_neg (show ¬ p * 32 + 3 = p * 32 + 2 by omega),
    if_neg (show ¬ p * 32 + 2 = p * 32 + 3 by omega), if_pos rfl]
  exact ⟨rfl, rfl⟩

/-- What a departed frame leaves, before its stamp. -/
structure Departed (p tb : Nat) (f : TxFrame) (s t : State) : Prop where
  one : OnePort p s t
  port : t.port p = (s.port p).sentAt f (s.octetsOf p f ((s.port p).txStamp tb)) ((s.port p).txStamp tb)
  rest : t = { s with ports := t.ports, tm := t.tm, loupe := t.loupe, mbx := t.mbx, mgmt := t.mgmt }
  held : (t.tmBez f.bezel).held = (s.tmBez f.bezel).held - cellsOf f.len
  frames : Counted p 3 1 s t
  octets : Counted p 2 f.len s t
  frozen : ∀ b kind index, t.masterFrozen b kind index = s.masterFrozen b kind index

theorem departed_departed (s : State) (p tb : Nat) (f : TxFrame) : Departed p tb f s (s.departed p tb f) := by
  unfold State.departed
  have hstep := ((portStep_onPort s p (.sentAt f (s.octetsOf p f ((s.port p).txStamp tb)) ((s.port p).txStamp tb))).dropFrame f).followShapers f
  have hheld : ((((s.onPort p (.sentAt f (s.octetsOf p f ((s.port p).txStamp tb)) ((s.port p).txStamp tb))).dropFrame f).followShapers p f).tmBez f.bezel).held =
      (s.tmBez f.bezel).held - cellsOf f.len := by
    rw [State.tmBez, (followShapers_shapersOnly _ _ _).bezels]
    exact freeCells_held _ _ _
  revert hstep hheld
  generalize (((s.onPort p (.sentAt f (s.octetsOf p f ((s.port p).txStamp tb)) ((s.port p).txStamp tb))).dropFrame f).followShapers p f) = u
  intro hstep hheld
  have htal := countTx_tallied u p f.len
  obtain ⟨hframes, hoctets⟩ := countTx_counted u p f.len
  have htm : (u.countTx p f.len).tm = u.tm := (congrArg State.tm htal.rest :)
  have hmasters : ∀ b kind index, u.masterFrozen b kind index = s.masterFrozen b kind index := fun b kind index => by
    rw [hstep.rest]
    rfl
  refine ⟨hstep.one.trans (.of_ports htal.ports), (port_congr htal.ports p).trans hstep.port, ?_, ?_, ?_, ?_,
    fun b kind index => (htal.masterFrozen b kind index).trans (hmasters b kind index)⟩
  · rw [htal.rest, hstep.rest]
  · rw [State.tmBez, htm]
    exact hheld
  · rw [Counted, hframes, hstep.loupe]
  · rw [Counted, hoctets, hstep.loupe]

theorem onTransmitComplete_of_host {tb : Nat} (hw : (s.port p).wire = some f) (hk : f.kind = .host) :
    onTransmitComplete p tb s = match f.desc with
      | none => (s.departed p tb f).stamped p
      | some (hd, place) => ((s.departed p tb f).stamped p).backDesc hd place
        { status := 0, tsv := f.tsreq && decide ((s.port p).st = .up), attempts := f.attempts, cookie := f.cookie,
          ns32 := if f.tsreq && (s.port p).st = .up then (ns32Of ((s.port p).txStamp tb)).1 else 0,
          frac := if f.tsreq && (s.port p).st = .up then (ns32Of ((s.port p).txStamp tb)).2 else 0 } := by
  have hsync : decide (f.kind = .sync) = false := by rw [hk]; rfl
  have hpdelay : decide (f.kind = .pdelayResp) = false := by rw [hk]; rfl
  rw [State.departed]
  simp only [onTransmitComplete, hw, hsync, hpdelay, Bool.or_self, Bool.false_and, Bool.false_eq_true, if_false]
  rfl

/-- The first stamp after the frame does to the points and the calibration what it would have done before it. -/
theorem Departed.stamped {tb : Nat} (h : Departed p tb f s t) :
    (t.stamped p).hall = (s.stamped p).hall ∧ ((t.stamped p).port p).cal = ((s.stamped p).port p).cal := by
  have hhall : t.hall = s.hall := (congrArg State.hall h.rest :)
  refine stamped_congr hhall ?_
  rw [h.port]
  rfl

theorem Departed.stamped_rest {tb : Nat} (h : Departed p tb f s t) :
    t.stamped p = { s.stamped p with ports := (t.stamped p).ports, tm := (t.stamped p).tm, loupe := (t.stamped p).loupe, mbx := (t.stamped p).mbx, mgmt := (t.stamped p).mgmt } := by
  obtain ⟨hhall, -⟩ := h.stamped
  have ht := (stamped_stampTaken t p).rest
  have hs := (stamped_stampTaken s p).rest
  rw [hs]
  rw [hhall] at ht
  rw [ht, h.rest]

theorem Departed.stamped_port {tb : Nat} (h : Departed p tb f s t) : (t.stamped p).port p =
    { (s.stamped p).port p with wire := none, sent := some ({ f with octets := s.octetsOf p f ((s.port p).txStamp tb) }, (s.port p).txStamp tb) } := by
  obtain ⟨-, hcal⟩ := h.stamped
  have ht := (stamped_stampTaken t p).port
  have hs := (stamped_stampTaken s p).port
  rw [ht, hcal, h.port, hs]
  rfl

/-- A frame with no descriptor has left. -/
theorem transmit_complete {tb : Nat} (hw : (s.port p).wire = some f) (hd : f.desc = none) (hk : f.kind = .host) :
    ∃ t, onTransmitComplete p tb s = t ∧ t = { s.stamped p with ports := t.ports, tm := t.tm, loupe := t.loupe, mbx := t.mbx, mgmt := t.mgmt } ∧
      t.port p = { (s.stamped p).port p with wire := none, sent := some ({ f with octets := s.octetsOf p f ((s.port p).txStamp tb) }, (s.port p).txStamp tb) } ∧
      (t.tmBez f.bezel).held = (s.tmBez f.bezel).held - cellsOf f.len ∧ Counted p 3 1 s t ∧ Counted p 2 f.len s t ∧ (∀ k, k ≠ p → t.port k = s.port k) ∧
      ((s.port p).cal.hotDone = true → p ∉ s.hall.widen → (t.port p).cal = { (s.port p).cal with hotFrom := none, hotDone := false } ∧ p ∈ t.hall.due) ∧
      ((s.port p).cal.hotDone = true → p ∈ s.hall.widen → (t.port p).cal = (s.port p).cal ∧ (p, 1) ∈ t.hall.narrow) := by
  have hleft := departed_departed s p tb f
  have htaken := stamped_stampTaken (s.departed p tb f) p
  have hloupe : ((s.departed p tb f).stamped p).loupe = (s.departed p tb f).loupe := (congrArg State.loupe htaken.rest :)
  have htm : ((s.departed p tb f).stamped p).tm = (s.departed p tb f).tm := (congrArg State.tm htaken.rest :)
  obtain ⟨hhall, hcal⟩ := hleft.stamped
  refine ⟨(s.departed p tb f).stamped p, ?_, hleft.stamped_rest, hleft.stamped_port, ?_, ?_, ?_, ?_, ?_, ?_⟩
  · rw [onTransmitComplete_of_host hw hk, hd]
  · rw [State.tmBez, htm]
    exact hleft.held
  · rw [Counted, hloupe, hleft.frames]
  · rw [Counted, hloupe, hleft.octets]
  · exact fun k hk => (htaken.one.others k hk).trans (hleft.one.others k hk)
  · intro hhot hwiden
    rw [hhall, hcal]
    exact stamped_of_narrowing hhot hwiden
  · intro hhot hwiden
    rw [hhall, hcal]
    exact stamped_of_widening hhot hwiden

/-- A frame of a ring has left: its descriptor is written back with its stamp. -/
theorem transmit_complete_ring {tb hd place : Nat} {r : PortRing} (hw : (s.port p).wire = some f) (hdesc : f.desc = some (hd, place)) (hk : f.kind = .host)
    (hreq : f.tsreq = true) (hst : (s.port p).st = .up) (hr : s.pring hd = some r) (hdone : r.done = place) (hl : r.late = []) (hb : r.back = [])
    (hf : s.masterFrozen r.owner 1 hd = false) :
    ∃ t, onTransmitComplete p tb s = t ∧ (t.port p).wire = none ∧ (t.pring hd).map (·.done) = some (place + 1) ∧
      ((t.pring hd).map fun x => x.back.map fun b => (b.status, b.tsv, b.cookie, b.ns32, b.frac)) =
        some [(0, true, f.cookie, (ns32Of ((s.port p).txStamp tb)).1, (ns32Of ((s.port p).txStamp tb)).2)] := by
  have hleft := departed_departed s p tb f
  have htaken := stamped_stampTaken (s.departed p tb f) p
  have hring : ((s.departed p tb f).stamped p).pring hd = some r := by
    rw [← hr, State.pring, htaken.one.rings, hleft.one.rings]
    rfl
  have hfrozen : ((s.departed p tb f).stamped p).masterFrozen r.owner 1 hd = false := by
    rw [← hf, ← hleft.frozen, htaken.rest]
    rfl
  have hwire : (((s.departed p tb f).stamped p).port p).wire = none := congrArg PortSt.wire hleft.stamped_port
  have hrun := onTransmitComplete_of_host (tb := tb) hw hk
  rw [hdesc] at hrun
  dsimp only at hrun
  rw [backDesc_of_next hring hdone hl hfrozen] at hrun
  refine ⟨_, hrun, hwire, ?_, ?_⟩
  · rw [announce_pring, onPring_pring, if_pos rfl, hring, ← hdone]
    rfl
  · rw [announce_pring, onPring_pring, if_pos rfl, hring]
    simp only [Option.map_some, PortRing.wrote_back_of_none hb, List.map_singleton, hreq, hst, decide_true, Bool.and_self, if_true]

/-! ### Doorbells -/

theorem feed_of_rx {k : Nat} {r : PortRing} (hr : s.pring k = some r) (hrx : r.rx = true) (fuel : Nat) : s.feed k fuel = s := by
  cases fuel with
  | zero => rfl
  | succ n => simp [State.feed, hr, hrx]

variable {b k w : Nat} {l : List TxDesc} {r : PortRing}

theorem onPringDb_of_good (hen : s.fnEnabled b = true) (hfrozen : (s.fn b).frozen = false) (hw : w < 65536) (hr : s.pring k = some r) (ho : r.owner = b)
    (hrx : r.rx = true) (hf : s.masterFrozen b 1 k = false) (hn : l.length = (w + 65536 - r.tail) % 65536)
    (hsum : (r.tail + 65536 - r.done % 65536) % 65536 + l.length = (w + 65536 - r.done % 65536) % 65536)
    (hfit : (w + 65536 - r.done % 65536) % 65536 ≤ 2 ^ r.n) :
    onPringDb b k w l s = s.onPring k fun q => { q with tail := w, descs := q.descs ++ l } := by
  have hring : (s.onPring k fun q => { q with tail := w, descs := q.descs ++ l }).pring k = some { r with tail := w, descs := r.descs ++ l } := by
    rw [onPring_pring, if_pos rfl, hr]
    rfl
  have hrange : ¬ 65536 ≤ w := by omega
  have hroom : ¬ 2 ^ r.n < (w + 65536 - r.done % 65536) % 65536 := by omega
  unfold onPringDb
  simp only [hen, hfrozen, hrange, hr, ho, hf, ← hn, hsum, hroom, bne_self_eq_false, Bool.not_true, Bool.or_self, decide_false, Bool.false_eq_true, if_false]
  exact feed_of_rx hring hrx _

theorem onPringDb_of_impossible (hen : s.fnEnabled b = true) (hfrozen : (s.fn b).frozen = false) (hw : w < 65536) (hr : s.pring k = some r)
    (ho : r.owner = b) (hover : 2 ^ r.n < (w + 65536 - r.done % 65536) % 65536) :
    onPringDb b k w l s = s.onFn b fun x => { x with ignored := x.ignored + 1 } := by
  have hrange : ¬ 65536 ≤ w := by omega
  simp [onPringDb, hen, hfrozen, hrange, hr, ho, hover]

theorem onPringDb_of_foreign (hen : s.fnEnabled b = true) (hfrozen : (s.fn b).frozen = false) (hw : w < 65536) (hr : s.pring k = some r)
    (ho : r.owner ≠ b) : onPringDb b k w l s = s.freezeFn b 1 (0x8000 + 8 * k) := by
  have hrange : ¬ 65536 ≤ w := by omega
  simp [onPringDb, hen, hfrozen, hrange, hr, ho]

theorem freezeFn_rest (s : State) (b row object : Nat) : s.freezeFn b row object =
    { s with mbx := (s.freezeFn b row object).mbx, mgmt := (s.freezeFn b row object).mgmt, loupe := (s.freezeFn b row object).loupe } := by
  unfold State.freezeFn
  have hq := (reportFreeze_quiet (s.onFn b fun x => { x with frozen := true }) b 0 0 row object).rest
  exact hq

end

/-! ### O21 -/

/-- Settles O21, event by event: a port's own step between counts, and rings written back in their order. -/
theorem portTransmissionEvents : Obligations.PortTransmissionEvents := by
  unfold Obligations.PortTransmissionEvents
  refine ⟨?pause, ?unpause, ?badPause, ?pauseEnd, ?watchdog, ?holdoff, ?early, ?late, ?backoff, ?lpiEntry, ?lpiWake, ?lpiAwake, ?start, ?paused, ?complete,
    ?completeRing, ?doorbell, ?impossible, ?foreign⟩
  case pause =>
    intro s p q ha hst hcal hhalf hrx hhold hq
    have hrun := (onPauseFrame_of_good (q := q) (PortSt.linked_of_up hst) hcal hhalf hrx hhold).trans (if_neg hq)
    refine Does.of_alive rfl ha ?_
    rw [hrun]
    refine ⟨(countPort_quiet s p 12).tallied.onPort_rest _, countPort_counted (by decide), fun k hk => ?_, ?_⟩
    · rw [onPort_port_other _ _ hk.symm, countPort_port]
    · rw [onPort_port_self, countPort_port]
  case unpause =>
    intro s p ha hst hcal hhalf hrx hhold
    have hrun := (onPauseFrame_of_good (q := 0) (PortSt.linked_of_up hst) hcal hhalf hrx hhold).trans (if_pos rfl)
    refine Does.of_alive rfl ha ?_
    rw [hrun]
    refine ⟨(countPort_quiet s p 12).tallied.onPort_rest _, countPort_counted (by decide), ?_⟩
    rw [onPort_port_self, countPort_port]
  case badPause =>
    intro s p q u ha hst hcal
    refine Does.of_alive rfl ha ?_
    rw [onPauseFrame_of_bad (PortSt.linked_of_up hst) hcal]
    exact ⟨countN_rest s p 4 1, countPort_counted (by decide)⟩
  case pauseEnd =>
    intro s p ha
    exact Does.of_alive rfl ha ⟨rfl, onPort_port_self _ _ _, fun k hk => onPort_port_other _ _ hk.symm⟩
  case watchdog =>
    intro s p ha hpause hhold hlong
    have hrun : onPauseWatchdog p s = ((s.onPort p fun y => { y with pause := none, holding := true }).countPort p 15).logPartner 0x2081 p := by
      have hsome : (s.port p).pause.isNone = false := by rw [← Option.not_isSome, hpause]; rfl
      have hover : ¬ s.pcyc ≤ (s.port p).pauseFrom + (s.port p).watchdog * (packetHz / 1000) := by omega
      simp [onPauseWatchdog, hsome, hhold, hover]
    refine Does.of_alive rfl ha ?_
    rw [hrun]
    have hcount := countPort_quiet (s.onPort p fun y => { y with pause := none, holding := true }) p 15
    have hports : (((s.onPort p fun y => { y with pause := none, holding := true }).countPort p 15).logPartner 0x2081 p).ports =
        (s.onPort p fun y => { y with pause := none, holding := true }).ports := by rw [logPartner_ports, countPort_ports]
    refine ⟨?_, ?_, ?_, fun k hk => ?_⟩
    · rw [logPartner_rest, hcount.rest]
      rfl
    · rw [port_congr hports, onPort_port_self]
    · rw [Counted, logPartner_loupe]
      exact countPort_counted (by decide)
    · rw [port_congr hports, onPort_port_other _ _ hk.symm]
  case holdoff =>
    intro s p ha
    exact Does.of_alive rfl ha ⟨rfl, onPort_port_self _ _ _, fun k hk => onPort_port_other _ _ hk.symm⟩
  case early =>
    intro s p f ha hw hh hfew
    obtain ⟨t, ht, hP⟩ := collision_early hw hh hfew
    exact Does.of_alive (u := t) (by rw [← ht]; rfl) ha hP
  case late =>
    intro s p f ha hw hh hd
    obtain ⟨t, ht, hP⟩ := collision_late hw hh hd
    exact Does.of_alive (u := t) (by rw [← ht]; rfl) ha hP
  case backoff =>
    intro s p f r ha hb hw hst hcal hk
    have hrun : onBackoffExpiry p s =
        (s.onPort p fun y => { y with backoff := none, wire := some { f with attempts := f.attempts + 1 } }).followShapers p f := by
      simp [onBackoffExpiry, hb, hw, PortSt.linked_of_up hst, hcal, hk, TxKind.timed]
    have hstep := (portStep_onPort s p fun y => { y with backoff := none, wire := some { f with attempts := f.attempts + 1 } }).followShapers f
    refine Does.of_alive rfl ha ?_
    rw [hrun]
    exact ⟨hstep.rest, hstep.port, hstep.one.others⟩
  case lpiEntry =>
    intro s p ha heee hmode hst hlpi hw hwaits hl hcal
    have hrun : onLpiEntry p s = s.onPort p fun y => { y with lpi := .sleeping } := by
      simp [onLpiEntry, heee, hmode, PortSt.linked_of_up hst, hlpi, hw, hwaits, hl, hcal]
    refine Does.of_alive rfl ha ?_
    rw [hrun]
    exact ⟨rfl, onPort_port_self _ _ _, fun k hk => onPort_port_other _ _ hk.symm⟩
  case lpiWake =>
    intro s p ha hlpi hwaits
    have hrun : onLpiWake p s = (s.onPort p fun y => { y with lpi := .waking }).countPort p 19 := by simp [onLpiWake, hlpi, hwaits]
    have hcount := countPort_quiet (s.onPort p fun y => { y with lpi := .waking }) p 19
    refine Does.of_alive rfl ha ?_
    rw [hrun]
    refine ⟨?_, ?_, countPort_counted (by decide), fun k hk => ?_⟩
    · rw [hcount.rest]
      rfl
    · rw [countPort_port, onPort_port_self]
    · rw [countPort_port, onPort_port_other _ _ hk.symm]
  case lpiAwake =>
    intro s p ha hlpi hq
    have hrun : onLpiWakeComplete p s = s.onPort p fun y => { y with lpi := .active } := by
      rw [onLpiWakeComplete, if_pos hlpi]
      exact startTx_of_empty (s := s.onPort p _) hq p
    refine Does.of_alive rfl ha ?_
    rw [hrun]
    exact ⟨rfl, onPort_port_self _ _ _, fun k hk => onPort_port_other _ _ hk.symm⟩
  case start =>
    intro s p f ha hst hw hb hpause hcal hlpi hl hc hlen hk hq hsub hsvc hport
    obtain ⟨t, ht, hP⟩ := transmit_start hst hw hb hpause hcal hlpi hl hc hlen hk hq hsub hsvc hport
    exact Does.of_alive (u := t) (by rw [← ht]; rfl) ha hP
  case paused =>
    intro s p ha hpause
    exact Does.of_alive rfl ha (startTx_of_busy (by simp [PortSt.mayStart, hpause]))
  case complete =>
    intro s p tb f ha hw hd hk
    obtain ⟨t, ht, hP⟩ := transmit_complete hw hd hk
    exact Does.of_alive (u := t) (by rw [← ht]; rfl) ha hP
  case completeRing =>
    intro s p tb f hd place r ha hw hdesc hk hreq hst hr hdone hl hb hf
    obtain ⟨t, ht, hP⟩ := transmit_complete_ring hw hdesc hk hreq hst hr hdone hl hb hf
    exact Does.of_alive (u := t) (by rw [← ht]; rfl) ha hP
  case doorbell =>
    intro s b k w l r ha hen hfrozen hw hr ho hrx hf hn hsum hfit
    refine Does.of_alive rfl ha ?_
    rw [onPringDb_of_good hen hfrozen hw hr ho hrx hf hn hsum hfit]
    refine ⟨rfl, ?_, fun j hj => ?_, rfl⟩
    · rw [onPring_pring, if_pos rfl, hr]
      rfl
    · rw [onPring_pring, if_neg hj]
  case impossible =>
    intro s b k w l r ha hen hfrozen hw hr ho hover
    refine Does.of_alive rfl ha ?_
    rw [onPringDb_of_impossible hen hfrozen hw hr ho hover]
    exact ⟨rfl, by rw [onFn_fn, if_pos rfl]⟩
  case foreign =>
    intro s b k w l r ha hen hfrozen hw hr ho
    refine Does.of_alive rfl ha ?_
    rw [onPringDb_of_foreign hen hfrozen hw hr ho]
    exact ⟨freezeFn_rest _ _ _ _, by rw [freezeFn_frozen, if_pos rfl]⟩

end Sys2Proof.Machine
end

section

/-! ### Tenants: what the commands on bezels leave (R397-R409) -/

namespace Sys2Proof.Machine

section
variable {s t u : State} {b c : Nat}

/-! ### Rows of the ownership table -/

@[simp] theorem onBezel_bezel_self (s : State) (b : Nat) (f : BezelRow → BezelRow) : (s.onBezel b f).bezel b = f (s.bezel b) := Tab.look_upd_self _ _ _ _

theorem onBezel_bezel_other (s : State) (f : BezelRow → BezelRow) (h : c ≠ b) : (s.onBezel b f).bezel c = s.bezel c := Tab.look_upd_other _ _ _ h.symm

theorem bezel_congr (h : t.bez = s.bez) (b : Nat) : t.bezel b = s.bezel b := by rw [State.bezel, h]; rfl

/-- A place that a table does not hold reads its default. -/
theorem Tab.look_of_not_mem {α : Type} {t : Tab α} {i : Nat} (h : ∀ q ∈ t, q.1 ≠ i) (d : α) : t.look d i = d := by
  induction t with
  | nil => rfl
  | cons q r ih =>
    obtain ⟨j, a⟩ := q
    rw [Tab.look, if_neg (h _ List.mem_cons_self), ih fun q hq => h q (List.mem_cons_of_mem _ hq)]

/-- What a place reads stands in the table, or is the default. -/
theorem Tab.look_mem {α : Type} (t : Tab α) (d : α) (i : Nat) : (i, t.look d i) ∈ t ∨ t.look d i = d := by
  induction t with
  | nil => exact .inr rfl
  | cons q r ih =>
    obtain ⟨j, a⟩ := q
    by_cases h : j = i
    · subst h
      left
      rw [Tab.look, if_pos rfl]
      exact List.mem_cons_self
    · rw [Tab.look, if_neg h]
      exact ih.imp_left (List.mem_cons_of_mem _)

/-- A table without one of its places. -/
theorem Tab.look_filter_ne {α : Type} (t : Tab α) (d : α) (i j : Nat) : Tab.look (t.filter fun q => q.1 != i) d j = if j = i then d else t.look d j := by
  by_cases h : j = i
  · subst h
    rw [if_pos rfl]
    refine Tab.look_of_not_mem (fun q hq => ?_) d
    simpa using (List.mem_filter.mp hq).2
  · rw [if_neg h]
    induction t with
    | nil => rfl
    | cons q r ih =>
      obtain ⟨k, a⟩ := q
      by_cases hk : k = i
      · subst hk
        rw [List.filter_cons_of_neg (by simp), ih, Tab.look, if_neg (Ne.symm h)]
      · rw [List.filter_cons_of_pos (by simpa using hk)]
        by_cases hj : k = j
        · rw [Tab.look, Tab.look, if_pos hj, if_pos hj]
        · rw [Tab.look, Tab.look, if_neg hj, if_neg hj, ih]

/-- The change touches the ownership table, events, change counts and stored records alone. -/
structure BezelsOnly (s t : State) : Prop where
  calm : Calm s t
  rest : t = { s with bez := t.bez, mbx := t.mbx, mgmt := t.mgmt }

theorem BezelsOnly.refl (s : State) : BezelsOnly s s := ⟨.refl s, rfl⟩

theorem BezelsOnly.trans (h : BezelsOnly s t) (k : BezelsOnly t u) : BezelsOnly s u := by
  refine ⟨h.calm.trans k.calm, ?_⟩
  rw [k.rest, h.rest]

theorem BezelsOnly.onBezel (h : BezelsOnly s t) (b : Nat) (f : BezelRow → BezelRow) : BezelsOnly s (t.onBezel b f) :=
  h.trans ⟨(Calm.refl t).onBez _, rfl⟩

theorem BezelsOnly.raise (h : BezelsOnly s t) (bs : List Nat) (c : Nat) (d : Rec) (v : Nat) : BezelsOnly s (t.raise bs c d v) := by
  refine h.trans ⟨(Calm.refl t).raise _ _ _ _, ?_⟩
  rw [raise_rest]

theorem BezelsOnly.store (h : BezelsOnly s t) (c i : Nat) : BezelsOnly s (t.store c i) := h.trans ⟨(Calm.refl t).store _ _, rfl⟩

/-- A ready command on the ownership table completes with OK, and leaves that table as its effect does. -/
theorem runCommand_bezels {acc : State → State} {m : CmdMeta} {h : CmdHdr} {i : Instr} {b : CmdBody} {P : State → Prop} (hr : ready m h s = true)
    (ha : b.argOk (s.fetchedFor m h) = true) (hc : (b.check (s.fetchedFor m h)).status = .ok) (ho : b.act (s.fetchedFor m h) = cmdOut u)
    (hx : m.xbOut = false) (hu : BezelsOnly (s.fetchedFor m h) u) (hP : ∀ t, t.bez = u.bez → P t) :
    ∃ t, (Host.Outcome.next (runCommand acc m h i b s) : Host.Outcome State Fault Refusal) = .next t ∧
      Completes h s { s with bez := t.bez } t [] [] ∧ P t := by
  have hpending := congrArg State.pending hu.rest
  refine runCommand_does u hr ha hc ho (fun hb => absurd hb (by simp [hx])) hu.calm hpending fun t hcompletes => ?_
  obtain ⟨-, -, -, -, hrest⟩ := id hcompletes
  refine ⟨hcompletes.of ?_, hP t (congrArg State.bez hrest :)⟩
  rw [hrest, hu.rest]
  rfl

/-! ### Isolation (R406) -/

/-- What the evaluation of isolation leaves: rows that stood as their conditions say stay, and of the others the result alone is set. -/
structure Isolated (s t : State) : Prop where
  only : BezelsOnly s t
  row : ∀ b, t.bezel b = { s.bezel b with isolated := (t.bezel b).isolated, failed := (t.bezel b).failed }
  settled : ∀ b, (s.bezel b).failed = s.isoFail b → (s.bezel b).isolated = decide (s.isoFail b = 0) → t.bezel b = s.bezel b

theorem BezelsOnly.isoFail (h : BezelsOnly s t) (b : Nat) : t.isoFail b = s.isoFail b := by
  rw [h.rest]
  rfl

theorem Isolated.refl (s : State) : Isolated s s := ⟨.refl s, fun _ => rfl, fun _ _ _ => rfl⟩

theorem Isolated.trans (h : Isolated s t) (k : Isolated t u) : Isolated s u := by
  refine ⟨h.only.trans k.only, fun b => ?_, fun b hf hi => ?_⟩
  · rw [k.row b, h.row b]
  · have hsame := h.settled b hf hi
    rw [k.settled b (by rw [hsame, hf, h.only.isoFail]) (by rw [hsame, hi, h.only.isoFail]), hsame]

theorem isolate_isolated (s : State) : Isolated s s.isolate := by
  refine foldl_relates .refl .trans (fun t b => ?_) _ _
  extract_lets f iso was u
  have hu : Isolated t u := by
    unfold u
    split
    · exact .refl t
    · next hchanged =>
      refine ⟨(BezelsOnly.refl t).onBezel _ _, fun c => ?_, fun c hf hi => ?_⟩
      · by_cases hc : c = b
        · rw [hc, onBezel_bezel_self]
        · rw [onBezel_bezel_other _ _ hc]
      · by_cases hc : c = b
        · subst hc
          refine absurd ?_ hchanged
          simp [f, was, iso, hf, hi]
        · rw [onBezel_bezel_other _ _ hc]
  split
  · exact hu
  · refine hu.trans ⟨(BezelsOnly.refl u).raise _ _ _ _, fun c => ?_, fun c _ _ => ?_⟩ <;> rw [bezel_congr (raise_bez _ _ _ _ _)]

/-! ### Reservations (R37, R393) -/

/-- What the evaluation of the reservations leaves. -/
structure Reweighed (s t : State) : Prop where
  calm : Calm s t
  rest : t = { s with bez := t.bez, sta := t.sta, mbx := t.mbx, mgmt := t.mgmt }
  present : ∀ b, (t.bezel b).present = (s.bezel b).present
  reserve : t.sta.reserve = s.sta.reserve

theorem Reweighed.refl (s : State) : Reweighed s s := ⟨.refl s, rfl, fun _ => rfl, rfl⟩

theorem Reweighed.trans (h : Reweighed s t) (k : Reweighed t u) : Reweighed s u := by
  refine ⟨h.calm.trans k.calm, ?_, fun b => (k.present b).trans (h.present b), k.reserve.trans h.reserve⟩
  rw [k.rest, h.rest]

theorem Isolated.reweighed (h : Isolated s t) : Reweighed s t := by
  refine ⟨h.only.calm, ?_, fun b => by rw [h.row b], (congrArg (fun x : State => x.sta.reserve) h.only.rest :)⟩
  rw [h.only.rest]

theorem weighReservations_reweighed (s : State) : Reweighed s s.weighReservations := by
  refine .trans (foldl_relates .refl .trans (fun t b => ?_) _ _) (isolate_isolated _).reweighed
  extract_lets met was
  split
  · exact .refl t
  · refine Reweighed.trans (t := t.onSta fun x => { x with unmet := if met then x.unmet.filter (· != b) else x.unmet ++ [b] })
      ⟨(Calm.refl t).onSta _, rfl, fun _ => rfl, rfl⟩ ⟨(Calm.refl _).raise _ _ _ _, ?_, fun c => ?_, ?_⟩
    · rw [raise_rest]
    · rw [bezel_congr (raise_bez _ _ _ _ _)]
    · rw [raise_rest]

end

end Sys2Proof.Machine
end

section

/-! ### Completions of commands that change other functions (R409, R452, R456) -/

namespace Sys2Proof.Machine

/-- The command has completed with OK; elsewhere the state is that of its effect, up to interrupts, events, the log and the counters. -/
structure Answered (h : CmdHdr) (s o t : State) : Prop where
  answers : Answers h s t .ok [] []
  rest : t = { o with mbx := t.mbx, mgmt := t.mgmt, loupe := t.loupe }
  fns : ∀ c, c ≠ h.fn → t.fn c = { o.fn c with vecs := (t.fn c).vecs, due := (t.fn c).due }

section
variable {m : CmdMeta} {h : CmdHdr} {s o : State}

/-- What the written completion makes of its function, where the effect of the command left that function as it was fetched. -/
theorem written_fn_self (hep : o.mbx.epoch = s.mbx.epoch)
    (hfn : o.fn h.fn = { (s.fetchedFor m h).fn h.fn with vecs := (o.fn h.fn).vecs, due := (o.fn h.fn).due }) :
    let w := o.written h.fn h.queue ((s.fn h.fn).q h.queue).fetchSeq h.tag .ok false [] []
    (w.fn h.fn).cplQ = (s.fn h.fn).cplQ ++ [completionOf h s .ok [] []] ∧ (w.fn h.fn).cplPut = ((s.fn h.fn).cplPut + 1) % 65536 := by
  rw [fetchedFor_fn] at hfn
  unfold State.written
  dsimp only [State.onQueue]
  rw [onFn_fn_self, onFn_fn_self, hfn, hep]
  exact ⟨rfl, rfl⟩

theorem written_queue (hidle : ((s.fn h.fn).q h.queue).inflight = [])
    (hfn : o.fn h.fn = { (s.fetchedFor m h).fn h.fn with vecs := (o.fn h.fn).vecs, due := (o.fn h.fn).due }) (seq : Nat) :
    ((o.written h.fn h.queue seq h.tag .ok false [] []).fn h.fn).q h.queue = { (s.fn h.fn).q h.queue with
      fetched := (((s.fn h.fn).q h.queue).fetched + 1) % 65536, fetchSeq := (((s.fn h.fn).q h.queue).fetchSeq + 1) % 2 ^ 32,
      done := (((s.fn h.fn).q h.queue).done + 1) % 65536, doneSeq := (seq + 1) % 2 ^ 32, inflight := [] } := by
  have hq : (o.fn h.fn).q h.queue = ((s.fetchedFor m h).fn h.fn).q h.queue := by
    rw [hfn]
    rfl
  unfold State.written
  dsimp only
  rw [onQueue_self, onFn_fn_self]
  change { (o.fn h.fn).q h.queue with
    done := (((o.fn h.fn).q h.queue).done + 1) % 65536, doneSeq := (seq + 1) % 2 ^ 32,
    inflight := ((o.fn h.fn).q h.queue).inflight.drop 1 } = _
  rw [hq, fetchedFor_q]
  simp [hidle]

theorem written_fn_other {c : Nat} (hc : c ≠ h.fn) (seq : Nat) : (o.written h.fn h.queue seq h.tag .ok false [] []).fn c = o.fn c := by
  unfold State.written
  dsimp only [State.onQueue]
  rw [onFn_fn_other _ _ hc.symm, onFn_fn_other _ _ hc.symm]

/-- A ready command whose own checks pass and whose effect leaves its function's mailbox completes with OK. -/
theorem runCommand_answered {acc : State → State} {i : Instr} {b : CmdBody} (hr : ready m h s = true) (ha : b.argOk (s.fetchedFor m h) = true)
    (hc : (b.check (s.fetchedFor m h)).status = .ok) (ho : b.act (s.fetchedFor m h) = cmdOut o) (hx : m.xbOut = false)
    (hep : o.mbx.epoch = s.mbx.epoch) (hpending : o.pending = s.pending)
    (hfn : o.fn h.fn = { (s.fetchedFor m h).fn h.fn with vecs := (o.fn h.fn).vecs, due := (o.fn h.fn).due }) :
    ∃ t, (Host.Outcome.next (runCommand acc m h i b s) : Host.Outcome State Fault Refusal) = .next t ∧ Answered h s o t := by
  obtain ⟨-, -, -, -, -, -, -, -, -, -, -, -, hidle, -⟩ := (ready_iff m h s).1 hr
  refine ⟨_, rfl, ?_⟩
  rw [runCommand_ready acc m h i b s hr ha hc (by simp [xbShort, hx]), ho]
  dsimp only [cmdOut]
  have hlast : ((o.fn h.fn).q h.queue).inflight.drop 1 = [] := by
    rw [hfn]
    change ((((s.fetchedFor m h).fn h.fn).q h.queue).inflight).drop 1 = []
    rw [fetchedFor_q]
    simp [hidle]
  rw [complete_eq_completeOne hlast]
  have hquiet := completeOne_written h.fn h.queue ((s.fn h.fn).q h.queue).fetchSeq h.tag .ok false [] [] o
  have hqueue := written_queue hidle hfn ((s.fn h.fn).q h.queue).fetchSeq
  obtain ⟨hcplQ, hcplPut⟩ := written_fn_self hep hfn
  have hother := fun c (hc : c ≠ h.fn) => written_fn_other (o := o) hc ((s.fn h.fn).q h.queue).fetchSeq
  generalize completeOne h.fn h.queue ((s.fn h.fn).q h.queue).fetchSeq h.tag .ok false [] [] o = t at *
  have hq : (t.fn h.fn).q h.queue = _ := (congrArg (fun f : FnSt => f.q h.queue) (hquiet.fns h.fn)).trans hqueue
  refine ⟨⟨(congrArg State.pending hquiet.rest).trans hpending, ?_, ?_, ?_, ?_, ?_⟩, hquiet.rest, fun c hc => ?_⟩
  · rw [hquiet.fns h.fn]
    exact hcplQ
  · rw [hquiet.fns h.fn]
    exact hcplPut
  · rw [hq]
  · rw [hq]
  · rw [hq]
  · rw [hquiet.fns c, hother c hc]

end

end Sys2Proof.Machine
end

section

/-! ### Keys and counters of a new tenant, and a port that changes hands (R397, R402, R535, R540) -/

namespace Sys2Proof.Machine

section
variable {s t u : State} {b : Nat}

/-! ### Fixed key slots (R347, R397) -/

theorem onKey_key_self (s : State) (k : Nat) (f : KeySlot → KeySlot) : (s.onKey k f).key k = f (s.key k) := Tab.look_upd_self _ _ _ _

theorem onKey_key_other (s : State) {k j : Nat} (f : KeySlot → KeySlot) (h : j ≠ k) : (s.onKey k f).key j = s.key j := Tab.look_upd_other _ _ _ h.symm

/-- The change touches the keys, the draws of their material, change counts and stored records alone. -/
structure KeysOnly (s t : State) : Prop where
  calm : Calm s t
  rest : t = { s with keys := t.keys, free := t.free, mbx := t.mbx, mgmt := t.mgmt }

theorem KeysOnly.refl (s : State) : KeysOnly s s := ⟨.refl s, rfl⟩

theorem KeysOnly.trans (h : KeysOnly s t) (k : KeysOnly t u) : KeysOnly s u := by
  refine ⟨h.calm.trans k.calm, ?_⟩
  rw [k.rest, h.rest]

theorem KeysOnly.onKeys (h : KeysOnly s t) (f : KeySt → KeySt) : KeysOnly s (t.onKeys f) := h.trans ⟨(Calm.refl t).onKeys f, rfl⟩
theorem KeysOnly.nextFree (h : KeysOnly s t) : KeysOnly s t.nextFree := h.trans ⟨(Calm.refl t).onFree _, rfl⟩
theorem KeysOnly.store (h : KeysOnly s t) (c i : Nat) : KeysOnly s (t.store c i) := h.trans ⟨(Calm.refl t).store _ _, rfl⟩

/-- Keys are made: slots of the places of `l` become VALID, the others stay. -/
structure KeysMade (l : List Nat) (s t : State) : Prop where
  only : KeysOnly s t
  made : ∀ k ∈ l, (t.key k).st = .valid
  kept : ∀ k, k ∉ l → t.key k = s.key k

theorem makeFixed_keysMade (s : State) (k b alg usage parent : Nat) : KeysMade [k] s (s.makeFixed k b alg usage parent) := by
  refine ⟨?_, fun j hj => ?_, fun j hj => ?_⟩
  · unfold State.makeFixed State.fillKey State.draw State.onKey
    exact ((((KeysOnly.refl s).onKeys _).nextFree).onKeys _).store _ _
  · obtain rfl := List.mem_singleton.mp hj
    exact congrArg KeySlot.st (onKey_key_self _ _ _)
  · exact onKey_key_other _ _ (by simpa using hj)

theorem KeysMade.trans {l r : List Nat} (h : KeysMade l s t) (k : KeysMade r t u) : KeysMade (l ++ r) s u := by
  refine ⟨h.only.trans k.only, fun j hj => ?_, fun j hj => ?_⟩
  · by_cases hr : j ∈ r
    · exact k.made j hr
    · rw [k.kept j hr]
      exact h.made j ((List.mem_append.mp hj).resolve_right hr)
  · rw [List.mem_append, not_or] at hj
    rw [k.kept j hj.2, h.kept j hj.1]

/-- The four fixed slots of a bezel. -/
def fixedSlots (b : Nat) : List Nat := [64 + b, 128 + b, 192 + 2 * b, 193 + 2 * b]

/-- What the roots of a tenant leave. -/
structure RootsMade (b : Nat) (s t : State) : Prop where
  calm : Calm s t
  rest : t = { s with keys := t.keys, tse := t.tse, free := t.free, mbx := t.mbx, mgmt := t.mgmt }
  made : ∀ k ∈ fixedSlots b, (t.key k).st = .valid
  kept : ∀ k, k ∉ fixedSlots b → t.key k = s.key k

/-- The seal keys of a tenant that has its keys are due to turn. -/
theorem KeysMade.seals (h : KeysMade (fixedSlots b) s t) (f : TseSt → TseSt) : RootsMade b s (t.onTse f) := by
  refine ⟨h.only.calm.onTse f, ?_, h.made, h.kept⟩
  rw [h.only.rest]
  rfl

theorem makeRoots_rootsMade (s : State) (b : Nat) : RootsMade b s (s.makeRoots b) :=
  KeysMade.seals ((((makeFixed_keysMade _ _ _ _ _ _).trans (makeFixed_keysMade _ _ _ _ _ _)).trans (makeFixed_keysMade _ _ _ _ _ _)).trans
    (makeFixed_keysMade _ _ _ _ _ _)) _

/-! ### A new tenant (R397, R400, R535) -/

/-- The counters of a bezel at zero (R535). -/
@[irreducible] def LoupeSt.zeroed (b : Nat) (l : LoupeSt) : LoupeSt :=
  { l with ctr := (List.range 32).foldl (fun t i => t.put ((256 + b) * 32 + i) 0) l.ctr }

theorem LoupeSt.zeroed_ctr (b : Nat) (l : LoupeSt) {i : Nat} (hi : i < 32) : (l.zeroed b).ctr.look 0 ((256 + b) * 32 + i) = 0 := by
  unfold LoupeSt.zeroed
  generalize 32 = n at hi ⊢
  exact look_putRange_in l.ctr (fun _ => 0) hi

/-- The state with the row of a new tenant and its counters at zero. -/
@[irreducible] def State.newRow (s : State) (b x n : Nat) : State :=
  (s.onLoupe (.zeroed b)).onBezel b fun _ => { present := true, subBase := x, subCount := n }

/-- What the creation of a tenant leaves. -/
structure Created (b x n : Nat) (s t : State) : Prop where
  calm : Calm (s.onLoupe (.zeroed b)) t
  rest : t = { s with bez := t.bez, keys := t.keys, tse := t.tse, free := t.free, loupe := t.loupe, mbx := t.mbx, mgmt := t.mgmt }
  row : t.bezel b = { present := true, subBase := x, subCount := n }
  made : ∀ k ∈ fixedSlots b, (t.key k).st = .valid
  kept : ∀ k, k ∉ fixedSlots b → t.key k = s.key k

theorem newRow_rest (s : State) (b x n : Nat) : s.newRow b x n = { s.onLoupe (.zeroed b) with bez := (s.newRow b x n).bez } := by
  unfold State.newRow
  rfl

theorem newRow_bezel (s : State) (b x n : Nat) : (s.newRow b x n).bezel b = { present := true, subBase := x, subCount := n } := by
  rw [State.newRow, onBezel_bezel_self]

theorem newRow_calm (s : State) (b x n : Nat) : Calm (s.onLoupe (.zeroed b)) (s.newRow b x n) := by
  unfold State.newRow State.onBezel
  exact (Calm.refl _).onBez _

theorem createBezel_created {x n : Nat} (hres : s.sta.reserve.look 0 b = 0) : Created b x n s (((s.newRow b x n).makeRoots b).isolate.store 0x23 b) := by
  have hroots := makeRoots_rootsMade (s.newRow b x n) b
  have hiso := isolate_isolated ((s.newRow b x n).makeRoots b)
  have hnew := newRow_rest s b x n
  have hrow := newRow_bezel s b x n
  have hcalm := newRow_calm s b x n
  generalize s.newRow b x n = u at *
  generalize u.makeRoots b = v at *
  have hrow' : v.bezel b = { present := true, subBase := x, subCount := n } := by
    have hbez : v.bez = u.bez := (congrArg State.bez hroots.rest :)
    rw [bezel_congr hbez, hrow]
  have hfail : v.isoFail b = 1 := by
    have hsta : v.sta = s.sta := by rw [hroots.rest, hnew]; rfl
    simp [State.isoFail, hsta, hres]
  have hkeys : ∀ k, (v.isolate.store 0x23 b).key k = v.key k := fun k => (congrArg (fun y : State => y.key k) hiso.only.rest :)
  refine ⟨((hcalm.trans hroots.calm).trans hiso.only.calm).store _ _, ?_, ?_, fun k hk => ?_, fun k hk => ?_⟩
  · rw [(hiso.only.store 0x23 b).rest, hroots.rest, hnew]
    rfl
  · refine (hiso.settled b ?_ ?_).trans hrow'
    · rw [hrow', hfail]
    · rw [hrow', hfail]
      rfl
  · rw [hkeys]
    exact hroots.made k hk
  · rw [hkeys, hroots.kept k hk, hnew]
    rfl

/-! ### A port that changes hands (R402, R540) -/

/-- What a port leaves behind when it changes hands. -/
structure HandedOver (p : Nat) (s t : State) : Prop where
  calm : Calm (s.loupeRevoke p) t
  rest : t = { s with bez := t.bez, ports := t.ports, tse := t.tse, loupe := t.loupe, mbx := t.mbx, mgmt := t.mgmt }
  port : t.port p = { s.port p with addrs := [], filters := [] }
  others : ∀ k, k ≠ p → t.port k = s.port k

/-- The owner of a port is set; BZ00 owns what is not listed. -/
def BezSt.assign (p b : Nat) (z : BezSt) : BezSt :=
  { z with portOwner := if b = 0 then z.portOwner.filter fun q => q.1 != p else z.portOwner.put p b }

theorem assign_portOwner (z : BezSt) (p b k : Nat) : (z.assign p b).portOwner.look 0 k = if k = p then b else z.portOwner.look 0 k := by
  unfold BezSt.assign
  dsimp only
  by_cases hb : b = 0
  · subst hb
    rw [if_pos rfl, Tab.look_filter_ne]
  · rw [if_neg hb, Tab.look_put]
    by_cases hk : k = p
    · rw [if_pos hk.symm, if_pos hk]
    · rw [if_neg (Ne.symm hk), if_neg hk]

/-- Ports, the time services, the ownership table and the Loupe change, with what stores the change. -/
def HandoverPart (s t : State) : Prop := t = { s with bez := t.bez, ports := t.ports, tse := t.tse, loupe := t.loupe, mbx := t.mbx, mgmt := t.mgmt }

theorem HandoverPart.trans (h : HandoverPart s t) (k : HandoverPart t u) : HandoverPart s u := by
  unfold HandoverPart at *
  rw [k, h]

theorem clearPort_handoverPart (s : State) (p : Nat) : HandoverPart s (s.clearPort p) := by
  unfold State.clearPort
  exact HandoverPart.trans (t := s.onPort p _) rfl (HandoverPart.trans (t := (s.onPort p _).onTse _) rfl rfl)

/-- What a port leaves behind is beside the change of its bank. -/
theorem clearPort_calm (s : State) (p : Nat) : Calm (s.loupeRevoke p) (s.clearPort p) :=
  (Calm.refl (s.loupeRevoke p)).rest rfl rfl rfl

theorem clearPort_port (s : State) (p k : Nat) :
    (s.clearPort p).port k = (s.onPort p fun x => { x with addrs := [], filters := [] }).port k := by
  unfold State.clearPort
  rfl

theorem assignPort_handedOver (s : State) (p b : Nat) : HandedOver p s (((s.clearPort p).onBez (.assign p b)).store 0x23 b) := by
  have hport : ∀ k, (((s.clearPort p).onBez (.assign p b)).store 0x23 b).port k = (s.clearPort p).port k := fun _ => rfl
  have hpart : HandoverPart s ((s.clearPort p).onBez (.assign p b)) := (clearPort_handoverPart s p).trans rfl
  refine ⟨((clearPort_calm s p).onBez _).store _ _, hpart.trans rfl, ?_, fun k hk => ?_⟩
  · rw [hport, clearPort_port, onPort_port_self]
  · rw [hport, clearPort_port, onPort_port_other _ _ hk.symm]

end

end Sys2Proof.Machine
end

section

/-! ### Masters released (R409, R447) -/

namespace Sys2Proof.Machine

section
variable {s t : State} {b : Nat}

theorem dropFrozenJobs_of_none (h : s.sta.jobs = []) : s.dropFrozenJobs = s := by simp [State.dropFrozenJobs, h]

/-- No transaction is open on a queue of the function. -/
def State.untransacted (s : State) (b : Nat) : Prop := ∀ q ∈ (s.fn b).queues, q.2.txn = none

theorem State.untransacted.q (h : s.untransacted b) (q : Nat) : ((s.fn b).q q).txn = none :=
  Tab.look_of_forall (fun k : CmdQueue => k.txn = none) _ {} q h rfl

theorem fetchedFor_untransacted {m : CmdMeta} {h : CmdHdr} (hr : ready m h s = true) (b : Nat) : (s.fetchedFor m h).untransacted b :=
  Tab.look_of_forall (fun f : FnSt => ∀ q ∈ f.queues, q.2.txn = none) _ {} b (fetchedFor_no_txn hr) fun _ hq => by cases hq

theorem rollbacks_of_untransacted (h : s.untransacted b) (l : List Nat) : l.foldl (fun (t : State) q => t.rollback b q) s = s :=
  List.foldl_fixed' (fun q => rollback_of_txn_none (h.q q)) l

/-! ### The reset of a function without transactions (R447) -/

theorem stopFn_queues (s : State) (b : Nat) : ((s.stopFn b).fn b).queues = (s.fn b).queues.mapAll fun _ k => k.drop :=
  congrArg FnSt.queues (onFn_fn_self s b _)

theorem closeFn_untransacted (h : s.untransacted b) : (s.closeFn b).untransacted b := by
  intro q hq
  rw [State.fn, closeFn_mbx] at hq
  obtain ⟨x, hx, rfl⟩ := List.mem_map.1 ((stopFn_queues s b) ▸ hq : q ∈ (s.fn b).queues.mapAll fun _ k => k.drop)
  exact h x hx

theorem rollbackFn_of_untransacted (h : s.untransacted b) : s.rollbackFn b = s.closeFn b := by
  unfold State.rollbackFn
  exact rollbacks_of_untransacted (closeFn_untransacted h) _

/-- A reset leaves every queue of its function empty and without a transaction. -/
theorem resetFn_queues (h : s.untransacted b) :
    (((s.resetFn b).fn b).queues.all fun q => !q.2.en && q.2.inflight.isEmpty && q.2.txn.isNone) = true := by
  have hfn : ((s.resetFn b).fn b).queues = ((s.closeFn b).fn b).queues := by
    rw [resetFn_fn_self, rollbackFn_of_untransacted h]
  obtain ⟨-, -, hidle⟩ := (resetFn_resets s b).idle
  rw [List.all_eq_true]
  intro q hq
  obtain ⟨hen, hinf⟩ := hidle q hq
  have htxn : q.2.txn = none := closeFn_untransacted h q (hfn ▸ hq)
  simp [hen, hinf, htxn]

theorem resetFn_epoch (h : s.untransacted b) : (s.resetFn b).mbx.epoch = s.mbx.epoch := by
  have hm := (expireSlots_rest ((s.rollbackFn b).abandon b fun _ => true) fun x => x.owner = b && !x.locket).2
  rw [resetFn_eq]
  change (s.abandonFn b).mbx.epoch = _
  unfold State.abandonFn
  rw [hm]
  change (s.rollbackFn b).mbx.epoch = _
  rw [rollbackFn_of_untransacted h, closeFn_mbx]
  rfl

/-- A frozen function that is released is reset and no longer frozen. -/
def State.releasedFn (s : State) (b : Nat) : State := (s.resetFn b).onFn b fun x => { x with frozen := false }

theorem releasedFn_fn_self (s : State) (b : Nat) : (s.releasedFn b).fn b = { (s.resetFn b).fn b with frozen := false } := onFn_fn_self _ _ _

theorem releasedFn_fn_other (s : State) {b c : Nat} (h : c ≠ b) : (s.releasedFn b).fn c = s.fn c :=
  (onFn_fn_other _ _ h.symm).trans ((resetFn_resets s b).others c h)

theorem releasedFn_blocks (s : State) (b : Nat) : (s.releasedFn b).tc = s.tc ∧ (s.releasedFn b).pwr = s.pwr ∧ (s.releasedFn b).bez = s.bez ∧
    (s.releasedFn b).pending = s.pending := by
  have hrest := resetFn_rest s b
  unfold State.releasedFn
  generalize s.resetFn b = t at *
  exact ⟨(congrArg State.tc hrest :), (congrArg State.pwr hrest :), (congrArg State.bez hrest :), (congrArg State.pending hrest :)⟩

theorem releasedFn_epoch (h : s.untransacted b) : (s.releasedFn b).mbx.epoch = s.mbx.epoch := by
  have hreset := resetFn_epoch h
  unfold State.releasedFn
  generalize s.resetFn b = t at *
  exact hreset

theorem releasedFn_idle (h : s.untransacted b) : ((s.releasedFn b).fn b).cplEn = false ∧ ((s.releasedFn b).fn b).evtEn = false ∧
    (((s.releasedFn b).fn b).queues.all fun q => !q.2.en && q.2.inflight.isEmpty && q.2.txn.isNone) = true ∧ ((s.releasedFn b).fn b).frozen = false := by
  obtain ⟨hcpl, hevt, -⟩ := (resetFn_resets s b).idle
  have hqueues := resetFn_queues h
  rw [releasedFn_fn_self]
  generalize (s.resetFn b).fn b = f at *
  exact ⟨hcpl, hevt, hqueues, rfl⟩

theorem releaseMaster_function (h : s.sta.jobs = []) (i : Nat) : s.releaseMaster b 0 i = s.releasedFn b := by
  rw [State.releaseMaster, if_pos rfl, dropFrozenJobs_of_none h]
  rfl

/-! ### The release of an agent (R409) -/

theorem releaseMaster_agent {i : Nat} (h : (s.tse.works.any fun w => w.service = i && w.bezel = b) = false) :
    s.releaseMaster b 3 i = s.onBezel b fun z => { z with frozen := z.frozen.filter (· != 3 * 65536 + i) } := by
  have hnone : (s.tse.works.filter fun w => w.service = i && w.bezel = b) = [] := by
    rw [List.filter_eq_nil_iff]
    rw [List.any_eq_false] at h
    exact h
  have hwork : ((s.onBezel b fun z => { z with frozen := z.frozen.filter (· != 3 * 65536 + i) }).tse.works.filter fun w => w.service = i && w.bezel = b) = [] := hnone
  simp only [State.releaseMaster, hwork]
  rfl

theorem releaseMaster_agent_work {i : Nat} {w : Work} (hw : s.tse.works = [w]) (hi : w.service = i) (hb : w.bezel = b) :
    s.releaseMaster b 3 i = (s.onBezel b fun z => { z with frozen := z.frozen.filter (· != 3 * 65536 + i) }).dropWork w := by
  have hwork : ((s.onBezel b fun z => { z with frozen := z.frozen.filter (· != 3 * 65536 + i) }).tse.works.filter fun w => w.service = i && w.bezel = b) = [w] := by
    change (s.tse.works.filter fun w => w.service = i && w.bezel = b) = [w]
    simp [hw, hi, hb]
  simp only [State.releaseMaster, hwork]
  rfl

theorem slotWasted_loupe (s : State) (b : Nat) : s.slotWasted b = { s with loupe := (s.slotWasted b).loupe } := by
  have hderive : ∀ (t : State) bank mode pos n, t.derive bank mode pos n = { t with loupe := (t.derive bank mode pos n).loupe } := by
    intro t bank mode pos n
    unfold State.derive
    split <;> rfl
  unfold State.slotWasted
  dsimp only
  split
  · exact hderive _ _ _ _ _
  · rw [hderive, hderive]

/-- An exchange that ends touches the time services, its cells and the counters alone. -/
theorem dropWork_rest (s : State) (w : Work) : s.dropWork w = { s with tse := (s.dropWork w).tse, tm := (s.dropWork w).tm, loupe := (s.dropWork w).loupe } := by
  unfold State.dropWork
  rw [slotWasted_loupe]
  rfl

theorem dropWork_works (s : State) (w : Work) : (s.dropWork w).tse.works = s.tse.works.filter fun y => y.id != w.id := by
  unfold State.dropWork
  rw [slotWasted_loupe]
  rfl

end

end Sys2Proof.Machine
end

section

/-! ### The deletion of a tenant (R399) -/

namespace Sys2Proof.Machine

section
variable {s t u : State} {b : Nat}

/-! ### Keys freed (R350, R355) -/

theorem orphan_rest (s : State) (k : Nat) : s.orphan k = { s with sta := (s.orphan k).sta, keys := (s.orphan k).keys } :=
  foldl_relates (R := fun s t => t = { s with sta := t.sta, keys := t.keys }) (fun _ => rfl) (fun h k => by rw [k, h]) (fun _ _ => rfl) _ _

theorem freeKey_key (s : State) (k j : Nat) : (s.freeKey k).key j = if j = k then { gen := (s.key k).gen } else s.key j := by
  by_cases h : j = k
  · subst h
    rw [if_pos rfl]
    exact onKey_key_self _ _ _
  · rw [if_neg h]
    exact onKey_key_other _ _ h

/-- Slots freed one after another: what is named, or was FREE, is FREE. -/
theorem freeKeys_free (l : List (Nat × KeySlot)) {s : State} {k : Nat} (h : (s.key k).st = .free ∨ k ∈ l.map (·.1)) :
    ((l.foldl (fun (t : State) q => t.freeKey q.1) s).key k).st = .free := by
  induction l generalizing s with
  | nil => exact h.resolve_right List.not_mem_nil
  | cons q r ih =>
    refine ih ?_
    by_cases hk : k = q.1
    · left
      rw [freeKey_key, if_pos hk]
    · rw [freeKey_key, if_neg hk]
      exact h.imp_right fun hmem => (List.mem_cons.mp hmem).resolve_left hk

theorem freeKeys_kept (l : List (Nat × KeySlot)) {s : State} {k : Nat} (h : k ∉ l.map (·.1)) :
    (l.foldl (fun (t : State) q => t.freeKey q.1) s).key k = s.key k := by
  induction l generalizing s with
  | nil => rfl
  | cons q r ih =>
    rw [List.map_cons, List.mem_cons, not_or] at h
    rw [List.foldl_cons, ih h.2, freeKey_key, if_neg h.1]

/-- The slots of a bezel that are in use. -/
def State.slotsOf (s : State) (b : Nat) : List (Nat × KeySlot) := s.keys.slots.filter fun q => q.2.st != .free && !q.2.locket && q.2.owner = b

/-- Every key of a bezel is freed, its descendants orphaned. -/
@[irreducible] def State.keysFreed (s : State) (b : Nat) : State :=
  ((s.orphan (64 + b)).slotsOf b).foldl (fun (t : State) q => t.freeKey q.1) (s.orphan (64 + b))

theorem keysFreed_free {k : Nat} (hl : ((s.keysFreed b).key k).locket = false) (ho : ((s.keysFreed b).key k).owner = b) :
    ((s.keysFreed b).key k).st = .free := by
  unfold State.keysFreed at *
  generalize s.orphan (64 + b) = u at *
  by_cases hmem : k ∈ (u.slotsOf b).map (·.1)
  · exact freeKeys_free _ (.inr hmem)
  · rw [freeKeys_kept _ hmem] at hl ho ⊢
    by_contra hused
    have hplace : (k, u.key k) ∈ u.keys.slots := (Tab.look_mem u.keys.slots {} k).resolve_right fun hdefault =>
      hused (congrArg KeySlot.st hdefault)
    refine hmem (List.mem_map.mpr ⟨_, List.mem_filter.mpr ⟨hplace, ?_⟩, rfl⟩)
    simp [hused, hl, ho]

/-! ### What every step of a deletion leaves -/

/-- Time, power, references and outputs stay, and the mailboxes of the other functions, but for events and interrupts. -/
structure Departing (b : Nat) (s t : State) : Prop where
  tc : t.tc = s.tc
  ref : t.ref = s.ref
  pwr : t.pwr = s.pwr
  out : t.out = s.out
  pending : t.pending = s.pending
  epoch : t.mbx.epoch = s.mbx.epoch
  fns : ∀ c, c ≠ b → t.fn c = { s.fn c with vecs := (t.fn c).vecs, due := (t.fn c).due }

theorem Departing.trans (h : Departing b s t) (k : Departing b t u) : Departing b s u := by
  refine ⟨k.tc.trans h.tc, k.ref.trans h.ref, k.pwr.trans h.pwr, k.out.trans h.out, k.pending.trans h.pending, k.epoch.trans h.epoch, fun c hc => ?_⟩
  rw [k.fns c hc, h.fns c hc]

/-- A step that leaves the mailboxes. -/
theorem Departing.of_blocks (h : t = { s with bez := t.bez, sta := t.sta, tm := t.tm, tse := t.tse, fil := t.fil, la := t.la, loupe := t.loupe, keys := t.keys }) :
    Departing b s t := by
  have hm : t.mbx = s.mbx := (congrArg State.mbx h :)
  refine ⟨(congrArg State.tc h :), (congrArg State.ref h :), (congrArg State.pwr h :), (congrArg State.out h :), (congrArg State.pending h :),
    congrArg MbxSt.epoch hm, fun c _ => ?_⟩
  have hfn : t.fn c = s.fn c := by rw [State.fn, hm]; rfl
  rw [hfn]

theorem Departing.onFn (h : Departing b s t) (f : FnSt → FnSt) : Departing b s (t.onFn b f) := by
  refine h.trans ⟨rfl, rfl, rfl, rfl, rfl, rfl, fun c hc => ?_⟩
  rw [onFn_fn_other _ _ hc.symm]

theorem Departing.refl (s : State) : Departing b s s := .of_blocks rfl

theorem Departing.store (h : Departing b s t) (c i : Nat) : Departing b s (t.store c i) := h.trans ⟨rfl, rfl, rfl, rfl, rfl, rfl, fun _ _ => rfl⟩

theorem Departing.foldl {α : Type} {g : State → α → State} (hg : ∀ s x, Departing b s (g s x)) (l : List α) (s : State) : Departing b s (l.foldl g s) :=
  foldl_relates .refl .trans hg l s

/-- The freeing of keys touches the slots, their change counts and stored records, and the caches of the engines. -/
def SlotsOnly (s t : State) : Prop := t = { s with sta := t.sta, keys := t.keys, mgmt := t.mgmt, mbx := { s.mbx with objGen := t.mbx.objGen } }

theorem SlotsOnly.trans (h : SlotsOnly s t) (k : SlotsOnly t u) : SlotsOnly s u := by
  unfold SlotsOnly at *
  rw [k, h]

theorem keysFreed_slotsOnly (s : State) (b : Nat) : SlotsOnly s (s.keysFreed b) := by
  have horphan : SlotsOnly s (s.orphan (64 + b)) := by rw [SlotsOnly, orphan_rest]
  unfold State.keysFreed
  refine horphan.trans (foldl_relates (R := SlotsOnly) (fun _ => rfl) SlotsOnly.trans (fun t q => ?_) _ _)
  exact (rfl : SlotsOnly t (t.freeKey q.1))

theorem SlotsOnly.fn (h : SlotsOnly s t) (c : Nat) : t.fn c = s.fn c := (congrArg (fun y : State => y.fn c) h :)

theorem SlotsOnly.departing (h : SlotsOnly s t) : Departing b s t :=
  ⟨(congrArg State.tc h :), (congrArg State.ref h :), (congrArg State.pwr h :), (congrArg State.out h :), (congrArg State.pending h :),
    (congrArg (fun y : State => y.mbx.epoch) h :), fun c _ => by rw [h.fn c]⟩

/-! ### The steps (R399) -/

/-- The masters of the tenant are frozen and, its jobs gone, released for the deletion's own write-backs. -/
@[irreducible] def State.thawed (s : State) (b : Nat) : State :=
  (((s.onBezel b fun z => { z with deleting := true }).onFn b fun x => { x with frozen := true }).onFn b fun x => { x with frozen := false }).onBezel b
    fun z => { z with frozen := [] }

/-- Its reservations, buffers, meters, shapers and rules go. -/
@[irreducible] def State.unreserved (s : State) (b : Nat) : State :=
  (s.onSta fun x =>
    let r : Tab Nat := x.reserve.filter fun q => q.1 != b
    { x with reserve := r, shadow := { x.shadow with owner := layTable r } }).onTm fun x => { x with
      bezels := x.bezels.upd {} b fun y => { y with reserve := 0, cap := 4096 }
      bezMeters := x.bezMeters.filter fun q => q.1 != b
      rules := x.rules.filter fun r => r.bezel != b
      subMeters := x.subMeters.filter fun q => !s.ownsSub b q.1
      subShapers := x.subShapers.filter fun q => !s.ownsSub b q.1 }

/-- The counter banks it was granted are revoked. -/
@[irreducible] def State.banksRevoked (s : State) (b : Nat) : State :=
  (List.range 320).foldl (fun (t : State) k => if (t.loupeBank k).grantee = some b then t.loupeRevoke k else t) s

/-- It leaves the rings of the Filigree channels. -/
@[irreducible] def State.ringsLeft (s : State) (b : Nat) : State := (List.range 64).foldl (fun (t : State) c => t.leave c (.bezel b)) s

/-- Its streams stop, and its grants of channels and taps go. -/
@[irreducible] def State.unshared (s : State) (b : Nat) : State :=
  (((s.stopStreams b).ringsLeft b).onFil fun x => { x with
    chans := x.chans.mapAll fun _ (c : FilChan) => { c with grants := c.grants.filter (· != b) } }).onLa
      fun x => { x with taps := x.taps.mapAll fun _ (t : LaTap) => { t with grants := t.grants.filter (· != b) } }

/-- The function's events, semaphores and certificates go, and the row of the tenant. -/
@[irreducible] def State.dissolved (s : State) (b : Nat) : State :=
  ((s.onFn b fun x => { x with due := [], sems := x.sems.mapAll fun _ (e : Sem) => { e with st := .free } }).onKeys
    fun x => { x with tls := x.tls.filter fun q => q.1 != b }).onBez fun z => { z with rows := z.rows.filter fun q => q.1 != b }

theorem unreserved_rest (s : State) (b : Nat) : s.unreserved b = { s with sta := (s.unreserved b).sta, tm := (s.unreserved b).tm } := by
  unfold State.unreserved
  rfl

theorem unreserved_reserve (s : State) (b : Nat) : (s.unreserved b).sta.reserve = s.sta.reserve.filter fun q => q.1 != b := by
  unfold State.unreserved
  rfl

theorem unreserved_rules (s : State) (b : Nat) : (s.unreserved b).tm.rules = s.tm.rules.filter fun r => r.bezel != b := by
  unfold State.unreserved
  rfl

theorem banksRevoked_rest (s : State) (b : Nat) : s.banksRevoked b = { s with loupe := (s.banksRevoked b).loupe } := by
  unfold State.banksRevoked
  refine foldl_relates (R := fun s t : State => t = { s with loupe := t.loupe }) (fun _ => rfl) (fun h k => by rw [k, h]) (fun t k => ?_) (List.range 320) s
  split <;> rfl

theorem ringsLeft_rest (s : State) (b : Nat) : s.ringsLeft b = { s with fil := (s.ringsLeft b).fil } := by
  unfold State.ringsLeft
  exact foldl_relates (R := fun s t : State => t = { s with fil := t.fil }) (fun _ => rfl) (fun h k => by rw [k, h]) (fun _ _ => rfl) (List.range 64) s

theorem unshared_rest (s : State) (b : Nat) : s.unshared b = { s with fil := (s.unshared b).fil, la := (s.unshared b).la } := by
  have hstop : s.stopStreams b = { s with fil := (s.stopStreams b).fil, la := (s.stopStreams b).la } := rfl
  have hleft := ringsLeft_rest (s.stopStreams b) b
  unfold State.unshared
  generalize (s.stopStreams b).ringsLeft b = u at *
  generalize s.stopStreams b = v at *
  rw [hleft, hstop]
  rfl

theorem thawed_rest (s : State) (b : Nat) : s.thawed b = { s with bez := (s.thawed b).bez, mbx := { s.mbx with fns := (s.thawed b).mbx.fns } } := by
  unfold State.thawed
  rfl

theorem thawed_queues (s : State) (b : Nat) : ((s.thawed b).fn b).queues = (s.fn b).queues := by
  unfold State.thawed
  change (((s.onFn b fun x => { x with frozen := true }).onFn b fun x => { x with frozen := false }).fn b).queues = _
  rw [onFn_fn_self, onFn_fn_self]

theorem thawed_fn_other (s : State) {b c : Nat} (h : c ≠ b) : (s.thawed b).fn c = s.fn c := by
  unfold State.thawed
  change ((s.onFn b fun x => { x with frozen := true }).onFn b fun x => { x with frozen := false }).fn c = _
  rw [onFn_fn_other _ _ h.symm, onFn_fn_other _ _ h.symm]

theorem thawed_present (s : State) (b c : Nat) : ((s.thawed b).bezel c).present = (s.bezel c).present := by
  have hrow : (s.thawed b).bezel c = ((s.onBezel b fun z => { z with deleting := true }).onBezel b fun z => { z with frozen := [] }).bezel c := by
    unfold State.thawed
    rfl
  rw [hrow]
  by_cases h : c = b
  · rw [h, onBezel_bezel_self, onBezel_bezel_self]
  · rw [onBezel_bezel_other _ _ h, onBezel_bezel_other _ _ h]

theorem thawed_departing (s : State) (b : Nat) : Departing b s (s.thawed b) := by
  have h := thawed_rest s b
  exact ⟨(congrArg State.tc h :), (congrArg State.ref h :), (congrArg State.pwr h :), (congrArg State.out h :), (congrArg State.pending h :),
    (congrArg (fun y : State => y.mbx.epoch) h :), fun c hc => by rw [thawed_fn_other s hc]⟩

theorem dissolved_fn_other (s : State) {b c : Nat} (h : c ≠ b) : (s.dissolved b).fn c = s.fn c := by
  unfold State.dissolved
  exact onFn_fn_other s _ h.symm

theorem dissolved_rest (s : State) (b : Nat) :
    s.dissolved b = { s with bez := (s.dissolved b).bez, keys := (s.dissolved b).keys, mbx := { s.mbx with fns := (s.dissolved b).mbx.fns } } := by
  unfold State.dissolved
  rfl

theorem dissolved_key (s : State) (b k : Nat) : (s.dissolved b).key k = s.key k := by
  unfold State.dissolved
  rfl

theorem dissolved_bezel (s : State) (b c : Nat) : (s.dissolved b).bezel c = if c = b then {} else s.bezel c := by
  unfold State.dissolved
  exact Tab.look_filter_ne s.bez.rows {} b c

theorem dissolved_departing (s : State) (b : Nat) : Departing b s (s.dissolved b) := by
  have h := dissolved_rest s b
  exact ⟨(congrArg State.tc h :), (congrArg State.ref h :), (congrArg State.pwr h :), (congrArg State.out h :), (congrArg State.pending h :),
    (congrArg (fun y : State => y.mbx.epoch) h :), fun c hc => by rw [dissolved_fn_other s hc]⟩

/-- Without work or waiting frames, the services of a tenant go and nothing else changes. -/
theorem clearServices_tseOnly (hw : s.tse.works = []) (hi : s.tse.inputs = []) (b : Nat) :
    s.clearServices b = { s with tse := (s.clearServices b).tse } := by
  unfold State.clearServices
  simp only [hw, hi, List.filter_nil, List.foldl_nil]
  rfl

/-! ### The deletion of a tenant that holds nothing but its row and its keys -/

/-- No rings, grants, exchanges, waiting frames, connections or jobs are there, and every port is BZ00's. -/
structure State.Vacant (s : State) : Prop where
  rings : s.ports.rings = []
  grants : s.tse.grants = []
  works : s.tse.works = []
  inputs : s.tse.inputs = []
  conns : s.keys.conns = []
  portOwner : s.bez.portOwner = []
  jobs : s.sta.jobs = []

theorem fetchedFor_vacant (h : s.Vacant) (m : CmdMeta) (k : CmdHdr) : (s.fetchedFor m k).Vacant :=
  ⟨h.rings, h.grants, h.works, h.inputs, h.conns, h.portOwner, h.jobs⟩

/-- What the thawing leaves to the later steps. -/
theorem thawed_vacant (h : s.Vacant) (b : Nat) : (s.thawed b).Vacant := by
  obtain ⟨hrings, hgrants, hworks, hinputs, hconns, howner, hjobs⟩ := h
  have hkept : (s.thawed b).bez.portOwner = s.bez.portOwner := by
    unfold State.thawed
    rfl
  have hrest := thawed_rest s b
  generalize s.thawed b = t at *
  exact ⟨(congrArg (fun y : State => y.ports.rings) hrest :).trans hrings, (congrArg (fun y : State => y.tse.grants) hrest :).trans hgrants,
    (congrArg (fun y : State => y.tse.works) hrest :).trans hworks, (congrArg (fun y : State => y.tse.inputs) hrest :).trans hinputs,
    (congrArg (fun y : State => y.keys.conns) hrest :).trans hconns, hkept.trans howner, (congrArg (fun y : State => y.sta.jobs) hrest :).trans hjobs⟩

/-- The deletion up to the function of the tenant. -/
def State.vacated (s : State) (b : Nat) : State := (((((s.thawed b).keysFreed b).clearServices b).unreserved b).banksRevoked b).unshared b

/-- Nothing changed but services, reservations, the traffic manager, the Filigree, the LAE and the Loupe. -/
def ServicesOnly (s t : State) : Prop := t = { s with tse := t.tse, sta := t.sta, tm := t.tm, fil := t.fil, la := t.la, loupe := t.loupe }

theorem ServicesOnly.fn (h : ServicesOnly s t) (c : Nat) : t.fn c = s.fn c := (congrArg (fun y : State => y.fn c) h :)
theorem ServicesOnly.bezel (h : ServicesOnly s t) (c : Nat) : t.bezel c = s.bezel c := (congrArg (fun y : State => y.bezel c) h :)
theorem ServicesOnly.key (h : ServicesOnly s t) (k : Nat) : t.key k = s.key k := (congrArg (fun y : State => y.key k) h :)
theorem ServicesOnly.departing (h : ServicesOnly s t) : Departing b s t := .of_blocks (by unfold ServicesOnly at h; rw [h])

theorem SlotsOnly.bezel (h : SlotsOnly s t) (c : Nat) : t.bezel c = s.bezel c := (congrArg (fun y : State => y.bezel c) h :)

/-- The steps from the clearing of the services to the tenant's function, by what they leave. -/
theorem vacated_servicesOnly (h : s.Vacant) (b : Nat) : ServicesOnly ((s.thawed b).keysFreed b) (s.vacated b) := by
  have hthawed := thawed_vacant h b
  have htse : ((s.thawed b).keysFreed b).tse = (s.thawed b).tse := (congrArg State.tse (keysFreed_slotsOnly (s.thawed b) b) :)
  have hclear := clearServices_tseOnly (s := (s.thawed b).keysFreed b) (by rw [htse, hthawed.works]) (by rw [htse, hthawed.inputs]) b
  unfold State.vacated
  have h4 := unreserved_rest (((s.thawed b).keysFreed b).clearServices b) b
  have h5 := banksRevoked_rest ((((s.thawed b).keysFreed b).clearServices b).unreserved b) b
  have h6 := unshared_rest (((((s.thawed b).keysFreed b).clearServices b).unreserved b).banksRevoked b) b
  generalize State.unshared _ b = v6 at *
  generalize State.banksRevoked _ b = v5 at *
  generalize State.unreserved _ b = v4 at *
  generalize State.clearServices _ b = v3 at *
  rw [ServicesOnly, h6, h5, h4, hclear]

theorem vacated_untransacted (h : s.Vacant) (htxn : s.untransacted b) : (s.vacated b).untransacted b := by
  have hfn : (s.vacated b).fn b = (s.thawed b).fn b := ((vacated_servicesOnly h b).fn b).trans ((keysFreed_slotsOnly (s.thawed b) b).fn b)
  intro q hq
  rw [hfn, thawed_queues] at hq
  exact htxn q hq

/-- A deletion of such a tenant takes each step once. -/
theorem deleteBezel_of_vacant (h : s.Vacant) (htxn : s.untransacted b) (hb : b ≠ 0) : s.deleteBezel b = ((s.vacated b).dissolved b).weighReservations := by
  have hthawed := thawed_vacant h b
  unfold State.deleteBezel
  extract_lets s1 s2 s3 s4 s5 s6 s7 s8 s9 s10 s11 s12
  have h1 : s1 = s.thawed b := by
    unfold s1 State.thawed
    rw [dropFrozenJobs_of_none]
    exact h.jobs
  have h2 : s2 = s1 := by
    unfold s2
    rw [State.ringsOf, h1, hthawed.rings]
    rfl
  have h3 : s3 = s2 := by
    unfold s3
    rw [h2, h1, hthawed.grants]
    rfl
  have h4 : s4 = s3 := by
    unfold s4
    rw [State.allConns, h3, h2, h1, hthawed.conns]
    rfl
  have h5 : s5 = (s.thawed b).keysFreed b := by
    rw [State.keysFreed, ← h1, ← h2, ← h3, ← h4]
    rfl
  have h6 : s6 = ((s.thawed b).keysFreed b).clearServices b := by
    have hkeys := keysFreed_slotsOnly (s.thawed b) b
    have htse : ((s.thawed b).keysFreed b).tse = (s.thawed b).tse := (congrArg State.tse hkeys :)
    have hclear := clearServices_tseOnly (s := (s.thawed b).keysFreed b) (by rw [htse, hthawed.works]) (by rw [htse, hthawed.inputs]) b
    have howner : ∀ p, (((s.thawed b).keysFreed b).clearServices b).portOwner p = 0 := fun p => by
      have hbez : (((s.thawed b).keysFreed b).clearServices b).bez = (s.thawed b).bez := by
        rw [hclear, hkeys]
      rw [State.portOwner, hbez, hthawed.portOwner]
      rfl
    unfold s6
    rw [h5]
    generalize List.range 256 = ports
    refine List.foldl_fixed' (fun p => ?_) ports
    rw [howner, if_pos (by simpa using hb.symm)]
  have h7 : s7 = s6.unreserved b := by
    unfold s7 State.unreserved
    rfl
  have h8 : s8 = s7.banksRevoked b := by
    unfold s8 State.banksRevoked
    rfl
  have h10 : s10 = s8.unshared b := by
    unfold s10 s9 State.unshared State.ringsLeft
    rfl
  have hvacated : s10 = s.vacated b := by rw [h10, h8, h7, h6, State.vacated]
  unfold s12 s11 State.dissolved
  rw [hvacated, rollbacks_of_untransacted (vacated_untransacted h htxn)]

/-- What the deletion of such a tenant leaves (R399). -/
structure Deleted (b : Nat) (s t : State) : Prop where
  departing : Departing b s t
  gone : (t.bezel b).present = false
  present : ∀ k, k ≠ b → (t.bezel k).present = (s.bezel k).present
  keys : ∀ k, (t.key k).locket = false → (t.key k).owner = b → (t.key k).st = .free
  reserve : t.sta.reserve.look 0 b = 0
  rules : t.tm.rules = s.tm.rules.filter fun r => r.bezel != b

theorem Deleted.store (h : Deleted b s t) (c i : Nat) : Deleted b s (t.store c i) := by
  obtain ⟨hleft, hgone, hpresent, hkeys, hreserve, hrules⟩ := h
  exact ⟨hleft.store c i, hgone, hpresent, hkeys, hreserve, hrules⟩

theorem Reweighed.departing (h : Reweighed s t) : Departing b s t := by
  have hr := h.rest
  exact ⟨(congrArg State.tc hr :), (congrArg State.ref hr :), (congrArg State.pwr hr :), (congrArg State.out hr :), (congrArg State.pending hr :),
    (congrArg MbxSt.epoch h.calm.mbx :), fun c _ => h.calm.fns c⟩

theorem vacated_departing (h : s.Vacant) (b : Nat) : Departing b s (s.vacated b) :=
  ((thawed_departing s b).trans (keysFreed_slotsOnly _ b).departing).trans (vacated_servicesOnly h b).departing

theorem vacated_bezel (h : s.Vacant) (b k : Nat) : (s.vacated b).bezel k = (s.thawed b).bezel k :=
  ((vacated_servicesOnly h b).bezel k).trans ((keysFreed_slotsOnly (s.thawed b) b).bezel k)

theorem vacated_key (h : s.Vacant) (b k : Nat) : (s.vacated b).key k = ((s.thawed b).keysFreed b).key k := (vacated_servicesOnly h b).key k

theorem vacated_reserve (s : State) (b : Nat) : (s.vacated b).sta.reserve.look 0 b = 0 := by
  unfold State.vacated
  rw [unshared_rest, banksRevoked_rest]
  change (State.unreserved _ b).sta.reserve.look 0 b = 0
  rw [unreserved_reserve, Tab.look_filter_ne, if_pos rfl]

theorem vacated_rules (h : s.Vacant) (b : Nat) : (s.vacated b).tm.rules = s.tm.rules.filter fun r => r.bezel != b := by
  have hthawed := thawed_vacant h b
  have hkeys := keysFreed_slotsOnly (s.thawed b) b
  have htse : ((s.thawed b).keysFreed b).tse = (s.thawed b).tse := (congrArg State.tse hkeys :)
  have hclear := clearServices_tseOnly (s := (s.thawed b).keysFreed b) (by rw [htse, hthawed.works]) (by rw [htse, hthawed.inputs]) b
  have htm : (((s.thawed b).keysFreed b).clearServices b).tm = s.tm := by rw [hclear, hkeys, thawed_rest]
  unfold State.vacated
  rw [unshared_rest, banksRevoked_rest]
  change (State.unreserved _ b).tm.rules = _
  rw [unreserved_rules, htm]

theorem deleteBezel_deleted (h : s.Vacant) (htxn : s.untransacted b) (hb : b ≠ 0) : Deleted b s (s.deleteBezel b) := by
  rw [deleteBezel_of_vacant h htxn hb]
  have hleft := vacated_departing h b
  have hrow := vacated_bezel h b
  have hslot := vacated_key h b
  have hreserve := vacated_reserve s b
  have hrules := vacated_rules h b
  generalize s.vacated b = v at *
  have hgone := dissolved_departing v b
  have hgoneRow := dissolved_bezel v b
  have hgoneKey := dissolved_key v b
  have hgoneRest := dissolved_rest v b
  generalize v.dissolved b = d at *
  have hweigh := weighReservations_reweighed d
  generalize d.weighReservations = w at *
  have hkey : ∀ k, w.key k = ((s.thawed b).keysFreed b).key k := fun k =>
    ((congrArg (fun y : State => y.key k) hweigh.rest :).trans (hgoneKey k)).trans (hslot k)
  refine ⟨(hleft.trans hgone).trans hweigh.departing, ?_, fun k hk => ?_, fun k hl ho => ?_, ?_, ?_⟩
  · rw [hweigh.present, hgoneRow, if_pos rfl]
  · rw [hweigh.present, hgoneRow, if_neg hk, hrow, thawed_present]
  · rw [hkey] at *
    exact keysFreed_free hl ho
  · rw [hweigh.reserve, hgoneRest]
    exact hreserve
  · have htm : w.tm = v.tm := by rw [hweigh.rest, hgoneRest]
    rw [htm, hrules]

end

end Sys2Proof.Machine
end

section

/-! ### The bezel commands (R397-R409) -/

namespace Sys2Proof.Machine

section
variable {s t : State} {h : CmdHdr} {b x n p i : Nat}

/-! ### What the commands check -/

theorem operator_of_ready {m : CmdMeta} (hm : m.who = .operator) (hr : ready m h s = true) : h.fn = 0 := by
  obtain ⟨-, -, -, -, -, -, -, -, -, -, -, -, -, -, -, -, -, -, hwho, -⟩ := (ready_iff m h s).1 hr
  exact hwho hm

theorem cmdBezelCreate_argOk (h1 : 1 ≤ b) (h64 : b < 64) (hx : subRangeOk x n = true) : (cmdBezelCreate h b x n).2.argOk s = true := by
  simp [cmdBezelCreate, h1, h64, hx]

theorem cmdBezelCreate_check (hkek : (s.key 2).st = .valid) (hfree : (s.bezel b).present = false) (hover : s.subOverlap b x n = false)
    (hpool : s.quotaBad 1 b 32 = false) (hrules : s.quotaBad 2 b 256 = false) : ((cmdBezelCreate h b x n).2.check s).status = .ok := by
  simp [cmdBezelCreate, judge, hkek, hfree, hover, hpool, hrules]

theorem cmdBezelCreate_act : (cmdBezelCreate h b x n).2.act s = cmdOut (((s.newRow b x n).makeRoots b).isolate.store 0x23 b) := by
  unfold State.newRow LoupeSt.zeroed
  rfl

theorem cmdBezelDelete_argOk (h1 : 1 ≤ b) (h64 : b < 64) : (cmdBezelDelete h b).2.argOk s = true := by
  simp [cmdBezelDelete, h1, h64]

theorem cmdBezelDelete_act : (cmdBezelDelete h b).2.act s = cmdOut ((s.deleteBezel b).store 0x23 b) := rfl

theorem cmdBezelDelete_check (hb : s.bezelServes b = true) : ((cmdBezelDelete h b).2.check s).status = .ok := by
  simp [cmdBezelDelete, judge, hb]

theorem cmdBezelAssignPort_argOk (hp : p < 256) (hb : s.bezelServes b = true) (ho : s.portOwner p = 0 ∨ b = 0) :
    (cmdBezelAssignPort h p b).2.argOk s = true := by
  simp [cmdBezelAssignPort, portOk, hp, hb, ho]

theorem cmdBezelAssignPort_check (hst : (s.port p).st = .disabled) (hrings : (s.ports.rings.any fun q => q.2.port = p) = false)
    (hn : s.nrefUses p = false) (hv : s.vtapUses p = false) (hprp : s.portInPrp p = false) (hla : s.laTxUses p = false) :
    ((cmdBezelAssignPort h p b).2.check s).status = .ok := by
  simp only [cmdBezelAssignPort, hst, hrings, hn, hv, hprp, hla]
  rfl

theorem cmdBezelAssignPort_act (ho : s.portOwner p ≠ b) :
    (cmdBezelAssignPort h p b).2.act s = cmdOut (((s.clearPort p).onBez (.assign p b)).store 0x23 b) := by
  simp only [cmdBezelAssignPort, ho, if_false]
  rfl

theorem assignPort_bez (s : State) (p b : Nat) : (((s.clearPort p).onBez (.assign p b)).store 0x23 b).bez = s.bez.assign p b := by
  unfold State.clearPort
  rfl

theorem cmdBezelSetQuota_argOk {g k r : Nat} (hb : s.bezelServes b = true) (hx : subRangeOk x n = true) :
    (cmdBezelSetQuota h b g k r x n).2.argOk s = true := by
  simp [cmdBezelSetQuota, hb, hx]

theorem cmdBezelSetQuota_check {g k r : Nat} (hover : s.subOverlap b x n = false) (hout : s.subsOutside b x n = false) (hg : s.quotaBad 0 b g = false)
    (hk : s.quotaBad 1 b k = false) (hr : s.quotaBad 2 b r = false) : ((cmdBezelSetQuota h b g k r x n).2.check s).status = .ok := by
  simp [cmdBezelSetQuota, judge, hover, hout, hg, hk, hr]

theorem cmdBezelSetQuota_act {g k r : Nat} (hb : b ≠ 0) : (cmdBezelSetQuota h b g k r x n).2.act s =
    cmdOut ((s.onBezel b fun z => { z with grants := g, poolSlots := k, rules := r, subBase := x, subCount := n }).store 0x23 b) := by
  simp only [cmdBezelSetQuota, hb, if_false]

theorem cmdBezelSetDmaWindow_argOk (hb : s.bezelServes b = true) (hi : i < 16) (hx : windowOk x n = true)
    (hz : b = 0 → (s.bezel 0).windows.isEmpty = false) : (cmdBezelSetDmaWindow h b i x n).2.argOk s = true := by
  by_cases h0 : b = 0
  · subst h0
    simp [cmdBezelSetDmaWindow, hb, hi, hx, hz rfl]
  · simp [cmdBezelSetDmaWindow, hb, hi, hx, h0]

theorem cmdBezelSetDmaWindow_act (hn : n ≠ 0) : (cmdBezelSetDmaWindow h b i x n).2.act s =
    cmdOut ((s.onBezel b fun z => { z with windows := z.windows.put i { base := x, size := n } }).store 0x23 b) := by
  simp only [cmdBezelSetDmaWindow, hn, if_false]

theorem cmdBezelSetFlags_argOk {f : Nat} (hb : s.bezelServes b = true) (hf : f ≤ 1) : (cmdBezelSetFlags h b f).2.argOk s = true := by
  simp [cmdBezelSetFlags, hb, hf]

theorem cmdBezelSetFlags_check {f : Nat} (hf : f = 0 → ((List.range 256).any fun p => s.portOwner p = b && (s.port p).eee) = false) :
    ((cmdBezelSetFlags h b f).2.check s).status = .ok := by
  by_cases h0 : f = 0
  · simp only [cmdBezelSetFlags, hf h0, Bool.and_false]
    rfl
  · simp [cmdBezelSetFlags, judge, h0]

theorem cmdBezelRelease_argOk {k : Nat} (h1 : 1 ≤ b) (hb : s.bezelServes b = true) (hk : k ≤ 3) : (cmdBezelRelease h b k i).2.argOk s = true := by
  simp [cmdBezelRelease, h1, hb, hk]

theorem cmdBezelRelease_act {k : Nat} : (cmdBezelRelease h b k i).2.act s = cmdOut (s.releaseMaster b k i) := rfl

theorem cmdBezelRelease_check_agent (hf : (3 * 65536 + i) ∈ (s.bezel b).frozen) : ((cmdBezelRelease h b 3 i).2.check s).status = .ok := by
  simp [cmdBezelRelease, judge, hf]

theorem cmdBezelRelease_check_function (hf : (s.fn b).frozen = true) : ((cmdBezelRelease h b 0 i).2.check s).status = .ok := by
  simp [cmdBezelRelease, judge, hf]

theorem cmdBezelReadStatus_check (hown : h.fn = 0 ∨ h.fn = b) (hb : (s.bezel b).present = true) : ((cmdBezelReadStatus h b).2.check s).status = .ok := by
  simp [cmdBezelReadStatus, judgeOwned, judge, hown, hb]

/-- What bezel.read_status writes (R401, R406). -/
def bezelStatusRec (s : State) (b : Nat) : Rec :=
  let z := s.bezel b
  [fld 32 z.subBase, fld 32 z.subCount, fld 32 (s.quota 0 b), fld 16 (s.quota 1 b), fld 16 (s.quota 2 b),
    fld 64 (s.sta.reserve.look 0 b), fld 32 (s.tmBez b).reserve, fld 32 (s.tmBez b).cap, bit z.nonTiming, bit z.isolated, bit (s.fn b).frozen, rsv 5,
    fld 8 (s.isoFail b)]
    ++ ((List.range 16).flatMap fun n => let w := z.windows.look {} n; [fld 64 w.base, fld 64 w.size])
    ++ (List.range 256).map fun p => bit (s.portOwner p = b)

theorem bezelStatusRec_bytes (s : State) (b : Nat) : (bezelStatusRec s b).bytes = 322 := by
  have hports : Rec.bits ((List.range 256).map fun p => bit (s.portOwner p = b)) = 256 := by
    rw [List.map_eq_flatMap, bits_flatMap _ _ 1 fun _ _ => rfl, List.length_range]
  have hwindows : Rec.bits ((List.range 16).flatMap fun n => let w := (s.bezel b).windows.look {} n; [fld 64 w.base, fld 64 w.size]) = 2048 := by
    rw [bits_flatMap _ _ 128 fun _ _ => rfl, List.length_range]
  rw [Rec.bytes, bezelStatusRec, bits_append, bits_append, hports, hwindows]
  simp [Rec.bits, fld, bit, rsv]

/-! ### Creation and a port that changes hands -/

/-- A new tenant has its row and keys, and its counters start at zero. -/
theorem bezelCreate_creates (hr : ready { op := 0x2301, plen := 12, mirrored := true } h s = true) (h1 : 1 ≤ b) (h64 : b < 64)
    (hx : subRangeOk x n = true) (hkek : (s.key 2).st = .valid) (hfree : (s.bezel b).present = false) (hover : s.subOverlap b x n = false)
    (hpool : s.quotaBad 1 b 32 = false) (hrules : s.quotaBad 2 b 256 = false) (hres : s.sta.reserve.look 0 b = 0) :
    Does (.bezelCreate h b x n) s fun t => Answers h s t .ok [] [] ∧ MailboxFrame h s t ∧ MgmtFrame s t ∧
      t = { s with bez := t.bez, keys := t.keys, tse := t.tse, free := t.free, loupe := t.loupe, mbx := t.mbx, mgmt := t.mgmt } ∧
      t.bezel b = { present := true, subBase := x, subCount := n } ∧ (∀ k ∈ fixedSlots b, (t.key k).st = .valid) ∧
      (∀ i, i < 32 → t.loupe.ctr.look 0 ((256 + b) * 32 + i) = 0) ∧ (∀ k, k ∉ fixedSlots b → t.key k = s.key k) := by
  have hmade := createBezel_created (s := s.fetchedFor (cmdBezelCreate h b x n).1 h) (b := b) (x := x) (n := n) hres
  have hfn : h.fn = 0 := operator_of_ready rfl hr
  have hact := cmdBezelCreate_act (s := s.fetchedFor (cmdBezelCreate h b x n).1 h) (h := h) (b := b) (x := x) (n := n)
  generalize (((s.fetchedFor (cmdBezelCreate h b x n).1 h).newRow b x n).makeRoots b).isolate.store 0x23 b = o at *
  obtain ⟨hcalm, hrest, hrow, hvalid, hkept⟩ := hmade
  obtain ⟨t, ht, ⟨hanswers, hmailbox, hmgmt, ⟨-, hctr⟩, hend⟩, -⟩ := runCommand_loupe (acc := State.accepted) (i := .bezelCreate h b x n)
    (b := (cmdBezelCreate h b x n).2) (LoupeSt.zeroed b) hr (cmdBezelCreate_argOk h1 h64 hx) (cmdBezelCreate_check hkek hfree hover hpool hrules) hact rfl hcalm
    (congrArg State.pending hrest :)
  have hkeys : ∀ k, t.key k = o.key k := fun k => (congrArg (fun y : State => y.key k) hend :)
  refine ⟨t, ht, hanswers, hmailbox, hmgmt, ?_, ?_, fun k hk => ?_, fun i hi => ?_, fun k hk => ?_⟩
  · rw [hend, hrest]
    rfl
  · exact (congrArg (fun y : State => y.bezel b) hend).trans hrow
  · rw [hkeys]
    exact hvalid k hk
  · rw [hctr _ (by omega)]
    exact LoupeSt.zeroed_ctr b s.loupe hi
  · rw [hkeys, hkept k hk]
    rfl

/-- A port that changes hands is cleared, and its bank is granted to nobody. -/
theorem bezelAssignPort_assigns (hr : ready { op := 0x2303, plen := 3, mirrored := true } h s = true) (hp : p < 256) (hb : s.bezelServes b = true)
    (ho : s.portOwner p = 0 ∨ b = 0) (hne : s.portOwner p ≠ b) (hst : (s.port p).st = .disabled)
    (hrings : (s.ports.rings.any fun q => q.2.port = p) = false) (hn : s.nrefUses p = false) (hv : s.vtapUses p = false) (hprp : s.portInPrp p = false)
    (hla : s.laTxUses p = false) :
    Does (.bezelAssignPort h p b) s fun t => Answers h s t .ok [] [] ∧ MailboxFrame h s t ∧ MgmtFrame s t ∧
      t = { s with bez := t.bez, ports := t.ports, tse := t.tse, loupe := t.loupe, mbx := t.mbx, mgmt := t.mgmt } ∧ t.portOwner p = b ∧
      (∀ k, k ≠ p → t.portOwner k = s.portOwner k) ∧ t.port p = { s.port p with addrs := [], filters := [] } ∧ (∀ k, k ≠ p → t.port k = s.port k) ∧
      (t.loupe.banks.look {} p).grantee = none := by
  have hact := cmdBezelAssignPort_act (s := s.fetchedFor (cmdBezelAssignPort h p b).1 h) (h := h) (p := p) (b := b) hne
  have hover := assignPort_handedOver (s.fetchedFor (cmdBezelAssignPort h p b).1 h) p b
  have howner := assignPort_bez (s.fetchedFor (cmdBezelAssignPort h p b).1 h) p b
  generalize (((s.fetchedFor (cmdBezelAssignPort h p b).1 h).clearPort p).onBez (.assign p b)).store 0x23 b = o at *
  obtain ⟨hcalm, hrest, hport, hothers⟩ := hover
  obtain ⟨t, ht, ⟨hanswers, hmailbox, hmgmt, ⟨hbanks, -⟩, hend⟩, -⟩ := runCommand_loupe (acc := State.accepted) (i := .bezelAssignPort h p b)
    (b := (cmdBezelAssignPort h p b).2) (fun l => { l with
      banks := l.banks.upd {} p fun k => { k with grantee := none }, armed := l.armed.filter fun q => q.1 / 32 != p })
    hr (cmdBezelAssignPort_argOk hp hb ho) (cmdBezelAssignPort_check hst hrings hn hv hprp hla) hact rfl hcalm (congrArg State.pending hrest :)
  have hown : ∀ k, t.portOwner k = if k = p then b else s.portOwner k := fun k => by
    have hbez : t.bez = o.bez := (congrArg State.bez hend :)
    rw [State.portOwner, hbez, howner, assign_portOwner]
    rfl
  refine ⟨t, ht, hanswers, hmailbox, hmgmt, ?_, ?_, fun k hk => ?_, ?_, fun k hk => ?_, ?_⟩
  · rw [hend, hrest]
    rfl
  · rw [hown, if_pos rfl]
  · rw [hown, if_neg hk]
  · exact (congrArg (fun y : State => y.port p) hend).trans hport
  · exact (congrArg (fun y : State => y.port k) hend).trans (hothers k hk)
  · rw [hbanks]
    exact congrArg LoupeBank.grantee (Tab.look_upd_self s.loupe.banks {} p fun k => { k with grantee := none })

/-! ### Deletion and release -/

/-- A tenant that holds nothing but its row and keys is gone. -/
theorem bezelDelete_deletes (hr : ready { op := 0x2302, plen := 1, mirrored := true, action := true } h s = true) (h1 : 1 ≤ b) (h64 : b < 64)
    (hb : s.bezelServes b = true) (hvacant : s.Vacant) :
    ∃ t, exec (.bezelDelete h b) s = .next t ∧ Answers h s t .ok [] [] ∧ ∃ o, Deleted b (s.fetchedFor (cmdBezelDelete h b).1 h) o ∧
      t = { o with mbx := t.mbx, mgmt := t.mgmt, loupe := t.loupe } := by
  have hfn : h.fn = 0 := operator_of_ready rfl hr
  have hne : h.fn ≠ b := by omega
  have hdeleted := (deleteBezel_deleted (fetchedFor_vacant hvacant (cmdBezelDelete h b).1 h) (fetchedFor_untransacted hr b) (by omega)).store 0x23 b
  have hact := cmdBezelDelete_act (s := s.fetchedFor (cmdBezelDelete h b).1 h) (h := h) (b := b)
  generalize ((s.fetchedFor (cmdBezelDelete h b).1 h).deleteBezel b).store 0x23 b = o at *
  have hleft := hdeleted.departing
  obtain ⟨t, ht, hanswered⟩ := runCommand_answered (acc := State.accepted) (i := .bezelDelete h b) (b := (cmdBezelDelete h b).2) hr
    (cmdBezelDelete_argOk h1 h64) (cmdBezelDelete_check hb) hact rfl hleft.epoch hleft.pending (hleft.fns h.fn hne)
  exact ⟨t, ht, hanswered.answers, o, hdeleted, hanswered.rest⟩

/-- A frozen function that is released is reset and runs again. -/
theorem bezelRelease_function (hr : ready { op := 0x2307, plen := 4, action := true } h s = true) (h1 : 1 ≤ b) (hb : s.bezelServes b = true)
    (hf : (s.fn b).frozen = true) (hjobs : s.sta.jobs = []) :
    Does (.bezelRelease h b 0 i) s fun t => Answers h s t .ok [] [] ∧ (t.fn b).frozen = false ∧ (t.fn b).cplEn = false ∧ (t.fn b).evtEn = false ∧
      ((t.fn b).queues.all fun q => !q.2.en && q.2.inflight.isEmpty && q.2.txn.isNone) = true ∧ t.tc = s.tc ∧ t.pwr = s.pwr ∧ t.bez = s.bez := by
  have hfn : h.fn = 0 := operator_of_ready rfl hr
  have hne : h.fn ≠ b := by omega
  have hfree : (s.fetchedFor (cmdBezelRelease h b 0 i).1 h).untransacted b := fetchedFor_untransacted hr b
  have hact := cmdBezelRelease_act (s := s.fetchedFor (cmdBezelRelease h b 0 i).1 h) (h := h) (b := b) (i := i) (k := 0)
  rw [releaseMaster_function (s := s.fetchedFor (cmdBezelRelease h b 0 i).1 h) hjobs i] at hact
  have hother := releasedFn_fn_other (s.fetchedFor (cmdBezelRelease h b 0 i).1 h) hne
  obtain ⟨htc, hpwr, hbez, hpending⟩ := releasedFn_blocks (s.fetchedFor (cmdBezelRelease h b 0 i).1 h) b
  obtain ⟨hcpl, hevt, hqueues, hthawed⟩ := releasedFn_idle hfree
  have hep := releasedFn_epoch hfree
  have hcheck : ((cmdBezelRelease h b 0 i).2.check (s.fetchedFor (cmdBezelRelease h b 0 i).1 h)).status = .ok :=
    cmdBezelRelease_check_function (by rw [fetchedFor_fn_other _ _ _ hne.symm, hf])
  generalize (s.fetchedFor (cmdBezelRelease h b 0 i).1 h).releasedFn b = o at *
  obtain ⟨t, ht, hanswered⟩ := runCommand_answered (acc := State.accepted) (i := .bezelRelease h b 0 i) (b := (cmdBezelRelease h b 0 i).2) hr
    (cmdBezelRelease_argOk h1 hb (Nat.zero_le 3)) hcheck hact rfl hep hpending (by rw [hother]; rfl)
  refine ⟨t, ht, hanswered.answers, ?_, ?_, ?_, ?_, (congrArg State.tc hanswered.rest).trans htc, (congrArg State.pwr hanswered.rest).trans hpwr,
    (congrArg State.bez hanswered.rest).trans hbez⟩ <;> rw [hanswered.fns b hne.symm]
  · exact hthawed
  · exact hcpl
  · exact hevt
  · exact hqueues

/-- What the release of an agent with one exchange leaves. -/
structure AgentReleased (b i : Nat) (s t : State) : Prop where
  rest : t = { s with bez := t.bez, tse := t.tse, tm := t.tm, loupe := t.loupe }
  works : t.tse.works = []
  row : t.bezel b = { s.bezel b with frozen := (s.bezel b).frozen.filter (· != 3 * 65536 + i) }
  others : ∀ j, j ≠ b → t.bezel j = s.bezel j

theorem AgentReleased.fn (hk : AgentReleased b i s t) (c : Nat) : t.fn c = s.fn c := (congrArg (fun y : State => y.fn c) hk.rest :)

theorem releaseMaster_agentReleased {w : Work} (hw : s.tse.works = [w]) (hi : w.service = i) (hb : w.bezel = b) :
    AgentReleased b i s (s.releaseMaster b 3 i) := by
  rw [releaseMaster_agent_work hw hi hb]
  have hself := onBezel_bezel_self s b fun z => { z with frozen := z.frozen.filter (· != 3 * 65536 + i) }
  have hother := fun j (hj : j ≠ b) => onBezel_bezel_other s (fun z => { z with frozen := z.frozen.filter (· != 3 * 65536 + i) }) hj
  have hrest : (s.onBezel b fun z => { z with frozen := z.frozen.filter (· != 3 * 65536 + i) }) =
      { s with bez := (s.onBezel b fun z => { z with frozen := z.frozen.filter (· != 3 * 65536 + i) }).bez } := rfl
  generalize (s.onBezel b fun z => { z with frozen := z.frozen.filter (· != 3 * 65536 + i) }) = v at *
  have hdropped := dropWork_rest v w
  have hworks := dropWork_works v w
  generalize v.dropWork w = o at *
  have hbez : o.bez = v.bez := (congrArg State.bez hdropped :)
  refine ⟨?_, ?_, (bezel_congr hbez b).trans hself, fun j hj => (bezel_congr hbez j).trans (hother j hj)⟩
  · rw [hdropped, hrest]
  · have hone : v.tse.works = [w] := by rw [hrest, hw]
    rw [hworks, hone]
    simp

/-- A frozen agent with one exchange under way is released, and the exchange ends. -/
theorem bezelRelease_agent_work {w : Work} (hr : ready { op := 0x2307, plen := 4, action := true } h s = true) (h1 : 1 ≤ b) (hb : s.bezelServes b = true)
    (hf : (3 * 65536 + i) ∈ (s.bezel b).frozen) (hw : s.tse.works = [w]) (hi : w.service = i) (hwb : w.bezel = b) :
    Does (.bezelRelease h b 3 i) s fun t => Answers h s t .ok [] [] ∧
      t = { s with bez := t.bez, tse := t.tse, tm := t.tm, loupe := t.loupe, mbx := t.mbx, mgmt := t.mgmt } ∧ t.tse.works = [] ∧
      t.bezel b = { s.bezel b with frozen := (s.bezel b).frozen.filter (· != 3 * 65536 + i) } ∧ (∀ j, j ≠ b → t.bezel j = s.bezel j) := by
  have hreleased := releaseMaster_agentReleased (s := s.fetchedFor (cmdBezelRelease h b 3 i).1 h) hw hi hwb
  have hact := cmdBezelRelease_act (s := s.fetchedFor (cmdBezelRelease h b 3 i).1 h) (h := h) (b := b) (i := i) (k := 3)
  generalize (s.fetchedFor (cmdBezelRelease h b 3 i).1 h).releaseMaster b 3 i = o at *
  have hfns := hreleased.fn
  obtain ⟨hrest, hworks, hrow, hothers⟩ := hreleased
  have hmbx : o.mbx = (s.fetchedFor (cmdBezelRelease h b 3 i).1 h).mbx := (congrArg State.mbx hrest :)
  have hep : o.mbx.epoch = s.mbx.epoch := by rw [hmbx, fetchedFor_epoch]
  obtain ⟨t, ht, hanswered⟩ := runCommand_answered (acc := State.accepted) (i := .bezelRelease h b 3 i) (b := (cmdBezelRelease h b 3 i).2) hr
    (cmdBezelRelease_argOk h1 hb (le_refl 3)) (cmdBezelRelease_check_agent hf) hact rfl hep (congrArg State.pending hrest :) (by rw [hfns]; rfl)
  have hbez : t.bez = o.bez := (congrArg State.bez hanswered.rest :)
  refine ⟨t, ht, hanswered.answers, ?_, ?_, (bezel_congr hbez b).trans hrow, fun j hj => (bezel_congr hbez j).trans (hothers j hj)⟩
  · rw [hanswered.rest, hrest]
    rfl
  · rw [hanswered.rest]
    exact hworks

end

/-- Settles O33: settings by the row they write, a creation and a port by what they clear, a deletion and a release step by step. -/
theorem bezelCommands : Obligations.BezelCommands := by
  unfold Obligations.BezelCommands
  refine ⟨fun h s b x n hr h1 h64 hx hkek hfree hover hpool hrules hres => ?create,
    fun h s b hr h1 h64 hb hf hrings hgrants hworks hinputs hconns howner hjobs => ?delete,
    fun h s p b hr hp hb ho hne hst hrings hn hv hprp hla => bezelAssignPort_assigns hr hp hb ho hne hst hrings hn hv hprp hla,
    fun h s b g k r x n hr hb0 hb hx hover hout hg hk hrules => ?quota,
    fun h s b i x n hr hb hi hx hn hz => ?window,
    fun h s b f hr hb hf hport => ?flags,
    fun h s b i hr h1 hb hf hnone => ?agent,
    fun h s b i hr h1 hb hf _ hjobs => bezelRelease_function hr h1 hb hf hjobs,
    fun h s b hr h64 hown hb hx => ?readStatus,
    fun h s b i w hr h1 hb hf hw hi hwb => bezelRelease_agent_work hr h1 hb hf hw hi hwb⟩
  case create =>
    refine (bezelCreate_creates hr h1 h64 hx hkek hfree hover hpool hrules hres).imp fun t ht => ?_
    obtain ⟨hanswers, hmailbox, hmgmt, hrest, hrow, hvalid, hctr, hkept⟩ := ht
    refine ⟨hanswers, hmailbox, hmgmt, hrest, hrow, hvalid _ ?_, hvalid _ ?_, hvalid _ ?_, hvalid _ ?_, hctr, fun k hk => hkept k ?_⟩
    · simp [fixedSlots]
    · simp [fixedSlots]
    · simp [fixedSlots]
    · simp [fixedSlots]
    · simp only [fixedSlots, List.mem_cons, List.not_mem_nil, or_false, not_or]
      omega
  case delete =>
    obtain ⟨t, ht, hanswers, o, hdeleted, hrest⟩ := bezelDelete_deletes hr h1 h64 hb ⟨hrings, hgrants, hworks, hinputs, hconns, howner, hjobs⟩
    obtain ⟨hleft, hgone, hpresent, hkeys, hreserve, hrules⟩ := hdeleted
    refine ⟨t, ht, hanswers, ?_, ?_, ?_, ?_, (congrArg State.tc hrest).trans hleft.tc, (congrArg State.ref hrest).trans hleft.ref,
      (congrArg State.pwr hrest).trans hleft.pwr, (congrArg State.out hrest).trans hleft.out, ?_⟩ <;> rw [hrest]
    · exact hgone
    · exact hkeys
    · exact hreserve
    · exact hrules
    · exact hpresent
  case quota =>
    refine runCommand_bezels hr (cmdBezelSetQuota_argOk hb hx) (cmdBezelSetQuota_check hover hout hg hk hrules) (cmdBezelSetQuota_act hb0) rfl
      (((BezelsOnly.refl _).onBezel _ _).store _ _) fun t hbez => ⟨?_, fun j hj => ?_⟩
    · exact (bezel_congr hbez b).trans (onBezel_bezel_self _ _ _)
    · exact (bezel_congr hbez j).trans (onBezel_bezel_other _ _ hj)
  case window =>
    refine runCommand_bezels hr (cmdBezelSetDmaWindow_argOk hb hi hx hz) rfl (cmdBezelSetDmaWindow_act hn) rfl
      (((BezelsOnly.refl _).onBezel _ _).store _ _) fun t hbez => ?_
    have hself := (bezel_congr hbez b).trans (onBezel_bezel_self _ _ _)
    rw [hself]
    exact ⟨Tab.look_put_self _ _ _ _, rfl, fun j hj => Tab.look_put_other _ _ _ hj.symm,
      fun j hj => (bezel_congr hbez j).trans (onBezel_bezel_other _ _ hj)⟩
  case flags =>
    refine runCommand_bezels hr (cmdBezelSetFlags_argOk hb hf) (cmdBezelSetFlags_check hport) rfl rfl
      (((BezelsOnly.refl _).onBezel _ _).store _ _) fun t hbez => ⟨?_, fun j hj => ?_⟩
    · exact (bezel_congr hbez b).trans (onBezel_bezel_self _ _ _)
    · exact (bezel_congr hbez j).trans (onBezel_bezel_other _ _ hj)
  case agent =>
    refine runCommand_bezels hr (cmdBezelRelease_argOk h1 hb (le_refl 3)) (cmdBezelRelease_check_agent hf)
      (congrArg cmdOut (releaseMaster_agent hnone)) rfl ((BezelsOnly.refl _).onBezel _ _) fun t hbez => ⟨?_, fun j hj => ?_⟩
    · exact (bezel_congr hbez b).trans (onBezel_bezel_self _ _ _)
    · exact (bezel_congr hbez j).trans (onBezel_bezel_other _ _ hj)
  case readStatus =>
    obtain ⟨t, ht, hcompletes⟩ := runCommand_reads (acc := State.accepted) (i := .bezelReadStatus h b) (b := (cmdBezelReadStatus h b).2)
      (result := [bit (s.bezel b).isolated, rsv 7]) (xb := bezelStatusRec (s.fetchedFor (cmdBezelReadStatus h b).1 h) b) hr (decide_eq_true h64)
      (cmdBezelReadStatus_check hown hb) rfl fun _ => by rw [bezelStatusRec_bytes]; omega
    refine ⟨t, ht, ?_, ?_⟩ <;> rw [hcompletes.1.lastXb]
    · exact hcompletes
    · rfl

end Sys2Proof.Machine
end
